-- ==== Sys2Proof/Word.lean ====
section
/-! DEFINITION. Words and the small index types of the LS340: station addresses, handles, positions, budgets. -/

namespace Sys2Proof

/-- One byte of the staging buffer, of a frame payload or of an image (R192). -/
abbrev Byte := BitVec 8

/-- A station address, 0 to 15 (00_scope.md, 4.7). -/
abbrev Addr := Fin 16

/-- A slot number, which is a record's handle, 0 to 31 (R10). -/
abbrev Handle := Fin 32

/-- A position index within a station, 0 to 7 (R21). -/
abbrev PosIx := Fin 8

/-- A budget: 0 LAMP, 1 VAPOUR, 2 HEAT (00_scope.md, 4.7). -/
abbrev BudgetIx := Fin 3

/-- Three values, one per budget: capacities or draws. -/
abbrev Triple := Vector Nat 3

/-- All handles in increasing order. -/
def handles : List Handle := List.finRange 32

/-- All position indices in increasing order. -/
def positions : List PosIx := List.finRange 8

/-- All station addresses in increasing order. -/
def addresses : List Addr := List.finRange 16

/-- The three budgets in increasing order. -/
def budgets : List BudgetIx := List.finRange 3

end Sys2Proof
end

