-- ==== Sys2Proof/Syntax.lean ====
section
/-! DEFINITION. The commands of the LS340: one constructor per row of spec/opcode_table.json, with the operands the row's rule gives it. -/

namespace Sys2Proof

/-- The role strapped at reset (R163). -/
inductive Role where
  | expose | wash | dry | finish
  deriving DecidableEq, Repr

/-- The frame kinds that have a code (R75, 10.3). -/
inductive FrameKind where
  | depart | leave | release | capacity | claim | taken | reject | booked | refused | found
  | book | cancel | locate | carry | join | snapHead | snapPart | presence
  deriving DecidableEq, Repr

/-- The commands. A `<frame>Appears` command carries the sender's address, the destination field and the payload bytes as
read from the pair; a `sender` equal to the strapped address is this station itself. Positions and handles of timer
expiries and pin edges are in range by type; the argument fields of port commands are the raw bytes of the frame. -/
inductive Instr where
  -- reset, power, retention (R163, R169, R171, R172)
  | reset (address : Addr) (role : Role) (rate : BitVec 2)
  | powerFailWarning
  | pfwDeasserted
  | retentionWrite
  | retentionWriteEnd
  -- edges and clocks of a position (R34 to R41)
  | dosePulse (p : PosIx)
  | ilkOpen (p : PosIx)
  | ilkClose (p : PosIx)
  | runClockSecond (p : PosIx)
  | pauseClockSecond (p : PosIx)
  | lampSilent (p : PosIx)
  | doseShort (p : PosIx)
  -- expiries of the station's timers
  | gapTimer (h : Handle)
  | stallTimer
  | departureTimer (a : Addr)
  | presenceTimer
  | joinWait
  | snapshotPartGap
  | backingOff
  | answerTimer (h : Handle)
  | bookingLapse (p : PosIx)
  | partGap (p : PosIx)
  | handOffTimer (h : Handle)
  | locateTimer (h : Handle)
  -- the pair (R76 to R84)
  | transmissionStart
  | arbitrationLost
  | frameVoid (sender : Addr) (foundError : Bool)
  | frameErrorListenOnly (sender : Addr)
  -- appearances (R80)
  | departAppears (sender : Addr) (dest : BitVec 5) (payload : List Byte)
  | leaveAppears (sender : Addr) (dest : BitVec 5) (payload : List Byte)
  | releaseAppears (sender : Addr) (dest : BitVec 5) (payload : List Byte)
  | capacityAppears (sender : Addr) (dest : BitVec 5) (payload : List Byte)
  | claimAppears (sender : Addr) (dest : BitVec 5) (payload : List Byte)
  | takenAppears (sender : Addr) (dest : BitVec 5) (payload : List Byte)
  | rejectAppears (sender : Addr) (dest : BitVec 5) (payload : List Byte)
  | bookedAppears (sender : Addr) (dest : BitVec 5) (payload : List Byte)
  | refusedAppears (sender : Addr) (dest : BitVec 5) (payload : List Byte)
  | foundAppears (sender : Addr) (dest : BitVec 5) (payload : List Byte)
  | bookAppears (sender : Addr) (dest : BitVec 5) (payload : List Byte)
  | cancelAppears (sender : Addr) (dest : BitVec 5) (payload : List Byte)
  | locateAppears (sender : Addr) (dest : BitVec 5) (payload : List Byte)
  | carryAppears (sender : Addr) (dest : BitVec 5) (payload : List Byte)
  | joinAppears (sender : Addr) (dest : BitVec 5) (payload : List Byte)
  | snapHeadAppears (sender : Addr) (dest : BitVec 5) (payload : List Byte)
  | snapPartAppears (sender : Addr) (dest : BitVec 5) (payload : List Byte)
  | presenceAppears (sender : Addr) (dest : BitVec 5) (payload : List Byte)
  | undefinedFrameAppears (sender : Addr) (dest : BitVec 5) (kind : BitVec 5) (payload : List Byte)
  -- the machine port (R178 to R191, 10.4)
  | portFrameShort (bits : Nat)
  | portCrcError
  | unknownCommand (code : Byte)
  | nop
  | stageWrite (index first second : Byte)
  | stageRead (index : Byte)
  | configWrite (item : Byte) (value : BitVec 16)
  | configClose
  | register
  | arrived (position : Byte) (seq : BitVec 16)
  | removed (position : Byte)
  | hold (handle : Byte)
  | concession (handle : Byte)
  | scrap (handle : Byte)
  | adopt (handle : Byte)
  | rush (handle : Byte)
  | readRecord (handle : Byte)
  | readPosition (position : Byte)
  | readBudget (budget : Byte)
  | readPeer (address : Byte)
  | readStation (part : Byte)
  | readEvent
  | readAlarms
  | capacity (budget : Byte) (units : BitVec 16)
  | leave
  | join
  deriving DecidableEq, Repr

end Sys2Proof
end

