-- ==== Sys2Proof/Machine/Bytes.lean ====
section
/-! DEFINITION. Byte order, the CRC of R192 and the codes of the line frames and roles (10.1, 10.3). -/

namespace Sys2Proof.Machine

/-- The bits of a word, most significant bit first (R192). -/
def bitsOf {w : Nat} (x : BitVec w) : List Bool := (List.range w).map fun i => x.getMsbD i

/-- The bits of a byte string, most significant bit of the first byte first (R192). -/
def bitsOfBytes (bs : List Byte) : List Bool := bs.flatMap bitsOf

/-- The word a list of bits spells, first bit most significant. -/
def wordOfBits (w : Nat) (bits : List Bool) : BitVec w :=
  BitVec.ofNat w (bits.foldl (fun n b => 2 * n + b.toNat) 0)

/-- One bit fed into a CRC register: shift, and combine with the generator where the bit shifted out differs from the bit
fed in (R192). -/
def crcStep {w : Nat} (generator : BitVec w) (reg : BitVec w) (bit : Bool) : BitVec w :=
  if reg.msb = bit then reg <<< 1 else (reg <<< 1) ^^^ generator

/-- The CRC-16 of R192: x^16 + x^12 + x^5 + 1, register loaded with all ones, no final inversion. -/
def crc16Bits (bits : List Bool) : BitVec 16 := bits.foldl (crcStep 0x1021#16) 0xFFFF#16

/-- The CRC-8 of R192: x^8 + x^5 + x^4 + 1, register loaded with all ones. -/
def crc8Bits (bits : List Bool) : BitVec 8 := bits.foldl (crcStep 0x31#8) 0xFF#8

/-- The CRC-16 of a byte string. -/
def crc16 (bs : List Byte) : BitVec 16 := crc16Bits (bitsOfBytes bs)

/-- A 16-bit field as two bytes, most significant first (R192). -/
def bytes16 (x : BitVec 16) : List Byte := [x.extractLsb' 8 8, x.extractLsb' 0 8]

/-- A 24-bit field as three bytes. -/
def bytes24 (x : BitVec 24) : List Byte := [x.extractLsb' 16 8, x.extractLsb' 8 8, x.extractLsb' 0 8]

/-- A 32-bit field as four bytes. -/
def bytes32 (x : BitVec 32) : List Byte :=
  [x.extractLsb' 24 8, x.extractLsb' 16 8, x.extractLsb' 8 8, x.extractLsb' 0 8]

/-- A count as one byte. -/
def byte (n : Nat) : Byte := BitVec.ofNat 8 n

/-- A truth value as one byte, 0 or 1. -/
def byteOfBool (b : Bool) : Byte := if b then 1 else 0

/-- Two bytes as a 16-bit field. -/
def word16 (a b : Byte) : BitVec 16 := a ++ b

/-- Three bytes as a 24-bit field. -/
def word24 (a b c : Byte) : BitVec 24 := a ++ b ++ c

/-- Four bytes as a 32-bit field. -/
def word32 (a b c d : Byte) : BitVec 32 := a ++ b ++ c ++ d

/-- A byte as an index below n, or none: every range check of a one-byte field. -/
def finOf (n : Nat) (b : Byte) : Option (Fin n) := if h : b.toNat < n then some ⟨b.toNat, h⟩ else none

/-- The destination field that names a station. -/
def destOf (a : Addr) : BitVec 5 := BitVec.ofNat 5 a.val

/-- The destination field that names all stations (R74). -/
def destAll : BitVec 5 := 31

/-- The role codes of 10.1. -/
def roleCode : Role → Byte
  | .expose => 0 | .wash => 1 | .dry => 2 | .finish => 3

/-- The role a code names, none for a code with no meaning. -/
def roleOf (b : Byte) : Option Role :=
  match b.toNat with
  | 0 => some .expose | 1 => some .wash | 2 => some .dry | 3 => some .finish | _ => none

/-- The code of a frame kind (10.3). -/
def kindCode : FrameKind → BitVec 5
  | .depart => 1 | .leave => 2 | .release => 3 | .capacity => 4 | .claim => 5 | .taken => 6 | .reject => 7
  | .booked => 8 | .refused => 9 | .found => 10 | .book => 11 | .cancel => 12 | .locate => 13 | .carry => 14
  | .join => 15 | .snapHead => 16 | .snapPart => 17 | .presence => 18

/-- The frame kind a code names; codes 0 and 19 to 31 are undefined (10.3). -/
def frameKindOf (c : BitVec 5) : Option FrameKind :=
  match c.toNat with
  | 1 => some .depart | 2 => some .leave | 3 => some .release | 4 => some .capacity | 5 => some .claim
  | 6 => some .taken | 7 => some .reject | 8 => some .booked | 9 => some .refused | 10 => some .found
  | 11 => some .book | 12 => some .cancel | 13 => some .locate | 14 => some .carry | 15 => some .join
  | 16 => some .snapHead | 17 => some .snapPart | 18 => some .presence | _ => none

/-- The priority class of a frame kind (R75). -/
def kindPrio : FrameKind → BitVec 3
  | .depart => 0 | .leave => 0 | .release => 1 | .capacity => 1 | .claim => 2
  | .taken => 3 | .reject => 3 | .booked => 3 | .refused => 3 | .found => 3
  | .book => 4 | .cancel => 4 | .locate => 4 | .carry => 5 | .join => 6 | .snapHead => 6 | .snapPart => 6
  | .presence => 7

/-- The replicated kinds (R75). -/
def kindReplicated : FrameKind → Bool
  | .join => true | .leave => true | .depart => true | .claim => true | .release => true | .capacity => true
  | .taken => false | .reject => false | .booked => false | .refused => false | .found => false | .book => false
  | .cancel => false | .locate => false | .carry => false | .snapHead => false | .snapPart => false | .presence => false

/-- A frame's covered bits from the first bit of the head to the last payload bit (R74). -/
def frameBody (kind : FrameKind) (sender : Addr) (dest : BitVec 5) (payload : List Byte) : List Bool :=
  bitsOf (kindPrio kind) ++ bitsOf (BitVec.ofNat 4 sender.val) ++ bitsOf (kindCode kind) ++ bitsOf dest
    ++ bitsOf (BitVec.ofNat 5 payload.length) ++ bitsOfBytes payload

/-- The bits a sender drives: start mark (dominant, 0), body, CRC, void slot recessive, end mark recessive (R74). -/
def frameBits (kind : FrameKind) (sender : Addr) (dest : BitVec 5) (payload : List Byte) : List Bool :=
  let body := frameBody kind sender dest payload
  [false] ++ body ++ bitsOf (crc16Bits body) ++ [true] ++ List.replicate 8 true

end Sys2Proof.Machine
end

