-- ==== Sys2Proof/WellFormed.lean ====
section
/-! DEFINITION. Which commands can come about: the operand checks that the types of Syntax do not already make. -/

namespace Sys2Proof

/-- The command codes of 10.4. -/
def commandCodes : List Byte :=
  [0x00, 0x01, 0x02, 0x10, 0x11, 0x20, 0x21, 0x22, 0x23, 0x24, 0x25, 0x26, 0x27,
   0x30, 0x31, 0x32, 0x33, 0x34, 0x35, 0x36, 0x40, 0x41, 0x42]

/-- A payload is at most 16 bytes; a length field above 16 is a length error and never appears (R74, R78). -/
def payloadOk (payload : List Byte) : Bool := payload.length ≤ 16

/-- A command is well formed: a frame's payload fits, an undefined frame's code has no kind, a short port frame has fewer
than 40 bits (R179), an unknown command's code is not one of 10.4. -/
def WellFormed : Instr → Bool
  | .departAppears _ _ b | .leaveAppears _ _ b | .releaseAppears _ _ b | .capacityAppears _ _ b | .claimAppears _ _ b
  | .takenAppears _ _ b | .rejectAppears _ _ b | .bookedAppears _ _ b | .refusedAppears _ _ b | .foundAppears _ _ b
  | .bookAppears _ _ b | .cancelAppears _ _ b | .locateAppears _ _ b | .carryAppears _ _ b | .joinAppears _ _ b
  | .snapHeadAppears _ _ b | .snapPartAppears _ _ b | .presenceAppears _ _ b => payloadOk b
  | .undefinedFrameAppears _ _ k b => payloadOk b && (Machine.frameKindOf k).isNone
  | .portFrameShort n => n < 40
  | .unknownCommand c => !commandCodes.contains c
  | .reset .. | .powerFailWarning | .pfwDeasserted | .retentionWrite | .retentionWriteEnd
  | .dosePulse .. | .ilkOpen .. | .ilkClose .. | .runClockSecond .. | .pauseClockSecond .. | .lampSilent ..
  | .doseShort .. | .gapTimer .. | .stallTimer | .departureTimer .. | .presenceTimer | .joinWait | .snapshotPartGap
  | .backingOff | .answerTimer .. | .bookingLapse .. | .partGap .. | .handOffTimer .. | .locateTimer ..
  | .transmissionStart | .arbitrationLost | .frameVoid .. | .frameErrorListenOnly ..
  | .portCrcError | .nop | .stageWrite .. | .stageRead .. | .configWrite .. | .configClose | .register | .arrived ..
  | .removed .. | .hold .. | .concession .. | .scrap .. | .adopt .. | .rush .. | .readRecord .. | .readPosition ..
  | .readBudget .. | .readPeer .. | .readStation .. | .readEvent | .readAlarms | .capacity .. | .leave | .join => true

end Sys2Proof
end

