-- ==== Sys2Proof/Decode.lean ====
section
/-! DEFINITION. From bits to commands. The opcode table gives no row any bits, so `decodeTableWord` answers none; the two
bit forms the spec does give, a port transaction (R178, R179, 10.4) and a line frame (R74, R78, 10.3), are read here. -/

namespace Sys2Proof

/-- The command a table word spells: no row of spec/opcode_table.json has bits. -/
def decodeTableWord (_nbits _w : Nat) : Option Instr := none

/-- The command a port frame's code and argument stand for (10.4). Argument bits a command does not use are ignored
(R193). A code not listed there is an unknown command (R182). -/
def portCommand (code a2 a1 a0 : Byte) : Instr :=
  let v : BitVec 16 := a1 ++ a0
  match code.toNat with
  | 0x00 => .nop
  | 0x01 => .stageWrite a2 a1 a0
  | 0x02 => .stageRead a2
  | 0x10 => .configWrite a2 v
  | 0x11 => .configClose
  | 0x20 => .register
  | 0x21 => .arrived a2 v
  | 0x22 => .removed a2
  | 0x23 => .hold a2
  | 0x24 => .concession a2
  | 0x25 => .scrap a2
  | 0x26 => .adopt a2
  | 0x27 => .rush a2
  | 0x30 => .readRecord a2
  | 0x31 => .readPosition a2
  | 0x32 => .readBudget a2
  | 0x33 => .readPeer a2
  | 0x34 => .readStation a2
  | 0x35 => .readEvent
  | 0x36 => .readAlarms
  | 0x40 => .capacity a2 v
  | 0x41 => .leave
  | 0x42 => .join
  | _ => .unknownCommand code

/-- The forty bits of a frame, judged by its CRC-8 (R178, R179). -/
def portFrame (frame : List Bool) : Instr :=
  let covered := frame.take 32
  let at8 (i : Nat) : Byte := Machine.wordOfBits 8 ((frame.drop i).take 8)
  if Machine.crc8Bits covered = at8 32 then portCommand (at8 0) (at8 8) (at8 16) (at8 24) else .portCrcError

/-- The judgement of a transaction at the rise of CSN: fewer than 40 bits are discarded, and of 40 or more the last forty
are the frame (R179). -/
def portTransaction (bits : List Bool) : Instr :=
  if bits.length < 40 then .portFrameShort bits.length else portFrame (bits.drop (bits.length - 40))

/-- What a station finds wrong in a frame it read from the pair (R78). -/
inductive FrameError where
  | crcError
  | lengthError
  | badMark
  deriving DecidableEq, Repr

/-- The command of a frame of kind code `k` that appeared. -/
def appearance (k : BitVec 5) (sender : Addr) (dest : BitVec 5) (payload : List Byte) : Instr :=
  match Machine.frameKindOf k with
  | some .depart => .departAppears sender dest payload
  | some .leave => .leaveAppears sender dest payload
  | some .release => .releaseAppears sender dest payload
  | some .capacity => .capacityAppears sender dest payload
  | some .claim => .claimAppears sender dest payload
  | some .taken => .takenAppears sender dest payload
  | some .reject => .rejectAppears sender dest payload
  | some .booked => .bookedAppears sender dest payload
  | some .refused => .refusedAppears sender dest payload
  | some .found => .foundAppears sender dest payload
  | some .book => .bookAppears sender dest payload
  | some .cancel => .cancelAppears sender dest payload
  | some .locate => .locateAppears sender dest payload
  | some .carry => .carryAppears sender dest payload
  | some .join => .joinAppears sender dest payload
  | some .snapHead => .snapHeadAppears sender dest payload
  | some .snapPart => .snapPartAppears sender dest payload
  | some .presence => .presenceAppears sender dest payload
  | none => .undefinedFrameAppears sender dest k payload

/-- A payload of n bytes from its bits. -/
def payloadOf : Nat → List Bool → List Byte
  | 0, _ => []
  | n + 1, bits => Machine.wordOfBits 8 (bits.take 8) :: payloadOf n (bits.drop 8)

/-- A line frame as read from the pair, from the first bit of the head to the end mark (R74), checked as R78 gives. The
first bits are the class (3), the sender (4), the kind (5), the destination (5) and the length (5). The void slot bit is
not judged here (R79): a clean frame whose void slot is dominant is void all the same. -/
def lineFrame (bits : List Bool) : Except FrameError Instr :=
  let n := (Machine.wordOfBits 5 ((bits.drop 17).take 5)).toNat
  let sender := Machine.wordOfBits 4 ((bits.drop 3).take 4)
  if 16 < n then .error .lengthError
  else if Machine.crc16Bits (bits.take (22 + 8 * n)) ≠ Machine.wordOfBits 16 ((bits.drop (22 + 8 * n)).take 16) then
    .error .crcError
  else if (bits.drop (39 + 8 * n)).take 8 ≠ List.replicate 8 true then .error .badMark
  else .ok (appearance (Machine.wordOfBits 5 ((bits.drop 7).take 5)) sender.toFin
    (Machine.wordOfBits 5 ((bits.drop 12).take 5)) (payloadOf n (bits.drop 22)))

end Sys2Proof
end

