-- ==== Sys2Proof/Config.lean ====
section
/-! DEFINITION. What the spec leaves to the implementation: free values with no body, so that no proof can see them. -/

namespace Sys2Proof

/-- Where this station drives the void slot of its own frame, and that void is both the frame's eighth (R82) and the one
that brings the receive error count to 16 (R84), both faults ask for a detach at one event: which is taken first is not
stated. Log 10; safe. -/
opaque Config.txFaultFirst : Bool

/-- The tag of REJECT for a first CARRY part comes from the part's data (R151); a part with fewer than five data bytes
does not give all of it. The byte at each missing place is free. Log 17; safe. -/
opaque Config.shortTagByte : Nat → Byte

/-- READ_POSITION reports the run clock in two bytes of whole seconds (R194); what they show for a run clock of 65,536 s
or more is not stated. Applied to the clock's whole seconds. Log 21; safe. -/
opaque Config.wideRunClock : Nat → BitVec 16

/-- READ_PEER reports a departure timer in four bytes of ms, all ones when stopped (R194); what they show for a running
timer at or above that value is not stated. Applied to the timer. Log 22; safe. -/
opaque Config.widePeerTimer : Nat → BitVec 32

/-- READ_BUDGET reports the oldest waiting entry's draw and order in bytes 9 to 13 (R194); what they show where no entry
waits is not stated. Applied to the byte's place. Log 39; safe. -/
opaque Config.noWaitingByte : Nat → Byte

end Sys2Proof
end

