-- ==== Sys2Proof/Machine/State.lean ====
section
/-! DEFINITION. The state of one LS340, block by block (00_scope.md section 2), as plain data, and its value after reset. -/

namespace Sys2Proof.Machine

/-- The reasons the machine could stop with a fault. There is none: every event of the spec has a described effect on the
station (a response, a deviation, an alarm flag, a detach), and none stops it. Log 31. -/
inductive Fault where
  deriving DecidableEq, Repr

/-- The reasons the machine gives a command no meaning. -/
inductive Refusal where
  /-- Raised by the dispatch of a command whose meaning is not written; safe. No arm raises it now. -/
  | notModelled (mnemonic : String)
  deriving DecidableEq, Repr

/-! ### Plate records (01) -/

/-- A plate tag, origin.epoch.seq (R1). -/
structure Tag where
  origin : Addr
  epoch : BitVec 16
  seq : BitVec 16
  deriving DecidableEq, Repr

/-- The step kinds in canonical order (R6). -/
inductive StepKind where
  | back | main | wash | dry | post | detack
  deriving DecidableEq, Repr

/-- One entry of a step list (R7). -/
structure StepEntry where
  kind : StepKind
  target : BitVec 24
  timeLimit : Option (BitVec 16)
  maxGap : Option (BitVec 16)
  minGap : Option (BitVec 16)
  deriving DecidableEq, Repr

/-- The twelve record states (R8). -/
inductive RecState where
  | queued | placed | inbound | loaded | waiting | running | paused | ended | outbound | uncertain | finished | held
  deriving DecidableEq, Repr

/-- The deviation kinds (R56). -/
inductive DevKind where
  | gapExceeded | doseShort | lampSilent | pauseLimit | removedEarly | lineLost | powerInterrupt | handoffRejected
  | claimOversize | operatorHold | adopted
  deriving DecidableEq, Repr

/-- One deviation entry (R1, R55). -/
structure Deviation where
  kind : DevKind
  stepIndex : Nat
  value : BitVec 24
  deriving DecidableEq, Repr

/-- The booking state of a record as booker (R139): none; asking candidate `k` (1 to 4) at an address; or held at the
receiver, which reserved a position there. -/
inductive BookerState where
  | none
  | asking (k : Nat) (candidate : Addr)
  | held (receiver : Addr) (position : PosIx)
  deriving DecidableEq, Repr

/-- A transfer in progress at the booker (R150): the image composed at its start, the index of the part to be sent or
being sent, and the part count. -/
structure CarryOut where
  image : List Byte
  next : Nat
  count : Nat
  deriving DecidableEq, Repr

/-- A plate record (R1, R51) with the items the station keeps beside it: the gap timer's fraction (R52), the booking
state (R139), the exhausted-round mark (R143), the hand-off unit's timers (R140, R150, R157), the transfer (R150) and the
address an UNCERTAIN record was sent toward (R156). -/
structure Record where
  tag : Tag
  jobRef : BitVec 32
  rush : Bool
  steps : List StepEntry
  current : Nat
  accumulated : BitVec 24
  gapElapsed : Option (BitVec 24)
  gapConceded : Bool
  gapOpen : Bool
  pauseTotal : BitVec 16
  state : RecState
  heldFrom : Option RecState
  position : Option PosIx
  deviations : List Deviation
  overflow : Bool
  adoptedFrom : Option Tag
  gapFrac : Nat
  booking : BookerState
  exhausted : Bool
  answerTimer : Option Nat
  handOffTimer : Option Nat
  locateTimer : Option Nat
  carry : Option CarryOut
  sentToward : Option Addr
  deriving DecidableEq, Repr

/-- A slot is free, reserved by a booking this station holds as receiver, or holds a record (R10). -/
inductive SlotState where
  | free
  | reserved
  | inUse (r : Record)
  deriving DecidableEq, Repr

/-- A frame that waits for a slot's origin to become free (R86, R140, R146, R148, R150). What it carries is composed when
it is queued (R141), but for a CANCEL, which keeps its tag and addressee. -/
inductive SlotWait where
  | book
  | renewal
  | cancel (tag : Tag) (dest : Addr)
  | part
  | locate
  deriving DecidableEq, Repr

/-- A slot with the frames waiting for its origin, first to be queued first. -/
structure Slot where
  state : SlotState
  waits : List SlotWait
  deriving DecidableEq, Repr

/-- The record store with the window and hold logic's station-wide items (R4, R9, R11, R13, R63). -/
structure Store where
  slots : Vector Slot 32
  freeList : List Handle
  rushQueue : List Handle
  ordinaryQueue : List Handle
  seqCounter : BitVec 16
  lowIndication : Bool
  attempts : Nat
  deriving DecidableEq, Repr

/-! ### Positions (02) -/

/-- The position states (R21). -/
inductive PosState where
  | empty | booked | assigned | occupied | clearing
  deriving DecidableEq, Repr

/-- The claim states (R130). -/
inductive ClaimState where
  | none | claimQueued | waiting | granted | releaseQueued
  deriving DecidableEq, Repr

/-- One position (R22, R130). `interlock` is true when CLOSED. Clocks are in milliseconds. -/
structure Position where
  state : PosState
  link : Option Handle
  interlock : Bool
  runClock : Nat
  pauseClock : Nat
  silenceClock : Nat
  stepEn : Bool
  claim : ClaimState
  withdrawing : Bool
  remembered : Bool
  deriving DecidableEq, Repr

/-! ### The line bus interface (04) -/

/-- A frame's kind, destination and payload; the sender is the station's own address (R74). -/
structure Frame where
  kind : FrameKind
  dest : BitVec 5
  payload : List Byte
  deriving DecidableEq, Repr

/-- The origins of the transmit list (R86). -/
inductive Origin where
  | position (p : PosIx)
  | slot (h : Handle)
  | answer (i : Fin 8)
  | presence
  | upkeep
  | departure (a : Addr)
  | capacity (b : BudgetIx)
  deriving DecidableEq, Repr

/-- A request held because its frame is in transmission (R88). -/
inductive HeldRequest where
  | none
  | withdraw
  | replace (f : Frame)
  deriving DecidableEq, Repr

/-- One frame of the transmit list (R82, R86, R88). -/
structure TxEntry where
  origin : Origin
  frame : Frame
  voids : Nat
  held : HeldRequest
  deriving DecidableEq, Repr

/-- What this station has in transmission (R76): nothing; the frame of an origin; or a frame cleared from the list that is
finished on the pair (R89, R90). -/
inductive InTx where
  | idle
  | listed (o : Origin)
  | orphan (f : Frame)
  deriving DecidableEq, Repr

/-- The line bus interface (R82 to R85). The stall timer is in milliseconds, none when stopped. -/
structure Lbi where
  tx : List TxEntry
  inTx : InTx
  rxErrors : Nat
  listenOnly : Bool
  stall : Option Nat
  deriving DecidableEq, Repr

/-! ### Line membership (05) -/

/-- The line states (R92). -/
inductive LineState where
  | config | joining | joined | detached | out | mismatch | saving | dormant
  deriving DecidableEq, Repr

/-- The peer states (R93). -/
inductive PeerState where
  | absent | joining | joined
  deriving DecidableEq, Repr

/-- One peer entry (R93); the departure timer is in milliseconds, none when stopped. -/
structure Peer where
  state : PeerState
  role : Role
  epoch : BitVec 16
  freePositions : Nat
  freeSlots : Nat
  seqNo : BitVec 32
  timer : Option Nat
  deriving DecidableEq, Repr

/-- The status of a claim entry (R119). -/
inductive ClaimStatus where
  | waiting | granted
  deriving DecidableEq, Repr

/-- A claim entry of the budget table (R119). -/
structure ClaimEntry where
  station : Addr
  position : PosIx
  draws : Triple
  status : ClaimStatus
  order : BitVec 32
  deriving DecidableEq, Repr

/-- A replicated frame kept in the pending buffer (R104). -/
structure BufferedFrame where
  kind : FrameKind
  sender : Addr
  payload : List Byte
  deriving DecidableEq, Repr

/-- A peer entry as a snapshot carries it (R103). -/
structure SnapPeer where
  state : PeerState
  role : Role
  epoch : BitVec 16
  deriving DecidableEq, Repr

/-- A snapshot being taken (R105, R106): who sends it, what its head said, and the parts taken so far. -/
structure SnapIn where
  provider : Addr
  sCap : BitVec 32
  capacities : Triple
  count : Nat
  nextPart : Nat
  peers : List SnapPeer
  claims : List ClaimEntry
  deriving DecidableEq, Repr

/-- How far a join has come (R104 to R107): none; JOIN queued and not yet appeared; appeared and waiting for the
SNAP_HEAD; taking parts. -/
inductive JoinPhase where
  | none
  | queued
  | waiting
  | receiving (s : SnapIn)
  deriving DecidableEq, Repr

/-- A join queue entry (R102). -/
structure Joiner where
  address : Addr
  sJoin : BitVec 32
  deriving DecidableEq, Repr

/-- A snapshot being served (R103): the joiner and the frames not yet queued. -/
structure Serving where
  joiner : Addr
  rest : List Frame
  deriving DecidableEq, Repr

/-- The membership unit (R92 to R108). Timers are in milliseconds, none when stopped. `barred` says that something has
appeared since the own JOIN that bars the first-station rule (R108). `upkeepNext` is a JOIN or LEAVE that waits for the
upkeep origin (R88, R113). -/
structure Membership where
  line : LineState
  peers : Vector Peer 16
  lastEpoch : BitVec 16
  phase : JoinPhase
  buffer : List BufferedFrame
  barred : Bool
  presence : Option Nat
  joinWait : Option Nat
  partGap : Option Nat
  backoff : Option Nat
  joinQueue : List Joiner
  serving : Option Serving
  upkeepNext : Option Frame
  deriving DecidableEq, Repr

/-! ### Line budgets (06) -/

/-- The budget table (R117, R119, R120). -/
structure BudgetTable where
  capacities : Triple
  entries : List ClaimEntry
  seqNo : BitVec 32
  deriving DecidableEq, Repr

/-! ### Hand-off, receiver side (07) -/

/-- An open carry assembly (R151): the part count of part 0, the next expected index, the data so far, and the part gap
timer in milliseconds. -/
structure Assembly where
  count : Nat
  next : Nat
  data : List Byte
  gap : Nat
  deriving DecidableEq, Repr

/-- The status of a booking entry (R146). CLOSING keeps the complete image (R152); `taken` says that its TAKEN appeared in
SAVING, so that the image is handed to the retention store (R161). -/
inductive BookingStatus where
  | offered
  | standing
  | assembling (a : Assembly)
  | closing (image : List Byte) (taken : Bool)
  deriving DecidableEq, Repr

/-- An entry of the booking list (R146). `hold` is in seconds; `timer`, the hold timer, in milliseconds, counts in STANDING
and ASSEMBLING. -/
structure Booking where
  tag : Tag
  booker : Addr
  position : PosIx
  slot : Handle
  kind : StepKind
  hold : Nat
  timer : Nat
  status : BookingStatus
  deriving DecidableEq, Repr

/-! ### Configuration and retention (08) -/

/-- The configuration items (R164). Routes are indexed by role code and candidate index less one. -/
structure Items where
  lineNumber : Nat
  presence : Nat
  initialCapacities : Triple
  positionCount : Nat
  draws : Vector Triple 8
  routes : Vector (Vector (Option Addr) 4) 4
  lampSilence : Nat
  pauseLimit : Nat
  bookingMargin : Nat
  code : Vector Byte 8
  deriving DecidableEq, Repr

/-- The configuration block (R163 to R168). `posCount` is the position count in effect (R21). -/
structure Configuration where
  address : Addr
  role : Role
  rate : BitVec 2
  items : Items
  digest : BitVec 16
  computed : Bool
  closed : Bool
  posCount : Nat
  deriving DecidableEq, Repr

/-- The retention store (R170, R172). -/
structure Retention where
  written : Bool
  valid : Bool
  writing : Bool
  image : List Byte
  deriving DecidableEq, Repr

/-- The input levels the station reads as levels: ILK per position (high CLOSED) and PFW asserted (R177). -/
structure Pins where
  ilk : Vector Bool 8
  pfw : Bool
  deriving DecidableEq, Repr

/-! ### The machine port (09) -/

/-- The eight response status values (R181). -/
inductive Status where
  | ok | busy | refused | crcError | unknownCommand | badArgument | closed | dormant
  deriving DecidableEq, Repr

/-- A response: status and 24 bits of data (R180). -/
structure Response where
  status : Status
  data : BitVec 24
  deriving DecidableEq, Repr

/-- The event kinds (R186). -/
inductive EventKind where
  | place | inbound | stepStarted | stepEnded | held | plateDone | handoffDone | handoffFailed | locateResult
  | bookingLapsed | peerJoined | peerGone | lineState | slotsLow | slotsOk | restored
  deriving DecidableEq, Repr

/-- An event record (R186); absent position, handle and tag are none. -/
structure Event where
  kind : EventKind
  position : Option PosIx
  handle : Option Handle
  tag : Option Tag
  value : BitVec 32
  detail : Byte
  deriving DecidableEq, Repr

/-- The eight alarm flags (R188). -/
structure Alarms where
  portFault : Bool
  eventOverflow : Bool
  lineTxFault : Bool
  lineRxFault : Bool
  retentionLost : Bool
  retentionMismatch : Bool
  concessionLocked : Bool
  configMismatch : Bool
  deriving DecidableEq, Repr

/-- The input shift path (R178): CSN is low, and the bits taken in the transaction so far, first taken first. -/
structure ShiftPath where
  selected : Bool
  bits : List Bool
  deriving DecidableEq, Repr

/-- The machine port (R178 to R188). `delivered` is the response last shifted out whole on SDO. -/
structure Port where
  shift : ShiftPath
  prepared : Response
  delivered : Option Response
  events : List Event
  alarms : Alarms
  crcErrors : Nat
  deriving DecidableEq, Repr

/-- The staging buffer as (address, byte) pairs in one canonical form: addresses strictly rising and below 128, and no
byte 0, which is what an unlisted address reads as (R183). -/
abbrev Memory := List Host.Cell

/-! ### The station -/

/-- The state of one station and the queue of commands waiting for it. -/
structure State where
  pending : List Instr
  pins : Pins
  conf : Configuration
  ret : Retention
  port : Port
  staging : Memory
  lbi : Lbi
  mem : Membership
  bud : BudgetTable
  store : Store
  seqr : Vector Position 8
  bookings : List Booking
  deriving DecidableEq, Repr

/-- A peer entry after reset and while the list is not valid (R93). -/
def Peer.blank : Peer :=
  { state := .absent, role := .expose, epoch := 0, freePositions := 0, freeSlots := 0, seqNo := 0, timer := none }

/-- A position after reset (R22). Its interlock state has no function before CONFIG_CLOSE (R21, log 5). -/
def Position.blank : Position :=
  { state := .empty, link := none, interlock := false, runClock := 0, pauseClock := 0, silenceClock := 0, stepEn := false,
    claim := .none, withdrawing := false, remembered := false }

/-- The configuration items after reset (R164). -/
def Items.initial : Items :=
  { lineNumber := 0, presence := 250, initialCapacities := Vector.replicate 3 0, positionCount := 1,
    draws := Vector.replicate 8 (Vector.replicate 3 0), routes := Vector.replicate 4 (Vector.replicate 4 none),
    lampSilence := 5, pauseLimit := 120, bookingMargin := 60, code := Vector.replicate 8 0 }

/-- No alarm flag set (R188). -/
def Alarms.clear : Alarms :=
  { portFault := false, eventOverflow := false, lineTxFault := false, lineRxFault := false, retentionLost := false,
    retentionMismatch := false, concessionLocked := false, configMismatch := false }

/-- The budget table of a station that holds no valid one: no entry (R121). R121 gives its capacities and its sequence number
no value; that they are 0 is the model's choice (log 53). -/
def BudgetTable.empty : BudgetTable := { capacities := Vector.replicate 3 0, entries := [], seqNo := 0 }

/-- The membership unit after reset (R92 to R94, R102). -/
def Membership.initial : Membership :=
  { line := .config, peers := Vector.replicate 16 Peer.blank, lastEpoch := 0, phase := .none, buffer := [], barred := false,
    presence := none, joinWait := none, partGap := none, backoff := none, joinQueue := [], serving := none,
    upkeepNext := none }

/-- The record store after reset (R4, R9, R10, R11, R13, R63). -/
def Store.initial : Store :=
  { slots := Vector.replicate 32 { state := .free, waits := [] }, freeList := handles, rushQueue := [], ordinaryQueue := [],
    seqCounter := 1, lowIndication := false, attempts := 5 }

/-- The line bus interface after reset (R91). -/
def Lbi.initial : Lbi := { tx := [], inTx := .idle, rxErrors := 0, listenOnly := false, stall := none }

/-- The shift path between two transactions: CSN is high and no bit is counted. -/
def ShiftPath.rest : ShiftPath := { selected := false, bits := [] }

/-- The machine port after reset (R190), CSN high (log 5). -/
def Port.initial : Port :=
  { shift := ShiftPath.rest, prepared := { status := .ok, data := 0 }, delivered := none, events := [], alarms := Alarms.clear, crcErrors := 0 }

/-- The configuration block after reset with the straps sampled (R163, R169). -/
def Configuration.initial (address : Addr) (role : Role) (rate : BitVec 2) : Configuration :=
  { address := address, role := role, rate := rate, items := Items.initial, digest := 0, computed := false, closed := false,
    posCount := 0 }

/-- The machine right after its first reset: every block at its reset value (R169, R190 and the rules named above), the
straps all 0 (log 4), the input pins at rest (log 5), the retention store of a part never written (R170, log 6), and no
command waiting. -/
def State.reset : State :=
  { pending := [],
    pins := { ilk := Vector.replicate 8 false, pfw := false },
    conf := Configuration.initial 0 .expose 0,
    ret := { written := false, valid := false, writing := false, image := [] },
    port := Port.initial,
    staging := [],
    lbi := Lbi.initial,
    mem := Membership.initial,
    bud := BudgetTable.empty,
    store := Store.initial,
    seqr := Vector.replicate 8 Position.blank,
    bookings := [] }

end Sys2Proof.Machine
end

