-- ==== Sys2Proof/Machine/Codes.lean ====
section
/-! DEFINITION. The codes of 10.1, 10.4 and 10.6: each a function of the type it encodes, with the reading of a code where a frame or an image carries it. -/

namespace Sys2Proof.Machine

/-- Record state codes (10.1). -/
def recStateCode : RecState → Byte
  | .queued => 0 | .placed => 1 | .inbound => 2 | .loaded => 3 | .waiting => 4 | .running => 5 | .paused => 6
  | .ended => 7 | .outbound => 8 | .uncertain => 9 | .finished => 10 | .held => 11

/-- The record state a code names. -/
def recStateOf (b : Byte) : Option RecState :=
  match b.toNat with
  | 0 => some .queued | 1 => some .placed | 2 => some .inbound | 3 => some .loaded | 4 => some .waiting
  | 5 => some .running | 6 => some .paused | 7 => some .ended | 8 => some .outbound | 9 => some .uncertain
  | 10 => some .finished | 11 => some .held | _ => none

/-- Position state codes (10.1). -/
def posStateCode : PosState → Byte
  | .empty => 0 | .booked => 1 | .assigned => 2 | .occupied => 3 | .clearing => 4

/-- The position state a code names. -/
def posStateOf (b : Byte) : Option PosState :=
  match b.toNat with
  | 0 => some .empty | 1 => some .booked | 2 => some .assigned | 3 => some .occupied | 4 => some .clearing | _ => none

/-- Claim state codes (10.1). -/
def claimStateCode : ClaimState → Byte
  | .none => 0 | .claimQueued => 1 | .waiting => 2 | .granted => 3 | .releaseQueued => 4

/-- Line state codes (10.1). -/
def lineStateCode : LineState → Byte
  | .config => 0 | .joining => 1 | .joined => 2 | .detached => 3 | .out => 4 | .mismatch => 5 | .saving => 6
  | .dormant => 7

/-- Peer state codes (10.1). -/
def peerStateCode : PeerState → Byte
  | .absent => 0 | .joining => 1 | .joined => 2

/-- The peer state a code names. -/
def peerStateOf (b : Byte) : Option PeerState :=
  match b.toNat with
  | 0 => some .absent | 1 => some .joining | 2 => some .joined | _ => none

/-- Step kind codes, which are also the canonical order (R6, 10.1). -/
def stepKindCode : StepKind → Byte
  | .back => 1 | .main => 2 | .wash => 3 | .dry => 4 | .post => 5 | .detack => 6

/-- The step kind a code names. -/
def stepKindOf (b : Byte) : Option StepKind :=
  match b.toNat with
  | 1 => some .back | 2 => some .main | 3 => some .wash | 4 => some .dry | 5 => some .post | 6 => some .detack | _ => none

/-- Deviation kind codes (10.1). -/
def devKindCode : DevKind → Byte
  | .gapExceeded => 1 | .doseShort => 2 | .lampSilent => 3 | .pauseLimit => 4 | .removedEarly => 5 | .lineLost => 6
  | .powerInterrupt => 7 | .handoffRejected => 8 | .claimOversize => 9 | .operatorHold => 10 | .adopted => 11

/-- The deviation kind a code names. -/
def devKindOf (b : Byte) : Option DevKind :=
  match b.toNat with
  | 1 => some .gapExceeded | 2 => some .doseShort | 3 => some .lampSilent | 4 => some .pauseLimit
  | 5 => some .removedEarly | 6 => some .lineLost | 7 => some .powerInterrupt | 8 => some .handoffRejected
  | 9 => some .claimOversize | 10 => some .operatorHold | 11 => some .adopted | _ => none

/-- Booking entry status codes (10.1). -/
def bookingStatusCode : BookingStatus → Byte
  | .offered => 0 | .standing => 1 | .assembling _ => 2 | .closing _ _ => 3

/-- Slot state codes (10.1). -/
def slotStateCode : SlotState → Byte
  | .free => 0 | .reserved => 1 | .inUse _ => 2

/-- Event kind codes (10.6). -/
def eventKindCode : EventKind → Byte
  | .place => 1 | .inbound => 2 | .stepStarted => 3 | .stepEnded => 4 | .held => 5 | .plateDone => 6
  | .handoffDone => 7 | .handoffFailed => 8 | .locateResult => 9 | .bookingLapsed => 10 | .peerJoined => 11
  | .peerGone => 12 | .lineState => 13 | .slotsLow => 14 | .slotsOk => 15 | .restored => 16

/-- Status values (10.4). -/
def statusCode : Status → Byte
  | .ok => 0 | .busy => 1 | .refused => 2 | .crcError => 3 | .unknownCommand => 4 | .badArgument => 5 | .closed => 6
  | .dormant => 7

/-- The reasons of REFUSED responses and of REFUSED and REJECT frames (10.4). -/
inductive Reason where
  | notJoined | badSteps | wrongRole | noSlot | noRecord | notQueued | notExpected | occupied | wrongPlate | notPresent
  | alreadyHeld | inTransit | notActive | notHeld | overflowed | locked | badCode | notUncertain | notOpen | badConfig
  | leaving | busy | notOut | duplicateTag | noPosition | notBooked | badImage
  deriving DecidableEq, Repr

/-- Reason codes (10.4). -/
def reasonCode : Reason → Byte
  | .notJoined => 1 | .badSteps => 2 | .wrongRole => 3 | .noSlot => 4 | .noRecord => 5 | .notQueued => 6
  | .notExpected => 7 | .occupied => 8 | .wrongPlate => 9 | .notPresent => 10 | .alreadyHeld => 11 | .inTransit => 12
  | .notActive => 13 | .notHeld => 14 | .overflowed => 15 | .locked => 16 | .badCode => 17 | .notUncertain => 18
  | .notOpen => 19 | .badConfig => 20 | .leaving => 21 | .busy => 22 | .notOut => 23 | .duplicateTag => 24
  | .noPosition => 25 | .notBooked => 26 | .badImage => 27

/-- A reason byte has a meaning (10.4). -/
def reasonDefined (b : Byte) : Bool := 1 ≤ b.toNat && b.toNat ≤ 27

/-- The causes of a LINE_STATE event (R92). -/
inductive Cause where
  | closed | snapshot | first | txFault | rxFault | departed | backoffEnd | left | joinCommand | mismatch
  | rejoinOverflow | rejoinGap | rejoinTimeout | rejoinError | rejoinProvider | rejoinOffset
  deriving DecidableEq, Repr

/-- Cause codes of LINE_STATE (10.6). -/
def causeCode : Cause → Nat
  | .closed => 1 | .snapshot => 2 | .first => 3 | .txFault => 4 | .rxFault => 5 | .departed => 6 | .backoffEnd => 7
  | .left => 8 | .joinCommand => 9 | .mismatch => 10 | .rejoinOverflow => 11 | .rejoinGap => 12 | .rejoinTimeout => 13
  | .rejoinError => 14 | .rejoinProvider => 15 | .rejoinOffset => 16

/-- The role that performs a step kind (R6). -/
def stepRole : StepKind → Role
  | .back => .expose | .main => .expose | .wash => .wash | .dry => .dry | .post => .finish | .detack => .finish

/-- Dose steps are counted in quanta, the others in seconds (R6). -/
def isDose : StepKind → Bool
  | .back => true | .main => true | .wash => false | .dry => false | .post => true | .detack => true

/-- The role as an index, its code (10.1). -/
def roleIx : Role → Fin 4
  | .expose => 0 | .wash => 1 | .dry => 2 | .finish => 3

/-- The position counts a role allows (R21, R167). -/
def roleMaxPositions : Role → Nat
  | .expose => 2 | .wash => 1 | .dry => 8 | .finish => 2

/-- A field that is 255 when absent (R193). -/
def fin255 {n : Nat} : Option (Fin n) → Byte
  | some i => BitVec.ofNat 8 i.val
  | none => 255

/-- An optional field whose range begins at 1 is 0 when absent (R193). -/
def opt16 (x : Option (BitVec 16)) : BitVec 16 := x.getD 0

/-- The reading of such a field. -/
def opt16Of (x : BitVec 16) : Option (BitVec 16) := if x = 0 then none else some x

/-- The five bytes of a tag (10.1). -/
def tagBytes (t : Tag) : List Byte := byte t.origin.val :: bytes16 t.epoch ++ bytes16 t.seq

/-- A tag field that is all zeros where none applies (R193). -/
def tagBytes? : Option Tag → List Byte
  | some t => tagBytes t
  | none => List.replicate 5 0

/-- The tag five bytes hold: origin 0 to 15, epoch and seq at least 1 (R1, R193). -/
def tagOf (o e1 e0 s1 s0 : Byte) : Option Tag :=
  match finOf 16 o with
  | some a => if word16 e1 e0 = 0 ∨ word16 s1 s0 = 0 then none else some ⟨a, word16 e1 e0, word16 s1 s0⟩
  | none => none

/-- The response as shifted out: status, data and the CRC-8 composed at delivery (R178, R180). -/
def responseBits (r : Response) : List Bool :=
  let covered := bitsOf (statusCode r.status) ++ bitsOf r.data
  covered ++ bitsOf (crc8Bits covered)

/-- The bits on SDO over a transaction of n bits: the response, then high for every further bit (R178). -/
def sdoBits (r : Response) (n : Nat) : List Bool :=
  (responseBits r).take n ++ List.replicate (n - 40) true

end Sys2Proof.Machine
end

