-- ==== Sys2Proof/Machine/Operands.lean ====
section
/-! DEFINITION. Operand forms: step lists, the record image (10.2), the payloads of line frames (10.3), the staging buffer (R183). -/

namespace Sys2Proof.Machine

/-! ### The staging buffer (R183) -/

/-- What a byte of the staging buffer reads as; an unlisted address reads as 0, its value after reset. -/
def Memory.read (m : Memory) (a : Nat) : Byte :=
  match m with
  | [] => 0
  | (x, b) :: rest => if x = a then b else Memory.read rest a

/-- One byte written: the entry is put in its place, and removed where the byte is 0. -/
def Memory.write (m : Memory) (a : Nat) (v : Byte) : Memory :=
  match m with
  | [] => if v = 0 then [] else [(a, v)]
  | (x, b) :: rest =>
    if a < x then (if v = 0 then (x, b) :: rest else (a, v) :: (x, b) :: rest)
    else if a = x then (if v = 0 then rest else (a, v) :: rest)
    else (x, b) :: Memory.write rest a v

/-- Bytes written from an address on. -/
def Memory.writeList (m : Memory) (a : Nat) : List Byte → Memory
  | [] => m
  | b :: bs => Memory.writeList (Memory.write m a b) (a + 1) bs

/-- n bytes read from an address on. -/
def Memory.readList (m : Memory) (a n : Nat) : List Byte := (List.range n).map fun i => Memory.read m (a + i)

/-- The canonical form from address `lo` on: addresses strictly rising and below 128, no byte 0. -/
def Memory.wfFrom (lo : Nat) : Memory → Bool
  | [] => true
  | (x, b) :: rest => decide (lo ≤ x) && decide (x < 128) && decide (b ≠ 0) && Memory.wfFrom (x + 1) rest

/-- The canonical form of the staging buffer. -/
def Memory.wf (m : Memory) : Bool := Memory.wfFrom 0 m

/-! ### Step lists (R6, R7) -/

/-- One step entry of a valid list (R7): `last` says that it is the last. -/
def validEntry (e : StepEntry) (last : Bool) : Bool :=
  decide (e.target ≠ 0)
    && (isDose e.kind || e.timeLimit.isNone)
    && (!last || (e.maxGap.isNone && e.minGap.isNone))
    && (match e.minGap, e.maxGap with
        | some lo, some hi => decide (lo.toNat < hi.toNat)
        | _, _ => true)
    && decide (e.timeLimit ≠ some 0) && decide (e.maxGap ≠ some 0) && decide (e.minGap ≠ some 0)

/-- The entries of a valid list, kinds strictly increasing in canonical order (R7). -/
def validEntries : List StepEntry → Bool
  | [] => true
  | [e] => validEntry e true
  | e :: f :: rest =>
    validEntry e false && decide ((stepKindCode e.kind).toNat < (stepKindCode f.kind).toNat) && validEntries (f :: rest)

/-- A valid step list (R7). -/
def validSteps (l : List StepEntry) : Bool := decide (1 ≤ l.length) && decide (l.length ≤ 6) && validEntries l

/-- The ten bytes of a step entry (10.2). -/
def stepBytes (e : StepEntry) : List Byte :=
  stepKindCode e.kind :: bytes24 e.target ++ bytes16 (opt16 e.timeLimit) ++ bytes16 (opt16 e.maxGap)
    ++ bytes16 (opt16 e.minGap)

/-- n step entries read from bytes; none where a kind code has no meaning or bytes are missing. -/
def stepsOf : Nat → List Byte → Option (List StepEntry)
  | 0, _ => some []
  | n + 1, k :: t2 :: t1 :: t0 :: l1 :: l0 :: x1 :: x0 :: m1 :: m0 :: rest =>
    match stepKindOf k, stepsOf n rest with
    | some kind, some es =>
      some ({ kind := kind, target := word24 t2 t1 t0, timeLimit := opt16Of (word16 l1 l0),
              maxGap := opt16Of (word16 x1 x0), minGap := opt16Of (word16 m1 m0) } :: es)
    | _, _ => none
  | _ + 1, _ => none

/-! ### The record image (R2, 10.2) -/

/-- The five bytes of a deviation entry. -/
def deviationBytes (d : Deviation) : List Byte := devKindCode d.kind :: byte d.stepIndex :: bytes24 d.value

/-- The flags byte of the image (10.2). -/
def imageFlags (r : Record) : Byte :=
  byte (r.rush.toNat * 128 + r.gapElapsed.isSome.toNat * 64 + r.gapOpen.toNat * 32 + r.gapConceded.toNat * 16
    + r.overflow.toNat * 8 + r.adoptedFrom.isSome.toNat * 4)

/-- The image before its CRC. -/
def imageBody (r : Record) : List Byte :=
  tagBytes r.tag ++ bytes32 r.jobRef
    ++ [imageFlags r, recStateCode r.state, (r.heldFrom.map recStateCode).getD 255, fin255 r.position,
        byte r.steps.length, byte r.current, byte r.deviations.length]
    ++ bytes24 r.accumulated ++ bytes24 (r.gapElapsed.getD 0) ++ bytes16 r.pauseTotal
    ++ r.steps.flatMap stepBytes ++ r.deviations.flatMap deviationBytes
    ++ (match r.adoptedFrom with | some t => tagBytes t | none => [])

/-- The record image (R2). -/
def recordImage (r : Record) : List Byte := imageBody r ++ bytes16 (crc16 (imageBody r))

/-- Byte i of an image. -/
def imageByte (im : List Byte) (i : Nat) : Byte := im.getD i 0

/-- The length an image's own counts give (R193). -/
def imageLength (im : List Byte) : Nat :=
  26 + 10 * (imageByte im 13).toNat + 5 * (imageByte im 15).toNat + (if (imageByte im 9).getLsbD 2 then 5 else 0)

/-- An image is well formed: step count 1 to 6, deviation count 0 to 4, length as its counts give (R193). -/
def imageWellFormed (im : List Byte) : Bool :=
  decide (1 ≤ (imageByte im 13).toNat) && decide ((imageByte im 13).toNat ≤ 6) && decide ((imageByte im 15).toNat ≤ 4)
    && decide (im.length = imageLength im)

/-- The image's CRC is right. -/
def imageCrcOk (im : List Byte) : Bool :=
  decide (bytes16 (crc16 (im.take (im.length - 2))) = im.drop (im.length - 2))

/-- The tag of an image, none where a part is out of range. -/
def imageTag (im : List Byte) : Option Tag :=
  tagOf (imageByte im 0) (imageByte im 1) (imageByte im 2) (imageByte im 3) (imageByte im 4)

/-- n deviation entries, each with a defined kind and a step index below the step count (log 34). -/
def deviationsOf (steps : Nat) : Nat → List Byte → Option (List Deviation)
  | 0, _ => some []
  | n + 1, k :: i :: v2 :: v1 :: v0 :: rest =>
    match devKindOf k, deviationsOf steps n rest with
    | some kind, some ds =>
      if i.toNat < steps then some ({ kind := kind, stepIndex := i.toNat, value := word24 v2 v1 v0 } :: ds) else none
    | _, _ => none
  | _ + 1, _ => none

/-- A held-from field: absent, or a record state other than HELD (R1). -/
def heldFromOf (b : Byte) : Option (Option RecState) :=
  if b = 255 then some none
  else match recStateOf b with
    | some .held => none
    | some st => some (some st)
    | none => none

/-- A position link field: absent, or 0 to 7. -/
def positionOf (b : Byte) : Option (Option PosIx) :=
  if b = 255 then some none else (finOf 8 b).map some

/-- The adopted-from tag at the end of an image, present where the flags say so. -/
def adoptedOf (present : Bool) (bs : List Byte) : Option (Option Tag) :=
  if present then
    match bs with
    | o :: e1 :: e0 :: s1 :: s0 :: _ => (tagOf o e1 e0 s1 s0).map some
    | _ => none
  else some none

/-- A record with the items that are not part of an image at their starting values (R52, R139). -/
def Record.ofFields (tag : Tag) (jobRef : BitVec 32) (rush : Bool) (steps : List StepEntry) (state : RecState) : Record :=
  { tag := tag, jobRef := jobRef, rush := rush, steps := steps, current := 0, accumulated := 0, gapElapsed := none,
    gapConceded := false, gapOpen := false, pauseTotal := 0, state := state, heldFrom := none, position := none,
    deviations := [], overflow := false, adoptedFrom := none, gapFrac := 0, booking := .none, exhausted := false,
    answerTimer := none, handOffTimer := none, locateTimer := none, carry := none, sentToward := none }

/-- The record of a well formed image, none where a field is out of range, a code has no meaning, a reserved bit is set or
an absent gap elapsed is not 0 (R152 check 5, R193, log 34). The step list's validity (R7) and the limit of four
deviations (R1) are parts of the check. -/
def decodeImage (im : List Byte) : Option Record :=
  let n := (imageByte im 13).toNat
  let d := (imageByte im 15).toNat
  let flags := imageByte im 9
  let gap := word24 (imageByte im 19) (imageByte im 20) (imageByte im 21)
  match imageTag im, recStateOf (imageByte im 10), heldFromOf (imageByte im 11), positionOf (imageByte im 12),
      stepsOf n (im.drop 24), deviationsOf n d (im.drop (24 + 10 * n)),
      adoptedOf (flags.getLsbD 2) (im.drop (24 + 10 * n + 5 * d)) with
  | some tag, some st, some hf, some pos, some steps, some devs, some ad =>
    if validSteps steps ∧ (imageByte im 14).toNat < n ∧ d ≤ 4 ∧ flags.getLsbD 1 = false ∧ flags.getLsbD 0 = false
        ∧ (flags.getLsbD 6 = true ∨ gap = 0) then
      some { Record.ofFields tag (word32 (imageByte im 5) (imageByte im 6) (imageByte im 7) (imageByte im 8))
              (flags.getLsbD 7) steps st with
        current := (imageByte im 14).toNat
        accumulated := word24 (imageByte im 16) (imageByte im 17) (imageByte im 18)
        gapElapsed := if flags.getLsbD 6 then some gap else none
        gapOpen := flags.getLsbD 5
        gapConceded := flags.getLsbD 4
        pauseTotal := word16 (imageByte im 22) (imageByte im 23)
        heldFrom := hf
        position := pos
        deviations := devs
        overflow := flags.getLsbD 3
        adoptedFrom := ad }
    else none
  | _, _, _, _, _, _, _ => none

/-- The number of CARRY parts of an image: its length over 14, rounded up (R150). -/
def partCount (length : Nat) : Nat := (length + 13) / 14

/-! ### Line frame payloads (10.3). None: the payload's length or a field is out of range, and the owning blocks ignore
the frame (R80, R193). -/

/-- A payload that is one tag: TAKEN, FOUND, CANCEL, LOCATE. -/
def tagPayload : List Byte → Option Tag
  | [o, e1, e0, s1, s0] => tagOf o e1 e0 s1 s0
  | _ => none

/-- A tag and one byte: REJECT, BOOKED, REFUSED. -/
def tagBytePayload : List Byte → Option (Tag × Byte)
  | [o, e1, e0, s1, s0, b] => (tagOf o e1 e0 s1 s0).map fun t => (t, b)
  | _ => none

/-- REJECT and REFUSED: a tag and a defined reason. -/
def reasonPayload (bs : List Byte) : Option (Tag × Byte) :=
  match tagBytePayload bs with
  | some (t, b) => if reasonDefined b then some (t, b) else none
  | none => none

/-- BOOKED: a tag and a position. -/
def bookedPayload (bs : List Byte) : Option (Tag × PosIx) :=
  match tagBytePayload bs with
  | some (t, b) => (finOf 8 b).map fun p => (t, p)
  | none => none

/-- DEPART: the address departed. -/
def departPayload : List Byte → Option Addr
  | [b] => finOf 16 b
  | _ => none

/-- RELEASE: a position, which may be above 7 (R123). -/
def releasePayload : List Byte → Option PosIx
  | [b] => finOf 8 b
  | _ => none

/-- CAPACITY: a budget 0 to 2 and units 0 to 1023 (R124). -/
def capacityPayload : List Byte → Option (BudgetIx × Nat)
  | [b, u1, u0] =>
    match finOf 3 b with
    | some i => if (word16 u1 u0).toNat ≤ 1023 then some (i, (word16 u1 u0).toNat) else none
    | none => none
  | _ => none

/-- Three draws as a triple. -/
def triple (x y z : Nat) : Triple := #v[x, y, z]

/-- CLAIM: a position 0 to 7 and draws that are not all zero (R122). -/
def claimPayload : List Byte → Option (PosIx × Triple)
  | [p, a, b, c] =>
    match finOf 8 p with
    | some i => if a = 0 ∧ b = 0 ∧ c = 0 then none else some (i, triple a.toNat b.toNat c.toNat)
    | none => none
  | _ => none

/-- A BOOK frame's content (R141). -/
structure BookRequest where
  tag : Tag
  kind : StepKind
  hold : Nat
  renewal : Bool
  deriving DecidableEq, Repr

/-- BOOK: tag, next step kind, hold, renewal mark 0 or 1. -/
def bookPayload : List Byte → Option BookRequest
  | [o, e1, e0, s1, s0, k, h1, h0, r] =>
    match tagOf o e1 e0 s1 s0, stepKindOf k with
    | some t, some kind =>
      if r.toNat ≤ 1 then some { tag := t, kind := kind, hold := (word16 h1 h0).toNat, renewal := decide (r = 1) } else none
    | _, _ => none
  | _ => none

/-- A CARRY part (10.3). -/
structure CarryPart where
  position : PosIx
  index : Nat
  count : Nat
  data : List Byte
  deriving DecidableEq, Repr

/-- CARRY: position and part index, part count, image data. A length that no part has is a wrong index or count, judged
with the part (R193); a part without its count byte has count 0. A position above 7 is out of range, and a payload of no
bytes names none (log 16). -/
def carryPayload : List Byte → Option CarryPart
  | b :: rest =>
    (finOf 8 (byte (b.toNat / 16))).map fun p =>
      { position := p, index := b.toNat % 16, count := (rest.headD 0).toNat, data := rest.drop 1 }
  | [] => none

/-- The length of a part's data is one that its index and count allow: 14 bytes, and 1 to 14 in the last (R193). -/
def CarryPart.lengthOk (c : CarryPart) : Bool :=
  if c.index + 1 < c.count then decide (c.data.length = 14) else decide (1 ≤ c.data.length) && decide (c.data.length ≤ 14)

/-- A PRESENCE frame's content (R95). -/
structure PresenceReport where
  joined : Bool
  role : Role
  epoch : BitVec 16
  digest : BitVec 16
  freePositions : Nat
  freeSlots : Nat
  seqNo : BitVec 32
  deriving DecidableEq, Repr

/-- PRESENCE: state JOINING or JOINED, role, epoch, digest, free positions 0 to 8, free slots 0 to 32, sequence number. -/
def presencePayload : List Byte → Option PresenceReport
  | [st, r, e1, e0, d1, d0, fp, fs, q3, q2, q1, q0] =>
    match peerStateOf st, roleOf r with
    | some .absent, _ => none
    | some ps, some role =>
      if fp.toNat ≤ 8 ∧ fs.toNat ≤ 32 then
        some { joined := decide (ps = .joined), role := role, epoch := word16 e1 e0, digest := word16 d1 d0,
               freePositions := fp.toNat, freeSlots := fs.toNat, seqNo := word32 q3 q2 q1 q0 }
      else none
    | _, _ => none
  | _ => none

/-- JOIN: the role. -/
def joinPayload : List Byte → Option Role
  | [r] => roleOf r
  | _ => none

/-- A SNAP_HEAD frame's content. -/
structure SnapHead where
  joiner : Addr
  sCap : BitVec 32
  offset : Nat
  capacities : Triple
  digest : BitVec 16
  count : Nat
  deriving DecidableEq, Repr

/-- SNAP_HEAD: joiner, S_cap, offset, capacities 0 to 1023, digest, entry count 0 to 128. -/
def snapHeadPayload : List Byte → Option SnapHead
  | [j, s3, s2, s1, s0, off, a1, a0, b1, b0, c1, c0, d1, d0, n] =>
    match finOf 16 j with
    | some a =>
      if (word16 a1 a0).toNat ≤ 1023 ∧ (word16 b1 b0).toNat ≤ 1023 ∧ (word16 c1 c0).toNat ≤ 1023 ∧ n.toNat ≤ 128 then
        some { joiner := a, sCap := word32 s3 s2 s1 s0, offset := off.toNat,
               capacities := triple (word16 a1 a0).toNat (word16 b1 b0).toNat (word16 c1 c0).toNat,
               digest := word16 d1 d0, count := n.toNat }
      else none
    | none => none
  | _ => none

/-- The joiner and part index every SNAP_PART begins with. -/
def snapPartHead : List Byte → Option (Addr × Nat × List Byte)
  | j :: i :: rest => (finOf 16 j).map fun a => (a, i.toNat, rest)
  | _ => none

/-- One four-bit group of a peer part: state in the high two bits, role in the low two (10.3). -/
def groupOf (g : Nat) (epoch : BitVec 16) : Option SnapPeer :=
  match peerStateOf (byte (g / 4)), roleOf (byte (g % 4)) with
  | some st, some r => some { state := st, role := r, epoch := epoch }
  | _, _ => none

/-- The five peers of parts 0 to 2, or the one peer of part 3; a low group of part 3 that is not 0 is out of range. The
last low group of parts 0 to 2 has no peer and is reserved. -/
def peerPart (index : Nat) : List Byte → Option (List SnapPeer)
  | [g0, g1, g2, a1, a0, b1, b0, c1, c0, d1, d0, e1, e0] =>
    if 3 ≤ index ∨ g2.toNat % 16 ≠ 0 then none
    else
      match groupOf (g0.toNat / 16) (word16 a1 a0), groupOf (g0.toNat % 16) (word16 b1 b0),
          groupOf (g1.toNat / 16) (word16 c1 c0), groupOf (g1.toNat % 16) (word16 d1 d0),
          groupOf (g2.toNat / 16) (word16 e1 e0) with
      | some a, some b, some c, some d, some e => some [a, b, c, d, e]
      | _, _, _, _, _ => none
  | [g, e1, e0] =>
    if index ≠ 3 ∨ g.toNat % 16 ≠ 0 then none else (groupOf (g.toNat / 16) (word16 e1 e0)).map fun p => [p]
  | _ => none

/-- The entries of a claim part, four bytes each (10.3). The order is numbered at the load (R106). -/
def claimPart : List Byte → Option (List ClaimEntry)
  | [] => some []
  | h :: a :: b :: c :: rest =>
    match finOf 16 (byte (h.toNat / 16)), finOf 8 (byte (h.toNat % 16 / 2)), claimPart rest with
    | some st, some p, some es =>
      some ({ station := st, position := p, draws := triple a.toNat b.toNat c.toNat,
              status := if h.toNat % 2 = 1 then .granted else .waiting, order := 0 } :: es)
    | _, _, _ => none
  | _ => none

end Sys2Proof.Machine
end

