-- ==== Sys2Proof/Machine/Ops.lean ====
section
/-! DEFINITION. Named operations over the blocks: records and slots, positions, events, responses, the transmit list and the frames waiting for their origins. -/

namespace Sys2Proof.Machine

/-! ### Line states -/

/-- The station's line state. -/
def State.line (s : State) : LineState := s.mem.line

/-- JOINED. -/
def State.isJoined (s : State) : Bool := decide (s.mem.line = .joined)

/-- The states in which the LBI sends, voids and presents appearances (R73), and in which positions, gaps and commands
work (R173, R182). -/
def State.isActive (s : State) : Bool :=
  match s.mem.line with
  | .joining => true | .joined => true | .detached => true | .out => true | .mismatch => true
  | .config => false | .saving => false | .dormant => false

/-- JOINING or JOINED. -/
def State.isOnLine (s : State) : Bool :=
  match s.mem.line with
  | .joining => true | .joined => true
  | .detached => false | .out => false | .mismatch => false | .config => false | .saving => false | .dormant => false

/-- The line timeouts are multiples of P (00_scope.md, 4.3). -/
def State.timesP (s : State) (n : Nat) : Nat := n * s.conf.items.presence

/-! ### Records and slots -/

/-- Slot h. -/
def State.slot (s : State) (h : Handle) : Slot := s.store.slots[h]

/-- Slot h replaced. -/
def State.setSlot (h : Handle) (x : Slot) (s : State) : State :=
  { s with store := { s.store with slots := s.store.slots.set h x } }

/-- The record of a slot that is IN_USE. -/
def State.rec? (s : State) (h : Handle) : Option Record :=
  match (s.slot h).state with
  | .inUse r => some r
  | .reserved => none
  | .free => none

/-- Slot h holds record r. -/
def State.setRec (h : Handle) (r : Record) (s : State) : State :=
  s.setSlot h { s.slot h with state := .inUse r }

/-- The record of slot h, if there is one, changed by f. -/
def State.updRec (h : Handle) (f : Record → Record) (s : State) : State :=
  match s.rec? h with
  | some r => s.setRec h (f r)
  | none => s

/-- The record of slot h is in state st. -/
def State.recIn (s : State) (h : Handle) (st : RecState) : Bool :=
  match s.rec? h with
  | some r => decide (r.state = st)
  | none => false

/-- The frames waiting for slot h's origin. -/
def State.setWaits (h : Handle) (ws : List SlotWait) (s : State) : State :=
  s.setSlot h { s.slot h with waits := ws }

/-- The handle of the record that bears a tag: a tag is resident when an IN_USE slot's record bears it (R5). -/
def State.resident (s : State) (t : Tag) : Option Handle :=
  handles.find? fun h => (s.rec? h).any fun r => decide (r.tag = t)

/-- The number of FREE slots. -/
def State.freeCount (s : State) : Nat := s.store.freeList.length

/-- A slot that is reserved or was in use becomes FREE and goes to the head of the free list (R11). Of the frames waiting
for its origin only the CANCELs stay: the others are a record's (R86, R146). -/
def State.freeSlot (h : Handle) (s : State) : State :=
  let keep := (s.slot h).waits.filter fun w => match w with
    | .cancel _ _ => true | .book => false | .renewal => false | .part => false | .locate => false
  let s := s.setSlot h { state := .free, waits := keep }
  { s with store := { s.store with freeList := h :: s.store.freeList } }

/-- The slot at the head of the free list, and the store without it. -/
def State.takeSlot (s : State) : Option (Handle × State) :=
  match s.store.freeList with
  | h :: rest => some (h, { s with store := { s.store with freeList := rest } })
  | [] => none

/-! ### The arrival queue (R9) -/

/-- The arrival queue in order: rush records first. -/
def State.arrivalQueue (s : State) : List Handle := s.store.rushQueue ++ s.store.ordinaryQueue

/-- A record enters at the back of its group. -/
def State.enqueue (h : Handle) (rush : Bool) (s : State) : State :=
  if rush then { s with store := { s.store with rushQueue := s.store.rushQueue ++ [h] } }
  else { s with store := { s.store with ordinaryQueue := s.store.ordinaryQueue ++ [h] } }

/-- A record leaves the queue. -/
def State.unqueue (h : Handle) (s : State) : State :=
  { s with store := { s.store with
      rushQueue := s.store.rushQueue.filter (· ≠ h), ordinaryQueue := s.store.ordinaryQueue.filter (· ≠ h) } }

/-! ### Positions -/

/-- Position p. -/
def State.pos (s : State) (p : PosIx) : Position := s.seqr[p]

/-- Position p changed by f. -/
def State.updPos (p : PosIx) (f : Position → Position) (s : State) : State :=
  { s with seqr := s.seqr.set p (f s.seqr[p]) }

/-- The configured positions, in increasing order (R21). -/
def State.livePositions (s : State) : List PosIx := positions.filter fun p => decide (p.val < s.conf.posCount)

/-- The position a port command names, none at or beyond the count (R21). -/
def State.posArg (s : State) (b : Byte) : Option PosIx :=
  match finOf 8 b with
  | some p => if p.val < s.conf.posCount then some p else none
  | none => none

/-- The record linked to an OCCUPIED position, with its handle. -/
def State.working (s : State) (p : PosIx) : Option (Handle × Record) :=
  if (s.pos p).state = .occupied then
    match (s.pos p).link with
    | some h => (s.rec? h).map fun r => (h, r)
    | none => none
  else none

/-- The position is OCCUPIED by a record in state st. -/
def State.posIn (s : State) (p : PosIx) (st : RecState) : Bool :=
  match s.working p with
  | some (_, r) => decide (r.state = st)
  | none => false

/-- The position's link is cut and it takes a state without a record. -/
def State.vacate (p : PosIx) (st : PosState) (s : State) : State :=
  s.updPos p fun x => { x with state := st, link := none, stepEn := false }

/-- An optional position vacated. -/
def State.vacate? (p : Option PosIx) (st : PosState) (s : State) : State :=
  match p with
  | some p => s.vacate p st
  | none => s

/-! ### Alarm flags and events (R186, R188) -/

/-- Alarm flags set by f. -/
def State.alarm (f : Alarms → Alarms) (s : State) : State :=
  { s with port := { s.port with alarms := f s.port.alarms } }

/-- An event posted: appended while the queue holds fewer than 32, dropped with EVENT_OVERFLOW otherwise (R186); no event
is posted in SAVING or DORMANT (R173, R186). -/
def State.post (e : Event) (s : State) : State :=
  match s.mem.line with
  | .saving => s
  | .dormant => s
  | .config | .joining | .joined | .detached | .out | .mismatch =>
    if s.port.events.length < 32 then { s with port := { s.port with events := s.port.events ++ [e] } }
    else s.alarm fun a => { a with eventOverflow := true }

/-- An event with no position, handle or tag. -/
def stationEvent (k : EventKind) (value : Nat) : Event :=
  { kind := k, position := none, handle := none, tag := none, value := BitVec.ofNat 32 value, detail := 0 }

/-- An event of a record. -/
def recordEvent (k : EventKind) (p : Option PosIx) (h : Handle) (t : Tag) (value : Nat) : Event :=
  { kind := k, position := p, handle := some h, tag := some t, value := BitVec.ofNat 32 value, detail := 0 }

/-- LINE_STATE with the present line state and a cause (R92, 10.6). -/
def State.postLineState (c : Cause) (s : State) : State :=
  s.post (stationEvent .lineState ((lineStateCode s.mem.line).toNat * 256 + causeCode c))

/-! ### Responses (R180, R181) -/

/-- The outcome of a frame becomes the prepared response. -/
def State.respond (st : Status) (data : BitVec 24) (s : State) : State :=
  { s with port := { s.port with prepared := { status := st, data := data } } }

/-- OK with three data bytes. -/
def State.ok (d2 d1 d0 : Byte) (s : State) : State := s.respond .ok (word24 d2 d1 d0)

/-- REFUSED with a reason, and a low byte that most commands leave 0. -/
def State.refuse (r : Reason) (d0 : Byte) (s : State) : State := s.respond .refused (word24 (reasonCode r) 0 d0)

/-- BAD_ARGUMENT with the command code (R181). -/
def State.badArgument (code : Byte) (s : State) : State := s.respond .badArgument (word24 code 0 0)

/-- CSN has risen: the transaction is over and its bits are no longer counted (R178, R179). -/
def State.endTransaction (s : State) : State := { s with port := { s.port with shift := ShiftPath.rest } }

/-- The prepared response is shifted out whole on SDO in a transaction of 40 or more bits, which ends here (R178, R180). -/
def State.deliver (s : State) : State :=
  { s with port := { s.port with shift := ShiftPath.rest, delivered := some s.port.prepared } }

/-- The judgement of a frame with a good CRC (R182): BUSY in SAVING, DORMANT in DORMANT, NOT_OPEN in CONFIG for a command
that CONFIG does not take, and otherwise the command's own rule. `low` is the low byte of that NOT_OPEN, which CONCESSION
and ADOPT fill with the attempt count (R63, R181). -/
def State.judge (inConfig : Bool) (low : Byte) (own : State → State) (s : State) : State :=
  let s := s.deliver
  match s.mem.line with
  | .saving => s.respond .busy 0
  | .dormant => s.respond .dormant 0
  | .config => if inConfig then own s else s.refuse .notOpen low
  | .joining | .joined | .detached | .out | .mismatch => own s

/-- The record of a handle argument: BAD_ARGUMENT above 31, NO_RECORD where the slot is not IN_USE; the low byte of the
refusal is d0 (R16, R19, R62, R64, R67, R69). -/
def State.withRecord (code handle d0 : Byte) (own : Handle → Record → State → State) (s : State) : State :=
  match finOf 32 handle with
  | none => s.badArgument code
  | some h =>
    match s.rec? h with
    | none => s.refuse .noRecord d0
    | some r => own h r s

/-- A result written into the staging buffer from byte 0 (R183). The buffer has 128 bytes: none is written beyond. -/
def State.stage (bs : List Byte) (s : State) : State := { s with staging := Memory.writeList s.staging 0 (bs.take 128) }

/-! ### The transmit list (R82 to R88) -/

/-- The frame an origin holds on the list. -/
def State.txEntry (s : State) (o : Origin) : Option TxEntry := s.lbi.tx.find? fun e => decide (e.origin = o)

/-- The origin holds a frame. -/
def State.txHas (s : State) (o : Origin) : Bool := s.lbi.tx.any fun e => decide (e.origin = o)

/-- The frame with the lowest class, and among those the one that joined first (R87). -/
def nextOf : List TxEntry → Option TxEntry
  | [] => none
  | e :: rest =>
    match nextOf rest with
    | some f => if (kindPrio f.frame.kind).toNat < (kindPrio e.frame.kind).toNat then some f else some e
    | none => some e

/-- The frame the LBI offers next (R87). -/
def State.txNext (s : State) : Option TxEntry := nextOf s.lbi.tx

/-- A frame joins the list from an origin that holds none (R86); the stall timer starts when the list was empty (R85). -/
def State.queueFrame (o : Origin) (f : Frame) (s : State) : State :=
  if s.txHas o then s
  else { s with lbi := { s.lbi with
      tx := s.lbi.tx ++ [{ origin := o, frame := f, voids := 0, held := .none }],
      stall := if s.lbi.tx.isEmpty then some 0 else s.lbi.stall } }

/-- A list of frames put in place of the transmit list; the stall timer stops when it is empty (R85). -/
def State.setTx (l : List TxEntry) (s : State) : State :=
  { s with lbi := { s.lbi with tx := l, stall := if l.isEmpty then none else s.lbi.stall } }

/-- An origin's frame leaves the list. -/
def State.removeTx (o : Origin) (s : State) : State := s.setTx (s.lbi.tx.filter fun e => decide (e.origin ≠ o))

/-- The frame of an origin changed in its place. -/
def State.updTx (o : Origin) (f : TxEntry → TxEntry) (s : State) : State :=
  { s with lbi := { s.lbi with tx := s.lbi.tx.map fun e => if e.origin = o then f e else e } }

/-- The origin's frame is in transmission. -/
def State.sending (s : State) (o : Origin) : Bool := decide (s.lbi.inTx = .listed o)

/-- An origin withdraws its frame: removed at once, or held while the frame is in transmission (R88). A request held before
gives way to this one (log 44). -/
def State.withdrawTx (o : Origin) (s : State) : State :=
  if s.sending o then s.updTx o fun e => { e with held := .withdraw } else s.removeTx o

/-- An origin replaces its frame's content: at once, with a void count of 0, or held while in transmission (R88). A request
held before gives way to this one (log 44). -/
def State.replaceTx (o : Origin) (f : Frame) (s : State) : State :=
  if s.sending o then s.updTx o fun e => { e with held := .replace f }
  else s.updTx o fun e => { e with frame := f, voids := 0, held := .none }

/-- The frame of an origin queued, or the content of the one pending replaced (R88, R95, R135). -/
def State.queueOrReplace (o : Origin) (f : Frame) (s : State) : State :=
  if s.txHas o then s.replaceTx o f else s.queueFrame o f

/-- The list is cleared: a frame in transmission is finished on the pair, everything else is removed, the stall timer
stops, and what waits for an origin is forgotten with it (R89, R90). -/
def State.clearTx (s : State) : State :=
  let orphan : InTx := match s.lbi.inTx with
    | .listed o => match s.txEntry o with
      | some e => .orphan e.frame
      | none => .idle
    | .orphan f => .orphan f
    | .idle => .idle
  { s with
    lbi := { s.lbi with tx := [], inTx := orphan, stall := none },
    mem := { s.mem with upkeepNext := none },
    store := { s.store with slots := s.store.slots.map fun x => { x with waits := [] } } }

/-- The answer-list entries that hold frames (R144). -/
def State.answerCount (s : State) : Nat :=
  (s.lbi.tx.filter fun e => match e.origin with | .answer _ => true | _ => false).length

/-- The lowest answer entry that holds no frame. -/
def State.freeAnswer (s : State) : Option (Fin 8) :=
  (List.finRange 8).find? fun i => !s.txHas (.answer i)

/-- An answer queued in the answer list, unless it is full (R144). -/
def State.queueAnswer (f : Frame) (s : State) : State :=
  match s.freeAnswer with
  | some i => s.queueFrame (.answer i) f
  | none => s

/-- The answers that satisfy a condition are withdrawn (R88). -/
def State.withdrawAnswers (cond : Frame → Bool) (s : State) : State :=
  (List.finRange 8).foldl (fun s i =>
    match s.txEntry (.answer i) with
    | some e => if cond e.frame then s.withdrawTx (.answer i) else s
    | none => s) s

/-- The frame now in transmission, listed or cleared from the list. -/
def State.frameOut (s : State) : Option Frame :=
  match s.lbi.inTx with
  | .listed o => (s.txEntry o).map (·.frame)
  | .orphan f => some f
  | .idle => none

/-! ### Frames composed by this station (10.3) -/

/-- A frame that carries one tag to one station. -/
def tagFrame (k : FrameKind) (a : Addr) (t : Tag) : Frame := { kind := k, dest := destOf a, payload := tagBytes t }

/-- A frame that carries a tag and one byte. -/
def tagByteFrame (k : FrameKind) (a : Addr) (t : Tag) (b : Byte) : Frame :=
  { kind := k, dest := destOf a, payload := tagBytes t ++ [b] }

/-- BOOK (R141). -/
def bookFrame (a : Addr) (t : Tag) (k : StepKind) (hold : Nat) (renewal : Bool) : Frame :=
  { kind := .book, dest := destOf a,
    payload := tagBytes t ++ [stepKindCode k] ++ bytes16 (BitVec.ofNat 16 hold) ++ [byteOfBool renewal] }

/-- CLAIM with a draw vector (R118). -/
def claimFrame (p : PosIx) (d : Triple) : Frame :=
  { kind := .claim, dest := destAll, payload := [byte p.val, byte d[0], byte d[1], byte d[2]] }

/-- RELEASE. -/
def releaseFrame (p : PosIx) : Frame := { kind := .release, dest := destAll, payload := [byte p.val] }

/-- JOIN with the strapped role. -/
def State.joinFrame (s : State) : Frame := { kind := .join, dest := destAll, payload := [roleCode s.conf.role] }

/-- LEAVE. -/
def leaveFrame : Frame := { kind := .leave, dest := destAll, payload := [] }

/-- CAPACITY. -/
def capacityFrame (b : BudgetIx) (units : BitVec 16) : Frame :=
  { kind := .capacity, dest := destAll, payload := byte b.val :: bytes16 units }

/-- DEPART. -/
def departFrame (a : Addr) : Frame := { kind := .depart, dest := destAll, payload := [byte a.val] }

/-- The number of EMPTY positions. -/
def State.emptyCount (s : State) : Nat := (s.livePositions.filter fun p => decide ((s.pos p).state = .empty)).length

/-- PRESENCE, composed from the station as it stands (R95). -/
def State.presenceFrame (s : State) : Frame :=
  let joined := s.isJoined
  let epoch := if joined then (s.mem.peers[s.conf.address]).epoch else s.mem.lastEpoch
  let seq := if joined then s.bud.seqNo else 0
  { kind := .presence, dest := destAll,
    payload := [peerStateCode (if joined then .joined else .joining), roleCode s.conf.role] ++ bytes16 epoch
      ++ bytes16 s.conf.digest ++ [byte s.emptyCount, byte s.freeCount] ++ bytes32 seq }

/-! ### Steps of a record -/

/-- The current step entry. -/
def Record.step? (r : Record) : Option StepEntry := r.steps[r.current]?

/-- The next step entry (R6). -/
def Record.next? (r : Record) : Option StepEntry := r.steps[r.current + 1]?

/-- The next step exists and is remote to a role (R6). -/
def Record.nextRemote (r : Record) (role : Role) : Bool :=
  match r.next? with
  | some e => decide (stepRole e.kind ≠ role)
  | none => false

/-- The current step needs a booking before its start: it has a max gap and the step after it is remote (R29). -/
def Record.needsBefore (r : Record) (role : Role) : Bool :=
  match r.step? with
  | some e => e.maxGap.isSome && r.nextRemote role
  | none => false

/-- The entry before the current step. -/
def Record.before? (r : Record) : Option StepEntry := if r.current = 0 then none else r.steps[r.current - 1]?

/-- The min gap of the entry before the current step is met or absent (R29, R54). -/
def Record.minGapMet (r : Record) : Bool :=
  match r.before? with
  | some e =>
    match e.minGap with
    | some m => match r.gapElapsed with
      | some g => decide (m.toNat ≤ g.toNat)
      | none => false
    | none => true
  | none => true

/-- The governing entry of an open gap (R51): the current step's where the index stays on the ended step, the one before
otherwise. -/
def Record.governing? (r : Record) : Option StepEntry :=
  match r.state with
  | .ended => r.step?
  | .outbound => r.step?
  | .uncertain => r.step?
  | .queued | .placed | .inbound | .loaded | .waiting | .running | .paused | .finished | .held => r.before?

/-- The states in which the gap timer counts (R52). -/
def gapCounts : RecState → Bool
  | .ended => true | .inbound => true | .loaded => true | .waiting => true | .held => true
  | .queued => false | .placed => false | .outbound => false | .uncertain => false | .running => false
  | .paused => false | .finished => false

/-- The states in which the max gap is checked (R53). -/
def gapChecked : RecState → Bool
  | .ended => true | .inbound => true | .loaded => true | .waiting => true
  | .held => false | .queued => false | .placed => false | .outbound => false | .uncertain => false | .running => false
  | .paused => false | .finished => false

/-- The gap has reached the governing max gap in a checked state without concession (R53): the elapsed seconds. -/
def Record.gapExceeded (r : Record) : Option (BitVec 24) :=
  if r.gapOpen && !r.gapConceded && gapChecked r.state then
    match r.governing?, r.gapElapsed with
    | some e, some g =>
      match e.maxGap with
      | some m => if m.toNat ≤ g.toNat then some g else none
      | none => none
    | _, _ => none
  else none

/-- The record needs a booking (R139). -/
def Record.needsBooking (r : Record) (role : Role) : Bool :=
  match r.state with
  | .loaded => r.needsBefore role && r.minGapMet
  | .ended => r.nextRemote role
  | .queued | .placed | .inbound | .waiting | .running | .paused | .outbound | .uncertain | .finished | .held => false

/-- The hold a BOOK carries (R141), capped at 65535. -/
def Record.hold (r : Record) (margin : Nat) : Nat :=
  let window := match r.step? with
    | some e => (opt16 e.maxGap).toNat
    | none => 0
  let remainder := match r.state with
    | .loaded | .waiting | .running | .paused =>
      match r.step? with
      | some e => if isDose e.kind then (opt16 e.timeLimit).toNat else e.target.toNat - r.accumulated.toNat
      | none => 0
    | .queued | .placed | .inbound | .ended | .outbound | .uncertain | .finished | .held => 0
  min 65535 (remainder + window + margin)

end Sys2Proof.Machine
end

