-- ==== Sys2Proof/Machine/Flags.lean ====
section
/-! DEFINITION. Flag computations: the low indication of the free list (R13), the alarm byte (R188), ATTN (R189), the concession attempts (R63), the port CRC error count (R179). -/

namespace Sys2Proof.Machine

/-- The free count against the low-water mark of 4, judged once at an event, on its final count (R13). -/
def State.judgeSlots (s : State) : State :=
  if s.freeCount ≤ 4 then
    if s.store.lowIndication then s
    else { s with store := { s.store with lowIndication := true } }.post (stationEvent .slotsLow s.freeCount)
  else if s.store.lowIndication then
    { s with store := { s.store with lowIndication := false } }.post (stationEvent .slotsOk s.freeCount)
  else s

/-- The flags byte of READ_ALARMS (10.4). -/
def alarmByte (a : Alarms) : Byte :=
  byte (a.portFault.toNat * 128 + a.eventOverflow.toNat * 64 + a.lineTxFault.toNat * 32 + a.lineRxFault.toNat * 16
    + a.retentionLost.toNat * 8 + a.retentionMismatch.toNat * 4 + a.concessionLocked.toNat * 2 + a.configMismatch.toNat)

/-- At least one alarm flag is set. -/
def alarmAny (a : Alarms) : Bool :=
  a.portFault || a.eventOverflow || a.lineTxFault || a.lineRxFault || a.retentionLost || a.retentionMismatch
    || a.concessionLocked || a.configMismatch

/-- ATTN is asserted while an event is queued or a flag is set (R189). -/
def State.attn (s : State) : Bool := !s.port.events.isEmpty || alarmAny s.port.alarms

/-- A failed code comparison: the attempt count falls by one, and CONCESSION_LOCKED is set when it comes to 0 (R63). -/
def State.failAttempt (s : State) : State :=
  let s := { s with store := { s.store with attempts := s.store.attempts - 1 } }
  if s.store.attempts = 0 then s.alarm fun a => { a with concessionLocked := true } else s

/-- The concession code's place in the staging buffer (R194). -/
def codePlace : Nat := 120

/-- The code presented in the staging buffer equals the concession code, digit for digit (R64, R69). -/
def State.codeMatches (s : State) : Bool :=
  decide (Memory.readList s.staging codePlace 8 = s.conf.items.code.toList)

/-- A port CRC error: the count rises, stopping at 255, and PORT_FAULT is set when it reaches 8 (R179). -/
def State.countCrcError (s : State) : State :=
  let n := s.port.crcErrors
  let s := { s with port := { s.port with crcErrors := min 255 (n + 1) } }
  if n = 7 then s.alarm fun a => { a with portFault := true } else s

end Sys2Proof.Machine
end

