-- ==== Sys2Proof/Machine/Claims.lean ====
section
/-! DEFINITION. The claim state of a position: asking for a claim and giving it up (R130 to R134). -/

namespace Sys2Proof.Machine

/-- The claim state of position p set. -/
def State.setClaim (p : PosIx) (c : ClaimState) (s : State) : State := s.updPos p fun x => { x with claim := c }

/-- The remembered ask of position p set or cleared. -/
def State.setRemembered (p : PosIx) (b : Bool) (s : State) : State := s.updPos p fun x => { x with remembered := b }

/-- A CLAIM with the position's draw vector is queued from the position's origin (R118, R131). -/
def State.queueClaim (p : PosIx) (s : State) : State :=
  (s.queueFrame (.position p) (claimFrame p s.conf.items.draws[p])).setClaim p .claimQueued

/-- The position sequencer asks for a position's claim (R131). -/
def State.askClaim (p : PosIx) (s : State) : State :=
  match (s.pos p).claim with
  | .none => s.queueClaim p
  | .claimQueued => if (s.pos p).withdrawing then s.setRemembered p true else s
  | .releaseQueued => s.setRemembered p true
  | .waiting => s
  | .granted => s

/-- A RELEASE is queued from the position's origin (R132). -/
def State.queueRelease (p : PosIx) (s : State) : State :=
  (s.queueFrame (.position p) (releaseFrame p)).setClaim p .releaseQueued

/-- The position sequencer gives up a position's claim (R132). -/
def State.giveUpClaim (p : PosIx) (s : State) : State :=
  match (s.pos p).claim with
  | .none => s
  | .claimQueued =>
    if (s.pos p).withdrawing then s.setRemembered p false
    else if s.sending (.position p) then
      (s.withdrawTx (.position p)).updPos p fun x => { x with withdrawing := true, remembered := false }
    else (s.removeTx (.position p)).setClaim p .none
  | .waiting => s.queueRelease p
  | .granted => s.queueRelease p
  | .releaseQueued => s.setRemembered p false

/-- The claim of a record's position, if it has one, given up. -/
def State.giveUpClaim? (p : Option PosIx) (s : State) : State :=
  match p with
  | some p => s.giveUpClaim p
  | none => s

/-- A held withdrawal of the position's CLAIM has ended by lost arbitration or void (R133). -/
def State.claimWithdrawn (p : PosIx) (s : State) : State :=
  let asked := (s.pos p).remembered
  let s := s.updPos p fun x => { x with claim := .none, withdrawing := false, remembered := false }
  if asked then s.queueClaim p else s

/-- Every position's claim state NONE with both marks clear, without a frame (R134). -/
def State.dropClaims (s : State) : State :=
  { s with seqr := s.seqr.map fun x => { x with claim := .none, withdrawing := false, remembered := false } }

end Sys2Proof.Machine
end

