-- ==== Sys2Proof/Machine/Booker.lean ====
section
/-! DEFINITION. The booker's side of the hand-off unit: frames of a slot's origin, rounds, renewals, the end of a booking, the start of a transfer (R138 to R150). -/

namespace Sys2Proof.Machine

/-! ### Frames of a slot's origin (R86) -/

/-- The CARRY part of a transfer that is to be sent next (R150): part index and count, and its image bytes. -/
def carryFrame (a : Addr) (p : PosIx) (c : CarryOut) : Frame :=
  { kind := .carry, dest := destOf a,
    payload := [byte (p.val * 16 + c.next), byte c.count] ++ (c.image.drop (14 * c.next)).take 14 }

/-- What a waiting frame of slot h carries, composed from the record as it stands (R141); none where nothing is left to
send. -/
def State.composeWait (s : State) (h : Handle) (w : SlotWait) : Option Frame :=
  match w, s.rec? h with
  | .cancel t a, _ => some (tagFrame .cancel a t)
  | .book, some r =>
    match r.booking, r.next? with
    | .asking _ a, some e => some (bookFrame a r.tag e.kind (r.hold s.conf.items.bookingMargin) false)
    | _, _ => none
  | .renewal, some r =>
    match r.booking, r.next? with
    | .held a _, some e => some (bookFrame a r.tag e.kind (r.hold s.conf.items.bookingMargin) true)
    | _, _ => none
  | .part, some r =>
    match r.booking, r.carry with
    | .held a p, some c => if r.state = .outbound then some (carryFrame a p c) else none
    | _, _ => none
  | .locate, some r =>
    if r.state = .uncertain then some { kind := .locate, dest := destAll, payload := tagBytes r.tag } else none
  | .book, none => none
  | .renewal, none => none
  | .part, none => none
  | .locate, none => none

/-- The first of the waiting frames that still has something to send is queued; the others stay. -/
def State.pumpWaits (h : Handle) : List SlotWait → State → State
  | [], s => s.setWaits h []
  | w :: ws, s =>
    match s.composeWait h w with
    | some f => (s.setWaits h ws).queueFrame (.slot h) f
    | none => State.pumpWaits h ws s

/-- The slot's origin has become free: what waits for it is queued (R86). -/
def State.pumpSlot (h : Handle) (s : State) : State :=
  if s.txHas (.slot h) then s else State.pumpWaits h (s.slot h).waits s

/-- A frame of slot h's origin: queued at once, or behind what the origin holds and what already waits (R86). -/
def State.sendSlot (h : Handle) (w : SlotWait) (s : State) : State :=
  (s.setWaits h ((s.slot h).waits ++ [w])).pumpSlot h

/-- Waiting frames of a kind forgotten. -/
def State.dropWaits (h : Handle) (w : SlotWait) (s : State) : State :=
  s.setWaits h ((s.slot h).waits.filter fun x => decide (x ≠ w))

/-- A pending frame of slot h's origin that is of kind k is withdrawn (R88), and what waits takes its place. -/
def State.withdrawSlot (h : Handle) (k : FrameKind) (s : State) : State :=
  match s.txEntry (.slot h) with
  | some e => if e.frame.kind = k then (s.withdrawTx (.slot h)).pumpSlot h else s
  | none => s

/-! ### Rounds (R138 to R143) -/

/-- The route for a role, in list order: the candidates present (R138). -/
def State.route (s : State) (r : Role) : List Addr := (s.conf.items.routes[roleIx r]).toList.filterMap id

/-- The candidate whose turn comes from index k on: the first not passed over (R138). -/
def State.candidateFrom (s : State) (role : Role) (k : Nat) : Option (Nat × Addr) :=
  ((s.route role).zipIdx 1).findSome? fun (a, i) =>
    if k ≤ i ∧ (s.mem.peers[a]).state = .joined ∧ (s.mem.peers[a]).role = role then some (i, a) else none

/-- A round goes on from candidate k: the BOOK of the next candidate is queued, or the round ends exhausted (R140, R141). -/
def State.roundFrom (h : Handle) (k : Nat) (s : State) : State :=
  match s.rec? h with
  | none => s
  | some r =>
    let cand := match r.next? with
      | some e => s.candidateFrom (stepRole e.kind) k
      | none => none
    match cand with
    | some (i, a) =>
      (s.setRec h { r with booking := .asking i a, answerTimer := none, exhausted := false }).sendSlot h .book
    | none => s.setRec h { r with booking := .none, answerTimer := none, exhausted := true }

/-- A round starts for a record that needs a booking, holds none, and whose station is JOINED (R139). -/
def State.startRound (h : Handle) (s : State) : State :=
  match s.rec? h with
  | none => s
  | some r =>
    if s.isJoined && r.needsBooking s.conf.role && decide (r.booking = .none) then s.roundFrom h 1 else s

/-- Every BOOK of slot h is withdrawn, a round's and a renewal alike: those that wait are forgotten, and one on the list is
withdrawn or, in transmission, held for its withdrawal (R88, R140, R148). -/
def State.withdrawBooks (h : Handle) (s : State) : State :=
  ((s.dropWaits h .book).dropWaits h .renewal).withdrawSlot h .book

/-- A BOOK of a round is on the list from slot h's origin, or waits for it. -/
def State.roundBookPending (s : State) (h : Handle) : Bool :=
  (s.slot h).waits.contains .book
  || (match s.txEntry (.slot h) with
      | some e => decide (e.frame.kind = .book) && decide (e.frame.payload.drop 8 = [0])
      | none => false)

/-- The candidate asked has failed: the round moves to the next (R141). A BOOK already on the list stays, and the next waits
for it (R140). -/
def State.failCandidate (h : Handle) (s : State) : State :=
  match s.rec? h with
  | none => s
  | some r =>
    match r.booking with
    | .asking k _ => (s.dropWaits h .book).roundFrom h (k + 1)
    | .none => s
    | .held _ _ => s

/-- The pending frame of slot h's origin is a renewal BOOK for this tag at this receiver, not being withdrawn. -/
def State.renewalPending (s : State) (h : Handle) (t : Tag) (a : Addr) : Bool :=
  match s.txEntry (.slot h) with
  | some e =>
    decide (e.frame.kind = .book) && decide (e.frame.dest = destOf a) && decide (e.frame.payload.take 5 = tagBytes t)
      && decide (e.frame.payload.drop 8 = [1]) && decide (e.held ≠ .withdraw)
  | none => false

/-- The renewal of a held booking at a resume (R147): a renewal BOOK still pending has its content replaced. -/
def State.sendRenewal (h : Handle) (s : State) : State :=
  match s.rec? h with
  | none => s
  | some r =>
    match r.booking with
    | .held a _ =>
      if s.renewalPending h r.tag a then
        match s.composeWait h .renewal with
        | some f => s.replaceTx (.slot h) f
        | none => s
      else (s.dropWaits h .renewal).sendSlot h .renewal
    | .none => s
    | .asking _ _ => s

/-- The hand-off unit ends any booking the record holds as booker (R58 step 4, R148): a round is abandoned and its answer
timer stops, the slot withdraws its BOOK (R88), be it of a round that runs, of one that has ended, or a renewal, and a held
booking is cancelled. -/
def State.endBooking (h : Handle) (s : State) : State :=
  match s.rec? h with
  | none => s
  | some r =>
    let s := (s.updRec h fun r => { r with booking := .none, exhausted := false, answerTimer := none }).withdrawBooks h
    match r.booking with
    | .none => s
    | .asking _ _ => s
    | .held a _ => s.sendSlot h (.cancel r.tag a)

/-! ### Transfer (R150) -/

/-- The transfer of an ENDED record whose booking is held starts: the image is composed in OUTBOUND (R51, log 23) and
part 0 is queued. -/
def State.startTransfer (h : Handle) (s : State) : State :=
  match s.rec? h with
  | none => s
  | some r =>
    let r := { r with state := .outbound }
    let image := recordImage r
    (s.setRec h { r with carry := some { image := image, next := 0, count := partCount image.length } }).sendSlot h .part

/-- The transfer of an OUTBOUND record ends at the booker: a part still pending is withdrawn, the hand-off timer stops. -/
def State.stopTransfer (h : Handle) (s : State) : State :=
  ((s.dropWaits h .part).withdrawSlot h .carry).updRec h fun r => { r with carry := none, handOffTimer := none }

end Sys2Proof.Machine
end

