-- ==== Sys2Proof/Machine/Holds.lean ====
section
/-! DEFINITION. The shared operations of the sequencer and of the window and hold logic: placement (R23), deviations and HELD (R55 to R60), the entries into the checked states (R53), readiness (R29, R30), step start and step end (R32, R43 to R46). -/

namespace Sys2Proof.Machine

/-! ### Placement (R23) -/

/-- The lowest-numbered EMPTY position. -/
def State.lowestEmpty (s : State) : Option PosIx := s.livePositions.find? fun p => decide ((s.pos p).state = .empty)

/-- The queue head is placed on the lowest EMPTY position, with its PLACE event (R23, R49). -/
def State.placeOne (s : State) : State :=
  match s.lowestEmpty, s.arrivalQueue with
  | some p, h :: _ =>
    match s.rec? h with
    | some r =>
      let s := (s.unqueue h).setRec h { r with state := .placed, position := some p }
      let s := s.updPos p fun x => { x with state := .assigned, link := some h }
      s.post (recordEvent .place (some p) h r.tag r.current)
    | none => s.unqueue h
  | _, _ => s

/-- Placement runs: over and over while a position is EMPTY and the queue is not empty. Eight positions can be placed at
most. -/
def State.placement (s : State) : State := positions.foldl (fun s _ => s.placeOne) s

/-! ### Deviations and HELD (R55, R58, R60) -/

/-- A deviation recorded in the list, or the overflow mark set when it holds 4 (R55). -/
def Record.deviate (r : Record) (k : DevKind) (v : BitVec 24) : Record :=
  if r.deviations.length < 4 then
    { r with deviations := r.deviations ++ [{ kind := k, stepIndex := r.current, value := v }] }
  else { r with overflow := true }

/-- The value of a HELD event: the deviation kind, with 256 added when the deviation set the overflow mark (10.6). -/
def heldValue (r : Record) (k : DevKind) : Nat :=
  (devKindCode k).toNat + (if r.deviations.length < 4 then 0 else 256)

/-- STEP_EN of a record's position low. -/
def State.stopPosition? (p : Option PosIx) (s : State) : State :=
  match p with
  | some p => s.updPos p fun x => { x with stepEn := false }
  | none => s

/-- A record that is not HELD records a deviation and enters HELD (R55, R58, R59). `leaves` says that the entry empties its
position (early removal, R27); a PLACED record gives its position up in any case (R24). A HELD record is left as it is
(R57). Placement is run by the event that causes the entry. -/
def State.enterHeld (h : Handle) (k : DevKind) (v : BitVec 24) (leaves : Bool) (s : State) : State :=
  match s.rec? h with
  | none => s
  | some r =>
    if r.state = .held then s
    else
      let gone := leaves || decide (r.state = .placed)
      let s := s.setRec h { r.deviate k v with heldFrom := some r.state, state := .held }
      let s := (s.giveUpClaim? r.position).stopPosition? r.position
      let s := s.endBooking h
      let s := if r.state = .queued then s.unqueue h else s
      let s := if gone then (s.vacate? r.position .empty).updRec h fun r => { r with position := none } else s
      s.post (recordEvent .held (if gone then none else r.position) h r.tag (heldValue r k))

/-- The gap of a record checked against the governing max gap (R53). -/
def State.checkGap (h : Handle) (s : State) : State :=
  match s.rec? h with
  | none => s
  | some r =>
    match r.gapExceeded with
    | some g => s.enterHeld h .gapExceeded g false
    | none => s

/-! ### Readiness (R29, R30) -/

/-- A LOADED record is ready (R29). -/
def State.ready (s : State) (r : Record) : Bool :=
  decide (r.state = .loaded) && r.minGapMet && s.isJoined
    && (!r.needsBefore s.conf.role || (match r.booking with | .held _ _ => true | .none => false | .asking _ _ => false))

/-- Readiness judged: a ready record's position asks for its claim and the record becomes WAITING (R30). -/
def State.judgeReady (h : Handle) (s : State) : State :=
  match s.rec? h with
  | none => s
  | some r =>
    match r.position with
    | some p => if s.ready r then (s.setRec h { r with state := .waiting }).askClaim p else s
    | none => s

/-! ### Entries into the checked states (R53, R139) -/

/-- The record of slot h takes a state, and the gap is checked at the entry (R53). -/
def State.enterChecked (h : Handle) (st : RecState) (s : State) : State :=
  (s.updRec h fun r => { r with state := st }).checkGap h

/-- Entry into LOADED: gap check, round if a booking is needed, readiness. -/
def State.enterLoaded (h : Handle) (s : State) : State :=
  let s := s.enterChecked h .loaded
  (s.startRound h).judgeReady h

/-- Entry into ENDED: gap check; the transfer starts if the booking is held, and a round if none is (R45, R139, R150). -/
def State.enterEnded (h : Handle) (s : State) : State :=
  let s := s.enterChecked h .ended
  match s.rec? h with
  | some r =>
    if r.state = .ended then
      match r.booking with
      | .held _ _ => s.startTransfer h
      | .none => s.startRound h
      | .asking _ _ => s
    else s
  | none => s

/-! ### Steps -/

/-- Clocks 0, and the position RUNNING or PAUSED by its interlock: a step starts on position p for record h (R32, R44). -/
def State.startStep (p : PosIx) (h : Handle) (s : State) : State :=
  match s.rec? h with
  | none => s
  | some r =>
    let closed := (s.pos p).interlock
    let s := s.updPos p fun x => { x with runClock := 0, pauseClock := 0, silenceClock := 0, stepEn := closed }
    let s := s.setRec h { r with
      state := if closed then .running else .paused, pauseTotal := 0, gapOpen := false, gapConceded := false }
    s.post (recordEvent .stepStarted (some p) h r.tag r.current)

/-- A grant told for position p (R32): the step starts if the position's record is WAITING. -/
def State.tellGrant (p : PosIx) (s : State) : State :=
  match s.working p with
  | some (h, r) => if r.state = .waiting then s.startStep p h else s
  | none => s

/-- The claim is carried over into the next local step: the ended entry has no min gap and the new step needs no booking
before its start (R44). -/
def Record.carriesOver (r : Record) (ended : StepEntry) (role : Role) : Bool :=
  ended.minGap.isNone && !r.needsBefore role

/-- The step of the record on position p ends (R43): STEP_EN low, STEP_ENDED, gap at 0; then by the next step the record
advances (R44), waits for transfer (R45) or is finished (R46). -/
def State.endStep (p : PosIx) (h : Handle) (s : State) : State :=
  match s.rec? h with
  | none => s
  | some r =>
    match r.step? with
    | none => s
    | some e =>
      let s := s.updPos p fun x => { x with stepEn := false }
      let s := s.post (recordEvent .stepEnded (some p) h r.tag r.accumulated.toNat)
      let r := { r with gapElapsed := some 0, gapFrac := 0 }
      match r.next? with
      | none => (s.setRec h { r with state := .finished, gapOpen := false }).giveUpClaim p
      | some n =>
        if stepRole n.kind = s.conf.role then
          let r := { r with current := r.current + 1, accumulated := 0, gapOpen := true }
          if r.carriesOver e s.conf.role then (s.setRec h r).startStep p h
          else ((s.setRec h { r with state := .loaded }).giveUpClaim p).enterLoaded h
        else ((s.setRec h { r with state := .ended, gapOpen := true }).giveUpClaim p).enterEnded h

/-- A step fault of position p (R42): handed to the window and hold logic with its value. -/
def State.stepFault (p : PosIx) (h : Handle) (k : DevKind) (v : BitVec 24) (s : State) : State :=
  (s.updPos p fun x => { x with stepEn := false }).enterHeld h k v false

/-! ### The booking dropped from the other side (R149) -/

/-- A booking HELD at D is dropped: by a CANCEL from D, a renewal D refused, or the departure of D (R149). -/
def State.dropBooking (h : Handle) (s : State) : State :=
  match s.rec? h with
  | none => s
  | some r =>
    let dropped := s.setRec h { r with booking := .none, exhausted := false }
    match r.state with
    | .running => dropped
    | .paused => dropped
    | .loaded => dropped.enterLoaded h
    | .waiting => (dropped.giveUpClaim? r.position).enterLoaded h
    | .ended => dropped.enterEnded h
    | .outbound => (dropped.stopTransfer h).enterEnded h
    | .queued | .placed | .inbound | .uncertain | .finished | .held => s

end Sys2Proof.Machine
end

