-- ==== Sys2Proof/Machine/Table.lean ====
section
/-! DEFINITION. The budget table as a function of the frames that appear (R119 to R127): one text for a joined replica and for a joiner that applies its pending buffer (R106). -/

namespace Sys2Proof.Machine

/-- The entry draws from budget b (R118). -/
def ClaimEntry.drawsFrom (e : ClaimEntry) (b : BudgetIx) : Bool := decide (0 < e.draws[b])

/-- The granted sum of budget b: the draws of the GRANTED entries (R119). -/
def grantedSum (l : List ClaimEntry) (b : BudgetIx) : Nat :=
  (l.map fun e => if e.status = .granted then e.draws[b] else 0).sum

/-- A draw exceeds its budget's capacity (R122): the lowest-numbered such budget (R129). -/
def oversizeBudget (caps draws : Triple) : Option BudgetIx := budgets.find? fun b => decide (caps[b] < draws[b])

/-- The walk of the grant scan (R126): `sums` are the granted sums so far, `blocked` the blocked budgets. It gives the
entries with their new statuses and, oldest first, the entries it granted. -/
def scanFrom (caps : Triple) (sums : BudgetIx → Nat) (blocked : BudgetIx → Bool) :
    List ClaimEntry → List ClaimEntry × List ClaimEntry
  | [] => ([], [])
  | e :: rest =>
    if e.status = .granted then
      let (l, g) := scanFrom caps sums blocked rest
      (e :: l, g)
    else if budgets.any (fun b => e.drawsFrom b && blocked b) then
      let (l, g) := scanFrom caps sums (fun b => blocked b || e.drawsFrom b) rest
      (e :: l, g)
    else if budgets.all (fun b => !e.drawsFrom b || decide (sums b + e.draws[b] ≤ caps[b])) then
      let e' := { e with status := .granted }
      let (l, g) := scanFrom caps (fun b => sums b + e.draws[b]) blocked rest
      (e' :: l, e' :: g)
    else
      let (l, g) := scanFrom caps sums (fun b => blocked b || e.drawsFrom b) rest
      (e :: l, g)

/-- One run of the grant scan over the table (R126). -/
def grantScan (caps : Triple) (l : List ClaimEntry) : List ClaimEntry × List ClaimEntry :=
  scanFrom caps (grantedSum l) (fun _ => false) l

/-- What became of a CLAIM (R122). -/
inductive ClaimOutcome where
  | ignored
  | duplicate (standing : ClaimStatus)
  | oversize (budget : BudgetIx)
  | appended
  deriving DecidableEq, Repr

/-- The outcome of one replicated frame: the table after it, the entries granted by its scan oldest first, what became of
a CLAIM, and the WAITING entries a CAPACITY removed as oversize. -/
structure TableStep where
  table : BudgetTable
  granted : List ClaimEntry
  claim : ClaimOutcome
  removed : List ClaimEntry
  deriving DecidableEq, Repr

/-- A table with no further change. -/
def TableStep.still (t : BudgetTable) (c : ClaimOutcome) : TableStep := { table := t, granted := [], claim := c, removed := [] }

/-- The scan run over a table (R126). -/
def TableStep.scanned (t : BudgetTable) (c : ClaimOutcome) (removed : List ClaimEntry) : TableStep :=
  { table := { t with entries := (grantScan t.capacities t.entries).1 }
    granted := (grantScan t.capacities t.entries).2, claim := c, removed := removed }

/-- The entry for a station and position. -/
def ClaimEntry.isFor (e : ClaimEntry) (a : Addr) (p : PosIx) : Bool := decide (e.station = a) && decide (e.position = p)

/-- A CLAIM (R122), after the rise of the sequence number. -/
def applyClaim (t : BudgetTable) (sender : Addr) (payload : List Byte) : TableStep :=
  match claimPayload payload with
  | none => .still t .ignored
  | some (p, d) =>
    match t.entries.find? (·.isFor sender p) with
    | some e => .still t (.duplicate e.status)
    | none =>
      match oversizeBudget t.capacities d with
      | some b => .still t (.oversize b)
      | none =>
        .scanned { t with entries := t.entries ++
          [{ station := sender, position := p, draws := d, status := .waiting, order := t.seqNo }] } .appended []

/-- A RELEASE (R123). -/
def applyRelease (t : BudgetTable) (sender : Addr) (payload : List Byte) : TableStep :=
  match releasePayload payload with
  | none => .still t .ignored
  | some p =>
    if t.entries.any (·.isFor sender p) then
      .scanned { t with entries := t.entries.filter fun e => !e.isFor sender p } .ignored []
    else .still t .ignored

/-- A CAPACITY (R124). -/
def applyCapacity (t : BudgetTable) (payload : List Byte) : TableStep :=
  match capacityPayload payload with
  | none => .still t .ignored
  | some (b, units) =>
    let tooBig (e : ClaimEntry) : Bool := decide (e.status = .waiting) && decide (units < e.draws[b])
    .scanned { t with capacities := t.capacities.set b units, entries := t.entries.filter fun e => !tooBig e } .ignored
      (t.entries.filter tooBig)

/-- A DEPART, LEAVE or JOIN for address a (R125). -/
def applyGone (t : BudgetTable) (a : Addr) : TableStep :=
  .scanned { t with entries := t.entries.filter fun e => decide (e.station ≠ a) } .ignored []

/-- A replicated frame applied to the table: the sequence number rises by one whatever the frame does (R120), then the
frame acts (R122 to R125). A payload out of range acts no further (R80). Other kinds are not the table's. -/
def applyFrame (t : BudgetTable) (f : BufferedFrame) : TableStep :=
  let t := if kindReplicated f.kind then { t with seqNo := t.seqNo + 1 } else t
  match f.kind with
  | .claim => applyClaim t f.sender f.payload
  | .release => applyRelease t f.sender f.payload
  | .capacity => applyCapacity t f.payload
  | .depart =>
    match departPayload f.payload with
    | some a => applyGone t a
    | none => .still t .ignored
  | .leave => if f.payload = [] then applyGone t f.sender else .still t .ignored
  | .join => if (joinPayload f.payload).isSome then applyGone t f.sender else .still t .ignored
  | .taken | .reject | .booked | .refused | .found | .book | .cancel | .locate | .carry | .snapHead | .snapPart
  | .presence => .still t .ignored

/-! ### What a position is told (R128, R129, R133) -/

/-- An entry of this station granted by the scan (R128): told only where the position's claim state is WAITING. -/
def State.tellEntry (s : State) (e : ClaimEntry) : State :=
  if e.station = s.conf.address ∧ (s.pos e.position).claim = .waiting then
    (s.setClaim e.position .granted).tellGrant e.position
  else s

/-- The grants of one scan told in the order the scan made them (R128). -/
def State.tellGrants (l : List ClaimEntry) (s : State) : State := l.foldl State.tellEntry s

/-- CLAIM_OVERSIZE reported to a position (R129): recorded if its record is WAITING (R57). -/
def State.reportOversize (p : PosIx) (b : BudgetIx) (s : State) : State :=
  match s.working p with
  | some (h, r) => if r.state = .waiting then s.enterHeld h .claimOversize (BitVec.ofNat 24 b.val) false else s
  | none => s

/-- An entry now stands for this position's own CLAIM in CLAIM_QUEUED (R133): without the mark the state follows the
entry; with the mark and a remembered ask the entry satisfies the ask; with the mark alone a RELEASE is queued at once. A
duplicate with the mark is treated alike (log 20). -/
def State.claimStands (p : PosIx) (st : ClaimState) (s : State) : State :=
  let x := s.pos p
  if x.withdrawing && !x.remembered then
    (s.updPos p fun x => { x with withdrawing := false }).queueRelease p
  else s.updPos p fun x => { x with claim := st, withdrawing := false, remembered := false }

/-- The claim state a standing entry gives. -/
def claimOfStatus : ClaimStatus → ClaimState
  | .waiting => .waiting
  | .granted => .granted

/-- The station's own CLAIM has appeared (R133), before grants are told. -/
def State.ownClaim (payload : List Byte) (c : ClaimOutcome) (s : State) : State :=
  match claimPayload payload with
  | none => s
  | some (p, _) =>
    if (s.pos p).claim = .claimQueued then
      match c with
      | .appended => s.claimStands p .waiting
      | .duplicate st => s.claimStands p (claimOfStatus st)
      | .oversize b =>
        (s.updPos p fun x => { x with claim := .none, withdrawing := false, remembered := false }).reportOversize p b
      | .ignored => s
    else s

/-- The station's own RELEASE has appeared (R133): a remembered ask queues a new CLAIM. -/
def State.ownRelease (payload : List Byte) (s : State) : State :=
  match releasePayload payload with
  | none => s
  | some p =>
    if (s.pos p).claim = .releaseQueued then
      let asked := (s.pos p).remembered
      let s := s.updPos p fun x => { x with claim := .none, remembered := false }
      if asked then s.queueClaim p else s
    else s

/-- A WAITING entry of this station was removed as oversize by a CAPACITY (R124, R133). -/
def State.ownRemoved (caps : Triple) (s : State) (e : ClaimEntry) : State :=
  if e.station = s.conf.address then
    let s := if (s.pos e.position).claim = .waiting then s.setClaim e.position .none else s
    match oversizeBudget caps e.draws with
    | some b => s.reportOversize e.position b
    | none => s
  else s

/-- A JOINED station's budget unit takes a replicated frame (R120 to R125, R128, R129, R133). `own` says that the sender
is this station. Entries that one CAPACITY removes are reported oldest first: the model's choice (log 49). -/
def State.takeReplicated (f : BufferedFrame) (own : Bool) (s : State) : State :=
  let step := applyFrame s.bud f
  let s := { s with bud := step.table }
  let s := if own && decide (f.kind = .claim) then s.ownClaim f.payload step.claim else s
  let s := step.removed.foldl (State.ownRemoved step.table.capacities) s
  let s := s.tellGrants step.granted
  if own && decide (f.kind = .release) then s.ownRelease f.payload else s

/-- The table discarded with its capacities, entries and sequence number (R121), which then stand at 0 (log 53). -/
def State.dropTable (s : State) : State := { s with bud := BudgetTable.empty }

end Sys2Proof.Machine
end

