-- ==== Sys2Proof/Machine/Receiver.lean ====
section
/-! DEFINITION. The hand-off unit at an appearance: the receiver's booking list and assemblies, answers at the booker, departures, the detach (R142, R144 to R160). -/

namespace Sys2Proof.Machine

/-! ### Booking entries (R146) -/

/-- The entry is CLOSING. -/
def Booking.isClosing (b : Booking) : Bool :=
  match b.status with
  | .closing _ _ => true
  | .offered => false | .standing => false | .assembling _ => false

/-- The entry's TAKEN frame (R152). -/
def Booking.takenFrame (b : Booking) : Frame := tagFrame .taken b.booker b.tag

/-- The entry is CLOSING and its TAKEN is in transmission (R159, R160). -/
def State.takenOut (s : State) (b : Booking) : Bool := b.isClosing && decide (s.frameOut = some b.takenFrame)

/-- Entries leave the booking list: their positions become EMPTY and their slots FREE, in increasing slot order (R11,
R146). -/
def State.dropEntries (cond : Booking → Bool) (s : State) : State :=
  let gone := s.bookings.filter cond
  let s := { s with bookings := s.bookings.filter fun b => !cond b }
  let s := gone.foldl (fun s b => s.vacate b.position .empty) s
  (handles.filter fun h => gone.any fun b => decide (b.slot = h)).foldl (fun s h => s.freeSlot h) s

/-- The status of the entries that satisfy a condition set. -/
def State.setStatus (cond : Booking → Bool) (st : BookingStatus) (s : State) : State :=
  { s with bookings := s.bookings.map fun b => if cond b then { b with status := st } else b }

/-- A TAKEN that left the line without appearing: its CLOSING entry is removed then (R159, R160, R161) and the slots are
judged (R13). In SAVING no event is posted and no placement runs (R173). -/
def State.takenFailed (f : Frame) (s : State) : State :=
  let s := (s.dropEntries fun b => b.isClosing && decide (b.takenFrame = f)).judgeSlots
  if s.isActive then s.placement else s

/-- A record deleted: its slot goes to the head of the free list (R11, R18). -/
def State.deleteRecord (h : Handle) (s : State) : State := s.freeSlot h

/-! ### BOOK at the receiver (R145, R147) -/

/-- A REFUSED answer. -/
def State.answerRefused (a : Addr) (t : Tag) (r : Reason) (s : State) : State :=
  s.queueAnswer (tagByteFrame .refused a t (reasonCode r))

/-- Line 10 of R145: position, slot and entry reserved, BOOKED queued, the free count judged (R13). -/
def State.reserve (a : Addr) (q : BookRequest) (p : PosIx) (s : State) : State :=
  match s.takeSlot with
  | none => s
  | some (h, s1) =>
    let s : State := s1.setSlot h { s1.slot h with state := .reserved }
    let s := s.updPos p fun x => { x with state := .booked, link := none }
    let entry : Booking := { tag := q.tag, booker := a, position := p, slot := h, kind := q.kind, hold := q.hold,
                             timer := 0, status := .offered }
    let s : State := { s with bookings := s.bookings ++ [entry] }
    (s.queueAnswer (tagByteFrame .booked a q.tag (byte p.val))).judgeSlots

/-- Line 5 of R145: the renewal of R147, whatever the entry's status (log 19). -/
def State.renewEntry (a : Addr) (q : BookRequest) (b : Booking) (s : State) : State :=
  let s : State := { s with bookings := s.bookings.map fun (x : Booking) =>
    if x.tag = q.tag ∧ x.booker = a then { x with hold := q.hold, timer := 0 } else x }
  s.queueAnswer (tagByteFrame .booked a q.tag (byte b.position.val))

/-- A BOOK addressed to this station, judged in the order of R145. -/
def State.takeBook (a : Addr) (q : BookRequest) (s : State) : State :=
  match s.mem.line with
  | .detached | .out | .mismatch | .config | .saving | .dormant => s
  | .joining => s.answerRefused a q.tag .notJoined
  | .joined =>
    if stepRole q.kind ≠ s.conf.role then s.answerRefused a q.tag .wrongRole
    else if (s.resident q.tag).isSome then s.answerRefused a q.tag .duplicateTag
    else
      match s.bookings.find? fun b => decide (b.tag = q.tag) && decide (b.booker = a) with
      | some b => s.renewEntry a q b
      | none =>
        if q.renewal then s.answerRefused a q.tag .notBooked
        else
          match s.lowestEmpty with
          | none => s.answerRefused a q.tag .noPosition
          | some p =>
            if s.freeCount = 0 then s.answerRefused a q.tag .noSlot
            else if s.freeAnswer.isNone then s
            else s.reserve a q p

/-! ### CARRY at the receiver (R151, R152) -/

/-- The stations that queue no answer of their own accord: DETACHED, OUT, MISMATCH (R142, R151). -/
def State.silent (s : State) : Bool :=
  match s.mem.line with
  | .detached => true | .out => true | .mismatch => true
  | .config => false | .joining => false | .joined => false | .saving => false | .dormant => false

/-- The five tag bytes at the front of a part's data; bytes the data does not hold are free (log 17). -/
def partTag (data : List Byte) : List Byte :=
  data.take 5 ++ ((List.range 5).drop data.length).map Config.shortTagByte

/-- REJECT (R151). -/
def rejectFrame (a : Addr) (tag : List Byte) (r : Reason) : Frame :=
  { kind := .reject, dest := destOf a, payload := tag ++ [reasonCode r] }

/-- The checks of a complete image, in the order of R152: the reason of the first that fails. -/
def State.imageFault (s : State) (b : Booking) (im : List Byte) : Option Reason :=
  let cur := (imageByte im 14).toNat
  if !(imageWellFormed im && imageCrcOk im) then some .badImage
  else if im.take 5 ≠ tagBytes b.tag then some .badImage
  else if (s.resident b.tag).isSome then some .duplicateTag
  else if ¬(cur + 1 < (imageByte im 13).toNat ∧ imageByte im (24 + 10 * (cur + 1)) = stepKindCode b.kind
      ∧ stepRole b.kind = s.conf.role) then some .badImage
  else if (decodeImage im).isNone then some .badImage
  else none

/-- The entry b itself, found again by tag and booker. -/
def Booking.same (b x : Booking) : Bool := decide (x.tag = b.tag) && decide (x.booker = b.booker)

/-- The assembly of entry b is complete (R152). With the answer list full the entry returns to STANDING. -/
def State.completeImage (b : Booking) (im : List Byte) (s : State) : State :=
  if s.freeAnswer.isNone then s.setStatus b.same .standing
  else
    let answer := match s.imageFault b im with
      | some r => rejectFrame b.booker (tagBytes b.tag) r
      | none => b.takenFrame
    (s.setStatus b.same (.closing im false)).queueAnswer answer

/-- An assembly with one more part. -/
def State.takePart (b : Booking) (a : Assembly) (s : State) : State :=
  if a.next = a.count then s.completeImage b a.data else s.setStatus b.same (.assembling a)

/-- REJECT(BAD_IMAGE) for an open assembly: closed to further parts, or discarded when the answer list is full (R151). -/
def State.rejectOpen (b : Booking) (s : State) : State :=
  if s.freeAnswer.isNone then s.setStatus b.same .standing
  else (s.setStatus b.same (.closing [] false)).queueAnswer (rejectFrame b.booker (tagBytes b.tag) .badImage)

/-- Part 0 (R151, first three lines). A count of 1 opens an assembly, as R151 gives for counts 1 to 8, though no image is
short enough for it (log 45). -/
def State.takeFirstPart (a : Addr) (c : CarryPart) (s : State) : State :=
  let entry := s.bookings.find? fun b =>
    decide (b.position = c.position) && decide (b.booker = a) && decide (b.status = .standing)
  if s.silent then s
  else
    match entry with
    | some b =>
      if 1 ≤ c.count ∧ c.count ≤ 8 ∧ c.lengthOk then
        s.takePart b { count := c.count, next := 1, data := c.data, gap := 0 }
      else if s.freeAnswer.isNone then s
      else (s.setStatus b.same (.closing [] false)).queueAnswer (rejectFrame a (partTag c.data) .badImage)
    | none => s.queueAnswer (rejectFrame a (partTag c.data) .notBooked)

/-- A part with an index above 0 (R151, last three lines). -/
def State.takeLaterPart (a : Addr) (c : CarryPart) (s : State) : State :=
  match s.bookings.find? fun b => decide (b.position = c.position) && decide (b.booker = a) with
  | some b =>
    match b.status with
    | .assembling x =>
      if c.index = x.next ∧ c.count = x.count ∧ c.lengthOk then
        s.takePart b { x with next := x.next + 1, data := x.data ++ c.data, gap := 0 }
      else s.rejectOpen b
    | .offered => s
    | .standing => s
    | .closing _ _ => s
  | none => s

/-- A CARRY part addressed to this station (R151). -/
def State.takeCarry (a : Addr) (c : CarryPart) (s : State) : State :=
  if c.index = 0 then s.takeFirstPart a c else s.takeLaterPart a c

/-! ### TAKEN and REJECT at the receiver (R153, R155) -/

/-- The record a complete image gives at the receiver (R153 steps 2 and 3). That an image with gap elapsed absent passes the
checks of R152, and its record's timer then starts from 0, is the model's choice (log 48). -/
def receivedRecord (b : Booking) (r : Record) : Record :=
  { r with current := r.current + 1, accumulated := 0, pauseTotal := 0, gapOpen := true,
           gapElapsed := some (r.gapElapsed.getD 0), gapFrac := 0, heldFrom := none, state := .inbound,
           position := some b.position }

/-- The receiver's own TAKEN for its CLOSING entry (R153). -/
def State.receiveRecord (f : Frame) (s : State) : State :=
  match s.bookings.find? fun b => b.isClosing && decide (b.takenFrame = f) with
  | none => s
  | some b =>
    match b.status with
    | .closing im _ =>
      match decodeImage im with
      | some r =>
        let r := receivedRecord b r
        let s := s.setRec b.slot r
        let s := s.updPos b.position fun x => { x with state := .assigned, link := some b.slot }
        let s := { s with bookings := s.bookings.filter fun x => !b.same x }
        (s.post (recordEvent .inbound (some b.position) b.slot r.tag b.booker.val)).checkGap b.slot
      | none => s
    | .offered => s
    | .standing => s
    | .assembling _ => s

/-- The receiver's own REJECT (R155): a CLOSING entry for that tag and booker is removed, unless the reason is NOT_BOOKED,
which had no entry behind it. -/
def State.closeRejected (f : Frame) (s : State) : State :=
  if f.payload.drop 5 = [reasonCode .notBooked] then s
  else
    (s.dropEntries fun b =>
      b.isClosing && decide (f.dest = destOf b.booker) && decide (f.payload.take 5 = tagBytes b.tag)).judgeSlots.placement

/-! ### Answers at the booker (R141, R142, R154, R155, R158) -/

/-- The record a matched answer is for (R141): ASKING the sender with its answer timer running. -/
def State.matched (s : State) (a : Addr) (t : Tag) : Option (Handle × Record) :=
  match s.resident t with
  | some h =>
    match s.rec? h with
    | some r =>
      match r.booking with
      | .asking _ c => if c = a ∧ r.answerTimer.isSome then some (h, r) else none
      | .none => none
      | .held _ _ => none
    | none => none
  | none => none

/-- The record with a tag whose booking is HELD at a receiver. -/
def State.bookedAt (s : State) (a : Addr) (t : Tag) : Option Handle :=
  match s.resident t with
  | some h =>
    match s.rec? h with
    | some r =>
      match r.booking with
      | .held d _ => if d = a then some h else none
      | .none => none
      | .asking _ _ => none
    | none => none
  | none => none

/-- BOOKED addressed to this station (R141, R142). -/
def State.takeBooked (a : Addr) (t : Tag) (p : PosIx) (s : State) : State :=
  match s.matched a t with
  | some (h, r) =>
    let s := s.setRec h { r with booking := .held a p, answerTimer := none, exhausted := false }
    match r.state with
    | .loaded => s.judgeReady h
    | .ended => s.startTransfer h
    | .queued | .placed | .inbound | .waiting | .running | .paused | .outbound | .uncertain | .finished | .held => s
  | none =>
    match s.bookedAt a t with
    | some _ => s
    | none => if s.silent then s else s.queueAnswer (tagFrame .cancel a t)

/-- REFUSED addressed to this station (R141, R142, R147). -/
def State.takeRefused (a : Addr) (t : Tag) (s : State) : State :=
  match s.matched a t with
  | some (h, _) => s.failCandidate h
  | none =>
    match s.bookedAt a t with
    | some h => s.dropBooking h
    | none => s

/-- The record TAKEN settles at the booker: OUTBOUND toward the sender, or UNCERTAIN (R154). -/
def Record.takenBy (r : Record) (a : Addr) : Bool :=
  match r.state, r.booking with
  | .outbound, .held d _ => decide (d = a)
  | .outbound, _ => false
  | .uncertain, _ => true
  | _, _ => false

/-- TAKEN addressed to this station as booker (R154). -/
def State.handOver (a : Addr) (t : Tag) (s : State) : State :=
  if !s.isJoined then s
  else
    match s.resident t with
    | none => s
    | some h =>
      match s.rec? h with
      | none => s
      | some r =>
        if r.takenBy a then
          let s := s.post (recordEvent .handoffDone r.position h r.tag a.val)
          let s := s.vacate? r.position .clearing
          let s := (s.dropWaits h .locate).withdrawSlot h .locate
          (s.deleteRecord h).judgeSlots
        else s

/-- REJECT addressed to this station as booker (R155). -/
def State.rejected (a : Addr) (t : Tag) (reason : Byte) (s : State) : State :=
  match s.bookedAt a t with
  | none => s
  | some h =>
    if s.recIn h .outbound then
      ((s.stopTransfer h).updRec h fun r => { r with booking := .none }).enterHeld h .handoffRejected
        (reason.setWidth 24) false
    else s

/-- FOUND addressed to this station (R158). -/
def State.found (a : Addr) (t : Tag) (s : State) : State :=
  match s.resident t with
  | none => s
  | some h =>
    if s.recIn h .uncertain then
      ((s.post (recordEvent .locateResult none h t (256 + a.val))).deleteRecord h).judgeSlots
    else s

/-- LOCATE from another station (R157). -/
def State.answerLocate (a : Addr) (t : Tag) (s : State) : State :=
  if !s.isJoined then s
  else
    match s.resident t with
    | none => s
    | some h => if s.recIn h .uncertain then s else s.queueAnswer (tagFrame .found a t)

/-- CANCEL at the receiver (R148). -/
def State.cancelEntry (a : Addr) (t : Tag) (s : State) : State :=
  match s.bookings.find? fun b => decide (b.tag = t) && decide (b.booker = a) with
  | none => s
  | some b =>
    if b.isClosing then s
    else
      let s := if b.status = .offered then
          s.withdrawAnswers fun f => decide (f = tagByteFrame .booked a t (byte b.position.val))
        else s
      (s.dropEntries b.same).judgeSlots.placement

/-- CANCEL at the booker (R149): the booking with D dropped, or an UNCERTAIN record sent toward D back to ENDED. -/
def State.cancelBooking (a : Addr) (t : Tag) (s : State) : State :=
  match s.bookedAt a t with
  | some h => s.dropBooking h
  | none =>
    match s.resident t with
    | none => s
    | some h =>
      match s.rec? h with
      | none => s
      | some r =>
        if r.state = .uncertain ∧ r.sentToward = some a then
          let s := (s.dropWaits h .locate).withdrawSlot h .locate
          (s.updRec h fun r => { r with locateTimer := none, sentToward := none, booking := .none }).enterEnded h
        else s

/-! ### Departures (R159) and the loss of the line (R160) -/

/-- What a departure of a does to the record of slot h (R159). -/
def State.departRecord (a : Addr) (s : State) (h : Handle) : State :=
  match s.rec? h with
  | none => s
  | some r =>
    match r.booking with
    | .asking _ c => if c = a then s.failCandidate h else s
    | .held d _ => if d = a then s.dropBooking h else s
    | .none => s

/-- The hand-off unit at a DEPART naming a, a LEAVE or a JOIN from a (R159), for a JOINED station other than a. The slot
count and placement are the event's. -/
def State.departHandoff (a : Addr) (s : State) : State :=
  let s := handles.foldl (State.departRecord a) s
  let s := s.dropEntries fun b => decide (b.booker = a) && !s.takenOut b
  s.withdrawAnswers fun f => decide (f.dest = destOf a)

/-- A record at the loss of the line (R111, R160): bookings and timers end, an OUTBOUND record becomes UNCERTAIN with no
sent-toward address and no position. -/
def Record.loseLine (r : Record) : Record :=
  let r := { r with booking := .none, exhausted := false, answerTimer := none, handOffTimer := none, locateTimer := none,
                    carry := none }
  if r.state = .outbound then { r with state := .uncertain, position := none, sentToward := none } else r

/-- The record of a slot changed by f. -/
def SlotState.mapRec (f : Record → Record) : SlotState → SlotState
  | .inUse r => .inUse (f r)
  | .reserved => .reserved
  | .free => .free

/-- The position of an OUTBOUND record becomes CLEARING (R28). -/
def State.clearOutbound (s : State) (p : PosIx) : State :=
  match (s.pos p).link with
  | some h => if s.recIn h .outbound then s.vacate p .clearing else s
  | none => s

/-- The hand-off unit at the station's own detach or LEAVE (R160). -/
def State.loseHandoff (s : State) : State :=
  let s : State := positions.foldl State.clearOutbound s
  let slots := s.store.slots.map fun (x : Slot) => { x with state := x.state.mapRec Record.loseLine }
  { s with store := { s.store with slots := slots } }.dropEntries fun b => !s.takenOut b

end Sys2Proof.Machine
end

