-- ==== Sys2Proof/Machine/Membership.lean ====
section
/-! DEFINITION. The membership unit's operations: the peer list, the upkeep origin, serving a joiner, joining and rejoining, completing a join, and the loss of the line (R92 to R116). -/

namespace Sys2Proof.Machine

/-! ### The peer list (R93 to R101) -/

/-- The peer entry of address a. -/
def State.peer (s : State) (a : Addr) : Peer := s.mem.peers[a]

/-- The peer entry of address a changed by f. -/
def State.updPeer (a : Addr) (f : Peer → Peer) (s : State) : State :=
  { s with mem := { s.mem with peers := s.mem.peers.set a (f s.mem.peers[a]) } }

/-- The line state set. -/
def State.setLine (l : LineState) (s : State) : State := { s with mem := { s.mem with line := l } }

/-- An epoch raised by one, from 65535 to 1 (R94). -/
def nextEpoch (e : BitVec 16) : BitVec 16 := if e = 65535 then 1 else e + 1

/-- The causes of PEER_GONE (10.6). -/
inductive GoneCause where
  | depart | leave
  deriving DecidableEq, Repr

/-- The code of a PEER_GONE cause (10.6). -/
def goneCode : GoneCause → Nat
  | .depart => 1
  | .leave => 2

/-- A peer entry become ABSENT: its epoch stays (R99). -/
def Peer.gone (p : Peer) : Peer := { p with state := .absent, timer := none, freePositions := 0, freeSlots := 0 }

/-- The peer list at a DEPART naming a or a LEAVE from a, with PEER_GONE where a was on the list (R99, R100). -/
def State.peerGone (a : Addr) (c : GoneCause) (s : State) : State :=
  if (s.peer a).state = .absent then s
  else (s.updPeer a Peer.gone).post (stationEvent .peerGone (a.val * 256 + goneCode c))

/-- A peer entry at its station's JOIN (R101). -/
def Peer.joins (role : Role) (p : Peer) : Peer :=
  { p with state := .joining, epoch := nextEpoch p.epoch, role := role, freePositions := 0, freeSlots := 0, timer := some 0 }

/-- PEER_JOINED carries the address times 65,536 plus the epoch (10.6). -/
def State.postPeerJoined (a : Addr) (s : State) : State :=
  s.post (stationEvent .peerJoined (a.val * 65536 + (s.peer a).epoch.toNat))

/-- The peer list at a JOIN from a (R101). -/
def State.peerJoins (a : Addr) (role : Role) (s : State) : State := (s.updPeer a (Peer.joins role)).postPeerJoined a

/-- A peer entry takes what a PRESENCE carries (R96). -/
def Peer.report (q : PresenceReport) (p : Peer) : Peer :=
  { p with role := q.role, freePositions := q.freePositions, freeSlots := q.freeSlots, seqNo := q.seqNo,
           state := if q.joined then .joined else p.state, epoch := if q.joined then q.epoch else p.epoch }

/-- A PRESENCE applied to its sender's entry (R96). -/
def State.applyPresence (a : Addr) (q : PresenceReport) (s : State) : State :=
  if (s.peer a).state = .absent then
    if q.joined then (s.updPeer a fun p => { p.report q with timer := some 0 }).postPeerJoined a else s
  else s.updPeer a (Peer.report q)

/-- A record waiting after an exhausted round that a PRESENCE from a restarts (R143). -/
def State.restartRound (a : Addr) (s : State) (h : Handle) : State :=
  match s.rec? h with
  | none => s
  | some r =>
    let inRoute := match r.next? with
      | some e => (s.route (stepRole e.kind)).contains a
      | none => false
    if r.exhausted && decide (r.booking = .none) && r.needsBooking s.conf.role && inRoute then s.roundFrom h 1 else s

/-- The rounds that a PRESENCE taken into the list restarts, in increasing handle order (R143). -/
def State.restartRounds (a : Addr) (q : PresenceReport) (s : State) : State :=
  if q.joined && decide (1 ≤ q.freePositions) && decide (1 ≤ q.freeSlots) then handles.foldl (State.restartRound a) s else s

/-- A frame of address a has appeared: a running departure timer restarts at 0 and a DEPART pending for a is withdrawn
(R97, R98). -/
def State.noteSender (a : Addr) (s : State) : State :=
  if s.isJoined && decide (a ≠ s.conf.address) then
    (s.updPeer a fun p => { p with timer := p.timer.map fun _ => 0 }).withdrawTx (.departure a)
  else s

/-! ### The upkeep origin (R86, R88) -/

/-- JOIN or LEAVE queued from the upkeep origin, or kept until that origin is free. -/
def State.sendUpkeep (f : Frame) (s : State) : State :=
  if s.txHas .upkeep then { s with mem := { s.mem with upkeepNext := some f } } else s.queueFrame .upkeep f

/-- The upkeep origin has become free: the frame waiting for it is queued. -/
def State.pumpUpkeep (s : State) : State :=
  match s.mem.upkeepNext with
  | some f => if s.txHas .upkeep then s else { s with mem := { s.mem with upkeepNext := none } }.queueFrame .upkeep f
  | none => s

/-- The upkeep origin's frame withdrawn where it is of one of the kinds given (R88). -/
def State.withdrawUpkeep (kinds : List FrameKind) (s : State) : State :=
  match s.txEntry .upkeep with
  | some e => if e.frame.kind ∈ kinds then s.withdrawTx .upkeep else s
  | none => s

/-! ### Serving a joiner (R102, R103) -/

/-- Serving stops, and a snapshot frame pending is withdrawn (R102). -/
def State.stopServing (s : State) : State :=
  { s with mem := { s.mem with serving := none } }.withdrawUpkeep [.snapHead, .snapPart]

/-- The serving of joiner a, if it is the one in progress, stops. -/
def State.stopServingOf (a : Addr) (s : State) : State :=
  match s.mem.serving with
  | some v => if v.joiner = a then s.stopServing else s
  | none => s

/-- The join queue set. -/
def State.setJoinQueue (l : List Joiner) (s : State) : State := { s with mem := { s.mem with joinQueue := l } }

/-- A joiner leaves the queue at a DEPART or LEAVE naming it, with its serving (R102). -/
def State.leaveQueue (a : Addr) (s : State) : State :=
  (s.stopServingOf a).setJoinQueue (s.mem.joinQueue.filter fun j => decide (j.address ≠ a))

/-- The JOINED entry with the lowest address (R101). -/
def State.provider (s : State) : Option Addr := addresses.find? fun x => decide ((s.peer x).state = .joined)

/-- A joiner is being served. -/
def State.isServing (s : State) (a : Addr) : Bool :=
  match s.mem.serving with
  | some v => decide (v.joiner = a)
  | none => false

/-- The provider's queue at a JOIN from a, by a's place in it (R102). -/
def State.enterQueue (a : Addr) (s : State) : State :=
  let j : Joiner := { address := a, sJoin := s.bud.seqNo }
  if s.isServing a then
    s.stopServing.setJoinQueue ((s.mem.joinQueue.filter fun x => decide (x.address ≠ a)) ++ [j])
  else if s.mem.joinQueue.any (fun x => decide (x.address = a)) then
    s.setJoinQueue (s.mem.joinQueue.map fun x => if x.address = a then j else x)
  else s.setJoinQueue (s.mem.joinQueue ++ [j])

/-- The provider judged at a JOIN from a (R101). -/
def State.judgeProvider (a : Addr) (s : State) : State :=
  if s.provider = some s.conf.address then s.enterQueue a else s

/-- The four-bit group of a peer: state in the high two bits, role in the low two (10.3). -/
def peerGroup (p : Peer) : Nat := (peerStateCode p.state).toNat * 4 + (roleCode p.role).toNat

/-- A peer part of up to five peers (10.3): groups packed two to a byte, then epochs. -/
def peerPartBytes (ps : List Peer) : List Byte :=
  let g (i : Nat) : Nat := (ps[i]?.map peerGroup).getD 0
  let groups := (List.range ((ps.length + 1) / 2)).map fun i => byte (g (2 * i) * 16 + g (2 * i + 1))
  groups ++ ps.flatMap fun p => bytes16 p.epoch

/-- The four bytes of a claim entry in a claim part (10.3). -/
def claimEntryBytes (e : ClaimEntry) : List Byte :=
  [byte (e.station.val * 16 + e.position.val * 2 + (if e.status = .granted then 1 else 0)),
   byte e.draws[0], byte e.draws[1], byte e.draws[2]]

/-- Entries cut into groups of three (R103). -/
def groupsOfThree : List ClaimEntry → List (List ClaimEntry)
  | a :: b :: c :: rest => [a, b, c] :: groupsOfThree rest
  | [] => []
  | [a] => [[a]]
  | [a, b] => [[a, b]]

/-- A SNAP_PART frame. -/
def snapPartFrame (joiner : Addr) (index : Nat) (content : List Byte) : Frame :=
  { kind := .snapPart, dest := destAll, payload := byte joiner.val :: byte index :: content }

/-- SNAP_HEAD for a joiner, composed from the table as it stands (R103). -/
def State.snapHeadFrame (s : State) (j : Joiner) : Frame :=
  let caps := s.bud.capacities
  { kind := .snapHead, dest := destAll,
    payload := byte j.address.val :: bytes32 s.bud.seqNo ++ [byte (min 255 (s.bud.seqNo - j.sJoin).toNat)]
      ++ bytes16 (BitVec.ofNat 16 caps[0]) ++ bytes16 (BitVec.ofNat 16 caps[1]) ++ bytes16 (BitVec.ofNat 16 caps[2])
      ++ bytes16 s.conf.digest ++ [byte s.bud.entries.length] }

/-- The contents of the parts: four peer parts, then the claim parts, oldest entry first (R103). -/
def State.snapContents (s : State) : List (List Byte) :=
  let ps := s.mem.peers.toList
  [peerPartBytes (ps.take 5), peerPartBytes ((ps.drop 5).take 5), peerPartBytes ((ps.drop 10).take 5),
    peerPartBytes (ps.drop 15)]
    ++ (groupsOfThree s.bud.entries).map fun es => es.flatMap claimEntryBytes

/-- The part frames in index order. -/
def State.snapParts (s : State) (a : Addr) : List Frame :=
  s.snapContents.zipIdx.map fun (content, i) => snapPartFrame a i content

/-- The front entry of the join queue is served where the upkeep origin holds no frame (R103): the table and the peer list
are captured at this event. -/
def State.tryServe (s : State) : State :=
  if s.isJoined && s.mem.serving.isNone && !s.txHas .upkeep && s.mem.upkeepNext.isNone then
    match s.mem.joinQueue with
    | j :: _ =>
      { s with mem := { s.mem with serving := some { joiner := j.address, rest := s.snapParts j.address } } }.queueFrame
        .upkeep (s.snapHeadFrame j)
    | [] => s
  else s

/-- A snapshot frame of this station's has appeared: the next part is queued, or the joiner leaves the queue (R102,
R103). -/
def State.snapAppeared (s : State) : State :=
  match s.mem.serving with
  | some v =>
    match v.rest with
    | f :: rest => { s with mem := { s.mem with serving := some { v with rest := rest } } }.queueFrame .upkeep f
    | [] =>
      { s with mem := { s.mem with serving := none } }.setJoinQueue
        (s.mem.joinQueue.filter fun j => decide (j.address ≠ v.joiner))
  | none => s

/-! ### Joining and rejoining (R104 to R107) -/

/-- The own JOIN has appeared and the join has neither completed nor been abandoned (R104). -/
def State.collecting (s : State) : Bool :=
  match s.mem.line, s.mem.phase with
  | .joining, .waiting => true
  | .joining, .receiving _ => true
  | _, _ => false

/-- What a join has gathered discarded, its timers stopped, and its phase set (R104, R107). -/
def Membership.restartJoin (m : Membership) (phase : JoinPhase) (wait : Option Nat) : Membership :=
  { m with phase := phase, buffer := [], barred := false, joinWait := wait, partGap := none }

/-- The join is abandoned and JOIN queued again (R107). Before the own JOIN has appeared a cause has no effect. -/
def State.rejoin (c : Cause) (s : State) : State :=
  if s.collecting then
    ((({ s with mem := s.mem.restartJoin .queued none }.withdrawUpkeep [.snapHead, .snapPart]).sendUpkeep
      s.joinFrame).postLineState c)
  else s

/-- Entry into JOINING: JOIN queued, presence timer started, LINE_STATE raised (R95, R112, R115, R168). -/
def State.enterJoining (c : Cause) (s : State) : State :=
  ({ s with mem := { s.mem.restartJoin .queued none with line := .joining, presence := some 0, backoff := none } }.sendUpkeep
    s.joinFrame).postLineState c

/-- The own JOIN has appeared while JOINING: the join starts (R104). -/
def State.startJoin (s : State) : State := { s with mem := s.mem.restartJoin .waiting (some 0) }

/-- A buffered frame names the provider of a snapshot being taken: DEPART naming it, or LEAVE from it (R107). -/
def BufferedFrame.names (f : BufferedFrame) (a : Addr) : Bool :=
  match f.kind with
  | .depart => decide (departPayload f.payload = some a)
  | .leave => decide (f.payload = []) && decide (f.sender = a)
  | .join | .claim | .release | .capacity | .taken | .reject | .booked | .refused | .found | .book | .cancel | .locate
  | .carry | .snapHead | .snapPart | .presence => false

/-- A replicated frame appended to the pending buffer (R104), with the two causes of rejoin it may bring, the overflow
first (log 27). -/
def State.bufferFrame (f : BufferedFrame) (s : State) : State :=
  if s.collecting then
    if 32 ≤ s.mem.buffer.length then s.rejoin .rejoinOverflow
    else
      let s := { s with mem := { s.mem with buffer := s.mem.buffer ++ [f] } }
      match s.mem.phase with
      | .receiving n => if f.names n.provider then s.rejoin .rejoinProvider else s
      | .none => s
      | .queued => s
      | .waiting => s
  else s

/-! ### Completing a join (R106, R108) -/

/-- The unit's items that belong to a line discarded: all but the line state, the last epoch (R93, R94, R110). -/
def Membership.offLine (m : Membership) (l : LineState) : Membership :=
  { Membership.initial with line := l, lastEpoch := m.lastEpoch }

/-- LOCATE or round of one record at the entry into JOINED (R106 step 6). -/
def State.joinedRecord (s : State) (h : Handle) : State :=
  if s.recIn h .uncertain then s.sendSlot h .locate else s.startRound h

/-- Readiness of the LOADED record on one position at the entry into JOINED (R30). -/
def State.joinedPosition (s : State) (p : PosIx) : State :=
  match s.working p with
  | some (h, r) => if r.state = .loaded then s.judgeReady h else s
  | none => s

/-- The departure timers of the peers on the list start at 0, the station's own excepted (R97, R106 step 5). -/
def startTimers (own : Addr) (ps : Vector Peer 16) : Vector Peer 16 :=
  Vector.ofFn fun a => { ps[a] with timer := if ps[a].state = .absent ∨ a = own then none else some 0 }

/-- Steps 4 to 6 of R106: JOINED, LINE_STATE, departure timers, then the records and the positions. The table and the list
stand already. -/
def State.completeJoin (c : Cause) (s : State) : State :=
  let own := s.conf.address
  let m := s.mem.restartJoin .none none
  let s : State := { s with
    mem := { m with line := .joined, lastEpoch := m.peers[own].epoch, peers := startTimers own m.peers },
    lbi := { s.lbi with listenOnly := false } }
  positions.foldl State.joinedPosition (handles.foldl State.joinedRecord (s.postLineState c))

/-- The loaded claim entries numbered with consecutive order values ending at S_cap (R106 step 1). -/
def numberEntries (sCap : BitVec 32) (l : List ClaimEntry) : List ClaimEntry :=
  l.zipIdx.map fun (e, i) => { e with order := sCap - BitVec.ofNat 32 (l.length - 1 - i) }

/-- A peer entry as loaded from a snapshot (R106 step 2). -/
def Peer.ofSnap (p : SnapPeer) : Peer := { Peer.blank with state := p.state, role := p.role, epoch := p.epoch }

/-- Steps 1 and 2 of R106. -/
def State.loadSnapshot (n : SnapIn) (s : State) : State :=
  let peers : Vector Peer 16 := Vector.ofFn fun a => (n.peers[a.val]?.map Peer.ofSnap).getD Peer.blank
  let own := s.conf.address
  { s with
    bud := { capacities := n.capacities, entries := numberEntries n.sCap n.claims, seqNo := n.sCap },
    mem := { s.mem with peers := peers.set own { peers[own] with state := .joined } } }

/-- The peer list's part of a buffered frame, with its event (R99 to R101). -/
def State.listFrame (f : BufferedFrame) (s : State) : State :=
  match f.kind with
  | .join => match joinPayload f.payload with
    | some role => s.peerJoins f.sender role
    | none => s
  | .depart => match departPayload f.payload with
    | some a => s.peerGone a .depart
    | none => s
  | .leave => if f.payload = [] then s.peerGone f.sender .leave else s
  | .claim | .release | .capacity | .taken | .reject | .booked | .refused | .found | .book | .cancel | .locate
  | .carry | .snapHead | .snapPart | .presence => s

/-- A buffered frame applied to the table and the list as a JOINED station applies it (R106 step 3). No position is told
anything: no entry of this station's is in the table. -/
def State.replayFrame (s : State) (f : BufferedFrame) : State :=
  { s with bud := (applyFrame s.bud f).table }.listFrame f

/-- The last snapshot part has been taken (R106). -/
def State.finishSnapshot (n : SnapIn) (s : State) : State :=
  (s.mem.buffer.foldl State.replayFrame (s.loadSnapshot n)).completeJoin .snapshot

/-- The first station's peer list: a buffered frame applied without an event (R108 step 2). -/
def firstListFrame (ps : Vector Peer 16) (f : BufferedFrame) : Vector Peer 16 :=
  match f.kind with
  | .join => match joinPayload f.payload with
    | some role => ps.set f.sender (ps[f.sender].joins role)
    | none => ps
  | .depart => match departPayload f.payload with
    | some a => ps.set a ps[a].gone
    | none => ps
  | .leave => if f.payload = [] then ps.set f.sender ps[f.sender].gone else ps
  | .claim | .release | .capacity | .taken | .reject | .booked | .refused | .found | .book | .cancel | .locate
  | .carry | .snapHead | .snapPart | .presence => ps

/-- The join completes by the first-station rule (R108). -/
def State.firstStation (s : State) : State :=
  let own := s.conf.address
  let peers := s.mem.buffer.foldl firstListFrame (Vector.replicate 16 Peer.blank)
  let self : Peer := { peers[own] with state := .joined, role := s.conf.role, epoch := nextEpoch s.mem.lastEpoch }
  { s with
    bud := { capacities := s.conf.items.initialCapacities, entries := [], seqNo := 0 },
    mem := { s.mem with peers := peers.set own self } }.completeJoin .first

/-! ### The loss of the line (R47, R110, R111, R114) -/

/-- A position's record at the loss of the line (R47, R111). -/
def State.lostPosition (s : State) (p : PosIx) : State :=
  match s.working p with
  | some (h, r) =>
    match r.state with
    | .running => s.stepFault p h .lineLost r.accumulated
    | .paused => s.stepFault p h .lineLost r.accumulated
    | .waiting => s.enterChecked h .loaded
    | .queued | .placed | .inbound | .loaded | .ended | .outbound | .uncertain | .finished | .held => s
  | none => s

/-- What a detach and the entry into OUT have in common (R110, R111, R114): list, table, claims and bookings discarded,
records and positions treated, then the slot account and placement. -/
def State.loseLine (l : LineState) (s : State) : State :=
  let s := s.clearTx
  let s := { s with mem := s.mem.offLine l }
  let s := s.dropTable.dropClaims.loseHandoff
  (positions.foldl State.lostPosition s).judgeSlots.placement

/-- The station detaches, while JOINING or JOINED (R110, R112). -/
def State.detach (c : Cause) (s : State) : State :=
  if s.isOnLine then
    let s := s.loseLine .detached
    { s with mem := { s.mem with backoff := some 0 } }.postLineState c
  else s

/-- The appearance of the LEAVE sent by the LEAVE command (R114). -/
def State.goOut (s : State) : State := (s.loseLine .out).postLineState .left

/-- The entry into MISMATCH (R109). -/
def State.enterMismatch (s : State) : State :=
  let s := s.clearTx
  let s := { s with mem := s.mem.offLine .mismatch }
  ((s.sendUpkeep leaveFrame).alarm fun a => { a with configMismatch := true }).postLineState .mismatch

/-! ### The joiner at snapshot frames (R105, R106) -/

/-- SNAP_HEAD carrying the station's own address (R105). -/
def State.takeHead (sender : Addr) (q : SnapHead) (s : State) : State :=
  match s.mem.line, s.mem.phase with
  | .joining, .waiting =>
    if q.digest ≠ s.conf.digest then s.enterMismatch
    else if s.mem.buffer.length < q.offset then s.rejoin .rejoinOffset
    else
      { s with mem := { s.mem with
          phase := .receiving { provider := sender, sCap := q.sCap, capacities := q.capacities, count := q.count,
                                nextPart := 0, peers := [], claims := [] },
          buffer := s.mem.buffer.drop q.offset, joinWait := none, partGap := some 0 } }
  | .joining, .receiving _ => s.rejoin .rejoinGap
  | _, _ => s

/-- The index of the last part of a snapshot of n entries (R106). -/
def lastPart (n : Nat) : Nat := 3 + (n + 2) / 3

/-- A part's content with what it adds: peers of parts 0 to 3, entries of the later ones. None where it is out of range or
of a length its index does not give (R80, 10.3). -/
def SnapIn.partContent (n : SnapIn) (index : Nat) (content : List Byte) : Option (List SnapPeer × List ClaimEntry) :=
  if index < 4 then (peerPart index content).map fun ps => (ps, [])
  else
    match claimPart content with
    | some es =>
      if 1 ≤ es.length ∧ es.length ≤ 3 ∧ (index = n.nextPart → es.length = min 3 (n.count - 3 * (index - 4))) then
        some ([], es)
      else none
    | none => none

/-- A snapshot part carrying the station's own address (R106). -/
def State.takeSnapPart (index : Nat) (content : List Byte) (s : State) : State :=
  match s.mem.line, s.mem.phase with
  | .joining, .receiving n =>
    match n.partContent index content with
    | some (ps, es) =>
      if index ≠ n.nextPart then s.rejoin .rejoinGap
      else
        let n := { n with nextPart := index + 1, peers := n.peers ++ ps, claims := n.claims ++ es }
        if index = lastPart n.count then s.finishSnapshot n
        else { s with mem := { s.mem with phase := .receiving n, partGap := some 0 } }
    | none => s
  | _, _ => s

end Sys2Proof.Machine
end

