-- ==== Sys2Proof/Machine/LineBus.lean ====
section
/-! DEFINITION. The line bus interface's operations: a transmission's start and its three ends, the void and stall faults, and the part of an appearance that every kind shares (R76 to R90). -/

namespace Sys2Proof.Machine

/-! ### Whose frame it is -/

/-- What a frame on the pair is to this station's transmit list: another station's; a frame cleared from the list and
finished on the pair (R89); a frame of the list. -/
inductive OwnTx where
  | foreign
  | orphan (f : Frame)
  | listed (e : TxEntry)
  deriving DecidableEq, Repr

/-- A frame with this station's address as sender is matched with what it has in transmission; where nothing is, with the
frame of its list that has the same content, whose start is then implied (log 7). -/
def State.ownTx (sender : Addr) (f : Frame) (s : State) : OwnTx :=
  if sender ≠ s.conf.address then .foreign
  else
    match s.lbi.inTx with
    | .orphan g => if g = f then .orphan g else .foreign
    | .listed o =>
      match s.txEntry o with
      | some e => if e.frame = f then .listed e else .foreign
      | none => .foreign
    | .idle =>
      match s.lbi.tx.find? fun e => decide (e.frame = f) with
      | some e => .listed e
      | none => .foreign

/-- The slot whose frame it is, unless its withdrawal was held (R88). -/
def OwnTx.slot : OwnTx → Option Handle
  | .listed e =>
    match e.origin with
    | .slot h => if e.held = .withdraw then none else some h
    | .position _ | .answer _ | .presence | .upkeep | .departure _ | .capacity _ => none
  | .orphan _ => none
  | .foreign => none

/-- It is the upkeep origin's frame, and its withdrawal was not held. -/
def OwnTx.isUpkeep : OwnTx → Bool
  | .listed e => decide (e.origin = .upkeep) && decide (e.held ≠ .withdraw)
  | .orphan _ => false
  | .foreign => false

/-- It is this station's frame and its withdrawal was not held. -/
def OwnTx.wanted : OwnTx → Bool
  | .listed e => decide (e.held ≠ .withdraw)
  | .orphan _ => true
  | .foreign => false

/-! ### Transmission start (R76) and its ends -/

/-- What is in transmission set. -/
def State.setInTx (x : InTx) (s : State) : State := { s with lbi := { s.lbi with inTx := x } }

/-- The states in which the LBI drives frames: the active ones, and SAVING for the LEAVE of the warning (R73). -/
def State.drives (s : State) : Bool := s.isActive || decide (s.mem.line = .saving)

/-- The frame R87 names begins (R76). Bit-rate code 3 leaves the LBI inactive (R72). -/
def State.beginTx (s : State) : State :=
  if s.drives && decide (s.conf.rate ≠ 3) && decide (s.lbi.inTx = .idle) then
    match s.txNext with
    | some e => s.setInTx (.listed e.origin)
    | none => s
  else s

/-- The stall timer restarts while the list holds a frame (R85). -/
def State.restartStall (s : State) : State :=
  { s with lbi := { s.lbi with stall := if s.lbi.tx.isEmpty then none else some 0 } }

/-- An origin has become free: what waits for it is queued (R86). -/
def State.pumpOrigin (o : Origin) (s : State) : State :=
  match o with
  | .slot h => s.pumpSlot h
  | .upkeep => s.pumpUpkeep
  | .position _ => s
  | .answer _ => s
  | .presence => s
  | .departure _ => s
  | .capacity _ => s

/-- This station's frame has appeared (R85, R88): it leaves the list, a held replacement is queued as a new frame, and the
stall timer restarts. -/
def State.finishOwn (own : OwnTx) (s : State) : State :=
  match own with
  | .foreign => s
  | .orphan _ => (s.setInTx .idle).restartStall
  | .listed e =>
    let s := (s.removeTx e.origin).setInTx .idle
    let s := match e.held with
      | .replace f => s.queueFrame e.origin f
      | .withdraw => s
      | .none => s
    (s.pumpOrigin e.origin).restartStall

/-- The origin of a listed frame is told that its held withdrawal has taken effect (R88, R133, R159). -/
def State.toldWithdrawn (e : TxEntry) (s : State) : State :=
  match e.origin with
  | .position p => s.claimWithdrawn p
  | .answer _ => if e.frame.kind = .taken then s.takenFailed e.frame else s
  | .slot h => s.pumpSlot h
  | .upkeep => s.pumpUpkeep
  | .presence => s
  | .departure _ => s
  | .capacity _ => s

/-- A frame cleared from the list did not appear: a TAKEN's entry is removed then (R159 to R161). -/
def State.orphanFailed (f : Frame) (s : State) : State :=
  let s := s.setInTx .idle
  if f.kind = .taken then s.takenFailed f else s

/-- A held request takes effect at the end of a transmission without an appearance (R88, log 30). -/
def State.applyHeld (e : TxEntry) (s : State) : State :=
  match e.held with
  | .none => s
  | .withdraw => (s.removeTx e.origin).toldWithdrawn e
  | .replace f => s.updTx e.origin fun x => { x with frame := f, voids := 0, held := .none }

/-- The frame in transmission has lost arbitration (R77, R88): it keeps its place and its void count. -/
def State.loseArbitration (s : State) : State :=
  match s.lbi.inTx with
  | .idle => s
  | .orphan f => s.orphanFailed f
  | .listed o =>
    let s := s.setInTx .idle
    match s.txEntry o with
    | some e => s.applyHeld e
    | none => s

/-! ### Faults (R82, R84, R85) -/

/-- The frame dropped at its eighth void or at a stall: LINE_TX_FAULT is set, and what waits for the origin is queued. -/
def State.dropFrame (o : Origin) (s : State) : State :=
  ((s.removeTx o).alarm fun a => { a with lineTxFault := true }).pumpOrigin o

/-- The frame in transmission is voided (R82, R88, R89). -/
def State.voidOwn (s : State) : State :=
  match s.lbi.inTx with
  | .idle => s
  | .orphan f => s.orphanFailed f
  | .listed o =>
    let s := s.setInTx .idle
    match s.txEntry o with
    | none => s
    | some e =>
      if e.held = .none then
        if 7 ≤ e.voids then s.dropFrame o else s.updTx o fun x => { x with voids := x.voids + 1 }
      else s.applyHeld e

/-- The void is the eighth of the frame in transmission (R82). -/
def State.eighthVoid (s : State) : Bool :=
  match s.lbi.inTx with
  | .listed o =>
    match s.txEntry o with
    | some e => decide (e.held = .none) && decide (7 ≤ e.voids)
    | none => false
  | .orphan _ => false
  | .idle => false

/-- The voiding condition, in the states in which the LBI drives the void slot (R73, R79). -/
def State.voiding (s : State) : Bool := s.isActive && (s.isJoined || !s.lbi.listenOnly)

/-- This station voids a frame in which it found an error: the receive error count rises, and at 16 LINE_RX_FAULT and the
listen-only mark are set (R83, R84). -/
def State.countVoid (s : State) : State :=
  let n := min 16 (s.lbi.rxErrors + 1)
  let s := { s with lbi := { s.lbi with rxErrors := n } }
  if n = 16 then
    { s with lbi := { s.lbi with listenOnly := true } }.alarm fun a => { a with lineRxFault := true }
  else s

/-- The cause of the detach that a void brings, if any. Where one void brings both, which fault is taken first is not
stated (Config.txFaultFirst, log 10). -/
def voidCause (tx rx : Bool) : Option Cause :=
  match tx, rx with
  | true, true => some (if Config.txFaultFirst then .txFault else .rxFault)
  | true, false => some .txFault
  | false, true => some .rxFault
  | false, false => none

/-- A frame of `sender` is void (R79, R82 to R84); `foundError` says that this station found an error in it. A frame of
this station's own whose start was not given is taken as begun (log 7). Where the void detaches the station for its receive
errors alone, what the end of its own transmission would free leaves in the detach, so that the slots freed at this one event
go to the free list in slot order and are judged once (R11, R13). -/
def State.takeVoid (sender : Addr) (foundError : Bool) (s : State) : State :=
  let mine := decide (sender = s.conf.address)
  let s := if mine then s.beginTx else s
  let counted := foundError && s.voiding
  let tx := mine && s.eighthVoid
  let rx := counted && decide (15 ≤ s.lbi.rxErrors)
  let s := if mine then (if rx && !tx && s.isOnLine then s.setInTx .idle else s.voidOwn) else s
  let s := if counted then s.countVoid else s
  let s := match voidCause tx rx with
    | some c => s.detach c
    | none => s
  s.tryServe

/-- A station that is not in the voiding condition finds an error in a frame that nobody voids (R73, R79, R84, R90). A
JOINING one abandons its join. Its own frame in transmission, in SAVING and DORMANT as well, goes back to its list as at a
lost arbitration: the model's choice (log 11). In CONFIG the LBI takes no part. -/
def State.takeListenOnlyError (sender : Addr) (s : State) : State :=
  if s.voiding || decide (s.mem.line = .config) then s
  else (if sender = s.conf.address then s.loseArbitration else s).rejoin .rejoinError

/-- The head frame dropped at a stall in a state that does not detach (R85, R90). That such a frame, if it is in
transmission, is finished on the pair and its void not counted is the model's choice (log 43). -/
def State.dropHead (s : State) : State :=
  match s.txNext with
  | some e =>
    let s := if s.sending e.origin then s.setInTx (.orphan e.frame) else s
    (s.dropFrame e.origin).restartStall
  | none => s

/-- The stall timer has reached 4P (R85, R90). -/
def State.takeStall (s : State) : State :=
  if s.drives && s.lbi.stall.isSome && !s.lbi.tx.isEmpty then
    if s.isOnLine then ((s.alarm fun a => { a with lineTxFault := true }).detach .txFault).tryServe
    else s.dropHead
  else s

/-! ### Appearance (R80, R81, R83) -/

/-- A clean frame has appeared: the receive error count falls by one, not below 0 (R83). -/
def State.countClean (s : State) : State := { s with lbi := { s.lbi with rxErrors := s.lbi.rxErrors - 1 } }

/-- A frame of kind k from a sender has appeared: the station's own JOIN sets the receive error count to 0, any other frame
counts as clean (R83). -/
def State.countAppeared (k : FrameKind) (sender : Addr) (s : State) : State :=
  if k = .join ∧ sender = s.conf.address then { s with lbi := { s.lbi with rxErrors := 0 } } else s.countClean

/-- The receive filter (R81). -/
def State.receives (s : State) (k : FrameKind) (sender : Addr) (dest : BitVec 5) : Bool :=
  decide (dest = destOf s.conf.address) || decide (dest = destAll) || decide (sender = s.conf.address) || kindReplicated k

/-- The frame is addressed to this station: its destination is this station's own address. Whether a frame to 31 whose rule
speaks of an addressee is so addressed, R81 leaves open; that it is not is the model's choice (log 47). -/
def State.addressed (s : State) (dest : BitVec 5) : Bool := decide (dest = destOf s.conf.address)

/-- A frame that bars the first-station rule (R108): a CLAIM, RELEASE, CAPACITY, SNAP_HEAD or SNAP_PART, by its kind (log
33), and a PRESENCE showing JOINED or another digest. -/
def barsFirst (digest : BitVec 16) (k : FrameKind) (payload : List Byte) : Bool :=
  match k with
  | .claim | .release | .capacity | .snapHead | .snapPart => true
  | .presence =>
    match presencePayload payload with
    | some q => q.joined || decide (q.digest ≠ digest)
    | none => false
  | .depart | .leave | .taken | .reject | .booked | .refused | .found | .book | .cancel | .locate | .carry | .join => false

/-- The first-station judgement notes a frame (R80, R108). -/
def State.noteBar (k : FrameKind) (payload : List Byte) (s : State) : State :=
  if decide (s.mem.line = .joining) && barsFirst s.conf.digest k payload then { s with mem := { s.mem with barred := true } }
  else s

/-- In SAVING the end of this station's own TAKEN is reported to the hand-off unit alone: its entry's image goes to the
retention store (R161). -/
def State.takenSaved (own : OwnTx) (s : State) : State :=
  match own with
  | .orphan f =>
    { s with bookings := s.bookings.map fun (b : Booking) =>
        if b.isClosing && decide (b.takenFrame = f) then
          { b with status := match b.status with
              | .closing im _ => .closing im true
              | .offered => .offered
              | .standing => .standing
              | .assembling a => .assembling a }
        else b }
  | .foreign => s
  | .listed _ => s

/-- A frame has appeared. In the active states the LBI counts it, ends its own transmission, notes the sender to the
membership unit, and presents it to the blocks that own its kind if it passes the receive filter (R80, R81, R83). In
SAVING and DORMANT it is presented to no block (R90); in CONFIG the LBI takes no part (R73). -/
def State.appear (k : FrameKind) (sender : Addr) (dest : BitVec 5) (payload : List Byte)
    (blocks : OwnTx → State → State) (s : State) : State :=
  let own := s.ownTx sender { kind := k, dest := dest, payload := payload }
  match s.mem.line with
  | .config => s
  | .dormant => s.finishOwn own
  | .saving => ((s.countAppeared k sender).finishOwn own).takenSaved own
  | .joining | .joined | .detached | .out | .mismatch =>
    let s := (((s.countAppeared k sender).finishOwn own).noteSender sender).noteBar k payload
    (if s.receives k sender dest then blocks own s else s).tryServe

/-- A frame of a kind with no code has appeared: a clean frame and a sign of its sender, ignored by every block (R75,
R80). -/
def State.appearUndefined (sender : Addr) (s : State) : State :=
  if s.isActive then s.countClean.noteSender sender
  else if s.mem.line = .saving then s.countClean
  else s

end Sys2Proof.Machine
end

