-- ==== Sys2Proof/Machine/Blocks.lean ====
section
/-! DEFINITION. What the membership unit, the budget unit and the hand-off unit do at an appearance, one definition per frame kind. Where one appearance acts in several blocks, they act in this order (log 12). -/

namespace Sys2Proof.Machine

/-- The sender is this station's address. -/
def State.isOwn (s : State) (sender : Addr) : Bool := decide (sender = s.conf.address)

/-! ### The replicated kinds -/

/-- A replicated frame that the budget unit alone acts on, or a joiner buffers (R104, R120). -/
def State.onReplicated (k : FrameKind) (sender : Addr) (payload : List Byte) (s : State) : State :=
  let f : BufferedFrame := { kind := k, sender := sender, payload := payload }
  match s.mem.line with
  | .joined => s.takeReplicated f (s.isOwn sender)
  | .joining => s.bufferFrame f
  | .config | .detached | .out | .mismatch | .saving | .dormant => s

/-- The budget unit's and the hand-off unit's part of a departure of a, or of its JOIN, with the slot account and the
placement of the event (R99 to R101, R125, R159). -/
def State.dropPeerWork (a : Addr) (f : BufferedFrame) (s : State) : State :=
  ((s.takeReplicated f (s.isOwn f.sender)).departHandoff a).judgeSlots.placement

/-- DEPART at a JOINED station (R98, R99, R110): naming the station itself it detaches it (log 15). -/
def State.departJoined (f : BufferedFrame) (s : State) : State :=
  match departPayload f.payload with
  | none => s.takeReplicated f (s.isOwn f.sender)
  | some a =>
    if a = s.conf.address then (s.peerGone a .depart).detach .departed
    else
      let s := if s.isOwn f.sender then s else s.withdrawTx (.departure a)
      ((s.peerGone a .depart).leaveQueue a).dropPeerWork a f

/-- DEPART (R99). At a JOINING station the answers to the address named stay on the list: R159 names JOINED stations alone
(the model's choice, log 50). A DEPART naming the station itself detaches it, also where the frame would overflow the
pending buffer: that no rejoin comes before the detach is the model's choice (log 52). -/
def State.onDepart (sender : Addr) (payload : List Byte) (s : State) : State :=
  let f : BufferedFrame := { kind := .depart, sender := sender, payload := payload }
  match s.mem.line with
  | .joined => s.departJoined f
  | .joining => if departPayload payload = some s.conf.address then s.detach .departed else s.bufferFrame f
  | .config | .detached | .out | .mismatch | .saving | .dormant => s

/-- LEAVE (R100, R114). At a JOINING station the answers to the sender stay on the list (the model's choice, log 50). -/
def State.onLeave (sender : Addr) (payload : List Byte) (s : State) : State :=
  let f : BufferedFrame := { kind := .leave, sender := sender, payload := payload }
  match s.mem.line with
  | .joined =>
    if payload ≠ [] then s.takeReplicated f (s.isOwn sender)
    else if s.isOwn sender then s.goOut
    else ((s.peerGone sender .leave).leaveQueue sender).dropPeerWork sender f
  | .joining => s.bufferFrame f
  | .config | .detached | .out | .mismatch | .saving | .dormant => s

/-- JOIN at a JOINED station (R101, R102). -/
def State.joinJoined (f : BufferedFrame) (s : State) : State :=
  match joinPayload f.payload with
  | none => s.takeReplicated f (s.isOwn f.sender)
  | some role =>
    if s.isOwn f.sender then s.takeReplicated f true
    else ((s.peerJoins f.sender role).dropPeerWork f.sender f).judgeProvider f.sender

/-- JOIN (R101, R104). At a JOINING station the answers to the sender stay on the list (the model's choice, log 50). -/
def State.onJoin (sender : Addr) (payload : List Byte) (s : State) : State :=
  let f : BufferedFrame := { kind := .join, sender := sender, payload := payload }
  match s.mem.line with
  | .joined => s.joinJoined f
  | .joining =>
    if s.isOwn sender then (if (joinPayload payload).isSome then s.startJoin else s) else s.bufferFrame f
  | .config | .detached | .out | .mismatch | .saving | .dormant => s

/-! ### The membership unit's other kinds -/

/-- SNAP_HEAD: the provider queues the first part, the joiner takes the head (R103, R105). -/
def State.onSnapHead (own : OwnTx) (sender : Addr) (payload : List Byte) (s : State) : State :=
  let s := if own.isUpkeep && s.isJoined then s.snapAppeared else s
  match snapHeadPayload payload with
  | some q => if q.joiner = s.conf.address then s.takeHead sender q else s
  | none => s

/-- SNAP_PART: the provider queues the next part, the joiner takes the part (R103, R106). -/
def State.onSnapPart (own : OwnTx) (payload : List Byte) (s : State) : State :=
  let s := if own.isUpkeep && s.isJoined then s.snapAppeared else s
  match snapPartHead payload with
  | some (a, index, content) => if a = s.conf.address then s.takeSnapPart index content else s
  | none => s

/-- PRESENCE at a JOINED station (R96, R143). An ABSENT entry takes nothing from a PRESENCE showing JOINING. -/
def State.onPresence (sender : Addr) (payload : List Byte) (s : State) : State :=
  if s.isJoined && !s.isOwn sender then
    match presencePayload payload with
    | some q =>
      if (s.peer sender).state = .absent ∧ q.joined = false then s
      else (s.applyPresence sender q).restartRounds sender q
    | none => s
  else s

/-! ### The hand-off unit's kinds -/

/-- A BOOK of this station's has appeared: where it is the one of the record's round, the answer timer starts (R140). A
renewal is not, nor a BOOK left from an earlier candidate or round behind which the round's own is still to come. -/
def State.bookAppeared (own : OwnTx) (dest : BitVec 5) (q : BookRequest) (s : State) : State :=
  match own.slot with
  | none => s
  | some h =>
    match s.rec? h with
    | none => s
    | some r =>
      match r.booking with
      | .asking _ c =>
        if q.renewal = false ∧ destOf c = dest ∧ r.tag = q.tag ∧ s.roundBookPending h = false then
          s.setRec h { r with answerTimer := some 0 }
        else s
      | .none => s
      | .held _ _ => s

/-- BOOK (R140, R145). -/
def State.onBook (own : OwnTx) (sender : Addr) (dest : BitVec 5) (payload : List Byte) (s : State) : State :=
  match bookPayload payload with
  | none => s
  | some q =>
    let s := s.bookAppeared own dest q
    if s.addressed dest then s.takeBook sender q else s

/-- The station's own BOOKED has appeared: its OFFERED entry becomes STANDING, its hold timer at 0 (R146). -/
def State.bookedAppeared (dest : BitVec 5) (t : Tag) (s : State) : State :=
  { s with bookings := s.bookings.map fun (b : Booking) =>
      if b.status = .offered ∧ b.tag = t ∧ destOf b.booker = dest then { b with status := .standing, timer := 0 } else b }

/-- BOOKED (R141, R142, R146). -/
def State.onBooked (own : OwnTx) (sender : Addr) (dest : BitVec 5) (payload : List Byte) (s : State) : State :=
  match bookedPayload payload with
  | none => s
  | some (t, p) =>
    let s := if own.wanted then s.bookedAppeared dest t else s
    if s.addressed dest then s.takeBooked sender t p else s

/-- REFUSED (R141, R142, R147). -/
def State.onRefused (sender : Addr) (dest : BitVec 5) (payload : List Byte) (s : State) : State :=
  match reasonPayload payload with
  | some (t, _) => if s.addressed dest then s.takeRefused sender t else s
  | none => s

/-- FOUND (R158). -/
def State.onFound (sender : Addr) (dest : BitVec 5) (payload : List Byte) (s : State) : State :=
  match tagPayload payload with
  | some t => if s.addressed dest then s.found sender t else s
  | none => s

/-- CANCEL, at the receiver and at the booker (R148, R149). -/
def State.onCancel (sender : Addr) (dest : BitVec 5) (payload : List Byte) (s : State) : State :=
  match tagPayload payload with
  | some t => if s.addressed dest then (s.cancelEntry sender t).cancelBooking sender t else s
  | none => s

/-- The station's own LOCATE has appeared: the record's locate timer starts (R157). -/
def State.locateAppeared (t : Tag) (s : State) : State :=
  match s.resident t with
  | some h => if s.recIn h .uncertain then s.updRec h fun r => { r with locateTimer := some 0 } else s
  | none => s

/-- LOCATE (R157). -/
def State.onLocate (own : OwnTx) (sender : Addr) (payload : List Byte) (s : State) : State :=
  match tagPayload payload with
  | some t =>
    if s.isOwn sender then (if own.wanted then s.locateAppeared t else s) else s.answerLocate sender t
  | none => s

/-- The station's own CARRY part has appeared: the next is queued, or the hand-off timer starts (R150). -/
def State.carryAppeared (own : OwnTx) (index : Nat) (s : State) : State :=
  match own.slot with
  | none => s
  | some h =>
    match s.rec? h with
    | none => s
    | some r =>
      match r.carry with
      | none => s
      | some c =>
        if r.state = .outbound ∧ c.next = index then
          let s := s.setRec h { r with
            carry := some { c with next := index + 1 },
            handOffTimer := if index + 1 = c.count then some 0 else r.handOffTimer }
          if index + 1 = c.count then s else s.sendSlot h .part
        else s

/-- CARRY (R150, R151). -/
def State.onCarry (own : OwnTx) (sender : Addr) (dest : BitVec 5) (payload : List Byte) (s : State) : State :=
  match carryPayload payload with
  | none => s
  | some c =>
    let s := s.carryAppeared own c.index
    if s.addressed dest then s.takeCarry sender c else s

/-- TAKEN, at the receiver and at the booker (R153, R154). -/
def State.onTaken (sender : Addr) (dest : BitVec 5) (payload : List Byte) (s : State) : State :=
  match tagPayload payload with
  | none => s
  | some t =>
    let s := if s.isOwn sender then s.receiveRecord { kind := .taken, dest := dest, payload := payload } else s
    if s.addressed dest then s.handOver sender t else s

/-- REJECT, at the receiver and at the booker (R155). -/
def State.onReject (sender : Addr) (dest : BitVec 5) (payload : List Byte) (s : State) : State :=
  match reasonPayload payload with
  | none => s
  | some (t, reason) =>
    let s := if s.isOwn sender then s.closeRejected { kind := .reject, dest := dest, payload := payload } else s
    if s.addressed dest then s.rejected sender t reason else s

end Sys2Proof.Machine
end

