-- ==== Sys2Proof/Machine/Timers.lean ====
section
/-! DEFINITION. What each of the station's clocks does when it reaches its limit (R34 to R41, R52 to R54, R85, R95, R97, R106, R108, R112, R141, R146, R151, R156, R158). Each acts where its clock runs; that the clock has reached its limit is the event itself (log 2). -/

namespace Sys2Proof.Machine

/-- The next multiple of 1000 ms above a clock's value: where a further second is complete. -/
def nextSecond (clock : Nat) : Nat := (clock / 1000 + 1) * 1000

/-! ### Clocks of a position -/

/-- The record on a RUNNING position, with its current step entry. -/
def State.runningStep (s : State) (p : PosIx) : Option (Handle × Record × StepEntry) :=
  match s.working p with
  | some (h, r) =>
    if s.isActive && decide (r.state = .running) then r.step?.map fun e => (h, r, e) else none
  | none => none

/-- The record on a PAUSED position. -/
def State.pausedStep (s : State) (p : PosIx) : Option (Handle × Record) :=
  match s.working p with
  | some (h, r) => if s.isActive && decide (r.state = .paused) then some (h, r) else none
  | none => none

/-- The accumulated value rises by one; the step ends at its target (R35, R36, R43). -/
def State.countOne (p : PosIx) (h : Handle) (r : Record) (e : StepEntry) (s : State) : State :=
  let r := { r with accumulated := r.accumulated + 1 }
  let s := s.setRec h r
  if e.target.toNat ≤ r.accumulated.toNat then s.endStep p h else s

/-- The run clock has passed a further 1000 ms (R36). A dose step counts no seconds. -/
def State.runSecond (p : PosIx) (s : State) : State :=
  match s.runningStep p with
  | some (h, r, e) => if isDose e.kind then s else s.countOne p h r e
  | none => s

/-- The pause clock has passed a further 1000 ms (R34, R41). -/
def State.pauseSecond (p : PosIx) (s : State) : State :=
  match s.pausedStep p with
  | some (h, r) =>
    let r := { r with pauseTotal := r.pauseTotal + 1 }
    let s := s.setRec h r
    if s.conf.items.pauseLimit < r.pauseTotal.toNat then s.stepFault p h .pauseLimit (r.pauseTotal.setWidth 24) else s
  | none => s

/-- The silence clock has reached the lamp silence limit (R39). -/
def State.lampSilent (p : PosIx) (s : State) : State :=
  match s.runningStep p with
  | some (h, r, e) => if isDose e.kind then s.stepFault p h .lampSilent r.accumulated else s
  | none => s

/-- The run clock has reached a dose step's time limit with the accumulated value below the target (R40). -/
def State.doseShort (p : PosIx) (s : State) : State :=
  match s.runningStep p with
  | some (h, r, e) =>
    if isDose e.kind && e.timeLimit.isSome && decide (r.accumulated.toNat < e.target.toNat) then
      s.stepFault p h .doseShort r.accumulated
    else s
  | none => s

/-- A DOSE pulse (R35). -/
def State.dosePulse (p : PosIx) (s : State) : State :=
  match s.runningStep p with
  | some (h, r, e) =>
    if isDose e.kind then (s.updPos p fun x => { x with silenceClock := 0 }).countOne p h r e else s
  | none => s

/-! ### The gap timer (R52 to R54) -/

/-- The gap timer of a record counts (R52). -/
def Record.gapRuns (r : Record) : Bool := r.gapOpen && gapCounts r.state

/-- Gap elapsed one second further, stopping at its greatest value (R52). -/
def Record.gapSecond (r : Record) : Record :=
  let g := r.gapElapsed.getD 0
  { r with gapElapsed := some (if g = 0xFFFFFF then g else g + 1), gapFrac := 0 }

/-- Gap elapsed equals the min gap of the entry before the current step (R54). -/
def Record.atMinGap (r : Record) : Bool :=
  match r.before?, r.gapElapsed with
  | some e, some g =>
    match e.minGap with
    | some m => decide (m.toNat = g.toNat)
    | none => false
  | _, _ => false

/-- A further 1000 ms of gap counting (R52): the max gap is checked (R53), and a LOADED record whose gap reaches the min
gap comes to need its booking and is judged for readiness (R54, R139). -/
def State.gapSecond (h : Handle) (s : State) : State :=
  match s.rec? h with
  | none => s
  | some r =>
    if s.isActive && r.gapRuns then
      let r := r.gapSecond
      let s := (s.setRec h r).checkGap h
      if s.recIn h .loaded && r.atMinGap then (s.startRound h).judgeReady h else s
    else s

/-! ### The hand-off unit's timers -/

/-- The answer timer has reached 2P: the candidate has failed (R141). -/
def State.answerExpired (h : Handle) (s : State) : State :=
  match s.rec? h with
  | some r => if s.isActive && r.answerTimer.isSome then s.failCandidate h else s
  | none => s

/-- The entry whose hold timer counts (R146). -/
def Booking.counting (b : Booking) : Bool :=
  match b.status with
  | .standing => true
  | .assembling _ => true
  | .offered => false
  | .closing _ _ => false

/-- The hold timer of the booking at position p has reached its hold: the booking lapses (R146). -/
def State.bookingLapse (p : PosIx) (s : State) : State :=
  match s.bookings.find? fun b => decide (b.position = p) && b.counting with
  | some b =>
    if s.isActive then
      let s := (s.dropEntries b.same).sendSlot b.slot (.cancel b.tag b.booker)
      (s.judgeSlots.post (recordEvent .bookingLapsed (some p) b.slot b.tag b.booker.val)).placement
    else s
  | none => s

/-- The entry's assembly is open. -/
def Booking.isAssembling (b : Booking) : Bool :=
  match b.status with
  | .assembling _ => true
  | .offered => false
  | .standing => false
  | .closing _ _ => false

/-- The part gap timer of the assembly at position p has passed 2P: the entry returns to STANDING (R151). -/
def State.partGapExpired (p : PosIx) (s : State) : State :=
  if s.isActive then s.setStatus (fun b => decide (b.position = p) && b.isAssembling) .standing else s

/-- The address a booking is held at. -/
def BookerState.receiver : BookerState → Option Addr
  | .held a _ => some a
  | .none => Option.none
  | .asking _ _ => Option.none

/-- The hand-off timer has reached 4P: the record becomes UNCERTAIN (R156). -/
def State.handOffExpired (h : Handle) (s : State) : State :=
  match s.rec? h with
  | none => s
  | some r =>
    match r.booking.receiver with
    | none => s
    | some d =>
      if s.isActive && decide (r.state = .outbound) && r.handOffTimer.isSome then
        let s := s.setRec h { r with
          state := .uncertain, sentToward := some d, booking := .none, position := none, handOffTimer := none,
          carry := none }
        ((s.vacate? r.position .clearing).post (recordEvent .handoffFailed r.position h r.tag d.val)).sendSlot h .locate
      else s

/-- The locate timer has reached 4P: LOCATE_RESULT with the result failed (R158). -/
def State.locateExpired (h : Handle) (s : State) : State :=
  match s.rec? h with
  | none => s
  | some r =>
    if s.isActive && decide (r.state = .uncertain) && r.locateTimer.isSome then
      (s.setRec h { r with locateTimer := none }).post (recordEvent .locateResult none h r.tag 0)
    else s

/-! ### The membership unit's timers -/

/-- The departure timer of peer a has reached 4P: DEPART naming it is queued, unless one is pending (R97). -/
def State.departureExpired (a : Addr) (s : State) : State :=
  if s.isJoined && decide (a ≠ s.conf.address) && decide ((s.peer a).state ≠ .absent) && (s.peer a).timer.isSome then
    s.queueFrame (.departure a) (departFrame a)
  else s

/-- The presence timer has reached P: it restarts, and PRESENCE is queued or replaced (R95). -/
def State.presenceExpired (s : State) : State :=
  if s.isOnLine && s.mem.presence.isSome then
    { s with mem := { s.mem with presence := some 0 } }.queueOrReplace .presence s.presenceFrame
  else s

/-- The join wait has reached 5P with no SNAP_HEAD (R108). -/
def State.joinWaitExpired (s : State) : State :=
  if decide (s.mem.line = .joining) && decide (s.mem.phase = .waiting) && s.mem.joinWait.isSome then
    if s.mem.barred then s.rejoin .rejoinTimeout else s.firstStation
  else s

/-- More than 2P have passed since the last snapshot frame taken (R106). -/
def State.snapGapExpired (s : State) : State :=
  match s.mem.phase with
  | .receiving _ => s.rejoin .rejoinGap
  | .none => s
  | .queued => s
  | .waiting => s

/-- The backing-off timer has reached 2P (R112). -/
def State.backoffExpired (s : State) : State :=
  if decide (s.mem.line = .detached) && s.mem.backoff.isSome then s.enterJoining .backoffEnd else s

end Sys2Proof.Machine
end

