-- ==== Sys2Proof/Machine/Retention.lean ====
section
/-! DEFINITION. Power interruption: the warning, the retention image as it is composed, and the end of the write (R48, R90, R134, R161, R170 to R173, 10.7). -/

namespace Sys2Proof.Machine

/-! ### The power-fail warning (R171) -/

/-- Position p at the warning: STEP_EN low, a RUNNING record PAUSED (R48). -/
def State.pauseForPower (s : State) (p : PosIx) : State :=
  let s := s.updPos p fun x => { x with stepEn := false }
  match s.working p with
  | some (h, r) => if r.state = .running then s.setRec h { r with state := .paused } else s
  | none => s

/-- A record at the warning: the hand-off unit's timers and its transfer end (R150, R161). The record keeps its state. -/
def Record.powerFail (r : Record) : Record :=
  { r with answerTimer := none, handOffTimer := none, locateTimer := none, carry := none }

/-- The hand-off unit at the warning (R161): its lists are emptied, but for a CLOSING entry whose TAKEN is in
transmission. No placement runs (log 14). -/
def State.powerFailHandoff (s : State) : State :=
  let slots := s.store.slots.map fun (x : Slot) => { x with state := x.state.mapRec Record.powerFail }
  { s with store := { s.store with slots := slots } }.dropEntries fun b => !s.takenOut b

/-- The assertion of PFW in the states in which it acts (R90, R171). The slots freed are judged in SAVING, where no event
is posted (R13, R173, log 14). -/
def State.enterSaving (s : State) : State :=
  let s1 := (positions.foldl State.pauseForPower s).clearTx.dropClaims.powerFailHandoff
  let s2 := { s1 with mem := s1.mem.offLine .saving }.judgeSlots
  if s.isOnLine then s2.sendUpkeep leaveFrame else s2

/-- The assertion of PFW (R171): in CONFIG, SAVING and DORMANT it changes the input's level alone. -/
def State.powerFail (s : State) : State :=
  let s := { s with pins := { s.pins with pfw := true } }
  if s.isActive then s.enterSaving else s

/-! ### The retention image (R172, 10.7) -/

/-- The CLOSING entry with a TAKEN that appeared in SAVING. -/
def Booking.handedOver (b : Booking) : Bool :=
  match b.status with
  | .closing _ taken => taken
  | .offered => false
  | .standing => false
  | .assembling _ => false

/-- The record such an entry gives (R153, R172). -/
def Booking.savedRecord (b : Booking) : Option Record :=
  match b.status with
  | .closing im true => (decodeImage im).map (receivedRecord b)
  | .closing _ false => none
  | .offered => none
  | .standing => none
  | .assembling _ => none

/-- The record written for slot h: an OUTBOUND record as UNCERTAIN with no position link, a reserved slot's taken image as
INBOUND (R172). -/
def State.savedRecord (s : State) (h : Handle) : Option Record :=
  match (s.slot h).state with
  | .inUse r => some (if r.state = .outbound then { r with state := .uncertain, position := none } else r)
  | .reserved => (s.bookings.find? fun b => decide (b.slot = h) && b.handedOver).bind Booking.savedRecord
  | .free => none

/-- The two bytes written for position p (R170, R172). -/
def State.savedPosition (s : State) (p : PosIx) : List Byte :=
  let x := s.pos p
  match x.state with
  | .empty => [posStateCode .empty, 255]
  | .clearing => [posStateCode .clearing, 255]
  | .booked =>
    match s.bookings.find? fun b => decide (b.position = p) && b.handedOver with
    | some b => [posStateCode .assigned, byte b.slot.val]
    | none => [posStateCode .empty, 255]
  | .assigned => [posStateCode .assigned, fin255 x.link]
  | .occupied => if s.posIn p .outbound then [posStateCode .clearing, 255] else [posStateCode .occupied, fin255 x.link]

/-- The PLACED record on position p. -/
def State.placedOn (s : State) (p : PosIx) : Option Handle :=
  match (s.pos p).link with
  | some h => if s.recIn h .placed then some h else none
  | none => none

/-- The arrival list as written: PLACED records in position order, then the arrival queue (R172). -/
def State.savedArrivals (s : State) : List Handle := s.livePositions.filterMap s.placedOn ++ s.arrivalQueue

/-- One record of the image: slot number, image length, image (10.7). -/
def savedEntry (h : Handle) (r : Record) : List Byte :=
  byte h.val :: byte (recordImage r).length :: recordImage r

/-- The records of the image in increasing slot order. -/
def State.savedEntries (s : State) : List (List Byte) :=
  handles.filterMap fun h => (s.savedRecord h).map (savedEntry h)

/-- The retention image before its check (10.7). -/
def State.retentionBody (s : State) : List Byte :=
  [byte s.conf.address.val, roleCode s.conf.role, byte s.conf.posCount] ++ bytes16 s.store.seqCounter
    ++ [byte s.savedEntries.length, byte s.savedArrivals.length]
    ++ s.livePositions.flatMap s.savedPosition ++ s.savedArrivals.map (fun h => byte h.val) ++ s.savedEntries.flatten

/-- The retention image with its check. -/
def State.retentionImage (s : State) : List Byte := s.retentionBody ++ bytes16 (crc16 s.retentionBody)

/-- A TAKEN of this station's is in transmission. -/
def State.takenInTx (s : State) : Bool :=
  match s.frameOut with
  | some f => decide (f.kind = .taken)
  | none => false

/-- The retention write begins (R172): the valid mark is cleared, the written mark set, the image composed. -/
def State.beginWrite (s : State) : State :=
  if decide (s.mem.line = .saving) && !s.ret.writing && !s.takenInTx then
    { s with ret := { written := true, valid := false, writing := true, image := s.retentionImage } }
  else s

/-- The end of the write (R90, R172): the valid mark is set, a LEAVE still on the list goes, and the station is
DORMANT. -/
def State.endWrite (s : State) : State :=
  if decide (s.mem.line = .saving) && s.ret.writing then
    ({ s with ret := { s.ret with valid := true, writing := false } }.clearTx).setLine .dormant
  else s

end Sys2Proof.Machine
end

