-- ==== Sys2Proof/Machine/Close.lean ====
section
/-! DEFINITION. The configuration: its items (R164, R165), the digest (R166), the checks of CONFIG_CLOSE (R167), the restore (R174 to R176) and the close itself (R168). -/

namespace Sys2Proof.Machine

/-! ### Items (R164, R165, 10.4) -/

/-- A value in a range. -/
def inRange (lo hi : Nat) (v : BitVec 16) : Bool := decide (lo ≤ v.toNat) && decide (v.toNat ≤ hi)

/-- An initial capacity written. -/
def Items.writeCapacity (it : Items) (b : BudgetIx) (v : BitVec 16) : Option Items :=
  if inRange 0 1023 v then some { it with initialCapacities := it.initialCapacities.set b v.toNat } else none

/-- A draw written: item 0x10 + 4 x position + budget. -/
def Items.writeDraw (it : Items) (n : Nat) (v : BitVec 16) : Option Items :=
  match finOf 8 (byte (n / 4)), finOf 3 (byte (n % 4)) with
  | some p, some b => if inRange 0 255 v then some { it with draws := it.draws.set p (it.draws[p].set b v.toNat) } else none
  | _, _ => none

/-- A route candidate field: an address, or 255 for absent. -/
def candidateOf (v : BitVec 16) : Option (Option Addr) :=
  if v = 255 then some none
  else if h : v.toNat < 16 then some (some ⟨v.toNat, h⟩)
  else none

/-- A route candidate written: item 0x40 + 4 x role + (candidate - 1). -/
def Items.writeRoute (it : Items) (n : Nat) (v : BitVec 16) : Option Items :=
  match finOf 4 (byte (n / 4)), finOf 4 (byte (n % 4)), candidateOf v with
  | some r, some k, some c => some { it with routes := it.routes.set r (it.routes[r].set k c) }
  | _, _, _ => none

/-- The concession code from eight bytes, each a decimal digit (R165). -/
def Items.writeCode (it : Items) (digits : List Byte) : Option Items :=
  if digits.all fun d => decide (d.toNat ≤ 9) then
    some { it with code := Vector.ofFn fun i => digits.getD i.val 0 }
  else none

/-- One item written (R164), none for an unknown item or a value out of range. `digits` are the staging bytes 120 to 127. -/
def Items.write (it : Items) (item : Byte) (v : BitVec 16) (digits : List Byte) : Option Items :=
  match item.toNat with
  | 0x00 => if inRange 0 255 v then some { it with lineNumber := v.toNat } else none
  | 0x01 => if inRange 100 1000 v && decide (v.toNat % 50 = 0) then some { it with presence := v.toNat } else none
  | 0x02 => it.writeCapacity 0 v
  | 0x03 => it.writeCapacity 1 v
  | 0x04 => it.writeCapacity 2 v
  | 0x05 => if inRange 1 8 v then some { it with positionCount := v.toNat } else none
  | 0x06 => if inRange 1 30 v then some { it with lampSilence := v.toNat } else none
  | 0x07 => if inRange 1 3600 v then some { it with pauseLimit := v.toNat } else none
  | 0x08 => if inRange 10 600 v then some { it with bookingMargin := v.toNat } else none
  | 0x09 => it.writeCode digits
  | n =>
    if 0x10 ≤ n ∧ n ≤ 0x2E then it.writeDraw (n - 0x10) v
    else if 0x40 ≤ n ∧ n ≤ 0x4F then it.writeRoute (n - 0x40) v
    else none

/-- The nine bytes the line digest covers (R192). -/
def digestBytes (it : Items) : List Byte :=
  byte it.lineNumber :: bytes16 (BitVec.ofNat 16 it.presence) ++ bytes16 (BitVec.ofNat 16 it.initialCapacities[0])
    ++ bytes16 (BitVec.ofNat 16 it.initialCapacities[1]) ++ bytes16 (BitVec.ofNat 16 it.initialCapacities[2])

/-- The line digest (R166). -/
def lineDigest (it : Items) : BitVec 16 := crc16 (digestBytes it)

/-! ### The checks of CONFIG_CLOSE (R167) -/

/-- The first position below the count whose draws are all 0 (check 3). -/
def Items.undrawn (it : Items) : Option PosIx :=
  positions.find? fun p => decide (p.val < it.positionCount) && budgets.all fun b => decide (it.draws[p][b] = 0)

/-- A present candidate that breaks check 4: it is the station's own address, follows an absent one, or bears an address
that stands before it. R167 does not say which of two equal candidates breaks the check: that the later does is the model's
choice (log 51). -/
def brokenCandidate (own : Addr) (route : Vector (Option Addr) 4) (k : Fin 4) : Bool :=
  match route[k] with
  | none => false
  | some a =>
    let before := (List.finRange 4).filter fun j => decide (j < k)
    decide (a = own) || before.any fun j => decide (route[j] = none) || decide (route[j] = some a)

/-- The first candidate that breaks check 4, taking roles in code order and candidates in order (of two equal ones the later,
log 51). -/
def Items.brokenRoute (it : Items) (own : Addr) : Option (Fin 4 × Fin 4) :=
  (List.finRange 4).findSome? fun r =>
    ((List.finRange 4).find? fun k => brokenCandidate own it.routes[r] k).map fun k => (r, k)

/-- The first failing check: the item number, and the position, role or candidate index (R167, 10.4). The two items
without an index give 0 (log 35). -/
def Configuration.fault (c : Configuration) : Option (Byte × Byte) :=
  if c.rate = 3 then some (0xF0, 0)
  else if roleMaxPositions c.role < c.items.positionCount then some (0x05, 0)
  else
    match c.items.undrawn with
    | some p => some (byte (0x10 + 4 * p.val), byte p.val)
    | none => (c.items.brokenRoute c.address).map fun (r, k) => (byte (0x40 + 4 * r.val + k.val), byte (k.val + 1))

/-! ### The restore (R174 to R176) -/

/-- The outcomes of the retention judgement (10.4). -/
inductive Restored where
  | restored | nothing | lost | mismatch
  deriving DecidableEq, Repr

/-- Their codes (10.4). -/
def restoredCode : Restored → Byte
  | .restored => 0 | .nothing => 1 | .lost => 2 | .mismatch => 3

/-- The image's check agrees; an image too short for its fixed part does not (log 26). -/
def retentionCheckOk (im : List Byte) : Bool :=
  decide (9 ≤ im.length) && decide (bytes16 (crc16 (im.take (im.length - 2))) = im.drop (im.length - 2))

/-- The judgement of the image (R174). -/
def State.judgeRetention (s : State) : Restored :=
  let im := s.ret.image
  if !s.ret.written then .nothing
  else if !s.ret.valid then .lost
  else if !retentionCheckOk im then .lost
  else if imageByte im 0 ≠ byte s.conf.address.val ∨ imageByte im 1 ≠ roleCode s.conf.role
      ∨ imageByte im 2 ≠ byte s.conf.posCount then .mismatch
  else .restored

/-- The stored positions: state and linked handle of position p (10.7). A state code with no meaning is read as EMPTY, and a
handle above 31 as no link: the model's choice (log 25). -/
def storedPosition (im : List Byte) (p : PosIx) : PosState × Option Handle :=
  ((posStateOf (imageByte im (7 + 2 * p.val))).getD .empty, finOf 32 (imageByte im (8 + 2 * p.val)))

/-- The stored arrival list (10.7). A handle above 31 is left out: the model's choice (log 25). -/
def storedArrivals (im : List Byte) (count : Nat) : List Handle :=
  ((im.drop (7 + 2 * count)).take (imageByte im 6).toNat).filterMap (finOf 32)

/-- The stored records: slot number and image, n of them, or as many as the bytes hold (log 25). -/
def storedRecords : Nat → List Byte → List (Byte × List Byte)
  | n + 1, slot :: len :: rest => (slot, rest.take len.toNat) :: storedRecords n (rest.drop len.toNat)
  | _, _ => []

/-- The mapping holds the record with POWER_INTERRUPT (R175). A stored RUNNING does not arise; it is taken as PAUSED is
(log 25). -/
def restoreHolds : RecState → Bool
  | .inbound => true | .loaded => true | .waiting => true | .running => true | .paused => true | .ended => true
  | .queued => false | .placed => false | .outbound => false | .uncertain => false | .finished => false | .held => false

/-- A stored record as restored, its position link judged later (R175). A stored OUTBOUND does not arise; it is taken as
UNCERTAIN (log 25). -/
def Record.restore (r : Record) : Record :=
  match r.state with
  | .queued => { r with position := none }
  | .placed => { r with state := .queued, position := none }
  | .uncertain => { r with position := none }
  | .outbound => { r with state := .uncertain, position := none }
  | .finished => r
  | .held => r
  | .inbound | .loaded | .waiting | .running | .paused | .ended =>
    { r.deviate .powerInterrupt r.accumulated with heldFrom := some r.state, state := .held }

/-- What the restore gathers: the store, the records held with POWER_INTERRUPT with their HELD values, and the count. -/
structure RestoreRun where
  state : State
  held : List (Handle × Nat)
  count : Nat
  deriving DecidableEq, Repr

/-- One stored record goes into its slot, unless its image is not well formed, its slot is not FREE or its tag is resident
already (R175, R193, log 25). -/
def RestoreRun.add (x : RestoreRun) (entry : Byte × List Byte) : RestoreRun :=
  match finOf 32 entry.1, (if imageWellFormed entry.2 then decodeImage entry.2 else none) with
  | some h, some r =>
    if (x.state.slot h).state = .free ∧ x.state.resident r.tag = none then
      { state := x.state.setRec h r.restore
        held := if restoreHolds r.state then x.held ++ [(h, heldValue r .powerInterrupt)] else x.held
        count := x.count + 1 }
    else x
  | _, _ => x

/-- Position p restored (R175): linked to its record where that record was restored with this link; else CLEARING if it was
stored OCCUPIED or CLEARING, and EMPTY otherwise. A stored BOOKED does not arise (R172); it is taken as EMPTY (log 25). -/
def State.restorePosition (im : List Byte) (s : State) (p : PosIx) : State :=
  let (st, link) := storedPosition im p
  let linked : Bool := match link with
    | some h => (s.rec? h).any fun r => decide (r.position = some p)
    | none => false
  match st with
  | .empty => s
  | .booked => s
  | .clearing => s.vacate p .clearing
  | .assigned => if linked then s.updPos p fun x => { x with state := .assigned, link := link } else s
  | .occupied => if linked then s.updPos p fun x => { x with state := .occupied, link := link } else s.vacate p .clearing

/-- A record whose position does not name it loses its link (log 25). -/
def State.cleanLink (s : State) (h : Handle) : State :=
  s.updRec h fun r =>
    match r.position with
    | some p => if (s.pos p).link = some h then r else { r with position := none }
    | none => r

/-- A QUEUED record enters the arrival queue at the back of its group, once (R175). -/
def State.restoreArrival (s : State) (h : Handle) : State :=
  match s.rec? h with
  | some r => if r.state = .queued ∧ h ∉ s.arrivalQueue then s.enqueue h r.rush else s
  | none => s

/-- The HELD event of a record restored HELD (R60, R176). -/
def State.postRestoreHeld (s : State) (x : Handle × Nat) : State :=
  match s.rec? x.1 with
  | some r => s.post (recordEvent .held r.position x.1 r.tag x.2)
  | none => s

/-- The free list after a restore: the FREE slots in increasing order (R175). -/
def State.rebuildFreeList (s : State) : State :=
  { s with store := { s.store with freeList := handles.filter fun h => decide ((s.slot h).state = .free) } }

/-- The stored records restored, up to their events (R175, R176). QUEUED records missing from the arrival list follow in
handle order (log 25). -/
def State.restoreRecords (s : State) : RestoreRun :=
  let im := s.ret.image
  let entries := storedRecords (imageByte im 5).toNat
    (im.drop (7 + 2 * s.conf.posCount + (imageByte im 6).toNat))
  let run := entries.foldl RestoreRun.add { state := s, held := [], count := 0 }
  let s := s.livePositions.foldl (State.restorePosition im) run.state
  let s := handles.foldl State.cleanLink s
  let s := (storedArrivals im s.conf.posCount ++ handles).foldl State.restoreArrival s.rebuildFreeList
  let seq := word16 (imageByte im 3) (imageByte im 4)
  { run with state := { s with store := { s.store with seqCounter := if seq = 0 then 1 else seq } } }

/-- The valid mark cleared (R176). -/
def State.invalidate (s : State) : State := { s with ret := { s.ret with valid := false } }

/-- RESTORED with the number of records (R174, R176). -/
def State.postRestored (n : Nat) (s : State) : State := s.post (stationEvent .restored n)

/-- Step 2 of R168: the image judged, and restored where it is good, with the events of R176. -/
def State.restore (s : State) : Restored × Nat × State :=
  match s.judgeRetention with
  | .nothing => (.nothing, 0, s.postRestored 0)
  | .lost => (.lost, 0, ((s.alarm fun a => { a with retentionLost := true }).invalidate).postRestored 0)
  | .mismatch => (.mismatch, 0, ((s.alarm fun a => { a with retentionMismatch := true }).invalidate).postRestored 0)
  | .restored =>
    let run := s.restoreRecords
    (.restored, run.count, ((run.held.foldl State.postRestoreHeld run.state).judgeSlots.postRestored run.count).invalidate)

/-! ### The close (R168) -/

/-- Step 1 of R168: the closed mark, the digest, the position count, the positions with their interlock states. -/
def State.openPositions (s : State) : State :=
  { s with
    conf := { s.conf with closed := true, computed := true, digest := lineDigest s.conf.items,
                          posCount := s.conf.items.positionCount },
    seqr := Vector.ofFn fun (p : PosIx) =>
      if p.val < s.conf.items.positionCount then { Position.blank with interlock := s.pins.ilk[p] } else Position.blank }

/-- An accepted CONFIG_CLOSE (R168). -/
def State.close (s : State) : State :=
  let (outcome, count, s) := s.openPositions.restore
  (s.placement.enterJoining .closed).ok (restoredCode outcome) 0 (byte count)

/-- CONFIG_CLOSE in CONFIG (R167). -/
def State.tryClose (s : State) : State :=
  if s.pins.pfw then s.respond .busy 0
  else
    match s.conf.fault with
    | some (item, index) => s.respond .refused (word24 (reasonCode .badConfig) item index)
    | none => s.close

/-- CONFIG_WRITE in CONFIG (R164, R165). -/
def State.configWrite (item : Byte) (v : BitVec 16) (s : State) : State :=
  match s.conf.items.write item v (Memory.readList s.staging codePlace 8) with
  | some it => { s with conf := { s.conf with items := it } }.ok 0 0 0
  | none => s.badArgument 0x10

end Sys2Proof.Machine
end

