-- ==== Sys2Proof/Machine/Power.lean ====
section
/-! DEFINITION. Meanings: reset, the power-fail input and the retention write (R163, R169 to R172, R190). -/

namespace Sys2Proof.Machine

/-- What every meaning answers. -/
abbrev Result := Host.Outcome State Fault Refusal

/-- RESET (R163, R169, R190): the straps sampled, every block at its reset value; the retention store and the levels on the
input pins stay (R170, log 5). A write in progress ends unfinished (R172), and a transaction in progress counts only the
bits taken from here on (R178, R190). The time RST is asserted lies within this command (log 46). -/
def execReset (address : Addr) (role : Role) (rate : BitVec 2) (s : State) : Result :=
  .next { State.reset with
    pending := s.pending, pins := s.pins, conf := Configuration.initial address role rate,
    ret := { s.ret with writing := false },
    port := { Port.initial with shift := { s.port.shift with bits := [] } } }

/-- POWER_FAIL_WARNING (R48, R90, R161, R171). -/
def execPowerFailWarning (s : State) : Result := .next s.powerFail

/-- PFW_DEASSERTED (R171): no effect but on the input's level. -/
def execPfwDeasserted (s : State) : Result := .next { s with pins := { s.pins with pfw := false } }

/-- RETENTION_WRITE (R172). -/
def execRetentionWrite (s : State) : Result := .next s.beginWrite

/-- RETENTION_WRITE_END (R90, R172). -/
def execRetentionWriteEnd (s : State) : Result := .next s.endWrite

end Sys2Proof.Machine
end

