-- ==== Sys2Proof/Machine/Steps.lean ====
section
/-! DEFINITION. Meanings: the edges and clocks of a position (R34 to R42). -/

namespace Sys2Proof.Machine

/-- The position is configured and its lines are read (R21, R173). -/
def State.reads (s : State) (p : PosIx) : Bool := s.isActive && decide (p.val < s.conf.posCount)

/-- The level of a position's ILK input (R177). -/
def State.setIlk (p : PosIx) (level : Bool) (s : State) : State :=
  { s with pins := { s.pins with ilk := s.pins.ilk.set p level } }

/-- The interlock opens on a RUNNING position (R37). -/
def State.pauseStep (p : PosIx) (s : State) : State :=
  match s.runningStep p with
  | some (h, r, _) => (s.setRec h { r with state := .paused }).updPos p fun x => { x with stepEn := false }
  | none => s

/-- The interlock closes on a PAUSED position (R38), with the renewal of a held booking (R147). -/
def State.resumeStep (p : PosIx) (s : State) : State :=
  match s.pausedStep p with
  | some (h, r) =>
    let s := (s.setRec h { r with state := .running }).updPos p fun x => { x with stepEn := true, silenceClock := 0 }
    s.sendRenewal h
  | none => s

/-- DOSE_PULSE (R35). -/
def execDosePulse (p : PosIx) (s : State) : Result := .next (s.dosePulse p)

/-- ILK_OPEN (R37). -/
def execIlkOpen (p : PosIx) (s : State) : Result :=
  let s := s.setIlk p false
  .next (if s.reads p then (s.updPos p fun x => { x with interlock := false }).pauseStep p else s)

/-- ILK_CLOSE (R38). -/
def execIlkClose (p : PosIx) (s : State) : Result :=
  let s := s.setIlk p true
  .next (if s.reads p then (s.updPos p fun x => { x with interlock := true }).resumeStep p else s)

/-- RUN_CLOCK_SECOND (R34, R36): the run clock of a RUNNING position stands at the further second. -/
def execRunClockSecond (p : PosIx) (s : State) : Result :=
  .next (if (s.runningStep p).isSome then
      (s.updPos p fun x => { x with runClock := nextSecond x.runClock }).runSecond p
    else s)

/-- PAUSE_CLOCK_SECOND (R34, R41): the pause clock of a PAUSED position stands at the further second. -/
def execPauseClockSecond (p : PosIx) (s : State) : Result :=
  .next (if (s.pausedStep p).isSome then
      (s.updPos p fun x => { x with pauseClock := nextSecond x.pauseClock }).pauseSecond p
    else s)

/-- LAMP_SILENT (R39). -/
def execLampSilent (p : PosIx) (s : State) : Result := .next (s.lampSilent p)

/-- DOSE_SHORT (R40). -/
def execDoseShort (p : PosIx) (s : State) : Result := .next (s.doseShort p)

end Sys2Proof.Machine
end

