-- ==== Sys2Proof/Machine/Expiries.lean ====
section
/-! DEFINITION. Meanings: the expiries of the station's timers (R52, R85, R95, R97, R106, R108, R112, R141, R146, R151, R156, R158). -/

namespace Sys2Proof.Machine

/-- GAP_TIMER (R52 to R54). -/
def execGapTimer (h : Handle) (s : State) : Result := .next (s.gapSecond h)

/-- STALL_TIMER (R85, R90). -/
def execStallTimer (s : State) : Result := .next s.takeStall

/-- The departure timer of peer a stands at 4P where it runs (R97, log 2). -/
def State.departureDue (a : Addr) (s : State) : State :=
  s.updPeer a fun p => { p with timer := p.timer.map fun _ => s.timesP 4 }

/-- DEPARTURE_TIMER (R97). -/
def execDepartureTimer (a : Addr) (s : State) : Result := .next ((s.departureDue a).departureExpired a)

/-- PRESENCE_TIMER (R95). -/
def execPresenceTimer (s : State) : Result := .next s.presenceExpired

/-- JOIN_WAIT (R108). -/
def execJoinWait (s : State) : Result := .next s.joinWaitExpired

/-- SNAPSHOT_PART_GAP (R106). -/
def execSnapshotPartGap (s : State) : Result := .next s.snapGapExpired

/-- BACKING_OFF (R112). -/
def execBackingOff (s : State) : Result := .next s.backoffExpired

/-- ANSWER_TIMER (R141). -/
def execAnswerTimer (h : Handle) (s : State) : Result := .next (s.answerExpired h)

/-- BOOKING_LAPSE (R146). -/
def execBookingLapse (p : PosIx) (s : State) : Result := .next (s.bookingLapse p)

/-- PART_GAP (R151). -/
def execPartGap (p : PosIx) (s : State) : Result := .next (s.partGapExpired p)

/-- HAND_OFF_TIMER (R156). -/
def execHandOffTimer (h : Handle) (s : State) : Result := .next (s.handOffExpired h)

/-- LOCATE_TIMER (R158). -/
def execLocateTimer (h : Handle) (s : State) : Result := .next (s.locateExpired h)

end Sys2Proof.Machine
end

