-- ==== Sys2Proof/Machine/Appearances.lean ====
section
/-! DEFINITION. Meanings: the line bus events of this station's own frames and errors, and the appearances (R76 to R84 and the rules of each kind). -/

namespace Sys2Proof.Machine

/-- TRANSMISSION_START (R73, R76, R87). -/
def execTransmissionStart (s : State) : Result := .next s.beginTx

/-- ARBITRATION_LOST (R77, R88): a frame whose start was not given is taken as begun (log 7). -/
def execArbitrationLost (s : State) : Result := .next s.beginTx.loseArbitration.tryServe

/-- FRAME_VOID (R79, R82 to R84). -/
def execFrameVoid (sender : Addr) (foundError : Bool) (s : State) : Result := .next (s.takeVoid sender foundError)

/-- FRAME_ERROR_LISTEN_ONLY (R79, R84). -/
def execFrameErrorListenOnly (sender : Addr) (s : State) : Result := .next (s.takeListenOnlyError sender)

/-- DEPART_APPEARS (R99). -/
def execDepartAppears (sender : Addr) (dest : BitVec 5) (payload : List Byte) (s : State) : Result :=
  .next (s.appear .depart sender dest payload fun _ s => s.onDepart sender payload)

/-- LEAVE_APPEARS (R100, R114). -/
def execLeaveAppears (sender : Addr) (dest : BitVec 5) (payload : List Byte) (s : State) : Result :=
  .next (s.appear .leave sender dest payload fun _ s => s.onLeave sender payload)

/-- RELEASE_APPEARS (R123, R133). -/
def execReleaseAppears (sender : Addr) (dest : BitVec 5) (payload : List Byte) (s : State) : Result :=
  .next (s.appear .release sender dest payload fun _ s => s.onReplicated .release sender payload)

/-- CAPACITY_APPEARS (R124, R133). -/
def execCapacityAppears (sender : Addr) (dest : BitVec 5) (payload : List Byte) (s : State) : Result :=
  .next (s.appear .capacity sender dest payload fun _ s => s.onReplicated .capacity sender payload)

/-- CLAIM_APPEARS (R122, R126, R128, R129, R133). -/
def execClaimAppears (sender : Addr) (dest : BitVec 5) (payload : List Byte) (s : State) : Result :=
  .next (s.appear .claim sender dest payload fun _ s => s.onReplicated .claim sender payload)

/-- TAKEN_APPEARS (R153, R154). -/
def execTakenAppears (sender : Addr) (dest : BitVec 5) (payload : List Byte) (s : State) : Result :=
  .next (s.appear .taken sender dest payload fun _ s => s.onTaken sender dest payload)

/-- REJECT_APPEARS (R155). -/
def execRejectAppears (sender : Addr) (dest : BitVec 5) (payload : List Byte) (s : State) : Result :=
  .next (s.appear .reject sender dest payload fun _ s => s.onReject sender dest payload)

/-- BOOKED_APPEARS (R141, R142, R146). -/
def execBookedAppears (sender : Addr) (dest : BitVec 5) (payload : List Byte) (s : State) : Result :=
  .next (s.appear .booked sender dest payload fun own s => s.onBooked own sender dest payload)

/-- REFUSED_APPEARS (R141, R142, R147). -/
def execRefusedAppears (sender : Addr) (dest : BitVec 5) (payload : List Byte) (s : State) : Result :=
  .next (s.appear .refused sender dest payload fun _ s => s.onRefused sender dest payload)

/-- FOUND_APPEARS (R158). -/
def execFoundAppears (sender : Addr) (dest : BitVec 5) (payload : List Byte) (s : State) : Result :=
  .next (s.appear .found sender dest payload fun _ s => s.onFound sender dest payload)

/-- BOOK_APPEARS (R140, R145, R147). -/
def execBookAppears (sender : Addr) (dest : BitVec 5) (payload : List Byte) (s : State) : Result :=
  .next (s.appear .book sender dest payload fun own s => s.onBook own sender dest payload)

/-- CANCEL_APPEARS (R148, R149). -/
def execCancelAppears (sender : Addr) (dest : BitVec 5) (payload : List Byte) (s : State) : Result :=
  .next (s.appear .cancel sender dest payload fun _ s => s.onCancel sender dest payload)

/-- LOCATE_APPEARS (R157). -/
def execLocateAppears (sender : Addr) (dest : BitVec 5) (payload : List Byte) (s : State) : Result :=
  .next (s.appear .locate sender dest payload fun own s => s.onLocate own sender payload)

/-- CARRY_APPEARS (R150 to R152). -/
def execCarryAppears (sender : Addr) (dest : BitVec 5) (payload : List Byte) (s : State) : Result :=
  .next (s.appear .carry sender dest payload fun own s => s.onCarry own sender dest payload)

/-- JOIN_APPEARS (R101, R102, R104). -/
def execJoinAppears (sender : Addr) (dest : BitVec 5) (payload : List Byte) (s : State) : Result :=
  .next (s.appear .join sender dest payload fun _ s => s.onJoin sender payload)

/-- SNAP_HEAD_APPEARS (R103, R105, R109). -/
def execSnapHeadAppears (sender : Addr) (dest : BitVec 5) (payload : List Byte) (s : State) : Result :=
  .next (s.appear .snapHead sender dest payload fun own s => s.onSnapHead own sender payload)

/-- SNAP_PART_APPEARS (R103, R106). -/
def execSnapPartAppears (sender : Addr) (dest : BitVec 5) (payload : List Byte) (s : State) : Result :=
  .next (s.appear .snapPart sender dest payload fun own s => s.onSnapPart own payload)

/-- PRESENCE_APPEARS (R96, R108, R143). -/
def execPresenceAppears (sender : Addr) (dest : BitVec 5) (payload : List Byte) (s : State) : Result :=
  .next (s.appear .presence sender dest payload fun _ s => s.onPresence sender payload)

/-- UNDEFINED_FRAME_APPEARS (R75): no block looks at its destination, its code or its payload. -/
def execUndefinedFrameAppears (sender : Addr) (_dest _kind : BitVec 5) (_payload : List Byte) (s : State) : Result :=
  .next (s.appearUndefined sender)

end Sys2Proof.Machine
end

