-- ==== Sys2Proof/Machine/Records.lean ====
section
/-! DEFINITION. The record commands' operations: tags and registration (R3, R4, R14, R15), arrival and removal (R25 to R27), hold, concession, scrap, adoption and rush (R16, R62 to R70). -/

namespace Sys2Proof.Machine

/-! ### Tags (R3, R4) -/

/-- The next value of the sequence counter, from 65535 to 1 (R4). -/
def seqAfter (q : BitVec 16) : BitVec 16 := if q = 65535 then 1 else q + 1

/-- The own epoch (R93). -/
def State.ownEpoch (s : State) : BitVec 16 := (s.peer s.conf.address).epoch

/-- A tag of this station with a seq value. -/
def State.ownTag (s : State) (q : BitVec 16) : Tag := { origin := s.conf.address, epoch := s.ownEpoch, seq := q }

/-- The first seq value from q on whose tag no resident record bears, within n further tries (R4). -/
def State.freeSeq (s : State) : Nat → BitVec 16 → BitVec 16
  | 0, q => q
  | n + 1, q => if (s.resident (s.ownTag q)).isSome then s.freeSeq n (seqAfter q) else q

/-- The seq value that the next tag takes: at most 32 are held, so 33 values suffice (R4). -/
def State.newSeq (s : State) : BitVec 16 := s.freeSeq 32 s.store.seqCounter

/-- The counter set behind a seq value that has been used. -/
def State.useSeq (q : BitVec 16) (s : State) : State := { s with store := { s.store with seqCounter := seqAfter q } }

/-! ### REGISTER (R14, R15) -/

/-- The step list in the staging buffer, none where it is not valid (R7, R193, R194). -/
def stagedSteps (m : Memory) : Option (List StepEntry) :=
  let n := (Memory.read m 5).toNat
  if n = 0 ∨ 6 < n then none
  else
    match stepsOf n (Memory.readList m 6 (10 * n)) with
    | some l => if validSteps l then some l else none
    | none => none

/-- The staged job reference. -/
def stagedJob (m : Memory) : BitVec 32 :=
  word32 (Memory.read m 0) (Memory.read m 1) (Memory.read m 2) (Memory.read m 3)

/-- The first step of a list is performed by a role. -/
def startsWith (role : Role) (l : List StepEntry) : Bool :=
  match l with
  | e :: _ => decide (stepRole e.kind = role)
  | [] => false

/-- The record created and offered to placement (R15). -/
def State.createRecord (steps : List StepEntry) (s : State) : State :=
  match s.takeSlot with
  | none => s
  | some (h, s1) =>
    let q := s1.newSeq
    let rush := decide (Memory.read s1.staging 4 ≠ 0)
    let r := Record.ofFields (s1.ownTag q) (stagedJob s1.staging) rush steps .queued
    let s2 := ((s1.useSeq q).setRec h r).enqueue h rush
    s2.judgeSlots.placement.respond .ok (byte h.val ++ q)

/-- REGISTER's checks, in the order of R14. -/
def State.register (s : State) : State :=
  if !s.isJoined then s.refuse .notJoined 0
  else
    match stagedSteps s.staging with
    | none => s.refuse .badSteps 0
    | some steps =>
      if !startsWith s.conf.role steps then s.refuse .wrongRole 0
      else if s.freeCount ≤ 4 then s.refuse .noSlot 0
      else s.createRecord steps

/-! ### ARRIVED and REMOVED (R25 to R27) -/

/-- The plate has arrived on an ASSIGNED position (R26). -/
def State.plateArrives (p : PosIx) (h : Handle) (r : Record) (s : State) : State :=
  let s := s.updPos p fun x => { x with state := .occupied }
  match r.state with
  | .placed => s.enterLoaded h
  | .inbound => s.enterLoaded h
  | .queued | .loaded | .waiting | .running | .paused | .ended | .outbound | .uncertain | .finished | .held => s

/-- ARRIVED's checks, in the order of R25. -/
def State.arrived (p : PosIx) (seq : BitVec 16) (s : State) : State :=
  match (s.pos p).state with
  | .empty => s.refuse .notExpected 0
  | .booked => s.refuse .notExpected 0
  | .occupied => s.refuse .occupied 0
  | .clearing => s.refuse .occupied 0
  | .assigned =>
    match (s.pos p).link with
    | some h =>
      match s.rec? h with
      | some r => if r.tag.seq = seq then (s.plateArrives p h r).ok 0 0 0 else s.refuse .wrongPlate 0
      | none => s.refuse .wrongPlate 0
    | none => s.refuse .wrongPlate 0

/-- A FINISHED record retired (R17), its position emptied. -/
def State.retire (p : PosIx) (h : Handle) (r : Record) (s : State) : State :=
  let done : Event :=
    { kind := .plateDone, position := some p, handle := some h, tag := some r.tag, value := r.jobRef,
      detail := byte r.deviations.length }
  ((s.post done).deleteRecord h).judgeSlots.vacate p .empty

/-- The plate of the record on an OCCUPIED position is taken off (R27). -/
def State.plateTaken (p : PosIx) (h : Handle) (r : Record) (s : State) : State :=
  match r.state with
  | .finished => s.retire p h r
  | .loaded => s.enterHeld h .removedEarly r.accumulated true
  | .waiting => s.enterHeld h .removedEarly r.accumulated true
  | .running => s.enterHeld h .removedEarly r.accumulated true
  | .paused => s.enterHeld h .removedEarly r.accumulated true
  | .queued | .placed | .inbound | .ended | .outbound | .uncertain | .held =>
    (s.setRec h { r with position := none }).vacate p .empty

/-- REMOVED (R27). -/
def State.removed (p : PosIx) (s : State) : State :=
  match (s.pos p).state with
  | .empty => s.refuse .notPresent 0
  | .booked => s.refuse .notPresent 0
  | .assigned => s.refuse .notPresent 0
  | .clearing => (s.vacate p .empty).placement.ok 0 0 0
  | .occupied =>
    match s.working p with
    | some (h, r) => (s.plateTaken p h r).placement.ok 0 0 0
    | none => (s.vacate p .empty).placement.ok 0 0 0

/-! ### HOLD and RUSH (R16, R62) -/

/-- HOLD on a record (R62). -/
def State.holdRecord (h : Handle) (r : Record) (s : State) : State :=
  match r.state with
  | .held => s.refuse .alreadyHeld 0
  | .outbound => s.refuse .inTransit 0
  | .finished => s.refuse .notActive 0
  | .uncertain => s.refuse .notActive 0
  | .queued | .placed | .inbound | .loaded | .waiting | .running | .paused | .ended =>
    (s.enterHeld h .operatorHold 0 false).placement.ok 0 0 0

/-- RUSH on a record (R16). -/
def State.rushRecord (h : Handle) (r : Record) (s : State) : State :=
  match r.state with
  | .queued => (((s.setRec h { r with rush := true }).unqueue h).enqueue h true).ok 0 0 0
  | .placed => (s.setRec h { r with rush := true }).ok 0 0 0
  | .inbound | .loaded | .waiting | .running | .paused | .ended | .outbound | .uncertain | .finished | .held =>
    s.refuse .notQueued 0

/-! ### CONCESSION (R64 to R66) -/

/-- The attempt count as reported (R63). -/
def State.attemptByte (s : State) : Byte := byte s.store.attempts

/-- The return state of a concession, by held-from and the position link (R65). -/
def State.returnState (s : State) (r : Record) : RecState :=
  match r.heldFrom with
  | some .ended => .ended
  | some .outbound => .ended
  | some .uncertain => .ended
  | _ =>
    match r.position with
    | some p =>
      match (s.pos p).state with
      | .occupied => .loaded
      | .assigned => .inbound
      | .empty => .queued
      | .booked => .queued
      | .clearing => .queued
    | none => .queued

/-- The hold ended: held-from absent, gap conceded set where the gap is open (R65, R66). -/
def Record.conceded (r : Record) : Record := { r with heldFrom := none, gapConceded := r.gapConceded || r.gapOpen }

/-- The return of a HELD record, with what follows it (R66). -/
def State.returnRecord (h : Handle) (r : Record) (st : RecState) (s : State) : State :=
  let s := s.setRec h { r.conceded with state := st }
  match st with
  | .ended => s.enterEnded h
  | .loaded => s.enterLoaded h
  | .inbound => s.enterChecked h .inbound
  | .queued => (s.enqueue h r.rush).placement
  | .placed | .waiting | .running | .paused | .outbound | .uncertain | .finished | .held => s

/-- A failed code comparison (R63, R64, R69). -/
def State.wrongCode (s : State) : State := s.failAttempt.refuse .badCode s.failAttempt.attemptByte

/-- CONCESSION on a record, with the checks in the order of R64. -/
def State.concede (h : Handle) (r : Record) (s : State) : State :=
  if r.state ≠ .held then s.refuse .notHeld s.attemptByte
  else if r.overflow then s.refuse .overflowed s.attemptByte
  else if s.store.attempts = 0 then s.refuse .locked s.attemptByte
  else if !s.codeMatches then s.wrongCode
  else (s.returnRecord h r (s.returnState r)).ok (recStateCode (s.returnState r)) 0 s.attemptByte

/-! ### SCRAP (R67) -/

/-- Step 4 of R67: OCCUPIED becomes CLEARING, ASSIGNED becomes EMPTY. -/
def State.scrapPosition (p : Option PosIx) (s : State) : State :=
  match p with
  | some p =>
    match (s.pos p).state with
    | .occupied => s.vacate p .clearing
    | .assigned => s.vacate p .empty
    | .empty => s
    | .booked => s
    | .clearing => s
  | none => s

/-- The LOCATE of an UNCERTAIN record withdrawn, its timer stopped (R67, R70). -/
def State.stopLocate (h : Handle) (s : State) : State :=
  ((s.dropWaits h .locate).withdrawSlot h .locate).updRec h fun r => { r with locateTimer := none }

/-- SCRAP on a record (R67). -/
def State.scrapRecord (h : Handle) (r : Record) (s : State) : State :=
  if r.state = .outbound then s.refuse .inTransit 0
  else
    let s := (s.giveUpClaim? r.position).stopPosition? r.position
    let s := s.endBooking h
    let s := if r.state = .uncertain then s.stopLocate h else s
    let s := if r.state = .queued then s.unqueue h else s
    (((s.scrapPosition r.position).deleteRecord h).judgeSlots).placement.ok 0 0 0

/-! ### ADOPT (R69, R70) -/

/-- An accepted ADOPT (R70). -/
def State.adoptRecord (h : Handle) (r : Record) (s : State) : State :=
  let q := s.newSeq
  let s1 := (s.useSeq q).setRec h { r with adoptedFrom := some r.tag, tag := s.ownTag q, sentToward := none }
  ((s1.stopLocate h).enterHeld h .adopted 0 false).respond .ok (s.attemptByte ++ q)

/-- ADOPT on a record, with the checks in the order of R69. -/
def State.adopt (h : Handle) (r : Record) (s : State) : State :=
  if r.state ≠ .uncertain then s.refuse .notUncertain s.attemptByte
  else if !s.isJoined then s.refuse .notJoined s.attemptByte
  else if s.store.attempts = 0 then s.refuse .locked s.attemptByte
  else if !s.codeMatches then s.wrongCode
  else s.adoptRecord h r

end Sys2Proof.Machine
end

