-- ==== Sys2Proof/Machine/Reports.lean ====
section
/-! DEFINITION. What the reading commands report: their response data and the bytes they write into the staging buffer (R20, R50, R116, R137, R162, R185, R187, 10.5, 10.6). -/

namespace Sys2Proof.Machine

/-! ### READ_POSITION (R50) -/

/-- The handle READ_POSITION gives: the linked record's, or the slot a BOOKED position's booking reserves. -/
def State.positionHandle (s : State) (p : PosIx) : Option Handle :=
  if (s.pos p).state = .booked then
    (s.bookings.find? fun b => decide (b.position = p)).map fun (b : Booking) => b.slot
  else (s.pos p).link

/-- The run clock in whole seconds in two bytes; what a wider clock shows is free (log 21). -/
def runSeconds (clock : Nat) : BitVec 16 :=
  if clock / 1000 < 65536 then BitVec.ofNat 16 (clock / 1000) else Config.wideRunClock (clock / 1000)

/-- The fourteen bytes of READ_POSITION (10.5). A position with no linked record reports 0 in bytes 0 and 3 to 13. -/
def State.positionBytes (s : State) (p : PosIx) : List Byte :=
  let x := s.pos p
  match x.link.bind s.rec? with
  | some r =>
    let target := (r.step?.map fun e => e.target).getD 0
    [recStateCode r.state, byteOfBool x.interlock, byteOfBool x.stepEn, byte r.current] ++ bytes24 target
      ++ bytes24 r.accumulated ++ bytes16 (runSeconds x.runClock) ++ bytes16 r.pauseTotal
  | none => [0, byteOfBool x.interlock, byteOfBool x.stepEn] ++ List.replicate 11 0

/-! ### READ_BUDGET (R137) -/

/-- The entries of a status that draw from budget b. -/
def BudgetTable.drawing (t : BudgetTable) (b : BudgetIx) (st : ClaimStatus) : List ClaimEntry :=
  t.entries.filter fun e => decide (e.status = st) && e.drawsFrom b

/-- The fourteen bytes of READ_BUDGET (10.5). With no entry waiting, station and position are 255 (R193) and the rest is
free (log 39). -/
def BudgetTable.report (t : BudgetTable) (b : BudgetIx) : List Byte :=
  [byte (t.drawing b .waiting).length, byte (t.drawing b .granted).length, byte t.entries.length] ++ bytes32 t.seqNo
    ++ (match t.drawing b .waiting with
        | e :: _ => [byte e.station.val, byte e.position.val, byte e.draws[b]] ++ bytes32 e.order
        | [] => [255, 255] ++ [9, 10, 11, 12, 13].map Config.noWaitingByte)

/-- The response data of READ_BUDGET: the capacity in the high 12 bits, the granted sum in the low 12 (10.4). -/
def BudgetTable.data (t : BudgetTable) (b : BudgetIx) : BitVec 24 :=
  BitVec.ofNat 12 t.capacities[b] ++ BitVec.ofNat 12 (grantedSum t.entries b)

/-! ### READ_PEER (R116) -/

/-- The departure timer in four bytes, all ones when stopped; what a timer as wide as that shows is free (log 22). -/
def timerWord : Option Nat → BitVec 32
  | none => 0xFFFFFFFF
  | some n => if n < 0xFFFFFFFF then BitVec.ofNat 32 n else Config.widePeerTimer n

/-- The ten bytes of READ_PEER (10.5). -/
def Peer.report10 (p : Peer) : List Byte :=
  [byte p.freePositions, byte p.freeSlots] ++ bytes32 p.seqNo ++ bytes32 (timerWord p.timer)

/-- The response data of READ_PEER: state in bits 7 to 4, role in bits 3 to 0, then the epoch (10.4). -/
def Peer.data (p : Peer) : BitVec 24 :=
  byte ((peerStateCode p.state).toNat * 16 + (roleCode p.role).toNat) ++ p.epoch

/-! ### READ_STATION (R185) -/

/-- Part 0: slot states, record states, the arrival queue. -/
def State.part0 (s : State) : List Byte :=
  handles.map (fun h => slotStateCode (s.slot h).state)
    ++ handles.map (fun h => ((s.rec? h).map fun r => recStateCode r.state).getD 255)
    ++ byte s.arrivalQueue.length :: s.arrivalQueue.map fun h => byte h.val

/-- Part 1: position state and claim state per configured position. -/
def State.part1 (s : State) : List Byte :=
  s.livePositions.flatMap fun p => [posStateCode (s.pos p).state, claimStateCode (s.pos p).claim]

/-- Part 2: the line bus interface. -/
def State.part2 (s : State) : List Byte :=
  [byte s.lbi.rxErrors, byteOfBool s.lbi.listenOnly, byte s.lbi.tx.length, (s.txNext.map fun e => byte e.voids).getD 255]

/-- The time left on the backing-off timer in ms, 0 outside DETACHED (R116). -/
def State.backoffLeft (s : State) : Nat :=
  match s.mem.line, s.mem.backoff with
  | .detached, some n => s.timesP 2 - n
  | _, _ => 0

/-- Part 3: membership. -/
def State.part3 (s : State) : List Byte :=
  [byte s.conf.address.val, roleCode s.conf.role] ++ bytes16 (if s.isJoined then s.ownEpoch else 0)
    ++ bytes16 s.mem.lastEpoch ++ [byte s.mem.buffer.length, byte s.mem.joinQueue.length,
      (s.mem.serving.map fun v => byte v.joiner.val).getD 255]
    ++ bytes32 (BitVec.ofNat 32 s.backoffLeft)

/-- The four bytes of a record's booking state (10.5). -/
def bookerBytes : BookerState → List Byte
  | .none => [0, 0, 255, 255]
  | .asking k a => [1, byte k, byte a.val, 255]
  | .held a p => [2, 0, byte a.val, byte p.val]

/-- Part 4: the booking state of each slot's record. -/
def State.part4 (s : State) : List Byte :=
  handles.flatMap fun h => bookerBytes (((s.rec? h).map fun r => r.booking).getD .none)

/-- The eleven bytes of a booking entry (10.5). -/
def Booking.report (b : Booking) : List Byte :=
  tagBytes b.tag ++ [byte b.booker.val, byte b.position.val, byte b.slot.val, bookingStatusCode b.status]
    ++ bytes16 (BitVec.ofNat 16 (b.hold - b.timer / 1000))

/-- Part 5: the receiver side. -/
def State.part5 (s : State) : List Byte :=
  [byte s.answerCount, byte (s.bookings.filter Booking.isAssembling).length, byte s.bookings.length]
    ++ s.bookings.flatMap Booking.report

/-- Part 6: the configuration, without the concession code. -/
def State.part6 (s : State) : List Byte :=
  let it := s.conf.items
  [byte s.conf.address.val, roleCode s.conf.role, s.conf.rate.setWidth 8, byte it.lineNumber]
    ++ bytes16 (BitVec.ofNat 16 it.presence)
    ++ (it.initialCapacities.toList.flatMap fun c => bytes16 (BitVec.ofNat 16 c)) ++ [byte it.positionCount]
    ++ (it.draws.toList.flatMap fun d => d.toList.map byte)
    ++ (it.routes.toList.flatMap fun r => r.toList.map fin255)
    ++ [byte it.lampSilence] ++ bytes16 (BitVec.ofNat 16 it.pauseLimit) ++ bytes16 (BitVec.ofNat 16 it.bookingMargin)
    ++ bytes16 s.conf.digest ++ [byteOfBool s.conf.computed, byteOfBool s.conf.closed]

/-- The bytes of a part, none above 6 (R185). -/
def State.stationPart (s : State) (part : Byte) : Option (List Byte) :=
  match part.toNat with
  | 0 => some s.part0
  | 1 => some s.part1
  | 2 => some s.part2
  | 3 => some s.part3
  | 4 => some s.part4
  | 5 => some s.part5
  | 6 => some s.part6
  | _ => none

/-! ### Event records (10.6) -/

/-- The thirteen bytes of an event record. -/
def Event.bytes (e : Event) : List Byte :=
  [eventKindCode e.kind, fin255 e.position, fin255 e.handle] ++ tagBytes? e.tag ++ bytes32 e.value ++ [e.detail]

end Sys2Proof.Machine
end

