-- ==== Sys2Proof/Machine/PortCommands.lean ====
section
/-! DEFINITION. Meanings: the machine port's frames and its twenty-three commands (R14 to R20, R50, R62 to R70, R113, R115, R116, R135, R137, R164, R167, R178 to R188). -/

namespace Sys2Proof.Machine

/-! ### The port itself -/

/-- PORT_FRAME_SHORT (R179): the bits are discarded, no command is taken and the prepared response stays. -/
def execPortFrameShort (_bits : Nat) (s : State) : Result := .next s.endTransaction

/-- PORT_CRC_ERROR (R179): in every line state. -/
def execPortCrcError (s : State) : Result :=
  let s := s.deliver.countCrcError
  .next (s.respond .crcError (BitVec.ofNat 24 s.port.crcErrors))

/-- UNKNOWN_COMMAND (R181, R182). -/
def execUnknownCommand (code : Byte) (s : State) : Result :=
  .next (s.judge true 0 fun s => s.respond .unknownCommand (word24 code 0 0))

/-- NOP (R180): the prepared response replaces itself. -/
def execNop (s : State) : Result := .next (s.judge true 0 id)

/-- STAGE_WRITE (R183). -/
def execStageWrite (index first second : Byte) (s : State) : Result :=
  .next (s.judge true 0 fun s =>
    if index.toNat ≤ 126 then { s with staging := Memory.writeList s.staging index.toNat [first, second] }.ok 0 0 0
    else s.badArgument 0x01)

/-- STAGE_READ (R183). -/
def execStageRead (index : Byte) (s : State) : Result :=
  .next (s.judge true 0 fun s =>
    if index.toNat ≤ 126 then s.ok 0 (Memory.read s.staging index.toNat) (Memory.read s.staging (index.toNat + 1))
    else s.badArgument 0x02)

/-! ### Configuration -/

/-- CONFIG_WRITE (R164, R165, R169). -/
def execConfigWrite (item : Byte) (value : BitVec 16) (s : State) : Result :=
  .next (s.judge true 0 fun s => if s.mem.line = .config then s.configWrite item value else s.respond .closed 0)

/-- CONFIG_CLOSE (R167 to R169). -/
def execConfigClose (s : State) : Result :=
  .next (s.judge true 0 fun s => if s.mem.line = .config then s.tryClose else s.respond .closed 0)

/-! ### Record commands -/

/-- REGISTER (R14, R15). -/
def execRegister (s : State) : Result := .next (s.judge false 0 State.register)

/-- ARRIVED (R25, R26). -/
def execArrived (position : Byte) (seq : BitVec 16) (s : State) : Result :=
  .next (s.judge false 0 fun s =>
    match s.posArg position with
    | some p => s.arrived p seq
    | none => s.badArgument 0x21)

/-- REMOVED (R17, R27). -/
def execRemoved (position : Byte) (s : State) : Result :=
  .next (s.judge false 0 fun s =>
    match s.posArg position with
    | some p => s.removed p
    | none => s.badArgument 0x22)

/-- HOLD (R62). -/
def execHold (handle : Byte) (s : State) : Result := .next (s.judge false 0 (State.withRecord 0x23 handle 0 State.holdRecord))

/-- CONCESSION (R63 to R66). -/
def execConcession (handle : Byte) (s : State) : Result :=
  .next (s.judge false s.attemptByte (State.withRecord 0x24 handle s.attemptByte State.concede))

/-- SCRAP (R67). -/
def execScrap (handle : Byte) (s : State) : Result :=
  .next (s.judge false 0 (State.withRecord 0x25 handle 0 State.scrapRecord))

/-- ADOPT (R69, R70). -/
def execAdopt (handle : Byte) (s : State) : Result :=
  .next (s.judge false s.attemptByte (State.withRecord 0x26 handle s.attemptByte State.adopt))

/-- RUSH (R16). -/
def execRush (handle : Byte) (s : State) : Result := .next (s.judge false 0 (State.withRecord 0x27 handle 0 State.rushRecord))

/-! ### Reading commands -/

/-- READ_RECORD (R2, R19). -/
def execReadRecord (handle : Byte) (s : State) : Result :=
  .next (s.judge false 0 (State.withRecord 0x30 handle 0 fun _ r s =>
    (s.stage (recordImage r)).ok (recStateCode r.state) 0 (byte (recordImage r).length)))

/-- READ_POSITION (R50). -/
def execReadPosition (position : Byte) (s : State) : Result :=
  .next (s.judge false 0 fun s =>
    match s.posArg position with
    | some p =>
      (s.stage (s.positionBytes p)).ok (posStateCode (s.pos p).state) (fin255 (s.positionHandle p))
        (claimStateCode (s.pos p).claim)
    | none => s.badArgument 0x31)

/-- READ_BUDGET (R137). -/
def execReadBudget (budget : Byte) (s : State) : Result :=
  .next (s.judge false 0 fun s =>
    match finOf 3 budget with
    | some b => if s.isJoined then (s.stage (s.bud.report b)).respond .ok (s.bud.data b) else s.refuse .notJoined 0
    | none => s.badArgument 0x32)

/-- READ_PEER (R116). -/
def execReadPeer (address : Byte) (s : State) : Result :=
  .next (s.judge false 0 fun s =>
    match finOf 16 address with
    | some a => (s.stage (s.peer a).report10).respond .ok (s.peer a).data
    | none => s.badArgument 0x33)

/-- READ_STATION (R20, R91, R116, R162, R185). -/
def execReadStation (part : Byte) (s : State) : Result :=
  .next (s.judge true 0 fun s =>
    match s.stationPart part with
    | some bs => (s.stage bs).ok (lineStateCode s.mem.line) (byte s.freeCount) (byte s.port.events.length)
    | none => s.badArgument 0x34)

/-- READ_EVENT (R187). -/
def execReadEvent (s : State) : Result :=
  .next (s.judge true 0 fun s =>
    match s.port.events with
    | e :: rest => ({ s with port := { s.port with events := rest } }.stage e.bytes).ok (eventKindCode e.kind) 0 (byte rest.length)
    | [] => s.ok 0 0 0)

/-- READ_ALARMS (R179, R188). -/
def execReadAlarms (s : State) : Result :=
  .next (s.judge true 0 fun s =>
    { s with port := { s.port with alarms := Alarms.clear, crcErrors := 0 } }.ok (alarmByte s.port.alarms) 0
      (byte s.port.crcErrors))

/-! ### Line commands -/

/-- CAPACITY (R135). -/
def execCapacity (budget : Byte) (units : BitVec 16) (s : State) : Result :=
  .next (s.judge false 0 fun s =>
    match finOf 3 budget with
    | some b =>
      if 1023 < units.toNat then s.badArgument 0x40
      else if s.isJoined then (s.queueOrReplace (.capacity b) (capacityFrame b units)).ok 0 0 0
      else s.refuse .notJoined 0
    | none => s.badArgument 0x40)

/-- A LEAVE of this station's own is pending (R113). -/
def State.leavePending (s : State) : Bool :=
  (match s.txEntry .upkeep with
   | some e => decide (e.frame.kind = .leave)
   | none => false)
  || (match s.mem.upkeepNext with
      | some f => decide (f.kind = .leave)
      | none => false)

/-- A record that keeps the station from leaving (R113). A WAITING, RUNNING or PAUSED record is on its position. -/
def Record.staysFor (r : Record) : Bool :=
  (match r.state with
   | .running | .paused | .waiting | .outbound => true
   | .queued | .placed | .inbound | .loaded | .ended | .uncertain | .finished | .held => false)
  || r.booking.receiver.isSome

/-- The work that the line carries for the station (R113). -/
def State.hasLineWork (s : State) : Bool :=
  handles.any (fun h => (s.rec? h).any Record.staysFor) || !s.bookings.isEmpty

/-- An accepted LEAVE command (R113): serving stops with the join queue discarded, a JOIN or snapshot part pending is
withdrawn, LEAVE is queued. -/
def State.sendLeave (s : State) : State :=
  ((s.stopServing.setJoinQueue []).withdrawUpkeep [.join]).sendUpkeep leaveFrame

/-- LEAVE (R113). -/
def execLeave (s : State) : Result :=
  .next (s.judge false 0 fun s =>
    if !s.isJoined then s.refuse .notJoined 0
    else if s.leavePending then s.refuse .leaving 0
    else if s.hasLineWork then s.refuse .busy 0
    else s.sendLeave.ok 0 0 0)

/-- JOIN (R115). -/
def execJoin (s : State) : Result :=
  .next (s.judge false 0 fun s =>
    if s.mem.line = .out then (s.enterJoining .joinCommand).ok 0 0 0 else s.refuse .notOut 0)

end Sys2Proof.Machine
end

