-- ==== Sys2Proof/Machine/Dispatch.lean ====
section
/-! DEFINITION. The dispatch: one arm per command, each one call of its meaning. -/

namespace Sys2Proof.Machine

def exec (i : Instr) (s : State) : Host.Outcome State Fault Refusal :=
  match i with
  | .reset address role rate => Sys2Proof.Machine.execReset address role rate s
  | .powerFailWarning => Sys2Proof.Machine.execPowerFailWarning s
  | .pfwDeasserted => Sys2Proof.Machine.execPfwDeasserted s
  | .retentionWrite => Sys2Proof.Machine.execRetentionWrite s
  | .retentionWriteEnd => Sys2Proof.Machine.execRetentionWriteEnd s
  | .dosePulse p => Sys2Proof.Machine.execDosePulse p s
  | .ilkOpen p => Sys2Proof.Machine.execIlkOpen p s
  | .ilkClose p => Sys2Proof.Machine.execIlkClose p s
  | .runClockSecond p => Sys2Proof.Machine.execRunClockSecond p s
  | .pauseClockSecond p => Sys2Proof.Machine.execPauseClockSecond p s
  | .lampSilent p => Sys2Proof.Machine.execLampSilent p s
  | .doseShort p => Sys2Proof.Machine.execDoseShort p s
  | .gapTimer h => Sys2Proof.Machine.execGapTimer h s
  | .stallTimer => Sys2Proof.Machine.execStallTimer s
  | .departureTimer a => Sys2Proof.Machine.execDepartureTimer a s
  | .presenceTimer => Sys2Proof.Machine.execPresenceTimer s
  | .joinWait => Sys2Proof.Machine.execJoinWait s
  | .snapshotPartGap => Sys2Proof.Machine.execSnapshotPartGap s
  | .backingOff => Sys2Proof.Machine.execBackingOff s
  | .answerTimer h => Sys2Proof.Machine.execAnswerTimer h s
  | .bookingLapse p => Sys2Proof.Machine.execBookingLapse p s
  | .partGap p => Sys2Proof.Machine.execPartGap p s
  | .handOffTimer h => Sys2Proof.Machine.execHandOffTimer h s
  | .locateTimer h => Sys2Proof.Machine.execLocateTimer h s
  | .transmissionStart => Sys2Proof.Machine.execTransmissionStart s
  | .arbitrationLost => Sys2Proof.Machine.execArbitrationLost s
  | .frameVoid sender foundError => Sys2Proof.Machine.execFrameVoid sender foundError s
  | .frameErrorListenOnly sender => Sys2Proof.Machine.execFrameErrorListenOnly sender s
  | .departAppears sender dest payload => Sys2Proof.Machine.execDepartAppears sender dest payload s
  | .leaveAppears sender dest payload => Sys2Proof.Machine.execLeaveAppears sender dest payload s
  | .releaseAppears sender dest payload => Sys2Proof.Machine.execReleaseAppears sender dest payload s
  | .capacityAppears sender dest payload => Sys2Proof.Machine.execCapacityAppears sender dest payload s
  | .claimAppears sender dest payload => Sys2Proof.Machine.execClaimAppears sender dest payload s
  | .takenAppears sender dest payload => Sys2Proof.Machine.execTakenAppears sender dest payload s
  | .rejectAppears sender dest payload => Sys2Proof.Machine.execRejectAppears sender dest payload s
  | .bookedAppears sender dest payload => Sys2Proof.Machine.execBookedAppears sender dest payload s
  | .refusedAppears sender dest payload => Sys2Proof.Machine.execRefusedAppears sender dest payload s
  | .foundAppears sender dest payload => Sys2Proof.Machine.execFoundAppears sender dest payload s
  | .bookAppears sender dest payload => Sys2Proof.Machine.execBookAppears sender dest payload s
  | .cancelAppears sender dest payload => Sys2Proof.Machine.execCancelAppears sender dest payload s
  | .locateAppears sender dest payload => Sys2Proof.Machine.execLocateAppears sender dest payload s
  | .carryAppears sender dest payload => Sys2Proof.Machine.execCarryAppears sender dest payload s
  | .joinAppears sender dest payload => Sys2Proof.Machine.execJoinAppears sender dest payload s
  | .snapHeadAppears sender dest payload => Sys2Proof.Machine.execSnapHeadAppears sender dest payload s
  | .snapPartAppears sender dest payload => Sys2Proof.Machine.execSnapPartAppears sender dest payload s
  | .presenceAppears sender dest payload => Sys2Proof.Machine.execPresenceAppears sender dest payload s
  | .undefinedFrameAppears sender dest kind payload => Sys2Proof.Machine.execUndefinedFrameAppears sender dest kind payload s
  | .portFrameShort bits => Sys2Proof.Machine.execPortFrameShort bits s
  | .portCrcError => Sys2Proof.Machine.execPortCrcError s
  | .unknownCommand code => Sys2Proof.Machine.execUnknownCommand code s
  | .nop => Sys2Proof.Machine.execNop s
  | .stageWrite index first second => Sys2Proof.Machine.execStageWrite index first second s
  | .stageRead index => Sys2Proof.Machine.execStageRead index s
  | .configWrite item value => Sys2Proof.Machine.execConfigWrite item value s
  | .configClose => Sys2Proof.Machine.execConfigClose s
  | .register => Sys2Proof.Machine.execRegister s
  | .arrived position seq => Sys2Proof.Machine.execArrived position seq s
  | .removed position => Sys2Proof.Machine.execRemoved position s
  | .hold handle => Sys2Proof.Machine.execHold handle s
  | .concession handle => Sys2Proof.Machine.execConcession handle s
  | .scrap handle => Sys2Proof.Machine.execScrap handle s
  | .adopt handle => Sys2Proof.Machine.execAdopt handle s
  | .rush handle => Sys2Proof.Machine.execRush handle s
  | .readRecord handle => Sys2Proof.Machine.execReadRecord handle s
  | .readPosition position => Sys2Proof.Machine.execReadPosition position s
  | .readBudget budget => Sys2Proof.Machine.execReadBudget budget s
  | .readPeer address => Sys2Proof.Machine.execReadPeer address s
  | .readStation part => Sys2Proof.Machine.execReadStation part s
  | .readEvent => Sys2Proof.Machine.execReadEvent s
  | .readAlarms => Sys2Proof.Machine.execReadAlarms s
  | .capacity budget units => Sys2Proof.Machine.execCapacity budget units s
  | .leave => Sys2Proof.Machine.execLeave s
  | .join => Sys2Proof.Machine.execJoin s

end Sys2Proof.Machine
end

