-- ==== Sys2Proof/Machine/Ticks.lean ====
section
/-! DEFINITION. One millisecond with no command waiting: every counting clock advances, then the expiries that fall due take place in a fixed order (log 1, 3). -/

namespace Sys2Proof.Machine

/-! ### Clocks advance -/

/-- The clocks of a position whose record is in state st with current step e (R34). -/
def Position.advance (x : Position) (st : RecState) (dose : Bool) : Position :=
  match st with
  | .running => { x with runClock := x.runClock + 1, silenceClock := if dose then x.silenceClock + 1 else x.silenceClock }
  | .paused => { x with pauseClock := x.pauseClock + 1 }
  | .queued | .placed | .inbound | .loaded | .waiting | .ended | .outbound | .uncertain | .finished | .held => x

/-- Position p's clocks advance. -/
def State.advancePos (s : State) (p : PosIx) : State :=
  match s.working p with
  | some (_, r) => s.updPos p fun x => x.advance r.state (r.step?.any fun e => isDose e.kind)
  | none => s

/-- A record's timers advance (R52, R140, R150, R157). -/
def Record.advance (r : Record) : Record :=
  { r with gapFrac := if r.gapRuns then r.gapFrac + 1 else r.gapFrac,
           answerTimer := r.answerTimer.map (· + 1), handOffTimer := r.handOffTimer.map (· + 1),
           locateTimer := r.locateTimer.map (· + 1) }

/-- A booking entry's timers advance (R146, R151). -/
def Booking.advance (b : Booking) : Booking :=
  match b.status with
  | .standing => { b with timer := b.timer + 1 }
  | .assembling a => { b with timer := b.timer + 1, status := .assembling { a with gap := a.gap + 1 } }
  | .offered => b
  | .closing _ _ => b

/-- The membership unit's timers advance (R95, R97, R104, R106, R112). -/
def Membership.advance (m : Membership) : Membership :=
  { m with peers := m.peers.map fun (p : Peer) => { p with timer := p.timer.map (· + 1) },
           presence := m.presence.map (· + 1), joinWait := m.joinWait.map (· + 1), partGap := m.partGap.map (· + 1),
           backoff := m.backoff.map (· + 1) }

/-- The stall timer advances (R85). -/
def Lbi.advance (l : Lbi) : Lbi := { l with stall := l.stall.map (· + 1) }

/-- Every counting clock of an active station advances by one millisecond. -/
def State.advance (s : State) : State :=
  let s := positions.foldl State.advancePos s
  let slots := s.store.slots.map fun (x : Slot) => { x with state := x.state.mapRec Record.advance }
  { s with store := { s.store with slots := slots }, bookings := s.bookings.map Booking.advance,
           mem := s.mem.advance, lbi := s.lbi.advance }

/-! ### Expiries that fall due -/

/-- A timer that counts has reached a limit. -/
def reached (t : Option Nat) (limit : Nat) : Bool :=
  match t with
  | some n => decide (limit ≤ n)
  | none => false

/-- The seconds and faults of position p that fall due: a completed second before a limit (log 3). -/
def State.firePos (s : State) (p : PosIx) : State :=
  let s := if 0 < (s.pos p).runClock ∧ (s.pos p).runClock % 1000 = 0 ∧ s.posIn p .running then s.runSecond p else s
  let limit := match s.runningStep p with
    | some (_, _, e) => e.timeLimit
    | none => none
  let s := match limit with
    | some l => if l.toNat * 1000 ≤ (s.pos p).runClock then s.doseShort p else s
    | none => s
  let s := if s.conf.items.lampSilence * 1000 ≤ (s.pos p).silenceClock then s.lampSilent p else s
  if 0 < (s.pos p).pauseClock ∧ (s.pos p).pauseClock % 1000 = 0 ∧ s.posIn p .paused then s.pauseSecond p else s

/-- The expiries of slot h's record that fall due. -/
def State.fireRec (s : State) (h : Handle) : State :=
  let due (s : State) (f : Record → Bool) : Bool := (s.rec? h).any f
  let s := if due s fun r => decide (1000 ≤ r.gapFrac) then s.gapSecond h else s
  let s := if due s fun r => reached r.answerTimer (s.timesP 2) then s.answerExpired h else s
  let s := if due s fun r => reached r.handOffTimer (s.timesP 4) then s.handOffExpired h else s
  if due s fun r => reached r.locateTimer (s.timesP 4) then s.locateExpired h else s

/-- The part gap of an assembly has passed a limit (log 32). -/
def Booking.gapPassed (b : Booking) (limit : Nat) : Bool :=
  match b.status with
  | .assembling a => decide (limit < a.gap)
  | .offered => false
  | .standing => false
  | .closing _ _ => false

/-- The expiries of the booking at position p that fall due: the part gap, then the lapse. -/
def State.fireBooking (s : State) (p : PosIx) : State :=
  let s := if s.bookings.any fun b => decide (b.position = p) && b.gapPassed (s.timesP 2) then s.partGapExpired p else s
  if s.bookings.any fun b => decide (b.position = p) && b.counting && decide (b.hold * 1000 ≤ b.timer) then
    s.bookingLapse p
  else s

/-- The departure timer of peer a reaches 4P; it goes on counting (R97). -/
def State.fireDeparture (s : State) (a : Addr) : State :=
  if (s.peer a).timer = some (s.timesP 4) then s.departureExpired a else s

/-- The membership unit's and the LBI's expiries that fall due. -/
def State.fireLine (s : State) : State :=
  let s := if reached s.mem.joinWait (s.timesP 5) then s.joinWaitExpired else s
  let s := if reached s.mem.partGap (s.timesP 2 + 1) then s.snapGapExpired else s
  let s := if reached s.mem.backoff (s.timesP 2) then s.backoffExpired else s
  let s := if reached s.mem.presence (s.timesP 1) then s.presenceExpired else s
  if reached s.lbi.stall (s.timesP 4) then s.takeStall else s

/-- One millisecond (log 1): in SAVING the stall timer of the warning's LEAVE alone counts (R90, R173, log 24), in CONFIG
and DORMANT nothing does. -/
def State.tick (s : State) : State :=
  match s.mem.line with
  | .config => s
  | .dormant => s
  | .saving =>
    let s := { s with lbi := s.lbi.advance }
    if reached s.lbi.stall (s.timesP 4) then s.takeStall else s
  | .joining | .joined | .detached | .out | .mismatch =>
    let s := positions.foldl State.firePos s.advance
    let s := handles.foldl State.fireRec s
    let s := positions.foldl State.fireBooking s
    (addresses.foldl State.fireDeparture s).fireLine

end Sys2Proof.Machine
end

