-- ==== Sys2Proof/Machine/Signals.lean ====
section
/-! DEFINITION. The pins: the edges of one port transaction on the shift path (R178, R179), and the output pins, while RST is asserted and otherwise (R33, R177, R178, R189). `rst` is the RST input, asserted (log 46). -/

namespace Sys2Proof.Machine

/-! ### The input shift path (R178) -/

/-- CSN falls: a transaction begins with no bit counted. -/
def State.csnFalls (s : State) : State := { s with port := { s.port with shift := { selected := true, bits := [] } } }

/-- SCK rises: SDI is sampled while CSN is low and RST is not asserted; any other edge is ignored. -/
def State.sckRises (rst sdi : Bool) (s : State) : State :=
  if s.port.shift.selected && !rst then
    { s with port := { s.port with shift := { s.port.shift with bits := s.port.shift.bits ++ [sdi] } } }
  else s

/-- The command that CSN's rise stands for: the judgement of the bits counted (R179). -/
def State.csnRises (s : State) : Instr := portTransaction s.port.shift.bits

/-! ### Output pins (R177) -/

/-- SDO after n falling edges of SCK in a transaction: the bit of the prepared response, then high; none is high
impedance, with CSN high or RST asserted. -/
def State.sdoPin (rst : Bool) (n : Nat) (s : State) : Option Bool :=
  if rst || !s.port.shift.selected then none else some ((responseBits s.port.prepared).getD n true)

/-- The STEP_EN output of a position, high asserted (R33). -/
def State.stepEnPin (rst : Bool) (p : PosIx) (s : State) : Bool := !rst && (s.pos p).stepEn

/-- The level of ATTN, low asserted (R189). -/
def State.attnPin (rst : Bool) (s : State) : Bool := rst || !s.attn

/-- LINE_P and LINE_N are left recessive by this station's sending: RST is asserted or nothing is in transmission. -/
def State.lineReleased (rst : Bool) (s : State) : Bool := rst || decide (s.lbi.inTx = .idle)

end Sys2Proof.Machine
end

