-- ==== Sys2Proof/Safety.lean ====
section
/-! DEFINITION. The predicates that statements are made with: the ranges every step keeps, the answer to a port frame, the part every appearance shares, what a station holds for a record, and what a departure leaves. -/

namespace Sys2Proof.Machine

/-- The counters and buffers stand in the ranges their rules give: the staging buffer in its canonical form (R183), at
most 5 code attempts (R63), receive errors to 16 (R83), port CRC errors to 255 (R179), at most 32 events (R186). -/
def Bounded (s : State) : Prop :=
  Memory.wf s.staging = true ∧ s.store.attempts ≤ 5 ∧ s.lbi.rxErrors ≤ 16 ∧ s.port.crcErrors ≤ 255
    ∧ s.port.events.length ≤ 32

/-- Every configuration item stands in the range R164 gives it. -/
def Items.inRanges (it : Items) : Prop :=
  it.lineNumber ≤ 255 ∧ (100 ≤ it.presence ∧ it.presence ≤ 1000 ∧ it.presence % 50 = 0)
    ∧ (∀ b : BudgetIx, it.initialCapacities[b] ≤ 1023) ∧ (1 ≤ it.positionCount ∧ it.positionCount ≤ 8)
    ∧ (∀ (p : PosIx) (b : BudgetIx), it.draws[p][b] ≤ 255) ∧ (1 ≤ it.lampSilence ∧ it.lampSilence ≤ 30)
    ∧ (1 ≤ it.pauseLimit ∧ it.pauseLimit ≤ 3600) ∧ (10 ≤ it.bookingMargin ∧ it.bookingMargin ≤ 600)
    ∧ ∀ i : Fin 8, it.code[i].toNat ≤ 9

/-- A step list that meets every condition of R7. -/
def StepsValid (l : List StepEntry) : Prop :=
  1 ≤ l.length ∧ l.length ≤ 6
    ∧ (∀ (i : Nat) (e f : StepEntry), l[i]? = some e → l[i + 1]? = some f →
      (stepKindCode e.kind).toNat < (stepKindCode f.kind).toNat)
    ∧ ∀ (i : Nat) (e : StepEntry), l[i]? = some e →
      e.target ≠ 0 ∧ e.timeLimit ≠ some 0 ∧ e.maxGap ≠ some 0 ∧ e.minGap ≠ some 0
        ∧ (e.timeLimit ≠ none → isDose e.kind = true)
        ∧ (i + 1 = l.length → e.maxGap = none ∧ e.minGap = none)
        ∧ ∀ lo hi, e.minGap = some lo → e.maxGap = some hi → lo.toNat < hi.toNat

/-- Every field of a record that its image carries stands in the range R1 gives it, its step list valid (R7), and a deviation
names a step of the list. -/
def Record.inRanges (r : Record) : Prop :=
  r.tag.epoch ≠ 0 ∧ r.tag.seq ≠ 0 ∧ (∀ t, r.adoptedFrom = some t → t.epoch ≠ 0 ∧ t.seq ≠ 0)
    ∧ StepsValid r.steps ∧ r.current < r.steps.length ∧ r.heldFrom ≠ some .held ∧ r.deviations.length ≤ 4
    ∧ ∀ d ∈ r.deviations, d.stepIndex < r.steps.length

/-- A port frame is answered: the response prepared before goes out on SDO, this one is prepared, and the transaction is
over (R178, R180). -/
def State.answered (st : Status) (data : BitVec 24) (s : State) : State :=
  { s with port := { s.port with
      prepared := { status := st, data := data }, delivered := some s.port.prepared, shift := ShiftPath.rest } }

/-- A frame of another station, of class and kind whatever, is taken as clean (R83, R97, R98). -/
def State.heard (a : Addr) (s : State) : State := s.countClean.noteSender a

/-- The frame of list entry e has appeared: it counts as clean, leaves the list, and what waits for its origin follows
(R83, R85, R86, R88). -/
def State.sent (e : TxEntry) (s : State) : State := s.countClean.finishOwn (.listed e)

/-- A failed code comparison lowers the attempt count by one and, where it comes to 0, sets CONCESSION_LOCKED (R63). -/
def State.wrongCodeEffect (s : State) : State :=
  { s with
    store := { s.store with attempts := s.store.attempts - 1 }
    port := { s.port with alarms := { s.port.alarms with
      concessionLocked := s.port.alarms.concessionLocked || decide (s.store.attempts = 1) } } }

/-- CONFIG, SAVING and DORMANT: the line states in which positions, records and their clocks stand still (R21, R48, R173). -/
def State.standsStill (s : State) : Prop := s.mem.line = .config ∨ s.mem.line = .saving ∨ s.mem.line = .dormant

/-- The plate of record r, in slot h, stands on position p. -/
def State.onPosition (s : State) (p : PosIx) (h : Handle) (r : Record) : Prop :=
  (s.pos p).state = .occupied ∧ (s.pos p).link = some h ∧ s.rec? h = some r

/-- The free list holds each FREE slot once, and no other slot (R11). -/
def State.FreeListKept (s : State) : Prop :=
  s.store.freeList.Nodup ∧ ∀ h, h ∈ s.store.freeList ↔ (s.slot h).state = .free

/-- The booking list reserves the RESERVED slots and the BOOKED positions, one of each to an entry (R10, R146), with one
entry to a tag and booker (R147). -/
def State.BookingsKept (s : State) : Prop :=
  (∀ h, (s.slot h).state = .reserved ↔ ∃ b ∈ s.bookings, b.slot = h)
    ∧ (∀ p, (s.pos p).state = .booked ↔ ∃ b ∈ s.bookings, b.position = p)
    ∧ (s.bookings.map fun b => b.slot).Nodup ∧ (s.bookings.map fun b => b.position).Nodup
    ∧ (s.bookings.map fun b => (b.tag, b.booker)).Nodup

/-- The arrival queue holds exactly the QUEUED records, each once, each in the group of its rush mark (R9). -/
def State.ArrivalsKept (s : State) : Prop :=
  s.store.rushQueue.Nodup ∧ s.store.ordinaryQueue.Nodup
    ∧ (∀ h, h ∈ s.store.rushQueue ↔ ∃ r, s.rec? h = some r ∧ r.state = .queued ∧ r.rush = true)
    ∧ ∀ h, h ∈ s.store.ordinaryQueue ↔ ∃ r, s.rec? h = some r ∧ r.state = .queued ∧ r.rush = false

/-- A position is linked exactly while ASSIGNED or OCCUPIED (R22), to the record that names it; a QUEUED or UNCERTAIN
record names none (R1). -/
def State.LinksKept (s : State) : Prop :=
  (∀ p, (s.pos p).link ≠ none ↔ (s.pos p).state = .assigned ∨ (s.pos p).state = .occupied)
    ∧ (∀ p h, (s.pos p).link = some h ↔ ∃ r, s.rec? h = some r ∧ r.position = some p)
    ∧ ∀ h r, s.rec? h = some r → r.state = .queued ∨ r.state = .uncertain → r.position = none

/-- STEP_EN is high exactly at the positions that a RUNNING record's plate stands on, and every RUNNING record's plate
stands on one (R33). -/
def State.EnablesKept (s : State) : Prop :=
  (∀ p, (s.pos p).stepEn = true ↔ ∃ h r, s.onPosition p h r ∧ r.state = .running)
    ∧ ∀ h r, s.rec? h = some r → r.state = .running → ∃ p, s.onPosition p h r

/-- The records, slots and positions of a station fit together: what a step keeps of R9 to R11, R22, R33 and R55. In
CONFIG the station holds no record and no booking. -/
def Sound (s : State) : Prop :=
  s.FreeListKept ∧ s.BookingsKept ∧ s.ArrivalsKept ∧ s.LinksKept ∧ s.EnablesKept
    ∧ (∀ h r, s.rec? h = some r → r.deviations.length ≤ 4)
    ∧ (s.mem.line = .config → s.bookings = [] ∧ ∀ h, s.rec? h = none)

/-- Slot h's origin holds at most one frame on the transmit list (R86). -/
def State.OneFrame (s : State) (h : Handle) : Prop := ∀ e ∈ s.lbi.tx, e.origin = .slot h → s.txEntry (.slot h) = some e

/-- Slot h has no frame of kind k to send but one in transmission whose withdrawal is held (R88). -/
def State.Stopped (s : State) (h : Handle) (k : FrameKind) : Prop :=
  ∀ e ∈ s.lbi.tx, e.origin = .slot h → e.frame.kind = k → s.lbi.inTx = .listed (.slot h) ∧ e.held = .withdraw

/-- A CANCEL for tag t at station a is on the transmit list from slot h, or waits for that origin (R86, R148). -/
def State.Cancels (s : State) (h : Handle) (t : Tag) (a : Addr) : Prop :=
  (∃ e ∈ s.lbi.tx, e.origin = .slot h ∧ e.frame = { kind := .cancel, dest := destOf a, payload := tagBytes t })
    ∨ SlotWait.cancel t a ∈ (s.slot h).waits

/-- Entry b stands in the booking list between the two parts given, the only one for its position and the only one for its
tag and booker (R146, R147). -/
def State.Books (s : State) (before : List Booking) (b : Booking) (after : List Booking) : Prop :=
  s.bookings = before ++ b :: after
    ∧ ∀ x ∈ before ++ after, x.position ≠ b.position ∧ ¬(x.tag = b.tag ∧ x.booker = b.booker)

/-- A BOOK to station c is on the transmit list from slot h, or a BOOK waits for that origin (R86, R140). -/
def State.BookOut (s : State) (h : Handle) (c : Addr) : Prop :=
  (∃ e ∈ s.lbi.tx, e.origin = .slot h ∧ e.frame.kind = .book ∧ e.frame.dest = destOf c) ∨ SlotWait.book ∈ (s.slot h).waits

/-- In t, record r of slot h asks the first candidate from index k on that the peer list of s does not pass over, with its
BOOK to be sent; with no such candidate its round has ended exhausted (R138, R140, R141, R143). -/
def State.RoundReaches (s t : State) (h : Handle) (r : Record) (k : Nat) : Prop :=
  ∀ e, r.next? = some e →
    (∀ i c, s.candidateFrom (stepRole e.kind) k = some (i, c) →
      t.rec? h = some { r with booking := .asking i c, answerTimer := none, exhausted := false } ∧ t.BookOut h c)
    ∧ (s.candidateFrom (stepRole e.kind) k = none →
      t.rec? h = some { r with booking := .none, answerTimer := none, exhausted := true })

/-- In t, record w of slot h is back to needing a booking: its round has begun by the peer list of s, or it is HELD for a
gap beyond its bound (R53, R139, R149). -/
def State.AsksAnew (s t : State) (h : Handle) (w : Record) : Prop :=
  w.needsBooking s.conf.role = true →
    (w.gapExceeded = none → s.RoundReaches t h w 1)
    ∧ (w.gapExceeded ≠ none → ∃ x, t.rec? h = some x ∧ x.state = .held ∧ x.heldFrom = some w.state ∧ x.booking = .none)

/-- What has become in t of everything in s that concerns station a, gone from the line or joining it anew (R159): a record
ASKING it moves on, a booking HELD there is dropped by the record's state (R149), an OUTBOUND record is ENDED again, every
other record that neither waits for supply nor for a position is kept; answers to a are withdrawn, and the slots of the
entries it booked are FREE. A WAITING record whose claim the grant scan of the event leaves waiting is LOADED again. -/
def State.PeerDropped (s t : State) (a : Addr) : Prop :=
  let left := s.updPeer a Peer.gone
  (∀ h r, s.rec? h = some r →
    (∀ k, r.booking = .asking k a → r.state = .loaded ∨ r.state = .ended → left.RoundReaches t h r (k + 1))
    ∧ (∀ p, r.booking = .held a p →
      (r.state = .running ∨ r.state = .paused → t.rec? h = some { r with booking := .none, exhausted := false })
      ∧ (r.state = .loaded ∨ r.state = .ended → left.AsksAnew t h r)
      ∧ (r.state = .outbound → left.AsksAnew t h { r with state := .ended, carry := none, handOffTimer := none })
      ∧ (r.state = .waiting →
        (∀ e ∈ (grantScan s.bud.capacities (s.bud.entries.filter fun e => e.station ≠ a)).1,
          e.station = s.conf.address → r.position = some e.position → e.status = .waiting) →
        left.AsksAnew t h { r with state := .loaded }))
    ∧ ((∀ k, r.booking ≠ .asking k a) → (∀ p, r.booking ≠ .held a p) → r.state ≠ .queued → r.state ≠ .waiting →
      t.rec? h = some r))
  ∧ ((∀ e ∈ s.lbi.tx, s.txEntry e.origin = some e) → ∀ e ∈ t.lbi.tx, ∀ i, e.origin = .answer i → e.frame.dest = destOf a →
    t.lbi.inTx = .listed e.origin ∧ e.held = .withdraw)
  ∧ ∀ b ∈ s.bookings, b.booker = a → s.takenOut b = false → (t.slot b.slot).state = .free

/-- The claim entries of a list that a scan has not let past an older one: whenever an entry is granted, no older entry
that still waits draws from a budget it draws from (R126). -/
def NoneOvertaken (before after : List ClaimEntry) : Prop :=
  ∀ (i j : Nat) (old new was : ClaimEntry), i < j → after[i]? = some old → after[j]? = some new →
    before[j]? = some was → was.status = .waiting → new.status = .granted → old.status = .waiting →
    ∀ b : BudgetIx, ¬(old.drawsFrom b = true ∧ new.drawsFrom b = true)

end Sys2Proof.Machine

namespace Sys2Proof

/-- The commands of the machine port, a frame too short or with a wrong CRC among them (chapter 9). -/
def Instr.isPort : Instr → Bool
  | .portFrameShort _ | .portCrcError | .unknownCommand _ | .nop | .stageWrite _ _ _ | .stageRead _ | .configWrite _ _
  | .configClose | .register | .arrived _ _ | .removed _ | .hold _ | .concession _ | .scrap _ | .adopt _ | .rush _
  | .readRecord _ | .readPosition _ | .readBudget _ | .readPeer _ | .readStation _ | .readEvent | .readAlarms
  | .capacity _ _ | .leave | .join => true
  | _ => false

/-- The commands that write the staging buffer: STAGE_WRITE and the commands that read with a staged result (R183). -/
def Instr.isStaging : Instr → Bool
  | .stageWrite _ _ _ | .readRecord _ | .readPosition _ | .readBudget _ | .readPeer _ | .readStation _ | .readEvent => true
  | _ => false

/-- The commands that reach the retention store: its write and the close that reads it (R170, R172, R174). -/
def Instr.isRetention : Instr → Bool
  | .retentionWrite | .retentionWriteEnd | .configClose => true
  | _ => false

/-- The events of the input pins that State holds the level of: PFW and ILK (R37, R171). -/
def Instr.isPinEdge : Instr → Bool
  | .powerFailWarning | .pfwDeasserted | .ilkOpen _ | .ilkClose _ => true
  | _ => false

/-- What happens at one position or one record of this station: the edges and clocks of a position, the timers of a
record, and the port commands about records, positions and readings. -/
def Instr.isLocal : Instr → Bool
  | .dosePulse _ | .ilkOpen _ | .ilkClose _ | .runClockSecond _ | .pauseClockSecond _ | .lampSilent _ | .doseShort _
  | .gapTimer _ | .answerTimer _ | .handOffTimer _ | .locateTimer _
  | .portFrameShort _ | .portCrcError | .unknownCommand _ | .nop | .stageWrite _ _ _ | .stageRead _ | .configWrite _ _
  | .register | .arrived _ _ | .removed _ | .hold _ | .concession _ | .scrap _ | .adopt _ | .rush _
  | .readRecord _ | .readPosition _ | .readBudget _ | .readPeer _ | .readStation _ | .readEvent | .readAlarms
  | .capacity _ _ => true
  | _ => false

end Sys2Proof
end

