-- ==== Sys2Proof/Certificates/Slice0/Obligations.lean ====
section
/-! DEFINITION. The statements for the provers, one `def Obligations.<Name> : Prop` each, by chapter of the spec. A docstring names the log entry where a clause rests on a choice of the model's. -/

open Sys2Proof Sys2Proof.Machine

/-! ### The block as a whole -/

/-- One step takes the command at the front of the queue and runs it on the rest; on an empty queue one millisecond passes
(the model's choice, log 1), which leaves a station in CONFIG or DORMANT as it is. A millisecond without a command (log
1). In SAVING the stall timer of the LEAVE alone counts (log 24). On an active station every clock that counts advances by
one millisecond: the run and silence clocks of a RUNNING position and the pause clock of a PAUSED one (R34), the fraction
of a gap that counts (R52) and the timers of a record, the departure timers of the peers (R97) and the membership unit's
and the stall timer, and of the bookings held as receiver the hold timer of a STANDING or ASSEMBLING entry (R146) and the
part gap of an open assembly (R151); then the expiries follow in their order (log 3). A gap second and a departure timer
that fall due do what their commands do, and one that does not fall due does nothing. -/
def Obligations.StepRunsFront : Prop :=
  ((∀ (c : Instr) (rest : List Instr) (s : State), s.pending = c :: rest → step s = exec c { s with pending := rest })
     ∧ (∀ s : State, s.pending = [] → step s = .next s.tick)
     ∧ ∀ s : State, s.pending = [] → s.mem.line = .config ∨ s.mem.line = .dormant → step s = .next s)
  ∧ (∀ s : State, s.pending = [] →
       (s.mem.line = .saving →
         (∀ n, s.lbi.stall = some n → n + 1 < 4 * s.conf.items.presence →
           step s = .next { s with lbi := { s.lbi with stall := some (n + 1) } })
         ∧ (s.lbi.stall = none → step s = .next s))
       ∧ (s.isActive = true →
         let a := s.advance
         step s = .next (addresses.foldl State.fireDeparture (positions.foldl State.fireBooking
           (handles.foldl State.fireRec (positions.foldl State.firePos a)))).fireLine
         ∧ (∀ (p : PosIx) (h : Handle) (r : Record), s.onPosition p h r → a.pos p = { s.pos p with
             runClock := (s.pos p).runClock + (if r.state = .running then 1 else 0)
             pauseClock := (s.pos p).pauseClock + (if r.state = .paused then 1 else 0)
             silenceClock := (s.pos p).silenceClock +
               (if r.state = .running ∧ (r.steps[r.current]?.any fun e => isDose e.kind) = true then 1 else 0) })
         ∧ (∀ p, (s.pos p).state ≠ .occupied → a.pos p = s.pos p)
         ∧ (∀ (h : Handle) (r : Record), s.rec? h = some r → a.rec? h = some { r with
             gapFrac := r.gapFrac + (if r.gapOpen = true ∧ (r.state = .ended ∨ r.state = .inbound ∨ r.state = .loaded
               ∨ r.state = .waiting ∨ r.state = .held) then 1 else 0)
             answerTimer := r.answerTimer.map (· + 1), handOffTimer := r.handOffTimer.map (· + 1),
             locateTimer := r.locateTimer.map (· + 1) })
         ∧ (∀ c, a.peer c = { s.peer c with timer := (s.peer c).timer.map (· + 1) })
         ∧ a.mem.presence = s.mem.presence.map (· + 1) ∧ a.mem.joinWait = s.mem.joinWait.map (· + 1)
         ∧ a.mem.partGap = s.mem.partGap.map (· + 1) ∧ a.mem.backoff = s.mem.backoff.map (· + 1)
         ∧ a.lbi = { s.lbi with stall := s.lbi.stall.map (· + 1) }
         ∧ a.bookings = s.bookings.map (fun b => { b with
             timer := b.timer + (if b.status = .standing ∨ b.isAssembling = true then 1 else 0)
             status := match b.status with
               | .assembling x => .assembling { x with gap := x.gap + 1 }
               | .offered => .offered
               | .standing => .standing
               | .closing image taken => .closing image taken })
         ∧ (∀ (h : Handle) (r : Record), s.rec? h = some r → r.answerTimer = none → r.handOffTimer = none →
           r.locateTimer = none → (r.gapFrac < 1000 → s.fireRec h = s)
             ∧ (1000 ≤ r.gapFrac → exec (.gapTimer h) s = .next (s.fireRec h)))
         ∧ ∀ c, ((s.peer c).timer = some (4 * s.conf.items.presence) → exec (.departureTimer c) s = .next (s.fireDeparture c))
           ∧ ((s.peer c).timer ≠ some (4 * s.conf.items.presence) → s.fireDeparture c = s)))

/-- Every command has a next state, and no command touches the queue. That nothing stops is read from the spec, which
names no behaviour without an effect (log 31). -/
def Obligations.EveryCommandCompletes : Prop :=
  ∀ (c : Instr) (s : State), ∃ t, exec c s = .next t ∧ t.pending = s.pending

/-- At reset the counters and buffers are in their ranges, and the station's records, slots, arrival queue, bookings,
positions and the output STEP_EN fit together: the premises of BoundedKept and SoundKept hold there. -/
def Obligations.BoundedAtReset : Prop :=
 Bounded State.reset ∧ Sound State.reset

/-- Every step keeps the counters and buffers in their ranges: the canonical form of the staging buffer, the attempt count
to 5, the receive error count to 16, the port CRC error count to 255, the event queue to 32. -/
def Obligations.BoundedKept : Prop :=
 ∀ s t : State, Bounded s → step s = .next t → Bounded t

/-- Every step keeps Sound: the free list holds each FREE slot once and the arrival queue each QUEUED record once, in the
group of its rush mark; the booking list reserves the RESERVED slots and the BOOKED positions, one of each to an entry,
with one entry to a tag and booker; a position is linked exactly while ASSIGNED or OCCUPIED, to the record that names it,
and a QUEUED or UNCERTAIN record names none; STEP_EN is high exactly at the positions that a RUNNING record's plate stands
on; a record has at most four deviations. In such a state the FREE, RESERVED and IN_USE slots are 32 together, the booking
list has one entry for each RESERVED slot, and no handle stands twice in the arrival queue. -/
def Obligations.SoundKept : Prop :=
  (∀ s t : State, Sound s → step s = .next t → Sound t)
    ∧ ∀ s : State, Sound s →
      s.store.freeList.length + (handles.filter fun h => (s.slot h).state = .reserved).length
          + (handles.filter fun h => (s.rec? h).isSome).length = 32
        ∧ s.bookings.length = (handles.filter fun h => (s.slot h).state = .reserved).length
        ∧ s.arrivalQueue.Nodup

/-- The configuration stays as CONFIG_CLOSE left it until a reset: outside CONFIG no other command changes it. The items
are in the ranges of R164 at reset, and every command keeps them there. -/
def Obligations.ConfigurationKept : Prop :=
  (∀ (c : Instr) (s t : State), s.mem.line ≠ .config → (∀ a r b, c ≠ .reset a r b) → exec c s = .next t → t.conf = s.conf)
  ∧ (State.reset.conf.items.inRanges
       ∧ ∀ (c : Instr) (s t : State), s.conf.items.inRanges → exec c s = .next t → t.conf.items.inRanges)

/-- The frame of the commands other than RESET. A command that is not the port's leaves the responses and the CRC error
count; one that stages nothing leaves the staging buffer; only the retention write and CONFIG_CLOSE reach the retention
store; only the edges of PFW and ILK move an input level. What happens at a position, a record or the port's reading
commands leaves the membership unit, the budget table and the booking list. The attempt count changes by CONCESSION and
ADOPT alone, which lower it by at most one (R63). -/
def Obligations.BlocksKept : Prop :=
  ∀ (c : Instr) (s t : State), exec c s = .next t →
    match c with
    | .reset _ _ _ => t.store.attempts = 5
    | c =>
      (c.isPort = false → t.port.prepared = s.port.prepared ∧ t.port.delivered = s.port.delivered
        ∧ t.port.crcErrors = s.port.crcErrors)
      ∧ (c.isStaging = false → t.staging = s.staging)
      ∧ (c.isRetention = false → t.ret = s.ret)
      ∧ (c.isPinEdge = false → t.pins = s.pins)
      ∧ (c.isLocal = true → t.mem = s.mem ∧ t.bud = s.bud ∧ t.bookings = s.bookings)
      ∧ (t.store.attempts = s.store.attempts
        ∨ (∃ h, c = .concession h ∨ c = .adopt h) ∧ t.store.attempts + 1 = s.store.attempts)

/-! ### The machine port (chapter 9) -/

/-- R178, R179: CSN's fall begins a transaction with no bit counted; SDI is sampled at a rise of SCK while CSN is low and
RST is not asserted, and any other edge is ignored; SDO shows the prepared response, high behind it, and is high impedance
with CSN high or RST asserted. At CSN's rise a transaction of fewer than 40 bits is discarded, and only ends; of 40 or
more the last forty are the frame. A frame whose CRC is wrong prepares CRC_ERROR with the count after its rise; the count
stops at 255, and PORT_FAULT is set where it reaches 8. In every line state. -/
def Obligations.PortFramesJudged : Prop :=
  (∀ bits : List Bool, bits.length < 40 → portTransaction bits = .portFrameShort bits.length)
    ∧ (∀ early frame : List Bool, frame.length = 40 → portTransaction (early ++ frame) = portFrame frame)
    ∧ (∀ s : State, s.csnRises = portTransaction s.port.shift.bits
      ∧ s.csnFalls = { s with port := { s.port with shift := { selected := true, bits := [] } } }
      ∧ (∀ sdi, s.port.shift.selected = true → State.sckRises false sdi s =
        { s with port := { s.port with shift := { selected := true, bits := s.port.shift.bits ++ [sdi] } } })
      ∧ (∀ rst sdi, rst = true ∨ s.port.shift.selected = false → State.sckRises rst sdi s = s)
      ∧ (∀ n, s.port.shift.selected = true → State.sdoPin false n s =
        some ((bitsOf (statusCode s.port.prepared.status) ++ bitsOf s.port.prepared.data
          ++ bitsOf (crc8Bits (bitsOf (statusCode s.port.prepared.status) ++ bitsOf s.port.prepared.data))).getD n true))
      ∧ ∀ rst n, rst = true ∨ s.port.shift.selected = false → State.sdoPin rst n s = none)
    ∧ (∀ (n : Nat) (s : State), exec (.portFrameShort n) s =
      .next { s with port := { s.port with shift := { selected := false, bits := [] } } })
    ∧ (∀ s : State, exec .portCrcError s = .next
        { s.answered .crcError (BitVec.ofNat 24 (min 255 (s.port.crcErrors + 1))) with
          port := { (s.answered .crcError (BitVec.ofNat 24 (min 255 (s.port.crcErrors + 1)))).port with
            crcErrors := min 255 (s.port.crcErrors + 1)
            alarms := { s.port.alarms with portFault := s.port.alarms.portFault || decide (s.port.crcErrors = 7) } } })
    ∧ State.reset.port.crcErrors = 0 ∧ State.reset.port.shift = { selected := false, bits := [] }

/-- R182, lines 1 to 4: BUSY in SAVING, DORMANT in DORMANT, UNKNOWN_COMMAND for a code that is not defined, NOT_OPEN in
CONFIG for all but eight commands; CONCESSION and ADOPT put the attempt count in the low byte of NOT_OPEN (R63). An
argument outside its range is answered BAD_ARGUMENT with the command code (R181): handles above 31, positions at or beyond
the count, budgets above 2, units above 1023, addresses above 15, parts above 6. A command that names a slot without a
record is REFUSED NO_RECORD. None changes anything else. -/
def Obligations.CommandsJudged : Prop :=
  (∀ (code a2 a1 a0 : Byte) (s : State),
     (s.mem.line = .saving → exec (portCommand code a2 a1 a0) s = .next (s.answered .busy 0))
       ∧ (s.mem.line = .dormant → exec (portCommand code a2 a1 a0) s = .next (s.answered .dormant 0))
       ∧ (s.mem.line ≠ .saving → s.mem.line ≠ .dormant → code ∉ commandCodes →
           exec (portCommand code a2 a1 a0) s = .next (s.answered .unknownCommand (code ++ (0 : BitVec 16))))
       ∧ (s.mem.line = .config → code ∈ commandCodes →
           code ∉ ([0x00, 0x01, 0x02, 0x10, 0x11, 0x34, 0x35, 0x36] : List Byte) →
           exec (portCommand code a2 a1 a0) s = .next (s.answered .refused
             ((19 : Byte) ++ (0 : Byte) ++ (if code = 0x24 ∨ code = 0x26 then byte s.store.attempts else 0)))))
  ∧ (∀ (x : Byte) (w : BitVec 16) (s : State), s.isActive = true →
       (31 < x.toNat →
         exec (.hold x) s = .next (s.answered .badArgument 0x230000)
         ∧ exec (.concession x) s = .next (s.answered .badArgument 0x240000)
         ∧ exec (.scrap x) s = .next (s.answered .badArgument 0x250000)
         ∧ exec (.adopt x) s = .next (s.answered .badArgument 0x260000)
         ∧ exec (.rush x) s = .next (s.answered .badArgument 0x270000)
         ∧ exec (.readRecord x) s = .next (s.answered .badArgument 0x300000))
       ∧ (s.conf.posCount ≤ x.toNat →
         exec (.arrived x w) s = .next (s.answered .badArgument 0x210000)
         ∧ exec (.removed x) s = .next (s.answered .badArgument 0x220000)
         ∧ exec (.readPosition x) s = .next (s.answered .badArgument 0x310000))
       ∧ (2 < x.toNat ∨ 1023 < w.toNat → exec (.capacity x w) s = .next (s.answered .badArgument 0x400000))
       ∧ (2 < x.toNat → exec (.readBudget x) s = .next (s.answered .badArgument 0x320000))
       ∧ (15 < x.toNat → exec (.readPeer x) s = .next (s.answered .badArgument 0x330000))
       ∧ (6 < x.toNat → exec (.readStation x) s = .next (s.answered .badArgument 0x340000)))
  ∧ (∀ (h : Handle) (s : State), s.isActive = true → s.rec? h = none →
       exec (.hold (byte h.val)) s = .next (s.answered .refused 0x050000)
       ∧ exec (.scrap (byte h.val)) s = .next (s.answered .refused 0x050000)
       ∧ exec (.rush (byte h.val)) s = .next (s.answered .refused 0x050000)
       ∧ exec (.readRecord (byte h.val)) s = .next (s.answered .refused 0x050000)
       ∧ exec (.concession (byte h.val)) s = .next (s.answered .refused (0x0500#16 ++ byte s.store.attempts))
       ∧ exec (.adopt (byte h.val)) s = .next (s.answered .refused (0x0500#16 ++ byte s.store.attempts)))

/-- STAGE_WRITE and STAGE_READ (R183): two bytes at an index 0 to 126 and every other byte as before; above 126
BAD_ARGUMENT and nothing written. A result staged from byte 0 is read back byte by byte, and every byte beyond it keeps
its content. -/
def Obligations.StagingReadsAndWrites : Prop :=
  (∀ (index first second : Byte) (s : State), s.mem.line ≠ .saving → s.mem.line ≠ .dormant →
     Memory.wf s.staging = true →
     (index.toNat ≤ 126 →
       (∃ m : Memory, exec (.stageWrite index first second) s = .next (({ s with staging := m }).answered .ok 0)
         ∧ Memory.wf m = true
         ∧ ∀ a : Nat, Memory.read m a = if a = index.toNat then first else if a = index.toNat + 1 then second
             else Memory.read s.staging a)
       ∧ exec (.stageRead index) s = .next (s.answered .ok
           ((0 : Byte) ++ Memory.read s.staging index.toNat ++ Memory.read s.staging (index.toNat + 1))))
     ∧ (126 < index.toNat →
       exec (.stageWrite index first second) s = .next (s.answered .badArgument ((0x01 : Byte) ++ (0 : BitVec 16)))
       ∧ exec (.stageRead index) s = .next (s.answered .badArgument ((0x02 : Byte) ++ (0 : BitVec 16)))))
  ∧ (∀ (bs : List Byte) (s : State), bs.length ≤ 128 → Memory.wf s.staging = true →
       ∀ a : Nat, Memory.read (s.stage bs).staging a = if a < bs.length then bs.getD a 0 else Memory.read s.staging a)

/-- R187: READ_EVENT removes the oldest event, writes its thirteen bytes from byte 0 of the staging buffer and answers
with its kind and the number left; on an empty queue it answers OK with 0 and 0 and changes nothing else. That the
response byte between kind and count is 0 is the model's reading (log 40). -/
def Obligations.ReadEventTakesOldest : Prop :=
  (∀ (e : Event) (rest : List Event) (s : State), s.mem.line ≠ .saving → s.mem.line ≠ .dormant →
    s.port.events = e :: rest →
    exec .readEvent s = .next (({ s with
        port := { s.port with events := rest }
        staging := Memory.writeList s.staging 0 e.bytes }).answered .ok
          (eventKindCode e.kind ++ (0 : Byte) ++ byte rest.length)))
  ∧ (∀ s : State, s.mem.line ≠ .saving → s.mem.line ≠ .dormant → s.port.events = [] →
    exec .readEvent s = .next (s.answered .ok 0))
  ∧ ∀ e : Event, e.bytes.length = 13

/-- What the reading commands stage (R194, 10.5, 10.6), byte by byte. An event record: kind, position, handle, tag, value,
detail. READ_POSITION: record state, interlock, STEP_EN, current step, target, accumulated, run clock in seconds, pause
total, with 0 in bytes 0 and 3 to 13 where no record is linked. READ_BUDGET: the entries waiting and granted that draw
from the budget, all entries, the sequence number, and the oldest waiting one. READ_PEER: free positions and slots,
sequence number, departure timer. READ_STATION, parts 0 to 6. A run clock beyond two bytes, a timer beyond four and the
waiting entry's draw and order where none waits have no stated bytes (logs 21, 22, 39). That the run clock of a linked
record is reported before a step has started there, too, is read from the rule (log 38). -/
def Obligations.ReportLayouts : Prop :=
  (∀ e : Event, e.bytes =
    [eventKindCode e.kind, (e.position.map fun p => byte p.val).getD 255, (e.handle.map fun h => byte h.val).getD 255]
      ++ (match e.tag with
          | some t => byte t.origin.val :: bytes16 t.epoch ++ bytes16 t.seq
          | none => [0, 0, 0, 0, 0])
      ++ bytes32 e.value ++ [e.detail])
  ∧ (∀ (p : PosIx) (s : State),
    let x := s.pos p
    (∀ (h : Handle) (r : Record) (e : StepEntry), x.link = some h → s.rec? h = some r → r.steps[r.current]? = some e →
      x.runClock < 65536000 → s.positionBytes p =
        [recStateCode r.state, if x.interlock then 1 else 0, if x.stepEn then 1 else 0, byte r.current] ++ bytes24 e.target
          ++ bytes24 r.accumulated ++ bytes16 (BitVec.ofNat 16 (x.runClock / 1000)) ++ bytes16 r.pauseTotal)
    ∧ (x.link = none → s.positionBytes p =
      [0, if x.interlock then 1 else 0, if x.stepEn then 1 else 0] ++ List.replicate 11 0))
  ∧ (∀ (b : BudgetIx) (t : BudgetTable),
    let draws (st : ClaimStatus) : List ClaimEntry := t.entries.filter fun e => e.status = st ∧ 0 < e.draws[b]
    (t.report b).take 7 = [byte (draws .waiting).length, byte (draws .granted).length, byte t.entries.length]
      ++ bytes32 t.seqNo
    ∧ (∀ e rest, draws .waiting = e :: rest → (t.report b).drop 7 =
      [byte e.station.val, byte e.position.val, byte e.draws[b]] ++ bytes32 e.order)
    ∧ (draws .waiting = [] → ((t.report b).drop 7).take 2 = [255, 255]) ∧ (t.report b).length = 14)
  ∧ (∀ p : Peer, (p.timer = none → p.report10 = [byte p.freePositions, byte p.freeSlots] ++ bytes32 p.seqNo
      ++ [255, 255, 255, 255])
    ∧ (∀ n, p.timer = some n → n < 4294967295 → p.report10 = [byte p.freePositions, byte p.freeSlots] ++ bytes32 p.seqNo
      ++ bytes32 (BitVec.ofNat 32 n))
    ∧ p.data = byte ((peerStateCode p.state).toNat * 16 + (roleCode p.role).toNat) ++ p.epoch)
  ∧ ∀ s : State, ∃ p0 p1 p2 p3 p4 p5 p6 : List Byte,
    s.stationPart 0 = some p0 ∧ s.stationPart 1 = some p1 ∧ s.stationPart 2 = some p2 ∧ s.stationPart 3 = some p3
    ∧ s.stationPart 4 = some p4 ∧ s.stationPart 5 = some p5 ∧ s.stationPart 6 = some p6
    ∧ (∀ h : Handle, p0[h.val]? = some (match (s.slot h).state with | .free => 0 | .reserved => 1 | .inUse _ => 2)
      ∧ p0[32 + h.val]? = some (match s.rec? h with | some r => recStateCode r.state | none => 255))
    ∧ p0.drop 64 = byte s.arrivalQueue.length :: s.arrivalQueue.map (fun h => byte h.val)
    ∧ (∀ p : PosIx, p.val < s.conf.posCount →
      (p1.drop (2 * p.val)).take 2 = [posStateCode (s.pos p).state, claimStateCode (s.pos p).claim])
    ∧ p1.length = 2 * min 8 s.conf.posCount
    ∧ p2 = [byte s.lbi.rxErrors, if s.lbi.listenOnly then 1 else 0, byte s.lbi.tx.length,
        match s.txNext with | some e => byte e.voids | none => 255]
    ∧ p3 = [byte s.conf.address.val, roleCode s.conf.role]
        ++ bytes16 (if s.mem.line = .joined then (s.peer s.conf.address).epoch else 0) ++ bytes16 s.mem.lastEpoch
        ++ [byte s.mem.buffer.length, byte s.mem.joinQueue.length,
            match s.mem.serving with | some v => byte v.joiner.val | none => 255]
        ++ bytes32 (BitVec.ofNat 32 (if s.mem.line = .detached then
            (match s.mem.backoff with | some n => 2 * s.conf.items.presence - n | none => 0) else 0))
    ∧ (∀ h : Handle, (p4.drop (4 * h.val)).take 4 = (match s.rec? h with
      | some r => match r.booking with
        | .none => [0, 0, 255, 255]
        | .asking k a => [1, byte k, byte a.val, 255]
        | .held a q => [2, 0, byte a.val, byte q.val]
      | none => [0, 0, 255, 255]))
    ∧ p4.length = 128
    ∧ p5.take 3 = [byte (s.lbi.tx.filter fun e => ∃ i, e.origin = .answer i).length,
        byte (s.bookings.filter fun b => b.isAssembling).length, byte s.bookings.length]
    ∧ (∀ (i : Nat) (b : Booking), s.bookings[i]? = some b → (p5.drop (3 + 11 * i)).take 11 =
      tagBytes b.tag ++ [byte b.booker.val, byte b.position.val, byte b.slot.val,
        match b.status with | .offered => 0 | .standing => 1 | .assembling _ => 2 | .closing _ _ => 3]
        ++ bytes16 (BitVec.ofNat 16 (b.hold - b.timer / 1000)))
    ∧ p5.length = 3 + 11 * s.bookings.length
    ∧ p6.take 13 = [byte s.conf.address.val, roleCode s.conf.role, s.conf.rate.setWidth 8, byte s.conf.items.lineNumber]
        ++ bytes16 (BitVec.ofNat 16 s.conf.items.presence) ++ bytes16 (BitVec.ofNat 16 s.conf.items.initialCapacities[0])
        ++ bytes16 (BitVec.ofNat 16 s.conf.items.initialCapacities[1])
        ++ bytes16 (BitVec.ofNat 16 s.conf.items.initialCapacities[2]) ++ [byte s.conf.items.positionCount]
    ∧ (∀ (p : PosIx) (b : BudgetIx), p6[13 + 3 * p.val + b.val]? = some (byte s.conf.items.draws[p][b]))
    ∧ (∀ r k : Fin 4, p6[37 + 4 * r.val + k.val]? =
      some (match s.conf.items.routes[r][k] with | some a => byte a.val | none => 255))
    ∧ p6.drop 53 = [byte s.conf.items.lampSilence] ++ bytes16 (BitVec.ofNat 16 s.conf.items.pauseLimit)
        ++ bytes16 (BitVec.ofNat 16 s.conf.items.bookingMargin) ++ bytes16 s.conf.digest
        ++ [if s.conf.computed then 1 else 0, if s.conf.closed then 1 else 0]

/-- The reading commands write their result into the staging buffer from byte 0, answer OK, and change nothing else: the
record's image (R19), a position (R50), a budget (R137), a peer (R116), a part of the station (R185). READ_POSITION's
response gives the slot that the booking of a BOOKED position reserves, the linked record's handle at any other, and 255
where neither applies. READ_STATION answers in every line state that takes commands, CONFIG included. READ_ALARMS answers with the eight flags and the CRC error count
and clears them (R179, R188). NOP leaves the prepared response (R180). Response bytes that no rule names are 0 (the
model's reading, log 40). -/
def Obligations.ReadingCommandsReport : Prop :=
  (∀ s : State, s.isActive = true →
     (∀ (h : Handle) (r : Record), s.rec? h = some r →
       exec (.readRecord (byte h.val)) s = .next ((s.stage (recordImage r)).answered .ok
         (recStateCode r.state ++ (0 : Byte) ++ byte (recordImage r).length)))
     ∧ (∀ p : PosIx, p.val < s.conf.posCount →
       let shows (handle : Byte) : Prop := exec (.readPosition (byte p.val)) s =
         .next ((s.stage (s.positionBytes p)).answered .ok
           (posStateCode (s.pos p).state ++ handle ++ claimStateCode (s.pos p).claim))
       ((s.pos p).state = .booked →
         (∀ before b after, s.Books before b after → b.position = p → shows (byte b.slot.val))
         ∧ ((∀ b ∈ s.bookings, b.position ≠ p) → shows 255))
       ∧ ((s.pos p).state ≠ .booked →
         (∀ h, (s.pos p).link = some h → shows (byte h.val)) ∧ ((s.pos p).link = none → shows 255)))
     ∧ (∀ b : BudgetIx, s.isJoined = true →
       exec (.readBudget (byte b.val)) s = .next ((s.stage (s.bud.report b)).answered .ok
         (BitVec.ofNat 12 s.bud.capacities[b] ++ BitVec.ofNat 12 (grantedSum s.bud.entries b))))
     ∧ (∀ b : BudgetIx, s.isJoined = false →
       exec (.readBudget (byte b.val)) s = .next (s.answered .refused 0x010000))
     ∧ ∀ a : Addr, exec (.readPeer (byte a.val)) s = .next ((s.stage (s.peer a).report10).answered .ok (s.peer a).data))
  ∧ (∀ (part : Byte) (bs : List Byte) (s : State), s.mem.line ≠ .saving → s.mem.line ≠ .dormant →
       s.stationPart part = some bs →
       exec (.readStation part) s = .next ((s.stage bs).answered .ok
         (lineStateCode s.mem.line ++ byte s.freeCount ++ byte s.port.events.length)))
  ∧ (∀ s : State, s.mem.line ≠ .saving → s.mem.line ≠ .dormant →
       exec .readAlarms s = .next (({ s with port := { s.port with alarms := Alarms.clear, crcErrors := 0 } }).answered .ok
         (alarmByte s.port.alarms ++ (0 : Byte) ++ byte s.port.crcErrors)))
  ∧ (∀ s : State, s.mem.line ≠ .saving → s.mem.line ≠ .dormant →
       exec .nop s = .next (s.answered s.port.prepared.status s.port.prepared.data))

/-- An event is appended while fewer than 32 are queued; on a full queue it is dropped and EVENT_OVERFLOW set; in SAVING
and DORMANT nothing is posted (R173, R186). ATTN is low exactly while an event is queued or an alarm flag is set, in every
line state (R189). The free count is judged against the low-water mark of 4 (R13): the low indication follows it, and
SLOTS_LOW or SLOTS_OK is posted, with the count, where it changes. -/
def Obligations.EventsPosted : Prop :=
  (∀ (e : Event) (s : State),
     (State.attnPin false s = false ↔ s.port.events ≠ [] ∨ s.port.alarms.portFault = true
       ∨ s.port.alarms.eventOverflow = true ∨ s.port.alarms.lineTxFault = true ∨ s.port.alarms.lineRxFault = true
       ∨ s.port.alarms.retentionLost = true ∨ s.port.alarms.retentionMismatch = true
       ∨ s.port.alarms.concessionLocked = true ∨ s.port.alarms.configMismatch = true)
     ∧ (s.mem.line = .saving ∨ s.mem.line = .dormant → s.post e = s)
     ∧ (s.mem.line ≠ .saving → s.mem.line ≠ .dormant → s.port.events.length < 32 →
       s.post e = { s with port := { s.port with events := s.port.events ++ [e] } })
     ∧ (s.mem.line ≠ .saving → s.mem.line ≠ .dormant → 32 ≤ s.port.events.length →
       s.post e = { s with port := { s.port with alarms := { s.port.alarms with eventOverflow := true } } }))
  ∧ (∀ s : State,
       (s.freeCount ≤ 4 → s.store.lowIndication = false → s.judgeSlots =
         State.post (stationEvent .slotsLow s.freeCount) { s with store := { s.store with lowIndication := true } })
       ∧ (4 < s.freeCount → s.store.lowIndication = true → s.judgeSlots =
         State.post (stationEvent .slotsOk s.freeCount) { s with store := { s.store with lowIndication := false } })
       ∧ ((s.freeCount ≤ 4 ↔ s.store.lowIndication = true) → s.judgeSlots = s))

/-! ### Records, slots and the arrival queue (chapter 1) -/

/-- REGISTER's checks in the order of R14; a refused REGISTER changes nothing but the response. Accepted (R3, R15), the
slot at the head of the free list holds a QUEUED record with the staged job reference, rush mark and steps and a new tag,
at the back of its group; then the slots are judged, placement runs, and OK gives the handle and the seq value. A new
tag's seq value is the first from the sequence counter on whose tag no record of the station bears (R4). -/
def Obligations.RegisterJudgesAndCreates : Prop :=
  (∀ s : State, s.isActive = true →
     (s.mem.line ≠ .joined → exec .register s = .next (s.answered .refused 0x010000))
     ∧ (s.mem.line = .joined → stagedSteps s.staging = none → exec .register s = .next (s.answered .refused 0x020000))
     ∧ ∀ steps, s.mem.line = .joined → stagedSteps s.staging = some steps →
       (startsWith s.conf.role steps = false → exec .register s = .next (s.answered .refused 0x030000))
       ∧ (startsWith s.conf.role steps = true → s.store.freeList.length ≤ 4 →
         exec .register s = .next (s.answered .refused 0x040000)))
  ∧ (∀ (h : Handle) (rest : List Handle) (steps : List StepEntry) (s : State), s.mem.line = .joined →
       stagedSteps s.staging = some steps → startsWith s.conf.role steps = true → s.store.freeList = h :: rest →
       4 ≤ rest.length →
       let tag : Tag := { origin := s.conf.address, epoch := (s.peer s.conf.address).epoch, seq := s.newSeq }
       let rush := decide (Memory.read s.staging 4 ≠ 0)
       let r : Record :=
         { tag := tag, jobRef := stagedJob s.staging, rush := rush, steps := steps, current := 0, accumulated := 0,
           gapElapsed := none, gapConceded := false, gapOpen := false, pauseTotal := 0, state := .queued, heldFrom := none,
           position := none, deviations := [], overflow := false, adoptedFrom := none, gapFrac := 0, booking := .none,
           exhausted := false, answerTimer := none, handOffTimer := none, locateTimer := none, carry := none,
           sentToward := none }
       let store : Store :=
         { s.store with
           freeList := rest
           seqCounter := if s.newSeq = 65535 then 1 else s.newSeq + 1
           slots := s.store.slots.set h { s.store.slots[h] with state := .inUse r }
           rushQueue := if rush then s.store.rushQueue ++ [h] else s.store.rushQueue
           ordinaryQueue := if rush then s.store.ordinaryQueue else s.store.ordinaryQueue ++ [h] }
       exec .register s = .next (State.respond .ok (byte h.val ++ s.newSeq)
         (State.placement (State.judgeSlots { s.deliver with store := store }))))
  ∧ (∀ s : State,
       let tag (q : BitVec 16) : Tag := { origin := s.conf.address, epoch := (s.peer s.conf.address).epoch, seq := q }
       let further (n : Nat) : BitVec 16 := (fun q => if q = 65535 then 1 else q + 1)^[n] s.store.seqCounter
       ∃ n ≤ 32, s.newSeq = further n ∧ s.resident (tag s.newSeq) = none ∧ ∀ m < n, s.resident (tag (further m)) ≠ none)

/-- Placement (R23): the head of the arrival queue goes to the lowest EMPTY position, which becomes ASSIGNED, the record
PLACED, with a PLACE event; with no EMPTY position or an empty queue it changes nothing, and none is found exactly where
no configured position is EMPTY. Where every queued handle names a record, placement is that one placing, over and over,
and after it no position is EMPTY or the arrival queue is empty. RUSH (R16): a QUEUED record is marked and goes to the back of the rush group; a PLACED one is marked where
it is; in every other state RUSH is refused NOT_QUEUED. -/
def Obligations.ArrivalsPlacedAndRushed : Prop :=
  (∀ s : State,
     (∀ (p : PosIx) (h : Handle) (rest : List Handle) (r : Record), s.lowestEmpty = some p → s.arrivalQueue = h :: rest →
       s.rec? h = some r →
       s.placeOne = State.post (recordEvent .place (some p) h r.tag r.current)
         (((s.unqueue h).setRec h { r with state := .placed, position := some p }).updPos p fun x =>
           { x with state := .assigned, link := some h }))
     ∧ (s.lowestEmpty = none ∨ s.arrivalQueue = [] → s.placement = s)
     ∧ (∀ (p : PosIx), s.lowestEmpty = some p →
       p.val < s.conf.posCount ∧ (s.pos p).state = .empty ∧ ∀ q : PosIx, q < p → (s.pos q).state ≠ .empty)
     ∧ (s.lowestEmpty = none ↔ ∀ p : PosIx, p.val < s.conf.posCount → (s.pos p).state ≠ .empty))
  ∧ (∀ s : State, (∀ h ∈ s.arrivalQueue, s.rec? h ≠ none) →
       (∀ p, s.lowestEmpty = some p → s.arrivalQueue ≠ [] → s.placement = s.placeOne.placement)
       ∧ (s.placement.lowestEmpty = none ∨ s.placement.arrivalQueue = []))
  ∧ (∀ (h : Handle) (r : Record) (s : State), s.isActive = true → s.rec? h = some r →
       (r.state = .queued → exec (.rush (byte h.val)) s = .next (({ (s.setRec h { r with rush := true }) with
           store := { (s.setRec h { r with rush := true }).store with
             rushQueue := s.store.rushQueue.filter (· ≠ h) ++ [h]
             ordinaryQueue := s.store.ordinaryQueue.filter (· ≠ h) } }).answered .ok 0))
       ∧ (r.state = .placed → exec (.rush (byte h.val)) s = .next ((s.setRec h { r with rush := true }).answered .ok 0))
       ∧ (r.state ≠ .queued → r.state ≠ .placed → exec (.rush (byte h.val)) s = .next (s.answered .refused 0x060000)))

/-- ARRIVED's checks in the order of R25: NOT_EXPECTED on EMPTY or BOOKED, OCCUPIED on OCCUPIED or CLEARING, WRONG_PLATE
for another seq. Accepted (R26), the position is OCCUPIED and a PLACED or INBOUND record enters LOADED; a HELD one stays
as it is. Entry into LOADED: a gap that has reached the max gap of the entry before the current step without concession
holds the record with GAP_EXCEEDED (R53). Else, with the min gap met at a JOINED station, a record that needs a booking
before its start and has none begins its round (R139), and one that needs none or holds one asks for its claim and is
WAITING (R29, R30); in every other case the state alone changes. -/
def Obligations.ArrivedLoadsRecord : Prop :=
  (∀ (p : PosIx) (seq : BitVec 16) (s : State), s.isActive = true → p.val < s.conf.posCount →
     ((s.pos p).state = .empty ∨ (s.pos p).state = .booked →
       exec (.arrived (byte p.val) seq) s = .next (s.answered .refused 0x070000))
     ∧ ((s.pos p).state = .occupied ∨ (s.pos p).state = .clearing →
       exec (.arrived (byte p.val) seq) s = .next (s.answered .refused 0x080000))
     ∧ ∀ (h : Handle) (r : Record), (s.pos p).state = .assigned → (s.pos p).link = some h → s.rec? h = some r →
       r.tag.seq ≠ seq → exec (.arrived (byte p.val) seq) s = .next (s.answered .refused 0x090000))
  ∧ (∀ (p : PosIx) (h : Handle) (r : Record) (s : State), s.isActive = true → p.val < s.conf.posCount →
       (s.pos p).state = .assigned → (s.pos p).link = some h → s.rec? h = some r →
       let u := s.deliver.updPos p fun x => { x with state := .occupied }
       (r.state = .placed ∨ r.state = .inbound →
         exec (.arrived (byte p.val) r.tag.seq) s = .next ((u.enterLoaded h).ok 0 0 0))
       ∧ (r.state = .held → exec (.arrived (byte p.val) r.tag.seq) s = .next (u.ok 0 0 0)))
  ∧ (∀ (h : Handle) (r : Record) (s : State), s.rec? h = some r →
       let loaded := s.setRec h { r with state := .loaded }
       let due : Prop := s.isJoined = true ∧ r.minGapMet = true
       let late (g : BitVec 24) : Prop := r.gapOpen = true ∧ r.gapConceded = false ∧ r.current ≠ 0 ∧ r.gapElapsed = some g
         ∧ ∃ (e : StepEntry) (m : BitVec 16), r.steps[r.current - 1]? = some e ∧ e.maxGap = some m ∧ m.toNat ≤ g.toNat
       (∀ g, late g → s.enterLoaded h = loaded.enterHeld h .gapExceeded g false)
       ∧ ((∀ g, ¬late g) →
         (due → r.needsBefore s.conf.role = true → r.booking = .none → s.enterLoaded h = loaded.roundFrom h 1)
         ∧ (∀ p, due → r.position = some p → r.needsBefore s.conf.role = false ∨ (∃ d q, r.booking = .held d q) →
           s.enterLoaded h = (loaded.setRec h { r with state := .waiting }).askClaim p)
         ∧ (¬due ∨ r.needsBefore s.conf.role = true ∧ (∃ k c, r.booking = .asking k c)
             ∨ r.position = none ∧ (r.needsBefore s.conf.role = false ∨ ∃ d q, r.booking = .held d q) →
           s.enterLoaded h = loaded)))

/-- REMOVED (R17, R27): NOT_PRESENT where no plate stands; a CLEARING position becomes EMPTY; a FINISHED record is retired
with PLATE_DONE; an ENDED, OUTBOUND or HELD record loses its position; any other is held REMOVED_EARLY. Placement runs. -/
def Obligations.RemovedEmptiesPosition : Prop :=
  ∀ (p : PosIx) (s : State), s.isActive = true → p.val < s.conf.posCount →
    ((s.pos p).state = .empty ∨ (s.pos p).state = .booked ∨ (s.pos p).state = .assigned →
      exec (.removed (byte p.val)) s = .next (s.answered .refused 0x0a0000))
    ∧ ((s.pos p).state = .clearing →
      exec (.removed (byte p.val)) s = .next (((s.deliver.vacate p .empty).placement).ok 0 0 0))
    ∧ ∀ (h : Handle) (r : Record), (s.pos p).state = .occupied → (s.pos p).link = some h → s.rec? h = some r →
      (r.state = .finished → exec (.removed (byte p.val)) s = .next (((((s.deliver.post
          { kind := .plateDone, position := some p, handle := some h, tag := some r.tag, value := r.jobRef,
            detail := byte r.deviations.length }).freeSlot h).judgeSlots.vacate p .empty).placement).ok 0 0 0))
      ∧ (r.state = .ended ∨ r.state = .outbound ∨ r.state = .held → exec (.removed (byte p.val)) s = .next
          ((((s.deliver.setRec h { r with position := none }).vacate p .empty).placement).ok 0 0 0))
      ∧ (r.state = .loaded ∨ r.state = .waiting ∨ r.state = .running ∨ r.state = .paused →
        exec (.removed (byte p.val)) s = .next
          (((s.deliver.enterHeld h .removedEarly r.accumulated true).placement).ok 0 0 0))

/-! ### Holds, concessions, scrapping and adopting (chapter 3) -/

/-- Entry into HELD (R55, R58, R59, R60). The record has one more deviation, or the overflow mark where it has four; its
held-from is the state it left; it holds no booking: a HELD one is cancelled with a CANCEL to its receiver, and a BOOK of
its slot still on the transmit list is withdrawn, be it of a round that runs, of one that has ended, or a renewal (R88,
R148); it keeps its position unless it was PLACED or leaves at an early removal. Its position has STEP_EN low and has given up its claim, by its claim state (R132). A QUEUED record leaves the
arrival queue. HELD is posted with the position kept. Every other record and position, the bookings held for others, the
table and the membership unit stay as they are. -/
def Obligations.EntryIntoHeld : Prop :=
  (∀ (h : Handle) (k : DevKind) (v : BitVec 24) (leaves : Bool) (r : Record) (s : State), s.rec? h = some r →
     r.state ≠ .held →
     let t := s.enterHeld h k v leaves
     let gone := leaves || decide (r.state = .placed)
     (∃ r' : Record, t.rec? h = some r' ∧ r'.state = .held ∧ r'.heldFrom = some r.state ∧ r'.booking = .none
         ∧ r'.position = (if gone then none else r.position)
         ∧ (r.deviations.length < 4 →
           r'.deviations = r.deviations ++ [{ kind := k, stepIndex := r.current, value := v }] ∧ r'.overflow = r.overflow)
         ∧ (4 ≤ r.deviations.length → r'.deviations = r.deviations ∧ r'.overflow = true)
         ∧ r'.tag = r.tag ∧ r'.jobRef = r.jobRef ∧ r'.rush = r.rush ∧ r'.steps = r.steps ∧ r'.current = r.current
         ∧ r'.accumulated = r.accumulated ∧ r'.pauseTotal = r.pauseTotal ∧ r'.gapElapsed = r.gapElapsed
         ∧ r'.gapOpen = r.gapOpen ∧ r'.gapConceded = r.gapConceded ∧ r'.adoptedFrom = r.adoptedFrom)
       ∧ (∀ g, g ≠ h → t.rec? g = s.rec? g)
       ∧ (∀ p, r.position ≠ some p → t.pos p = s.pos p)
       ∧ (∀ p, r.position = some p → (t.pos p).stepEn = false
           ∧ (gone = true → (t.pos p).state = .empty ∧ (t.pos p).link = none)
           ∧ (gone = false → (t.pos p).state = (s.pos p).state ∧ (t.pos p).link = (s.pos p).link)
           ∧ ((s.pos p).claim = .waiting ∨ (s.pos p).claim = .granted → (t.pos p).claim = .releaseQueued)
           ∧ ((s.pos p).claim = .none → (t.pos p).claim = .none)
           ∧ ((s.pos p).claim = .claimQueued → (s.pos p).withdrawing = false → s.lbi.inTx ≠ .listed (.position p) →
             (t.pos p).claim = .none)
           ∧ ((s.pos p).claim = .claimQueued → (s.pos p).withdrawing = true ∨ s.lbi.inTx = .listed (.position p) →
             (t.pos p).claim = .claimQueued ∧ (t.pos p).withdrawing = true ∧ (t.pos p).remembered = false)
           ∧ ((s.pos p).claim = .releaseQueued → (t.pos p).claim = .releaseQueued ∧ (t.pos p).remembered = false))
       ∧ (∀ d q, r.booking = .held d q → t.Cancels h r.tag d)
       ∧ (s.OneFrame h → t.Stopped h .book) ∧ SlotWait.book ∉ (t.slot h).waits ∧ SlotWait.renewal ∉ (t.slot h).waits
       ∧ t.store.rushQueue = (if r.state = .queued then s.store.rushQueue.filter (· ≠ h) else s.store.rushQueue)
       ∧ t.store.ordinaryQueue = (if r.state = .queued then s.store.ordinaryQueue.filter (· ≠ h) else s.store.ordinaryQueue)
       ∧ t.store.freeList = s.store.freeList
       ∧ t.port = (s.post (recordEvent .held (if gone then none else r.position) h r.tag
           ((devKindCode k).toNat + (if r.deviations.length < 4 then 0 else 256)))).port
       ∧ t.bookings = s.bookings ∧ t.bud = s.bud ∧ t.mem = s.mem)
  ∧ (∀ (h : Handle) (k : DevKind) (v : BitVec 24) (leaves : Bool) (r : Record) (s : State), s.rec? h = some r →
       r.state = .held → s.enterHeld h k v leaves = s)

/-- HOLD (R62): ALREADY_HELD, IN_TRANSIT and NOT_ACTIVE in the states named; in every other the record enters HELD with
OPERATOR_HOLD, placement runs and OK is answered. The checks of CONCESSION in the order of R64 and of ADOPT in the order
of R69, each refusal with the attempt count; only a wrong code changes anything, and that is the count and
CONCESSION_LOCKED (R63). -/
def Obligations.HoldStopsAndCodesCompared : Prop :=
  (∀ (h : Handle) (r : Record) (s : State), s.isActive = true → s.rec? h = some r →
     (r.state = .held → exec (.hold (byte h.val)) s = .next (s.answered .refused 0x0b0000))
     ∧ (r.state = .outbound → exec (.hold (byte h.val)) s = .next (s.answered .refused 0x0c0000))
     ∧ (r.state = .finished ∨ r.state = .uncertain → exec (.hold (byte h.val)) s = .next (s.answered .refused 0x0d0000))
     ∧ (r.state ≠ .held → r.state ≠ .outbound → r.state ≠ .finished → r.state ≠ .uncertain →
       exec (.hold (byte h.val)) s = .next (((s.deliver.enterHeld h .operatorHold 0 false).placement).ok 0 0 0)))
  ∧ (∀ (h : Handle) (r : Record) (s : State), s.isActive = true → s.rec? h = some r →
       let n := byte s.store.attempts
       (r.state ≠ .held → exec (.concession (byte h.val)) s = .next (s.answered .refused (0x0e00#16 ++ n)))
       ∧ (r.state = .held →
         (r.overflow = true → exec (.concession (byte h.val)) s = .next (s.answered .refused (0x0f00#16 ++ n)))
         ∧ (r.overflow = false → s.store.attempts = 0 →
           exec (.concession (byte h.val)) s = .next (s.answered .refused (0x1000#16 ++ n)))
         ∧ (r.overflow = false → 0 < s.store.attempts → Memory.readList s.staging 120 8 ≠ s.conf.items.code.toList →
           exec (.concession (byte h.val)) s = .next
             (s.wrongCodeEffect.answered .refused (0x1100#16 ++ byte (s.store.attempts - 1))))))
  ∧ (∀ (h : Handle) (r : Record) (s : State), s.isActive = true → s.rec? h = some r →
       let n := byte s.store.attempts
       (r.state ≠ .uncertain → exec (.adopt (byte h.val)) s = .next (s.answered .refused (0x1200#16 ++ n)))
       ∧ (r.state = .uncertain →
         (s.mem.line ≠ .joined → exec (.adopt (byte h.val)) s = .next (s.answered .refused (0x0100#16 ++ n)))
         ∧ (s.mem.line = .joined → s.store.attempts = 0 →
           exec (.adopt (byte h.val)) s = .next (s.answered .refused (0x1000#16 ++ n)))
         ∧ (s.mem.line = .joined → 0 < s.store.attempts → Memory.readList s.staging 120 8 ≠ s.conf.items.code.toList →
           exec (.adopt (byte h.val)) s = .next
             (s.wrongCodeEffect.answered .refused (0x1100#16 ++ byte (s.store.attempts - 1))))))

/-- CONCESSION accepted (R65, R66): the hold ends, gap conceded is set where the gap is open, and the record returns to
ENDED, LOADED, INBOUND or QUEUED by its held-from and its position, with what follows there; OK gives the return state and
the attempt count (the byte between them 0: log 40). -/
def Obligations.ConcessionReturns : Prop :=
  ∀ (h : Handle) (r : Record) (s : State), s.isActive = true → s.rec? h = some r → r.state = .held → r.overflow = false →
    0 < s.store.attempts → Memory.readList s.staging 120 8 = s.conf.items.code.toList →
    let back (st : RecState) : State :=
      s.deliver.setRec h { r with heldFrom := none, gapConceded := r.gapConceded || r.gapOpen, state := st }
    let late := r.heldFrom = some .ended ∨ r.heldFrom = some .outbound ∨ r.heldFrom = some .uncertain
    (late → exec (.concession (byte h.val)) s = .next (((back .ended).enterEnded h).ok 7 0 (byte s.store.attempts)))
    ∧ (¬late →
      (∀ p, r.position = some p → (s.pos p).state = .occupied →
        exec (.concession (byte h.val)) s = .next (((back .loaded).enterLoaded h).ok 3 0 (byte s.store.attempts)))
      ∧ (∀ p, r.position = some p → (s.pos p).state = .assigned →
        exec (.concession (byte h.val)) s = .next (((back .inbound).enterChecked h .inbound).ok 2 0 (byte s.store.attempts)))
      ∧ (r.position = none →
        exec (.concession (byte h.val)) s = .next
          ((((back .queued).enqueue h r.rush).placement).ok 0 0 (byte s.store.attempts))))

/-- SCRAP (R67): IN_TRANSIT for an OUTBOUND record. Any other gives up its claim with STEP_EN low, ends its booking (a
HELD one with a CANCEL to its receiver, a BOOK still on the list withdrawn, a round's or a renewal: R88, R148), stops its LOCATE if it is UNCERTAIN,
leaves the arrival queue if it is QUEUED, leaves its position CLEARING or EMPTY, and is deleted: its slot is FREE at the
head of the free list. Then the slots are judged, placement runs and OK is answered. A slot that becomes FREE goes to the
head of the free list and holds no record (R11, R18). -/
def Obligations.ScrapDeletes : Prop :=
  (∀ (h : Handle) (r : Record) (s : State), s.isActive = true → s.rec? h = some r →
     (r.state = .outbound → exec (.scrap (byte h.val)) s = .next (s.answered .refused 0x0c0000))
     ∧ (r.state ≠ .outbound → ∃ u : State, exec (.scrap (byte h.val)) s = .next (((u.freeSlot h).judgeSlots.placement).ok 0 0 0)
         ∧ u.store.freeList = s.store.freeList ∧ u.port.events = s.port.events ∧ u.bookings = s.bookings ∧ u.bud = s.bud
         ∧ u.mem = s.mem
         ∧ (∀ d q, r.booking = .held d q → u.Cancels h r.tag d)
         ∧ (s.OneFrame h → u.Stopped h .book) ∧ SlotWait.book ∉ (u.slot h).waits ∧ SlotWait.renewal ∉ (u.slot h).waits
         ∧ (r.state = .uncertain → s.OneFrame h → u.Stopped h .locate ∧ SlotWait.locate ∉ (u.slot h).waits)
         ∧ (∀ g, g ≠ h → u.rec? g = s.rec? g)
         ∧ (∀ p, r.position ≠ some p → u.pos p = s.pos p)
         ∧ (∀ p, r.position = some p → (u.pos p).stepEn = false
           ∧ ((s.pos p).state = .occupied → (u.pos p).state = .clearing ∧ (u.pos p).link = none)
           ∧ ((s.pos p).state = .assigned → (u.pos p).state = .empty ∧ (u.pos p).link = none)
           ∧ ((s.pos p).claim = .waiting ∨ (s.pos p).claim = .granted → (u.pos p).claim = .releaseQueued))
         ∧ (r.state = .queued → h ∉ u.arrivalQueue)))
  ∧ (∀ (h : Handle) (s : State), (s.freeSlot h).store.freeList = h :: s.store.freeList ∧ ((s.freeSlot h).slot h).state = .free
       ∧ (s.freeSlot h).rec? h = none ∧ (∀ g, g ≠ h → (s.freeSlot h).slot g = s.slot g)
       ∧ ∃ t : State, (s.freeSlot h).takeSlot = some (h, t) ∧ t.store.freeList = s.store.freeList)

/-- ADOPT accepted (R70): the record bears a new tag and keeps the old one in adopted-from; a LOCATE or BOOK of its still to
be sent is withdrawn (R88) and the locate timer stops; it enters HELD with the deviation ADOPTED, or with the overflow mark where
it has four, and HELD is posted under the new tag; the sequence counter moves on, and OK gives the attempt count and the
seq value. -/
def Obligations.AdoptRetags : Prop :=
  ∀ (h : Handle) (r : Record) (s : State), s.mem.line = .joined → s.rec? h = some r → r.state = .uncertain →
    0 < s.store.attempts → Memory.readList s.staging 120 8 = s.conf.items.code.toList →
    ∃ t r' : _, exec (.adopt (byte h.val)) s = .next t ∧ t.rec? h = some r' ∧ r'.state = .held
      ∧ r'.heldFrom = some .uncertain ∧ r'.adoptedFrom = some r.tag
      ∧ r'.tag = { origin := s.conf.address, epoch := (s.peer s.conf.address).epoch, seq := s.newSeq }
      ∧ r'.locateTimer = none ∧ r'.booking = .none ∧ r'.steps = r.steps ∧ r'.current = r.current
      ∧ (r.deviations.length < 4 →
        r'.deviations = r.deviations ++ [{ kind := .adopted, stepIndex := r.current, value := 0 }] ∧ r'.overflow = r.overflow)
      ∧ (4 ≤ r.deviations.length → r'.deviations = r.deviations ∧ r'.overflow = true)
      ∧ (let held := s.post (recordEvent .held r.position h r'.tag (11 + if r.deviations.length < 4 then 0 else 256))
        t.port.events = held.port.events ∧ t.port.alarms = held.port.alarms)
      ∧ (s.OneFrame h → t.Stopped h .locate ∧ t.Stopped h .book) ∧ SlotWait.locate ∉ (t.slot h).waits
      ∧ SlotWait.book ∉ (t.slot h).waits ∧ SlotWait.renewal ∉ (t.slot h).waits
      ∧ t.store.seqCounter = (if s.newSeq = 65535 then 1 else s.newSeq + 1)
      ∧ t.store.freeList = s.store.freeList
      ∧ t.port.prepared = { status := .ok, data := byte s.store.attempts ++ s.newSeq }
      ∧ (∀ g, g ≠ h → t.rec? g = s.rec? g) ∧ t.bookings = s.bookings ∧ t.bud = s.bud ∧ t.mem = s.mem

/-! ### Reset and power interruption (chapter 8) -/

/-- RESET samples the straps and leaves every block at its reset value (R4, R9 to R11, R13, R21, R22, R63, R91 to R94,
R102, R121, R130, R162, R164, R169, R190); the retention store keeps its marks and its image, and a write in progress ends
unfinished (R170, R172). The input levels, and the interlock state, which has no function before the close, are the
environment's (log 5). That the capacities and the sequence number of the emptied budget table are 0 is the model's choice
(log 53). While RST is asserted the outputs stand as the pin table gives, and no bit is counted (R177, R178). -/
def Obligations.ResetLeaves : Prop :=
  ∀ (address : Addr) (role : Role) (rate : BitVec 2) (s : State), ∃ t : State,
    exec (.reset address role rate) s = .next t
      ∧ t.conf = {
          address := address, role := role, rate := rate, digest := 0, computed := false, closed := false, posCount := 0,
          items :=
            { lineNumber := 0, presence := 250, initialCapacities := #v[0, 0, 0], positionCount := 1,
              draws := Vector.replicate 8 #v[0, 0, 0], routes := Vector.replicate 4 #v[none, none, none, none],
              lampSilence := 5, pauseLimit := 120, bookingMargin := 60, code := #v[0, 0, 0, 0, 0, 0, 0, 0] } }
      ∧ t.mem = {
          line := .config, lastEpoch := 0, phase := .none, buffer := [], barred := false, presence := none, joinWait := none,
          partGap := none, backoff := none, joinQueue := [], serving := none, upkeepNext := none,
          peers := Vector.replicate 16 { state := .absent, role := .expose, epoch := 0, freePositions := 0, freeSlots := 0,
                                         seqNo := 0, timer := none } }
      ∧ t.seqr = Vector.replicate 8 {
          state := .empty, link := none, interlock := false, runClock := 0, pauseClock := 0, silenceClock := 0,
          stepEn := false, claim := .none, withdrawing := false, remembered := false }
      ∧ t.store = {
          slots := Vector.replicate 32 { state := .free, waits := [] }, freeList := List.finRange 32, rushQueue := [],
          ordinaryQueue := [], seqCounter := 1, lowIndication := false, attempts := 5 }
      ∧ t.lbi = { tx := [], inTx := .idle, rxErrors := 0, listenOnly := false, stall := none }
      ∧ t.bud = { capacities := #v[0, 0, 0], entries := [], seqNo := 0 } ∧ t.bookings = []
      ∧ t.port = {
          shift := { selected := s.port.shift.selected, bits := [] }, prepared := { status := .ok, data := 0 },
          delivered := none, events := [], crcErrors := 0,
          alarms := { portFault := false, eventOverflow := false, lineTxFault := false, lineRxFault := false,
                      retentionLost := false, retentionMismatch := false, concessionLocked := false, configMismatch := false } }
      ∧ (∀ a, Memory.read t.staging a = 0) ∧ t.ret = { s.ret with writing := false } ∧ t.pins = s.pins
      ∧ (∀ p, State.stepEnPin true p s = false) ∧ (∀ n, State.sdoPin true n s = none) ∧ State.attnPin true s = true
      ∧ State.lineReleased true s = true ∧ ∀ sdi, State.sckRises true sdi s = s

/-- POWER_FAIL_WARNING (R48, R90, R102, R121, R134, R161, R171). In CONFIG, SAVING and DORMANT only the input's level
changes. In the other line states the station enters SAVING: every STEP_EN is low and every claim state NONE, without
marks; the transmit list is empty but for the LEAVE of a station that was JOINING or JOINED, its stall timer at 0; a frame
in transmission is finished on the pair and nothing waits for an origin; every timer of the membership unit is stopped,
and the join and the join queue are discarded. Of the booking list a CLOSING entry whose TAKEN is in transmission stays;
the positions of the others are EMPTY and their slots FREE, and no other position changes further. The hand-off unit's
timers stop, and a RUNNING record on its position is PAUSED. The budget table, the arrival queue, the receive error count,
events, alarms, the free list's order behind the freed slots, the configuration and the retention store stay. That the
slots freed are judged without an event (log 14), that the peer list and the join's items stand at their reset values and
that a record keeps its booking state (log 37) is read from the rules. -/
def Obligations.WarningSaves : Prop :=
  ∀ s : State,
    (s.isActive = false → exec .powerFailWarning s = .next { s with pins := { s.pins with pfw := true } })
    ∧ (s.isActive = true → ∃ t : State, exec .powerFailWarning s = .next t
      ∧ t.mem = { Membership.initial with line := .saving, lastEpoch := s.mem.lastEpoch }
      ∧ t.pins = { s.pins with pfw := true } ∧ t.bud = s.bud
      ∧ (∀ p, (t.pos p).stepEn = false ∧ (t.pos p).claim = .none ∧ (t.pos p).withdrawing = false
          ∧ (t.pos p).remembered = false)
      ∧ t.lbi.tx = (if s.mem.line = .joining ∨ s.mem.line = .joined then
          [{ origin := .upkeep, frame := { kind := .leave, dest := 31, payload := [] }, voids := 0, held := .none }] else [])
      ∧ t.lbi.stall = (if s.mem.line = .joining ∨ s.mem.line = .joined then some 0 else none)
      ∧ t.lbi.inTx = (match s.frameOut with
          | some f => .orphan f
          | none => .idle)
      ∧ t.lbi.rxErrors = s.lbi.rxErrors ∧ t.lbi.listenOnly = s.lbi.listenOnly ∧ (∀ h, (t.slot h).waits = [])
      ∧ t.bookings = s.bookings.filter s.takenOut
      ∧ (∀ b ∈ s.bookings, s.takenOut b = false →
          (t.pos b.position).state = .empty ∧ (t.pos b.position).link = none ∧ (t.slot b.slot).state = .free)
      ∧ (∀ p, (∀ b ∈ s.bookings, s.takenOut b = false → b.position ≠ p) → t.pos p =
          { s.pos p with stepEn := false, claim := .none, withdrawing := false, remembered := false })
      ∧ t.store.freeList = (handles.filter fun h => s.bookings.any fun b => !s.takenOut b && decide (b.slot = h)).reverse
          ++ s.store.freeList
      ∧ (t.store.lowIndication = true ↔ t.store.freeList.length ≤ 4)
      ∧ t.arrivalQueue = s.arrivalQueue ∧ t.store.seqCounter = s.store.seqCounter ∧ t.store.attempts = s.store.attempts
      ∧ t.port = s.port ∧ t.conf = s.conf ∧ t.ret = s.ret ∧ t.staging = s.staging
      ∧ ∀ (h : Handle) (r : Record), s.rec? h = some r → (∀ b ∈ s.bookings, b.slot ≠ h) →
        ∃ st, t.rec? h = some { r with
            state := st, answerTimer := none, handOffTimer := none, locateTimer := none, carry := none }
          ∧ (r.state ≠ .running → st = r.state)
          ∧ (∀ p, r.state = .running → (s.pos p).state = .occupied → (s.pos p).link = some h → st = .paused))

/-- PFW_DEASSERTED has no effect but on the input's level (R171). RETENTION_WRITE begins in SAVING while no TAKEN of this
station's is in transmission: the valid mark is cleared, the written mark set and the image composed as 10.7 lays it out:
address, role, position count, sequence counter, record count, arrival list length, two bytes for each position, the
handles of the PLACED records in position order and of the QUEUED ones in queue order, the records in slot order, each
behind its slot and length, and the CRC. Its end sets the valid mark and leaves the station DORMANT with nothing to send
(R90, R172). Elsewhere both change nothing. In the image an OUTBOUND record is UNCERTAIN with no position link and its
position CLEARING, every other record as it stands; a CLOSING entry whose TAKEN appeared is the INBOUND record its image
gives (R153; gap elapsed absent in the image: log 48), in the reserved slot, and its BOOKED position is ASSIGNED and
linked to it; without such an entry a reserved slot is not written and a BOOKED position is EMPTY. At the close (R174) an
image never written is nothing; one not valid or with a wrong CRC is lost; one of another address, role or position count
is a mismatch; else it is restored, each record as its state says. -/
def Obligations.RetentionWrittenAndJudged : Prop :=
  (∀ s : State,
     let takenOut : Prop := ∃ f, s.frameOut = some f ∧ f.kind = .taken
     let below : List PosIx := positions.filter fun p => p.val < s.conf.posCount
     let placed : List Handle := below.filterMap fun p =>
       (s.pos p).link.filter fun h => (s.rec? h).any fun r => r.state = .placed
     let arrivals : List Handle := placed ++ s.store.rushQueue ++ s.store.ordinaryQueue
     let records : List (List Byte) := handles.filterMap fun h => (s.savedRecord h).map fun r =>
       byte h.val :: byte (recordImage r).length :: recordImage r
     let body : List Byte := [byte s.conf.address.val, roleCode s.conf.role, byte s.conf.posCount]
       ++ bytes16 s.store.seqCounter ++ [byte records.length, byte arrivals.length] ++ below.flatMap s.savedPosition
       ++ arrivals.map (fun h => byte h.val) ++ records.flatten
     exec .pfwDeasserted s = .next { s with pins := { s.pins with pfw := false } }
     ∧ (s.mem.line = .saving → s.ret.writing = false → ¬takenOut → exec .retentionWrite s = .next { s with
         ret := { written := true, valid := false, writing := true, image := body ++ bytes16 (crc16 body) } })
     ∧ (s.mem.line = .saving → s.ret.writing = true → exec .retentionWriteEnd s = .next { s with
         ret := { s.ret with valid := true, writing := false }
         mem := { s.mem with line := .dormant, upkeepNext := none }
         lbi := { s.lbi with tx := [], stall := none, inTx := match s.frameOut with
           | some f => .orphan f
           | none => .idle }
         store := { s.store with slots := s.store.slots.map fun x => { x with waits := [] } } })
     ∧ (s.mem.line ≠ .saving ∨ s.ret.writing = true ∨ takenOut → exec .retentionWrite s = .next s)
     ∧ (s.mem.line ≠ .saving ∨ s.ret.writing = false → exec .retentionWriteEnd s = .next s))
  ∧ (∀ s : State,
       (∀ (h : Handle) (r : Record), s.rec? h = some r →
         s.savedRecord h = some (if r.state = .outbound then { r with state := .uncertain, position := none } else r))
       ∧ (∀ h : Handle, (s.slot h).state = .free → s.savedRecord h = none)
       ∧ (∀ p : PosIx, (s.pos p).state = .empty → s.savedPosition p = [0, 255])
       ∧ (∀ p : PosIx, (s.pos p).state = .clearing → s.savedPosition p = [4, 255])
       ∧ (∀ (p : PosIx) (h : Handle), (s.pos p).state = .assigned → (s.pos p).link = some h →
         s.savedPosition p = [2, byte h.val])
       ∧ (∀ (p : PosIx) (h : Handle) (r : Record), s.onPosition p h r →
         s.savedPosition p = (if r.state = .outbound then [4, 255] else [3, byte h.val]))
       ∧ (∀ p : PosIx, (s.pos p).state = .booked →
         (∀ b ∈ s.bookings, b.position = p → ∀ image, b.status ≠ .closing image true) → s.savedPosition p = [0, 255])
       ∧ (∀ h : Handle, (s.slot h).state = .reserved →
         (∀ b ∈ s.bookings, b.slot = h → ∀ image, b.status ≠ .closing image true) → s.savedRecord h = none)
       ∧ ∀ (before after : List Booking) (b : Booking) (image : List Byte) (r : Record),
         s.bookings = before ++ b :: after → (∀ x ∈ before ++ after, x.position ≠ b.position ∧ x.slot ≠ b.slot) →
         b.status = .closing image true → decodeImage image = some r →
         ((s.pos b.position).state = .booked → s.savedPosition b.position = [2, byte b.slot.val])
         ∧ ((s.slot b.slot).state = .reserved → s.savedRecord b.slot = some { r with
             current := r.current + 1, accumulated := 0, pauseTotal := 0, gapOpen := true,
             gapElapsed := some (r.gapElapsed.getD 0), gapFrac := 0, heldFrom := none, state := .inbound,
             position := some b.position }))
  ∧ (∀ s : State,
       (s.ret.written = false → s.judgeRetention = .nothing)
       ∧ (s.ret.written = true → s.ret.valid = false ∨ retentionCheckOk s.ret.image = false → s.judgeRetention = .lost)
       ∧ (s.ret.written = true → s.ret.valid = true → retentionCheckOk s.ret.image = true →
         (s.ret.image.take 3 ≠ [byte s.conf.address.val, roleCode s.conf.role, byte s.conf.posCount] →
           s.judgeRetention = .mismatch)
         ∧ (s.ret.image.take 3 = [byte s.conf.address.val, roleCode s.conf.role, byte s.conf.posCount] →
           s.judgeRetention = .restored))
       ∧ (∀ r : Record, (r.state = .queued ∨ r.state = .placed → r.restore = { r with state := .queued, position := none })
         ∧ (r.state = .held ∨ r.state = .finished → r.restore = r)
         ∧ (r.state = .uncertain → r.restore = { r with position := none })
         ∧ (r.state = .inbound ∨ r.state = .loaded ∨ r.state = .waiting ∨ r.state = .paused ∨ r.state = .ended →
           r.restore.state = .held ∧ r.restore.heldFrom = some r.state
             ∧ (r.deviations.length < 4 → r.restore.deviations = r.deviations ++
               [{ kind := .powerInterrupt, stepIndex := r.current, value := r.accumulated }])
             ∧ (4 ≤ r.deviations.length → r.restore.overflow = true))))

/-! ### Steps (chapter 2) -/

/-- DOSE_PULSE and RUN_CLOCK_SECOND on an active station (R34 to R36, R43). On a RUNNING record a pulse of a dose step and
a second of a timed step raise accumulated by one, and the step ends where that reaches the target; a pulse of a timed
step does nothing, a second of a dose step moves the run clock alone. Without a RUNNING record both do nothing, and so they do
in CONFIG, SAVING and DORMANT (R21, R48, R173). A second completed sets the run clock to that second (the model's choice,
log 2). -/
def Obligations.StepsCount : Prop :=
  (∀ (p : PosIx) (s : State), s.standsStill → exec (.dosePulse p) s = .next s ∧ exec (.runClockSecond p) s = .next s)
  ∧ ∀ (p : PosIx) (s : State), s.isActive = true →
    (∀ (h : Handle) (r : Record) (e : StepEntry), s.onPosition p h r → r.state = .running → r.steps[r.current]? = some e →
      let counted (u : State) : State := u.setRec h { r with accumulated := r.accumulated + 1 }
      let ends : Prop := e.target.toNat ≤ (r.accumulated + 1).toNat
      let pulsed := counted (s.updPos p fun x => { x with silenceClock := 0 })
      let clocked := s.updPos p fun x => { x with runClock := (x.runClock / 1000 + 1) * 1000 }
      (isDose e.kind = true →
        (ends → exec (.dosePulse p) s = .next (pulsed.endStep p h)) ∧ (¬ends → exec (.dosePulse p) s = .next pulsed)
        ∧ exec (.runClockSecond p) s = .next clocked)
      ∧ (isDose e.kind = false →
        (ends → exec (.runClockSecond p) s = .next ((counted clocked).endStep p h))
        ∧ (¬ends → exec (.runClockSecond p) s = .next (counted clocked)) ∧ exec (.dosePulse p) s = .next s))
    ∧ ((∀ (h : Handle) (r : Record), s.onPosition p h r → r.state ≠ .running) →
      exec (.dosePulse p) s = .next s ∧ exec (.runClockSecond p) s = .next s)

/-- A step end (R43 to R46): STEP_EN low, STEP_ENDED with the accumulated value, gap elapsed 0. After the last step the
record is FINISHED, before a remote one ENDED, both with the claim given up. Before a local one the current step rises and
accumulated is 0: the claim is carried over and the step starts at once where the ended entry has no min gap and the new
step needs no booking before its start; else the claim is given up and the record is LOADED. A grant told to a position
starts the step of a WAITING record (R32): clocks and pause total 0, accumulated kept, the gap closed and its concession
cleared, RUNNING with STEP_EN high on a CLOSED interlock and PAUSED on an OPEN one, STEP_STARTED; a record in another
state is left as it is. -/
def Obligations.StepEndsAndStarts : Prop :=
  (∀ (p : PosIx) (h : Handle) (r : Record) (e : StepEntry) (s : State), s.rec? h = some r → r.steps[r.current]? = some e →
     let u := State.post (recordEvent .stepEnded (some p) h r.tag r.accumulated.toNat)
       (s.updPos p fun x => { x with stepEn := false })
     let r0 : Record := { r with gapElapsed := some 0, gapFrac := 0 }
     let r1 : Record := { r0 with current := r.current + 1, accumulated := 0 }
     (r.steps[r.current + 1]? = none →
       s.endStep p h = (u.setRec h { r0 with state := .finished, gapOpen := false }).giveUpClaim p)
     ∧ ∀ n, r.steps[r.current + 1]? = some n →
       (stepRole n.kind ≠ s.conf.role →
         s.endStep p h = ((u.setRec h { r0 with state := .ended, gapOpen := true }).giveUpClaim p).enterEnded h)
       ∧ (stepRole n.kind = s.conf.role → e.minGap = none → r1.needsBefore s.conf.role = false →
         s.endStep p h = State.post (recordEvent .stepStarted (some p) h r.tag (r.current + 1))
           ((u.updPos p fun x => { x with runClock := 0, pauseClock := 0, silenceClock := 0, stepEn := x.interlock }).setRec h
             { r1 with state := if (s.pos p).interlock then .running else .paused, pauseTotal := 0, gapOpen := false,
                       gapConceded := false }))
       ∧ (stepRole n.kind = s.conf.role → e.minGap ≠ none ∨ r1.needsBefore s.conf.role = true →
         s.endStep p h = ((u.setRec h { r1 with state := .loaded, gapOpen := true }).giveUpClaim p).enterLoaded h))
  ∧ (∀ (p : PosIx) (h : Handle) (r : Record) (s : State), s.onPosition p h r →
       (r.state = .waiting → s.tellGrant p = State.post (recordEvent .stepStarted (some p) h r.tag r.current)
         ((s.updPos p fun x => { x with runClock := 0, pauseClock := 0, silenceClock := 0, stepEn := x.interlock }).setRec h
           { r with state := if (s.pos p).interlock then .running else .paused, pauseTotal := 0, gapOpen := false,
                    gapConceded := false }))
       ∧ (r.state ≠ .waiting → s.tellGrant p = s))

/-- ILK_OPEN and ILK_CLOSE on a configured position of an active station (R37, R38): the interlock follows the edge; an
opening pauses a RUNNING record with STEP_EN low, a closing resumes a PAUSED one with STEP_EN high and silence clock 0,
and renews a booking it holds. On other records the interlock alone changes. In CONFIG, SAVING and DORMANT, and at a
position that is not configured, an edge changes nothing but the level of the input (R21, R48, R173). -/
def Obligations.InterlockPausesAndResumes : Prop :=
  (∀ (p : PosIx) (s : State), s.standsStill ∨ s.conf.posCount ≤ p.val →
    exec (.ilkOpen p) s = .next { s with pins := { s.pins with ilk := s.pins.ilk.set p false } }
    ∧ exec (.ilkClose p) s = .next { s with pins := { s.pins with ilk := s.pins.ilk.set p true } })
  ∧ ∀ (p : PosIx) (s : State), s.isActive = true → p.val < s.conf.posCount →
    let opened : State := { s with pins := { s.pins with ilk := s.pins.ilk.set p false } }.updPos p fun x =>
      { x with interlock := false }
    let closed : State := { s with pins := { s.pins with ilk := s.pins.ilk.set p true } }.updPos p fun x =>
      { x with interlock := true }
    (∀ (h : Handle) (r : Record) (e : StepEntry), s.onPosition p h r → r.steps[r.current]? = some e → r.state = .running →
      exec (.ilkOpen p) s =
        .next ((opened.setRec h { r with state := .paused }).updPos p fun x => { x with stepEn := false }))
    ∧ (∀ (h : Handle) (r : Record), s.onPosition p h r → r.state = .paused →
      let resumed := (closed.setRec h { r with state := .running }).updPos p fun x =>
        { x with stepEn := true, silenceClock := 0 }
      (r.booking.receiver = none → exec (.ilkClose p) s = .next resumed)
      ∧ ∀ (d : Addr) (q : PosIx) (n : StepEntry), r.booking = .held d q → r.steps[r.current + 1]? = some n →
        s.txHas (.slot h) = false → (s.slot h).waits = [] →
        exec (.ilkClose p) s = .next (resumed.queueFrame (.slot h) (bookFrame d r.tag n.kind
          (({ r with state := .running }).hold s.conf.items.bookingMargin) true)))
    ∧ ((∀ (h : Handle) (r : Record), s.onPosition p h r → r.state ≠ .running) → exec (.ilkOpen p) s = .next opened)
    ∧ ((∀ (h : Handle) (r : Record), s.onPosition p h r → r.state ≠ .paused) → exec (.ilkClose p) s = .next closed)

/-- PAUSE_CLOCK_SECOND, LAMP_SILENT and DOSE_SHORT (R39 to R42): a second of PAUSED raises the pause total, and
PAUSE_LIMIT holds the record where it exceeds the limit; LAMP_SILENT and DOSE_SHORT hold a RUNNING record with its
accumulated value, the latter below the target of an entry with a time limit. A timed step has neither check. All three do
nothing where no record stands on the position, and in CONFIG, SAVING and DORMANT (R48, R173). The model's choice (log 2):
each command acts as if its clock had just come to its limit, whatever the clock shows, so that LAMP_SILENT and DOSE_SHORT
hold the record at any value of the silence or run clock, and a second of pause sets the pause clock to that second. -/
def Obligations.StepFaultsHold : Prop :=
  (∀ (p : PosIx) (s : State), s.standsStill ∨ (∀ h r, ¬s.onPosition p h r) →
    exec (.pauseClockSecond p) s = .next s ∧ exec (.lampSilent p) s = .next s ∧ exec (.doseShort p) s = .next s)
  ∧ ∀ (p : PosIx) (h : Handle) (r : Record) (s : State), s.isActive = true → s.onPosition p h r →
    let faulted (u : State) (k : DevKind) (v : BitVec 24) : State :=
      (u.updPos p fun x => { x with stepEn := false }).enterHeld h k v false
    (r.state = .paused →
      let n := r.pauseTotal + 1
      let u := (s.updPos p fun x => { x with pauseClock := (x.pauseClock / 1000 + 1) * 1000 }).setRec h
        { r with pauseTotal := n }
      (n.toNat ≤ s.conf.items.pauseLimit → exec (.pauseClockSecond p) s = .next u)
      ∧ (s.conf.items.pauseLimit < n.toNat →
        exec (.pauseClockSecond p) s = .next (faulted u .pauseLimit (n.setWidth 24))))
    ∧ (r.state ≠ .paused → exec (.pauseClockSecond p) s = .next s)
    ∧ (∀ e, r.state = .running → r.steps[r.current]? = some e → isDose e.kind = true →
      exec (.lampSilent p) s = .next (faulted s .lampSilent r.accumulated)
      ∧ (e.timeLimit ≠ none → r.accumulated.toNat < e.target.toNat →
        exec (.doseShort p) s = .next (faulted s .doseShort r.accumulated))
      ∧ (e.timeLimit = none ∨ e.target.toNat ≤ r.accumulated.toNat → exec (.doseShort p) s = .next s))
    ∧ (∀ e, r.state = .running → r.steps[r.current]? = some e → isDose e.kind = false →
      exec (.lampSilent p) s = .next s ∧ exec (.doseShort p) s = .next s)
    ∧ (r.state ≠ .running → exec (.lampSilent p) s = .next s ∧ exec (.doseShort p) s = .next s)

/-! ### The timers -/

/-- GAP_TIMER: a further second of gap counting (R52 to R54), on an active station, of an open gap in a counting state.
Gap elapsed rises by one to at most 16,777,215. Where it has reached the max gap of the governing entry in ENDED, INBOUND,
LOADED or WAITING without concession, the record is held GAP_EXCEEDED with it; a LOADED record at its min gap asks for its
booking and is judged; else only the timer moves. A closed gap or another state counts nothing, and nothing counts without
a record or in CONFIG, SAVING and DORMANT (R173). That the command counts one further second, the fraction at 0, whatever
fraction has run is the model's choice (log 2). -/
def Obligations.GapTimerCounts : Prop :=
  (∀ (h : Handle) (s : State), s.standsStill ∨ s.rec? h = none → exec (.gapTimer h) s = .next s)
  ∧ ∀ (h : Handle) (r : Record) (s : State), s.isActive = true → s.rec? h = some r →
    let g := r.gapElapsed.getD 0
    let g1 : BitVec 24 := if g = 16777215 then g else g + 1
    let r1 : Record := { r with gapElapsed := some g1, gapFrac := 0 }
    let counts : Prop := r.gapOpen = true ∧ (r.state = .ended ∨ r.state = .inbound ∨ r.state = .loaded ∨ r.state = .waiting
      ∨ r.state = .held)
    let late : Prop := r.gapConceded = false ∧ ∃ (e : StepEntry) (m : BitVec 16), e.maxGap = some m ∧ m.toNat ≤ g1.toNat
      ∧ (r.state = .ended ∧ r.steps[r.current]? = some e
        ∨ (r.state = .inbound ∨ r.state = .loaded ∨ r.state = .waiting) ∧ r.current ≠ 0
          ∧ r.steps[r.current - 1]? = some e)
    let due : Prop := r.state = .loaded ∧ r.current ≠ 0 ∧ ∃ (e : StepEntry) (m : BitVec 16),
      r.steps[r.current - 1]? = some e ∧ e.minGap = some m ∧ m.toNat = g1.toNat
    (counts → late → exec (.gapTimer h) s = .next ((s.setRec h r1).enterHeld h .gapExceeded g1 false))
    ∧ (counts → ¬late → due → exec (.gapTimer h) s = .next (((s.setRec h r1).startRound h).judgeReady h))
    ∧ (counts → ¬late → ¬due → exec (.gapTimer h) s = .next (s.setRec h r1))
    ∧ (¬counts → exec (.gapTimer h) s = .next s)

/-- A round asks the candidates of the route in list order, each that is JOINED with the route's role (R138); the next one
asked is the first such from an index on. A round (R139 to R141, R143) of a record with nothing of its slot on the
transmit list. It starts for a LOADED record that needs a booking before its start (its step has a max gap and the next is
remote: R29), its min gap met (R29), and for an ENDED one whose next step is remote, at a JOINED station, where no booking
is held and no round runs. It goes on from a candidate by queuing a BOOK to the next one, with the tag, the next step's
kind and the hold, and where none is left it ends, exhausted. The hold (R141) is what is left of the step, the max gap
behind it and the margin, at most 65535. Where one PRESENCE restarts rounds (PresencesAppear says when), the round of a
waiting record with the sender on its route starts anew, and every other record stays. Entry into ENDED: a gap at its max
gap without concession holds the record (R53); else a booking held begins the transfer, and a record without one begins a
round (R45, R139, R150). At the start of a transfer (R150) the record is OUTBOUND, its image as composed then (with the
state OUTBOUND: the model's reading, log 23) is cut into parts of 14 bytes, and part 0 is queued for the receiver with the
position, the index and the count. -/
def Obligations.BookingBegins : Prop :=
  (∀ (role : Role) (k : Nat) (s : State), 1 ≤ k →
     let fit (a : Addr) : Prop := (s.peer a).state = .joined ∧ (s.peer a).role = role
     (∀ i a, s.candidateFrom role k = some (i, a) →
       k ≤ i ∧ (s.route role)[i - 1]? = some a ∧ fit a
         ∧ ∀ j b, k ≤ j → j < i → (s.route role)[j - 1]? = some b → ¬fit b)
     ∧ (s.candidateFrom role k = none → ∀ j b, k ≤ j → (s.route role)[j - 1]? = some b → ¬fit b))
  ∧ (∀ (h : Handle) (r : Record) (s : State), s.rec? h = some r →
       let needs : Prop := r.state = .loaded ∧ r.needsBefore s.conf.role = true ∧ r.minGapMet = true
         ∨ r.state = .ended ∧ ∃ e, r.steps[r.current + 1]? = some e ∧ stepRole e.kind ≠ s.conf.role
       let starts : Prop := s.isJoined = true ∧ needs ∧ r.booking = .none
       (∀ role : Role, r.needsBefore role = true ↔ ∃ e n : StepEntry, r.steps[r.current]? = some e ∧ e.maxGap ≠ none
         ∧ r.steps[r.current + 1]? = some n ∧ stepRole n.kind ≠ role)
       ∧ (r.minGapMet = true ↔ ∀ (e : StepEntry) (m : BitVec 16), r.current ≠ 0 → r.steps[r.current - 1]? = some e →
         e.minGap = some m → ∃ g, r.gapElapsed = some g ∧ m.toNat ≤ g.toNat)
       ∧ (∀ (e : StepEntry) (margin : Nat), r.steps[r.current]? = some e →
         let window : Nat := (e.maxGap.map BitVec.toNat).getD 0
         (r.state = .loaded ∨ r.state = .running → r.hold margin = min 65535
           ((if isDose e.kind then (e.timeLimit.map BitVec.toNat).getD 0 else e.target.toNat - r.accumulated.toNat)
             + window + margin))
         ∧ (r.state = .ended → r.hold margin = min 65535 (window + margin)))
       ∧ (starts → s.startRound h = s.roundFrom h 1) ∧ (¬starts → s.startRound h = s)
       ∧ (∀ (k i : Nat) (c : Addr) (e : StepEntry), r.steps[r.current + 1]? = some e →
         s.candidateFrom (stepRole e.kind) k = some (i, c) → s.txHas (.slot h) = false → (s.slot h).waits = [] →
         s.roundFrom h k = (s.setRec h { r with booking := .asking i c, answerTimer := none, exhausted := false }).queueFrame
           (.slot h) { kind := .book, dest := BitVec.ofNat 5 c.val,
                       payload := tagBytes r.tag ++ [stepKindCode e.kind]
                         ++ bytes16 (BitVec.ofNat 16 (r.hold s.conf.items.bookingMargin)) ++ [0] })
       ∧ (∀ k, (∀ e, r.steps[r.current + 1]? = some e → s.candidateFrom (stepRole e.kind) k = none) →
         s.roundFrom h k = s.setRec h { r with booking := .none, answerTimer := none, exhausted := true })
       ∧ (∀ (a : Addr) (e : StepEntry), r.steps[r.current + 1]? = some e →
         (r.exhausted = true → r.booking = .none → needs → a ∈ s.route (stepRole e.kind) →
           s.restartRound a h = s.roundFrom h 1)
         ∧ (r.exhausted = false ∨ r.booking ≠ .none ∨ ¬needs ∨ a ∉ s.route (stepRole e.kind) → s.restartRound a h = s))
       ∧ (let ended := s.setRec h { r with state := .ended }
         let remote : Prop := ∃ e, r.steps[r.current + 1]? = some e ∧ stepRole e.kind ≠ s.conf.role
         let late (g : BitVec 24) : Prop := r.gapOpen = true ∧ r.gapConceded = false ∧ r.gapElapsed = some g
           ∧ ∃ (e : StepEntry) (m : BitVec 16), r.steps[r.current]? = some e ∧ e.maxGap = some m ∧ m.toNat ≤ g.toNat
         (∀ g, late g → s.enterEnded h = ended.enterHeld h .gapExceeded g false)
         ∧ ((∀ g, ¬late g) →
           (∀ d q, r.booking = .held d q → s.enterEnded h = ended.startTransfer h)
           ∧ (r.booking = .none → s.isJoined = true → remote → s.enterEnded h = ended.roundFrom h 1)
           ∧ (r.booking = .none → s.isJoined = false ∨ ¬remote → s.enterEnded h = ended)
           ∧ (∀ k c, r.booking = .asking k c → s.enterEnded h = ended))))
  ∧ (∀ (h : Handle) (r : Record) (d : Addr) (p : PosIx) (s : State), s.rec? h = some r → r.booking = .held d p →
       s.txHas (.slot h) = false → (s.slot h).waits = [] →
       let image := recordImage { r with state := .outbound }
       let count := (image.length + 13) / 14
       s.startTransfer h = (s.setRec h { r with
           state := .outbound, carry := some { image := image, next := 0, count := count } }).queueFrame (.slot h)
         { kind := .carry, dest := BitVec.ofNat 5 d.val,
           payload := [byte (p.val * 16), byte count] ++ image.take 14 })

/-- The timers of a record, on an active station and with nothing of its slot on the transmit list (R141, R143, R156,
R158). An answer timer that has run out fails the candidate asked: a BOOK to the next candidate, or the round exhausted. A
hand-off timer that has run out makes an OUTBOUND record UNCERTAIN toward the receiver, its position, if it has one,
CLEARING, with HANDOFF_FAILED and a LOCATE. A locate timer that has run out reports the failure and stops. None of them
does anything without a record, or in CONFIG, SAVING and DORMANT (R173). That each command acts wherever its clock runs, and
does nothing where it is stopped, is the model's choice (log 2). -/
def Obligations.RecordTimersExpire : Prop :=
  (∀ (h : Handle) (s : State), s.standsStill ∨ s.rec? h = none →
    exec (.answerTimer h) s = .next s ∧ exec (.handOffTimer h) s = .next s ∧ exec (.locateTimer h) s = .next s)
  ∧ ∀ (h : Handle) (r : Record) (s : State), s.isActive = true → s.rec? h = some r → s.txHas (.slot h) = false →
    (s.slot h).waits = [] →
    (∀ (k : Nat) (a : Addr) (e : StepEntry), r.booking = .asking k a → r.answerTimer ≠ none →
      r.steps[r.current + 1]? = some e →
      (∀ i c, s.candidateFrom (stepRole e.kind) (k + 1) = some (i, c) → exec (.answerTimer h) s = .next
        ((s.setRec h { r with booking := .asking i c, answerTimer := none, exhausted := false }).queueFrame (.slot h)
          (bookFrame c r.tag e.kind (r.hold s.conf.items.bookingMargin) false)))
      ∧ (s.candidateFrom (stepRole e.kind) (k + 1) = none → exec (.answerTimer h) s = .next
        (s.setRec h { r with booking := .none, answerTimer := none, exhausted := true })))
    ∧ (∀ (d : Addr) (q p : PosIx), r.state = .outbound → r.booking = .held d q → r.handOffTimer ≠ none →
      r.position = some p → exec (.handOffTimer h) s = .next
        (State.queueFrame (.slot h) { kind := .locate, dest := 31, payload := tagBytes r.tag }
          (State.post (recordEvent .handoffFailed (some p) h r.tag d.val)
            ((s.setRec h { r with state := .uncertain, sentToward := some d, booking := .none, position := none,
                                  handOffTimer := none, carry := none }).updPos p fun x =>
              { x with state := .clearing, link := none, stepEn := false }))))
    ∧ (∀ (d : Addr) (q : PosIx), r.state = .outbound → r.booking = .held d q → r.handOffTimer ≠ none →
      r.position = none → exec (.handOffTimer h) s = .next
        (State.queueFrame (.slot h) { kind := .locate, dest := 31, payload := tagBytes r.tag }
          (State.post (recordEvent .handoffFailed none h r.tag d.val)
            (s.setRec h { r with state := .uncertain, sentToward := some d, booking := .none, position := none,
                                 handOffTimer := none, carry := none }))))
    ∧ (r.state = .uncertain → r.locateTimer ≠ none → exec (.locateTimer h) s = .next
        (State.post (recordEvent .locateResult none h r.tag 0) (s.setRec h { r with locateTimer := none })))
    ∧ (r.answerTimer = none → exec (.answerTimer h) s = .next s)
    ∧ (r.handOffTimer = none → exec (.handOffTimer h) s = .next s)
    ∧ (r.locateTimer = none → exec (.locateTimer h) s = .next s)

/-- The timers of a booking at the receiver, on an active station (R146, R151). At the lapse of the entry that counts at a
position, among whatever others, the entry goes, the position is EMPTY and the slot FREE at the head of the free list, a
CANCEL goes to the booker, the slots are judged, BOOKING_LAPSED is posted and placement runs. A part gap puts the open
assembly back to STANDING. In CONFIG, SAVING and DORMANT neither does anything (R173). That both commands act wherever the clock runs, and do nothing where it is stopped, is the
model's choice (log 2). The order SLOTS event, BOOKING_LAPSED, PLACE is the model's reading (log 13). -/
def Obligations.BookingTimersExpire : Prop :=
  (∀ (p : PosIx) (s : State), s.standsStill → exec (.bookingLapse p) s = .next s ∧ exec (.partGap p) s = .next s)
  ∧ ∀ (p : PosIx) (s : State), s.isActive = true →
    (∀ (before after : List Booking) (b : Booking), s.Books before b after → b.position = p → b.counting = true →
      s.txHas (.slot b.slot) = false → (s.slot b.slot).waits = [] → exec (.bookingLapse p) s = .next (State.placement
        (State.post (recordEvent .bookingLapsed (some p) b.slot b.tag b.booker.val) (State.judgeSlots
          (State.queueFrame (.slot b.slot) { kind := .cancel, dest := destOf b.booker, payload := tagBytes b.tag }
            (State.freeSlot b.slot ({ s with bookings := before ++ after }.updPos p fun x =>
              { x with state := .empty, link := none, stepEn := false })))))))
    ∧ ((∀ b ∈ s.bookings, b.position = p → b.counting = false) → exec (.bookingLapse p) s = .next s)
    ∧ exec (.partGap p) s = .next { s with bookings := s.bookings.map fun b =>
        if b.position = p ∧ b.isAssembling = true then { b with status := .standing } else b }

/-- DEPARTURE_TIMER, PRESENCE_TIMER and BACKING_OFF (R95, R97, R112): DEPART naming a silent peer is queued once; PRESENCE
is queued, or its pending content replaced, and the timer restarts; where that frame is in transmission the replacement is
held until its transmission ends (R88; TransmissionOrder and OwnFramesAppear say what becomes of it then); a DETACHED
station whose backing-off time is over is JOINING with JOIN queued and LINE_STATE posted. JOIN_WAIT and SNAPSHOT_PART_GAP
(R106 to R108). With nothing barring it the waiting joiner is the line's first station: JOINED, in its own list JOINED at
the next epoch after the last, the table at the initial capacities, empty, sequence number 0. Otherwise, and at a gap in a
snapshot, the join is abandoned and JOIN queued again, with LINE_STATE. The model's choice (log 2): each of these commands
acts wherever its clock runs, whatever the clock shows, as if it had just come to its limit, and DEPARTURE_TIMER sets its
timer to 4P. -/
def Obligations.LineTimersExpire : Prop :=
  (∀ s : State,
     (∀ a : Addr, s.mem.line = .joined → a ≠ s.conf.address → (s.peer a).state ≠ .absent → (s.peer a).timer ≠ none →
       let due := s.updPeer a fun q => { q with timer := some (4 * s.conf.items.presence) }
       exec (.departureTimer a) s = .next (if s.txHas (.departure a) then due else
         due.queueFrame (.departure a) { kind := .depart, dest := 31, payload := [byte a.val] }))
     ∧ (s.mem.line = .joining ∨ s.mem.line = .joined → s.mem.presence ≠ none → s.txHas .presence = false →
       exec .presenceTimer s = .next
         ({ s with mem := { s.mem with presence := some 0 } }.queueFrame .presence s.presenceFrame))
     ∧ (s.mem.line = .joining ∨ s.mem.line = .joined → s.mem.presence ≠ none → s.txHas .presence = true →
       s.lbi.inTx ≠ .listed .presence → exec .presenceTimer s = .next
         ({ s with mem := { s.mem with presence := some 0 } }.updTx .presence fun e =>
           { e with frame := s.presenceFrame, voids := 0, held := .none }))
     ∧ (s.mem.line = .joining ∨ s.mem.line = .joined → s.mem.presence ≠ none → s.txHas .presence = true →
       s.lbi.inTx = .listed .presence → exec .presenceTimer s = .next
         ({ s with mem := { s.mem with presence := some 0 } }.updTx .presence fun e =>
           { e with held := .replace s.presenceFrame }))
     ∧ (s.mem.line = .detached → s.mem.backoff ≠ none → s.txHas .upkeep = false → exec .backingOff s = .next
         (State.post (stationEvent .lineState (1 * 256 + 7))
           ({ s with mem := { s.mem with line := .joining, presence := some 0, backoff := none, phase := .queued,
                                         buffer := [], barred := false, joinWait := none, partGap := none } }.queueFrame
             .upkeep { kind := .join, dest := 31, payload := [roleCode s.conf.role] })))
     ∧ (s.mem.line = .joined → s.presenceFrame =
         { kind := .presence, dest := 31,
           payload := [2, roleCode s.conf.role] ++ bytes16 (s.peer s.conf.address).epoch ++ bytes16 s.conf.digest
             ++ [byte s.emptyCount, byte s.store.freeList.length] ++ bytes32 s.bud.seqNo }))
  ∧ (∀ s : State, s.mem.line = .joining →
       let epoch := if s.mem.lastEpoch = 65535 then 1 else s.mem.lastEpoch + 1
       let again (cause : Nat) : State := State.post (stationEvent .lineState (1 * 256 + cause))
         ({ s with mem := { s.mem with phase := .queued, buffer := [], barred := false, joinWait := none,
                                       partGap := none } }.queueFrame .upkeep
           { kind := .join, dest := 31, payload := [roleCode s.conf.role] })
       (s.mem.phase = .waiting → s.mem.joinWait ≠ none →
         (s.mem.barred = false → ∃ t : State, exec .joinWait s = .next t ∧ t.mem.line = .joined
           ∧ (t.peer s.conf.address).state = .joined ∧ (t.peer s.conf.address).epoch = epoch ∧ t.mem.lastEpoch = epoch
           ∧ t.bud = { capacities := s.conf.items.initialCapacities, entries := [], seqNo := 0 }
           ∧ t.mem.phase = .none ∧ t.mem.buffer = [] ∧ t.lbi.listenOnly = false)
         ∧ (s.mem.barred = true → s.txHas .upkeep = false → exec .joinWait s = .next (again 13)))
       ∧ (∀ n, s.mem.phase = .receiving n → s.txHas .upkeep = false → exec .snapshotPartGap s = .next (again 12))
       ∧ ((∀ n, s.mem.phase ≠ .receiving n) → exec .snapshotPartGap s = .next s)
       ∧ (s.mem.phase ≠ .waiting → exec .joinWait s = .next s))

/-- The loss of the line (R28, R47, R110, R111, R134, R160), at a detach while JOINING or JOINED: DETACHED with the
backing-off timer at 0; the transmit list, the table and every claim state empty; every peer ABSENT; of the booking list a
CLOSING entry whose TAKEN is in transmission stays. A record that is in no arrival queue, and whose slot and position no
booking reserves, has no booking; RUNNING or PAUSED on its position it is HELD with LINE_LOST, or with the overflow mark
where it has four deviations; WAITING there it is LOADED, or HELD with GAP_EXCEEDED where its gap is out of bounds (R53);
OUTBOUND it is UNCERTAIN without a position, and the position it stood on CLEARING; in any other state it keeps its state.
Where records, slots and positions fit together, an entry that goes leaves its slot FREE and its position EMPTY, one that
stays keeps them RESERVED and BOOKED, and every other position that no OUTBOUND record is linked to keeps its state; the
slots are judged and placement runs on what the treatment leaves; and the events come in this order: HELD by increasing
position, SLOTS_LOW or SLOTS_OK, PLACE, and LINE_STATE last (R111). That the capacities and the sequence number of the
discarded table are 0 is the model's choice (log 53). -/
def Obligations.DetachLosesLine : Prop :=
  ∀ (c : Cause) (s : State), s.mem.line = .joining ∨ s.mem.line = .joined →
    let t := s.detach c
    t.mem.line = .detached ∧ t.mem.backoff = some 0 ∧ t.lbi.tx = [] ∧ t.lbi.stall = none
      ∧ t.bud = { capacities := #v[0, 0, 0], entries := [], seqNo := 0 }
      ∧ (∀ p, (t.pos p).claim = .none) ∧ (∀ a, (t.peer a).state = .absent) ∧ t.mem.lastEpoch = s.mem.lastEpoch
      ∧ t.mem.joinQueue = [] ∧ t.mem.serving = none ∧ t.mem.presence = none
      ∧ t.bookings = s.bookings.filter s.takenOut
      ∧ (∀ (h : Handle) (r : Record), s.rec? h = some r →
        (∀ b ∈ s.bookings, b.slot ≠ h ∧ ¬s.onPosition b.position h r) → h ∉ s.arrivalQueue →
        ∃ r', t.rec? h = some r' ∧ r'.tag = r.tag ∧ r'.steps = r.steps ∧ r'.current = r.current
          ∧ r'.accumulated = r.accumulated ∧ r'.booking = .none ∧ r'.answerTimer = none ∧ r'.handOffTimer = none
          ∧ (r.state = .outbound → r'.state = .uncertain ∧ r'.position = none ∧ r'.sentToward = none)
          ∧ (∀ p, s.onPosition p h r → r.state = .outbound → (t.pos p).state = .clearing ∧ (t.pos p).link = none)
          ∧ (∀ p, s.onPosition p h r → r.state = .running ∨ r.state = .paused →
            r'.state = .held ∧ r'.heldFrom = some r.state ∧ r'.position = r.position
              ∧ (r.deviations.length < 4 → r'.overflow = r.overflow ∧ r'.deviations =
                r.deviations ++ [{ kind := .lineLost, stepIndex := r.current, value := r.accumulated }])
              ∧ (4 ≤ r.deviations.length → r'.overflow = true ∧ r'.deviations = r.deviations))
          ∧ (∀ p, s.onPosition p h r → r.state = .waiting →
            (({ r with state := .loaded }).gapExceeded = none →
              r'.state = .loaded ∧ r'.deviations = r.deviations ∧ r'.overflow = r.overflow)
            ∧ ∀ g, ({ r with state := .loaded }).gapExceeded = some g → r'.state = .held ∧ r'.heldFrom = some .loaded
              ∧ (r.deviations.length < 4 → r'.overflow = r.overflow ∧ r'.deviations =
                r.deviations ++ [{ kind := .gapExceeded, stepIndex := r.current, value := g }])
              ∧ (4 ≤ r.deviations.length → r'.overflow = true ∧ r'.deviations = r.deviations))
          ∧ (r.state ≠ .outbound → r.state ≠ .running → r.state ≠ .paused → r.state ≠ .waiting → r'.state = r.state))
      ∧ (Sound s →
        let told (u : State) (p : PosIx) : State :=
          match s.working p with
          | some (h, r) =>
            let held (k : Nat) : State :=
              u.post (recordEvent .held (some p) h r.tag (k + if r.deviations.length < 4 then 0 else 256))
            if r.state = .running ∨ r.state = .paused then held 6
            else if r.state = .waiting ∧ ({ r with state := .loaded }).gapExceeded ≠ none then held 1
            else u
          | none => u
        (∀ b ∈ s.bookings, (s.takenOut b = false → (t.slot b.slot).state = .free)
          ∧ (s.takenOut b = true → (t.slot b.slot).state = .reserved ∧ (t.pos b.position).state = .booked))
        ∧ ∃ u : State,
          t = State.post (stationEvent .lineState (3 * 256 + causeCode c))
            { u.judgeSlots.placement with mem := { u.judgeSlots.placement.mem with backoff := some 0 } }
          ∧ u.port = (positions.foldl told s).port ∧ u.arrivalQueue = s.arrivalQueue
          ∧ (∀ b ∈ s.bookings, s.takenOut b = false → (u.pos b.position).state = .empty)
          ∧ ∀ p, (∀ b ∈ s.bookings, b.position ≠ p) →
            (∀ h r, (s.pos p).link = some h → s.rec? h = some r → r.state ≠ .outbound) →
            (u.pos p).state = (s.pos p).state ∧ (u.pos p).link = (s.pos p).link)

/-! ### The pair (chapter 4) -/

/-- TRANSMISSION_START and ARBITRATION_LOST (R76, R77, R87, R88). In a line state that sends, with a bit rate and nothing
in transmission, the frame begun is the one of lowest class and among those the first to have joined. A lost arbitration
leaves a frame with no held request in its place with its void count. A held replacement changes its content, with a void
count of 0 (the model's reading, log 30); a held withdrawal takes it off the list, and its origin is told: a slot's or the
upkeep origin's next frame is queued, a position's claim state is NONE and a remembered ask queues its CLAIM (R133), a
TAKEN's entry is removed (R159). A void acts on a held request as a lost arbitration does (R88). A withdrawal or replacement
asked for while the frame is not in transmission takes effect at once, a replacement with a void count of 0; one asked for
while it is, is held, and where the frame already holds a request the later takes the place of the earlier (the model's
choice, log 44). -/
def Obligations.TransmissionOrder : Prop :=
  (∀ s : State, s.isActive = true ∨ s.mem.line = .saving → s.conf.rate ≠ 3 → s.lbi.inTx = .idle → s.lbi.tx ≠ [] →
    ∃ (before after : List TxEntry) (e : TxEntry), s.lbi.tx = before ++ e :: after
      ∧ (∀ f ∈ before, kindPrio e.frame.kind < kindPrio f.frame.kind)
      ∧ (∀ f ∈ after, kindPrio e.frame.kind ≤ kindPrio f.frame.kind)
      ∧ exec .transmissionStart s = .next { s with lbi := { s.lbi with inTx := .listed e.origin } })
  ∧ (∀ s : State, s.mem.line = .config ∨ s.mem.line = .dormant ∨ s.conf.rate = 3 ∨ s.lbi.tx = [] →
    exec .transmissionStart s = .next s)
  ∧ (∀ (o : Origin) (f : Frame) (s : State),
    (s.lbi.inTx ≠ .listed o → s.withdrawTx o = s.removeTx o
      ∧ s.replaceTx o f = s.updTx o fun x => { x with frame := f, voids := 0, held := .none })
    ∧ (s.lbi.inTx = .listed o → ∀ e : TxEntry, s.txEntry o = some e →
      (s.withdrawTx o).txEntry o = some { e with held := .withdraw }
      ∧ (s.replaceTx o f).txEntry o = some { e with held := .replace f }
      ∧ (s.withdrawTx o = s.updTx o fun x => { x with held := .withdraw })
      ∧ s.replaceTx o f = s.updTx o fun x => { x with held := .replace f }))
  ∧ ∀ (e : TxEntry) (s : State), s.lbi.inTx = .listed e.origin → s.txEntry e.origin = some e → s.mem.joinQueue = [] →
    (e.held = .none → exec .arbitrationLost s = .next { s with lbi := { s.lbi with inTx := .idle } })
    ∧ (∀ f, e.held = .replace f → exec .arbitrationLost s = .next
        ({ s with lbi := { s.lbi with inTx := .idle } }.updTx e.origin fun x =>
          { x with frame := f, voids := 0, held := .none }))
    ∧ (e.held ≠ .none → exec (.frameVoid s.conf.address false) s = exec .arbitrationLost s)
    ∧ (e.held = .withdraw →
      let gone : State := { s with lbi := { s.lbi with inTx := .idle } }.removeTx e.origin
      let lost (t : State) : Prop := exec .arbitrationLost s = .next t
      ((e.origin = .presence ∨ (∃ a, e.origin = .departure a) ∨ ∃ b, e.origin = .capacity b) → lost gone)
      ∧ (∀ h, e.origin = .slot h → lost (gone.pumpSlot h))
      ∧ (e.origin = .upkeep → (s.mem.upkeepNext = none → lost gone)
        ∧ ∀ f, s.mem.upkeepNext = some f →
          lost ({ gone with mem := { gone.mem with upkeepNext := none } }.queueFrame .upkeep f))
      ∧ (∀ p, e.origin = .position p →
        let free := gone.updPos p fun x => { x with claim := .none, withdrawing := false, remembered := false }
        let d := s.conf.items.draws[p]
        let claim : Frame := { kind := .claim, dest := 31, payload := [byte p.val, byte d[0], byte d[1], byte d[2]] }
        ((s.pos p).remembered = false → lost free)
        ∧ ((s.pos p).remembered = true →
          lost ((free.queueFrame (.position p) claim).updPos p fun x => { x with claim := .claimQueued })))
      ∧ (∀ i, e.origin = .answer i → (e.frame.kind ≠ .taken → lost gone)
        ∧ ∀ (before after : List Booking) (b : Booking), s.Books before b after → b.isClosing = true →
          e.frame = { kind := .taken, dest := destOf b.booker, payload := tagBytes b.tag } → s.isActive = true →
          lost (State.placement (State.judgeSlots (State.freeSlot b.slot
            ({ gone with bookings := before ++ after }.updPos b.position fun x =>
              { x with state := .empty, link := none, stepEn := false }))))))

/-- FRAME_VOID (R79, R82 to R84), in an active station that serves no joiner. A void of its own frame, with no request
held, raises that frame's void count; the eighth drops the frame with LINE_TX_FAULT, and detaches a station on the line. A
frame it voids itself raises the receive error count; the sixteenth sets LINE_RX_FAULT and the listen-only mark, and
detaches a station on the line. Where it voids its own frame for an error, both counts rise; the sixteenth error alone
ends that transmission and detaches a station on the line, and what a held request would have freed is freed by the
detach, once (R11, R13). A frame that another station voids, or that is in error where this one does not void, changes
nothing. -/
def Obligations.VoidsCounted : Prop :=
  (∀ (e : TxEntry) (s : State), s.isActive = true → s.mem.joinQueue = [] → s.lbi.inTx = .listed e.origin →
    s.txEntry e.origin = some e → e.held = .none →
    let idle : State := { s with lbi := { s.lbi with inTx := .idle } }
    (e.voids < 7 → exec (.frameVoid s.conf.address false) s = .next
      (idle.updTx e.origin fun x => { x with voids := x.voids + 1 }))
    ∧ (7 ≤ e.voids → s.isOnLine = true → exec (.frameVoid s.conf.address false) s = .next
      ((idle.dropFrame e.origin).detach .txFault))
    ∧ (7 ≤ e.voids → s.isOnLine = false → exec (.frameVoid s.conf.address false) s = .next (idle.dropFrame e.origin)))
  ∧ (∀ (a : Addr) (s : State), s.isActive = true → s.mem.joinQueue = [] → a ≠ s.conf.address →
    s.mem.line = .joined ∨ s.lbi.listenOnly = false →
    (s.lbi.rxErrors < 15 → exec (.frameVoid a true) s = .next
      { s with lbi := { s.lbi with rxErrors := s.lbi.rxErrors + 1 } })
    ∧ (15 ≤ s.lbi.rxErrors →
      let marked : State := { s with
        lbi := { s.lbi with rxErrors := 16, listenOnly := true }
        port := { s.port with alarms := { s.port.alarms with lineRxFault := true } } }
      (s.isOnLine = true → exec (.frameVoid a true) s = .next (marked.detach .rxFault))
      ∧ (s.isOnLine = false → exec (.frameVoid a true) s = .next marked)))
  ∧ (∀ (e : TxEntry) (s : State), s.lbi.inTx = .listed e.origin → s.txEntry e.origin = some e →
    s.mem.line = .joined ∨ s.isActive = true ∧ s.lbi.listenOnly = false → e.voids < 7 ∨ e.held ≠ .none →
    (s.lbi.rxErrors < 15 → s.mem.joinQueue = [] → e.held = .none → exec (.frameVoid s.conf.address true) s = .next
      (State.updTx e.origin (fun x => { x with voids := x.voids + 1 })
        { s with lbi := { s.lbi with inTx := .idle, rxErrors := s.lbi.rxErrors + 1 } }))
    ∧ (15 ≤ s.lbi.rxErrors → s.isOnLine = true → exec (.frameVoid s.conf.address true) s = .next (State.detach .rxFault
        { s with
          lbi := { s.lbi with inTx := .idle, rxErrors := 16, listenOnly := true }
          port := { s.port with alarms := { s.port.alarms with lineRxFault := true } } })))
  ∧ ∀ (a : Addr) (found : Bool) (s : State), s.mem.joinQueue = [] → a ≠ s.conf.address →
    found = false ∨ s.isActive = false ∨ s.mem.line ≠ .joined ∧ s.lbi.listenOnly = true →
    exec (.frameVoid a found) s = .next s

/-- STALL_TIMER and FRAME_ERROR_LISTEN_ONLY (R84, R85). A stall sets LINE_TX_FAULT and detaches a station on the line; in
DETACHED, OUT, MISMATCH and SAVING the head frame alone is dropped, whatever else is on the list, and the stall timer
restarts while a frame is left; a head frame in transmission is finished on the pair (the model's choice, log 43). That
STALL_TIMER acts wherever the stall timer runs, and does nothing where it is stopped, is the model's choice (log 2). An
error found while listen-only abandons a join, and has no effect in DETACHED, OUT and MISMATCH; a station that voids does
not take it so. That this station's own frame in transmission then ends as at a lost arbitration, in SAVING and DORMANT
too, is the model's choice (log 11). A frame dropped from an origin that has nothing more to send leaves the list, with
LINE_TX_FAULT (R82, R85). -/
def Obligations.StallsAndListenOnlyErrors : Prop :=
  ((∀ s : State, s.isOnLine = true → s.lbi.stall ≠ none → s.lbi.tx ≠ [] → exec .stallTimer s = .next
     (State.detach .txFault { s with port := { s.port with alarms := { s.port.alarms with lineTxFault := true } } }))
   ∧ (∀ (before after : List TxEntry) (e : TxEntry) (s : State),
     s.mem.line = .detached ∨ s.mem.line = .out ∨ s.mem.line = .mismatch ∨ s.mem.line = .saving → s.lbi.stall ≠ none →
     s.lbi.tx = before ++ e :: after → (∀ f ∈ before ++ after, f.origin ≠ e.origin) →
     (∀ f ∈ before, kindPrio e.frame.kind < kindPrio f.frame.kind) →
     (∀ f ∈ after, kindPrio e.frame.kind ≤ kindPrio f.frame.kind) →
     (∀ h, e.origin = .slot h → (s.slot h).waits = []) → s.mem.upkeepNext = none →
     exec .stallTimer s = .next { s with
       lbi := { s.lbi with
         tx := before ++ after, stall := if before ++ after = [] then none else some 0,
         inTx := if s.lbi.inTx = .listed e.origin then .orphan e.frame else s.lbi.inTx }
       port := { s.port with alarms := { s.port.alarms with lineTxFault := true } } })
   ∧ (∀ s : State, s.lbi.stall = none ∨ s.lbi.tx = [] → exec .stallTimer s = .next s)
   ∧ (∀ (a : Addr) (s : State), s.mem.line = .joining → s.lbi.listenOnly = true → a ≠ s.conf.address →
     s.mem.phase = .waiting → s.txHas .upkeep = false → exec (.frameErrorListenOnly a) s = .next
       (State.post (stationEvent .lineState (1 * 256 + 14))
         ({ s with mem := { s.mem with phase := .queued, buffer := [], barred := false, joinWait := none,
                                       partGap := none } }.queueFrame .upkeep
           { kind := .join, dest := 31, payload := [roleCode s.conf.role] })))
   ∧ (∀ (a : Addr) (s : State), a ≠ s.conf.address → s.mem.line ≠ .joining → exec (.frameErrorListenOnly a) s = .next s)
   ∧ (∀ (a : Addr) (s : State), s.mem.line = .config ∨ s.mem.line = .joined ∨ s.isActive = true ∧ s.lbi.listenOnly = false →
     exec (.frameErrorListenOnly a) s = .next s)
   ∧ ∀ s : State, s.lbi.inTx ≠ .idle → s.mem.line = .saving ∨ s.mem.line = .dormant
       ∨ s.lbi.listenOnly = true ∧ (s.mem.line = .detached ∨ s.mem.line = .out ∨ s.mem.line = .mismatch) →
     exec (.frameErrorListenOnly s.conf.address) s = exec .arbitrationLost s)
  ∧ (∀ (o : Origin) (s : State), (∀ h, o = .slot h → (s.slot h).waits = []) → s.mem.upkeepNext = none →
       let t := s.dropFrame o
       t.lbi.tx = s.lbi.tx.filter (fun e => e.origin ≠ o) ∧ t.port.alarms = { s.port.alarms with lineTxFault := true }
         ∧ (t.lbi.stall = none ↔ t.lbi.tx = [] ∨ s.lbi.stall = none)
         ∧ t.store = s.store ∧ t.seqr = s.seqr ∧ t.mem = s.mem ∧ t.bud = s.bud ∧ t.bookings = s.bookings)

/-- What every appearance shares (R80, R81, R83, R85, R90, R97, R98), by kind code. In CONFIG nothing is taken; in SAVING
and DORMANT another station's frame reaches no block. In the active states a frame of another station lowers the receive
error count by one, restarts the sender's departure timer and withdraws a DEPART pending for it; a kind that is neither
replicated nor addressed to this station or to all has no other effect (but for the bar of the first-station rule and a
joiner served). A frame of an undefined kind never has another. This station's own JOIN sets the receive error count to 0,
any other frame of its own lowers it (R83); that the count falls, and is set to 0, in SAVING too is read from the rules
(log 29). -/
def Obligations.AppearancesShared : Prop :=
  ∀ (k : BitVec 5) (a : Addr) (dest : BitVec 5) (payload : List Byte) (s : State),
    let c := appearance k a dest payload
    (s.mem.line = .config → exec c s = .next s)
    ∧ (s.mem.line = .saving → a ≠ s.conf.address →
      exec c s = .next { s with lbi := { s.lbi with rxErrors := s.lbi.rxErrors - 1 } })
    ∧ (s.mem.line = .dormant → a ≠ s.conf.address → exec c s = .next s)
    ∧ (s.isActive = true → frameKindOf k = none → exec c s = .next (s.heard a))
    ∧ (s.isActive = true → a ≠ s.conf.address → dest ≠ BitVec.ofNat 5 s.conf.address.val → dest ≠ 31 →
      s.mem.joinQueue = [] → ∀ kind, frameKindOf k = some kind → kindReplicated kind = false →
      s.mem.line ≠ .joining → exec c s = .next (s.heard a))
    ∧ (s.heard a).lbi.rxErrors = s.lbi.rxErrors - 1
    ∧ (s.mem.line ≠ .joined ∨ a = s.conf.address → s.heard a =
      { s with lbi := { s.lbi with rxErrors := s.lbi.rxErrors - 1 } })
    ∧ (s.mem.line = .joined → a ≠ s.conf.address →
      ((s.heard a).peer a).timer = (s.peer a).timer.map (fun _ => 0)
      ∧ (s.lbi.inTx ≠ .listed (.departure a) →
        (s.heard a).lbi.tx = s.lbi.tx.filter fun e => e.origin ≠ .departure a))
    ∧ (s.isActive = true ∨ s.mem.line = .saving → ∃ t : State,
      exec (.joinAppears s.conf.address dest payload) s = .next t ∧ t.lbi.rxErrors = 0)
    ∧ (s.mem.line = .saving → frameKindOf k ≠ some .join → ∃ t : State, exec (appearance k s.conf.address dest payload) s =
      .next t ∧ t.lbi.rxErrors = s.lbi.rxErrors - 1)

/-! ### The budget table (chapter 6) -/

/-- A RELEASE that appears at a JOINED station removes the sender's entry for the position named and runs the grant scan;
without such an entry it changes nothing in the table but the sequence number (R123). -/
def Obligations.ReleaseRemovesEntry : Prop :=
  ∀ (a : Addr) (dest : BitVec 5) (payload : List Byte) (s : State), s.mem.line = .joined →
    ∃ t : State, exec (.releaseAppears a dest payload) s = .next t
      ∧ (∀ p : PosIx, payload = [byte p.val] → (∃ e ∈ s.bud.entries, e.station = a ∧ e.position = p) →
        t.bud = { capacities := s.bud.capacities, seqNo := s.bud.seqNo + 1,
                  entries := (grantScan s.bud.capacities
                    (s.bud.entries.filter fun e => ¬(e.station = a ∧ e.position = p))).1 })
      ∧ (∀ p : PosIx, payload = [byte p.val] → (∀ e ∈ s.bud.entries, ¬(e.station = a ∧ e.position = p)) →
        t.bud = { s.bud with seqNo := s.bud.seqNo + 1 })
      ∧ (∀ b : Byte, payload = [b] → 7 < b.toNat → t.bud = { s.bud with seqNo := s.bud.seqNo + 1 })

/-- A CLAIM that appears at a JOINED station (R120, R122): a duplicate, an oversize claim and one that draws nothing leave
the entries; else the entry is appended WAITING with the raised sequence number as its order, and the grant scan runs. A
CAPACITY that appears at a JOINED station (R124): the capacity changes, the WAITING entries whose draw exceeds it go, and
the grant scan runs. -/
def Obligations.ClaimsAndCapacitiesApplied : Prop :=
  (∀ (a : Addr) (dest : BitVec 5) (p : PosIx) (d0 d1 d2 : Byte) (s : State), s.mem.line = .joined →
     let draws : Triple := #v[d0.toNat, d1.toNat, d2.toNat]
     let stands : Prop := ∃ e ∈ s.bud.entries, e.station = a ∧ e.position = p
     let oversize : Prop := ∃ b : BudgetIx, s.bud.capacities[b] < draws[b]
     ∃ t : State, exec (.claimAppears a dest [byte p.val, d0, d1, d2]) s = .next t
       ∧ (stands ∨ oversize ∨ d0 = 0 ∧ d1 = 0 ∧ d2 = 0 → t.bud = { s.bud with seqNo := s.bud.seqNo + 1 })
       ∧ (¬stands → ¬oversize → ¬(d0 = 0 ∧ d1 = 0 ∧ d2 = 0) → t.bud =
         { capacities := s.bud.capacities, seqNo := s.bud.seqNo + 1,
           entries := (grantScan s.bud.capacities (s.bud.entries ++
             [{ station := a, position := p, draws := draws, status := .waiting, order := s.bud.seqNo + 1 }])).1 }))
  ∧ (∀ (a : Addr) (dest : BitVec 5) (b : BudgetIx) (units : BitVec 16) (s : State), s.mem.line = .joined →
       units.toNat ≤ 1023 →
       ∃ t : State, exec (.capacityAppears a dest (byte b.val :: bytes16 units)) s = .next t
         ∧ t.bud =
           { capacities := s.bud.capacities.set b units.toNat, seqNo := s.bud.seqNo + 1,
             entries := (grantScan (s.bud.capacities.set b units.toNat)
               (s.bud.entries.filter fun e => ¬(e.status = .waiting ∧ units.toNat < e.draws[b]))).1 })

/-- The grant scan (R126, R127) changes statuses alone: a GRANTED entry stays so, a WAITING one is granted only where no
older entry that still waits draws from a budget it draws from, no granted sum passes a capacity it was within, and an
entry left waiting has a budget it draws from that an older waiting entry draws from too, or that its draw does not fit.
-/
def Obligations.GrantScanFair : Prop :=
  ∀ (caps : Triple) (l : List ClaimEntry),
    let after : List ClaimEntry := (grantScan caps l).1
    after.map (fun e => { e with status := .waiting }) = l.map (fun e => { e with status := .waiting })
    ∧ (∀ (i : Nat) (e : ClaimEntry), l[i]? = some e → e.status = .granted → after[i]? = some e)
    ∧ NoneOvertaken l after
    ∧ (∀ b : BudgetIx, grantedSum l b ≤ caps[b] → grantedSum after b ≤ caps[b])
    ∧ (grantScan caps l).2 = ((l.zip after).filter fun x => x.1.status ≠ x.2.status).map (·.2)
    ∧ ∀ (i : Nat) (e : ClaimEntry), after[i]? = some e → e.status = .waiting → ∃ b : BudgetIx, 0 < e.draws[b] ∧
      ((∃ (j : Nat) (f : ClaimEntry), j < i ∧ after[j]? = some f ∧ f.status = .waiting ∧ 0 < f.draws[b])
        ∨ caps[b] < grantedSum after b + e.draws[b])

/-- Two JOINED stations with equal tables have equal tables after the same frame of another station (R121): the table
reads the frame and itself, nothing else of a station. -/
def Obligations.ReplicasAgree : Prop :=
  ∀ (k : FrameKind) (a : Addr) (dest : BitVec 5) (payload : List Byte) (s₁ s₂ t₁ t₂ : State),
    s₁.mem.line = .joined → s₂.mem.line = .joined → a ≠ s₁.conf.address → a ≠ s₂.conf.address → s₁.bud = s₂.bud →
    (k = .depart → payload ≠ [byte s₁.conf.address.val] ∧ payload ≠ [byte s₂.conf.address.val]) →
    exec (appearance (kindCode k) a dest payload) s₁ = .next t₁ →
    exec (appearance (kindCode k) a dest payload) s₂ = .next t₂ → t₁.bud = t₂.bud

/-- A position's claim asked for and given up, by its claim state and marks (R131, R132). Asked at NONE a CLAIM with the
position's draws is queued; in CLAIM_QUEUED with a withdrawal held and in RELEASE_QUEUED the ask is remembered; else it
stands. Given up in CLAIM_QUEUED the CLAIM is withdrawn at once, or the withdrawal is held while it is in transmission; in
WAITING and GRANTED a RELEASE is queued; a remembered ask is cleared. The table keeps its entries, and a grant that the
replica makes afterwards for the position is not told. -/
def Obligations.ClaimsAskedAndGivenUp : Prop :=
  ∀ (p : PosIx) (s : State),
    let d := s.conf.items.draws[p]
    let x := s.pos p
    (x.claim = .none → s.askClaim p =
      (s.queueFrame (.position p) { kind := .claim, dest := 31, payload := [byte p.val, byte d[0], byte d[1], byte d[2]] }).updPos
        p fun x => { x with claim := .claimQueued })
    ∧ (x.claim = .claimQueued ∧ x.withdrawing = true ∨ x.claim = .releaseQueued →
      s.askClaim p = s.updPos p fun x => { x with remembered := true })
    ∧ (x.claim = .claimQueued ∧ x.withdrawing = false ∨ x.claim = .waiting ∨ x.claim = .granted → s.askClaim p = s)
    ∧ (x.claim = .none → s.giveUpClaim p = s)
    ∧ (x.claim = .claimQueued → x.withdrawing = false → s.lbi.inTx ≠ .listed (.position p) → s.giveUpClaim p =
      (s.removeTx (.position p)).updPos p fun x => { x with claim := .none })
    ∧ (x.claim = .claimQueued → x.withdrawing = false → s.lbi.inTx = .listed (.position p) → s.giveUpClaim p =
      (s.updTx (.position p) fun e => { e with held := .withdraw }).updPos p fun x =>
        { x with withdrawing := true, remembered := false })
    ∧ (x.claim = .claimQueued ∧ x.withdrawing = true ∨ x.claim = .releaseQueued →
      s.giveUpClaim p = s.updPos p fun x => { x with remembered := false })
    ∧ (x.claim = .waiting ∨ x.claim = .granted → s.giveUpClaim p =
      (s.queueFrame (.position p) { kind := .release, dest := 31, payload := [byte p.val] }).updPos p fun x =>
        { x with claim := .releaseQueued })
    ∧ (s.giveUpClaim p).bud = s.bud
    ∧ ∀ e : ClaimEntry, e.position = p → (s.giveUpClaim p).tellEntry e = s.giveUpClaim p

/-- What becomes of a position's claim state at the appearances that concern its claim, at a JOINED station (R128, R129,
R133). Its own CLAIM: with an entry appended it is WAITING, with one standing for it that entry's status, and in both
cases a withdrawal without a remembered ask queues a RELEASE instead (for a standing entry: the model's choice, log 20);
oversize, it is NONE and CLAIM_OVERSIZE is reported with the lowest budget exceeded. Its own RELEASE: NONE, or
CLAIM_QUEUED where an ask is remembered. A CAPACITY that removes its WAITING entry: NONE, with CLAIM_OVERSIZE reported;
where one CAPACITY removes several entries of this station's, they are reported, and their HELD events come, in the order
of the entries, oldest first (the model's choice, log 49).
The grants of the scan are told oldest first, each to a position of this station whose claim state is WAITING.
CLAIM_OVERSIZE holds a WAITING record alone. -/
def Obligations.ClaimStatesFollow : Prop :=
  (∀ (e : TxEntry) (p : PosIx) (d0 d1 d2 : Byte) (s : State), s.mem.line = .joined → s.mem.joinQueue = [] →
    s.lbi.inTx = .listed (.position p) → s.txEntry (.position p) = some e → e.origin = .position p →
    e.frame = { kind := .claim, dest := 31, payload := [byte p.val, d0, d1, d2] } → ¬(d0 = 0 ∧ d1 = 0 ∧ d2 = 0) →
    (s.pos p).claim = .claimQueued →
    let judged (t : State) : Prop := exec (.claimAppears s.conf.address 31 [byte p.val, d0, d1, d2]) s = .next t
    let draws : Triple := #v[d0.toNat, d1.toNat, d2.toNat]
    let heard (t : BudgetTable) : State := { s.sent e with bud := t }
    let raised : BudgetTable := { s.bud with seqNo := s.bud.seqNo + 1 }
    let follow (u : State) (c : ClaimState) : State :=
      if (s.pos p).withdrawing = true ∧ (s.pos p).remembered = false then
        ((u.updPos p fun x => { x with withdrawing := false }).queueFrame (.position p)
          { kind := .release, dest := 31, payload := [byte p.val] }).updPos p fun x => { x with claim := .releaseQueued }
      else u.updPos p fun x => { x with claim := c, withdrawing := false, remembered := false }
    (∀ x, s.bud.entries.find? (fun x => decide (x.station = s.conf.address) && decide (x.position = p)) = some x →
      judged (follow (heard raised) (match x.status with | .waiting => .waiting | .granted => .granted)))
    ∧ ((∀ x ∈ s.bud.entries, ¬(x.station = s.conf.address ∧ x.position = p)) →
      (∀ b : BudgetIx, s.bud.capacities[b] < draws[b] → (∀ c, c < b → draws[c] ≤ s.bud.capacities[c]) →
        judged (State.reportOversize p b ((heard raised).updPos p fun x =>
          { x with claim := .none, withdrawing := false, remembered := false })))
      ∧ ((∀ b : BudgetIx, draws[b] ≤ s.bud.capacities[b]) →
        let scan := grantScan s.bud.capacities (s.bud.entries ++
          [{ station := s.conf.address, position := p, draws := draws, status := .waiting, order := s.bud.seqNo + 1 }])
        judged (State.tellGrants scan.2 (follow (heard { raised with entries := scan.1 }) .waiting)))))
  ∧ (∀ (e : TxEntry) (p : PosIx) (s : State), s.mem.line = .joined → s.mem.joinQueue = [] →
    s.lbi.inTx = .listed (.position p) → s.txEntry (.position p) = some e → e.origin = .position p →
    e.frame = { kind := .release, dest := 31, payload := [byte p.val] } → (s.pos p).claim = .releaseQueued →
    let d := s.conf.items.draws[p]
    let applied := applyFrame s.bud { kind := .release, sender := s.conf.address, payload := [byte p.val] }
    let free := (State.tellGrants applied.granted { s.sent e with bud := applied.table }).updPos p fun x =>
      { x with claim := .none, remembered := false }
    ((s.pos p).remembered = false → exec (.releaseAppears s.conf.address 31 [byte p.val]) s = .next free)
    ∧ ((s.pos p).remembered = true → exec (.releaseAppears s.conf.address 31 [byte p.val]) s = .next
      ((free.queueFrame (.position p) { kind := .claim, dest := 31, payload := [byte p.val, byte d[0], byte d[1], byte d[2]] }).updPos
        p fun x => { x with claim := .claimQueued })))
  ∧ (∀ (a : Addr) (dest : BitVec 5) (b : BudgetIx) (units : BitVec 16) (s : State), s.mem.line = .joined →
    s.mem.joinQueue = [] → a ≠ s.conf.address → units.toNat ≤ 1023 →
    let caps := s.bud.capacities.set b units.toNat
    let tooBig (x : ClaimEntry) : Bool := decide (x.status = .waiting) && decide (units.toNat < x.draws[b])
    let scan := grantScan caps (s.bud.entries.filter fun x => !tooBig x)
    exec (.capacityAppears a dest (byte b.val :: bytes16 units)) s = .next (State.tellGrants scan.2
      ((s.bud.entries.filter tooBig).foldl (State.ownRemoved caps)
        { s.heard a with bud := { capacities := caps, entries := scan.1, seqNo := s.bud.seqNo + 1 } })))
  ∧ ∀ (x : ClaimEntry) (s : State),
    let p := x.position
    (x.station = s.conf.address → (s.pos p).claim = .waiting →
      s.tellEntry x = (s.updPos p fun y => { y with claim := .granted }).tellGrant p)
    ∧ (x.station ≠ s.conf.address ∨ (s.pos p).claim ≠ .waiting → s.tellEntry x = s)
    ∧ (∀ l, State.tellGrants (x :: l) s = State.tellGrants l (s.tellEntry x)) ∧ State.tellGrants [] s = s
    ∧ (∀ (caps : Triple) (b : BudgetIx), x.station = s.conf.address → caps[b] < x.draws[b] →
      (∀ c, c < b → x.draws[c] ≤ caps[c]) →
      ((s.pos p).claim = .waiting → s.ownRemoved caps x = (s.updPos p fun y => { y with claim := .none }).reportOversize p b)
      ∧ ((s.pos p).claim ≠ .waiting → s.ownRemoved caps x = s.reportOversize p b))
    ∧ (∀ caps, x.station ≠ s.conf.address → s.ownRemoved caps x = s)
    ∧ ∀ b : BudgetIx,
      (∀ (h : Handle) (r : Record), s.onPosition p h r →
        (r.state = .waiting → s.reportOversize p b = s.enterHeld h .claimOversize (BitVec.ofNat 24 b.val) false)
        ∧ (r.state ≠ .waiting → s.reportOversize p b = s))
      ∧ ((∀ (h : Handle) (r : Record), ¬s.onPosition p h r) → s.reportOversize p b = s)

/-! ### Membership (chapter 5) -/

/-- A DEPART or LEAVE that takes another station off the line of a JOINED one (R99, R100, R102, R125, R159): the peer is
ABSENT with its epoch, timer stopped and free counts 0, PEER_GONE first of the events; the peer's claim entries go and the
grant scan runs with the sequence number raised; of its bookings here a CLOSING entry whose TAKEN is in transmission
stays; it leaves the join queue. A DEPART acts so whoever sent it, this station included. Where records, slots and
positions fit together, what concerned the station here ends as R159 gives: PeerDropped. A DEPART naming this station
itself detaches it while JOINING or JOINED and has no effect elsewhere; its own LEAVE takes a JOINED station OUT (R99,
R112, R114). That PEER_GONE naming this station is posted before the detach is the model's reading (log 15). The model's
choice: a JOINING station that a DEPART names detaches with no rejoin before it, also where the frame is the 33rd of a full
pending buffer (log 52), and the capacities and sequence number that a LEAVE discards are 0 (log 53). -/
def Obligations.DeparturesAppear : Prop :=
  (∀ (a x : Addr) (dest : BitVec 5) (s : State), s.mem.line = .joined → a ≠ s.conf.address →
     let gone (t : State) (a : Addr) (cause : Nat) : Prop :=
       t.mem.line = .joined
       ∧ (t.peer a).state = .absent ∧ (t.peer a).epoch = (s.peer a).epoch
       ∧ ((s.peer a).state ≠ .absent →
         (t.peer a).timer = none ∧ (t.peer a).freePositions = 0 ∧ (t.peer a).freeSlots = 0
         ∧ (s.port.events = [] →
           t.port.events.head? = some (stationEvent .peerGone (a.val * 256 + cause))))
       ∧ t.bud = { capacities := s.bud.capacities, seqNo := s.bud.seqNo + 1,
                   entries := (grantScan s.bud.capacities (s.bud.entries.filter fun e => e.station ≠ a)).1 }
       ∧ (∀ b, b ∈ t.bookings ↔ b ∈ s.bookings ∧ (b.booker ≠ a ∨ s.takenOut b = true))
       ∧ t.mem.joinQueue = s.mem.joinQueue.filter (fun j => j.address ≠ a)
       ∧ (∀ c, c ≠ a → (t.peer c).state = (s.peer c).state ∧ (t.peer c).epoch = (s.peer c).epoch)
       ∧ (Sound s → s.PeerDropped t a)
     (∃ t : State, exec (.departAppears x dest [byte a.val]) s = .next t ∧ gone t a 1)
     ∧ ∃ t : State, exec (.leaveAppears a dest []) s = .next t ∧ gone t a 2)
  ∧ (∀ (x : Addr) (dest : BitVec 5) (s : State),
       (s.mem.line = .joining → x ≠ s.conf.address → exec (.departAppears x dest [byte s.conf.address.val]) s =
         .next ((s.heard x).detach .departed))
       ∧ (s.mem.line = .joined → x ≠ s.conf.address → (s.peer s.conf.address).state = .joined →
         exec (.departAppears x dest [byte s.conf.address.val]) s = .next (State.detach .departed
           (State.post (stationEvent .peerGone (s.conf.address.val * 256 + 1))
             ((s.heard x).updPeer s.conf.address Peer.gone))))
       ∧ (s.mem.line = .detached ∨ s.mem.line = .out ∨ s.mem.line = .mismatch → x ≠ s.conf.address →
         exec (.departAppears x dest [byte s.conf.address.val]) s = .next (s.heard x))
       ∧ (s.mem.line = .joined → ∃ t : State, exec (.leaveAppears s.conf.address dest []) s = .next t
         ∧ t.mem.line = .out ∧ t.lbi.tx = [] ∧ t.bud = { capacities := #v[0, 0, 0], entries := [], seqNo := 0 }
         ∧ (∀ a, (t.peer a).state = .absent) ∧ (∀ p, (t.pos p).claim = .none) ∧ t.mem.lastEpoch = s.mem.lastEpoch))

/-- A JOIN (R83, R101, R102, R104, R125). At a JOINED station another's JOIN makes the peer JOINING at the next epoch with
the role carried, its departure timer at 0, and PEER_JOINED with its address and new epoch is the first of the events; its
claim entries go and the scan runs; where records, slots and positions fit together, what concerned the peer here ends as
at its departure (R159, PeerDropped). The station with the lowest JOINED address takes the joiner into its join queue with
the raised sequence number: at the back if it is new or was being served, in its place if it waited. Another's serving goes
on; one of the joiner itself stops, and with the snapshot frame not in transmission the queue's front is then served. At a
JOINING station that collects, another's JOIN is buffered, whatever part of the snapshot is to come, and the 33rd frame
abandons the join with REJOIN_OVERFLOW; before the own JOIN has appeared it is not buffered. The model's choice (log 50): a
JOINING station keeps an answer to the sender on its transmit list. The own JOIN starts the join: an empty buffer, the join
wait at 0, the receive error count 0. -/
def Obligations.JoinsAppear : Prop :=
  ∀ (a : Addr) (role : Role) (dest : BitVec 5) (s : State),
    (s.mem.line = .joined → a ≠ s.conf.address → ∃ t : State, exec (.joinAppears a dest [roleCode role]) s = .next t
      ∧ (t.peer a).state = .joining ∧ (t.peer a).role = role ∧ (t.peer a).timer = some 0
      ∧ (t.peer a).freePositions = 0 ∧ (t.peer a).freeSlots = 0
      ∧ (let epoch := if (s.peer a).epoch = 65535 then 1 else (s.peer a).epoch + 1
        (t.peer a).epoch = epoch ∧ (s.port.events.length < 32 →
          s.port.events ++ [stationEvent .peerJoined (a.val * 65536 + epoch.toNat)] <+: t.port.events))
      ∧ t.bud = { capacities := s.bud.capacities, seqNo := s.bud.seqNo + 1,
                  entries := (grantScan s.bud.capacities (s.bud.entries.filter fun e => e.station ≠ a)).1 }
      ∧ ((s.peer s.conf.address).state = .joined → (∀ b, b < s.conf.address → b ≠ a → (s.peer b).state ≠ .joined) →
        let joiner : Joiner := { address := a, sJoin := s.bud.seqNo + 1 }
        let others : List Joiner := s.mem.joinQueue.filter fun j => j.address ≠ a
        let served : Prop := ∃ v, s.mem.serving = some v ∧ v.joiner = a
        ((∀ j ∈ s.mem.joinQueue, j.address ≠ a) → t.mem.joinQueue = s.mem.joinQueue ++ [joiner])
        ∧ (served → t.mem.joinQueue = others ++ [joiner])
        ∧ (¬served → (∃ j ∈ s.mem.joinQueue, j.address = a) →
          t.mem.joinQueue = s.mem.joinQueue.map fun j => if j.address = a then joiner else j)
        ∧ (served → s.lbi.inTx ≠ .listed .upkeep → s.mem.upkeepNext = none →
          (∀ e, s.txEntry .upkeep = some e → e.frame.kind = .snapHead ∨ e.frame.kind = .snapPart) →
          t.mem.serving.map (·.joiner) = t.mem.joinQueue.head?.map (·.address)
            ∧ (t.txEntry .upkeep).map (·.frame.kind) = some .snapHead))
      ∧ (∀ v, s.mem.serving = some v → v.joiner ≠ a → t.mem.serving = some v)
      ∧ ((∃ b, b < s.conf.address ∧ b ≠ a ∧ (s.peer b).state = .joined) → t.mem.joinQueue = s.mem.joinQueue)
      ∧ (Sound s → s.PeerDropped t a))
    ∧ (s.mem.line = .joining → a ≠ s.conf.address →
      let collecting : Prop := s.mem.phase = .waiting ∨ ∃ n, s.mem.phase = .receiving n
      (collecting → s.mem.buffer.length < 32 →
        exec (.joinAppears a dest [roleCode role]) s = .next { s.heard a with
          mem := { (s.heard a).mem with
            buffer := s.mem.buffer ++ [{ kind := .join, sender := a, payload := [roleCode role] }] } })
      ∧ (collecting → 32 ≤ s.mem.buffer.length → s.txHas .upkeep = false →
        exec (.joinAppears a dest [roleCode role]) s = .next (State.post (stationEvent .lineState (1 * 256 + 11))
          ({ s.heard a with mem := { s.mem with phase := .queued, buffer := [], barred := false, joinWait := none,
                                                partGap := none } }.queueFrame .upkeep
            { kind := .join, dest := 31, payload := [roleCode s.conf.role] })))
      ∧ (¬collecting → exec (.joinAppears a dest [roleCode role]) s = .next (s.heard a)))
    ∧ (s.mem.line = .joining → ∃ t : State, exec (.joinAppears s.conf.address dest [roleCode role]) s = .next t
      ∧ t.mem.line = .joining ∧ t.mem.phase = .waiting ∧ t.mem.buffer = [] ∧ t.mem.joinWait = some 0
      ∧ t.mem.barred = false ∧ t.lbi.rxErrors = 0)

/-- SNAP_HEAD at a joiner whose own JOIN has appeared, carrying its address (R105, R107, R109): another digest puts the
station into MISMATCH with CONFIG_MISMATCH and LEAVE queued; a buffer shorter than the offset abandons the join, and so does
a second SNAP_HEAD; else the snapshot begins, the offset's frames leave the buffer and the part gap timer starts. SNAP_PART
at a joiner taking a snapshot, carrying its address (R106, R107): a part out of order abandons the join; the next expected
one is taken, and the last completes the join. Then the table has the snapshot's capacities, sequence number and entries,
these in order with consecutive order numbers that end at that sequence number, and the list its peers, the own entry
JOINED; the buffered frames are applied to both in order, a replicated one raising the sequence number by one and a JOIN,
DEPART or LEAVE acting on the list with its event; and with what they leave the station is JOINED at the epoch of its own
entry, LINE_STATE posted behind their events, and every join item at rest. The provider serves the front of its join queue
when the upkeep origin is free (R103): SNAP_HEAD with the table's sequence number, capacities and entry count, then at each
appearance of its own SNAP_HEAD or SNAP_PART the next part, and the joiner leaves the queue behind the last. The parts hold,
five peers to each of the first three and the last to the fourth, two groups of state and role to a byte and then the
epochs, and three claim entries of four bytes to each further one, oldest first (10.3). -/
def Obligations.SnapshotsServedAndTaken : Prop :=
  (∀ (a : Addr) (dest : BitVec 5) (payload : List Byte) (q : SnapHead) (s : State), s.mem.line = .joining →
     a ≠ s.conf.address → dest = 31 → snapHeadPayload payload = some q → q.joiner = s.conf.address →
     let again (cause : Nat) : State := State.post (stationEvent .lineState (1 * 256 + cause))
       ({ s.heard a with mem := { s.mem with phase := .queued, buffer := [], barred := false, joinWait := none,
                                             partGap := none } }.queueFrame .upkeep
         { kind := .join, dest := 31, payload := [roleCode s.conf.role] })
     (s.mem.phase = .waiting → q.digest = s.conf.digest → q.offset ≤ s.mem.buffer.length →
       exec (.snapHeadAppears a dest payload) s = .next { s.heard a with mem := { s.mem with
         phase := .receiving { provider := a, sCap := q.sCap, capacities := q.capacities, count := q.count, nextPart := 0,
                               peers := [], claims := [] }
         buffer := s.mem.buffer.drop q.offset, barred := true, joinWait := none, partGap := some 0 } })
     ∧ (s.mem.phase = .waiting → q.digest = s.conf.digest → s.mem.buffer.length < q.offset → s.txHas .upkeep = false →
       exec (.snapHeadAppears a dest payload) s = .next (again 16))
     ∧ (∀ n, s.mem.phase = .receiving n → s.txHas .upkeep = false →
       exec (.snapHeadAppears a dest payload) s = .next (again 12))
     ∧ (s.mem.phase = .waiting → q.digest ≠ s.conf.digest →
       ∃ t : State, exec (.snapHeadAppears a dest payload) s = .next t
       ∧ t.mem.line = .mismatch ∧ t.port.alarms.configMismatch = true ∧ t.mem.buffer = [] ∧ t.mem.presence = none
       ∧ t.lbi.tx = [{ origin := .upkeep, frame := { kind := .leave, dest := 31, payload := [] }, voids := 0,
                       held := .none }]))
  ∧ (∀ (a : Addr) (dest : BitVec 5) (index : Nat) (content : List Byte) (n : SnapIn) (ps : List SnapPeer)
       (es : List ClaimEntry) (s : State), s.mem.line = .joining → s.mem.phase = .receiving n → a ≠ s.conf.address →
       dest = 31 → index < 256 → n.partContent index content = some (ps, es) →
       let part : Instr := .snapPartAppears a dest (byte s.conf.address.val :: byte index :: content)
       let taken : SnapIn := { n with nextPart := index + 1, peers := n.peers ++ ps, claims := n.claims ++ es }
       let loaded : State := { s.heard a with
         bud := { capacities := n.capacities, seqNo := n.sCap
                  entries := taken.claims.zipIdx.map fun (e, i) =>
                    { e with order := n.sCap - BitVec.ofNat 32 (taken.claims.length - 1 - i) } }
         mem := { s.mem with
           barred := true
           peers := Vector.ofFn fun c =>
             let listed : Peer := match taken.peers[c.val]? with
               | some q => { Peer.blank with state := q.state, role := q.role, epoch := q.epoch }
               | none => Peer.blank
             if c = s.conf.address then { listed with state := .joined } else listed } }
       let u : State := s.mem.buffer.foldl State.replayFrame loaded
       (index ≠ n.nextPart → s.txHas .upkeep = false → exec part s =
         .next (State.post (stationEvent .lineState (1 * 256 + 12))
           ({ s.heard a with mem := { s.mem with phase := .queued, buffer := [], barred := false, joinWait := none,
                                                 partGap := none } }.queueFrame .upkeep
             { kind := .join, dest := 31, payload := [roleCode s.conf.role] })))
       ∧ (index = n.nextPart → index ≠ lastPart n.count → exec part s = .next { s.heard a with
           mem := { s.mem with phase := .receiving taken, barred := true, partGap := some 0 } })
       ∧ (index = n.nextPart → index = lastPart n.count →
         ∃ t : State, exec part s = .next t ∧ t.mem.line = .joined ∧ t.bud = u.bud
           ∧ (∀ c, (t.peer c).state = (u.peer c).state ∧ (t.peer c).role = (u.peer c).role
             ∧ (t.peer c).epoch = (u.peer c).epoch ∧ (t.peer c).timer =
               (if (u.peer c).state = .absent ∨ c = s.conf.address then none else some 0))
           ∧ t.mem.lastEpoch = (u.peer s.conf.address).epoch
           ∧ (u.port.events.length < 32 →
             u.port.events ++ [stationEvent .lineState (2 * 256 + 2)] <+: t.port.events)
           ∧ t.mem.buffer = [] ∧ t.mem.phase = .none ∧ t.mem.joinWait = none ∧ t.mem.partGap = none
           ∧ t.lbi.listenOnly = false
           ∧ ((∀ f ∈ s.mem.buffer, kindReplicated f.kind = true) →
             t.bud.seqNo = n.sCap + BitVec.ofNat 32 s.mem.buffer.length)))
  ∧ (∀ (f : BufferedFrame) (s : State),
       let w : State := { s with bud := (applyFrame s.bud f).table }
       let gone (a : Addr) (cause : Nat) : State := if (s.peer a).state = .absent then w else
         (w.updPeer a fun p => { p with state := .absent, timer := none, freePositions := 0, freeSlots := 0 }).post
           (stationEvent .peerGone (a.val * 256 + cause))
       (f.kind = .claim ∨ f.kind = .release ∨ f.kind = .capacity → s.replayFrame f = w)
       ∧ (∀ role, f.kind = .join → f.payload = [roleCode role] →
         let epoch := if (s.peer f.sender).epoch = 65535 then 1 else (s.peer f.sender).epoch + 1
         s.replayFrame f = (w.updPeer f.sender fun p => { p with
           state := .joining, epoch := epoch, role := role, freePositions := 0, freeSlots := 0, timer := some 0 }).post
             (stationEvent .peerJoined (f.sender.val * 65536 + epoch.toNat)))
       ∧ (∀ a : Addr, f.kind = .depart → f.payload = [byte a.val] → s.replayFrame f = gone a 1)
       ∧ (f.kind = .leave → f.payload = [] → s.replayFrame f = gone f.sender 2))
  ∧ (∀ (j : Joiner) (rest : List Joiner) (s : State), s.mem.line = .joined → s.mem.joinQueue = j :: rest →
       (s.mem.serving = none → s.txHas .upkeep = false → s.mem.upkeepNext = none →
         s.tryServe = { s with mem := { s.mem with
             serving := some { joiner := j.address, rest := s.snapParts j.address } } }.queueFrame .upkeep
           { kind := .snapHead, dest := 31,
             payload := byte j.address.val :: bytes32 s.bud.seqNo ++ [byte (min 255 (s.bud.seqNo - j.sJoin).toNat)]
               ++ bytes16 (BitVec.ofNat 16 s.bud.capacities[0]) ++ bytes16 (BitVec.ofNat 16 s.bud.capacities[1])
               ++ bytes16 (BitVec.ofNat 16 s.bud.capacities[2]) ++ bytes16 s.conf.digest ++ [byte s.bud.entries.length] })
       ∧ ∀ e : TxEntry, s.lbi.inTx = .listed .upkeep → s.txEntry .upkeep = some e → e.held = .none →
         e.frame.kind = .snapHead ∨ e.frame.kind = .snapPart → s.mem.upkeepNext = none →
         let appears : Instr := appearance (kindCode e.frame.kind) s.conf.address e.frame.dest e.frame.payload
         (∀ f more, s.mem.serving = some { joiner := j.address, rest := f :: more } → exec appears s = .next
           ({ s.sent e with mem := { s.mem with serving := some { joiner := j.address, rest := more } } }.queueFrame .upkeep f))
         ∧ (s.mem.serving = some { joiner := j.address, rest := [] } → exec appears s = .next
           (State.tryServe { s.sent e with mem := { s.mem with
             serving := none, joinQueue := (j :: rest).filter fun x => x.address ≠ j.address } })))
  ∧ ∀ (a : Addr) (s : State),
       let part (i : Nat) (content : List Byte) : Frame :=
         { kind := .snapPart, dest := 31, payload := byte a.val :: byte i :: content }
       let group (k : Fin 16) : Nat := (peerStateCode (s.peer k).state).toNat * 4 + (roleCode (s.peer k).role).toNat
       let epoch (k : Fin 16) : List Byte := bytes16 (s.peer k).epoch
       let five (v w x y z : Fin 16) : List Byte :=
         [byte (group v * 16 + group w), byte (group x * 16 + group y), byte (group z * 16)]
           ++ epoch v ++ epoch w ++ epoch x ++ epoch y ++ epoch z
       (s.snapParts a).take 4 =
         [part 0 (five 0 1 2 3 4), part 1 (five 5 6 7 8 9), part 2 (five 10 11 12 13 14),
          part 3 (byte (group 15 * 16) :: epoch 15)]
       ∧ (∀ i : Nat, 3 * i < s.bud.entries.length → (s.snapParts a)[4 + i]? = some (part (4 + i)
         (((s.bud.entries.drop (3 * i)).take 3).flatMap fun e =>
           [byte (e.station.val * 16 + e.position.val * 2 + (if e.status = .granted then 1 else 0)), byte e.draws[0],
            byte e.draws[1], byte e.draws[2]])))
       ∧ (s.snapParts a).length = 4 + (s.bud.entries.length + 2) / 3

/-- PRESENCE of another station (R96, R108): at a JOINED station an entry on the list takes role, free counts and sequence
number, and from one showing JOINED its state and epoch; an ABSENT entry enters at one showing JOINED, with PEER_JOINED,
and takes nothing from one showing JOINING. One that is taken into the list, and shows JOINED, a free position and a free
slot, then restarts, in increasing handle order and by the list as it has left it, the rounds of the records that wait
after an exhausted round with the sender on their route (R143, BookingBegins says which); any other restarts none. At a
JOINING station a PRESENCE showing JOINED or another digest bars the first-station rule. -/
def Obligations.PresencesAppear : Prop :=
  ∀ (a : Addr) (dest : BitVec 5) (payload : List Byte) (q : PresenceReport) (s : State), a ≠ s.conf.address → dest = 31 →
    presencePayload payload = some q →
    (s.mem.line = .joined → (s.peer a).state ≠ .absent → ∃ t : State, exec (.presenceAppears a dest payload) s = .next t
      ∧ (t.peer a).role = q.role ∧ (t.peer a).freePositions = q.freePositions ∧ (t.peer a).freeSlots = q.freeSlots
      ∧ (t.peer a).seqNo = q.seqNo ∧ (t.peer a).state = (if q.joined then .joined else (s.peer a).state)
      ∧ (t.peer a).epoch = (if q.joined then q.epoch else (s.peer a).epoch)
      ∧ t.bud = s.bud ∧ (∀ b, b ≠ a → t.peer b = s.peer b))
    ∧ (s.mem.line = .joined → (s.peer a).state = .absent → q.joined = true →
      ∃ t : State, exec (.presenceAppears a dest payload) s = .next t
      ∧ (t.peer a).state = .joined ∧ (t.peer a).role = q.role ∧ (t.peer a).epoch = q.epoch ∧ (t.peer a).timer = some 0
      ∧ (s.port.events = [] → t.port.events.head? =
        some (stationEvent .peerJoined (a.val * 65536 + q.epoch.toNat))))
    ∧ (s.mem.line = .joined → (s.peer a).state = .absent → q.joined = false → s.mem.joinQueue = [] →
      exec (.presenceAppears a dest payload) s = .next (s.heard a))
    ∧ (s.mem.line = .joined → s.mem.joinQueue = [] → (s.peer a).state ≠ .absent ∨ q.joined = true →
      let listed : State := (s.heard a).updPeer a fun p => { p with
        role := q.role, freePositions := q.freePositions, freeSlots := q.freeSlots, seqNo := q.seqNo
        state := if q.joined then .joined else p.state, epoch := if q.joined then q.epoch else p.epoch
        timer := if (s.peer a).state = .absent then some 0 else p.timer }
      let told : State := if (s.peer a).state = .absent then
          listed.post (stationEvent .peerJoined (a.val * 65536 + q.epoch.toNat)) else listed
      exec (.presenceAppears a dest payload) s =
        .next (if q.joined = true ∧ 1 ≤ q.freePositions ∧ 1 ≤ q.freeSlots then
          handles.foldl (State.restartRound a) told else told))
    ∧ (s.mem.line = .joining → exec (.presenceAppears a dest payload) s =
      .next (if q.joined = true ∨ q.digest ≠ s.conf.digest then
        { s.heard a with mem := { s.mem with barred := true } } else s.heard a))

/-- CAPACITY, LEAVE and JOIN on an active station (R113, R115, R135). CAPACITY and LEAVE are refused NOT_JOINED outside
JOINED; CAPACITY queues its frame, or replaces the content of the one pending, or has the replacement held while that one
is in transmission (R88); LEAVE is refused LEAVING while one is pending and BUSY with work on the line, and else queues
LEAVE and gives up serving joiners; a JOIN or snapshot frame still pending is withdrawn in its favour, at once or, in
transmission, when that ends, and LEAVE follows it (R88, R113); JOIN is refused NOT_OUT outside OUT, and there makes the station JOINING. -/
def Obligations.LineCommandsTaken : Prop :=
  ∀ s : State, s.isActive = true →
    (∀ (b : BudgetIx) (units : BitVec 16), units.toNat ≤ 1023 →
      (s.mem.line ≠ .joined → exec (.capacity (byte b.val) units) s = .next (s.answered .refused 0x010000))
      ∧ (s.mem.line = .joined → s.txHas (.capacity b) = false → exec (.capacity (byte b.val) units) s = .next
        ((s.queueFrame (.capacity b) { kind := .capacity, dest := 31, payload := byte b.val :: bytes16 units }).answered
          .ok 0))
      ∧ (s.mem.line = .joined → s.txHas (.capacity b) = true → s.lbi.inTx ≠ .listed (.capacity b) →
        exec (.capacity (byte b.val) units) s = .next ((s.updTx (.capacity b) fun e => { e with
          frame := { kind := .capacity, dest := 31, payload := byte b.val :: bytes16 units }, voids := 0,
          held := .none }).answered .ok 0))
      ∧ (s.mem.line = .joined → s.txHas (.capacity b) = true → s.lbi.inTx = .listed (.capacity b) →
        exec (.capacity (byte b.val) units) s = .next ((s.updTx (.capacity b) fun e => { e with
          held := .replace { kind := .capacity, dest := 31, payload := byte b.val :: bytes16 units } }).answered .ok 0)))
    ∧ (s.mem.line ≠ .joined → exec .leave s = .next (s.answered .refused 0x010000))
    ∧ (∀ e, s.mem.line = .joined → s.txEntry .upkeep = some e → e.frame.kind = .leave →
      exec .leave s = .next (s.answered .refused 0x150000))
    ∧ (s.mem.line = .joined → s.mem.upkeepNext = none →
      let busy : Prop := s.bookings ≠ [] ∨ ∃ (h : Handle) (r : Record), s.rec? h = some r
        ∧ (r.state = .running ∨ r.state = .paused ∨ r.state = .waiting ∨ r.state = .outbound
          ∨ ∃ d p, r.booking = .held d p)
      let alone : State := { s with mem := { s.mem with serving := none, joinQueue := [] } }
      let leave : Frame := { kind := .leave, dest := 31, payload := [] }
      (s.txHas .upkeep = false →
        (busy → exec .leave s = .next (s.answered .refused 0x160000))
        ∧ (¬busy → exec .leave s = .next ((alone.queueFrame .upkeep leave).answered .ok 0)))
      ∧ ∀ e, s.txEntry .upkeep = some e → e.frame.kind = .join ∨ e.frame.kind = .snapHead ∨ e.frame.kind = .snapPart →
        (busy → exec .leave s = .next (s.answered .refused 0x160000))
        ∧ (¬busy → s.lbi.inTx ≠ .listed .upkeep → exec .leave s =
          .next (((alone.removeTx .upkeep).queueFrame .upkeep leave).answered .ok 0))
        ∧ (¬busy → s.lbi.inTx = .listed .upkeep → exec .leave s =
          .next (({ alone with mem := { alone.mem with upkeepNext := some leave } }.updTx .upkeep fun x =>
            { x with held := .withdraw }).answered .ok 0)))
    ∧ (s.mem.line ≠ .out → exec .join s = .next (s.answered .refused 0x170000))
    ∧ (s.mem.line = .out → s.txHas .upkeep = false → exec .join s = .next (State.answered .ok 0
        (State.post (stationEvent .lineState (1 * 256 + 9))
          ({ s with mem := { s.mem with line := .joining, presence := some 0, backoff := none, phase := .queued,
                                        buffer := [], barred := false, joinWait := none, partGap := none } }.queueFrame
            .upkeep { kind := .join, dest := 31, payload := [roleCode s.conf.role] }))))

/-! ### Bookings and hand-off (chapter 7) -/

/-- A BOOK addressed to this station (R145, R147), judged in order: DETACHED, OUT and MISMATCH give no answer, JOINING
refuses NOT_JOINED; JOINED it refuses WRONG_ROLE and DUPLICATE_TAG, renews an entry for that tag and booker whatever its
status (the model's choice, log 19), refuses NOT_BOOKED, NO_POSITION and NO_SLOT, gives no answer on a full answer list,
and else reserves the lowest EMPTY position and the slot at the head of the free list with an OFFERED entry at the end of
the list, answers BOOKED and judges the slots. -/
def Obligations.BookJudged : Prop :=
  ∀ (a : Addr) (payload : List Byte) (q : BookRequest) (s : State), a ≠ s.conf.address → bookPayload payload = some q →
    s.mem.joinQueue = [] →
    let u := s.heard a
    let judged (o : State) : Prop := exec (.bookAppears a (BitVec.ofNat 5 s.conf.address.val) payload) s = .next o
    let answer (k : FrameKind) (b : Byte) : Frame :=
      { kind := k, dest := BitVec.ofNat 5 a.val, payload := tagBytes q.tag ++ [b] }
    (s.mem.line = .detached ∨ s.mem.line = .out ∨ s.mem.line = .mismatch → judged u)
    ∧ (s.mem.line = .joining → judged (u.queueAnswer (answer .refused 1)))
    ∧ (s.mem.line = .joined → stepRole q.kind ≠ s.conf.role → judged (u.queueAnswer (answer .refused 3)))
    ∧ (s.mem.line = .joined → stepRole q.kind = s.conf.role →
      (s.resident q.tag ≠ none → judged (u.queueAnswer (answer .refused 24)))
      ∧ (s.resident q.tag = none →
        (∀ b, s.bookings.find? (fun x => decide (x.tag = q.tag) && decide (x.booker = a)) = some b →
          judged (State.queueAnswer (answer .booked (byte b.position.val)) { u with
            bookings := s.bookings.map fun x =>
              if x.tag = q.tag ∧ x.booker = a then { x with hold := q.hold, timer := 0 } else x }))
        ∧ ((∀ b ∈ s.bookings, ¬(b.tag = q.tag ∧ b.booker = a)) →
          (q.renewal = true → judged (u.queueAnswer (answer .refused 26)))
          ∧ (q.renewal = false →
            (s.lowestEmpty = none → judged (u.queueAnswer (answer .refused 25)))
            ∧ ∀ p, s.lowestEmpty = some p →
              (s.store.freeList = [] → judged (u.queueAnswer (answer .refused 4)))
              ∧ ∀ (h : Handle) (rest : List Handle), s.store.freeList = h :: rest →
                (s.freeAnswer = none → judged u)
                ∧ (s.freeAnswer ≠ none →
                  let entry : Booking :=
                    { tag := q.tag, booker := a, position := p, slot := h, kind := q.kind, hold := q.hold, timer := 0,
                      status := .offered }
                  let store : Store :=
                    { s.store with
                      freeList := rest, slots := s.store.slots.set h { s.store.slots[h] with state := .reserved } }
                  let reserved : State := { u with store := store, bookings := s.bookings ++ [entry] }
                  judged (State.judgeSlots (State.queueAnswer (answer .booked (byte p.val))
                    (reserved.updPos p fun x => { x with state := .booked, link := none }))))))))

/-- The answers at the booker (R141, R142, R154, R155, R158), from station a and addressed to this JOINED station, for the
record with the tag carried. A matched BOOKED makes the booking HELD: a LOADED record is judged for readiness, an ENDED
one begins its transfer; a BOOKED from the station the booking is HELD at confirms it and changes nothing; any other is
answered CANCEL. A matched REFUSED does what the answer timer's end does; one from the station the booking is HELD at, for
a renewal, drops the booking (R147, R149); any other changes nothing. A TAKEN for an OUTBOUND record toward a, or an
UNCERTAIN one, deletes it with HANDOFF_DONE, its position CLEARING. A REJECT holds an OUTBOUND record toward a with
HANDOFF_REJECTED and no booking. A FOUND deletes an UNCERTAIN record with LOCATE_RESULT. For a record in another state or
booking these three change nothing. Answers that match nothing (R142, R154, R155, R158): with no record of the tag here, a
BOOKED is answered CANCEL and the other answers change nothing but what every appearance does. -/
def Obligations.AnswersAtBooker : Prop :=
  (∀ (a : Addr) (t : Tag) (h : Handle) (r : Record) (s : State), s.mem.line = .joined → a ≠ s.conf.address →
     s.mem.joinQueue = [] → tagPayload (tagBytes t) = some t → s.resident t = some h → s.rec? h = some r →
     let u := s.heard a
     let dest := BitVec.ofNat 5 s.conf.address.val
     (∀ (k : Nat) (p : PosIx), r.booking = .asking k a → r.answerTimer ≠ none →
       let booked := u.setRec h { r with booking := .held a p, answerTimer := none, exhausted := false }
       (r.state = .loaded → exec (.bookedAppears a dest (tagBytes t ++ [byte p.val])) s = .next (booked.judgeReady h))
       ∧ (r.state = .ended → exec (.bookedAppears a dest (tagBytes t ++ [byte p.val])) s = .next (booked.startTransfer h)))
     ∧ (∀ (k : Nat) (reason : Byte), r.booking = .asking k a → r.answerTimer ≠ none → reasonDefined reason = true →
       exec (.refusedAppears a dest (tagBytes t ++ [reason])) s = exec (.answerTimer h) u)
     ∧ (∀ p q : PosIx, r.booking = .held a q → exec (.bookedAppears a dest (tagBytes t ++ [byte p.val])) s = .next u)
     ∧ (∀ (q : PosIx) (reason : Byte), r.booking = .held a q → reasonDefined reason = true →
       exec (.refusedAppears a dest (tagBytes t ++ [reason])) s = .next (u.dropBooking h))
     ∧ ((∀ k, r.booking = .asking k a → r.answerTimer = none) → (∀ q, r.booking ≠ .held a q) →
       (∀ p : PosIx, exec (.bookedAppears a dest (tagBytes t ++ [byte p.val])) s = .next
         (u.queueAnswer { kind := .cancel, dest := BitVec.ofNat 5 a.val, payload := tagBytes t }))
       ∧ ∀ reason : Byte, exec (.refusedAppears a dest (tagBytes t ++ [reason])) s = .next u)
     ∧ ((∃ p, r.state = .outbound ∧ r.booking = .held a p) ∨ r.state = .uncertain → s.txHas (.slot h) = false →
       (s.slot h).waits = [] → exec (.takenAppears a dest (tagBytes t)) s = .next (State.judgeSlots (State.freeSlot h
         ((u.post (recordEvent .handoffDone r.position h t a.val)).vacate? r.position .clearing))))
     ∧ (∀ (p : PosIx) (reason : Byte), r.state = .outbound → r.booking = .held a p → reasonDefined reason = true →
       s.txHas (.slot h) = false → (s.slot h).waits = [] →
       exec (.rejectAppears a dest (tagBytes t ++ [reason])) s = .next
         ((u.setRec h { r with booking := .none, carry := none, handOffTimer := none }).enterHeld h .handoffRejected
           (reason.setWidth 24) false))
     ∧ ((∀ p, r.state = .outbound → r.booking ≠ .held a p) → r.state ≠ .uncertain →
       exec (.takenAppears a dest (tagBytes t)) s = .next u)
     ∧ ((∀ p, r.state = .outbound → r.booking ≠ .held a p) → ∀ reason : Byte,
       exec (.rejectAppears a dest (tagBytes t ++ [reason])) s = .next u)
     ∧ (r.state ≠ .uncertain → exec (.foundAppears a dest (tagBytes t)) s = .next u)
     ∧ (r.state = .uncertain → exec (.foundAppears a dest (tagBytes t)) s = .next
       (State.judgeSlots (State.freeSlot h (u.post (recordEvent .locateResult none h t (256 + a.val)))))))
  ∧ (∀ (a : Addr) (t : Tag) (b : Byte) (s : State), s.mem.line = .joined → a ≠ s.conf.address → s.mem.joinQueue = [] →
       tagPayload (tagBytes t) = some t → s.resident t = none →
       let u := s.heard a
       let dest := BitVec.ofNat 5 s.conf.address.val
       (b.toNat < 8 → exec (.bookedAppears a dest (tagBytes t ++ [b])) s = .next
         (u.queueAnswer { kind := .cancel, dest := BitVec.ofNat 5 a.val, payload := tagBytes t }))
       ∧ exec (.refusedAppears a dest (tagBytes t ++ [b])) s = .next u
       ∧ exec (.takenAppears a dest (tagBytes t)) s = .next u
       ∧ exec (.rejectAppears a dest (tagBytes t ++ [b])) s = .next u
       ∧ exec (.foundAppears a dest (tagBytes t)) s = .next u)

/-- CANCEL and LOCATE of another station at a JOINED one (R148, R149, R157). With no record of the tag here, CANCEL for
the entry of that tag and booker, among whatever others, frees its position and slot, judges the slots and runs placement;
the BOOKED of an OFFERED entry is withdrawn first; a CLOSING entry stays. At the booker of a booking HELD at the sender it
drops the booking (R149), whatever the record's state: a RUNNING step goes on without one. An UNCERTAIN record sent toward
the sender is ENDED with no booking, its locate timer stopped and a LOCATE still pending withdrawn; sent toward another or
toward none it stays. LOCATE is answered FOUND by a station that holds the record in a state other than UNCERTAIN. A
booking HELD at a station that drops it (R149): RUNNING and PAUSED go on without it; LOADED and ENDED ask anew, WAITING
after giving up its claim; OUTBOUND abandons its transfer and is ENDED; other states are left. -/
def Obligations.CancelAndLocate : Prop :=
  (∀ (a : Addr) (t : Tag) (s : State), s.mem.line = .joined → a ≠ s.conf.address → s.mem.joinQueue = [] →
     tagPayload (tagBytes t) = some t →
     let u := s.heard a
     let cancel : Instr := .cancelAppears a (BitVec.ofNat 5 s.conf.address.val) (tagBytes t)
     let locate : Instr := .locateAppears a 31 (tagBytes t)
     (∀ (before after : List Booking) (b : Booking), s.resident t = none → s.Books before b after → b.tag = t → b.booker = a →
       let dropped (w : State) : State := State.placement (State.judgeSlots (State.freeSlot b.slot
         ({ w with bookings := before ++ after }.updPos b.position fun x =>
           { x with state := .empty, link := none, stepEn := false })))
       (b.isClosing = true → exec cancel s = .next u)
       ∧ (b.status = .standing ∨ b.isAssembling = true → exec cancel s = .next (dropped u))
       ∧ (b.status = .offered → exec cancel s = .next (dropped (u.withdrawAnswers fun f => decide (f =
           { kind := .booked, dest := BitVec.ofNat 5 a.val, payload := tagBytes t ++ [byte b.position.val] })))))
     ∧ (∀ (h : Handle) (r : Record) (p : PosIx), s.resident t = some h → s.rec? h = some r → r.booking = .held a p →
       (∀ b ∈ s.bookings, ¬(b.tag = t ∧ b.booker = a)) →
       exec cancel s = .next (u.dropBooking h)
       ∧ (r.state = .running ∨ r.state = .paused →
         exec cancel s = .next (u.setRec h { r with booking := .none, exhausted := false })))
     ∧ (∀ (h : Handle) (r : Record), s.resident t = some h → s.rec? h = some r → r.state = .uncertain → r.booking = .none →
       (∀ b ∈ s.bookings, ¬(b.tag = t ∧ b.booker = a)) →
       let here (w : State) : Prop := exec cancel s = .next
         ((w.setRec h { r with booking := .none, locateTimer := none, sentToward := none }).enterEnded h)
       (r.sentToward ≠ some a → exec cancel s = .next u)
       ∧ (r.sentToward = some a → (s.slot h).waits = [] → s.txHas (.slot h) = false → here u)
       ∧ ∀ e, s.txEntry (.slot h) = some e → r.sentToward = some a →
         (e.frame.kind ≠ .locate → (s.slot h).waits = [.locate] → here (u.setWaits h []))
         ∧ (e.frame.kind = .locate → (s.slot h).waits = [] →
           (s.lbi.inTx ≠ .listed (.slot h) → here (u.removeTx (.slot h)))
           ∧ (s.lbi.inTx = .listed (.slot h) → here (u.updTx (.slot h) fun x => { x with held := .withdraw }))))
     ∧ (s.resident t = none → exec locate s = .next u)
     ∧ ∀ (h : Handle) (r : Record), s.resident t = some h → s.rec? h = some r →
       (r.state ≠ .uncertain → exec locate s = .next
         (u.queueAnswer { kind := .found, dest := BitVec.ofNat 5 a.val, payload := tagBytes t }))
       ∧ (r.state = .uncertain → exec locate s = .next u))
  ∧ (∀ (h : Handle) (r : Record) (s : State), s.rec? h = some r →
       let dropped := s.setRec h { r with booking := .none, exhausted := false }
       (r.state = .running ∨ r.state = .paused → s.dropBooking h = dropped)
       ∧ (r.state = .loaded → s.dropBooking h = dropped.enterLoaded h)
       ∧ (∀ p, r.state = .waiting → r.position = some p → s.dropBooking h = (dropped.giveUpClaim p).enterLoaded h)
       ∧ (r.state = .ended → s.dropBooking h = dropped.enterEnded h)
       ∧ (r.state = .outbound → s.txHas (.slot h) = false → (s.slot h).waits = [] → s.dropBooking h =
         (s.setRec h { r with booking := .none, exhausted := false, carry := none, handOffTimer := none }).enterEnded h)
       ∧ (r.state = .queued ∨ r.state = .placed ∨ r.state = .inbound ∨ r.state = .uncertain ∨ r.state = .finished
         ∨ r.state = .held → s.dropBooking h = s))

/-- CARRY of another station at a JOINED one (R151, R152, R193), for its entry at the position named, among whatever
others. Part 0 with a part count of 1 to 8 and the length its place gives opens the assembly of a STANDING entry, a count
of 1 too (the model's choice, log 45); the next expected part is appended; with the last part the image is judged: TAKEN
or REJECT is queued and the entry is CLOSING with the image. Part 0 with another count or length is answered
REJECT(BAD_IMAGE) with the tag of its data and the entry CLOSING; a later part with a wrong index, count or length closes
the assembly with REJECT(BAD_IMAGE). That a REJECT for a later part or a failed image carries the entry's tag is the
model's reading (log 18). On a full answer list an assembly's entry is STANDING again and part 0 changes nothing. Part 0
without a STANDING entry is answered REJECT(NOT_BOOKED). A complete image is checked in the order of R152, and the first
check that fails gives the reason: the counts, the length they give and the CRC; the booking's tag; DUPLICATE_TAG for a
resident tag; a next step of the kind booked, performed by this station's role; and the image of a record with every field
in its range and a valid step list (R1, R7; that an absent field is 0 and a deviation names a step of the list is the
model's reading, log 34). Every other failure is BAD_IMAGE. -/
def Obligations.CarryAssembled : Prop :=
  (∀ (b : Booking) (im : List Byte) (s : State),
    let byteAt (i : Nat) : Byte := im.getD i 0
    let n := (byteAt 13).toNat
    let next := (byteAt 14).toNat + 1
    let whole : Prop := 1 ≤ n ∧ n ≤ 6 ∧ (byteAt 15).toNat ≤ 4
      ∧ im.length = 26 + 10 * n + 5 * (byteAt 15).toNat + (if (byteAt 9).getLsbD 2 then 5 else 0)
      ∧ im.drop (im.length - 2) = bytes16 (crc16 (im.take (im.length - 2)))
    let goesOn : Prop := next < n ∧ byteAt (24 + 10 * next) = stepKindCode b.kind ∧ stepRole b.kind = s.conf.role
    let inRange : Prop := ∃ r : Record, r.inRanges ∧ recordImage r = im
    (¬whole → s.imageFault b im = some .badImage)
    ∧ (whole → im.take 5 ≠ tagBytes b.tag → s.imageFault b im = some .badImage)
    ∧ (whole → im.take 5 = tagBytes b.tag →
      (s.resident b.tag ≠ none → s.imageFault b im = some .duplicateTag)
      ∧ (s.resident b.tag = none →
        (¬goesOn → s.imageFault b im = some .badImage)
        ∧ (goesOn → ¬inRange → s.imageFault b im = some .badImage)
        ∧ (goesOn → inRange → s.imageFault b im = none))))
  ∧ ∀ (a : Addr) (c : CarryPart) (payload : List Byte) (before after : List Booking) (b : Booking) (s : State),
    s.mem.line = .joined → a ≠ s.conf.address → s.mem.joinQueue = [] → carryPayload payload = some c →
    s.Books before b after → b.position = c.position → b.booker = a →
    let u := s.heard a
    let judged (o : State) : Prop := exec (.carryAppears a (BitVec.ofNat 5 s.conf.address.val) payload) s = .next o
    let become (st : BookingStatus) : State := { u with bookings := before ++ { b with status := st } :: after }
    let reject (tag : List Byte) (reason : Byte) : Frame :=
      { kind := .reject, dest := BitVec.ofNat 5 a.val, payload := tag ++ [reason] }
    let fits : Prop := if c.index + 1 < c.count then c.data.length = 14 else 1 ≤ c.data.length ∧ c.data.length ≤ 14
    let whole (data : List Byte) : Prop :=
      (s.freeAnswer = none → judged (become .standing))
      ∧ (s.freeAnswer ≠ none → s.imageFault b data = none → judged ((become (.closing data false)).queueAnswer
          { kind := .taken, dest := BitVec.ofNat 5 a.val, payload := tagBytes b.tag }))
      ∧ ∀ reason, s.freeAnswer ≠ none → s.imageFault b data = some reason →
        judged ((become (.closing data false)).queueAnswer (reject (tagBytes b.tag) (reasonCode reason)))
    (c.index = 0 → b.status = .standing →
      (1 ≤ c.count → c.count ≤ 8 → fits →
        (1 < c.count → judged (become (.assembling { count := c.count, next := 1, data := c.data, gap := 0 })))
        ∧ (c.count = 1 → whole c.data))
      ∧ (c.count = 0 ∨ 8 < c.count ∨ ¬fits →
        (s.freeAnswer = none → judged u)
        ∧ (s.freeAnswer ≠ none → 5 ≤ c.data.length →
          judged ((become (.closing [] false)).queueAnswer (reject (c.data.take 5) 27)))))
    ∧ (c.index = 0 → b.status ≠ .standing → 5 ≤ c.data.length → judged (u.queueAnswer (reject (c.data.take 5) 26)))
    ∧ (c.index ≠ 0 → b.isAssembling = false → judged u)
    ∧ ∀ x, c.index ≠ 0 → b.status = .assembling x →
      (c.index = x.next → c.count = x.count → fits →
        (x.next + 1 ≠ x.count → judged (become (.assembling { x with
          next := x.next + 1, data := x.data ++ c.data, gap := 0 })))
        ∧ (x.next + 1 = x.count → whole (x.data ++ c.data)))
      ∧ (c.index ≠ x.next ∨ c.count ≠ x.count ∨ ¬fits →
        (s.freeAnswer = none → judged (become .standing))
        ∧ (s.freeAnswer ≠ none → judged ((become (.closing [] false)).queueAnswer (reject (tagBytes b.tag) 27))))

/-- This station's own frames at their appearance (R140, R146, R150, R153, R155, R157), while JOINED. The frame leaves the
list. A round's BOOK starts the answer timer, unless it was for an earlier candidate or the round's next BOOK is still to
come, and a renewal starts none; BOOKED makes its OFFERED entry, among whatever others, STANDING; a CARRY part queues the
next, the last starts the hand-off timer; LOCATE starts the locate timer. TAKEN turns its CLOSING entry's image into an
INBOUND record in the reserved slot, at the next step, its position ASSIGNED, with INBOUND and the gap checked (an image
without gap elapsed gives a record whose gap is present, from 0: the model's choice, log 48); REJECT
frees its CLOSING entry's position and slot, the other entries staying. A held replacement is queued as a new frame of the
same origin with a void count of 0, as at a PRESENCE, a renewal or a CAPACITY; a held withdrawal has no effect, and a
BOOK, BOOKED, LOCATE or CARRY part no longer wanted changes nothing but the list, while a TAKEN or REJECT acts as any
other (R88, R159). Which frame on the list an own appearance is of, is the model's choice (log 7). -/
def Obligations.OwnFramesAppear : Prop :=
  ∀ (e : TxEntry) (a : Addr) (t : Tag) (s : State), s.mem.line = .joined → s.mem.joinQueue = [] →
    s.lbi.inTx = .listed e.origin → s.txEntry e.origin = some e → a ≠ s.conf.address →
    tagPayload (tagBytes t) = some t →
    let u := s.sent e
    let own (o : State) : Prop :=
      exec (appearance (kindCode e.frame.kind) s.conf.address e.frame.dest e.frame.payload) s = .next o
    (e.held = .none →
      (∀ (h : Handle) (r : Record) (k : Nat) (kind : StepKind) (hold : BitVec 16), e.origin = .slot h →
        s.rec? h = some r → r.tag = t →
        let book (renewal : Byte) : Frame :=
          { kind := .book, dest := BitVec.ofNat 5 a.val,
            payload := tagBytes t ++ [stepKindCode kind] ++ bytes16 hold ++ [renewal] }
        (e.frame = book 0 → r.booking = .asking k a → (s.slot h).waits = [] →
          own (u.setRec h { r with answerTimer := some 0 }))
        ∧ (e.frame = book 0 → r.booking = .asking k a → (s.slot h).waits = [.book] → r.steps[r.current + 1]? ≠ none → own u)
        ∧ (e.frame = book 0 → (∀ j, r.booking ≠ .asking j a) → own u)
        ∧ (e.frame = book 1 → own u))
      ∧ (∀ (i : Fin 8) (before after : List Booking) (b : Booking), e.origin = .answer i → s.Books before b after →
        b.status = .offered → b.tag = t → b.booker = a →
        e.frame = { kind := .booked, dest := BitVec.ofNat 5 a.val, payload := tagBytes t ++ [byte b.position.val] } →
        own { u with bookings := before ++ { b with status := .standing, timer := 0 } :: after })
      ∧ (∀ (h : Handle) (r : Record), e.origin = .slot h → (s.slot h).waits = [] → s.resident t = some h →
        s.rec? h = some r → r.state = .uncertain → e.frame = { kind := .locate, dest := 31, payload := tagBytes t } →
        own (u.setRec h { r with locateTimer := some 0 }))
      ∧ ∀ (h : Handle) (r : Record) (c : CarryOut) (p : PosIx) (part : CarryPart), e.origin = .slot h →
        (s.slot h).waits = [] → s.rec? h = some r → r.state = .outbound → r.booking = .held a p → r.carry = some c →
        e.frame.kind = .carry → e.frame.dest = BitVec.ofNat 5 a.val → carryPayload e.frame.payload = some part →
        part.index = c.next →
        (c.next + 1 = c.count → own (u.setRec h { r with
          carry := some { c with next := c.next + 1 }, handOffTimer := some 0 }))
        ∧ (c.next + 1 ≠ c.count → own (State.queueFrame (.slot h)
          { kind := .carry, dest := BitVec.ofNat 5 a.val,
            payload := [byte (p.val * 16 + (c.next + 1)), byte c.count] ++ (c.image.drop (14 * (c.next + 1))).take 14 }
          (u.setRec h { r with carry := some { c with next := c.next + 1 } }))))
    ∧ (∀ (i : Fin 8) (before after : List Booking) (b : Booking) (im : List Byte) (r : Record), e.origin = .answer i →
      s.Books before b after → b.status = .closing im false → b.tag = t → b.booker = a → decodeImage im = some r →
      e.frame = { kind := .taken, dest := BitVec.ofNat 5 a.val, payload := tagBytes t } →
      own (State.checkGap b.slot (State.post (recordEvent .inbound (some b.position) b.slot r.tag a.val)
        { (u.setRec b.slot { r with current := r.current + 1, accumulated := 0, pauseTotal := 0, gapOpen := true,
                                    gapElapsed := some (r.gapElapsed.getD 0), gapFrac := 0, heldFrom := none,
                                    state := .inbound, position := some b.position }).updPos b.position (fun x =>
            { x with state := .assigned, link := some b.slot }) with bookings := before ++ after })))
    ∧ (∀ (i : Fin 8) (before after : List Booking) (b : Booking) (im : List Byte) (reason : Byte), e.origin = .answer i →
      s.Books before b after → b.status = .closing im false → b.tag = t → b.booker = a → reasonDefined reason = true → reason ≠ 26 →
      e.frame = { kind := .reject, dest := BitVec.ofNat 5 a.val, payload := tagBytes t ++ [reason] } →
      own (State.placement (State.judgeSlots (State.freeSlot b.slot
        ({ u with bookings := before ++ after }.updPos b.position fun x =>
          { x with state := .empty, link := none, stepEn := false })))))
    ∧ (e.held = .withdraw → e.frame.kind ∈ [FrameKind.book, .booked, .locate, .carry] → e.frame.dest ≠ destOf s.conf.address →
      own u)
    ∧ (e.held = .withdraw → (∀ h, e.origin = .slot h → (s.slot h).waits = []) → s.mem.upkeepNext = none →
      u.lbi.tx = s.lbi.tx.filter fun x => x.origin ≠ e.origin)
    ∧ ∀ f, e.held = .replace f →
      let again : TxEntry := { origin := e.origin, frame := f, voids := 0, held := .none }
      u.lbi.tx = (s.lbi.tx.filter fun x => x.origin ≠ e.origin) ++ [again] ∧ u.lbi.inTx = .idle ∧ u.lbi.stall = some 0
      ∧ (e.frame.kind = .presence → own u)
      ∧ (e.frame.kind = .book → e.frame.payload.drop 8 = [1] → e.frame.dest ≠ destOf s.conf.address → own u)
      ∧ (e.frame.kind = .capacity → ∃ o, own o ∧ again ∈ o.lbi.tx)

/-! ### Configuration (chapter 8) -/

/-- CONFIG_WRITE in CONFIG (R164, R165, 10.4): each item takes a value in its range and keeps every other item; a value
outside the range, a concession code digit above 9, or an unknown item is BAD_ARGUMENT and changes nothing. -/
def Obligations.ConfigWriteSetsItem : Prop :=
  ∀ (v : BitVec 16) (s : State), s.mem.line = .config →
    let it := s.conf.items
    let n := v.toNat
    let set (item : Byte) (new : Items) : Prop := exec (.configWrite item v) s =
      .next ({ s with conf := { s.conf with items := new } }.answered .ok 0)
    let bad (item : Byte) : Prop := exec (.configWrite item v) s = .next (s.answered .badArgument 0x100000)
    let digits := Memory.readList s.staging 120 8
    (n ≤ 255 → set 0 { it with lineNumber := n }) ∧ (255 < n → bad 0)
    ∧ (100 ≤ n ∧ n ≤ 1000 ∧ n % 50 = 0 → set 1 { it with presence := n })
    ∧ (¬(100 ≤ n ∧ n ≤ 1000 ∧ n % 50 = 0) → bad 1)
    ∧ (∀ b : BudgetIx,
      (n ≤ 1023 → set (byte (2 + b.val)) { it with initialCapacities := it.initialCapacities.set b n })
      ∧ (1023 < n → bad (byte (2 + b.val))))
    ∧ (1 ≤ n ∧ n ≤ 8 → set 5 { it with positionCount := n }) ∧ (¬(1 ≤ n ∧ n ≤ 8) → bad 5)
    ∧ (1 ≤ n ∧ n ≤ 30 → set 6 { it with lampSilence := n }) ∧ (¬(1 ≤ n ∧ n ≤ 30) → bad 6)
    ∧ (1 ≤ n ∧ n ≤ 3600 → set 7 { it with pauseLimit := n }) ∧ (¬(1 ≤ n ∧ n ≤ 3600) → bad 7)
    ∧ (10 ≤ n ∧ n ≤ 600 → set 8 { it with bookingMargin := n }) ∧ (¬(10 ≤ n ∧ n ≤ 600) → bad 8)
    ∧ ((∀ d ∈ digits, d.toNat ≤ 9) → ∃ code : Vector Byte 8, code.toList = digits ∧ set 9 { it with code := code })
    ∧ ((∃ d ∈ digits, 9 < d.toNat) → bad 9)
    ∧ (∀ (p : PosIx) (b : BudgetIx),
      (n ≤ 255 → set (byte (16 + 4 * p.val + b.val)) { it with draws := it.draws.set p (it.draws[p].set b n) })
      ∧ (255 < n → bad (byte (16 + 4 * p.val + b.val))))
    ∧ (∀ r k : Fin 4,
      (∀ a : Addr, n = a.val →
        set (byte (64 + 4 * r.val + k.val)) { it with routes := it.routes.set r (it.routes[r].set k (some a)) })
      ∧ (n = 255 → set (byte (64 + 4 * r.val + k.val)) { it with routes := it.routes.set r (it.routes[r].set k none) })
      ∧ (16 ≤ n → n ≠ 255 → bad (byte (64 + 4 * r.val + k.val))))
    ∧ ∀ item : Byte, 10 ≤ item.toNat ∧ item.toNat < 16 ∨ 47 ≤ item.toNat ∧ item.toNat < 64 ∨ 80 ≤ item.toNat
      ∨ 16 ≤ item.toNat ∧ item.toNat < 47 ∧ item.toNat % 4 = 3 → bad item

/-- CONFIG_CLOSE and CONFIG_WRITE (R167 to R169). After the close both are answered CLOSED; the close is BUSY while PFW is
asserted, and REFUSED BAD_CONFIG with the item and index of the first failing check. Accepted with nothing to restore, the
configuration is closed with its digest, the configured positions are EMPTY with the interlocks of their inputs, and the
station is JOINING with JOIN queued and RESTORED and LINE_STATE posted. The checks of CONFIG_CLOSE in their order (R167):
the bit rate, the position count against the role, the first configured position that draws from no budget, and the first
candidate, by role and index, that is the station itself, follows an absent one, or stands twice (of two equal candidates
the later: the model's choice, log 51). The index 0 of the first two is the model's choice (log 35), and the byte 0 in the middle of the close's response is the model's reading (log 40).
-/
def Obligations.ConfigClosesInOrder : Prop :=
  (∀ s : State,
     (s.isActive = true → exec .configClose s = .next (s.answered .closed 0)
       ∧ ∀ item v, exec (.configWrite item v) s = .next (s.answered .closed 0))
     ∧ (s.mem.line = .config → s.pins.pfw = true → exec .configClose s = .next (s.answered .busy 0))
     ∧ (∀ item index, s.mem.line = .config → s.pins.pfw = false → s.conf.fault = some (item, index) →
       exec .configClose s = .next (s.answered .refused ((20 : Byte) ++ item ++ index)))
     ∧ (s.mem.line = .config → s.pins.pfw = false → s.conf.fault = none → s.ret.written = false → s.lbi.tx = [] →
       s.arrivalQueue = [] → s.port.events = [] → ∃ t : State, exec .configClose s = .next t
         ∧ t.conf = { s.conf with closed := true, computed := true, digest := lineDigest s.conf.items,
                                  posCount := s.conf.items.positionCount }
         ∧ (∀ p : PosIx, p.val < s.conf.items.positionCount →
           (t.pos p).state = .empty ∧ (t.pos p).link = none ∧ (t.pos p).stepEn = false ∧ (t.pos p).claim = .none
           ∧ (t.pos p).interlock = s.pins.ilk[p] ∧ (t.pos p).runClock = 0)
         ∧ t.mem.line = .joining ∧ t.mem.presence = some 0 ∧ t.mem.phase = .queued
         ∧ t.lbi.tx = [{ origin := .upkeep, frame := { kind := .join, dest := 31, payload := [roleCode s.conf.role] },
                         voids := 0, held := .none }]
         ∧ t.port.events = [stationEvent .restored 0, stationEvent .lineState (1 * 256 + 1)]
         ∧ t.port.prepared = { status := .ok, data := 0x010000 } ∧ t.store = s.store ∧ t.ret = s.ret))
  ∧ (∀ c : Configuration,
       let most : Nat := match c.role with | .expose => 2 | .wash => 1 | .dry => 8 | .finish => 2
       let idle (p : PosIx) : Prop := p.val < c.items.positionCount ∧ ∀ b : BudgetIx, c.items.draws[p][b] = 0
       let broken (r k : Fin 4) : Prop := ∃ a : Addr, c.items.routes[r][k] = some a
         ∧ (a = c.address ∨ ∃ j : Fin 4, j < k ∧ (c.items.routes[r][j] = none ∨ c.items.routes[r][j] = some a))
       (c.rate = 3 → c.fault = some (0xF0, 0))
       ∧ (c.rate ≠ 3 →
         (most < c.items.positionCount → c.fault = some (5, 0))
         ∧ (c.items.positionCount ≤ most →
           (∀ p, idle p → (∀ q, q < p → ¬idle q) → c.fault = some (byte (16 + 4 * p.val), byte p.val))
           ∧ ((∀ p, ¬idle p) →
             (∀ r k, broken r k → (∀ j, j < k → ¬broken r j) → (∀ q j, q < r → ¬broken q j) →
               c.fault = some (byte (64 + 4 * r.val + k.val), byte (k.val + 1)))
             ∧ ((∀ r k, ¬broken r k) → c.fault = none)))))

/-- An accepted CONFIG_CLOSE by its retention image (R168, R174 to R176, 10.7). Never written: RESTORED with 0. Lost, or
of another station: RETENTION_LOST or RETENTION_MISMATCH set, RESTORED with 0, and the store as reset left it. Good, laid
out as 10.7 gives, its records with slots and tags of their own: each goes into its slot with its state by the mapping of
R175, linked where its stored position names it; a stored OCCUPIED or ASSIGNED position is linked to the record that names
it, and is CLEARING or EMPTY without one; the free list runs in increasing order; the QUEUED records enter the arrival
queue in the order of the arrival list; the sequence counter takes the stored value. HELD is posted for each record put in
HELD with POWER_INTERRUPT, SLOTS_LOW where 4 or fewer slots are FREE, RESTORED with the number of records. Lost,
mismatched or restored, the image is then made invalid. A record whose tag is resident already is not restored. Then
placement runs and the station enters JOINING; OK gives the outcome's code and the number. What no write composes is the
model's choice (log 25): a stored RUNNING record is taken as a PAUSED one, an OUTBOUND as an UNCERTAIN one, a stored
position BOOKED as EMPTY, a record whose stored position does not name it loses its link, records that do not stand in
slot order are taken, and their HELD events posted, in the order they stand in, and a stored counter of 0 is taken as 1.
The byte 0 in the middle of the response is the model's reading (log 40). -/
def Obligations.RestoreAtClose : Prop :=
  (∀ s : State, s.mem.line = .config → s.pins.pfw = false → s.conf.fault = none →
    let q := s.deliver.openPositions
    let closed (code : Byte) (n : Nat) (u : State) : Prop :=
      exec .configClose s = .next ((u.placement.enterJoining .closed).ok code 0 (byte n))
    let invalid : Retention := { s.ret with valid := false }
    let own : List Byte := [byte s.conf.address.val, roleCode s.conf.role, byte s.conf.items.positionCount]
    (s.ret.written = false → closed 1 0 (q.post (stationEvent .restored 0)))
    ∧ (s.ret.written = true → s.ret.valid = false ∨ retentionCheckOk s.ret.image = false →
      closed 2 0 (State.post (stationEvent .restored 0) { q with
        ret := invalid, port := { q.port with alarms := { q.port.alarms with retentionLost := true } } }))
    ∧ (s.ret.written = true → s.ret.valid = true → retentionCheckOk s.ret.image = true → s.ret.image.take 3 ≠ own →
      closed 3 0 (State.post (stationEvent .restored 0) { q with
        ret := invalid, port := { q.port with alarms := { q.port.alarms with retentionMismatch := true } } }))
    ∧ ∀ (seq : BitVec 16) (ps : List (Byte × Byte)) (arrivals : List Handle) (l : List (Handle × Record)),
      let body := own ++ bytes16 seq ++ [byte l.length, byte arrivals.length] ++ (ps.flatMap fun x => [x.1, x.2])
        ++ arrivals.map (fun h => byte h.val)
        ++ l.flatMap fun x => byte x.1.val :: byte (recordImage x.2).length :: recordImage x.2
      s.ret.written = true → s.ret.valid = true → s.ret.image = body ++ bytes16 (crc16 body) →
      (∀ h, (s.slot h).state = .free) → s.arrivalQueue = [] → ps.length = s.conf.items.positionCount →
      arrivals.length ≤ 32 → (l.map fun x => x.1).Nodup → (l.map fun x => x.2.tag).Nodup →
      (∀ x ∈ l, imageWellFormed (recordImage x.2) = true ∧ decodeImage (recordImage x.2) = some x.2) →
      ∃ u : State, closed 0 l.length u ∧ u.ret = invalid ∧ u.conf = q.conf ∧ u.bookings = s.bookings
        ∧ u.store.seqCounter = (if seq = 0 then 1 else seq)
        ∧ u.store.freeList = handles.filter (fun h => l.all fun x => x.1 ≠ h)
        ∧ (∀ h, (∀ x ∈ l, x.1 ≠ h) → (u.slot h).state = .free)
        ∧ (∀ h r, (h, r) ∈ l → u.rec? h = some { r.restore with
            position := r.restore.position.bind fun p =>
              if ps[p.val]? = some (2, byte h.val) ∨ ps[p.val]? = some (3, byte h.val) then some p else none })
        ∧ (∀ (p : PosIx) (st link : Byte), ps[p.val]? = some (st, link) →
          (u.pos p).claim = .none ∧ (u.pos p).stepEn = false
          ∧ (st = 0 ∨ st = 1 → (u.pos p).state = .empty ∧ (u.pos p).link = none)
          ∧ (st = 4 → (u.pos p).state = .clearing ∧ (u.pos p).link = none)
          ∧ (∀ h r, (h, r) ∈ l → link = byte h.val → r.restore.position = some p →
            (st = 2 → (u.pos p).state = .assigned ∧ (u.pos p).link = some h)
            ∧ (st = 3 → (u.pos p).state = .occupied ∧ (u.pos p).link = some h))
          ∧ ((∀ h r, (h, r) ∈ l → link = byte h.val → r.restore.position ≠ some p) →
            (st = 2 → (u.pos p).state = .empty ∧ (u.pos p).link = none)
            ∧ (st = 3 → (u.pos p).state = .clearing ∧ (u.pos p).link = none)))
        ∧ (arrivals.Nodup → (∀ x ∈ l, x.2.restore.state = .queued → x.1 ∈ arrivals) →
          let queued (rush : Bool) (h : Handle) : Bool :=
            l.any fun x => decide (x.1 = h) && decide (x.2.restore.state = .queued) && decide (x.2.rush = rush)
          u.store.rushQueue = arrivals.filter (queued true) ∧ u.store.ordinaryQueue = arrivals.filter (queued false))
        ∧ (s.port.events = [] → s.store.lowIndication = false → l.length ≤ 30 →
          u.store.lowIndication = decide (28 ≤ l.length)
          ∧ u.port.events = (l.filterMap fun x =>
              if x.2.state ∈ [RecState.inbound, .loaded, .waiting, .running, .paused, .ended] then
                some (recordEvent .held ((u.rec? x.1).bind fun r => r.position) x.1 x.2.tag
                  (7 + if x.2.deviations.length < 4 then 0 else 256))
              else none)
            ++ (if 28 ≤ l.length then [stationEvent .slotsLow (32 - l.length)] else [])
            ++ [stationEvent .restored l.length]))
  ∧ ∀ (run : RestoreRun) (h : Handle) (r : Record), imageWellFormed (recordImage r) = true →
    decodeImage (recordImage r) = some r → run.state.resident r.tag ≠ none →
    run.add (byte h.val, recordImage r) = run

/-! ### Forms carried as bits and bytes (chapter 10) -/

/-- A record whose fields are in their ranges is read back from its image whole, but for the items that no image carries,
and the image is well formed with a right CRC (R2, 10.2). A frame of a defined kind as its sender drives it, from the head
on, is read as its appearance, and with another CRC as a CRC error (R74, R78). A port frame's forty bits, command code,
three argument bytes and a right CRC-8, are read as the command they spell, and with another CRC as a CRC error (R179). -/
def Obligations.FormsReadBack : Prop :=
  (∀ r : Record, r.tag.epoch ≠ 0 → r.tag.seq ≠ 0 → (∀ t, r.adoptedFrom = some t → t.epoch ≠ 0 ∧ t.seq ≠ 0) →
     validSteps r.steps = true → r.current < r.steps.length → r.heldFrom ≠ some .held → r.deviations.length ≤ 4 →
     (∀ d ∈ r.deviations, d.stepIndex < r.steps.length) →
     imageWellFormed (recordImage r) = true ∧ imageCrcOk (recordImage r) = true
       ∧ decodeImage (recordImage r) = some { r with
           gapFrac := 0, booking := .none, exhausted := false, answerTimer := none, handOffTimer := none,
           locateTimer := none, carry := none, sentToward := none })
  ∧ (∀ (k : FrameKind) (a : Addr) (dest : BitVec 5) (payload : List Byte), payload.length ≤ 16 →
       frameBits k a dest payload =
         false :: frameBody k a dest payload ++ bitsOf (crc16Bits (frameBody k a dest payload)) ++ List.replicate 9 true
       ∧ lineFrame ((frameBits k a dest payload).drop 1) = .ok (appearance (kindCode k) a dest payload)
       ∧ (∀ crc : BitVec 16, crc ≠ crc16Bits (frameBody k a dest payload) →
         lineFrame (frameBody k a dest payload ++ bitsOf crc ++ List.replicate 9 true) = .error .crcError)
       ∧ frameKindOf (kindCode k) = some k)
  ∧ (∀ (code a2 a1 a0 : Byte),
       let covered := bitsOf code ++ bitsOf a2 ++ bitsOf a1 ++ bitsOf a0
       portFrame (covered ++ bitsOf (crc8Bits covered)) = portCommand code a2 a1 a0
         ∧ ∀ crc : Byte, crc ≠ crc8Bits covered → portFrame (covered ++ bitsOf crc) = .portCrcError)
end

