-- ==== Sys2Proof/Laws/Small.lean ====
section
/-! SUPPORT. Every operation keeps the event queue to 32 events (R186) and the receive error count to 16 (R83): `Small`, with one lemma per operation. -/

namespace Sys2Proof.Machine

/-- At most 32 events and 16 receive errors. -/
def State.Small (s : State) : Prop := s.port.events.length ≤ 32 ∧ s.lbi.rxErrors ≤ 16

@[simp] theorem small_mk (a b c d e f g h i j k l) : (State.mk a b c d e f g h i j k l).Small ↔
    e.events.length ≤ 32 ∧ g.rxErrors ≤ 16 := Iff.rfl

@[simp] theorem small_events (s : State) (hs : s.Small) : s.port.events.length ≤ 32 := hs.1

@[simp] theorem small_rxErrors (s : State) (hs : s.Small) : s.lbi.rxErrors ≤ 16 := hs.2

@[simp] theorem small_ite (c : Prop) [Decidable c] (x y : State) (hx : x.Small) (hy : y.Small) :
    (if c then x else y).Small := by
  split
  · exact hx
  · exact hy

@[simp] theorem small_foldl {α} (f : State → α → State) (hf : ∀ s a, s.Small → (f s a).Small) (l : List α) (s : State)
    (hs : s.Small) : (l.foldl f s).Small := by
  induction l generalizing s with
  | nil => exact hs
  | cons a l ih => exact ih _ (hf s a hs)


@[simp] theorem small_setSlot (h : Handle) (x : Slot) (s : State) (hs : s.Small) : (State.setSlot h x s).Small := by
  simp +contextual (maxDischargeDepth := 40) [State.setSlot, hs]

@[simp] theorem small_setRec (h : Handle) (r : Record) (s : State) (hs : s.Small) : (State.setRec h r s).Small := by
  simp +contextual (maxDischargeDepth := 40) [State.setRec, hs]

@[simp] theorem small_updRec (h : Handle) (f : Record → Record) (s : State) (hs : s.Small) :
    (State.updRec h f s).Small := by
  simp only [State.updRec]
  repeat' split
  all_goals simp +contextual (maxDischargeDepth := 40) [hs]

@[simp] theorem small_setWaits (h : Handle) (ws : List SlotWait) (s : State) (hs : s.Small) :
    (State.setWaits h ws s).Small := by
  simp +contextual (maxDischargeDepth := 40) [State.setWaits, hs]

@[simp] theorem small_freeSlot (h : Handle) (s : State) (hs : s.Small) : (State.freeSlot h s).Small := by
  simp +contextual (maxDischargeDepth := 40) [State.freeSlot, hs]

@[simp] theorem small_enqueue (h : Handle) (rush : Bool) (s : State) (hs : s.Small) :
    (State.enqueue h rush s).Small := by
  simp only [State.enqueue]
  repeat' split
  all_goals simp +contextual (maxDischargeDepth := 40) [hs]

@[simp] theorem small_unqueue (h : Handle) (s : State) (hs : s.Small) : (State.unqueue h s).Small := by
  simp +contextual (maxDischargeDepth := 40) [State.unqueue, hs]

@[simp] theorem small_updPos (p : PosIx) (f : Position → Position) (s : State) (hs : s.Small) :
    (State.updPos p f s).Small := by
  simp +contextual (maxDischargeDepth := 40) [State.updPos, hs]

@[simp] theorem small_vacate (p : PosIx) (st : PosState) (s : State) (hs : s.Small) :
    (State.vacate p st s).Small := by
  simp +contextual (maxDischargeDepth := 40) [State.vacate, hs]

@[simp] theorem small_vacateOpt (p : Option PosIx) (st : PosState) (s : State) (hs : s.Small) :
    (State.vacate? p st s).Small := by
  simp only [State.vacate?]
  repeat' split
  all_goals simp +contextual (maxDischargeDepth := 40) [hs]

@[simp] theorem small_alarm (f : Alarms → Alarms) (s : State) (hs : s.Small) : (State.alarm f s).Small := by
  simp +contextual (maxDischargeDepth := 40) [State.alarm, hs]

@[simp] theorem small_post (e : Event) (s : State) (hs : s.Small) : (State.post e s).Small := by
  simp only [State.post]
  split
  · exact hs
  · exact hs
  all_goals
    split
    · simp only [small_mk, List.length_append, List.length_singleton]
      exact ⟨by omega, hs.2⟩
    · exact small_alarm _ s hs

@[simp] theorem small_postLineState (c : Cause) (s : State) (hs : s.Small) : (State.postLineState c s).Small := by
  simp +contextual (maxDischargeDepth := 40) [State.postLineState, hs]

@[simp] theorem small_respond (st : Status) (data : BitVec 24) (s : State) (hs : s.Small) :
    (State.respond st data s).Small := by
  simp +contextual (maxDischargeDepth := 40) [State.respond, hs]

@[simp] theorem small_ok (d2 d1 d0 : Byte) (s : State) (hs : s.Small) : (State.ok d2 d1 d0 s).Small := by
  simp +contextual (maxDischargeDepth := 40) [State.ok, hs]

@[simp] theorem small_refuse (r : Reason) (d0 : Byte) (s : State) (hs : s.Small) : (State.refuse r d0 s).Small := by
  simp +contextual (maxDischargeDepth := 40) [State.refuse, hs]

@[simp] theorem small_badArgument (code : Byte) (s : State) (hs : s.Small) : (State.badArgument code s).Small := by
  simp +contextual (maxDischargeDepth := 40) [State.badArgument, hs]

@[simp] theorem small_deliver (s : State) (hs : s.Small) : (State.deliver s).Small := by
  simp +contextual (maxDischargeDepth := 40) [State.deliver, hs]

@[simp] theorem small_stage (bs : List Byte) (s : State) (hs : s.Small) : (State.stage bs s).Small := by
  simp +contextual (maxDischargeDepth := 40) [State.stage, hs]

@[simp] theorem small_queueFrame (o : Origin) (f : Frame) (s : State) (hs : s.Small) :
    (State.queueFrame o f s).Small := by
  simp only [State.queueFrame]
  repeat' split
  all_goals simp +contextual (maxDischargeDepth := 40) [hs]

@[simp] theorem small_setTx (l : List TxEntry) (s : State) (hs : s.Small) : (State.setTx l s).Small := by
  simp only [State.setTx]
  repeat' split
  all_goals simp +contextual (maxDischargeDepth := 40) [hs]

@[simp] theorem small_removeTx (o : Origin) (s : State) (hs : s.Small) : (State.removeTx o s).Small := by
  simp +contextual (maxDischargeDepth := 40) [State.removeTx, hs]

@[simp] theorem small_updTx (o : Origin) (f : TxEntry → TxEntry) (s : State) (hs : s.Small) :
    (State.updTx o f s).Small := by
  simp +contextual (maxDischargeDepth := 40) [State.updTx, hs]

@[simp] theorem small_withdrawTx (o : Origin) (s : State) (hs : s.Small) : (State.withdrawTx o s).Small := by
  simp only [State.withdrawTx]
  repeat' split
  all_goals simp +contextual (maxDischargeDepth := 40) [hs]

@[simp] theorem small_replaceTx (o : Origin) (f : Frame) (s : State) (hs : s.Small) :
    (State.replaceTx o f s).Small := by
  simp only [State.replaceTx]
  repeat' split
  all_goals simp +contextual (maxDischargeDepth := 40) [hs]

@[simp] theorem small_queueOrReplace (o : Origin) (f : Frame) (s : State) (hs : s.Small) :
    (State.queueOrReplace o f s).Small := by
  simp only [State.queueOrReplace]
  repeat' split
  all_goals simp +contextual (maxDischargeDepth := 40) [hs]

@[simp] theorem small_clearTx (s : State) (hs : s.Small) : (State.clearTx s).Small := by
  simp only [State.clearTx]
  repeat' split
  all_goals simp +contextual (maxDischargeDepth := 40) [hs]

@[simp] theorem small_queueAnswer (f : Frame) (s : State) (hs : s.Small) : (State.queueAnswer f s).Small := by
  simp only [State.queueAnswer]
  repeat' split
  all_goals simp +contextual (maxDischargeDepth := 40) [hs]

@[simp] theorem small_withdrawAnswers (cond : Frame → Bool) (s : State) (hs : s.Small) :
    (State.withdrawAnswers cond s).Small := by
  simp only [State.withdrawAnswers]
  apply small_foldl _ _ _ _ hs
  intro s i hs
  repeat' split
  all_goals simp (maxDischargeDepth := 40) [hs]

@[simp] theorem small_judgeSlots (s : State) (hs : s.Small) : (State.judgeSlots s).Small := by
  simp only [State.judgeSlots]
  repeat' split
  all_goals simp +contextual (maxDischargeDepth := 40) [hs]

@[simp] theorem small_failAttempt (s : State) (hs : s.Small) : (State.failAttempt s).Small := by
  simp only [State.failAttempt]
  repeat' split
  all_goals simp +contextual (maxDischargeDepth := 40) [hs]

@[simp] theorem small_countCrcError (s : State) (hs : s.Small) : (State.countCrcError s).Small := by
  simp only [State.countCrcError]
  repeat' split
  all_goals simp +contextual (maxDischargeDepth := 40) [hs]

@[simp] theorem small_setClaim (p : PosIx) (c : ClaimState) (s : State) (hs : s.Small) :
    (State.setClaim p c s).Small := by
  simp +contextual (maxDischargeDepth := 40) [State.setClaim, hs]

@[simp] theorem small_setRemembered (p : PosIx) (b : Bool) (s : State) (hs : s.Small) :
    (State.setRemembered p b s).Small := by
  simp +contextual (maxDischargeDepth := 40) [State.setRemembered, hs]

@[simp] theorem small_queueClaim (p : PosIx) (s : State) (hs : s.Small) : (State.queueClaim p s).Small := by
  simp +contextual (maxDischargeDepth := 40) [State.queueClaim, hs]

@[simp] theorem small_askClaim (p : PosIx) (s : State) (hs : s.Small) : (State.askClaim p s).Small := by
  simp only [State.askClaim]
  repeat' split
  all_goals simp +contextual (maxDischargeDepth := 40) [hs]

@[simp] theorem small_queueRelease (p : PosIx) (s : State) (hs : s.Small) : (State.queueRelease p s).Small := by
  simp +contextual (maxDischargeDepth := 40) [State.queueRelease, hs]

@[simp] theorem small_giveUpClaim (p : PosIx) (s : State) (hs : s.Small) : (State.giveUpClaim p s).Small := by
  simp only [State.giveUpClaim]
  repeat' split
  all_goals simp +contextual (maxDischargeDepth := 40) [hs]

@[simp] theorem small_giveUpClaimOpt (p : Option PosIx) (s : State) (hs : s.Small) :
    (State.giveUpClaim? p s).Small := by
  simp only [State.giveUpClaim?]
  repeat' split
  all_goals simp +contextual (maxDischargeDepth := 40) [hs]

@[simp] theorem small_claimWithdrawn (p : PosIx) (s : State) (hs : s.Small) : (State.claimWithdrawn p s).Small := by
  simp only [State.claimWithdrawn]
  repeat' split
  all_goals simp +contextual (maxDischargeDepth := 40) [hs]

@[simp] theorem small_dropClaims (s : State) (hs : s.Small) : (State.dropClaims s).Small := by
  simp +contextual (maxDischargeDepth := 40) [State.dropClaims, hs]

@[simp] theorem small_pumpWaits (h : Handle) (ws : List SlotWait) (s : State) (hs : s.Small) :
    (State.pumpWaits h ws s).Small := by
  induction ws generalizing s with
  | nil => simp [State.pumpWaits, hs]
  | cons w ws ih => simp only [State.pumpWaits]; split <;> simp [ih, hs]

@[simp] theorem small_pumpSlot (h : Handle) (s : State) (hs : s.Small) : (State.pumpSlot h s).Small := by
  simp only [State.pumpSlot]
  repeat' split
  all_goals simp +contextual (maxDischargeDepth := 40) [hs]

@[simp] theorem small_sendSlot (h : Handle) (w : SlotWait) (s : State) (hs : s.Small) :
    (State.sendSlot h w s).Small := by
  simp +contextual (maxDischargeDepth := 40) [State.sendSlot, hs]

@[simp] theorem small_dropWaits (h : Handle) (w : SlotWait) (s : State) (hs : s.Small) :
    (State.dropWaits h w s).Small := by
  simp +contextual (maxDischargeDepth := 40) [State.dropWaits, hs]

@[simp] theorem small_withdrawSlot (h : Handle) (k : FrameKind) (s : State) (hs : s.Small) :
    (State.withdrawSlot h k s).Small := by
  simp only [State.withdrawSlot]
  repeat' split
  all_goals simp +contextual (maxDischargeDepth := 40) [hs]

@[simp] theorem small_roundFrom (h : Handle) (k : Nat) (s : State) (hs : s.Small) :
    (State.roundFrom h k s).Small := by
  simp only [State.roundFrom]
  repeat' split
  all_goals simp +contextual (maxDischargeDepth := 40) [hs]

@[simp] theorem small_startRound (h : Handle) (s : State) (hs : s.Small) : (State.startRound h s).Small := by
  simp only [State.startRound]
  repeat' split
  all_goals simp +contextual (maxDischargeDepth := 40) [hs]

@[simp] theorem small_withdrawBooks (h : Handle) (s : State) (hs : s.Small) : (State.withdrawBooks h s).Small := by
  simp +contextual (maxDischargeDepth := 40) [State.withdrawBooks, hs]

@[simp] theorem small_failCandidate (h : Handle) (s : State) (hs : s.Small) : (State.failCandidate h s).Small := by
  simp only [State.failCandidate]
  repeat' split
  all_goals simp +contextual (maxDischargeDepth := 40) [hs]

@[simp] theorem small_sendRenewal (h : Handle) (s : State) (hs : s.Small) : (State.sendRenewal h s).Small := by
  simp only [State.sendRenewal]
  repeat' split
  all_goals simp +contextual (maxDischargeDepth := 40) [hs]

@[simp] theorem small_endBooking (h : Handle) (s : State) (hs : s.Small) : (State.endBooking h s).Small := by
  simp only [State.endBooking]
  repeat' split
  all_goals simp +contextual (maxDischargeDepth := 40) [hs]

@[simp] theorem small_startTransfer (h : Handle) (s : State) (hs : s.Small) : (State.startTransfer h s).Small := by
  simp only [State.startTransfer]
  repeat' split
  all_goals simp +contextual (maxDischargeDepth := 40) [hs]

@[simp] theorem small_stopTransfer (h : Handle) (s : State) (hs : s.Small) : (State.stopTransfer h s).Small := by
  simp +contextual (maxDischargeDepth := 40) [State.stopTransfer, hs]

@[simp] theorem small_placeOne (s : State) (hs : s.Small) : (State.placeOne s).Small := by
  simp only [State.placeOne]
  repeat' split
  all_goals simp +contextual (maxDischargeDepth := 40) [hs]

@[simp] theorem small_placement (s : State) (hs : s.Small) : (State.placement s).Small := by
  exact small_foldl _ (fun s _ hs => small_placeOne s hs) positions s hs

@[simp] theorem small_stopPositionOpt (p : Option PosIx) (s : State) (hs : s.Small) :
    (State.stopPosition? p s).Small := by
  simp only [State.stopPosition?]
  repeat' split
  all_goals simp +contextual (maxDischargeDepth := 40) [hs]

@[simp] theorem small_enterHeld (h : Handle) (k : DevKind) (v : BitVec 24) (leaves : Bool) (s : State)
    (hs : s.Small) :
    (State.enterHeld h k v leaves s).Small := by
  simp only [State.enterHeld]
  repeat' split
  all_goals simp +contextual (maxDischargeDepth := 40) [hs]

@[simp] theorem small_checkGap (h : Handle) (s : State) (hs : s.Small) : (State.checkGap h s).Small := by
  simp only [State.checkGap]
  repeat' split
  all_goals simp +contextual (maxDischargeDepth := 40) [hs]

@[simp] theorem small_judgeReady (h : Handle) (s : State) (hs : s.Small) : (State.judgeReady h s).Small := by
  simp only [State.judgeReady]
  repeat' split
  all_goals simp +contextual (maxDischargeDepth := 40) [hs]

@[simp] theorem small_enterChecked (h : Handle) (st : RecState) (s : State) (hs : s.Small) :
    (State.enterChecked h st s).Small := by
  simp +contextual (maxDischargeDepth := 40) [State.enterChecked, hs]

@[simp] theorem small_enterLoaded (h : Handle) (s : State) (hs : s.Small) : (State.enterLoaded h s).Small := by
  simp +contextual (maxDischargeDepth := 40) [State.enterLoaded, hs]

@[simp] theorem small_enterEnded (h : Handle) (s : State) (hs : s.Small) : (State.enterEnded h s).Small := by
  simp only [State.enterEnded]
  repeat' split
  all_goals simp +contextual (maxDischargeDepth := 40) [hs]

@[simp] theorem small_startStep (p : PosIx) (h : Handle) (s : State) (hs : s.Small) :
    (State.startStep p h s).Small := by
  simp only [State.startStep]
  repeat' split
  all_goals simp +contextual (maxDischargeDepth := 40) [hs]

@[simp] theorem small_tellGrant (p : PosIx) (s : State) (hs : s.Small) : (State.tellGrant p s).Small := by
  simp only [State.tellGrant]
  repeat' split
  all_goals simp +contextual (maxDischargeDepth := 40) [hs]

@[simp] theorem small_endStep (p : PosIx) (h : Handle) (s : State) (hs : s.Small) : (State.endStep p h s).Small := by
  simp only [State.endStep]
  repeat' split
  all_goals simp +contextual (maxDischargeDepth := 40) [hs]

@[simp] theorem small_stepFault (p : PosIx) (h : Handle) (k : DevKind) (v : BitVec 24) (s : State) (hs : s.Small) :
    (State.stepFault p h k v s).Small := by
  simp +contextual (maxDischargeDepth := 40) [State.stepFault, hs]

@[simp] theorem small_dropBooking (h : Handle) (s : State) (hs : s.Small) : (State.dropBooking h s).Small := by
  simp only [State.dropBooking]
  repeat' split
  all_goals simp +contextual (maxDischargeDepth := 40) [hs]

@[simp] theorem small_tellEntry (s : State) (e : ClaimEntry) (hs : s.Small) : (State.tellEntry s e).Small := by
  simp only [State.tellEntry]
  repeat' split
  all_goals simp +contextual (maxDischargeDepth := 40) [hs]

@[simp] theorem small_tellGrants (l : List ClaimEntry) (s : State) (hs : s.Small) : (State.tellGrants l s).Small := by
  exact small_foldl _ (fun s a hs => small_tellEntry s a hs) l s hs

@[simp] theorem small_reportOversize (p : PosIx) (b : BudgetIx) (s : State) (hs : s.Small) :
    (State.reportOversize p b s).Small := by
  simp only [State.reportOversize]
  repeat' split
  all_goals simp +contextual (maxDischargeDepth := 40) [hs]

@[simp] theorem small_claimStands (p : PosIx) (st : ClaimState) (s : State) (hs : s.Small) :
    (State.claimStands p st s).Small := by
  simp only [State.claimStands]
  repeat' split
  all_goals simp +contextual (maxDischargeDepth := 40) [hs]

@[simp] theorem small_ownClaim (payload : List Byte) (c : ClaimOutcome) (s : State) (hs : s.Small) :
    (State.ownClaim payload c s).Small := by
  simp only [State.ownClaim]
  repeat' split
  all_goals simp +contextual (maxDischargeDepth := 40) [hs]

@[simp] theorem small_ownRelease (payload : List Byte) (s : State) (hs : s.Small) :
    (State.ownRelease payload s).Small := by
  simp only [State.ownRelease]
  repeat' split
  all_goals simp +contextual (maxDischargeDepth := 40) [hs]

@[simp] theorem small_ownRemoved (caps : Triple) (s : State) (e : ClaimEntry) (hs : s.Small) :
    (State.ownRemoved caps s e).Small := by
  simp only [State.ownRemoved]
  repeat' split
  all_goals simp +contextual (maxDischargeDepth := 40) [hs]

@[simp] theorem small_takeReplicated (f : BufferedFrame) (own : Bool) (s : State) (hs : s.Small) :
    (State.takeReplicated f own s).Small := by
  simp only [State.takeReplicated]
  repeat' split
  all_goals simp +contextual (maxDischargeDepth := 40) [hs]

@[simp] theorem small_dropTable (s : State) (hs : s.Small) : (State.dropTable s).Small := by
  simp +contextual (maxDischargeDepth := 40) [State.dropTable, hs]

@[simp] theorem small_dropEntries (cond : Booking → Bool) (s : State) (hs : s.Small) :
    (State.dropEntries cond s).Small := by
  simp +contextual (maxDischargeDepth := 40) [State.dropEntries, hs]

@[simp] theorem small_setStatus (cond : Booking → Bool) (st : BookingStatus) (s : State) (hs : s.Small) :
    (State.setStatus cond st s).Small := by
  simp +contextual (maxDischargeDepth := 40) [State.setStatus, hs]

@[simp] theorem small_takenFailed (f : Frame) (s : State) (hs : s.Small) : (State.takenFailed f s).Small := by
  simp only [State.takenFailed]
  repeat' split
  all_goals simp +contextual (maxDischargeDepth := 40) [hs]

@[simp] theorem small_deleteRecord (h : Handle) (s : State) (hs : s.Small) : (State.deleteRecord h s).Small := by
  simp +contextual (maxDischargeDepth := 40) [State.deleteRecord, hs]

@[simp] theorem small_answerRefused (a : Addr) (t : Tag) (r : Reason) (s : State) (hs : s.Small) :
    (State.answerRefused a t r s).Small := by
  simp +contextual (maxDischargeDepth := 40) [State.answerRefused, hs]

@[simp] theorem small_renewEntry (a : Addr) (q : BookRequest) (b : Booking) (s : State) (hs : s.Small) :
    (State.renewEntry a q b s).Small := by
  simp +contextual (maxDischargeDepth := 40) [State.renewEntry, hs]

theorem small_takeSlot (s : State) (h : Handle) (t : State) (e : s.takeSlot = some (h, t)) (hs : s.Small) : t.Small := by
  simp only [State.takeSlot] at e
  split at e
  · simp only [Option.some.injEq, Prod.mk.injEq] at e
    rw [← e.2]; exact hs
  · contradiction
@[simp] theorem small_reserve (a : Addr) (q : BookRequest) (p : PosIx) (s : State) (hs : s.Small) :
    (State.reserve a q p s).Small := by
  simp only [State.reserve]
  split
  · exact hs
  · rename_i h t e
    simp (maxDischargeDepth := 40) [small_takeSlot s h t e hs]

@[simp] theorem small_takeBook (a : Addr) (q : BookRequest) (s : State) (hs : s.Small) :
    (State.takeBook a q s).Small := by
  simp only [State.takeBook]
  repeat' split
  all_goals simp +contextual (maxDischargeDepth := 40) [hs]

@[simp] theorem small_completeImage (b : Booking) (im : List Byte) (s : State) (hs : s.Small) :
    (State.completeImage b im s).Small := by
  simp only [State.completeImage]
  repeat' split
  all_goals simp +contextual (maxDischargeDepth := 40) [hs]

@[simp] theorem small_takePart (b : Booking) (a : Assembly) (s : State) (hs : s.Small) :
    (State.takePart b a s).Small := by
  simp only [State.takePart]
  repeat' split
  all_goals simp +contextual (maxDischargeDepth := 40) [hs]

@[simp] theorem small_rejectOpen (b : Booking) (s : State) (hs : s.Small) : (State.rejectOpen b s).Small := by
  simp only [State.rejectOpen]
  repeat' split
  all_goals simp +contextual (maxDischargeDepth := 40) [hs]

@[simp] theorem small_takeFirstPart (a : Addr) (c : CarryPart) (s : State) (hs : s.Small) :
    (State.takeFirstPart a c s).Small := by
  simp only [State.takeFirstPart]
  repeat' split
  all_goals simp +contextual (maxDischargeDepth := 40) [hs]

@[simp] theorem small_takeLaterPart (a : Addr) (c : CarryPart) (s : State) (hs : s.Small) :
    (State.takeLaterPart a c s).Small := by
  simp only [State.takeLaterPart]
  repeat' split
  all_goals simp +contextual (maxDischargeDepth := 40) [hs]

@[simp] theorem small_takeCarry (a : Addr) (c : CarryPart) (s : State) (hs : s.Small) :
    (State.takeCarry a c s).Small := by
  simp only [State.takeCarry]
  repeat' split
  all_goals simp +contextual (maxDischargeDepth := 40) [hs]

@[simp] theorem small_receiveRecord (f : Frame) (s : State) (hs : s.Small) : (State.receiveRecord f s).Small := by
  simp only [State.receiveRecord]
  repeat' split
  all_goals simp +contextual (maxDischargeDepth := 40) [hs]

@[simp] theorem small_closeRejected (f : Frame) (s : State) (hs : s.Small) : (State.closeRejected f s).Small := by
  simp only [State.closeRejected]
  repeat' split
  all_goals simp +contextual (maxDischargeDepth := 40) [hs]

@[simp] theorem small_takeBooked (a : Addr) (t : Tag) (p : PosIx) (s : State) (hs : s.Small) :
    (State.takeBooked a t p s).Small := by
  simp only [State.takeBooked]
  repeat' split
  all_goals simp +contextual (maxDischargeDepth := 40) [hs]

@[simp] theorem small_takeRefused (a : Addr) (t : Tag) (s : State) (hs : s.Small) :
    (State.takeRefused a t s).Small := by
  simp only [State.takeRefused]
  repeat' split
  all_goals simp +contextual (maxDischargeDepth := 40) [hs]

@[simp] theorem small_handOver (a : Addr) (t : Tag) (s : State) (hs : s.Small) : (State.handOver a t s).Small := by
  simp only [State.handOver]
  repeat' split
  all_goals simp +contextual (maxDischargeDepth := 40) [hs]

@[simp] theorem small_rejected (a : Addr) (t : Tag) (reason : Byte) (s : State) (hs : s.Small) :
    (State.rejected a t reason s).Small := by
  simp only [State.rejected]
  repeat' split
  all_goals simp +contextual (maxDischargeDepth := 40) [hs]

@[simp] theorem small_found (a : Addr) (t : Tag) (s : State) (hs : s.Small) : (State.found a t s).Small := by
  simp only [State.found]
  repeat' split
  all_goals simp +contextual (maxDischargeDepth := 40) [hs]

@[simp] theorem small_answerLocate (a : Addr) (t : Tag) (s : State) (hs : s.Small) :
    (State.answerLocate a t s).Small := by
  simp only [State.answerLocate]
  repeat' split
  all_goals simp +contextual (maxDischargeDepth := 40) [hs]

@[simp] theorem small_cancelEntry (a : Addr) (t : Tag) (s : State) (hs : s.Small) :
    (State.cancelEntry a t s).Small := by
  simp only [State.cancelEntry]
  repeat' split
  all_goals simp +contextual (maxDischargeDepth := 40) [hs]

@[simp] theorem small_cancelBooking (a : Addr) (t : Tag) (s : State) (hs : s.Small) :
    (State.cancelBooking a t s).Small := by
  simp only [State.cancelBooking]
  repeat' split
  all_goals simp +contextual (maxDischargeDepth := 40) [hs]

@[simp] theorem small_departRecord (a : Addr) (s : State) (h : Handle) (hs : s.Small) :
    (State.departRecord a s h).Small := by
  simp only [State.departRecord]
  repeat' split
  all_goals simp +contextual (maxDischargeDepth := 40) [hs]

@[simp] theorem small_departHandoff (a : Addr) (s : State) (hs : s.Small) : (State.departHandoff a s).Small := by
  simp +contextual (maxDischargeDepth := 40) [State.departHandoff, hs]

@[simp] theorem small_clearOutbound (s : State) (p : PosIx) (hs : s.Small) : (State.clearOutbound s p).Small := by
  simp only [State.clearOutbound]
  repeat' split
  all_goals simp +contextual (maxDischargeDepth := 40) [hs]

@[simp] theorem small_loseHandoff (s : State) (hs : s.Small) : (State.loseHandoff s).Small := by
  simp +contextual (maxDischargeDepth := 40) [State.loseHandoff, hs]

@[simp] theorem small_updPeer (a : Addr) (f : Peer → Peer) (s : State) (hs : s.Small) :
    (State.updPeer a f s).Small := by
  simp +contextual (maxDischargeDepth := 40) [State.updPeer, hs]

@[simp] theorem small_setLine (l : LineState) (s : State) (hs : s.Small) : (State.setLine l s).Small := by
  simp +contextual (maxDischargeDepth := 40) [State.setLine, hs]

@[simp] theorem small_peerGone (a : Addr) (c : GoneCause) (s : State) (hs : s.Small) :
    (State.peerGone a c s).Small := by
  simp only [State.peerGone]
  repeat' split
  all_goals simp +contextual (maxDischargeDepth := 40) [hs]

@[simp] theorem small_postPeerJoined (a : Addr) (s : State) (hs : s.Small) : (State.postPeerJoined a s).Small := by
  simp +contextual (maxDischargeDepth := 40) [State.postPeerJoined, hs]

@[simp] theorem small_peerJoins (a : Addr) (role : Role) (s : State) (hs : s.Small) :
    (State.peerJoins a role s).Small := by
  simp +contextual (maxDischargeDepth := 40) [State.peerJoins, hs]

@[simp] theorem small_applyPresence (a : Addr) (q : PresenceReport) (s : State) (hs : s.Small) :
    (State.applyPresence a q s).Small := by
  simp only [State.applyPresence]
  repeat' split
  all_goals simp +contextual (maxDischargeDepth := 40) [hs]

@[simp] theorem small_restartRound (a : Addr) (s : State) (h : Handle) (hs : s.Small) :
    (State.restartRound a s h).Small := by
  simp only [State.restartRound]
  repeat' split
  all_goals simp +contextual (maxDischargeDepth := 40) [hs]

@[simp] theorem small_restartRounds (a : Addr) (q : PresenceReport) (s : State) (hs : s.Small) :
    (State.restartRounds a q s).Small := by
  simp only [State.restartRounds]
  repeat' split
  all_goals simp +contextual (maxDischargeDepth := 40) [hs]

@[simp] theorem small_noteSender (a : Addr) (s : State) (hs : s.Small) : (State.noteSender a s).Small := by
  simp only [State.noteSender]
  repeat' split
  all_goals simp +contextual (maxDischargeDepth := 40) [hs]

@[simp] theorem small_sendUpkeep (f : Frame) (s : State) (hs : s.Small) : (State.sendUpkeep f s).Small := by
  simp only [State.sendUpkeep]
  repeat' split
  all_goals simp +contextual (maxDischargeDepth := 40) [hs]

@[simp] theorem small_pumpUpkeep (s : State) (hs : s.Small) : (State.pumpUpkeep s).Small := by
  simp only [State.pumpUpkeep]
  repeat' split
  all_goals simp +contextual (maxDischargeDepth := 40) [hs]

@[simp] theorem small_withdrawUpkeep (kinds : List FrameKind) (s : State) (hs : s.Small) :
    (State.withdrawUpkeep kinds s).Small := by
  simp only [State.withdrawUpkeep]
  repeat' split
  all_goals simp +contextual (maxDischargeDepth := 40) [hs]

@[simp] theorem small_stopServing (s : State) (hs : s.Small) : (State.stopServing s).Small := by
  simp +contextual (maxDischargeDepth := 40) [State.stopServing, hs]

@[simp] theorem small_stopServingOf (a : Addr) (s : State) (hs : s.Small) : (State.stopServingOf a s).Small := by
  simp only [State.stopServingOf]
  repeat' split
  all_goals simp +contextual (maxDischargeDepth := 40) [hs]

@[simp] theorem small_setJoinQueue (l : List Joiner) (s : State) (hs : s.Small) : (State.setJoinQueue l s).Small := by
  simp +contextual (maxDischargeDepth := 40) [State.setJoinQueue, hs]

@[simp] theorem small_leaveQueue (a : Addr) (s : State) (hs : s.Small) : (State.leaveQueue a s).Small := by
  simp +contextual (maxDischargeDepth := 40) [State.leaveQueue, hs]

@[simp] theorem small_enterQueue (a : Addr) (s : State) (hs : s.Small) : (State.enterQueue a s).Small := by
  simp only [State.enterQueue]
  repeat' split
  all_goals simp +contextual (maxDischargeDepth := 40) [hs]

@[simp] theorem small_judgeProvider (a : Addr) (s : State) (hs : s.Small) : (State.judgeProvider a s).Small := by
  simp only [State.judgeProvider]
  repeat' split
  all_goals simp +contextual (maxDischargeDepth := 40) [hs]

@[simp] theorem small_tryServe (s : State) (hs : s.Small) : (State.tryServe s).Small := by
  simp only [State.tryServe]
  repeat' split
  all_goals simp +contextual (maxDischargeDepth := 40) [hs]

@[simp] theorem small_snapAppeared (s : State) (hs : s.Small) : (State.snapAppeared s).Small := by
  simp only [State.snapAppeared]
  repeat' split
  all_goals simp +contextual (maxDischargeDepth := 40) [hs]

@[simp] theorem small_rejoin (c : Cause) (s : State) (hs : s.Small) : (State.rejoin c s).Small := by
  simp only [State.rejoin]
  repeat' split
  all_goals simp +contextual (maxDischargeDepth := 40) [hs]

@[simp] theorem small_enterJoining (c : Cause) (s : State) (hs : s.Small) : (State.enterJoining c s).Small := by
  simp +contextual (maxDischargeDepth := 40) [State.enterJoining, hs]

@[simp] theorem small_startJoin (s : State) (hs : s.Small) : (State.startJoin s).Small := by
  simp +contextual (maxDischargeDepth := 40) [State.startJoin, hs]

@[simp] theorem small_bufferFrame (f : BufferedFrame) (s : State) (hs : s.Small) : (State.bufferFrame f s).Small := by
  simp only [State.bufferFrame]
  repeat' split
  all_goals simp +contextual (maxDischargeDepth := 40) [hs]

@[simp] theorem small_joinedRecord (s : State) (h : Handle) (hs : s.Small) : (State.joinedRecord s h).Small := by
  simp only [State.joinedRecord]
  repeat' split
  all_goals simp +contextual (maxDischargeDepth := 40) [hs]

@[simp] theorem small_joinedPosition (s : State) (p : PosIx) (hs : s.Small) : (State.joinedPosition s p).Small := by
  simp only [State.joinedPosition]
  repeat' split
  all_goals simp +contextual (maxDischargeDepth := 40) [hs]

@[simp] theorem small_loadSnapshot (n : SnapIn) (s : State) (hs : s.Small) : (State.loadSnapshot n s).Small := by
  simp +contextual (maxDischargeDepth := 40) [State.loadSnapshot, hs]

@[simp] theorem small_listFrame (f : BufferedFrame) (s : State) (hs : s.Small) : (State.listFrame f s).Small := by
  simp only [State.listFrame]
  repeat' split
  all_goals simp +contextual (maxDischargeDepth := 40) [hs]

@[simp] theorem small_replayFrame (s : State) (f : BufferedFrame) (hs : s.Small) : (State.replayFrame s f).Small := by
  simp +contextual (maxDischargeDepth := 40) [State.replayFrame, hs]

@[simp] theorem small_completeJoin (c : Cause) (s : State) (hs : s.Small) : (State.completeJoin c s).Small := by
  simp +contextual (maxDischargeDepth := 40) [State.completeJoin, hs]

@[simp] theorem small_finishSnapshot (n : SnapIn) (s : State) (hs : s.Small) : (State.finishSnapshot n s).Small := by
  simp +contextual (maxDischargeDepth := 40) [State.finishSnapshot, hs]

@[simp] theorem small_lostPosition (s : State) (p : PosIx) (hs : s.Small) : (State.lostPosition s p).Small := by
  simp only [State.lostPosition]
  repeat' split
  all_goals simp +contextual (maxDischargeDepth := 40) [hs]

@[simp] theorem small_loseLine (l : LineState) (s : State) (hs : s.Small) : (State.loseLine l s).Small := by
  simp +contextual (maxDischargeDepth := 40) [State.loseLine, hs]

@[simp] theorem small_detach (c : Cause) (s : State) (hs : s.Small) : (State.detach c s).Small := by
  simp only [State.detach]
  repeat' split
  all_goals simp +contextual (maxDischargeDepth := 40) [hs]

@[simp] theorem small_goOut (s : State) (hs : s.Small) : (State.goOut s).Small := by
  simp +contextual (maxDischargeDepth := 40) [State.goOut, hs]

@[simp] theorem small_enterMismatch (s : State) (hs : s.Small) : (State.enterMismatch s).Small := by
  simp +contextual (maxDischargeDepth := 40) [State.enterMismatch, hs]

@[simp] theorem small_takeHead (sender : Addr) (q : SnapHead) (s : State) (hs : s.Small) :
    (State.takeHead sender q s).Small := by
  simp only [State.takeHead]
  repeat' split
  all_goals simp +contextual (maxDischargeDepth := 40) [hs]

@[simp] theorem small_takeSnapPart (index : Nat) (content : List Byte) (s : State) (hs : s.Small) :
    (State.takeSnapPart index content s).Small := by
  simp only [State.takeSnapPart]
  repeat' split
  all_goals simp +contextual (maxDischargeDepth := 40) [hs]

@[simp] theorem small_setInTx (x : InTx) (s : State) (hs : s.Small) : (State.setInTx x s).Small := by
  simp +contextual (maxDischargeDepth := 40) [State.setInTx, hs]

@[simp] theorem small_beginTx (s : State) (hs : s.Small) : (State.beginTx s).Small := by
  simp only [State.beginTx]
  repeat' split
  all_goals simp +contextual (maxDischargeDepth := 40) [hs]

@[simp] theorem small_restartStall (s : State) (hs : s.Small) : (State.restartStall s).Small := by
  simp only [State.restartStall]
  repeat' split
  all_goals simp +contextual (maxDischargeDepth := 40) [hs]

@[simp] theorem small_pumpOrigin (o : Origin) (s : State) (hs : s.Small) : (State.pumpOrigin o s).Small := by
  simp only [State.pumpOrigin]
  repeat' split
  all_goals simp +contextual (maxDischargeDepth := 40) [hs]

@[simp] theorem small_finishOwn (own : OwnTx) (s : State) (hs : s.Small) : (State.finishOwn own s).Small := by
  simp only [State.finishOwn]
  repeat' split
  all_goals simp +contextual (maxDischargeDepth := 40) [hs]

@[simp] theorem small_toldWithdrawn (e : TxEntry) (s : State) (hs : s.Small) : (State.toldWithdrawn e s).Small := by
  simp only [State.toldWithdrawn]
  repeat' split
  all_goals simp +contextual (maxDischargeDepth := 40) [hs]

@[simp] theorem small_orphanFailed (f : Frame) (s : State) (hs : s.Small) : (State.orphanFailed f s).Small := by
  simp only [State.orphanFailed]
  repeat' split
  all_goals simp +contextual (maxDischargeDepth := 40) [hs]

@[simp] theorem small_applyHeld (e : TxEntry) (s : State) (hs : s.Small) : (State.applyHeld e s).Small := by
  simp only [State.applyHeld]
  repeat' split
  all_goals simp +contextual (maxDischargeDepth := 40) [hs]

@[simp] theorem small_loseArbitration (s : State) (hs : s.Small) : (State.loseArbitration s).Small := by
  simp only [State.loseArbitration]
  repeat' split
  all_goals simp +contextual (maxDischargeDepth := 40) [hs]

@[simp] theorem small_dropFrame (o : Origin) (s : State) (hs : s.Small) : (State.dropFrame o s).Small := by
  simp +contextual (maxDischargeDepth := 40) [State.dropFrame, hs]

@[simp] theorem small_voidOwn (s : State) (hs : s.Small) : (State.voidOwn s).Small := by
  simp only [State.voidOwn]
  repeat' split
  all_goals simp +contextual (maxDischargeDepth := 40) [hs]

@[simp] theorem small_countVoid (s : State) (hs : s.Small) : (State.countVoid s).Small := by
  simp only [State.countVoid]
  split
  all_goals simp [small_mk, hs.1]

@[simp] theorem small_takeVoid (sender : Addr) (foundError : Bool) (s : State) (hs : s.Small) :
    (State.takeVoid sender foundError s).Small := by
  simp only [State.takeVoid]
  repeat' split
  all_goals simp +contextual (maxDischargeDepth := 40) [hs]

@[simp] theorem small_takeListenOnlyError (sender : Addr) (s : State) (hs : s.Small) :
    (State.takeListenOnlyError sender s).Small := by
  simp only [State.takeListenOnlyError]
  repeat' split
  all_goals simp +contextual (maxDischargeDepth := 40) [hs]

@[simp] theorem small_dropHead (s : State) (hs : s.Small) : (State.dropHead s).Small := by
  simp only [State.dropHead]
  repeat' split
  all_goals simp +contextual (maxDischargeDepth := 40) [hs]

@[simp] theorem small_takeStall (s : State) (hs : s.Small) : (State.takeStall s).Small := by
  simp only [State.takeStall]
  repeat' split
  all_goals simp +contextual (maxDischargeDepth := 40) [hs]

@[simp] theorem small_countClean (s : State) (hs : s.Small) : (State.countClean s).Small := by
  exact ⟨hs.1, Nat.le_trans (Nat.sub_le _ _) hs.2⟩

@[simp] theorem small_countAppeared (k : FrameKind) (a : Addr) (s : State) (hs : s.Small) : (State.countAppeared k a s).Small := by
  unfold State.countAppeared
  split
  · exact ⟨hs.1, Nat.zero_le _⟩
  · simp [hs]

@[simp] theorem small_noteBar (k : FrameKind) (payload : List Byte) (s : State) (hs : s.Small) :
    (State.noteBar k payload s).Small := by
  simp only [State.noteBar]
  repeat' split
  all_goals simp +contextual (maxDischargeDepth := 40) [hs]

@[simp] theorem small_takenSaved (own : OwnTx) (s : State) (hs : s.Small) : (State.takenSaved own s).Small := by
  simp only [State.takenSaved]
  repeat' split
  all_goals simp +contextual (maxDischargeDepth := 40) [hs]

@[simp] theorem small_appearUndefined (sender : Addr) (s : State) (hs : s.Small) :
    (State.appearUndefined sender s).Small := by
  simp only [State.appearUndefined]
  repeat' split
  all_goals simp +contextual (maxDischargeDepth := 40) [hs]

@[simp] theorem small_onReplicated (k : FrameKind) (sender : Addr) (payload : List Byte) (s : State) (hs : s.Small) :
    (State.onReplicated k sender payload s).Small := by
  simp only [State.onReplicated]
  repeat' split
  all_goals simp +contextual (maxDischargeDepth := 40) [hs]

@[simp] theorem small_dropPeerWork (a : Addr) (f : BufferedFrame) (s : State) (hs : s.Small) :
    (State.dropPeerWork a f s).Small := by
  simp +contextual (maxDischargeDepth := 40) [State.dropPeerWork, hs]

@[simp] theorem small_departJoined (f : BufferedFrame) (s : State) (hs : s.Small) :
    (State.departJoined f s).Small := by
  simp only [State.departJoined]
  repeat' split
  all_goals simp +contextual (maxDischargeDepth := 40) [hs]

@[simp] theorem small_onDepart (sender : Addr) (payload : List Byte) (s : State) (hs : s.Small) :
    (State.onDepart sender payload s).Small := by
  simp only [State.onDepart]
  repeat' split
  all_goals simp +contextual (maxDischargeDepth := 40) [hs]

@[simp] theorem small_onLeave (sender : Addr) (payload : List Byte) (s : State) (hs : s.Small) :
    (State.onLeave sender payload s).Small := by
  simp only [State.onLeave]
  repeat' split
  all_goals simp +contextual (maxDischargeDepth := 40) [hs]

@[simp] theorem small_joinJoined (f : BufferedFrame) (s : State) (hs : s.Small) : (State.joinJoined f s).Small := by
  simp only [State.joinJoined]
  repeat' split
  all_goals simp +contextual (maxDischargeDepth := 40) [hs]

@[simp] theorem small_onJoin (sender : Addr) (payload : List Byte) (s : State) (hs : s.Small) :
    (State.onJoin sender payload s).Small := by
  simp only [State.onJoin]
  repeat' split
  all_goals simp +contextual (maxDischargeDepth := 40) [hs]

@[simp] theorem small_onSnapHead (own : OwnTx) (sender : Addr) (payload : List Byte) (s : State) (hs : s.Small) :
    (State.onSnapHead own sender payload s).Small := by
  simp only [State.onSnapHead]
  repeat' split
  all_goals simp +contextual (maxDischargeDepth := 40) [hs]

@[simp] theorem small_onSnapPart (own : OwnTx) (payload : List Byte) (s : State) (hs : s.Small) :
    (State.onSnapPart own payload s).Small := by
  simp only [State.onSnapPart]
  repeat' split
  all_goals simp +contextual (maxDischargeDepth := 40) [hs]

@[simp] theorem small_onPresence (sender : Addr) (payload : List Byte) (s : State) (hs : s.Small) :
    (State.onPresence sender payload s).Small := by
  simp only [State.onPresence]
  repeat' split
  all_goals simp +contextual (maxDischargeDepth := 40) [hs]

@[simp] theorem small_bookAppeared (own : OwnTx) (dest : BitVec 5) (q : BookRequest) (s : State) (hs : s.Small) :
    (State.bookAppeared own dest q s).Small := by
  simp only [State.bookAppeared]
  repeat' split
  all_goals simp +contextual (maxDischargeDepth := 40) [hs]

@[simp] theorem small_onBook (own : OwnTx) (sender : Addr) (dest : BitVec 5) (payload : List Byte) (s : State)
    (hs : s.Small) :
    (State.onBook own sender dest payload s).Small := by
  simp only [State.onBook]
  repeat' split
  all_goals simp +contextual (maxDischargeDepth := 40) [hs]

@[simp] theorem small_bookedAppeared (dest : BitVec 5) (t : Tag) (s : State) (hs : s.Small) :
    (State.bookedAppeared dest t s).Small := by
  simp +contextual (maxDischargeDepth := 40) [State.bookedAppeared, hs]

@[simp] theorem small_onBooked (own : OwnTx) (sender : Addr) (dest : BitVec 5) (payload : List Byte) (s : State)
    (hs : s.Small) :
    (State.onBooked own sender dest payload s).Small := by
  simp only [State.onBooked]
  repeat' split
  all_goals simp +contextual (maxDischargeDepth := 40) [hs]

@[simp] theorem small_onRefused (sender : Addr) (dest : BitVec 5) (payload : List Byte) (s : State) (hs : s.Small) :
    (State.onRefused sender dest payload s).Small := by
  simp only [State.onRefused]
  repeat' split
  all_goals simp +contextual (maxDischargeDepth := 40) [hs]

@[simp] theorem small_onFound (sender : Addr) (dest : BitVec 5) (payload : List Byte) (s : State) (hs : s.Small) :
    (State.onFound sender dest payload s).Small := by
  simp only [State.onFound]
  repeat' split
  all_goals simp +contextual (maxDischargeDepth := 40) [hs]

@[simp] theorem small_onCancel (sender : Addr) (dest : BitVec 5) (payload : List Byte) (s : State) (hs : s.Small) :
    (State.onCancel sender dest payload s).Small := by
  simp only [State.onCancel]
  repeat' split
  all_goals simp +contextual (maxDischargeDepth := 40) [hs]

@[simp] theorem small_locateAppeared (t : Tag) (s : State) (hs : s.Small) : (State.locateAppeared t s).Small := by
  simp only [State.locateAppeared]
  repeat' split
  all_goals simp +contextual (maxDischargeDepth := 40) [hs]

@[simp] theorem small_onLocate (own : OwnTx) (sender : Addr) (payload : List Byte) (s : State) (hs : s.Small) :
    (State.onLocate own sender payload s).Small := by
  simp only [State.onLocate]
  repeat' split
  all_goals simp +contextual (maxDischargeDepth := 40) [hs]

@[simp] theorem small_carryAppeared (own : OwnTx) (index : Nat) (s : State) (hs : s.Small) :
    (State.carryAppeared own index s).Small := by
  simp only [State.carryAppeared]
  repeat' split
  all_goals simp +contextual (maxDischargeDepth := 40) [hs]

@[simp] theorem small_onCarry (own : OwnTx) (sender : Addr) (dest : BitVec 5) (payload : List Byte) (s : State)
    (hs : s.Small) :
    (State.onCarry own sender dest payload s).Small := by
  simp only [State.onCarry]
  repeat' split
  all_goals simp +contextual (maxDischargeDepth := 40) [hs]

@[simp] theorem small_onTaken (sender : Addr) (dest : BitVec 5) (payload : List Byte) (s : State) (hs : s.Small) :
    (State.onTaken sender dest payload s).Small := by
  simp only [State.onTaken]
  repeat' split
  all_goals simp +contextual (maxDischargeDepth := 40) [hs]

@[simp] theorem small_onReject (sender : Addr) (dest : BitVec 5) (payload : List Byte) (s : State) (hs : s.Small) :
    (State.onReject sender dest payload s).Small := by
  simp only [State.onReject]
  repeat' split
  all_goals simp +contextual (maxDischargeDepth := 40) [hs]

@[simp] theorem small_countOne (p : PosIx) (h : Handle) (r : Record) (e : StepEntry) (s : State) (hs : s.Small) :
    (State.countOne p h r e s).Small := by
  simp only [State.countOne]
  repeat' split
  all_goals simp +contextual (maxDischargeDepth := 40) [hs]

@[simp] theorem small_runSecond (p : PosIx) (s : State) (hs : s.Small) : (State.runSecond p s).Small := by
  simp only [State.runSecond]
  repeat' split
  all_goals simp +contextual (maxDischargeDepth := 40) [hs]

@[simp] theorem small_pauseSecond (p : PosIx) (s : State) (hs : s.Small) : (State.pauseSecond p s).Small := by
  simp only [State.pauseSecond]
  repeat' split
  all_goals simp +contextual (maxDischargeDepth := 40) [hs]

@[simp] theorem small_lampSilent (p : PosIx) (s : State) (hs : s.Small) : (State.lampSilent p s).Small := by
  simp only [State.lampSilent]
  repeat' split
  all_goals simp +contextual (maxDischargeDepth := 40) [hs]

@[simp] theorem small_doseShort (p : PosIx) (s : State) (hs : s.Small) : (State.doseShort p s).Small := by
  simp only [State.doseShort]
  repeat' split
  all_goals simp +contextual (maxDischargeDepth := 40) [hs]

@[simp] theorem small_dosePulse (p : PosIx) (s : State) (hs : s.Small) : (State.dosePulse p s).Small := by
  simp only [State.dosePulse]
  repeat' split
  all_goals simp +contextual (maxDischargeDepth := 40) [hs]

@[simp] theorem small_gapSecond (h : Handle) (s : State) (hs : s.Small) : (State.gapSecond h s).Small := by
  simp only [State.gapSecond]
  repeat' split
  all_goals simp +contextual (maxDischargeDepth := 40) [hs]

@[simp] theorem small_answerExpired (h : Handle) (s : State) (hs : s.Small) : (State.answerExpired h s).Small := by
  simp only [State.answerExpired]
  repeat' split
  all_goals simp +contextual (maxDischargeDepth := 40) [hs]

@[simp] theorem small_bookingLapse (p : PosIx) (s : State) (hs : s.Small) : (State.bookingLapse p s).Small := by
  simp only [State.bookingLapse]
  repeat' split
  all_goals simp +contextual (maxDischargeDepth := 40) [hs]

@[simp] theorem small_partGapExpired (p : PosIx) (s : State) (hs : s.Small) : (State.partGapExpired p s).Small := by
  simp only [State.partGapExpired]
  repeat' split
  all_goals simp +contextual (maxDischargeDepth := 40) [hs]

@[simp] theorem small_handOffExpired (h : Handle) (s : State) (hs : s.Small) : (State.handOffExpired h s).Small := by
  simp only [State.handOffExpired]
  repeat' split
  all_goals simp +contextual (maxDischargeDepth := 40) [hs]

@[simp] theorem small_locateExpired (h : Handle) (s : State) (hs : s.Small) : (State.locateExpired h s).Small := by
  simp only [State.locateExpired]
  repeat' split
  all_goals simp +contextual (maxDischargeDepth := 40) [hs]

@[simp] theorem small_departureExpired (a : Addr) (s : State) (hs : s.Small) :
    (State.departureExpired a s).Small := by
  simp only [State.departureExpired]
  repeat' split
  all_goals simp +contextual (maxDischargeDepth := 40) [hs]

@[simp] theorem small_presenceExpired (s : State) (hs : s.Small) : (State.presenceExpired s).Small := by
  simp only [State.presenceExpired]
  repeat' split
  all_goals simp +contextual (maxDischargeDepth := 40) [hs]

@[simp] theorem small_firstStation (s : State) (hs : s.Small) : (State.firstStation s).Small := by
  simp [State.firstStation, hs]

@[simp] theorem small_joinWaitExpired (s : State) (hs : s.Small) : (State.joinWaitExpired s).Small := by
  simp only [State.joinWaitExpired]
  repeat' split
  all_goals simp +contextual (maxDischargeDepth := 40) [hs]

@[simp] theorem small_snapGapExpired (s : State) (hs : s.Small) : (State.snapGapExpired s).Small := by
  simp only [State.snapGapExpired]
  repeat' split
  all_goals simp +contextual (maxDischargeDepth := 40) [hs]

@[simp] theorem small_backoffExpired (s : State) (hs : s.Small) : (State.backoffExpired s).Small := by
  simp only [State.backoffExpired]
  repeat' split
  all_goals simp +contextual (maxDischargeDepth := 40) [hs]

@[simp] theorem small_advancePos (s : State) (p : PosIx) (hs : s.Small) : (State.advancePos s p).Small := by
  simp only [State.advancePos]
  repeat' split
  all_goals simp +contextual (maxDischargeDepth := 40) [hs]

@[simp] theorem small_advance (s : State) (hs : s.Small) : (State.advance s).Small := by
  simp only [State.advance, small_mk, Lbi.advance]
  exact small_foldl _ (fun s p hs => small_advancePos s p hs) positions s hs

@[simp] theorem small_firePos (s : State) (p : PosIx) (hs : s.Small) : (State.firePos s p).Small := by
  simp only [State.firePos]
  repeat' split
  all_goals simp +contextual (maxDischargeDepth := 40) [hs]

@[simp] theorem small_fireRec (s : State) (h : Handle) (hs : s.Small) : (State.fireRec s h).Small := by
  simp only [State.fireRec]
  repeat' split
  all_goals simp +contextual (maxDischargeDepth := 40) [hs]

@[simp] theorem small_fireBooking (s : State) (p : PosIx) (hs : s.Small) : (State.fireBooking s p).Small := by
  simp only [State.fireBooking]
  repeat' split
  all_goals simp +contextual (maxDischargeDepth := 40) [hs]

@[simp] theorem small_fireDeparture (s : State) (a : Addr) (hs : s.Small) : (State.fireDeparture s a).Small := by
  simp only [State.fireDeparture]
  repeat' split
  all_goals simp +contextual (maxDischargeDepth := 40) [hs]

@[simp] theorem small_fireLine (s : State) (hs : s.Small) : (State.fireLine s).Small := by
  simp only [State.fireLine]
  repeat' split
  all_goals simp +contextual (maxDischargeDepth := 40) [hs]

@[simp] theorem small_tick (s : State) (hs : s.Small) : (State.tick s).Small := by
  simp only [State.tick]
  split
  · exact hs
  · exact hs
  · have h : ({ s with lbi := s.lbi.advance } : State).Small := hs
    split
    · exact small_takeStall _ h
    · exact h
  all_goals
    exact small_fireLine _ (small_foldl _ (fun s a hs => small_fireDeparture s a hs) _ _
      (small_foldl _ (fun s p hs => small_fireBooking s p hs) _ _ (small_foldl _ (fun s h hs => small_fireRec s h hs) _ _
        (small_foldl _ (fun s p hs => small_firePos s p hs) _ _ (small_advance s hs)))))

@[simp] theorem small_pauseForPower (s : State) (p : PosIx) (hs : s.Small) : (State.pauseForPower s p).Small := by
  simp only [State.pauseForPower]
  repeat' split
  all_goals simp +contextual (maxDischargeDepth := 40) [hs]

@[simp] theorem small_powerFailHandoff (s : State) (hs : s.Small) : (State.powerFailHandoff s).Small := by
  simp +contextual (maxDischargeDepth := 40) [State.powerFailHandoff, hs]

@[simp] theorem small_enterSaving (s : State) (hs : s.Small) : (State.enterSaving s).Small := by
  simp only [State.enterSaving]
  repeat' split
  all_goals simp +contextual (maxDischargeDepth := 40) [hs]

@[simp] theorem small_powerFail (s : State) (hs : s.Small) : (State.powerFail s).Small := by
  simp only [State.powerFail]
  repeat' split
  all_goals simp +contextual (maxDischargeDepth := 40) [hs]

@[simp] theorem small_beginWrite (s : State) (hs : s.Small) : (State.beginWrite s).Small := by
  simp only [State.beginWrite]
  repeat' split
  all_goals simp +contextual (maxDischargeDepth := 40) [hs]

@[simp] theorem small_endWrite (s : State) (hs : s.Small) : (State.endWrite s).Small := by
  simp only [State.endWrite]
  repeat' split
  all_goals simp +contextual (maxDischargeDepth := 40) [hs]

@[simp] theorem small_restorePosition (im : List Byte) (s : State) (p : PosIx) (hs : s.Small) :
    (State.restorePosition im s p).Small := by
  simp only [State.restorePosition]
  repeat' split
  all_goals simp +contextual (maxDischargeDepth := 40) [hs]

@[simp] theorem small_cleanLink (s : State) (h : Handle) (hs : s.Small) : (State.cleanLink s h).Small := by
  simp +contextual (maxDischargeDepth := 40) [State.cleanLink, hs]

@[simp] theorem small_restoreArrival (s : State) (h : Handle) (hs : s.Small) : (State.restoreArrival s h).Small := by
  simp only [State.restoreArrival]
  repeat' split
  all_goals simp +contextual (maxDischargeDepth := 40) [hs]

@[simp] theorem small_postRestoreHeld (s : State) (x : Handle × Nat) (hs : s.Small) :
    (State.postRestoreHeld s x).Small := by
  simp only [State.postRestoreHeld]
  repeat' split
  all_goals simp +contextual (maxDischargeDepth := 40) [hs]

@[simp] theorem small_rebuildFreeList (s : State) (hs : s.Small) : (State.rebuildFreeList s).Small := by
  simp +contextual (maxDischargeDepth := 40) [State.rebuildFreeList, hs]

@[simp] theorem small_invalidate (s : State) (hs : s.Small) : (State.invalidate s).Small := by
  simp +contextual (maxDischargeDepth := 40) [State.invalidate, hs]

@[simp] theorem small_postRestored (n : Nat) (s : State) (hs : s.Small) : (State.postRestored n s).Small := by
  simp +contextual (maxDischargeDepth := 40) [State.postRestored, hs]

@[simp] theorem small_openPositions (s : State) (hs : s.Small) : (State.openPositions s).Small := by
  simp +contextual (maxDischargeDepth := 40) [State.openPositions, hs]

theorem small_add (x : RestoreRun) (e : Byte × List Byte) (hs : x.state.Small) : (x.add e).state.Small := by
  simp only [RestoreRun.add]
  repeat' split
  all_goals simp [hs]
theorem small_addAll (l : List (Byte × List Byte)) (x : RestoreRun) (hs : x.state.Small) :
    (l.foldl RestoreRun.add x).state.Small := by
  induction l generalizing x with
  | nil => exact hs
  | cons e l ih => exact ih _ (small_add x e hs)
theorem small_restoreRecords (s : State) (hs : s.Small) : s.restoreRecords.state.Small := by
  have h := small_addAll (storedRecords (imageByte s.ret.image 5).toNat
    (s.ret.image.drop (7 + 2 * s.conf.posCount + (imageByte s.ret.image 6).toNat))) { state := s, held := [], count := 0 } hs
  simp +contextual (maxDischargeDepth := 40) [State.restoreRecords, h]
theorem small_restore (s : State) (hs : s.Small) : s.restore.2.2.Small := by
  simp only [State.restore]
  split
  all_goals simp +contextual (maxDischargeDepth := 40) [hs, small_restoreRecords]

@[simp] theorem small_close (s : State) (hs : s.Small) : (State.close s).Small := by
  simp only [State.close]
  exact small_ok _ _ _ _ (small_enterJoining _ _ (small_placement _ (small_restore _ (small_openPositions s hs))))

@[simp] theorem small_tryClose (s : State) (hs : s.Small) : (State.tryClose s).Small := by
  simp only [State.tryClose]
  repeat' split
  all_goals simp +contextual (maxDischargeDepth := 40) [hs]

@[simp] theorem small_configWrite (item : Byte) (v : BitVec 16) (s : State) (hs : s.Small) :
    (State.configWrite item v s).Small := by
  simp only [State.configWrite]
  repeat' split
  all_goals simp +contextual (maxDischargeDepth := 40) [hs]

@[simp] theorem small_useSeq (q : BitVec 16) (s : State) (hs : s.Small) : (State.useSeq q s).Small := by
  simp +contextual (maxDischargeDepth := 40) [State.useSeq, hs]

@[simp] theorem small_createRecord (steps : List StepEntry) (s : State) (hs : s.Small) :
    (State.createRecord steps s).Small := by
  simp only [State.createRecord]
  split
  · exact hs
  · rename_i h t e
    simp (maxDischargeDepth := 40) [small_takeSlot s h t e hs]

@[simp] theorem small_register (s : State) (hs : s.Small) : (State.register s).Small := by
  simp only [State.register]
  repeat' split
  all_goals simp +contextual (maxDischargeDepth := 40) [hs]

@[simp] theorem small_plateArrives (p : PosIx) (h : Handle) (r : Record) (s : State) (hs : s.Small) :
    (State.plateArrives p h r s).Small := by
  simp only [State.plateArrives]
  repeat' split
  all_goals simp +contextual (maxDischargeDepth := 40) [hs]

@[simp] theorem small_arrived (p : PosIx) (seq : BitVec 16) (s : State) (hs : s.Small) :
    (State.arrived p seq s).Small := by
  simp only [State.arrived]
  repeat' split
  all_goals simp +contextual (maxDischargeDepth := 40) [hs]

@[simp] theorem small_retire (p : PosIx) (h : Handle) (r : Record) (s : State) (hs : s.Small) :
    (State.retire p h r s).Small := by
  simp +contextual (maxDischargeDepth := 40) [State.retire, hs]

@[simp] theorem small_plateTaken (p : PosIx) (h : Handle) (r : Record) (s : State) (hs : s.Small) :
    (State.plateTaken p h r s).Small := by
  simp only [State.plateTaken]
  repeat' split
  all_goals simp +contextual (maxDischargeDepth := 40) [hs]

@[simp] theorem small_removed (p : PosIx) (s : State) (hs : s.Small) : (State.removed p s).Small := by
  simp only [State.removed]
  repeat' split
  all_goals simp +contextual (maxDischargeDepth := 40) [hs]

@[simp] theorem small_holdRecord (h : Handle) (r : Record) (s : State) (hs : s.Small) :
    (State.holdRecord h r s).Small := by
  simp only [State.holdRecord]
  repeat' split
  all_goals simp +contextual (maxDischargeDepth := 40) [hs]

@[simp] theorem small_rushRecord (h : Handle) (r : Record) (s : State) (hs : s.Small) :
    (State.rushRecord h r s).Small := by
  simp only [State.rushRecord]
  repeat' split
  all_goals simp +contextual (maxDischargeDepth := 40) [hs]

@[simp] theorem small_returnRecord (h : Handle) (r : Record) (st : RecState) (s : State) (hs : s.Small) :
    (State.returnRecord h r st s).Small := by
  simp only [State.returnRecord]
  repeat' split
  all_goals simp +contextual (maxDischargeDepth := 40) [hs]

@[simp] theorem small_wrongCode (s : State) (hs : s.Small) : (State.wrongCode s).Small := by
  simp +contextual (maxDischargeDepth := 40) [State.wrongCode, hs]

@[simp] theorem small_concede (h : Handle) (r : Record) (s : State) (hs : s.Small) : (State.concede h r s).Small := by
  simp only [State.concede]
  repeat' split
  all_goals simp +contextual (maxDischargeDepth := 40) [hs]

@[simp] theorem small_scrapPosition (p : Option PosIx) (s : State) (hs : s.Small) :
    (State.scrapPosition p s).Small := by
  simp only [State.scrapPosition]
  repeat' split
  all_goals simp +contextual (maxDischargeDepth := 40) [hs]

@[simp] theorem small_stopLocate (h : Handle) (s : State) (hs : s.Small) : (State.stopLocate h s).Small := by
  simp +contextual (maxDischargeDepth := 40) [State.stopLocate, hs]

@[simp] theorem small_scrapRecord (h : Handle) (r : Record) (s : State) (hs : s.Small) :
    (State.scrapRecord h r s).Small := by
  simp only [State.scrapRecord]
  repeat' split
  all_goals simp +contextual (maxDischargeDepth := 40) [hs]

@[simp] theorem small_adoptRecord (h : Handle) (r : Record) (s : State) (hs : s.Small) :
    (State.adoptRecord h r s).Small := by
  simp +contextual (maxDischargeDepth := 40) [State.adoptRecord, hs]

@[simp] theorem small_adopt (h : Handle) (r : Record) (s : State) (hs : s.Small) : (State.adopt h r s).Small := by
  simp only [State.adopt]
  repeat' split
  all_goals simp +contextual (maxDischargeDepth := 40) [hs]

@[simp] theorem small_setIlk (p : PosIx) (level : Bool) (s : State) (hs : s.Small) :
    (State.setIlk p level s).Small := by
  simp +contextual (maxDischargeDepth := 40) [State.setIlk, hs]

@[simp] theorem small_pauseStep (p : PosIx) (s : State) (hs : s.Small) : (State.pauseStep p s).Small := by
  simp only [State.pauseStep]
  repeat' split
  all_goals simp +contextual (maxDischargeDepth := 40) [hs]

@[simp] theorem small_resumeStep (p : PosIx) (s : State) (hs : s.Small) : (State.resumeStep p s).Small := by
  simp only [State.resumeStep]
  repeat' split
  all_goals simp +contextual (maxDischargeDepth := 40) [hs]

@[simp] theorem small_departureDue (a : Addr) (s : State) (hs : s.Small) : (State.departureDue a s).Small := by
  simp +contextual (maxDischargeDepth := 40) [State.departureDue, hs]

@[simp] theorem small_sendLeave (s : State) (hs : s.Small) : (State.sendLeave s).Small := by
  simp +contextual (maxDischargeDepth := 40) [State.sendLeave, hs]

end Sys2Proof.Machine
end

