-- ==== Sys2Proof/Laws/State.lean ====
section
/-! SUPPORT. One lemma per field, and per view of a field, for each named update: true by rfl, so that no proof unfolds a record update. Then reads of what was written. -/

namespace Sys2Proof.Machine

@[simp] theorem pending_setSlot (h : Handle) (x : Slot) (s : State) : (s.setSlot h x).pending = s.pending := rfl

@[simp] theorem pins_setSlot (h : Handle) (x : Slot) (s : State) : (s.setSlot h x).pins = s.pins := rfl

@[simp] theorem conf_setSlot (h : Handle) (x : Slot) (s : State) : (s.setSlot h x).conf = s.conf := rfl

@[simp] theorem ret_setSlot (h : Handle) (x : Slot) (s : State) : (s.setSlot h x).ret = s.ret := rfl

@[simp] theorem port_setSlot (h : Handle) (x : Slot) (s : State) : (s.setSlot h x).port = s.port := rfl

@[simp] theorem staging_setSlot (h : Handle) (x : Slot) (s : State) : (s.setSlot h x).staging = s.staging := rfl

@[simp] theorem lbi_setSlot (h : Handle) (x : Slot) (s : State) : (s.setSlot h x).lbi = s.lbi := rfl

@[simp] theorem mem_setSlot (h : Handle) (x : Slot) (s : State) : (s.setSlot h x).mem = s.mem := rfl

@[simp] theorem bud_setSlot (h : Handle) (x : Slot) (s : State) : (s.setSlot h x).bud = s.bud := rfl

@[simp] theorem store_setSlot (h : Handle) (x : Slot) (s : State) :
    (s.setSlot h x).store = { s.store with slots := s.store.slots.set h x } := rfl

@[simp] theorem seqr_setSlot (h : Handle) (x : Slot) (s : State) : (s.setSlot h x).seqr = s.seqr := rfl

@[simp] theorem bookings_setSlot (h : Handle) (x : Slot) (s : State) : (s.setSlot h x).bookings = s.bookings := rfl

@[simp] theorem line_setSlot (h : Handle) (x : Slot) (s : State) : (s.setSlot h x).line = s.line := rfl

@[simp] theorem isJoined_setSlot (h : Handle) (x : Slot) (s : State) : (s.setSlot h x).isJoined = s.isJoined := rfl

@[simp] theorem isActive_setSlot (h : Handle) (x : Slot) (s : State) : (s.setSlot h x).isActive = s.isActive := rfl

@[simp] theorem isOnLine_setSlot (h : Handle) (x : Slot) (s : State) : (s.setSlot h x).isOnLine = s.isOnLine := rfl

@[simp] theorem pos_setSlot (h : Handle) (x : Slot) (s : State) (q' : PosIx) :
    (s.setSlot h x).pos q' = s.pos q' := rfl

@[simp] theorem livePositions_setSlot (h : Handle) (x : Slot) (s : State) :
    (s.setSlot h x).livePositions = s.livePositions := rfl

@[simp] theorem txEntry_setSlot (h : Handle) (x : Slot) (s : State) (u : Origin) :
    (s.setSlot h x).txEntry u = s.txEntry u := rfl

@[simp] theorem txHas_setSlot (h : Handle) (x : Slot) (s : State) (u : Origin) :
    (s.setSlot h x).txHas u = s.txHas u := rfl

@[simp] theorem sending_setSlot (h : Handle) (x : Slot) (s : State) (u : Origin) :
    (s.setSlot h x).sending u = s.sending u := rfl

@[simp] theorem peer_setSlot (h : Handle) (x : Slot) (s : State) (b' : Addr) :
    (s.setSlot h x).peer b' = s.peer b' := rfl

@[simp] theorem txNext_setSlot (h : Handle) (x : Slot) (s : State) : (s.setSlot h x).txNext = s.txNext := rfl

@[simp] theorem pending_setRec (h : Handle) (r : Record) (s : State) : (s.setRec h r).pending = s.pending := rfl

@[simp] theorem pins_setRec (h : Handle) (r : Record) (s : State) : (s.setRec h r).pins = s.pins := rfl

@[simp] theorem conf_setRec (h : Handle) (r : Record) (s : State) : (s.setRec h r).conf = s.conf := rfl

@[simp] theorem ret_setRec (h : Handle) (r : Record) (s : State) : (s.setRec h r).ret = s.ret := rfl

@[simp] theorem port_setRec (h : Handle) (r : Record) (s : State) : (s.setRec h r).port = s.port := rfl

@[simp] theorem staging_setRec (h : Handle) (r : Record) (s : State) : (s.setRec h r).staging = s.staging := rfl

@[simp] theorem lbi_setRec (h : Handle) (r : Record) (s : State) : (s.setRec h r).lbi = s.lbi := rfl

@[simp] theorem mem_setRec (h : Handle) (r : Record) (s : State) : (s.setRec h r).mem = s.mem := rfl

@[simp] theorem bud_setRec (h : Handle) (r : Record) (s : State) : (s.setRec h r).bud = s.bud := rfl

@[simp] theorem store_setRec (h : Handle) (r : Record) (s : State) :
    (s.setRec h r).store = { s.store with slots := s.store.slots.set h { s.slot h with state := .inUse r } } := rfl

@[simp] theorem seqr_setRec (h : Handle) (r : Record) (s : State) : (s.setRec h r).seqr = s.seqr := rfl

@[simp] theorem bookings_setRec (h : Handle) (r : Record) (s : State) : (s.setRec h r).bookings = s.bookings := rfl

@[simp] theorem line_setRec (h : Handle) (r : Record) (s : State) : (s.setRec h r).line = s.line := rfl

@[simp] theorem isJoined_setRec (h : Handle) (r : Record) (s : State) : (s.setRec h r).isJoined = s.isJoined := rfl

@[simp] theorem isActive_setRec (h : Handle) (r : Record) (s : State) : (s.setRec h r).isActive = s.isActive := rfl

@[simp] theorem isOnLine_setRec (h : Handle) (r : Record) (s : State) : (s.setRec h r).isOnLine = s.isOnLine := rfl

@[simp] theorem pos_setRec (h : Handle) (r : Record) (s : State) (q' : PosIx) :
    (s.setRec h r).pos q' = s.pos q' := rfl

@[simp] theorem livePositions_setRec (h : Handle) (r : Record) (s : State) :
    (s.setRec h r).livePositions = s.livePositions := rfl

@[simp] theorem txEntry_setRec (h : Handle) (r : Record) (s : State) (u : Origin) :
    (s.setRec h r).txEntry u = s.txEntry u := rfl

@[simp] theorem txHas_setRec (h : Handle) (r : Record) (s : State) (u : Origin) :
    (s.setRec h r).txHas u = s.txHas u := rfl

@[simp] theorem sending_setRec (h : Handle) (r : Record) (s : State) (u : Origin) :
    (s.setRec h r).sending u = s.sending u := rfl

@[simp] theorem peer_setRec (h : Handle) (r : Record) (s : State) (b' : Addr) :
    (s.setRec h r).peer b' = s.peer b' := rfl

@[simp] theorem txNext_setRec (h : Handle) (r : Record) (s : State) : (s.setRec h r).txNext = s.txNext := rfl

@[simp] theorem pending_setWaits (h : Handle) (ws : List SlotWait) (s : State) :
    (s.setWaits h ws).pending = s.pending := rfl

@[simp] theorem pins_setWaits (h : Handle) (ws : List SlotWait) (s : State) : (s.setWaits h ws).pins = s.pins := rfl

@[simp] theorem conf_setWaits (h : Handle) (ws : List SlotWait) (s : State) : (s.setWaits h ws).conf = s.conf := rfl

@[simp] theorem ret_setWaits (h : Handle) (ws : List SlotWait) (s : State) : (s.setWaits h ws).ret = s.ret := rfl

@[simp] theorem port_setWaits (h : Handle) (ws : List SlotWait) (s : State) : (s.setWaits h ws).port = s.port := rfl

@[simp] theorem staging_setWaits (h : Handle) (ws : List SlotWait) (s : State) :
    (s.setWaits h ws).staging = s.staging := rfl

@[simp] theorem lbi_setWaits (h : Handle) (ws : List SlotWait) (s : State) : (s.setWaits h ws).lbi = s.lbi := rfl

@[simp] theorem mem_setWaits (h : Handle) (ws : List SlotWait) (s : State) : (s.setWaits h ws).mem = s.mem := rfl

@[simp] theorem bud_setWaits (h : Handle) (ws : List SlotWait) (s : State) : (s.setWaits h ws).bud = s.bud := rfl

@[simp] theorem store_setWaits (h : Handle) (ws : List SlotWait) (s : State) :
    (s.setWaits h ws).store = { s.store with slots := s.store.slots.set h { s.slot h with waits := ws } } := rfl

@[simp] theorem seqr_setWaits (h : Handle) (ws : List SlotWait) (s : State) : (s.setWaits h ws).seqr = s.seqr := rfl

@[simp] theorem bookings_setWaits (h : Handle) (ws : List SlotWait) (s : State) :
    (s.setWaits h ws).bookings = s.bookings := rfl

@[simp] theorem line_setWaits (h : Handle) (ws : List SlotWait) (s : State) : (s.setWaits h ws).line = s.line := rfl

@[simp] theorem isJoined_setWaits (h : Handle) (ws : List SlotWait) (s : State) :
    (s.setWaits h ws).isJoined = s.isJoined := rfl

@[simp] theorem isActive_setWaits (h : Handle) (ws : List SlotWait) (s : State) :
    (s.setWaits h ws).isActive = s.isActive := rfl

@[simp] theorem isOnLine_setWaits (h : Handle) (ws : List SlotWait) (s : State) :
    (s.setWaits h ws).isOnLine = s.isOnLine := rfl

@[simp] theorem pos_setWaits (h : Handle) (ws : List SlotWait) (s : State) (q' : PosIx) :
    (s.setWaits h ws).pos q' = s.pos q' := rfl

@[simp] theorem livePositions_setWaits (h : Handle) (ws : List SlotWait) (s : State) :
    (s.setWaits h ws).livePositions = s.livePositions := rfl

@[simp] theorem txEntry_setWaits (h : Handle) (ws : List SlotWait) (s : State) (u : Origin) :
    (s.setWaits h ws).txEntry u = s.txEntry u := rfl

@[simp] theorem txHas_setWaits (h : Handle) (ws : List SlotWait) (s : State) (u : Origin) :
    (s.setWaits h ws).txHas u = s.txHas u := rfl

@[simp] theorem sending_setWaits (h : Handle) (ws : List SlotWait) (s : State) (u : Origin) :
    (s.setWaits h ws).sending u = s.sending u := rfl

@[simp] theorem peer_setWaits (h : Handle) (ws : List SlotWait) (s : State) (b' : Addr) :
    (s.setWaits h ws).peer b' = s.peer b' := rfl

@[simp] theorem txNext_setWaits (h : Handle) (ws : List SlotWait) (s : State) :
    (s.setWaits h ws).txNext = s.txNext := rfl

@[simp] theorem pending_enqueue (h : Handle) (rush : Bool) (s : State) : (s.enqueue h rush).pending = s.pending := by
  cases rush <;> rfl

@[simp] theorem pins_enqueue (h : Handle) (rush : Bool) (s : State) : (s.enqueue h rush).pins = s.pins := by
  cases rush <;> rfl

@[simp] theorem conf_enqueue (h : Handle) (rush : Bool) (s : State) : (s.enqueue h rush).conf = s.conf := by
  cases rush <;> rfl

@[simp] theorem ret_enqueue (h : Handle) (rush : Bool) (s : State) : (s.enqueue h rush).ret = s.ret := by
  cases rush <;> rfl

@[simp] theorem port_enqueue (h : Handle) (rush : Bool) (s : State) : (s.enqueue h rush).port = s.port := by
  cases rush <;> rfl

@[simp] theorem staging_enqueue (h : Handle) (rush : Bool) (s : State) : (s.enqueue h rush).staging = s.staging := by
  cases rush <;> rfl

@[simp] theorem lbi_enqueue (h : Handle) (rush : Bool) (s : State) : (s.enqueue h rush).lbi = s.lbi := by
  cases rush <;> rfl

@[simp] theorem mem_enqueue (h : Handle) (rush : Bool) (s : State) : (s.enqueue h rush).mem = s.mem := by
  cases rush <;> rfl

@[simp] theorem bud_enqueue (h : Handle) (rush : Bool) (s : State) : (s.enqueue h rush).bud = s.bud := by
  cases rush <;> rfl

@[simp] theorem seqr_enqueue (h : Handle) (rush : Bool) (s : State) : (s.enqueue h rush).seqr = s.seqr := by
  cases rush <;> rfl

@[simp] theorem bookings_enqueue (h : Handle) (rush : Bool) (s : State) :
    (s.enqueue h rush).bookings = s.bookings := by
  cases rush <;> rfl

@[simp] theorem line_enqueue (h : Handle) (rush : Bool) (s : State) : (s.enqueue h rush).line = s.line := by
  cases rush <;> rfl

@[simp] theorem isJoined_enqueue (h : Handle) (rush : Bool) (s : State) :
    (s.enqueue h rush).isJoined = s.isJoined := by
  cases rush <;> rfl

@[simp] theorem isActive_enqueue (h : Handle) (rush : Bool) (s : State) :
    (s.enqueue h rush).isActive = s.isActive := by
  cases rush <;> rfl

@[simp] theorem isOnLine_enqueue (h : Handle) (rush : Bool) (s : State) :
    (s.enqueue h rush).isOnLine = s.isOnLine := by
  cases rush <;> rfl

@[simp] theorem pos_enqueue (h : Handle) (rush : Bool) (s : State) (q' : PosIx) :
    (s.enqueue h rush).pos q' = s.pos q' := by
  cases rush <;> rfl

@[simp] theorem livePositions_enqueue (h : Handle) (rush : Bool) (s : State) :
    (s.enqueue h rush).livePositions = s.livePositions := by
  cases rush <;> rfl

@[simp] theorem txEntry_enqueue (h : Handle) (rush : Bool) (s : State) (u : Origin) :
    (s.enqueue h rush).txEntry u = s.txEntry u := by
  cases rush <;> rfl

@[simp] theorem txHas_enqueue (h : Handle) (rush : Bool) (s : State) (u : Origin) :
    (s.enqueue h rush).txHas u = s.txHas u := by
  cases rush <;> rfl

@[simp] theorem sending_enqueue (h : Handle) (rush : Bool) (s : State) (u : Origin) :
    (s.enqueue h rush).sending u = s.sending u := by
  cases rush <;> rfl

@[simp] theorem peer_enqueue (h : Handle) (rush : Bool) (s : State) (b' : Addr) :
    (s.enqueue h rush).peer b' = s.peer b' := by
  cases rush <;> rfl

@[simp] theorem txNext_enqueue (h : Handle) (rush : Bool) (s : State) : (s.enqueue h rush).txNext = s.txNext := by
  cases rush <;> rfl

@[simp] theorem pending_unqueue (h : Handle) (s : State) : (s.unqueue h).pending = s.pending := rfl

@[simp] theorem pins_unqueue (h : Handle) (s : State) : (s.unqueue h).pins = s.pins := rfl

@[simp] theorem conf_unqueue (h : Handle) (s : State) : (s.unqueue h).conf = s.conf := rfl

@[simp] theorem ret_unqueue (h : Handle) (s : State) : (s.unqueue h).ret = s.ret := rfl

@[simp] theorem port_unqueue (h : Handle) (s : State) : (s.unqueue h).port = s.port := rfl

@[simp] theorem staging_unqueue (h : Handle) (s : State) : (s.unqueue h).staging = s.staging := rfl

@[simp] theorem lbi_unqueue (h : Handle) (s : State) : (s.unqueue h).lbi = s.lbi := rfl

@[simp] theorem mem_unqueue (h : Handle) (s : State) : (s.unqueue h).mem = s.mem := rfl

@[simp] theorem bud_unqueue (h : Handle) (s : State) : (s.unqueue h).bud = s.bud := rfl

@[simp] theorem store_unqueue (h : Handle) (s : State) :
    (s.unqueue h).store = { s.store with
      rushQueue := s.store.rushQueue.filter (· ≠ h), ordinaryQueue := s.store.ordinaryQueue.filter (· ≠ h) } := rfl

@[simp] theorem seqr_unqueue (h : Handle) (s : State) : (s.unqueue h).seqr = s.seqr := rfl

@[simp] theorem bookings_unqueue (h : Handle) (s : State) : (s.unqueue h).bookings = s.bookings := rfl

@[simp] theorem line_unqueue (h : Handle) (s : State) : (s.unqueue h).line = s.line := rfl

@[simp] theorem isJoined_unqueue (h : Handle) (s : State) : (s.unqueue h).isJoined = s.isJoined := rfl

@[simp] theorem isActive_unqueue (h : Handle) (s : State) : (s.unqueue h).isActive = s.isActive := rfl

@[simp] theorem isOnLine_unqueue (h : Handle) (s : State) : (s.unqueue h).isOnLine = s.isOnLine := rfl

@[simp] theorem pos_unqueue (h : Handle) (s : State) (q' : PosIx) : (s.unqueue h).pos q' = s.pos q' := rfl

@[simp] theorem livePositions_unqueue (h : Handle) (s : State) : (s.unqueue h).livePositions = s.livePositions := rfl

@[simp] theorem txEntry_unqueue (h : Handle) (s : State) (u : Origin) : (s.unqueue h).txEntry u = s.txEntry u := rfl

@[simp] theorem txHas_unqueue (h : Handle) (s : State) (u : Origin) : (s.unqueue h).txHas u = s.txHas u := rfl

@[simp] theorem sending_unqueue (h : Handle) (s : State) (u : Origin) : (s.unqueue h).sending u = s.sending u := rfl

@[simp] theorem peer_unqueue (h : Handle) (s : State) (b' : Addr) : (s.unqueue h).peer b' = s.peer b' := rfl

@[simp] theorem txNext_unqueue (h : Handle) (s : State) : (s.unqueue h).txNext = s.txNext := rfl

@[simp] theorem pending_freeSlot (h : Handle) (s : State) : (s.freeSlot h).pending = s.pending := rfl

@[simp] theorem pins_freeSlot (h : Handle) (s : State) : (s.freeSlot h).pins = s.pins := rfl

@[simp] theorem conf_freeSlot (h : Handle) (s : State) : (s.freeSlot h).conf = s.conf := rfl

@[simp] theorem ret_freeSlot (h : Handle) (s : State) : (s.freeSlot h).ret = s.ret := rfl

@[simp] theorem port_freeSlot (h : Handle) (s : State) : (s.freeSlot h).port = s.port := rfl

@[simp] theorem staging_freeSlot (h : Handle) (s : State) : (s.freeSlot h).staging = s.staging := rfl

@[simp] theorem lbi_freeSlot (h : Handle) (s : State) : (s.freeSlot h).lbi = s.lbi := rfl

@[simp] theorem mem_freeSlot (h : Handle) (s : State) : (s.freeSlot h).mem = s.mem := rfl

@[simp] theorem bud_freeSlot (h : Handle) (s : State) : (s.freeSlot h).bud = s.bud := rfl

@[simp] theorem seqr_freeSlot (h : Handle) (s : State) : (s.freeSlot h).seqr = s.seqr := rfl

@[simp] theorem bookings_freeSlot (h : Handle) (s : State) : (s.freeSlot h).bookings = s.bookings := rfl

@[simp] theorem line_freeSlot (h : Handle) (s : State) : (s.freeSlot h).line = s.line := rfl

@[simp] theorem isJoined_freeSlot (h : Handle) (s : State) : (s.freeSlot h).isJoined = s.isJoined := rfl

@[simp] theorem isActive_freeSlot (h : Handle) (s : State) : (s.freeSlot h).isActive = s.isActive := rfl

@[simp] theorem isOnLine_freeSlot (h : Handle) (s : State) : (s.freeSlot h).isOnLine = s.isOnLine := rfl

@[simp] theorem pos_freeSlot (h : Handle) (s : State) (q' : PosIx) : (s.freeSlot h).pos q' = s.pos q' := rfl

@[simp] theorem livePositions_freeSlot (h : Handle) (s : State) :
    (s.freeSlot h).livePositions = s.livePositions := rfl

@[simp] theorem txEntry_freeSlot (h : Handle) (s : State) (u : Origin) : (s.freeSlot h).txEntry u = s.txEntry u := rfl

@[simp] theorem txHas_freeSlot (h : Handle) (s : State) (u : Origin) : (s.freeSlot h).txHas u = s.txHas u := rfl

@[simp] theorem sending_freeSlot (h : Handle) (s : State) (u : Origin) : (s.freeSlot h).sending u = s.sending u := rfl

@[simp] theorem peer_freeSlot (h : Handle) (s : State) (b' : Addr) : (s.freeSlot h).peer b' = s.peer b' := rfl

@[simp] theorem txNext_freeSlot (h : Handle) (s : State) : (s.freeSlot h).txNext = s.txNext := rfl

@[simp] theorem pending_useSeq (q : BitVec 16) (s : State) : (s.useSeq q).pending = s.pending := rfl

@[simp] theorem pins_useSeq (q : BitVec 16) (s : State) : (s.useSeq q).pins = s.pins := rfl

@[simp] theorem conf_useSeq (q : BitVec 16) (s : State) : (s.useSeq q).conf = s.conf := rfl

@[simp] theorem ret_useSeq (q : BitVec 16) (s : State) : (s.useSeq q).ret = s.ret := rfl

@[simp] theorem port_useSeq (q : BitVec 16) (s : State) : (s.useSeq q).port = s.port := rfl

@[simp] theorem staging_useSeq (q : BitVec 16) (s : State) : (s.useSeq q).staging = s.staging := rfl

@[simp] theorem lbi_useSeq (q : BitVec 16) (s : State) : (s.useSeq q).lbi = s.lbi := rfl

@[simp] theorem mem_useSeq (q : BitVec 16) (s : State) : (s.useSeq q).mem = s.mem := rfl

@[simp] theorem bud_useSeq (q : BitVec 16) (s : State) : (s.useSeq q).bud = s.bud := rfl

@[simp] theorem store_useSeq (q : BitVec 16) (s : State) :
    (s.useSeq q).store = { s.store with seqCounter := seqAfter q } := rfl

@[simp] theorem seqr_useSeq (q : BitVec 16) (s : State) : (s.useSeq q).seqr = s.seqr := rfl

@[simp] theorem bookings_useSeq (q : BitVec 16) (s : State) : (s.useSeq q).bookings = s.bookings := rfl

@[simp] theorem line_useSeq (q : BitVec 16) (s : State) : (s.useSeq q).line = s.line := rfl

@[simp] theorem isJoined_useSeq (q : BitVec 16) (s : State) : (s.useSeq q).isJoined = s.isJoined := rfl

@[simp] theorem isActive_useSeq (q : BitVec 16) (s : State) : (s.useSeq q).isActive = s.isActive := rfl

@[simp] theorem isOnLine_useSeq (q : BitVec 16) (s : State) : (s.useSeq q).isOnLine = s.isOnLine := rfl

@[simp] theorem pos_useSeq (q : BitVec 16) (s : State) (q' : PosIx) : (s.useSeq q).pos q' = s.pos q' := rfl

@[simp] theorem livePositions_useSeq (q : BitVec 16) (s : State) : (s.useSeq q).livePositions = s.livePositions := rfl

@[simp] theorem txEntry_useSeq (q : BitVec 16) (s : State) (u : Origin) : (s.useSeq q).txEntry u = s.txEntry u := rfl

@[simp] theorem txHas_useSeq (q : BitVec 16) (s : State) (u : Origin) : (s.useSeq q).txHas u = s.txHas u := rfl

@[simp] theorem sending_useSeq (q : BitVec 16) (s : State) (u : Origin) : (s.useSeq q).sending u = s.sending u := rfl

@[simp] theorem peer_useSeq (q : BitVec 16) (s : State) (b' : Addr) : (s.useSeq q).peer b' = s.peer b' := rfl

@[simp] theorem txNext_useSeq (q : BitVec 16) (s : State) : (s.useSeq q).txNext = s.txNext := rfl

@[simp] theorem pending_updPos (p : PosIx) (f : Position → Position) (s : State) :
    (s.updPos p f).pending = s.pending := rfl

@[simp] theorem pins_updPos (p : PosIx) (f : Position → Position) (s : State) : (s.updPos p f).pins = s.pins := rfl

@[simp] theorem conf_updPos (p : PosIx) (f : Position → Position) (s : State) : (s.updPos p f).conf = s.conf := rfl

@[simp] theorem ret_updPos (p : PosIx) (f : Position → Position) (s : State) : (s.updPos p f).ret = s.ret := rfl

@[simp] theorem port_updPos (p : PosIx) (f : Position → Position) (s : State) : (s.updPos p f).port = s.port := rfl

@[simp] theorem staging_updPos (p : PosIx) (f : Position → Position) (s : State) :
    (s.updPos p f).staging = s.staging := rfl

@[simp] theorem lbi_updPos (p : PosIx) (f : Position → Position) (s : State) : (s.updPos p f).lbi = s.lbi := rfl

@[simp] theorem mem_updPos (p : PosIx) (f : Position → Position) (s : State) : (s.updPos p f).mem = s.mem := rfl

@[simp] theorem bud_updPos (p : PosIx) (f : Position → Position) (s : State) : (s.updPos p f).bud = s.bud := rfl

@[simp] theorem store_updPos (p : PosIx) (f : Position → Position) (s : State) : (s.updPos p f).store = s.store := rfl

@[simp] theorem seqr_updPos (p : PosIx) (f : Position → Position) (s : State) :
    (s.updPos p f).seqr = s.seqr.set p (f s.seqr[p]) := rfl

@[simp] theorem bookings_updPos (p : PosIx) (f : Position → Position) (s : State) :
    (s.updPos p f).bookings = s.bookings := rfl

@[simp] theorem line_updPos (p : PosIx) (f : Position → Position) (s : State) : (s.updPos p f).line = s.line := rfl

@[simp] theorem isJoined_updPos (p : PosIx) (f : Position → Position) (s : State) :
    (s.updPos p f).isJoined = s.isJoined := rfl

@[simp] theorem isActive_updPos (p : PosIx) (f : Position → Position) (s : State) :
    (s.updPos p f).isActive = s.isActive := rfl

@[simp] theorem isOnLine_updPos (p : PosIx) (f : Position → Position) (s : State) :
    (s.updPos p f).isOnLine = s.isOnLine := rfl

@[simp] theorem slot_updPos (p : PosIx) (f : Position → Position) (s : State) (g : Handle) :
    (s.updPos p f).slot g = s.slot g := rfl

@[simp] theorem recOpt_updPos (p : PosIx) (f : Position → Position) (s : State) (g : Handle) :
    (s.updPos p f).rec? g = s.rec? g := rfl

@[simp] theorem freeCount_updPos (p : PosIx) (f : Position → Position) (s : State) :
    (s.updPos p f).freeCount = s.freeCount := rfl

@[simp] theorem arrivalQueue_updPos (p : PosIx) (f : Position → Position) (s : State) :
    (s.updPos p f).arrivalQueue = s.arrivalQueue := rfl

@[simp] theorem livePositions_updPos (p : PosIx) (f : Position → Position) (s : State) :
    (s.updPos p f).livePositions = s.livePositions := rfl

@[simp] theorem txEntry_updPos (p : PosIx) (f : Position → Position) (s : State) (u : Origin) :
    (s.updPos p f).txEntry u = s.txEntry u := rfl

@[simp] theorem txHas_updPos (p : PosIx) (f : Position → Position) (s : State) (u : Origin) :
    (s.updPos p f).txHas u = s.txHas u := rfl

@[simp] theorem sending_updPos (p : PosIx) (f : Position → Position) (s : State) (u : Origin) :
    (s.updPos p f).sending u = s.sending u := rfl

@[simp] theorem peer_updPos (p : PosIx) (f : Position → Position) (s : State) (b' : Addr) :
    (s.updPos p f).peer b' = s.peer b' := rfl

@[simp] theorem txNext_updPos (p : PosIx) (f : Position → Position) (s : State) :
    (s.updPos p f).txNext = s.txNext := rfl

@[simp] theorem attemptByte_updPos (p : PosIx) (f : Position → Position) (s : State) :
    (s.updPos p f).attemptByte = s.attemptByte := rfl

@[simp] theorem pending_vacate (p : PosIx) (st : PosState) (s : State) : (s.vacate p st).pending = s.pending := rfl

@[simp] theorem pins_vacate (p : PosIx) (st : PosState) (s : State) : (s.vacate p st).pins = s.pins := rfl

@[simp] theorem conf_vacate (p : PosIx) (st : PosState) (s : State) : (s.vacate p st).conf = s.conf := rfl

@[simp] theorem ret_vacate (p : PosIx) (st : PosState) (s : State) : (s.vacate p st).ret = s.ret := rfl

@[simp] theorem port_vacate (p : PosIx) (st : PosState) (s : State) : (s.vacate p st).port = s.port := rfl

@[simp] theorem staging_vacate (p : PosIx) (st : PosState) (s : State) : (s.vacate p st).staging = s.staging := rfl

@[simp] theorem lbi_vacate (p : PosIx) (st : PosState) (s : State) : (s.vacate p st).lbi = s.lbi := rfl

@[simp] theorem mem_vacate (p : PosIx) (st : PosState) (s : State) : (s.vacate p st).mem = s.mem := rfl

@[simp] theorem bud_vacate (p : PosIx) (st : PosState) (s : State) : (s.vacate p st).bud = s.bud := rfl

@[simp] theorem store_vacate (p : PosIx) (st : PosState) (s : State) : (s.vacate p st).store = s.store := rfl

@[simp] theorem seqr_vacate (p : PosIx) (st : PosState) (s : State) :
    (s.vacate p st).seqr = s.seqr.set p { s.seqr[p] with state := st, link := none, stepEn := false } := rfl

@[simp] theorem bookings_vacate (p : PosIx) (st : PosState) (s : State) : (s.vacate p st).bookings = s.bookings := rfl

@[simp] theorem line_vacate (p : PosIx) (st : PosState) (s : State) : (s.vacate p st).line = s.line := rfl

@[simp] theorem isJoined_vacate (p : PosIx) (st : PosState) (s : State) : (s.vacate p st).isJoined = s.isJoined := rfl

@[simp] theorem isActive_vacate (p : PosIx) (st : PosState) (s : State) : (s.vacate p st).isActive = s.isActive := rfl

@[simp] theorem isOnLine_vacate (p : PosIx) (st : PosState) (s : State) : (s.vacate p st).isOnLine = s.isOnLine := rfl

@[simp] theorem slot_vacate (p : PosIx) (st : PosState) (s : State) (g : Handle) :
    (s.vacate p st).slot g = s.slot g := rfl

@[simp] theorem recOpt_vacate (p : PosIx) (st : PosState) (s : State) (g : Handle) :
    (s.vacate p st).rec? g = s.rec? g := rfl

@[simp] theorem freeCount_vacate (p : PosIx) (st : PosState) (s : State) :
    (s.vacate p st).freeCount = s.freeCount := rfl

@[simp] theorem arrivalQueue_vacate (p : PosIx) (st : PosState) (s : State) :
    (s.vacate p st).arrivalQueue = s.arrivalQueue := rfl

@[simp] theorem livePositions_vacate (p : PosIx) (st : PosState) (s : State) :
    (s.vacate p st).livePositions = s.livePositions := rfl

@[simp] theorem txEntry_vacate (p : PosIx) (st : PosState) (s : State) (u : Origin) :
    (s.vacate p st).txEntry u = s.txEntry u := rfl

@[simp] theorem txHas_vacate (p : PosIx) (st : PosState) (s : State) (u : Origin) :
    (s.vacate p st).txHas u = s.txHas u := rfl

@[simp] theorem sending_vacate (p : PosIx) (st : PosState) (s : State) (u : Origin) :
    (s.vacate p st).sending u = s.sending u := rfl

@[simp] theorem peer_vacate (p : PosIx) (st : PosState) (s : State) (b' : Addr) :
    (s.vacate p st).peer b' = s.peer b' := rfl

@[simp] theorem txNext_vacate (p : PosIx) (st : PosState) (s : State) : (s.vacate p st).txNext = s.txNext := rfl

@[simp] theorem attemptByte_vacate (p : PosIx) (st : PosState) (s : State) :
    (s.vacate p st).attemptByte = s.attemptByte := rfl

@[simp] theorem pending_setClaim (p : PosIx) (c : ClaimState) (s : State) :
    (s.setClaim p c).pending = s.pending := rfl

@[simp] theorem pins_setClaim (p : PosIx) (c : ClaimState) (s : State) : (s.setClaim p c).pins = s.pins := rfl

@[simp] theorem conf_setClaim (p : PosIx) (c : ClaimState) (s : State) : (s.setClaim p c).conf = s.conf := rfl

@[simp] theorem ret_setClaim (p : PosIx) (c : ClaimState) (s : State) : (s.setClaim p c).ret = s.ret := rfl

@[simp] theorem port_setClaim (p : PosIx) (c : ClaimState) (s : State) : (s.setClaim p c).port = s.port := rfl

@[simp] theorem staging_setClaim (p : PosIx) (c : ClaimState) (s : State) :
    (s.setClaim p c).staging = s.staging := rfl

@[simp] theorem lbi_setClaim (p : PosIx) (c : ClaimState) (s : State) : (s.setClaim p c).lbi = s.lbi := rfl

@[simp] theorem mem_setClaim (p : PosIx) (c : ClaimState) (s : State) : (s.setClaim p c).mem = s.mem := rfl

@[simp] theorem bud_setClaim (p : PosIx) (c : ClaimState) (s : State) : (s.setClaim p c).bud = s.bud := rfl

@[simp] theorem store_setClaim (p : PosIx) (c : ClaimState) (s : State) : (s.setClaim p c).store = s.store := rfl

@[simp] theorem seqr_setClaim (p : PosIx) (c : ClaimState) (s : State) :
    (s.setClaim p c).seqr = s.seqr.set p { s.seqr[p] with claim := c } := rfl

@[simp] theorem bookings_setClaim (p : PosIx) (c : ClaimState) (s : State) :
    (s.setClaim p c).bookings = s.bookings := rfl

@[simp] theorem line_setClaim (p : PosIx) (c : ClaimState) (s : State) : (s.setClaim p c).line = s.line := rfl

@[simp] theorem isJoined_setClaim (p : PosIx) (c : ClaimState) (s : State) :
    (s.setClaim p c).isJoined = s.isJoined := rfl

@[simp] theorem isActive_setClaim (p : PosIx) (c : ClaimState) (s : State) :
    (s.setClaim p c).isActive = s.isActive := rfl

@[simp] theorem isOnLine_setClaim (p : PosIx) (c : ClaimState) (s : State) :
    (s.setClaim p c).isOnLine = s.isOnLine := rfl

@[simp] theorem slot_setClaim (p : PosIx) (c : ClaimState) (s : State) (g : Handle) :
    (s.setClaim p c).slot g = s.slot g := rfl

@[simp] theorem recOpt_setClaim (p : PosIx) (c : ClaimState) (s : State) (g : Handle) :
    (s.setClaim p c).rec? g = s.rec? g := rfl

@[simp] theorem freeCount_setClaim (p : PosIx) (c : ClaimState) (s : State) :
    (s.setClaim p c).freeCount = s.freeCount := rfl

@[simp] theorem arrivalQueue_setClaim (p : PosIx) (c : ClaimState) (s : State) :
    (s.setClaim p c).arrivalQueue = s.arrivalQueue := rfl

@[simp] theorem livePositions_setClaim (p : PosIx) (c : ClaimState) (s : State) :
    (s.setClaim p c).livePositions = s.livePositions := rfl

@[simp] theorem txEntry_setClaim (p : PosIx) (c : ClaimState) (s : State) (u : Origin) :
    (s.setClaim p c).txEntry u = s.txEntry u := rfl

@[simp] theorem txHas_setClaim (p : PosIx) (c : ClaimState) (s : State) (u : Origin) :
    (s.setClaim p c).txHas u = s.txHas u := rfl

@[simp] theorem sending_setClaim (p : PosIx) (c : ClaimState) (s : State) (u : Origin) :
    (s.setClaim p c).sending u = s.sending u := rfl

@[simp] theorem peer_setClaim (p : PosIx) (c : ClaimState) (s : State) (b' : Addr) :
    (s.setClaim p c).peer b' = s.peer b' := rfl

@[simp] theorem txNext_setClaim (p : PosIx) (c : ClaimState) (s : State) : (s.setClaim p c).txNext = s.txNext := rfl

@[simp] theorem attemptByte_setClaim (p : PosIx) (c : ClaimState) (s : State) :
    (s.setClaim p c).attemptByte = s.attemptByte := rfl

@[simp] theorem pending_setRemembered (p : PosIx) (b : Bool) (s : State) :
    (s.setRemembered p b).pending = s.pending := rfl

@[simp] theorem pins_setRemembered (p : PosIx) (b : Bool) (s : State) : (s.setRemembered p b).pins = s.pins := rfl

@[simp] theorem conf_setRemembered (p : PosIx) (b : Bool) (s : State) : (s.setRemembered p b).conf = s.conf := rfl

@[simp] theorem ret_setRemembered (p : PosIx) (b : Bool) (s : State) : (s.setRemembered p b).ret = s.ret := rfl

@[simp] theorem port_setRemembered (p : PosIx) (b : Bool) (s : State) : (s.setRemembered p b).port = s.port := rfl

@[simp] theorem staging_setRemembered (p : PosIx) (b : Bool) (s : State) :
    (s.setRemembered p b).staging = s.staging := rfl

@[simp] theorem lbi_setRemembered (p : PosIx) (b : Bool) (s : State) : (s.setRemembered p b).lbi = s.lbi := rfl

@[simp] theorem mem_setRemembered (p : PosIx) (b : Bool) (s : State) : (s.setRemembered p b).mem = s.mem := rfl

@[simp] theorem bud_setRemembered (p : PosIx) (b : Bool) (s : State) : (s.setRemembered p b).bud = s.bud := rfl

@[simp] theorem store_setRemembered (p : PosIx) (b : Bool) (s : State) : (s.setRemembered p b).store = s.store := rfl

@[simp] theorem seqr_setRemembered (p : PosIx) (b : Bool) (s : State) :
    (s.setRemembered p b).seqr = s.seqr.set p { s.seqr[p] with remembered := b } := rfl

@[simp] theorem bookings_setRemembered (p : PosIx) (b : Bool) (s : State) :
    (s.setRemembered p b).bookings = s.bookings := rfl

@[simp] theorem line_setRemembered (p : PosIx) (b : Bool) (s : State) : (s.setRemembered p b).line = s.line := rfl

@[simp] theorem isJoined_setRemembered (p : PosIx) (b : Bool) (s : State) :
    (s.setRemembered p b).isJoined = s.isJoined := rfl

@[simp] theorem isActive_setRemembered (p : PosIx) (b : Bool) (s : State) :
    (s.setRemembered p b).isActive = s.isActive := rfl

@[simp] theorem isOnLine_setRemembered (p : PosIx) (b : Bool) (s : State) :
    (s.setRemembered p b).isOnLine = s.isOnLine := rfl

@[simp] theorem slot_setRemembered (p : PosIx) (b : Bool) (s : State) (g : Handle) :
    (s.setRemembered p b).slot g = s.slot g := rfl

@[simp] theorem recOpt_setRemembered (p : PosIx) (b : Bool) (s : State) (g : Handle) :
    (s.setRemembered p b).rec? g = s.rec? g := rfl

@[simp] theorem freeCount_setRemembered (p : PosIx) (b : Bool) (s : State) :
    (s.setRemembered p b).freeCount = s.freeCount := rfl

@[simp] theorem arrivalQueue_setRemembered (p : PosIx) (b : Bool) (s : State) :
    (s.setRemembered p b).arrivalQueue = s.arrivalQueue := rfl

@[simp] theorem livePositions_setRemembered (p : PosIx) (b : Bool) (s : State) :
    (s.setRemembered p b).livePositions = s.livePositions := rfl

@[simp] theorem txEntry_setRemembered (p : PosIx) (b : Bool) (s : State) (u : Origin) :
    (s.setRemembered p b).txEntry u = s.txEntry u := rfl

@[simp] theorem txHas_setRemembered (p : PosIx) (b : Bool) (s : State) (u : Origin) :
    (s.setRemembered p b).txHas u = s.txHas u := rfl

@[simp] theorem sending_setRemembered (p : PosIx) (b : Bool) (s : State) (u : Origin) :
    (s.setRemembered p b).sending u = s.sending u := rfl

@[simp] theorem peer_setRemembered (p : PosIx) (b : Bool) (s : State) (b' : Addr) :
    (s.setRemembered p b).peer b' = s.peer b' := rfl

@[simp] theorem txNext_setRemembered (p : PosIx) (b : Bool) (s : State) :
    (s.setRemembered p b).txNext = s.txNext := rfl

@[simp] theorem attemptByte_setRemembered (p : PosIx) (b : Bool) (s : State) :
    (s.setRemembered p b).attemptByte = s.attemptByte := rfl

@[simp] theorem pending_alarm (f : Alarms → Alarms) (s : State) : (s.alarm f).pending = s.pending := rfl

@[simp] theorem pins_alarm (f : Alarms → Alarms) (s : State) : (s.alarm f).pins = s.pins := rfl

@[simp] theorem conf_alarm (f : Alarms → Alarms) (s : State) : (s.alarm f).conf = s.conf := rfl

@[simp] theorem ret_alarm (f : Alarms → Alarms) (s : State) : (s.alarm f).ret = s.ret := rfl

@[simp] theorem port_alarm (f : Alarms → Alarms) (s : State) :
    (s.alarm f).port = { s.port with alarms := f s.port.alarms } := rfl

@[simp] theorem staging_alarm (f : Alarms → Alarms) (s : State) : (s.alarm f).staging = s.staging := rfl

@[simp] theorem lbi_alarm (f : Alarms → Alarms) (s : State) : (s.alarm f).lbi = s.lbi := rfl

@[simp] theorem mem_alarm (f : Alarms → Alarms) (s : State) : (s.alarm f).mem = s.mem := rfl

@[simp] theorem bud_alarm (f : Alarms → Alarms) (s : State) : (s.alarm f).bud = s.bud := rfl

@[simp] theorem store_alarm (f : Alarms → Alarms) (s : State) : (s.alarm f).store = s.store := rfl

@[simp] theorem seqr_alarm (f : Alarms → Alarms) (s : State) : (s.alarm f).seqr = s.seqr := rfl

@[simp] theorem bookings_alarm (f : Alarms → Alarms) (s : State) : (s.alarm f).bookings = s.bookings := rfl

@[simp] theorem line_alarm (f : Alarms → Alarms) (s : State) : (s.alarm f).line = s.line := rfl

@[simp] theorem isJoined_alarm (f : Alarms → Alarms) (s : State) : (s.alarm f).isJoined = s.isJoined := rfl

@[simp] theorem isActive_alarm (f : Alarms → Alarms) (s : State) : (s.alarm f).isActive = s.isActive := rfl

@[simp] theorem isOnLine_alarm (f : Alarms → Alarms) (s : State) : (s.alarm f).isOnLine = s.isOnLine := rfl

@[simp] theorem slot_alarm (f : Alarms → Alarms) (s : State) (g : Handle) : (s.alarm f).slot g = s.slot g := rfl

@[simp] theorem recOpt_alarm (f : Alarms → Alarms) (s : State) (g : Handle) : (s.alarm f).rec? g = s.rec? g := rfl

@[simp] theorem freeCount_alarm (f : Alarms → Alarms) (s : State) : (s.alarm f).freeCount = s.freeCount := rfl

@[simp] theorem arrivalQueue_alarm (f : Alarms → Alarms) (s : State) :
    (s.alarm f).arrivalQueue = s.arrivalQueue := rfl

@[simp] theorem pos_alarm (f : Alarms → Alarms) (s : State) (q' : PosIx) : (s.alarm f).pos q' = s.pos q' := rfl

@[simp] theorem livePositions_alarm (f : Alarms → Alarms) (s : State) :
    (s.alarm f).livePositions = s.livePositions := rfl

@[simp] theorem txEntry_alarm (f : Alarms → Alarms) (s : State) (u : Origin) :
    (s.alarm f).txEntry u = s.txEntry u := rfl

@[simp] theorem txHas_alarm (f : Alarms → Alarms) (s : State) (u : Origin) : (s.alarm f).txHas u = s.txHas u := rfl

@[simp] theorem sending_alarm (f : Alarms → Alarms) (s : State) (u : Origin) :
    (s.alarm f).sending u = s.sending u := rfl

@[simp] theorem peer_alarm (f : Alarms → Alarms) (s : State) (b' : Addr) : (s.alarm f).peer b' = s.peer b' := rfl

@[simp] theorem txNext_alarm (f : Alarms → Alarms) (s : State) : (s.alarm f).txNext = s.txNext := rfl

@[simp] theorem attemptByte_alarm (f : Alarms → Alarms) (s : State) : (s.alarm f).attemptByte = s.attemptByte := rfl

@[simp] theorem pending_respond (st : Status) (data : BitVec 24) (s : State) :
    (s.respond st data).pending = s.pending := rfl

@[simp] theorem pins_respond (st : Status) (data : BitVec 24) (s : State) : (s.respond st data).pins = s.pins := rfl

@[simp] theorem conf_respond (st : Status) (data : BitVec 24) (s : State) : (s.respond st data).conf = s.conf := rfl

@[simp] theorem ret_respond (st : Status) (data : BitVec 24) (s : State) : (s.respond st data).ret = s.ret := rfl

@[simp] theorem port_respond (st : Status) (data : BitVec 24) (s : State) :
    (s.respond st data).port = { s.port with prepared := { status := st, data := data } } := rfl

@[simp] theorem staging_respond (st : Status) (data : BitVec 24) (s : State) :
    (s.respond st data).staging = s.staging := rfl

@[simp] theorem lbi_respond (st : Status) (data : BitVec 24) (s : State) : (s.respond st data).lbi = s.lbi := rfl

@[simp] theorem mem_respond (st : Status) (data : BitVec 24) (s : State) : (s.respond st data).mem = s.mem := rfl

@[simp] theorem bud_respond (st : Status) (data : BitVec 24) (s : State) : (s.respond st data).bud = s.bud := rfl

@[simp] theorem store_respond (st : Status) (data : BitVec 24) (s : State) :
    (s.respond st data).store = s.store := rfl

@[simp] theorem seqr_respond (st : Status) (data : BitVec 24) (s : State) : (s.respond st data).seqr = s.seqr := rfl

@[simp] theorem bookings_respond (st : Status) (data : BitVec 24) (s : State) :
    (s.respond st data).bookings = s.bookings := rfl

@[simp] theorem line_respond (st : Status) (data : BitVec 24) (s : State) : (s.respond st data).line = s.line := rfl

@[simp] theorem isJoined_respond (st : Status) (data : BitVec 24) (s : State) :
    (s.respond st data).isJoined = s.isJoined := rfl

@[simp] theorem isActive_respond (st : Status) (data : BitVec 24) (s : State) :
    (s.respond st data).isActive = s.isActive := rfl

@[simp] theorem isOnLine_respond (st : Status) (data : BitVec 24) (s : State) :
    (s.respond st data).isOnLine = s.isOnLine := rfl

@[simp] theorem slot_respond (st : Status) (data : BitVec 24) (s : State) (g : Handle) :
    (s.respond st data).slot g = s.slot g := rfl

@[simp] theorem recOpt_respond (st : Status) (data : BitVec 24) (s : State) (g : Handle) :
    (s.respond st data).rec? g = s.rec? g := rfl

@[simp] theorem freeCount_respond (st : Status) (data : BitVec 24) (s : State) :
    (s.respond st data).freeCount = s.freeCount := rfl

@[simp] theorem arrivalQueue_respond (st : Status) (data : BitVec 24) (s : State) :
    (s.respond st data).arrivalQueue = s.arrivalQueue := rfl

@[simp] theorem pos_respond (st : Status) (data : BitVec 24) (s : State) (q' : PosIx) :
    (s.respond st data).pos q' = s.pos q' := rfl

@[simp] theorem livePositions_respond (st : Status) (data : BitVec 24) (s : State) :
    (s.respond st data).livePositions = s.livePositions := rfl

@[simp] theorem txEntry_respond (st : Status) (data : BitVec 24) (s : State) (u : Origin) :
    (s.respond st data).txEntry u = s.txEntry u := rfl

@[simp] theorem txHas_respond (st : Status) (data : BitVec 24) (s : State) (u : Origin) :
    (s.respond st data).txHas u = s.txHas u := rfl

@[simp] theorem sending_respond (st : Status) (data : BitVec 24) (s : State) (u : Origin) :
    (s.respond st data).sending u = s.sending u := rfl

@[simp] theorem peer_respond (st : Status) (data : BitVec 24) (s : State) (b' : Addr) :
    (s.respond st data).peer b' = s.peer b' := rfl

@[simp] theorem txNext_respond (st : Status) (data : BitVec 24) (s : State) :
    (s.respond st data).txNext = s.txNext := rfl

@[simp] theorem attemptByte_respond (st : Status) (data : BitVec 24) (s : State) :
    (s.respond st data).attemptByte = s.attemptByte := rfl

@[simp] theorem pending_deliver (s : State) : s.deliver.pending = s.pending := rfl

@[simp] theorem pins_deliver (s : State) : s.deliver.pins = s.pins := rfl

@[simp] theorem conf_deliver (s : State) : s.deliver.conf = s.conf := rfl

@[simp] theorem ret_deliver (s : State) : s.deliver.ret = s.ret := rfl

@[simp] theorem port_deliver (s : State) : s.deliver.port =
    { s.port with shift := ShiftPath.rest, delivered := some s.port.prepared } := rfl

@[simp] theorem staging_deliver (s : State) : s.deliver.staging = s.staging := rfl

@[simp] theorem lbi_deliver (s : State) : s.deliver.lbi = s.lbi := rfl

@[simp] theorem mem_deliver (s : State) : s.deliver.mem = s.mem := rfl

@[simp] theorem bud_deliver (s : State) : s.deliver.bud = s.bud := rfl

@[simp] theorem store_deliver (s : State) : s.deliver.store = s.store := rfl

@[simp] theorem seqr_deliver (s : State) : s.deliver.seqr = s.seqr := rfl

@[simp] theorem bookings_deliver (s : State) : s.deliver.bookings = s.bookings := rfl

@[simp] theorem line_deliver (s : State) : s.deliver.line = s.line := rfl

@[simp] theorem isJoined_deliver (s : State) : s.deliver.isJoined = s.isJoined := rfl

@[simp] theorem isActive_deliver (s : State) : s.deliver.isActive = s.isActive := rfl

@[simp] theorem isOnLine_deliver (s : State) : s.deliver.isOnLine = s.isOnLine := rfl

@[simp] theorem slot_deliver (s : State) (g : Handle) : s.deliver.slot g = s.slot g := rfl

@[simp] theorem recOpt_deliver (s : State) (g : Handle) : s.deliver.rec? g = s.rec? g := rfl

@[simp] theorem freeCount_deliver (s : State) : s.deliver.freeCount = s.freeCount := rfl

@[simp] theorem arrivalQueue_deliver (s : State) : s.deliver.arrivalQueue = s.arrivalQueue := rfl

@[simp] theorem pos_deliver (s : State) (q' : PosIx) : s.deliver.pos q' = s.pos q' := rfl

@[simp] theorem livePositions_deliver (s : State) : s.deliver.livePositions = s.livePositions := rfl

@[simp] theorem txEntry_deliver (s : State) (u : Origin) : s.deliver.txEntry u = s.txEntry u := rfl

@[simp] theorem txHas_deliver (s : State) (u : Origin) : s.deliver.txHas u = s.txHas u := rfl

@[simp] theorem sending_deliver (s : State) (u : Origin) : s.deliver.sending u = s.sending u := rfl

@[simp] theorem peer_deliver (s : State) (b' : Addr) : s.deliver.peer b' = s.peer b' := rfl

@[simp] theorem txNext_deliver (s : State) : s.deliver.txNext = s.txNext := rfl

@[simp] theorem attemptByte_deliver (s : State) : s.deliver.attemptByte = s.attemptByte := rfl

@[simp] theorem pending_answered (st : Status) (data : BitVec 24) (s : State) :
    (s.answered st data).pending = s.pending := rfl

@[simp] theorem pins_answered (st : Status) (data : BitVec 24) (s : State) : (s.answered st data).pins = s.pins := rfl

@[simp] theorem conf_answered (st : Status) (data : BitVec 24) (s : State) : (s.answered st data).conf = s.conf := rfl

@[simp] theorem ret_answered (st : Status) (data : BitVec 24) (s : State) : (s.answered st data).ret = s.ret := rfl

@[simp] theorem port_answered (st : Status) (data : BitVec 24) (s : State) :
    (s.answered st data).port =
      { s.port with
        prepared := { status := st, data := data }, delivered := some s.port.prepared, shift := ShiftPath.rest } := rfl

@[simp] theorem staging_answered (st : Status) (data : BitVec 24) (s : State) :
    (s.answered st data).staging = s.staging := rfl

@[simp] theorem lbi_answered (st : Status) (data : BitVec 24) (s : State) : (s.answered st data).lbi = s.lbi := rfl

@[simp] theorem mem_answered (st : Status) (data : BitVec 24) (s : State) : (s.answered st data).mem = s.mem := rfl

@[simp] theorem bud_answered (st : Status) (data : BitVec 24) (s : State) : (s.answered st data).bud = s.bud := rfl

@[simp] theorem store_answered (st : Status) (data : BitVec 24) (s : State) :
    (s.answered st data).store = s.store := rfl

@[simp] theorem seqr_answered (st : Status) (data : BitVec 24) (s : State) : (s.answered st data).seqr = s.seqr := rfl

@[simp] theorem bookings_answered (st : Status) (data : BitVec 24) (s : State) :
    (s.answered st data).bookings = s.bookings := rfl

@[simp] theorem line_answered (st : Status) (data : BitVec 24) (s : State) : (s.answered st data).line = s.line := rfl

@[simp] theorem isJoined_answered (st : Status) (data : BitVec 24) (s : State) :
    (s.answered st data).isJoined = s.isJoined := rfl

@[simp] theorem isActive_answered (st : Status) (data : BitVec 24) (s : State) :
    (s.answered st data).isActive = s.isActive := rfl

@[simp] theorem isOnLine_answered (st : Status) (data : BitVec 24) (s : State) :
    (s.answered st data).isOnLine = s.isOnLine := rfl

@[simp] theorem slot_answered (st : Status) (data : BitVec 24) (s : State) (g : Handle) :
    (s.answered st data).slot g = s.slot g := rfl

@[simp] theorem recOpt_answered (st : Status) (data : BitVec 24) (s : State) (g : Handle) :
    (s.answered st data).rec? g = s.rec? g := rfl

@[simp] theorem freeCount_answered (st : Status) (data : BitVec 24) (s : State) :
    (s.answered st data).freeCount = s.freeCount := rfl

@[simp] theorem arrivalQueue_answered (st : Status) (data : BitVec 24) (s : State) :
    (s.answered st data).arrivalQueue = s.arrivalQueue := rfl

@[simp] theorem pos_answered (st : Status) (data : BitVec 24) (s : State) (q' : PosIx) :
    (s.answered st data).pos q' = s.pos q' := rfl

@[simp] theorem livePositions_answered (st : Status) (data : BitVec 24) (s : State) :
    (s.answered st data).livePositions = s.livePositions := rfl

@[simp] theorem txEntry_answered (st : Status) (data : BitVec 24) (s : State) (u : Origin) :
    (s.answered st data).txEntry u = s.txEntry u := rfl

@[simp] theorem txHas_answered (st : Status) (data : BitVec 24) (s : State) (u : Origin) :
    (s.answered st data).txHas u = s.txHas u := rfl

@[simp] theorem sending_answered (st : Status) (data : BitVec 24) (s : State) (u : Origin) :
    (s.answered st data).sending u = s.sending u := rfl

@[simp] theorem peer_answered (st : Status) (data : BitVec 24) (s : State) (b' : Addr) :
    (s.answered st data).peer b' = s.peer b' := rfl

@[simp] theorem txNext_answered (st : Status) (data : BitVec 24) (s : State) :
    (s.answered st data).txNext = s.txNext := rfl

@[simp] theorem attemptByte_answered (st : Status) (data : BitVec 24) (s : State) :
    (s.answered st data).attemptByte = s.attemptByte := rfl

@[simp] theorem pending_stage (bs : List Byte) (s : State) : (s.stage bs).pending = s.pending := rfl

@[simp] theorem pins_stage (bs : List Byte) (s : State) : (s.stage bs).pins = s.pins := rfl

@[simp] theorem conf_stage (bs : List Byte) (s : State) : (s.stage bs).conf = s.conf := rfl

@[simp] theorem ret_stage (bs : List Byte) (s : State) : (s.stage bs).ret = s.ret := rfl

@[simp] theorem port_stage (bs : List Byte) (s : State) : (s.stage bs).port = s.port := rfl

@[simp] theorem staging_stage (bs : List Byte) (s : State) :
    (s.stage bs).staging = Memory.writeList s.staging 0 (bs.take 128) := rfl

@[simp] theorem lbi_stage (bs : List Byte) (s : State) : (s.stage bs).lbi = s.lbi := rfl

@[simp] theorem mem_stage (bs : List Byte) (s : State) : (s.stage bs).mem = s.mem := rfl

@[simp] theorem bud_stage (bs : List Byte) (s : State) : (s.stage bs).bud = s.bud := rfl

@[simp] theorem store_stage (bs : List Byte) (s : State) : (s.stage bs).store = s.store := rfl

@[simp] theorem seqr_stage (bs : List Byte) (s : State) : (s.stage bs).seqr = s.seqr := rfl

@[simp] theorem bookings_stage (bs : List Byte) (s : State) : (s.stage bs).bookings = s.bookings := rfl

@[simp] theorem line_stage (bs : List Byte) (s : State) : (s.stage bs).line = s.line := rfl

@[simp] theorem isJoined_stage (bs : List Byte) (s : State) : (s.stage bs).isJoined = s.isJoined := rfl

@[simp] theorem isActive_stage (bs : List Byte) (s : State) : (s.stage bs).isActive = s.isActive := rfl

@[simp] theorem isOnLine_stage (bs : List Byte) (s : State) : (s.stage bs).isOnLine = s.isOnLine := rfl

@[simp] theorem slot_stage (bs : List Byte) (s : State) (g : Handle) : (s.stage bs).slot g = s.slot g := rfl

@[simp] theorem recOpt_stage (bs : List Byte) (s : State) (g : Handle) : (s.stage bs).rec? g = s.rec? g := rfl

@[simp] theorem freeCount_stage (bs : List Byte) (s : State) : (s.stage bs).freeCount = s.freeCount := rfl

@[simp] theorem arrivalQueue_stage (bs : List Byte) (s : State) : (s.stage bs).arrivalQueue = s.arrivalQueue := rfl

@[simp] theorem pos_stage (bs : List Byte) (s : State) (q' : PosIx) : (s.stage bs).pos q' = s.pos q' := rfl

@[simp] theorem livePositions_stage (bs : List Byte) (s : State) : (s.stage bs).livePositions = s.livePositions := rfl

@[simp] theorem txEntry_stage (bs : List Byte) (s : State) (u : Origin) : (s.stage bs).txEntry u = s.txEntry u := rfl

@[simp] theorem txHas_stage (bs : List Byte) (s : State) (u : Origin) : (s.stage bs).txHas u = s.txHas u := rfl

@[simp] theorem sending_stage (bs : List Byte) (s : State) (u : Origin) : (s.stage bs).sending u = s.sending u := rfl

@[simp] theorem peer_stage (bs : List Byte) (s : State) (b' : Addr) : (s.stage bs).peer b' = s.peer b' := rfl

@[simp] theorem txNext_stage (bs : List Byte) (s : State) : (s.stage bs).txNext = s.txNext := rfl

@[simp] theorem attemptByte_stage (bs : List Byte) (s : State) : (s.stage bs).attemptByte = s.attemptByte := rfl

@[simp] theorem pending_setTx (l : List TxEntry) (s : State) : (s.setTx l).pending = s.pending := rfl

@[simp] theorem pins_setTx (l : List TxEntry) (s : State) : (s.setTx l).pins = s.pins := rfl

@[simp] theorem conf_setTx (l : List TxEntry) (s : State) : (s.setTx l).conf = s.conf := rfl

@[simp] theorem ret_setTx (l : List TxEntry) (s : State) : (s.setTx l).ret = s.ret := rfl

@[simp] theorem port_setTx (l : List TxEntry) (s : State) : (s.setTx l).port = s.port := rfl

@[simp] theorem staging_setTx (l : List TxEntry) (s : State) : (s.setTx l).staging = s.staging := rfl

@[simp] theorem lbi_setTx (l : List TxEntry) (s : State) :
    (s.setTx l).lbi = { s.lbi with tx := l, stall := if l.isEmpty then none else s.lbi.stall } := rfl

@[simp] theorem mem_setTx (l : List TxEntry) (s : State) : (s.setTx l).mem = s.mem := rfl

@[simp] theorem bud_setTx (l : List TxEntry) (s : State) : (s.setTx l).bud = s.bud := rfl

@[simp] theorem store_setTx (l : List TxEntry) (s : State) : (s.setTx l).store = s.store := rfl

@[simp] theorem seqr_setTx (l : List TxEntry) (s : State) : (s.setTx l).seqr = s.seqr := rfl

@[simp] theorem bookings_setTx (l : List TxEntry) (s : State) : (s.setTx l).bookings = s.bookings := rfl

@[simp] theorem line_setTx (l : List TxEntry) (s : State) : (s.setTx l).line = s.line := rfl

@[simp] theorem isJoined_setTx (l : List TxEntry) (s : State) : (s.setTx l).isJoined = s.isJoined := rfl

@[simp] theorem isActive_setTx (l : List TxEntry) (s : State) : (s.setTx l).isActive = s.isActive := rfl

@[simp] theorem isOnLine_setTx (l : List TxEntry) (s : State) : (s.setTx l).isOnLine = s.isOnLine := rfl

@[simp] theorem slot_setTx (l : List TxEntry) (s : State) (g : Handle) : (s.setTx l).slot g = s.slot g := rfl

@[simp] theorem recOpt_setTx (l : List TxEntry) (s : State) (g : Handle) : (s.setTx l).rec? g = s.rec? g := rfl

@[simp] theorem freeCount_setTx (l : List TxEntry) (s : State) : (s.setTx l).freeCount = s.freeCount := rfl

@[simp] theorem arrivalQueue_setTx (l : List TxEntry) (s : State) : (s.setTx l).arrivalQueue = s.arrivalQueue := rfl

@[simp] theorem pos_setTx (l : List TxEntry) (s : State) (q' : PosIx) : (s.setTx l).pos q' = s.pos q' := rfl

@[simp] theorem livePositions_setTx (l : List TxEntry) (s : State) :
    (s.setTx l).livePositions = s.livePositions := rfl

@[simp] theorem peer_setTx (l : List TxEntry) (s : State) (b' : Addr) : (s.setTx l).peer b' = s.peer b' := rfl

@[simp] theorem attemptByte_setTx (l : List TxEntry) (s : State) : (s.setTx l).attemptByte = s.attemptByte := rfl

@[simp] theorem pending_removeTx (o : Origin) (s : State) : (s.removeTx o).pending = s.pending := rfl

@[simp] theorem pins_removeTx (o : Origin) (s : State) : (s.removeTx o).pins = s.pins := rfl

@[simp] theorem conf_removeTx (o : Origin) (s : State) : (s.removeTx o).conf = s.conf := rfl

@[simp] theorem ret_removeTx (o : Origin) (s : State) : (s.removeTx o).ret = s.ret := rfl

@[simp] theorem port_removeTx (o : Origin) (s : State) : (s.removeTx o).port = s.port := rfl

@[simp] theorem staging_removeTx (o : Origin) (s : State) : (s.removeTx o).staging = s.staging := rfl

@[simp] theorem mem_removeTx (o : Origin) (s : State) : (s.removeTx o).mem = s.mem := rfl

@[simp] theorem bud_removeTx (o : Origin) (s : State) : (s.removeTx o).bud = s.bud := rfl

@[simp] theorem store_removeTx (o : Origin) (s : State) : (s.removeTx o).store = s.store := rfl

@[simp] theorem seqr_removeTx (o : Origin) (s : State) : (s.removeTx o).seqr = s.seqr := rfl

@[simp] theorem bookings_removeTx (o : Origin) (s : State) : (s.removeTx o).bookings = s.bookings := rfl

@[simp] theorem line_removeTx (o : Origin) (s : State) : (s.removeTx o).line = s.line := rfl

@[simp] theorem isJoined_removeTx (o : Origin) (s : State) : (s.removeTx o).isJoined = s.isJoined := rfl

@[simp] theorem isActive_removeTx (o : Origin) (s : State) : (s.removeTx o).isActive = s.isActive := rfl

@[simp] theorem isOnLine_removeTx (o : Origin) (s : State) : (s.removeTx o).isOnLine = s.isOnLine := rfl

@[simp] theorem slot_removeTx (o : Origin) (s : State) (g : Handle) : (s.removeTx o).slot g = s.slot g := rfl

@[simp] theorem recOpt_removeTx (o : Origin) (s : State) (g : Handle) : (s.removeTx o).rec? g = s.rec? g := rfl

@[simp] theorem freeCount_removeTx (o : Origin) (s : State) : (s.removeTx o).freeCount = s.freeCount := rfl

@[simp] theorem arrivalQueue_removeTx (o : Origin) (s : State) : (s.removeTx o).arrivalQueue = s.arrivalQueue := rfl

@[simp] theorem pos_removeTx (o : Origin) (s : State) (q' : PosIx) : (s.removeTx o).pos q' = s.pos q' := rfl

@[simp] theorem livePositions_removeTx (o : Origin) (s : State) :
    (s.removeTx o).livePositions = s.livePositions := rfl

@[simp] theorem peer_removeTx (o : Origin) (s : State) (b' : Addr) : (s.removeTx o).peer b' = s.peer b' := rfl

@[simp] theorem attemptByte_removeTx (o : Origin) (s : State) : (s.removeTx o).attemptByte = s.attemptByte := rfl

@[simp] theorem pending_updTx (o : Origin) (f : TxEntry → TxEntry) (s : State) :
    (s.updTx o f).pending = s.pending := rfl

@[simp] theorem pins_updTx (o : Origin) (f : TxEntry → TxEntry) (s : State) : (s.updTx o f).pins = s.pins := rfl

@[simp] theorem conf_updTx (o : Origin) (f : TxEntry → TxEntry) (s : State) : (s.updTx o f).conf = s.conf := rfl

@[simp] theorem ret_updTx (o : Origin) (f : TxEntry → TxEntry) (s : State) : (s.updTx o f).ret = s.ret := rfl

@[simp] theorem port_updTx (o : Origin) (f : TxEntry → TxEntry) (s : State) : (s.updTx o f).port = s.port := rfl

@[simp] theorem staging_updTx (o : Origin) (f : TxEntry → TxEntry) (s : State) :
    (s.updTx o f).staging = s.staging := rfl

@[simp] theorem lbi_updTx (o : Origin) (f : TxEntry → TxEntry) (s : State) :
    (s.updTx o f).lbi = { s.lbi with tx := s.lbi.tx.map fun e => if e.origin = o then f e else e } := rfl

@[simp] theorem mem_updTx (o : Origin) (f : TxEntry → TxEntry) (s : State) : (s.updTx o f).mem = s.mem := rfl

@[simp] theorem bud_updTx (o : Origin) (f : TxEntry → TxEntry) (s : State) : (s.updTx o f).bud = s.bud := rfl

@[simp] theorem store_updTx (o : Origin) (f : TxEntry → TxEntry) (s : State) : (s.updTx o f).store = s.store := rfl

@[simp] theorem seqr_updTx (o : Origin) (f : TxEntry → TxEntry) (s : State) : (s.updTx o f).seqr = s.seqr := rfl

@[simp] theorem bookings_updTx (o : Origin) (f : TxEntry → TxEntry) (s : State) :
    (s.updTx o f).bookings = s.bookings := rfl

@[simp] theorem line_updTx (o : Origin) (f : TxEntry → TxEntry) (s : State) : (s.updTx o f).line = s.line := rfl

@[simp] theorem isJoined_updTx (o : Origin) (f : TxEntry → TxEntry) (s : State) :
    (s.updTx o f).isJoined = s.isJoined := rfl

@[simp] theorem isActive_updTx (o : Origin) (f : TxEntry → TxEntry) (s : State) :
    (s.updTx o f).isActive = s.isActive := rfl

@[simp] theorem isOnLine_updTx (o : Origin) (f : TxEntry → TxEntry) (s : State) :
    (s.updTx o f).isOnLine = s.isOnLine := rfl

@[simp] theorem slot_updTx (o : Origin) (f : TxEntry → TxEntry) (s : State) (g : Handle) :
    (s.updTx o f).slot g = s.slot g := rfl

@[simp] theorem recOpt_updTx (o : Origin) (f : TxEntry → TxEntry) (s : State) (g : Handle) :
    (s.updTx o f).rec? g = s.rec? g := rfl

@[simp] theorem freeCount_updTx (o : Origin) (f : TxEntry → TxEntry) (s : State) :
    (s.updTx o f).freeCount = s.freeCount := rfl

@[simp] theorem arrivalQueue_updTx (o : Origin) (f : TxEntry → TxEntry) (s : State) :
    (s.updTx o f).arrivalQueue = s.arrivalQueue := rfl

@[simp] theorem pos_updTx (o : Origin) (f : TxEntry → TxEntry) (s : State) (q' : PosIx) :
    (s.updTx o f).pos q' = s.pos q' := rfl

@[simp] theorem livePositions_updTx (o : Origin) (f : TxEntry → TxEntry) (s : State) :
    (s.updTx o f).livePositions = s.livePositions := rfl

@[simp] theorem peer_updTx (o : Origin) (f : TxEntry → TxEntry) (s : State) (b' : Addr) :
    (s.updTx o f).peer b' = s.peer b' := rfl

@[simp] theorem attemptByte_updTx (o : Origin) (f : TxEntry → TxEntry) (s : State) :
    (s.updTx o f).attemptByte = s.attemptByte := rfl

@[simp] theorem pending_setInTx (x : InTx) (s : State) : (s.setInTx x).pending = s.pending := rfl

@[simp] theorem pins_setInTx (x : InTx) (s : State) : (s.setInTx x).pins = s.pins := rfl

@[simp] theorem conf_setInTx (x : InTx) (s : State) : (s.setInTx x).conf = s.conf := rfl

@[simp] theorem ret_setInTx (x : InTx) (s : State) : (s.setInTx x).ret = s.ret := rfl

@[simp] theorem port_setInTx (x : InTx) (s : State) : (s.setInTx x).port = s.port := rfl

@[simp] theorem staging_setInTx (x : InTx) (s : State) : (s.setInTx x).staging = s.staging := rfl

@[simp] theorem lbi_setInTx (x : InTx) (s : State) : (s.setInTx x).lbi = { s.lbi with inTx := x } := rfl

@[simp] theorem mem_setInTx (x : InTx) (s : State) : (s.setInTx x).mem = s.mem := rfl

@[simp] theorem bud_setInTx (x : InTx) (s : State) : (s.setInTx x).bud = s.bud := rfl

@[simp] theorem store_setInTx (x : InTx) (s : State) : (s.setInTx x).store = s.store := rfl

@[simp] theorem seqr_setInTx (x : InTx) (s : State) : (s.setInTx x).seqr = s.seqr := rfl

@[simp] theorem bookings_setInTx (x : InTx) (s : State) : (s.setInTx x).bookings = s.bookings := rfl

@[simp] theorem line_setInTx (x : InTx) (s : State) : (s.setInTx x).line = s.line := rfl

@[simp] theorem isJoined_setInTx (x : InTx) (s : State) : (s.setInTx x).isJoined = s.isJoined := rfl

@[simp] theorem isActive_setInTx (x : InTx) (s : State) : (s.setInTx x).isActive = s.isActive := rfl

@[simp] theorem isOnLine_setInTx (x : InTx) (s : State) : (s.setInTx x).isOnLine = s.isOnLine := rfl

@[simp] theorem slot_setInTx (x : InTx) (s : State) (g : Handle) : (s.setInTx x).slot g = s.slot g := rfl

@[simp] theorem recOpt_setInTx (x : InTx) (s : State) (g : Handle) : (s.setInTx x).rec? g = s.rec? g := rfl

@[simp] theorem freeCount_setInTx (x : InTx) (s : State) : (s.setInTx x).freeCount = s.freeCount := rfl

@[simp] theorem arrivalQueue_setInTx (x : InTx) (s : State) : (s.setInTx x).arrivalQueue = s.arrivalQueue := rfl

@[simp] theorem pos_setInTx (x : InTx) (s : State) (q' : PosIx) : (s.setInTx x).pos q' = s.pos q' := rfl

@[simp] theorem livePositions_setInTx (x : InTx) (s : State) : (s.setInTx x).livePositions = s.livePositions := rfl

@[simp] theorem peer_setInTx (x : InTx) (s : State) (b' : Addr) : (s.setInTx x).peer b' = s.peer b' := rfl

@[simp] theorem attemptByte_setInTx (x : InTx) (s : State) : (s.setInTx x).attemptByte = s.attemptByte := rfl

@[simp] theorem pending_restartStall (s : State) : s.restartStall.pending = s.pending := rfl

@[simp] theorem pins_restartStall (s : State) : s.restartStall.pins = s.pins := rfl

@[simp] theorem conf_restartStall (s : State) : s.restartStall.conf = s.conf := rfl

@[simp] theorem ret_restartStall (s : State) : s.restartStall.ret = s.ret := rfl

@[simp] theorem port_restartStall (s : State) : s.restartStall.port = s.port := rfl

@[simp] theorem staging_restartStall (s : State) : s.restartStall.staging = s.staging := rfl

@[simp] theorem lbi_restartStall (s : State) :
    s.restartStall.lbi = { s.lbi with stall := if s.lbi.tx.isEmpty then none else some 0 } := rfl

@[simp] theorem mem_restartStall (s : State) : s.restartStall.mem = s.mem := rfl

@[simp] theorem bud_restartStall (s : State) : s.restartStall.bud = s.bud := rfl

@[simp] theorem store_restartStall (s : State) : s.restartStall.store = s.store := rfl

@[simp] theorem seqr_restartStall (s : State) : s.restartStall.seqr = s.seqr := rfl

@[simp] theorem bookings_restartStall (s : State) : s.restartStall.bookings = s.bookings := rfl

@[simp] theorem line_restartStall (s : State) : s.restartStall.line = s.line := rfl

@[simp] theorem isJoined_restartStall (s : State) : s.restartStall.isJoined = s.isJoined := rfl

@[simp] theorem isActive_restartStall (s : State) : s.restartStall.isActive = s.isActive := rfl

@[simp] theorem isOnLine_restartStall (s : State) : s.restartStall.isOnLine = s.isOnLine := rfl

@[simp] theorem slot_restartStall (s : State) (g : Handle) : s.restartStall.slot g = s.slot g := rfl

@[simp] theorem recOpt_restartStall (s : State) (g : Handle) : s.restartStall.rec? g = s.rec? g := rfl

@[simp] theorem freeCount_restartStall (s : State) : s.restartStall.freeCount = s.freeCount := rfl

@[simp] theorem arrivalQueue_restartStall (s : State) : s.restartStall.arrivalQueue = s.arrivalQueue := rfl

@[simp] theorem pos_restartStall (s : State) (q' : PosIx) : s.restartStall.pos q' = s.pos q' := rfl

@[simp] theorem livePositions_restartStall (s : State) : s.restartStall.livePositions = s.livePositions := rfl

@[simp] theorem peer_restartStall (s : State) (b' : Addr) : s.restartStall.peer b' = s.peer b' := rfl

@[simp] theorem attemptByte_restartStall (s : State) : s.restartStall.attemptByte = s.attemptByte := rfl

@[simp] theorem pending_countClean (s : State) : s.countClean.pending = s.pending := rfl

@[simp] theorem pins_countClean (s : State) : s.countClean.pins = s.pins := rfl

@[simp] theorem conf_countClean (s : State) : s.countClean.conf = s.conf := rfl

@[simp] theorem ret_countClean (s : State) : s.countClean.ret = s.ret := rfl

@[simp] theorem port_countClean (s : State) : s.countClean.port = s.port := rfl

@[simp] theorem staging_countClean (s : State) : s.countClean.staging = s.staging := rfl

@[simp] theorem lbi_countClean (s : State) : s.countClean.lbi = { s.lbi with rxErrors := s.lbi.rxErrors - 1 } := rfl

@[simp] theorem mem_countClean (s : State) : s.countClean.mem = s.mem := rfl

@[simp] theorem bud_countClean (s : State) : s.countClean.bud = s.bud := rfl

@[simp] theorem store_countClean (s : State) : s.countClean.store = s.store := rfl

@[simp] theorem seqr_countClean (s : State) : s.countClean.seqr = s.seqr := rfl

@[simp] theorem bookings_countClean (s : State) : s.countClean.bookings = s.bookings := rfl

@[simp] theorem line_countClean (s : State) : s.countClean.line = s.line := rfl

@[simp] theorem isJoined_countClean (s : State) : s.countClean.isJoined = s.isJoined := rfl

@[simp] theorem isActive_countClean (s : State) : s.countClean.isActive = s.isActive := rfl

@[simp] theorem isOnLine_countClean (s : State) : s.countClean.isOnLine = s.isOnLine := rfl

@[simp] theorem slot_countClean (s : State) (g : Handle) : s.countClean.slot g = s.slot g := rfl

@[simp] theorem recOpt_countClean (s : State) (g : Handle) : s.countClean.rec? g = s.rec? g := rfl

@[simp] theorem freeCount_countClean (s : State) : s.countClean.freeCount = s.freeCount := rfl

@[simp] theorem arrivalQueue_countClean (s : State) : s.countClean.arrivalQueue = s.arrivalQueue := rfl

@[simp] theorem pos_countClean (s : State) (q' : PosIx) : s.countClean.pos q' = s.pos q' := rfl

@[simp] theorem livePositions_countClean (s : State) : s.countClean.livePositions = s.livePositions := rfl

@[simp] theorem peer_countClean (s : State) (b' : Addr) : s.countClean.peer b' = s.peer b' := rfl

@[simp] theorem attemptByte_countClean (s : State) : s.countClean.attemptByte = s.attemptByte := rfl

@[simp] theorem pending_setLine (l : LineState) (s : State) : (s.setLine l).pending = s.pending := rfl

@[simp] theorem pins_setLine (l : LineState) (s : State) : (s.setLine l).pins = s.pins := rfl

@[simp] theorem conf_setLine (l : LineState) (s : State) : (s.setLine l).conf = s.conf := rfl

@[simp] theorem ret_setLine (l : LineState) (s : State) : (s.setLine l).ret = s.ret := rfl

@[simp] theorem port_setLine (l : LineState) (s : State) : (s.setLine l).port = s.port := rfl

@[simp] theorem staging_setLine (l : LineState) (s : State) : (s.setLine l).staging = s.staging := rfl

@[simp] theorem lbi_setLine (l : LineState) (s : State) : (s.setLine l).lbi = s.lbi := rfl

@[simp] theorem mem_setLine (l : LineState) (s : State) : (s.setLine l).mem = { s.mem with line := l } := rfl

@[simp] theorem bud_setLine (l : LineState) (s : State) : (s.setLine l).bud = s.bud := rfl

@[simp] theorem store_setLine (l : LineState) (s : State) : (s.setLine l).store = s.store := rfl

@[simp] theorem seqr_setLine (l : LineState) (s : State) : (s.setLine l).seqr = s.seqr := rfl

@[simp] theorem bookings_setLine (l : LineState) (s : State) : (s.setLine l).bookings = s.bookings := rfl

@[simp] theorem slot_setLine (l : LineState) (s : State) (g : Handle) : (s.setLine l).slot g = s.slot g := rfl

@[simp] theorem recOpt_setLine (l : LineState) (s : State) (g : Handle) : (s.setLine l).rec? g = s.rec? g := rfl

@[simp] theorem freeCount_setLine (l : LineState) (s : State) : (s.setLine l).freeCount = s.freeCount := rfl

@[simp] theorem arrivalQueue_setLine (l : LineState) (s : State) : (s.setLine l).arrivalQueue = s.arrivalQueue := rfl

@[simp] theorem pos_setLine (l : LineState) (s : State) (q' : PosIx) : (s.setLine l).pos q' = s.pos q' := rfl

@[simp] theorem livePositions_setLine (l : LineState) (s : State) :
    (s.setLine l).livePositions = s.livePositions := rfl

@[simp] theorem txEntry_setLine (l : LineState) (s : State) (u : Origin) :
    (s.setLine l).txEntry u = s.txEntry u := rfl

@[simp] theorem txHas_setLine (l : LineState) (s : State) (u : Origin) : (s.setLine l).txHas u = s.txHas u := rfl

@[simp] theorem sending_setLine (l : LineState) (s : State) (u : Origin) :
    (s.setLine l).sending u = s.sending u := rfl

@[simp] theorem txNext_setLine (l : LineState) (s : State) : (s.setLine l).txNext = s.txNext := rfl

@[simp] theorem attemptByte_setLine (l : LineState) (s : State) : (s.setLine l).attemptByte = s.attemptByte := rfl

@[simp] theorem pending_updPeer (a : Addr) (f : Peer → Peer) (s : State) : (s.updPeer a f).pending = s.pending := rfl

@[simp] theorem pins_updPeer (a : Addr) (f : Peer → Peer) (s : State) : (s.updPeer a f).pins = s.pins := rfl

@[simp] theorem conf_updPeer (a : Addr) (f : Peer → Peer) (s : State) : (s.updPeer a f).conf = s.conf := rfl

@[simp] theorem ret_updPeer (a : Addr) (f : Peer → Peer) (s : State) : (s.updPeer a f).ret = s.ret := rfl

@[simp] theorem port_updPeer (a : Addr) (f : Peer → Peer) (s : State) : (s.updPeer a f).port = s.port := rfl

@[simp] theorem staging_updPeer (a : Addr) (f : Peer → Peer) (s : State) : (s.updPeer a f).staging = s.staging := rfl

@[simp] theorem lbi_updPeer (a : Addr) (f : Peer → Peer) (s : State) : (s.updPeer a f).lbi = s.lbi := rfl

@[simp] theorem mem_updPeer (a : Addr) (f : Peer → Peer) (s : State) :
    (s.updPeer a f).mem = { s.mem with peers := s.mem.peers.set a (f s.mem.peers[a]) } := rfl

@[simp] theorem bud_updPeer (a : Addr) (f : Peer → Peer) (s : State) : (s.updPeer a f).bud = s.bud := rfl

@[simp] theorem store_updPeer (a : Addr) (f : Peer → Peer) (s : State) : (s.updPeer a f).store = s.store := rfl

@[simp] theorem seqr_updPeer (a : Addr) (f : Peer → Peer) (s : State) : (s.updPeer a f).seqr = s.seqr := rfl

@[simp] theorem bookings_updPeer (a : Addr) (f : Peer → Peer) (s : State) :
    (s.updPeer a f).bookings = s.bookings := rfl

@[simp] theorem slot_updPeer (a : Addr) (f : Peer → Peer) (s : State) (g : Handle) :
    (s.updPeer a f).slot g = s.slot g := rfl

@[simp] theorem recOpt_updPeer (a : Addr) (f : Peer → Peer) (s : State) (g : Handle) :
    (s.updPeer a f).rec? g = s.rec? g := rfl

@[simp] theorem freeCount_updPeer (a : Addr) (f : Peer → Peer) (s : State) :
    (s.updPeer a f).freeCount = s.freeCount := rfl

@[simp] theorem arrivalQueue_updPeer (a : Addr) (f : Peer → Peer) (s : State) :
    (s.updPeer a f).arrivalQueue = s.arrivalQueue := rfl

@[simp] theorem pos_updPeer (a : Addr) (f : Peer → Peer) (s : State) (q' : PosIx) :
    (s.updPeer a f).pos q' = s.pos q' := rfl

@[simp] theorem livePositions_updPeer (a : Addr) (f : Peer → Peer) (s : State) :
    (s.updPeer a f).livePositions = s.livePositions := rfl

@[simp] theorem txEntry_updPeer (a : Addr) (f : Peer → Peer) (s : State) (u : Origin) :
    (s.updPeer a f).txEntry u = s.txEntry u := rfl

@[simp] theorem txHas_updPeer (a : Addr) (f : Peer → Peer) (s : State) (u : Origin) :
    (s.updPeer a f).txHas u = s.txHas u := rfl

@[simp] theorem sending_updPeer (a : Addr) (f : Peer → Peer) (s : State) (u : Origin) :
    (s.updPeer a f).sending u = s.sending u := rfl

@[simp] theorem txNext_updPeer (a : Addr) (f : Peer → Peer) (s : State) : (s.updPeer a f).txNext = s.txNext := rfl

@[simp] theorem attemptByte_updPeer (a : Addr) (f : Peer → Peer) (s : State) :
    (s.updPeer a f).attemptByte = s.attemptByte := rfl

@[simp] theorem pending_setJoinQueue (l : List Joiner) (s : State) : (s.setJoinQueue l).pending = s.pending := rfl

@[simp] theorem pins_setJoinQueue (l : List Joiner) (s : State) : (s.setJoinQueue l).pins = s.pins := rfl

@[simp] theorem conf_setJoinQueue (l : List Joiner) (s : State) : (s.setJoinQueue l).conf = s.conf := rfl

@[simp] theorem ret_setJoinQueue (l : List Joiner) (s : State) : (s.setJoinQueue l).ret = s.ret := rfl

@[simp] theorem port_setJoinQueue (l : List Joiner) (s : State) : (s.setJoinQueue l).port = s.port := rfl

@[simp] theorem staging_setJoinQueue (l : List Joiner) (s : State) : (s.setJoinQueue l).staging = s.staging := rfl

@[simp] theorem lbi_setJoinQueue (l : List Joiner) (s : State) : (s.setJoinQueue l).lbi = s.lbi := rfl

@[simp] theorem mem_setJoinQueue (l : List Joiner) (s : State) :
    (s.setJoinQueue l).mem = { s.mem with joinQueue := l } := rfl

@[simp] theorem bud_setJoinQueue (l : List Joiner) (s : State) : (s.setJoinQueue l).bud = s.bud := rfl

@[simp] theorem store_setJoinQueue (l : List Joiner) (s : State) : (s.setJoinQueue l).store = s.store := rfl

@[simp] theorem seqr_setJoinQueue (l : List Joiner) (s : State) : (s.setJoinQueue l).seqr = s.seqr := rfl

@[simp] theorem bookings_setJoinQueue (l : List Joiner) (s : State) : (s.setJoinQueue l).bookings = s.bookings := rfl

@[simp] theorem slot_setJoinQueue (l : List Joiner) (s : State) (g : Handle) :
    (s.setJoinQueue l).slot g = s.slot g := rfl

@[simp] theorem recOpt_setJoinQueue (l : List Joiner) (s : State) (g : Handle) :
    (s.setJoinQueue l).rec? g = s.rec? g := rfl

@[simp] theorem freeCount_setJoinQueue (l : List Joiner) (s : State) :
    (s.setJoinQueue l).freeCount = s.freeCount := rfl

@[simp] theorem arrivalQueue_setJoinQueue (l : List Joiner) (s : State) :
    (s.setJoinQueue l).arrivalQueue = s.arrivalQueue := rfl

@[simp] theorem pos_setJoinQueue (l : List Joiner) (s : State) (q' : PosIx) :
    (s.setJoinQueue l).pos q' = s.pos q' := rfl

@[simp] theorem livePositions_setJoinQueue (l : List Joiner) (s : State) :
    (s.setJoinQueue l).livePositions = s.livePositions := rfl

@[simp] theorem txEntry_setJoinQueue (l : List Joiner) (s : State) (u : Origin) :
    (s.setJoinQueue l).txEntry u = s.txEntry u := rfl

@[simp] theorem txHas_setJoinQueue (l : List Joiner) (s : State) (u : Origin) :
    (s.setJoinQueue l).txHas u = s.txHas u := rfl

@[simp] theorem sending_setJoinQueue (l : List Joiner) (s : State) (u : Origin) :
    (s.setJoinQueue l).sending u = s.sending u := rfl

@[simp] theorem txNext_setJoinQueue (l : List Joiner) (s : State) : (s.setJoinQueue l).txNext = s.txNext := rfl

@[simp] theorem attemptByte_setJoinQueue (l : List Joiner) (s : State) :
    (s.setJoinQueue l).attemptByte = s.attemptByte := rfl

@[simp] theorem pending_setIlk (p : PosIx) (level : Bool) (s : State) : (s.setIlk p level).pending = s.pending := rfl

@[simp] theorem pins_setIlk (p : PosIx) (level : Bool) (s : State) :
    (s.setIlk p level).pins = { s.pins with ilk := s.pins.ilk.set p level } := rfl

@[simp] theorem conf_setIlk (p : PosIx) (level : Bool) (s : State) : (s.setIlk p level).conf = s.conf := rfl

@[simp] theorem ret_setIlk (p : PosIx) (level : Bool) (s : State) : (s.setIlk p level).ret = s.ret := rfl

@[simp] theorem port_setIlk (p : PosIx) (level : Bool) (s : State) : (s.setIlk p level).port = s.port := rfl

@[simp] theorem staging_setIlk (p : PosIx) (level : Bool) (s : State) : (s.setIlk p level).staging = s.staging := rfl

@[simp] theorem lbi_setIlk (p : PosIx) (level : Bool) (s : State) : (s.setIlk p level).lbi = s.lbi := rfl

@[simp] theorem mem_setIlk (p : PosIx) (level : Bool) (s : State) : (s.setIlk p level).mem = s.mem := rfl

@[simp] theorem bud_setIlk (p : PosIx) (level : Bool) (s : State) : (s.setIlk p level).bud = s.bud := rfl

@[simp] theorem store_setIlk (p : PosIx) (level : Bool) (s : State) : (s.setIlk p level).store = s.store := rfl

@[simp] theorem seqr_setIlk (p : PosIx) (level : Bool) (s : State) : (s.setIlk p level).seqr = s.seqr := rfl

@[simp] theorem bookings_setIlk (p : PosIx) (level : Bool) (s : State) :
    (s.setIlk p level).bookings = s.bookings := rfl

@[simp] theorem line_setIlk (p : PosIx) (level : Bool) (s : State) : (s.setIlk p level).line = s.line := rfl

@[simp] theorem isJoined_setIlk (p : PosIx) (level : Bool) (s : State) :
    (s.setIlk p level).isJoined = s.isJoined := rfl

@[simp] theorem isActive_setIlk (p : PosIx) (level : Bool) (s : State) :
    (s.setIlk p level).isActive = s.isActive := rfl

@[simp] theorem isOnLine_setIlk (p : PosIx) (level : Bool) (s : State) :
    (s.setIlk p level).isOnLine = s.isOnLine := rfl

@[simp] theorem slot_setIlk (p : PosIx) (level : Bool) (s : State) (g : Handle) :
    (s.setIlk p level).slot g = s.slot g := rfl

@[simp] theorem recOpt_setIlk (p : PosIx) (level : Bool) (s : State) (g : Handle) :
    (s.setIlk p level).rec? g = s.rec? g := rfl

@[simp] theorem freeCount_setIlk (p : PosIx) (level : Bool) (s : State) :
    (s.setIlk p level).freeCount = s.freeCount := rfl

@[simp] theorem arrivalQueue_setIlk (p : PosIx) (level : Bool) (s : State) :
    (s.setIlk p level).arrivalQueue = s.arrivalQueue := rfl

@[simp] theorem pos_setIlk (p : PosIx) (level : Bool) (s : State) (q' : PosIx) :
    (s.setIlk p level).pos q' = s.pos q' := rfl

@[simp] theorem livePositions_setIlk (p : PosIx) (level : Bool) (s : State) :
    (s.setIlk p level).livePositions = s.livePositions := rfl

@[simp] theorem txEntry_setIlk (p : PosIx) (level : Bool) (s : State) (u : Origin) :
    (s.setIlk p level).txEntry u = s.txEntry u := rfl

@[simp] theorem txHas_setIlk (p : PosIx) (level : Bool) (s : State) (u : Origin) :
    (s.setIlk p level).txHas u = s.txHas u := rfl

@[simp] theorem sending_setIlk (p : PosIx) (level : Bool) (s : State) (u : Origin) :
    (s.setIlk p level).sending u = s.sending u := rfl

@[simp] theorem peer_setIlk (p : PosIx) (level : Bool) (s : State) (b' : Addr) :
    (s.setIlk p level).peer b' = s.peer b' := rfl

@[simp] theorem txNext_setIlk (p : PosIx) (level : Bool) (s : State) : (s.setIlk p level).txNext = s.txNext := rfl

@[simp] theorem attemptByte_setIlk (p : PosIx) (level : Bool) (s : State) :
    (s.setIlk p level).attemptByte = s.attemptByte := rfl

@[simp] theorem pending_dropTable (s : State) : s.dropTable.pending = s.pending := rfl

@[simp] theorem pins_dropTable (s : State) : s.dropTable.pins = s.pins := rfl

@[simp] theorem conf_dropTable (s : State) : s.dropTable.conf = s.conf := rfl

@[simp] theorem ret_dropTable (s : State) : s.dropTable.ret = s.ret := rfl

@[simp] theorem port_dropTable (s : State) : s.dropTable.port = s.port := rfl

@[simp] theorem staging_dropTable (s : State) : s.dropTable.staging = s.staging := rfl

@[simp] theorem lbi_dropTable (s : State) : s.dropTable.lbi = s.lbi := rfl

@[simp] theorem mem_dropTable (s : State) : s.dropTable.mem = s.mem := rfl

@[simp] theorem bud_dropTable (s : State) : s.dropTable.bud = BudgetTable.empty := rfl

@[simp] theorem store_dropTable (s : State) : s.dropTable.store = s.store := rfl

@[simp] theorem seqr_dropTable (s : State) : s.dropTable.seqr = s.seqr := rfl

@[simp] theorem bookings_dropTable (s : State) : s.dropTable.bookings = s.bookings := rfl

@[simp] theorem line_dropTable (s : State) : s.dropTable.line = s.line := rfl

@[simp] theorem isJoined_dropTable (s : State) : s.dropTable.isJoined = s.isJoined := rfl

@[simp] theorem isActive_dropTable (s : State) : s.dropTable.isActive = s.isActive := rfl

@[simp] theorem isOnLine_dropTable (s : State) : s.dropTable.isOnLine = s.isOnLine := rfl

@[simp] theorem slot_dropTable (s : State) (g : Handle) : s.dropTable.slot g = s.slot g := rfl

@[simp] theorem recOpt_dropTable (s : State) (g : Handle) : s.dropTable.rec? g = s.rec? g := rfl

@[simp] theorem freeCount_dropTable (s : State) : s.dropTable.freeCount = s.freeCount := rfl

@[simp] theorem arrivalQueue_dropTable (s : State) : s.dropTable.arrivalQueue = s.arrivalQueue := rfl

@[simp] theorem pos_dropTable (s : State) (q' : PosIx) : s.dropTable.pos q' = s.pos q' := rfl

@[simp] theorem livePositions_dropTable (s : State) : s.dropTable.livePositions = s.livePositions := rfl

@[simp] theorem txEntry_dropTable (s : State) (u : Origin) : s.dropTable.txEntry u = s.txEntry u := rfl

@[simp] theorem txHas_dropTable (s : State) (u : Origin) : s.dropTable.txHas u = s.txHas u := rfl

@[simp] theorem sending_dropTable (s : State) (u : Origin) : s.dropTable.sending u = s.sending u := rfl

@[simp] theorem peer_dropTable (s : State) (b' : Addr) : s.dropTable.peer b' = s.peer b' := rfl

@[simp] theorem txNext_dropTable (s : State) : s.dropTable.txNext = s.txNext := rfl

@[simp] theorem attemptByte_dropTable (s : State) : s.dropTable.attemptByte = s.attemptByte := rfl

@[simp] theorem pending_dropClaims (s : State) : s.dropClaims.pending = s.pending := rfl

@[simp] theorem pins_dropClaims (s : State) : s.dropClaims.pins = s.pins := rfl

@[simp] theorem conf_dropClaims (s : State) : s.dropClaims.conf = s.conf := rfl

@[simp] theorem ret_dropClaims (s : State) : s.dropClaims.ret = s.ret := rfl

@[simp] theorem port_dropClaims (s : State) : s.dropClaims.port = s.port := rfl

@[simp] theorem staging_dropClaims (s : State) : s.dropClaims.staging = s.staging := rfl

@[simp] theorem lbi_dropClaims (s : State) : s.dropClaims.lbi = s.lbi := rfl

@[simp] theorem mem_dropClaims (s : State) : s.dropClaims.mem = s.mem := rfl

@[simp] theorem bud_dropClaims (s : State) : s.dropClaims.bud = s.bud := rfl

@[simp] theorem store_dropClaims (s : State) : s.dropClaims.store = s.store := rfl

@[simp] theorem bookings_dropClaims (s : State) : s.dropClaims.bookings = s.bookings := rfl

@[simp] theorem line_dropClaims (s : State) : s.dropClaims.line = s.line := rfl

@[simp] theorem isJoined_dropClaims (s : State) : s.dropClaims.isJoined = s.isJoined := rfl

@[simp] theorem isActive_dropClaims (s : State) : s.dropClaims.isActive = s.isActive := rfl

@[simp] theorem isOnLine_dropClaims (s : State) : s.dropClaims.isOnLine = s.isOnLine := rfl

@[simp] theorem slot_dropClaims (s : State) (g : Handle) : s.dropClaims.slot g = s.slot g := rfl

@[simp] theorem recOpt_dropClaims (s : State) (g : Handle) : s.dropClaims.rec? g = s.rec? g := rfl

@[simp] theorem freeCount_dropClaims (s : State) : s.dropClaims.freeCount = s.freeCount := rfl

@[simp] theorem arrivalQueue_dropClaims (s : State) : s.dropClaims.arrivalQueue = s.arrivalQueue := rfl

@[simp] theorem livePositions_dropClaims (s : State) : s.dropClaims.livePositions = s.livePositions := rfl

@[simp] theorem txEntry_dropClaims (s : State) (u : Origin) : s.dropClaims.txEntry u = s.txEntry u := rfl

@[simp] theorem txHas_dropClaims (s : State) (u : Origin) : s.dropClaims.txHas u = s.txHas u := rfl

@[simp] theorem sending_dropClaims (s : State) (u : Origin) : s.dropClaims.sending u = s.sending u := rfl

@[simp] theorem peer_dropClaims (s : State) (b' : Addr) : s.dropClaims.peer b' = s.peer b' := rfl

@[simp] theorem txNext_dropClaims (s : State) : s.dropClaims.txNext = s.txNext := rfl

@[simp] theorem attemptByte_dropClaims (s : State) : s.dropClaims.attemptByte = s.attemptByte := rfl

@[simp] theorem pending_invalidate (s : State) : s.invalidate.pending = s.pending := rfl

@[simp] theorem pins_invalidate (s : State) : s.invalidate.pins = s.pins := rfl

@[simp] theorem conf_invalidate (s : State) : s.invalidate.conf = s.conf := rfl

@[simp] theorem ret_invalidate (s : State) : s.invalidate.ret = { s.ret with valid := false } := rfl

@[simp] theorem port_invalidate (s : State) : s.invalidate.port = s.port := rfl

@[simp] theorem staging_invalidate (s : State) : s.invalidate.staging = s.staging := rfl

@[simp] theorem lbi_invalidate (s : State) : s.invalidate.lbi = s.lbi := rfl

@[simp] theorem mem_invalidate (s : State) : s.invalidate.mem = s.mem := rfl

@[simp] theorem bud_invalidate (s : State) : s.invalidate.bud = s.bud := rfl

@[simp] theorem store_invalidate (s : State) : s.invalidate.store = s.store := rfl

@[simp] theorem seqr_invalidate (s : State) : s.invalidate.seqr = s.seqr := rfl

@[simp] theorem bookings_invalidate (s : State) : s.invalidate.bookings = s.bookings := rfl

@[simp] theorem line_invalidate (s : State) : s.invalidate.line = s.line := rfl

@[simp] theorem isJoined_invalidate (s : State) : s.invalidate.isJoined = s.isJoined := rfl

@[simp] theorem isActive_invalidate (s : State) : s.invalidate.isActive = s.isActive := rfl

@[simp] theorem isOnLine_invalidate (s : State) : s.invalidate.isOnLine = s.isOnLine := rfl

@[simp] theorem slot_invalidate (s : State) (g : Handle) : s.invalidate.slot g = s.slot g := rfl

@[simp] theorem recOpt_invalidate (s : State) (g : Handle) : s.invalidate.rec? g = s.rec? g := rfl

@[simp] theorem freeCount_invalidate (s : State) : s.invalidate.freeCount = s.freeCount := rfl

@[simp] theorem arrivalQueue_invalidate (s : State) : s.invalidate.arrivalQueue = s.arrivalQueue := rfl

@[simp] theorem pos_invalidate (s : State) (q' : PosIx) : s.invalidate.pos q' = s.pos q' := rfl

@[simp] theorem livePositions_invalidate (s : State) : s.invalidate.livePositions = s.livePositions := rfl

@[simp] theorem txEntry_invalidate (s : State) (u : Origin) : s.invalidate.txEntry u = s.txEntry u := rfl

@[simp] theorem txHas_invalidate (s : State) (u : Origin) : s.invalidate.txHas u = s.txHas u := rfl

@[simp] theorem sending_invalidate (s : State) (u : Origin) : s.invalidate.sending u = s.sending u := rfl

@[simp] theorem peer_invalidate (s : State) (b' : Addr) : s.invalidate.peer b' = s.peer b' := rfl

@[simp] theorem txNext_invalidate (s : State) : s.invalidate.txNext = s.txNext := rfl

@[simp] theorem attemptByte_invalidate (s : State) : s.invalidate.attemptByte = s.attemptByte := rfl

@[simp] theorem freeCount_setSlot (h : Handle) (x : Slot) (s : State) : (s.setSlot h x).freeCount = s.freeCount := rfl

@[simp] theorem arrivalQueue_setSlot (h : Handle) (x : Slot) (s : State) : (s.setSlot h x).arrivalQueue = s.arrivalQueue := rfl

@[simp] theorem attemptByte_setSlot (h : Handle) (x : Slot) (s : State) : (s.setSlot h x).attemptByte = s.attemptByte := rfl

@[simp] theorem freeCount_setRec (h : Handle) (r : Record) (s : State) : (s.setRec h r).freeCount = s.freeCount := rfl

@[simp] theorem arrivalQueue_setRec (h : Handle) (r : Record) (s : State) : (s.setRec h r).arrivalQueue = s.arrivalQueue := rfl

@[simp] theorem attemptByte_setRec (h : Handle) (r : Record) (s : State) : (s.setRec h r).attemptByte = s.attemptByte := rfl

@[simp] theorem freeCount_setWaits (h : Handle) (ws : List SlotWait) (s : State) : (s.setWaits h ws).freeCount = s.freeCount := rfl

@[simp] theorem arrivalQueue_setWaits (h : Handle) (ws : List SlotWait) (s : State) : (s.setWaits h ws).arrivalQueue = s.arrivalQueue := rfl

@[simp] theorem attemptByte_setWaits (h : Handle) (ws : List SlotWait) (s : State) : (s.setWaits h ws).attemptByte = s.attemptByte := rfl

@[simp] theorem line_updPeer (a : Addr) (f : Peer → Peer) (s : State) : (s.updPeer a f).line = s.line := rfl

@[simp] theorem isJoined_updPeer (a : Addr) (f : Peer → Peer) (s : State) : (s.updPeer a f).isJoined = s.isJoined := rfl

@[simp] theorem isActive_updPeer (a : Addr) (f : Peer → Peer) (s : State) : (s.updPeer a f).isActive = s.isActive := rfl

@[simp] theorem isOnLine_updPeer (a : Addr) (f : Peer → Peer) (s : State) : (s.updPeer a f).isOnLine = s.isOnLine := rfl

@[simp] theorem line_setJoinQueue (l : List Joiner) (s : State) : (s.setJoinQueue l).line = s.line := rfl

@[simp] theorem isJoined_setJoinQueue (l : List Joiner) (s : State) : (s.setJoinQueue l).isJoined = s.isJoined := rfl

@[simp] theorem isActive_setJoinQueue (l : List Joiner) (s : State) : (s.setJoinQueue l).isActive = s.isActive := rfl

@[simp] theorem isOnLine_setJoinQueue (l : List Joiner) (s : State) : (s.setJoinQueue l).isOnLine = s.isOnLine := rfl

@[simp] theorem txEntry_setInTx (x : InTx) (s : State) (u : Origin) : (s.setInTx x).txEntry u = s.txEntry u := rfl

@[simp] theorem txHas_setInTx (x : InTx) (s : State) (u : Origin) : (s.setInTx x).txHas u = s.txHas u := rfl

@[simp] theorem txNext_setInTx (x : InTx) (s : State) : (s.setInTx x).txNext = s.txNext := rfl

@[simp] theorem txEntry_restartStall (s : State) (u : Origin) : s.restartStall.txEntry u = s.txEntry u := rfl

@[simp] theorem txHas_restartStall (s : State) (u : Origin) : s.restartStall.txHas u = s.txHas u := rfl

@[simp] theorem txNext_restartStall (s : State) : s.restartStall.txNext = s.txNext := rfl

@[simp] theorem txEntry_countClean (s : State) (u : Origin) : s.countClean.txEntry u = s.txEntry u := rfl

@[simp] theorem txHas_countClean (s : State) (u : Origin) : s.countClean.txHas u = s.txHas u := rfl

@[simp] theorem txNext_countClean (s : State) : s.countClean.txNext = s.txNext := rfl

/-! ### Reads of what was written -/

theorem slot_setSlot (g h : Handle) (x : Slot) (s : State) : (s.setSlot h x).slot g = if h = g then x else s.slot g := by
  simp only [State.slot, State.setSlot, Fin.getElem_fin, Vector.getElem_set, Fin.ext_iff]

@[simp] theorem slot_setSlot_same (h : Handle) (x : Slot) (s : State) : (s.setSlot h x).slot h = x := by
  simp [slot_setSlot]

theorem slot_setRec (g h : Handle) (r : Record) (s : State) :
    (s.setRec h r).slot g = if h = g then { s.slot h with state := .inUse r } else s.slot g := slot_setSlot g h _ s

@[simp] theorem recOpt_setRec_same (h : Handle) (r : Record) (s : State) : (s.setRec h r).rec? h = some r := by
  simp [State.rec?, slot_setRec]

theorem recOpt_setRec_ne (g h : Handle) (r : Record) (s : State) (n : h ≠ g) : (s.setRec h r).rec? g = s.rec? g := by
  simp [State.rec?, slot_setRec, n]

@[simp] theorem recOpt_setWaits (g h : Handle) (ws : List SlotWait) (s : State) : (s.setWaits h ws).rec? g = s.rec? g := by
  by_cases e : h = g
  · subst e; simp [State.rec?, State.setWaits]
  · simp [State.rec?, State.setWaits, slot_setSlot, e]

@[simp] theorem waits_setRec (g h : Handle) (r : Record) (s : State) :
    ((s.setRec h r).slot g).waits = (s.slot g).waits := by
  simp only [slot_setRec]
  split
  · rename_i e; subst e; rfl
  · rfl

theorem pos_updPos (p q : PosIx) (f : Position → Position) (s : State) :
    (s.updPos p f).pos q = if p = q then f (s.pos p) else s.pos q := by
  simp only [State.pos, State.updPos, Fin.getElem_fin, Vector.getElem_set, Fin.ext_iff]

@[simp] theorem pos_updPos_same (p : PosIx) (f : Position → Position) (s : State) : (s.updPos p f).pos p = f (s.pos p) := by
  simp [pos_updPos]

theorem pos_updPos_ne (p q : PosIx) (f : Position → Position) (s : State) (n : p ≠ q) : (s.updPos p f).pos q = s.pos q := by
  simp [pos_updPos, n]

theorem peer_updPeer (a b : Addr) (f : Peer → Peer) (s : State) :
    (s.updPeer a f).peer b = if a = b then f (s.peer a) else s.peer b := by
  simp only [State.peer, State.updPeer, Fin.getElem_fin, Vector.getElem_set, Fin.ext_iff]

@[simp] theorem peer_updPeer_same (a : Addr) (f : Peer → Peer) (s : State) : (s.updPeer a f).peer a = f (s.peer a) := by
  simp [peer_updPeer]

@[simp] theorem pending_countAppeared (k : FrameKind) (a : Addr) (s : State) :
    (s.countAppeared k a).pending = s.pending := by
  unfold State.countAppeared; split <;> rfl

@[simp] theorem pins_countAppeared (k : FrameKind) (a : Addr) (s : State) :
    (s.countAppeared k a).pins = s.pins := by
  unfold State.countAppeared; split <;> rfl

@[simp] theorem conf_countAppeared (k : FrameKind) (a : Addr) (s : State) :
    (s.countAppeared k a).conf = s.conf := by
  unfold State.countAppeared; split <;> rfl

@[simp] theorem ret_countAppeared (k : FrameKind) (a : Addr) (s : State) :
    (s.countAppeared k a).ret = s.ret := by
  unfold State.countAppeared; split <;> rfl

@[simp] theorem port_countAppeared (k : FrameKind) (a : Addr) (s : State) :
    (s.countAppeared k a).port = s.port := by
  unfold State.countAppeared; split <;> rfl

@[simp] theorem staging_countAppeared (k : FrameKind) (a : Addr) (s : State) :
    (s.countAppeared k a).staging = s.staging := by
  unfold State.countAppeared; split <;> rfl

@[simp] theorem lbi_countAppeared (k : FrameKind) (a : Addr) (s : State) :
    (s.countAppeared k a).lbi =
    { s.lbi with rxErrors := if k = .join ∧ a = s.conf.address then 0 else s.lbi.rxErrors - 1 } := by
  unfold State.countAppeared; split <;> rfl

@[simp] theorem mem_countAppeared (k : FrameKind) (a : Addr) (s : State) :
    (s.countAppeared k a).mem = s.mem := by
  unfold State.countAppeared; split <;> rfl

@[simp] theorem bud_countAppeared (k : FrameKind) (a : Addr) (s : State) :
    (s.countAppeared k a).bud = s.bud := by
  unfold State.countAppeared; split <;> rfl

@[simp] theorem store_countAppeared (k : FrameKind) (a : Addr) (s : State) :
    (s.countAppeared k a).store = s.store := by
  unfold State.countAppeared; split <;> rfl

@[simp] theorem seqr_countAppeared (k : FrameKind) (a : Addr) (s : State) :
    (s.countAppeared k a).seqr = s.seqr := by
  unfold State.countAppeared; split <;> rfl

@[simp] theorem bookings_countAppeared (k : FrameKind) (a : Addr) (s : State) :
    (s.countAppeared k a).bookings = s.bookings := by
  unfold State.countAppeared; split <;> rfl

@[simp] theorem line_countAppeared (k : FrameKind) (a : Addr) (s : State) :
    (s.countAppeared k a).line = s.line := by
  unfold State.countAppeared; split <;> rfl

@[simp] theorem isJoined_countAppeared (k : FrameKind) (a : Addr) (s : State) :
    (s.countAppeared k a).isJoined = s.isJoined := by
  unfold State.countAppeared; split <;> rfl

@[simp] theorem isActive_countAppeared (k : FrameKind) (a : Addr) (s : State) :
    (s.countAppeared k a).isActive = s.isActive := by
  unfold State.countAppeared; split <;> rfl

@[simp] theorem isOnLine_countAppeared (k : FrameKind) (a : Addr) (s : State) :
    (s.countAppeared k a).isOnLine = s.isOnLine := by
  unfold State.countAppeared; split <;> rfl

@[simp] theorem slot_countAppeared (k : FrameKind) (a : Addr) (s : State) (g : Handle) :
    (s.countAppeared k a).slot g = s.slot g := by
  unfold State.countAppeared; split <;> rfl

@[simp] theorem recOpt_countAppeared (k : FrameKind) (a : Addr) (s : State) (g : Handle) :
    (s.countAppeared k a).rec? g = s.rec? g := by
  unfold State.countAppeared; split <;> rfl

@[simp] theorem freeCount_countAppeared (k : FrameKind) (a : Addr) (s : State) :
    (s.countAppeared k a).freeCount = s.freeCount := by
  unfold State.countAppeared; split <;> rfl

@[simp] theorem arrivalQueue_countAppeared (k : FrameKind) (a : Addr) (s : State) :
    (s.countAppeared k a).arrivalQueue = s.arrivalQueue := by
  unfold State.countAppeared; split <;> rfl

@[simp] theorem pos_countAppeared (k : FrameKind) (a : Addr) (s : State) (q' : PosIx) :
    (s.countAppeared k a).pos q' = s.pos q' := by
  unfold State.countAppeared; split <;> rfl

@[simp] theorem livePositions_countAppeared (k : FrameKind) (a : Addr) (s : State) :
    (s.countAppeared k a).livePositions = s.livePositions := by
  unfold State.countAppeared; split <;> rfl

@[simp] theorem peer_countAppeared (k : FrameKind) (a : Addr) (s : State) (b' : Addr) :
    (s.countAppeared k a).peer b' = s.peer b' := by
  unfold State.countAppeared; split <;> rfl

@[simp] theorem attemptByte_countAppeared (k : FrameKind) (a : Addr) (s : State) :
    (s.countAppeared k a).attemptByte = s.attemptByte := by
  unfold State.countAppeared; split <;> rfl

@[simp] theorem txEntry_countAppeared (k : FrameKind) (a : Addr) (s : State) (u : Origin) :
    (s.countAppeared k a).txEntry u = s.txEntry u := by
  unfold State.countAppeared; split <;> rfl

@[simp] theorem txHas_countAppeared (k : FrameKind) (a : Addr) (s : State) (u : Origin) :
    (s.countAppeared k a).txHas u = s.txHas u := by
  unfold State.countAppeared; split <;> rfl

@[simp] theorem txNext_countAppeared (k : FrameKind) (a : Addr) (s : State) :
    (s.countAppeared k a).txNext = s.txNext := by
  unfold State.countAppeared; split <;> rfl

@[simp] theorem pending_endTransaction (s : State) : s.endTransaction.pending = s.pending := rfl

@[simp] theorem pins_endTransaction (s : State) : s.endTransaction.pins = s.pins := rfl

@[simp] theorem conf_endTransaction (s : State) : s.endTransaction.conf = s.conf := rfl

@[simp] theorem ret_endTransaction (s : State) : s.endTransaction.ret = s.ret := rfl

@[simp] theorem port_endTransaction (s : State) : s.endTransaction.port = { s.port with shift := ShiftPath.rest } := rfl

@[simp] theorem staging_endTransaction (s : State) : s.endTransaction.staging = s.staging := rfl

@[simp] theorem lbi_endTransaction (s : State) : s.endTransaction.lbi = s.lbi := rfl

@[simp] theorem mem_endTransaction (s : State) : s.endTransaction.mem = s.mem := rfl

@[simp] theorem bud_endTransaction (s : State) : s.endTransaction.bud = s.bud := rfl

@[simp] theorem store_endTransaction (s : State) : s.endTransaction.store = s.store := rfl

@[simp] theorem seqr_endTransaction (s : State) : s.endTransaction.seqr = s.seqr := rfl

@[simp] theorem bookings_endTransaction (s : State) : s.endTransaction.bookings = s.bookings := rfl

@[simp] theorem line_endTransaction (s : State) : s.endTransaction.line = s.line := rfl

@[simp] theorem isJoined_endTransaction (s : State) : s.endTransaction.isJoined = s.isJoined := rfl

@[simp] theorem isActive_endTransaction (s : State) : s.endTransaction.isActive = s.isActive := rfl

@[simp] theorem isOnLine_endTransaction (s : State) : s.endTransaction.isOnLine = s.isOnLine := rfl

@[simp] theorem slot_endTransaction (s : State) (g : Handle) : s.endTransaction.slot g = s.slot g := rfl

@[simp] theorem recOpt_endTransaction (s : State) (g : Handle) : s.endTransaction.rec? g = s.rec? g := rfl

@[simp] theorem freeCount_endTransaction (s : State) : s.endTransaction.freeCount = s.freeCount := rfl

@[simp] theorem arrivalQueue_endTransaction (s : State) : s.endTransaction.arrivalQueue = s.arrivalQueue := rfl

@[simp] theorem pos_endTransaction (s : State) (q' : PosIx) : s.endTransaction.pos q' = s.pos q' := rfl

@[simp] theorem livePositions_endTransaction (s : State) : s.endTransaction.livePositions = s.livePositions := rfl

@[simp] theorem txEntry_endTransaction (s : State) (u : Origin) : s.endTransaction.txEntry u = s.txEntry u := rfl

@[simp] theorem txHas_endTransaction (s : State) (u : Origin) : s.endTransaction.txHas u = s.txHas u := rfl

@[simp] theorem sending_endTransaction (s : State) (u : Origin) : s.endTransaction.sending u = s.sending u := rfl

@[simp] theorem peer_endTransaction (s : State) (b' : Addr) : s.endTransaction.peer b' = s.peer b' := rfl

@[simp] theorem txNext_endTransaction (s : State) : s.endTransaction.txNext = s.txNext := rfl

@[simp] theorem attemptByte_endTransaction (s : State) : s.endTransaction.attemptByte = s.attemptByte := rfl

end Sys2Proof.Machine
end

