-- ==== Sys2Proof/Laws/Still.lean ====
section
/-! SUPPORT. What no operation of the blocks touches: `still`, with one lemma per operation. Only the port, the retention store, the configuration commands and the code comparison change a part of it, and each of those says so in its own statement. -/

namespace Sys2Proof.Machine

/-- The queue, the pins, the configuration, the retention store, the staging buffer, the attempt count, and the port's
responses and CRC error count. -/
def State.still (s : State) :
    List Instr × Pins × Configuration × Retention × Memory × Nat × Response × Option Response × Nat :=
  (s.pending, s.pins, s.conf, s.ret, s.staging, s.store.attempts, s.port.prepared, s.port.delivered, s.port.crcErrors)

@[simp] theorem still_mk (a b c d e f g h i j k l) : (State.mk a b c d e f g h i j k l).still =
    (a, b, c, d, f, j.attempts, e.prepared, e.delivered, e.crcErrors) := rfl

@[simp] theorem still_eta (s : State) :
    (s.pending, s.pins, s.conf, s.ret, s.staging, s.store.attempts, s.port.prepared, s.port.delivered, s.port.crcErrors)
      = s.still := rfl

@[simp] theorem still_ite (c : Prop) [Decidable c] (x y : State) :
    (if c then x else y).still = if c then x.still else y.still := by
  split <;> rfl

@[simp] theorem still_foldl {α} (f : State → α → State) (hf : ∀ s a, (f s a).still = s.still) (l : List α) (s : State) :
    (l.foldl f s).still = s.still := by
  induction l generalizing s with
  | nil => rfl
  | cons a l ih => simp [ih, hf]


@[simp] theorem still_setSlot (h : Handle) (x : Slot) (s : State) : (State.setSlot h x s).still = s.still := by
  simp [State.setSlot]

@[simp] theorem still_setRec (h : Handle) (r : Record) (s : State) : (State.setRec h r s).still = s.still := by
  simp [State.setRec]

@[simp] theorem still_updRec (h : Handle) (f : Record → Record) (s : State) :
    (State.updRec h f s).still = s.still := by
  simp only [State.updRec]
  repeat' split
  all_goals simp

@[simp] theorem still_setWaits (h : Handle) (ws : List SlotWait) (s : State) :
    (State.setWaits h ws s).still = s.still := by
  simp [State.setWaits]

@[simp] theorem still_freeSlot (h : Handle) (s : State) : (State.freeSlot h s).still = s.still := by
  simp [State.freeSlot]

@[simp] theorem still_enqueue (h : Handle) (rush : Bool) (s : State) : (State.enqueue h rush s).still = s.still := by
  simp only [State.enqueue]
  repeat' split
  all_goals simp

@[simp] theorem still_unqueue (h : Handle) (s : State) : (State.unqueue h s).still = s.still := by
  simp [State.unqueue]

@[simp] theorem still_updPos (p : PosIx) (f : Position → Position) (s : State) :
    (State.updPos p f s).still = s.still := by
  simp [State.updPos]

@[simp] theorem still_vacate (p : PosIx) (st : PosState) (s : State) : (State.vacate p st s).still = s.still := by
  simp [State.vacate]

@[simp] theorem still_vacateOpt (p : Option PosIx) (st : PosState) (s : State) :
    (State.vacate? p st s).still = s.still := by
  simp only [State.vacate?]
  repeat' split
  all_goals simp

@[simp] theorem still_alarm (f : Alarms → Alarms) (s : State) : (State.alarm f s).still = s.still := by
  simp [State.alarm]

@[simp] theorem still_post (e : Event) (s : State) : (State.post e s).still = s.still := by
  simp only [State.post]
  repeat' split
  all_goals simp

@[simp] theorem still_postLineState (c : Cause) (s : State) : (State.postLineState c s).still = s.still := by
  simp [State.postLineState]

@[simp] theorem still_queueFrame (o : Origin) (f : Frame) (s : State) : (State.queueFrame o f s).still = s.still := by
  simp only [State.queueFrame]
  repeat' split
  all_goals simp

@[simp] theorem still_setTx (l : List TxEntry) (s : State) : (State.setTx l s).still = s.still := by
  simp only [State.setTx]
  repeat' split
  all_goals simp

@[simp] theorem still_removeTx (o : Origin) (s : State) : (State.removeTx o s).still = s.still := by
  simp [State.removeTx]

@[simp] theorem still_updTx (o : Origin) (f : TxEntry → TxEntry) (s : State) :
    (State.updTx o f s).still = s.still := by
  simp [State.updTx]

@[simp] theorem still_withdrawTx (o : Origin) (s : State) : (State.withdrawTx o s).still = s.still := by
  simp only [State.withdrawTx]
  repeat' split
  all_goals simp

@[simp] theorem still_replaceTx (o : Origin) (f : Frame) (s : State) : (State.replaceTx o f s).still = s.still := by
  simp only [State.replaceTx]
  repeat' split
  all_goals simp

@[simp] theorem still_queueOrReplace (o : Origin) (f : Frame) (s : State) :
    (State.queueOrReplace o f s).still = s.still := by
  simp only [State.queueOrReplace]
  repeat' split
  all_goals simp

@[simp] theorem still_clearTx (s : State) : (State.clearTx s).still = s.still := by
  simp only [State.clearTx]
  repeat' split
  all_goals simp

@[simp] theorem still_queueAnswer (f : Frame) (s : State) : (State.queueAnswer f s).still = s.still := by
  simp only [State.queueAnswer]
  repeat' split
  all_goals simp

@[simp] theorem still_withdrawAnswers (cond : Frame → Bool) (s : State) :
    (State.withdrawAnswers cond s).still = s.still := by
  simp only [State.withdrawAnswers]
  apply still_foldl
  intro s i
  repeat' split
  all_goals simp

@[simp] theorem still_judgeSlots (s : State) : (State.judgeSlots s).still = s.still := by
  simp only [State.judgeSlots]
  repeat' split
  all_goals simp

@[simp] theorem still_setClaim (p : PosIx) (c : ClaimState) (s : State) : (State.setClaim p c s).still = s.still := by
  simp [State.setClaim]

@[simp] theorem still_setRemembered (p : PosIx) (b : Bool) (s : State) :
    (State.setRemembered p b s).still = s.still := by
  simp [State.setRemembered]

@[simp] theorem still_queueClaim (p : PosIx) (s : State) : (State.queueClaim p s).still = s.still := by
  simp [State.queueClaim]

@[simp] theorem still_askClaim (p : PosIx) (s : State) : (State.askClaim p s).still = s.still := by
  simp only [State.askClaim]
  repeat' split
  all_goals simp

@[simp] theorem still_queueRelease (p : PosIx) (s : State) : (State.queueRelease p s).still = s.still := by
  simp [State.queueRelease]

@[simp] theorem still_giveUpClaim (p : PosIx) (s : State) : (State.giveUpClaim p s).still = s.still := by
  simp only [State.giveUpClaim]
  repeat' split
  all_goals simp

@[simp] theorem still_giveUpClaimOpt (p : Option PosIx) (s : State) : (State.giveUpClaim? p s).still = s.still := by
  simp only [State.giveUpClaim?]
  repeat' split
  all_goals simp

@[simp] theorem still_claimWithdrawn (p : PosIx) (s : State) : (State.claimWithdrawn p s).still = s.still := by
  simp only [State.claimWithdrawn]
  repeat' split
  all_goals simp

@[simp] theorem still_dropClaims (s : State) : (State.dropClaims s).still = s.still := by
  simp [State.dropClaims]

@[simp] theorem still_pumpWaits (h : Handle) (ws : List SlotWait) (s : State) :
    (State.pumpWaits h ws s).still = s.still := by
  induction ws generalizing s with
  | nil => simp [State.pumpWaits]
  | cons w ws ih => simp only [State.pumpWaits]; split <;> simp [ih]

@[simp] theorem still_pumpSlot (h : Handle) (s : State) : (State.pumpSlot h s).still = s.still := by
  simp only [State.pumpSlot]
  repeat' split
  all_goals simp

@[simp] theorem still_sendSlot (h : Handle) (w : SlotWait) (s : State) : (State.sendSlot h w s).still = s.still := by
  simp [State.sendSlot]

@[simp] theorem still_dropWaits (h : Handle) (w : SlotWait) (s : State) :
    (State.dropWaits h w s).still = s.still := by
  simp [State.dropWaits]

@[simp] theorem still_withdrawSlot (h : Handle) (k : FrameKind) (s : State) :
    (State.withdrawSlot h k s).still = s.still := by
  simp only [State.withdrawSlot]
  repeat' split
  all_goals simp

@[simp] theorem still_roundFrom (h : Handle) (k : Nat) (s : State) : (State.roundFrom h k s).still = s.still := by
  simp only [State.roundFrom]
  repeat' split
  all_goals simp

@[simp] theorem still_startRound (h : Handle) (s : State) : (State.startRound h s).still = s.still := by
  simp only [State.startRound]
  repeat' split
  all_goals simp

@[simp] theorem still_withdrawBooks (h : Handle) (s : State) : (State.withdrawBooks h s).still = s.still := by
  simp [State.withdrawBooks]

@[simp] theorem still_failCandidate (h : Handle) (s : State) : (State.failCandidate h s).still = s.still := by
  simp only [State.failCandidate]
  repeat' split
  all_goals simp

@[simp] theorem still_sendRenewal (h : Handle) (s : State) : (State.sendRenewal h s).still = s.still := by
  simp only [State.sendRenewal]
  repeat' split
  all_goals simp

@[simp] theorem still_endBooking (h : Handle) (s : State) : (State.endBooking h s).still = s.still := by
  simp only [State.endBooking]
  repeat' split
  all_goals simp

@[simp] theorem still_startTransfer (h : Handle) (s : State) : (State.startTransfer h s).still = s.still := by
  simp only [State.startTransfer]
  repeat' split
  all_goals simp

@[simp] theorem still_stopTransfer (h : Handle) (s : State) : (State.stopTransfer h s).still = s.still := by
  simp [State.stopTransfer]

@[simp] theorem still_placeOne (s : State) : (State.placeOne s).still = s.still := by
  simp only [State.placeOne]
  repeat' split
  all_goals simp

@[simp] theorem still_placement (s : State) : (State.placement s).still = s.still := by
  exact still_foldl _ (fun s _ => still_placeOne s) positions s

@[simp] theorem still_stopPositionOpt (p : Option PosIx) (s : State) : (State.stopPosition? p s).still = s.still := by
  simp only [State.stopPosition?]
  repeat' split
  all_goals simp

@[simp] theorem still_enterHeld (h : Handle) (k : DevKind) (v : BitVec 24) (leaves : Bool) (s : State) :
    (State.enterHeld h k v leaves s).still = s.still := by
  simp only [State.enterHeld]
  repeat' split
  all_goals simp

@[simp] theorem still_checkGap (h : Handle) (s : State) : (State.checkGap h s).still = s.still := by
  simp only [State.checkGap]
  repeat' split
  all_goals simp

@[simp] theorem still_judgeReady (h : Handle) (s : State) : (State.judgeReady h s).still = s.still := by
  simp only [State.judgeReady]
  repeat' split
  all_goals simp

@[simp] theorem still_enterChecked (h : Handle) (st : RecState) (s : State) :
    (State.enterChecked h st s).still = s.still := by
  simp [State.enterChecked]

@[simp] theorem still_enterLoaded (h : Handle) (s : State) : (State.enterLoaded h s).still = s.still := by
  simp [State.enterLoaded]

@[simp] theorem still_enterEnded (h : Handle) (s : State) : (State.enterEnded h s).still = s.still := by
  simp only [State.enterEnded]
  repeat' split
  all_goals simp

@[simp] theorem still_startStep (p : PosIx) (h : Handle) (s : State) : (State.startStep p h s).still = s.still := by
  simp only [State.startStep]
  repeat' split
  all_goals simp

@[simp] theorem still_tellGrant (p : PosIx) (s : State) : (State.tellGrant p s).still = s.still := by
  simp only [State.tellGrant]
  repeat' split
  all_goals simp

@[simp] theorem still_endStep (p : PosIx) (h : Handle) (s : State) : (State.endStep p h s).still = s.still := by
  simp only [State.endStep]
  repeat' split
  all_goals simp

@[simp] theorem still_stepFault (p : PosIx) (h : Handle) (k : DevKind) (v : BitVec 24) (s : State) :
    (State.stepFault p h k v s).still = s.still := by
  simp [State.stepFault]

@[simp] theorem still_dropBooking (h : Handle) (s : State) : (State.dropBooking h s).still = s.still := by
  simp only [State.dropBooking]
  repeat' split
  all_goals simp

@[simp] theorem still_tellEntry (s : State) (e : ClaimEntry) : (State.tellEntry s e).still = s.still := by
  simp only [State.tellEntry]
  repeat' split
  all_goals simp

@[simp] theorem still_tellGrants (l : List ClaimEntry) (s : State) : (State.tellGrants l s).still = s.still := by
  exact still_foldl _ still_tellEntry l s

@[simp] theorem still_reportOversize (p : PosIx) (b : BudgetIx) (s : State) :
    (State.reportOversize p b s).still = s.still := by
  simp only [State.reportOversize]
  repeat' split
  all_goals simp

@[simp] theorem still_claimStands (p : PosIx) (st : ClaimState) (s : State) :
    (State.claimStands p st s).still = s.still := by
  simp only [State.claimStands]
  repeat' split
  all_goals simp

@[simp] theorem still_ownClaim (payload : List Byte) (c : ClaimOutcome) (s : State) :
    (State.ownClaim payload c s).still = s.still := by
  simp only [State.ownClaim]
  repeat' split
  all_goals simp

@[simp] theorem still_ownRelease (payload : List Byte) (s : State) :
    (State.ownRelease payload s).still = s.still := by
  simp only [State.ownRelease]
  repeat' split
  all_goals simp

@[simp] theorem still_ownRemoved (caps : Triple) (s : State) (e : ClaimEntry) :
    (State.ownRemoved caps s e).still = s.still := by
  simp only [State.ownRemoved]
  repeat' split
  all_goals simp

@[simp] theorem still_takeReplicated (f : BufferedFrame) (own : Bool) (s : State) :
    (State.takeReplicated f own s).still = s.still := by
  simp only [State.takeReplicated]
  repeat' split
  all_goals simp

@[simp] theorem still_dropTable (s : State) : (State.dropTable s).still = s.still := by
  simp [State.dropTable]

@[simp] theorem still_dropEntries (cond : Booking → Bool) (s : State) :
    (State.dropEntries cond s).still = s.still := by
  simp [State.dropEntries]

@[simp] theorem still_setStatus (cond : Booking → Bool) (st : BookingStatus) (s : State) :
    (State.setStatus cond st s).still = s.still := by
  simp [State.setStatus]

@[simp] theorem still_takenFailed (f : Frame) (s : State) : (State.takenFailed f s).still = s.still := by
  simp only [State.takenFailed]
  repeat' split
  all_goals simp

@[simp] theorem still_deleteRecord (h : Handle) (s : State) : (State.deleteRecord h s).still = s.still := by
  simp [State.deleteRecord]

@[simp] theorem still_answerRefused (a : Addr) (t : Tag) (r : Reason) (s : State) :
    (State.answerRefused a t r s).still = s.still := by
  simp [State.answerRefused]

@[simp] theorem still_renewEntry (a : Addr) (q : BookRequest) (b : Booking) (s : State) :
    (State.renewEntry a q b s).still = s.still := by
  simp [State.renewEntry]

theorem still_takeSlot (s : State) (h : Handle) (t : State) (e : s.takeSlot = some (h, t)) : t.still = s.still := by
  simp only [State.takeSlot] at e
  split at e
  · simp only [Option.some.injEq, Prod.mk.injEq] at e
    rw [← e.2]; rfl
  · contradiction
@[simp] theorem still_reserve (a : Addr) (q : BookRequest) (p : PosIx) (s : State) :
    (State.reserve a q p s).still = s.still := by
  simp only [State.reserve]
  split
  · rfl
  · rename_i h t e
    simp [still_takeSlot s h t e]

@[simp] theorem still_takeBook (a : Addr) (q : BookRequest) (s : State) : (State.takeBook a q s).still = s.still := by
  simp only [State.takeBook]
  repeat' split
  all_goals simp

@[simp] theorem still_completeImage (b : Booking) (im : List Byte) (s : State) :
    (State.completeImage b im s).still = s.still := by
  simp only [State.completeImage]
  repeat' split
  all_goals simp

@[simp] theorem still_takePart (b : Booking) (a : Assembly) (s : State) : (State.takePart b a s).still = s.still := by
  simp only [State.takePart]
  repeat' split
  all_goals simp

@[simp] theorem still_rejectOpen (b : Booking) (s : State) : (State.rejectOpen b s).still = s.still := by
  simp only [State.rejectOpen]
  repeat' split
  all_goals simp

@[simp] theorem still_takeFirstPart (a : Addr) (c : CarryPart) (s : State) :
    (State.takeFirstPart a c s).still = s.still := by
  simp only [State.takeFirstPart]
  repeat' split
  all_goals simp

@[simp] theorem still_takeLaterPart (a : Addr) (c : CarryPart) (s : State) :
    (State.takeLaterPart a c s).still = s.still := by
  simp only [State.takeLaterPart]
  repeat' split
  all_goals simp

@[simp] theorem still_takeCarry (a : Addr) (c : CarryPart) (s : State) : (State.takeCarry a c s).still = s.still := by
  simp only [State.takeCarry]
  repeat' split
  all_goals simp

@[simp] theorem still_receiveRecord (f : Frame) (s : State) : (State.receiveRecord f s).still = s.still := by
  simp only [State.receiveRecord]
  repeat' split
  all_goals simp

@[simp] theorem still_closeRejected (f : Frame) (s : State) : (State.closeRejected f s).still = s.still := by
  simp only [State.closeRejected]
  repeat' split
  all_goals simp

@[simp] theorem still_takeBooked (a : Addr) (t : Tag) (p : PosIx) (s : State) :
    (State.takeBooked a t p s).still = s.still := by
  simp only [State.takeBooked]
  repeat' split
  all_goals simp

@[simp] theorem still_takeRefused (a : Addr) (t : Tag) (s : State) : (State.takeRefused a t s).still = s.still := by
  simp only [State.takeRefused]
  repeat' split
  all_goals simp

@[simp] theorem still_handOver (a : Addr) (t : Tag) (s : State) : (State.handOver a t s).still = s.still := by
  simp only [State.handOver]
  repeat' split
  all_goals simp

@[simp] theorem still_rejected (a : Addr) (t : Tag) (reason : Byte) (s : State) :
    (State.rejected a t reason s).still = s.still := by
  simp only [State.rejected]
  repeat' split
  all_goals simp

@[simp] theorem still_found (a : Addr) (t : Tag) (s : State) : (State.found a t s).still = s.still := by
  simp only [State.found]
  repeat' split
  all_goals simp

@[simp] theorem still_answerLocate (a : Addr) (t : Tag) (s : State) : (State.answerLocate a t s).still = s.still := by
  simp only [State.answerLocate]
  repeat' split
  all_goals simp

@[simp] theorem still_cancelEntry (a : Addr) (t : Tag) (s : State) : (State.cancelEntry a t s).still = s.still := by
  simp only [State.cancelEntry]
  repeat' split
  all_goals simp

@[simp] theorem still_cancelBooking (a : Addr) (t : Tag) (s : State) :
    (State.cancelBooking a t s).still = s.still := by
  simp only [State.cancelBooking]
  repeat' split
  all_goals simp

@[simp] theorem still_departRecord (a : Addr) (s : State) (h : Handle) :
    (State.departRecord a s h).still = s.still := by
  simp only [State.departRecord]
  repeat' split
  all_goals simp

@[simp] theorem still_departHandoff (a : Addr) (s : State) : (State.departHandoff a s).still = s.still := by
  simp [State.departHandoff]

@[simp] theorem still_clearOutbound (s : State) (p : PosIx) : (State.clearOutbound s p).still = s.still := by
  simp only [State.clearOutbound]
  repeat' split
  all_goals simp

@[simp] theorem still_loseHandoff (s : State) : (State.loseHandoff s).still = s.still := by
  simp [State.loseHandoff]

@[simp] theorem still_updPeer (a : Addr) (f : Peer → Peer) (s : State) : (State.updPeer a f s).still = s.still := by
  simp [State.updPeer]

@[simp] theorem still_setLine (l : LineState) (s : State) : (State.setLine l s).still = s.still := by
  simp [State.setLine]

@[simp] theorem still_peerGone (a : Addr) (c : GoneCause) (s : State) : (State.peerGone a c s).still = s.still := by
  simp only [State.peerGone]
  repeat' split
  all_goals simp

@[simp] theorem still_postPeerJoined (a : Addr) (s : State) : (State.postPeerJoined a s).still = s.still := by
  simp [State.postPeerJoined]

@[simp] theorem still_peerJoins (a : Addr) (role : Role) (s : State) :
    (State.peerJoins a role s).still = s.still := by
  simp [State.peerJoins]

@[simp] theorem still_applyPresence (a : Addr) (q : PresenceReport) (s : State) :
    (State.applyPresence a q s).still = s.still := by
  simp only [State.applyPresence]
  repeat' split
  all_goals simp

@[simp] theorem still_restartRound (a : Addr) (s : State) (h : Handle) :
    (State.restartRound a s h).still = s.still := by
  simp only [State.restartRound]
  repeat' split
  all_goals simp

@[simp] theorem still_restartRounds (a : Addr) (q : PresenceReport) (s : State) :
    (State.restartRounds a q s).still = s.still := by
  simp only [State.restartRounds]
  repeat' split
  all_goals simp

@[simp] theorem still_noteSender (a : Addr) (s : State) : (State.noteSender a s).still = s.still := by
  simp only [State.noteSender]
  repeat' split
  all_goals simp

@[simp] theorem still_sendUpkeep (f : Frame) (s : State) : (State.sendUpkeep f s).still = s.still := by
  simp only [State.sendUpkeep]
  repeat' split
  all_goals simp

@[simp] theorem still_pumpUpkeep (s : State) : (State.pumpUpkeep s).still = s.still := by
  simp only [State.pumpUpkeep]
  repeat' split
  all_goals simp

@[simp] theorem still_withdrawUpkeep (kinds : List FrameKind) (s : State) :
    (State.withdrawUpkeep kinds s).still = s.still := by
  simp only [State.withdrawUpkeep]
  repeat' split
  all_goals simp

@[simp] theorem still_stopServing (s : State) : (State.stopServing s).still = s.still := by
  simp [State.stopServing]

@[simp] theorem still_stopServingOf (a : Addr) (s : State) : (State.stopServingOf a s).still = s.still := by
  simp only [State.stopServingOf]
  repeat' split
  all_goals simp

@[simp] theorem still_setJoinQueue (l : List Joiner) (s : State) : (State.setJoinQueue l s).still = s.still := by
  simp [State.setJoinQueue]

@[simp] theorem still_leaveQueue (a : Addr) (s : State) : (State.leaveQueue a s).still = s.still := by
  simp [State.leaveQueue]

@[simp] theorem still_enterQueue (a : Addr) (s : State) : (State.enterQueue a s).still = s.still := by
  simp only [State.enterQueue]
  repeat' split
  all_goals simp

@[simp] theorem still_judgeProvider (a : Addr) (s : State) : (State.judgeProvider a s).still = s.still := by
  simp only [State.judgeProvider]
  repeat' split
  all_goals simp

@[simp] theorem still_tryServe (s : State) : (State.tryServe s).still = s.still := by
  simp only [State.tryServe]
  repeat' split
  all_goals simp

@[simp] theorem still_snapAppeared (s : State) : (State.snapAppeared s).still = s.still := by
  simp only [State.snapAppeared]
  repeat' split
  all_goals simp

@[simp] theorem still_rejoin (c : Cause) (s : State) : (State.rejoin c s).still = s.still := by
  simp only [State.rejoin]
  repeat' split
  all_goals simp

@[simp] theorem still_enterJoining (c : Cause) (s : State) : (State.enterJoining c s).still = s.still := by
  simp [State.enterJoining]

@[simp] theorem still_startJoin (s : State) : (State.startJoin s).still = s.still := by
  simp [State.startJoin]

@[simp] theorem still_bufferFrame (f : BufferedFrame) (s : State) : (State.bufferFrame f s).still = s.still := by
  simp only [State.bufferFrame]
  repeat' split
  all_goals simp

@[simp] theorem still_joinedRecord (s : State) (h : Handle) : (State.joinedRecord s h).still = s.still := by
  simp only [State.joinedRecord]
  repeat' split
  all_goals simp

@[simp] theorem still_joinedPosition (s : State) (p : PosIx) : (State.joinedPosition s p).still = s.still := by
  simp only [State.joinedPosition]
  repeat' split
  all_goals simp

@[simp] theorem still_loadSnapshot (n : SnapIn) (s : State) : (State.loadSnapshot n s).still = s.still := by
  simp [State.loadSnapshot]

@[simp] theorem still_listFrame (f : BufferedFrame) (s : State) : (State.listFrame f s).still = s.still := by
  simp only [State.listFrame]
  repeat' split
  all_goals simp

@[simp] theorem still_replayFrame (s : State) (f : BufferedFrame) : (State.replayFrame s f).still = s.still := by
  simp [State.replayFrame]

@[simp] theorem still_completeJoin (c : Cause) (s : State) : (State.completeJoin c s).still = s.still := by
  simp [State.completeJoin]

@[simp] theorem still_finishSnapshot (n : SnapIn) (s : State) : (State.finishSnapshot n s).still = s.still := by
  simp [State.finishSnapshot]

@[simp] theorem still_lostPosition (s : State) (p : PosIx) : (State.lostPosition s p).still = s.still := by
  simp only [State.lostPosition]
  repeat' split
  all_goals simp

@[simp] theorem still_loseLine (l : LineState) (s : State) : (State.loseLine l s).still = s.still := by
  simp [State.loseLine]

@[simp] theorem still_detach (c : Cause) (s : State) : (State.detach c s).still = s.still := by
  simp only [State.detach]
  repeat' split
  all_goals simp

@[simp] theorem still_goOut (s : State) : (State.goOut s).still = s.still := by
  simp [State.goOut]

@[simp] theorem still_enterMismatch (s : State) : (State.enterMismatch s).still = s.still := by
  simp [State.enterMismatch]

@[simp] theorem still_takeHead (sender : Addr) (q : SnapHead) (s : State) :
    (State.takeHead sender q s).still = s.still := by
  simp only [State.takeHead]
  repeat' split
  all_goals simp

@[simp] theorem still_takeSnapPart (index : Nat) (content : List Byte) (s : State) :
    (State.takeSnapPart index content s).still = s.still := by
  simp only [State.takeSnapPart]
  repeat' split
  all_goals simp

@[simp] theorem still_setInTx (x : InTx) (s : State) : (State.setInTx x s).still = s.still := by
  simp [State.setInTx]

@[simp] theorem still_beginTx (s : State) : (State.beginTx s).still = s.still := by
  simp only [State.beginTx]
  repeat' split
  all_goals simp

@[simp] theorem still_restartStall (s : State) : (State.restartStall s).still = s.still := by
  simp only [State.restartStall]
  repeat' split
  all_goals simp

@[simp] theorem still_pumpOrigin (o : Origin) (s : State) : (State.pumpOrigin o s).still = s.still := by
  simp only [State.pumpOrigin]
  repeat' split
  all_goals simp

@[simp] theorem still_finishOwn (own : OwnTx) (s : State) : (State.finishOwn own s).still = s.still := by
  simp only [State.finishOwn]
  repeat' split
  all_goals simp

@[simp] theorem still_toldWithdrawn (e : TxEntry) (s : State) : (State.toldWithdrawn e s).still = s.still := by
  simp only [State.toldWithdrawn]
  repeat' split
  all_goals simp

@[simp] theorem still_orphanFailed (f : Frame) (s : State) : (State.orphanFailed f s).still = s.still := by
  simp only [State.orphanFailed]
  repeat' split
  all_goals simp

@[simp] theorem still_applyHeld (e : TxEntry) (s : State) : (State.applyHeld e s).still = s.still := by
  simp only [State.applyHeld]
  repeat' split
  all_goals simp

@[simp] theorem still_loseArbitration (s : State) : (State.loseArbitration s).still = s.still := by
  simp only [State.loseArbitration]
  repeat' split
  all_goals simp

@[simp] theorem still_dropFrame (o : Origin) (s : State) : (State.dropFrame o s).still = s.still := by
  simp [State.dropFrame]

@[simp] theorem still_voidOwn (s : State) : (State.voidOwn s).still = s.still := by
  simp only [State.voidOwn]
  repeat' split
  all_goals simp

@[simp] theorem still_countVoid (s : State) : (State.countVoid s).still = s.still := by
  simp only [State.countVoid]
  repeat' split
  all_goals simp

@[simp] theorem still_takeVoid (sender : Addr) (foundError : Bool) (s : State) :
    (State.takeVoid sender foundError s).still = s.still := by
  simp only [State.takeVoid]
  repeat' split
  all_goals simp

@[simp] theorem still_takeListenOnlyError (sender : Addr) (s : State) :
    (State.takeListenOnlyError sender s).still = s.still := by
  simp only [State.takeListenOnlyError]
  repeat' split
  all_goals simp

@[simp] theorem still_dropHead (s : State) : (State.dropHead s).still = s.still := by
  simp only [State.dropHead]
  repeat' split
  all_goals simp

@[simp] theorem still_takeStall (s : State) : (State.takeStall s).still = s.still := by
  simp only [State.takeStall]
  repeat' split
  all_goals simp

@[simp] theorem still_countClean (s : State) : (State.countClean s).still = s.still := by
  simp [State.countClean]

@[simp] theorem still_countAppeared (k : FrameKind) (a : Addr) (s : State) : (State.countAppeared k a s).still = s.still := by
  simp only [State.countAppeared]
  split <;> simp

@[simp] theorem still_noteBar (k : FrameKind) (payload : List Byte) (s : State) :
    (State.noteBar k payload s).still = s.still := by
  simp only [State.noteBar]
  repeat' split
  all_goals simp

@[simp] theorem still_takenSaved (own : OwnTx) (s : State) : (State.takenSaved own s).still = s.still := by
  simp only [State.takenSaved]
  repeat' split
  all_goals simp

@[simp] theorem still_appearUndefined (sender : Addr) (s : State) :
    (State.appearUndefined sender s).still = s.still := by
  simp only [State.appearUndefined]
  repeat' split
  all_goals simp

@[simp] theorem still_onReplicated (k : FrameKind) (sender : Addr) (payload : List Byte) (s : State) :
    (State.onReplicated k sender payload s).still = s.still := by
  simp only [State.onReplicated]
  repeat' split
  all_goals simp

@[simp] theorem still_dropPeerWork (a : Addr) (f : BufferedFrame) (s : State) :
    (State.dropPeerWork a f s).still = s.still := by
  simp [State.dropPeerWork]

@[simp] theorem still_departJoined (f : BufferedFrame) (s : State) : (State.departJoined f s).still = s.still := by
  simp only [State.departJoined]
  repeat' split
  all_goals simp

@[simp] theorem still_onDepart (sender : Addr) (payload : List Byte) (s : State) :
    (State.onDepart sender payload s).still = s.still := by
  simp only [State.onDepart]
  repeat' split
  all_goals simp

@[simp] theorem still_onLeave (sender : Addr) (payload : List Byte) (s : State) :
    (State.onLeave sender payload s).still = s.still := by
  simp only [State.onLeave]
  repeat' split
  all_goals simp

@[simp] theorem still_joinJoined (f : BufferedFrame) (s : State) : (State.joinJoined f s).still = s.still := by
  simp only [State.joinJoined]
  repeat' split
  all_goals simp

@[simp] theorem still_onJoin (sender : Addr) (payload : List Byte) (s : State) :
    (State.onJoin sender payload s).still = s.still := by
  simp only [State.onJoin]
  repeat' split
  all_goals simp

@[simp] theorem still_onSnapHead (own : OwnTx) (sender : Addr) (payload : List Byte) (s : State) :
    (State.onSnapHead own sender payload s).still = s.still := by
  simp only [State.onSnapHead]
  repeat' split
  all_goals simp

@[simp] theorem still_onSnapPart (own : OwnTx) (payload : List Byte) (s : State) :
    (State.onSnapPart own payload s).still = s.still := by
  simp only [State.onSnapPart]
  repeat' split
  all_goals simp

@[simp] theorem still_onPresence (sender : Addr) (payload : List Byte) (s : State) :
    (State.onPresence sender payload s).still = s.still := by
  simp only [State.onPresence]
  repeat' split
  all_goals simp

@[simp] theorem still_bookAppeared (own : OwnTx) (dest : BitVec 5) (q : BookRequest) (s : State) :
    (State.bookAppeared own dest q s).still = s.still := by
  simp only [State.bookAppeared]
  repeat' split
  all_goals simp

@[simp] theorem still_onBook (own : OwnTx) (sender : Addr) (dest : BitVec 5) (payload : List Byte) (s : State) :
    (State.onBook own sender dest payload s).still = s.still := by
  simp only [State.onBook]
  repeat' split
  all_goals simp

@[simp] theorem still_bookedAppeared (dest : BitVec 5) (t : Tag) (s : State) :
    (State.bookedAppeared dest t s).still = s.still := by
  simp [State.bookedAppeared]

@[simp] theorem still_onBooked (own : OwnTx) (sender : Addr) (dest : BitVec 5) (payload : List Byte) (s : State) :
    (State.onBooked own sender dest payload s).still = s.still := by
  simp only [State.onBooked]
  repeat' split
  all_goals simp

@[simp] theorem still_onRefused (sender : Addr) (dest : BitVec 5) (payload : List Byte) (s : State) :
    (State.onRefused sender dest payload s).still = s.still := by
  simp only [State.onRefused]
  repeat' split
  all_goals simp

@[simp] theorem still_onFound (sender : Addr) (dest : BitVec 5) (payload : List Byte) (s : State) :
    (State.onFound sender dest payload s).still = s.still := by
  simp only [State.onFound]
  repeat' split
  all_goals simp

@[simp] theorem still_onCancel (sender : Addr) (dest : BitVec 5) (payload : List Byte) (s : State) :
    (State.onCancel sender dest payload s).still = s.still := by
  simp only [State.onCancel]
  repeat' split
  all_goals simp

@[simp] theorem still_locateAppeared (t : Tag) (s : State) : (State.locateAppeared t s).still = s.still := by
  simp only [State.locateAppeared]
  repeat' split
  all_goals simp

@[simp] theorem still_onLocate (own : OwnTx) (sender : Addr) (payload : List Byte) (s : State) :
    (State.onLocate own sender payload s).still = s.still := by
  simp only [State.onLocate]
  repeat' split
  all_goals simp

@[simp] theorem still_carryAppeared (own : OwnTx) (index : Nat) (s : State) :
    (State.carryAppeared own index s).still = s.still := by
  simp only [State.carryAppeared]
  repeat' split
  all_goals simp

@[simp] theorem still_onCarry (own : OwnTx) (sender : Addr) (dest : BitVec 5) (payload : List Byte) (s : State) :
    (State.onCarry own sender dest payload s).still = s.still := by
  simp only [State.onCarry]
  repeat' split
  all_goals simp

@[simp] theorem still_onTaken (sender : Addr) (dest : BitVec 5) (payload : List Byte) (s : State) :
    (State.onTaken sender dest payload s).still = s.still := by
  simp only [State.onTaken]
  repeat' split
  all_goals simp

@[simp] theorem still_onReject (sender : Addr) (dest : BitVec 5) (payload : List Byte) (s : State) :
    (State.onReject sender dest payload s).still = s.still := by
  simp only [State.onReject]
  repeat' split
  all_goals simp

@[simp] theorem still_countOne (p : PosIx) (h : Handle) (r : Record) (e : StepEntry) (s : State) :
    (State.countOne p h r e s).still = s.still := by
  simp only [State.countOne]
  repeat' split
  all_goals simp

@[simp] theorem still_runSecond (p : PosIx) (s : State) : (State.runSecond p s).still = s.still := by
  simp only [State.runSecond]
  repeat' split
  all_goals simp

@[simp] theorem still_pauseSecond (p : PosIx) (s : State) : (State.pauseSecond p s).still = s.still := by
  simp only [State.pauseSecond]
  repeat' split
  all_goals simp

@[simp] theorem still_lampSilent (p : PosIx) (s : State) : (State.lampSilent p s).still = s.still := by
  simp only [State.lampSilent]
  repeat' split
  all_goals simp

@[simp] theorem still_doseShort (p : PosIx) (s : State) : (State.doseShort p s).still = s.still := by
  simp only [State.doseShort]
  repeat' split
  all_goals simp

@[simp] theorem still_dosePulse (p : PosIx) (s : State) : (State.dosePulse p s).still = s.still := by
  simp only [State.dosePulse]
  repeat' split
  all_goals simp

@[simp] theorem still_gapSecond (h : Handle) (s : State) : (State.gapSecond h s).still = s.still := by
  simp only [State.gapSecond]
  repeat' split
  all_goals simp

@[simp] theorem still_answerExpired (h : Handle) (s : State) : (State.answerExpired h s).still = s.still := by
  simp only [State.answerExpired]
  repeat' split
  all_goals simp

@[simp] theorem still_bookingLapse (p : PosIx) (s : State) : (State.bookingLapse p s).still = s.still := by
  simp only [State.bookingLapse]
  repeat' split
  all_goals simp

@[simp] theorem still_partGapExpired (p : PosIx) (s : State) : (State.partGapExpired p s).still = s.still := by
  simp only [State.partGapExpired]
  repeat' split
  all_goals simp

@[simp] theorem still_handOffExpired (h : Handle) (s : State) : (State.handOffExpired h s).still = s.still := by
  simp only [State.handOffExpired]
  repeat' split
  all_goals simp

@[simp] theorem still_locateExpired (h : Handle) (s : State) : (State.locateExpired h s).still = s.still := by
  simp only [State.locateExpired]
  repeat' split
  all_goals simp

@[simp] theorem still_departureExpired (a : Addr) (s : State) : (State.departureExpired a s).still = s.still := by
  simp only [State.departureExpired]
  repeat' split
  all_goals simp

@[simp] theorem still_presenceExpired (s : State) : (State.presenceExpired s).still = s.still := by
  simp only [State.presenceExpired]
  repeat' split
  all_goals simp

@[simp] theorem still_firstStation (s : State) : (State.firstStation s).still = s.still := by
  simp [State.firstStation]

@[simp] theorem still_joinWaitExpired (s : State) : (State.joinWaitExpired s).still = s.still := by
  simp only [State.joinWaitExpired]
  repeat' split
  all_goals simp

@[simp] theorem still_snapGapExpired (s : State) : (State.snapGapExpired s).still = s.still := by
  simp only [State.snapGapExpired]
  repeat' split
  all_goals simp

@[simp] theorem still_backoffExpired (s : State) : (State.backoffExpired s).still = s.still := by
  simp only [State.backoffExpired]
  repeat' split
  all_goals simp

@[simp] theorem still_advancePos (s : State) (p : PosIx) : (State.advancePos s p).still = s.still := by
  simp only [State.advancePos]
  repeat' split
  all_goals simp

@[simp] theorem still_advance (s : State) : (State.advance s).still = s.still := by
  simp [State.advance]

@[simp] theorem still_firePos (s : State) (p : PosIx) : (State.firePos s p).still = s.still := by
  simp only [State.firePos]
  repeat' split
  all_goals simp

@[simp] theorem still_fireRec (s : State) (h : Handle) : (State.fireRec s h).still = s.still := by
  simp only [State.fireRec]
  repeat' split
  all_goals simp

@[simp] theorem still_fireBooking (s : State) (p : PosIx) : (State.fireBooking s p).still = s.still := by
  simp only [State.fireBooking]
  repeat' split
  all_goals simp

@[simp] theorem still_fireDeparture (s : State) (a : Addr) : (State.fireDeparture s a).still = s.still := by
  simp only [State.fireDeparture]
  repeat' split
  all_goals simp

@[simp] theorem still_fireLine (s : State) : (State.fireLine s).still = s.still := by
  simp only [State.fireLine]
  repeat' split
  all_goals simp

@[simp] theorem still_tick (s : State) : (State.tick s).still = s.still := by
  simp only [State.tick]
  repeat' split
  all_goals simp

@[simp] theorem still_pauseForPower (s : State) (p : PosIx) : (State.pauseForPower s p).still = s.still := by
  simp only [State.pauseForPower]
  repeat' split
  all_goals simp

@[simp] theorem still_powerFailHandoff (s : State) : (State.powerFailHandoff s).still = s.still := by
  simp [State.powerFailHandoff]

@[simp] theorem still_enterSaving (s : State) : (State.enterSaving s).still = s.still := by
  simp only [State.enterSaving]
  repeat' split
  all_goals simp

@[simp] theorem still_restorePosition (im : List Byte) (s : State) (p : PosIx) :
    (State.restorePosition im s p).still = s.still := by
  simp only [State.restorePosition]
  repeat' split
  all_goals simp

@[simp] theorem still_cleanLink (s : State) (h : Handle) : (State.cleanLink s h).still = s.still := by
  simp [State.cleanLink]

@[simp] theorem still_restoreArrival (s : State) (h : Handle) : (State.restoreArrival s h).still = s.still := by
  simp only [State.restoreArrival]
  repeat' split
  all_goals simp

@[simp] theorem still_postRestoreHeld (s : State) (x : Handle × Nat) :
    (State.postRestoreHeld s x).still = s.still := by
  simp only [State.postRestoreHeld]
  repeat' split
  all_goals simp

@[simp] theorem still_rebuildFreeList (s : State) : (State.rebuildFreeList s).still = s.still := by
  simp [State.rebuildFreeList]

@[simp] theorem still_postRestored (n : Nat) (s : State) : (State.postRestored n s).still = s.still := by
  simp [State.postRestored]

@[simp] theorem still_useSeq (q : BitVec 16) (s : State) : (State.useSeq q s).still = s.still := by
  simp [State.useSeq]

@[simp] theorem still_plateArrives (p : PosIx) (h : Handle) (r : Record) (s : State) :
    (State.plateArrives p h r s).still = s.still := by
  simp only [State.plateArrives]
  repeat' split
  all_goals simp

@[simp] theorem still_retire (p : PosIx) (h : Handle) (r : Record) (s : State) :
    (State.retire p h r s).still = s.still := by
  simp [State.retire]

@[simp] theorem still_plateTaken (p : PosIx) (h : Handle) (r : Record) (s : State) :
    (State.plateTaken p h r s).still = s.still := by
  simp only [State.plateTaken]
  repeat' split
  all_goals simp

@[simp] theorem still_returnRecord (h : Handle) (r : Record) (st : RecState) (s : State) :
    (State.returnRecord h r st s).still = s.still := by
  simp only [State.returnRecord]
  repeat' split
  all_goals simp

@[simp] theorem still_scrapPosition (p : Option PosIx) (s : State) : (State.scrapPosition p s).still = s.still := by
  simp only [State.scrapPosition]
  repeat' split
  all_goals simp

@[simp] theorem still_stopLocate (h : Handle) (s : State) : (State.stopLocate h s).still = s.still := by
  simp [State.stopLocate]

@[simp] theorem still_pauseStep (p : PosIx) (s : State) : (State.pauseStep p s).still = s.still := by
  simp only [State.pauseStep]
  repeat' split
  all_goals simp

@[simp] theorem still_resumeStep (p : PosIx) (s : State) : (State.resumeStep p s).still = s.still := by
  simp only [State.resumeStep]
  repeat' split
  all_goals simp

@[simp] theorem still_departureDue (a : Addr) (s : State) : (State.departureDue a s).still = s.still := by
  simp [State.departureDue]

@[simp] theorem still_sendLeave (s : State) : (State.sendLeave s).still = s.still := by
  simp [State.sendLeave]

end Sys2Proof.Machine
end

