-- ==== Sys2Proof/Laws/Commands.lean ====
section
/-! SUPPORT. The port, the retention store, the configuration commands and the code comparison: what each changes of `still`; and what a judged command or an appearance keeps, from what its own rule keeps. -/

namespace Sys2Proof.Machine

/-! ### The parts of `still` -/

theorem pending_eq (s : State) : s.pending = s.still.1 := rfl

theorem pins_eq (s : State) : s.pins = s.still.2.1 := rfl

theorem conf_eq (s : State) : s.conf = s.still.2.2.1 := rfl

theorem ret_eq (s : State) : s.ret = s.still.2.2.2.1 := rfl

theorem staging_eq (s : State) : s.staging = s.still.2.2.2.2.1 := rfl

theorem attempts_eq (s : State) : s.store.attempts = s.still.2.2.2.2.2.1 := rfl

theorem crcErrors_eq (s : State) : s.port.crcErrors = s.still.2.2.2.2.2.2.2.2 := rfl

/-! ### Operations that change a part -/

@[simp] theorem still_respond (st : Status) (data : BitVec 24) (s : State) : (s.respond st data).still =
    (s.still.1, s.still.2.1, s.still.2.2.1, s.still.2.2.2.1, s.still.2.2.2.2.1, s.still.2.2.2.2.2.1, { status := st, data := data }, s.still.2.2.2.2.2.2.2.1, s.still.2.2.2.2.2.2.2.2) := rfl

@[simp] theorem still_deliver (s : State) : s.deliver.still =
    (s.still.1, s.still.2.1, s.still.2.2.1, s.still.2.2.2.1, s.still.2.2.2.2.1, s.still.2.2.2.2.2.1, s.still.2.2.2.2.2.2.1, some s.still.2.2.2.2.2.2.1, s.still.2.2.2.2.2.2.2.2) := rfl

@[simp] theorem still_stage (bs : List Byte) (s : State) : (s.stage bs).still =
    (s.still.1, s.still.2.1, s.still.2.2.1, s.still.2.2.2.1, Memory.writeList s.still.2.2.2.2.1 0 (bs.take 128), s.still.2.2.2.2.2.1, s.still.2.2.2.2.2.2.1, s.still.2.2.2.2.2.2.2.1, s.still.2.2.2.2.2.2.2.2) := rfl

@[simp] theorem still_setIlk (p : PosIx) (level : Bool) (s : State) : (s.setIlk p level).still =
    (s.still.1, { s.still.2.1 with ilk := s.still.2.1.ilk.set p level }, s.still.2.2.1, s.still.2.2.2.1, s.still.2.2.2.2.1, s.still.2.2.2.2.2.1, s.still.2.2.2.2.2.2.1, s.still.2.2.2.2.2.2.2.1, s.still.2.2.2.2.2.2.2.2) := rfl

@[simp] theorem still_invalidate (s : State) : s.invalidate.still =
    (s.still.1, s.still.2.1, s.still.2.2.1, { s.still.2.2.2.1 with valid := false }, s.still.2.2.2.2.1, s.still.2.2.2.2.2.1, s.still.2.2.2.2.2.2.1, s.still.2.2.2.2.2.2.2.1, s.still.2.2.2.2.2.2.2.2) := rfl

/-- Three outcomes of the judgement and the command's own rule: what holds of each holds of the judged command (R182). -/
theorem judge_cases (P : State → Prop) (inConfig : Bool) (low : Byte) (own : State → State) (s : State)
    (busy : P (s.deliver.respond .busy 0)) (dormant : P (s.deliver.respond .dormant 0))
    (closed : P (s.deliver.refuse .notOpen low)) (taken : P (own s.deliver)) : P (s.judge inConfig low own) := by
  simp only [State.judge]
  split
  · exact busy
  · exact dormant
  · split
    · exact taken
    · exact closed
  all_goals exact taken

/-- The same for a command on a record. -/
theorem withRecord_cases (P : State → Prop) (code handle d0 : Byte) (own : Handle → Record → State → State) (s : State)
    (argument : P (s.badArgument code)) (none : P (s.refuse .noRecord d0))
    (taken : ∀ h r, s.rec? h = some r → P (own h r s)) : P (s.withRecord code handle d0 own) := by
  simp only [State.withRecord]
  split
  · exact argument
  · split
    · exact none
    · rename_i r e
      exact taken _ r e

@[simp] theorem still_appear (k : FrameKind) (sender : Addr) (dest : BitVec 5) (payload : List Byte)
    (blocks : OwnTx → State → State) (hb : ∀ own s, (blocks own s).still = s.still) (s : State) :
    (s.appear k sender dest payload blocks).still = s.still := by
  simp only [State.appear]
  split
  all_goals simp [hb]

@[simp] theorem small_appear (k : FrameKind) (sender : Addr) (dest : BitVec 5) (payload : List Byte)
    (blocks : OwnTx → State → State) (hb : ∀ own s, s.Small → (blocks own s).Small) (s : State) (hs : s.Small) :
    (s.appear k sender dest payload blocks).Small := by
  simp only [State.appear]
  split
  all_goals simp +contextual (maxDischargeDepth := 40) [hb, hs]

@[simp] theorem pending_of_ok (d2 d1 d0 : Byte) (s : State) :
    (State.ok d2 d1 d0 s).still.1 = s.still.1 := by
  simp [State.ok]

@[simp] theorem pins_of_ok (d2 d1 d0 : Byte) (s : State) :
    (State.ok d2 d1 d0 s).still.2.1 = s.still.2.1 := by
  simp [State.ok]

@[simp] theorem conf_of_ok (d2 d1 d0 : Byte) (s : State) :
    (State.ok d2 d1 d0 s).still.2.2.1 = s.still.2.2.1 := by
  simp [State.ok]

@[simp] theorem ret_of_ok (d2 d1 d0 : Byte) (s : State) :
    (State.ok d2 d1 d0 s).still.2.2.2.1 = s.still.2.2.2.1 := by
  simp [State.ok]

@[simp] theorem staging_of_ok (d2 d1 d0 : Byte) (s : State) :
    (State.ok d2 d1 d0 s).still.2.2.2.2.1 = s.still.2.2.2.2.1 := by
  simp [State.ok]

@[simp] theorem attempts_of_ok (d2 d1 d0 : Byte) (s : State) :
    (State.ok d2 d1 d0 s).still.2.2.2.2.2.1 = s.still.2.2.2.2.2.1 := by
  simp [State.ok]

@[simp] theorem crc_of_ok (d2 d1 d0 : Byte) (s : State) :
    (State.ok d2 d1 d0 s).still.2.2.2.2.2.2.2.2 = s.still.2.2.2.2.2.2.2.2 := by
  simp [State.ok]

@[simp] theorem pending_of_refuse (r : Reason) (d0 : Byte) (s : State) :
    (State.refuse r d0 s).still.1 = s.still.1 := by
  simp [State.refuse]

@[simp] theorem pins_of_refuse (r : Reason) (d0 : Byte) (s : State) :
    (State.refuse r d0 s).still.2.1 = s.still.2.1 := by
  simp [State.refuse]

@[simp] theorem conf_of_refuse (r : Reason) (d0 : Byte) (s : State) :
    (State.refuse r d0 s).still.2.2.1 = s.still.2.2.1 := by
  simp [State.refuse]

@[simp] theorem ret_of_refuse (r : Reason) (d0 : Byte) (s : State) :
    (State.refuse r d0 s).still.2.2.2.1 = s.still.2.2.2.1 := by
  simp [State.refuse]

@[simp] theorem staging_of_refuse (r : Reason) (d0 : Byte) (s : State) :
    (State.refuse r d0 s).still.2.2.2.2.1 = s.still.2.2.2.2.1 := by
  simp [State.refuse]

@[simp] theorem attempts_of_refuse (r : Reason) (d0 : Byte) (s : State) :
    (State.refuse r d0 s).still.2.2.2.2.2.1 = s.still.2.2.2.2.2.1 := by
  simp [State.refuse]

@[simp] theorem crc_of_refuse (r : Reason) (d0 : Byte) (s : State) :
    (State.refuse r d0 s).still.2.2.2.2.2.2.2.2 = s.still.2.2.2.2.2.2.2.2 := by
  simp [State.refuse]

@[simp] theorem pending_of_badArgument (code : Byte) (s : State) :
    (State.badArgument code s).still.1 = s.still.1 := by
  simp [State.badArgument]

@[simp] theorem pins_of_badArgument (code : Byte) (s : State) :
    (State.badArgument code s).still.2.1 = s.still.2.1 := by
  simp [State.badArgument]

@[simp] theorem conf_of_badArgument (code : Byte) (s : State) :
    (State.badArgument code s).still.2.2.1 = s.still.2.2.1 := by
  simp [State.badArgument]

@[simp] theorem ret_of_badArgument (code : Byte) (s : State) :
    (State.badArgument code s).still.2.2.2.1 = s.still.2.2.2.1 := by
  simp [State.badArgument]

@[simp] theorem staging_of_badArgument (code : Byte) (s : State) :
    (State.badArgument code s).still.2.2.2.2.1 = s.still.2.2.2.2.1 := by
  simp [State.badArgument]

@[simp] theorem attempts_of_badArgument (code : Byte) (s : State) :
    (State.badArgument code s).still.2.2.2.2.2.1 = s.still.2.2.2.2.2.1 := by
  simp [State.badArgument]

@[simp] theorem crc_of_badArgument (code : Byte) (s : State) :
    (State.badArgument code s).still.2.2.2.2.2.2.2.2 = s.still.2.2.2.2.2.2.2.2 := by
  simp [State.badArgument]

@[simp] theorem pending_of_failAttempt (s : State) :
    (State.failAttempt s).still.1 = s.still.1 := by
  simp only [State.failAttempt]
  repeat' split
  all_goals rfl

@[simp] theorem pins_of_failAttempt (s : State) :
    (State.failAttempt s).still.2.1 = s.still.2.1 := by
  simp only [State.failAttempt]
  repeat' split
  all_goals rfl

@[simp] theorem conf_of_failAttempt (s : State) :
    (State.failAttempt s).still.2.2.1 = s.still.2.2.1 := by
  simp only [State.failAttempt]
  repeat' split
  all_goals rfl

@[simp] theorem ret_of_failAttempt (s : State) :
    (State.failAttempt s).still.2.2.2.1 = s.still.2.2.2.1 := by
  simp only [State.failAttempt]
  repeat' split
  all_goals rfl

@[simp] theorem staging_of_failAttempt (s : State) :
    (State.failAttempt s).still.2.2.2.2.1 = s.still.2.2.2.2.1 := by
  simp only [State.failAttempt]
  repeat' split
  all_goals rfl

@[simp] theorem crc_of_failAttempt (s : State) :
    (State.failAttempt s).still.2.2.2.2.2.2.2.2 = s.still.2.2.2.2.2.2.2.2 := by
  simp only [State.failAttempt]
  repeat' split
  all_goals rfl

@[simp] theorem pending_of_countCrcError (s : State) :
    (State.countCrcError s).still.1 = s.still.1 := by
  simp only [State.countCrcError]
  repeat' split
  all_goals rfl

@[simp] theorem pins_of_countCrcError (s : State) :
    (State.countCrcError s).still.2.1 = s.still.2.1 := by
  simp only [State.countCrcError]
  repeat' split
  all_goals rfl

@[simp] theorem conf_of_countCrcError (s : State) :
    (State.countCrcError s).still.2.2.1 = s.still.2.2.1 := by
  simp only [State.countCrcError]
  repeat' split
  all_goals rfl

@[simp] theorem ret_of_countCrcError (s : State) :
    (State.countCrcError s).still.2.2.2.1 = s.still.2.2.2.1 := by
  simp only [State.countCrcError]
  repeat' split
  all_goals rfl

@[simp] theorem staging_of_countCrcError (s : State) :
    (State.countCrcError s).still.2.2.2.2.1 = s.still.2.2.2.2.1 := by
  simp only [State.countCrcError]
  repeat' split
  all_goals rfl

@[simp] theorem attempts_of_countCrcError (s : State) :
    (State.countCrcError s).still.2.2.2.2.2.1 = s.still.2.2.2.2.2.1 := by
  simp only [State.countCrcError]
  repeat' split
  all_goals rfl

@[simp] theorem pending_of_beginWrite (s : State) :
    (State.beginWrite s).still.1 = s.still.1 := by
  simp only [State.beginWrite]
  split
  all_goals (simp; try rfl)

@[simp] theorem pins_of_beginWrite (s : State) :
    (State.beginWrite s).still.2.1 = s.still.2.1 := by
  simp only [State.beginWrite]
  split
  all_goals (simp; try rfl)

@[simp] theorem conf_of_beginWrite (s : State) :
    (State.beginWrite s).still.2.2.1 = s.still.2.2.1 := by
  simp only [State.beginWrite]
  split
  all_goals (simp; try rfl)

@[simp] theorem staging_of_beginWrite (s : State) :
    (State.beginWrite s).still.2.2.2.2.1 = s.still.2.2.2.2.1 := by
  simp only [State.beginWrite]
  split
  all_goals (simp; try rfl)

@[simp] theorem attempts_of_beginWrite (s : State) :
    (State.beginWrite s).still.2.2.2.2.2.1 = s.still.2.2.2.2.2.1 := by
  simp only [State.beginWrite]
  split
  all_goals (simp; try rfl)

@[simp] theorem crc_of_beginWrite (s : State) :
    (State.beginWrite s).still.2.2.2.2.2.2.2.2 = s.still.2.2.2.2.2.2.2.2 := by
  simp only [State.beginWrite]
  split
  all_goals (simp; try rfl)

@[simp] theorem pending_of_endWrite (s : State) :
    (State.endWrite s).still.1 = s.still.1 := by
  simp only [State.endWrite]
  split
  all_goals (simp; try rfl)

@[simp] theorem pins_of_endWrite (s : State) :
    (State.endWrite s).still.2.1 = s.still.2.1 := by
  simp only [State.endWrite]
  split
  all_goals (simp; try rfl)

@[simp] theorem conf_of_endWrite (s : State) :
    (State.endWrite s).still.2.2.1 = s.still.2.2.1 := by
  simp only [State.endWrite]
  split
  all_goals (simp; try rfl)

@[simp] theorem staging_of_endWrite (s : State) :
    (State.endWrite s).still.2.2.2.2.1 = s.still.2.2.2.2.1 := by
  simp only [State.endWrite]
  split
  all_goals (simp; try rfl)

@[simp] theorem attempts_of_endWrite (s : State) :
    (State.endWrite s).still.2.2.2.2.2.1 = s.still.2.2.2.2.2.1 := by
  simp only [State.endWrite]
  split
  all_goals (simp; try rfl)

@[simp] theorem crc_of_endWrite (s : State) :
    (State.endWrite s).still.2.2.2.2.2.2.2.2 = s.still.2.2.2.2.2.2.2.2 := by
  simp only [State.endWrite]
  split
  all_goals (simp; try rfl)

@[simp] theorem pending_of_openPositions (s : State) :
    (State.openPositions s).still.1 = s.still.1 := by
  simp only [State.openPositions]
  all_goals rfl

@[simp] theorem pins_of_openPositions (s : State) :
    (State.openPositions s).still.2.1 = s.still.2.1 := by
  simp only [State.openPositions]
  all_goals rfl

@[simp] theorem ret_of_openPositions (s : State) :
    (State.openPositions s).still.2.2.2.1 = s.still.2.2.2.1 := by
  simp only [State.openPositions]
  all_goals rfl

@[simp] theorem staging_of_openPositions (s : State) :
    (State.openPositions s).still.2.2.2.2.1 = s.still.2.2.2.2.1 := by
  simp only [State.openPositions]
  all_goals rfl

@[simp] theorem attempts_of_openPositions (s : State) :
    (State.openPositions s).still.2.2.2.2.2.1 = s.still.2.2.2.2.2.1 := by
  simp only [State.openPositions]
  all_goals rfl

@[simp] theorem crc_of_openPositions (s : State) :
    (State.openPositions s).still.2.2.2.2.2.2.2.2 = s.still.2.2.2.2.2.2.2.2 := by
  simp only [State.openPositions]
  all_goals rfl

@[simp] theorem pending_of_createRecord (steps : List StepEntry) (s : State) :
    (State.createRecord steps s).still.1 = s.still.1 := by
  simp only [State.createRecord]
  split
  · rfl
  · rename_i h t e
    simp [still_takeSlot s h t e]

@[simp] theorem pins_of_createRecord (steps : List StepEntry) (s : State) :
    (State.createRecord steps s).still.2.1 = s.still.2.1 := by
  simp only [State.createRecord]
  split
  · rfl
  · rename_i h t e
    simp [still_takeSlot s h t e]

@[simp] theorem conf_of_createRecord (steps : List StepEntry) (s : State) :
    (State.createRecord steps s).still.2.2.1 = s.still.2.2.1 := by
  simp only [State.createRecord]
  split
  · rfl
  · rename_i h t e
    simp [still_takeSlot s h t e]

@[simp] theorem ret_of_createRecord (steps : List StepEntry) (s : State) :
    (State.createRecord steps s).still.2.2.2.1 = s.still.2.2.2.1 := by
  simp only [State.createRecord]
  split
  · rfl
  · rename_i h t e
    simp [still_takeSlot s h t e]

@[simp] theorem staging_of_createRecord (steps : List StepEntry) (s : State) :
    (State.createRecord steps s).still.2.2.2.2.1 = s.still.2.2.2.2.1 := by
  simp only [State.createRecord]
  split
  · rfl
  · rename_i h t e
    simp [still_takeSlot s h t e]

@[simp] theorem attempts_of_createRecord (steps : List StepEntry) (s : State) :
    (State.createRecord steps s).still.2.2.2.2.2.1 = s.still.2.2.2.2.2.1 := by
  simp only [State.createRecord]
  split
  · rfl
  · rename_i h t e
    simp [still_takeSlot s h t e]

@[simp] theorem crc_of_createRecord (steps : List StepEntry) (s : State) :
    (State.createRecord steps s).still.2.2.2.2.2.2.2.2 = s.still.2.2.2.2.2.2.2.2 := by
  simp only [State.createRecord]
  split
  · rfl
  · rename_i h t e
    simp [still_takeSlot s h t e]

@[simp] theorem pending_of_register (s : State) :
    (State.register s).still.1 = s.still.1 := by
  simp only [State.register]
  repeat' split
  all_goals simp

@[simp] theorem pins_of_register (s : State) :
    (State.register s).still.2.1 = s.still.2.1 := by
  simp only [State.register]
  repeat' split
  all_goals simp

@[simp] theorem conf_of_register (s : State) :
    (State.register s).still.2.2.1 = s.still.2.2.1 := by
  simp only [State.register]
  repeat' split
  all_goals simp

@[simp] theorem ret_of_register (s : State) :
    (State.register s).still.2.2.2.1 = s.still.2.2.2.1 := by
  simp only [State.register]
  repeat' split
  all_goals simp

@[simp] theorem staging_of_register (s : State) :
    (State.register s).still.2.2.2.2.1 = s.still.2.2.2.2.1 := by
  simp only [State.register]
  repeat' split
  all_goals simp

@[simp] theorem attempts_of_register (s : State) :
    (State.register s).still.2.2.2.2.2.1 = s.still.2.2.2.2.2.1 := by
  simp only [State.register]
  repeat' split
  all_goals simp

@[simp] theorem crc_of_register (s : State) :
    (State.register s).still.2.2.2.2.2.2.2.2 = s.still.2.2.2.2.2.2.2.2 := by
  simp only [State.register]
  repeat' split
  all_goals simp

@[simp] theorem pending_of_arrived (p : PosIx) (seq : BitVec 16) (s : State) :
    (State.arrived p seq s).still.1 = s.still.1 := by
  simp only [State.arrived]
  repeat' split
  all_goals simp

@[simp] theorem pins_of_arrived (p : PosIx) (seq : BitVec 16) (s : State) :
    (State.arrived p seq s).still.2.1 = s.still.2.1 := by
  simp only [State.arrived]
  repeat' split
  all_goals simp

@[simp] theorem conf_of_arrived (p : PosIx) (seq : BitVec 16) (s : State) :
    (State.arrived p seq s).still.2.2.1 = s.still.2.2.1 := by
  simp only [State.arrived]
  repeat' split
  all_goals simp

@[simp] theorem ret_of_arrived (p : PosIx) (seq : BitVec 16) (s : State) :
    (State.arrived p seq s).still.2.2.2.1 = s.still.2.2.2.1 := by
  simp only [State.arrived]
  repeat' split
  all_goals simp

@[simp] theorem staging_of_arrived (p : PosIx) (seq : BitVec 16) (s : State) :
    (State.arrived p seq s).still.2.2.2.2.1 = s.still.2.2.2.2.1 := by
  simp only [State.arrived]
  repeat' split
  all_goals simp

@[simp] theorem attempts_of_arrived (p : PosIx) (seq : BitVec 16) (s : State) :
    (State.arrived p seq s).still.2.2.2.2.2.1 = s.still.2.2.2.2.2.1 := by
  simp only [State.arrived]
  repeat' split
  all_goals simp

@[simp] theorem crc_of_arrived (p : PosIx) (seq : BitVec 16) (s : State) :
    (State.arrived p seq s).still.2.2.2.2.2.2.2.2 = s.still.2.2.2.2.2.2.2.2 := by
  simp only [State.arrived]
  repeat' split
  all_goals simp

@[simp] theorem pending_of_removed (p : PosIx) (s : State) :
    (State.removed p s).still.1 = s.still.1 := by
  simp only [State.removed]
  repeat' split
  all_goals simp

@[simp] theorem pins_of_removed (p : PosIx) (s : State) :
    (State.removed p s).still.2.1 = s.still.2.1 := by
  simp only [State.removed]
  repeat' split
  all_goals simp

@[simp] theorem conf_of_removed (p : PosIx) (s : State) :
    (State.removed p s).still.2.2.1 = s.still.2.2.1 := by
  simp only [State.removed]
  repeat' split
  all_goals simp

@[simp] theorem ret_of_removed (p : PosIx) (s : State) :
    (State.removed p s).still.2.2.2.1 = s.still.2.2.2.1 := by
  simp only [State.removed]
  repeat' split
  all_goals simp

@[simp] theorem staging_of_removed (p : PosIx) (s : State) :
    (State.removed p s).still.2.2.2.2.1 = s.still.2.2.2.2.1 := by
  simp only [State.removed]
  repeat' split
  all_goals simp

@[simp] theorem attempts_of_removed (p : PosIx) (s : State) :
    (State.removed p s).still.2.2.2.2.2.1 = s.still.2.2.2.2.2.1 := by
  simp only [State.removed]
  repeat' split
  all_goals simp

@[simp] theorem crc_of_removed (p : PosIx) (s : State) :
    (State.removed p s).still.2.2.2.2.2.2.2.2 = s.still.2.2.2.2.2.2.2.2 := by
  simp only [State.removed]
  repeat' split
  all_goals simp

@[simp] theorem pending_of_holdRecord (h : Handle) (r : Record) (s : State) :
    (State.holdRecord h r s).still.1 = s.still.1 := by
  simp only [State.holdRecord]
  repeat' split
  all_goals simp

@[simp] theorem pins_of_holdRecord (h : Handle) (r : Record) (s : State) :
    (State.holdRecord h r s).still.2.1 = s.still.2.1 := by
  simp only [State.holdRecord]
  repeat' split
  all_goals simp

@[simp] theorem conf_of_holdRecord (h : Handle) (r : Record) (s : State) :
    (State.holdRecord h r s).still.2.2.1 = s.still.2.2.1 := by
  simp only [State.holdRecord]
  repeat' split
  all_goals simp

@[simp] theorem ret_of_holdRecord (h : Handle) (r : Record) (s : State) :
    (State.holdRecord h r s).still.2.2.2.1 = s.still.2.2.2.1 := by
  simp only [State.holdRecord]
  repeat' split
  all_goals simp

@[simp] theorem staging_of_holdRecord (h : Handle) (r : Record) (s : State) :
    (State.holdRecord h r s).still.2.2.2.2.1 = s.still.2.2.2.2.1 := by
  simp only [State.holdRecord]
  repeat' split
  all_goals simp

@[simp] theorem attempts_of_holdRecord (h : Handle) (r : Record) (s : State) :
    (State.holdRecord h r s).still.2.2.2.2.2.1 = s.still.2.2.2.2.2.1 := by
  simp only [State.holdRecord]
  repeat' split
  all_goals simp

@[simp] theorem crc_of_holdRecord (h : Handle) (r : Record) (s : State) :
    (State.holdRecord h r s).still.2.2.2.2.2.2.2.2 = s.still.2.2.2.2.2.2.2.2 := by
  simp only [State.holdRecord]
  repeat' split
  all_goals simp

@[simp] theorem pending_of_rushRecord (h : Handle) (r : Record) (s : State) :
    (State.rushRecord h r s).still.1 = s.still.1 := by
  simp only [State.rushRecord]
  repeat' split
  all_goals simp

@[simp] theorem pins_of_rushRecord (h : Handle) (r : Record) (s : State) :
    (State.rushRecord h r s).still.2.1 = s.still.2.1 := by
  simp only [State.rushRecord]
  repeat' split
  all_goals simp

@[simp] theorem conf_of_rushRecord (h : Handle) (r : Record) (s : State) :
    (State.rushRecord h r s).still.2.2.1 = s.still.2.2.1 := by
  simp only [State.rushRecord]
  repeat' split
  all_goals simp

@[simp] theorem ret_of_rushRecord (h : Handle) (r : Record) (s : State) :
    (State.rushRecord h r s).still.2.2.2.1 = s.still.2.2.2.1 := by
  simp only [State.rushRecord]
  repeat' split
  all_goals simp

@[simp] theorem staging_of_rushRecord (h : Handle) (r : Record) (s : State) :
    (State.rushRecord h r s).still.2.2.2.2.1 = s.still.2.2.2.2.1 := by
  simp only [State.rushRecord]
  repeat' split
  all_goals simp

@[simp] theorem attempts_of_rushRecord (h : Handle) (r : Record) (s : State) :
    (State.rushRecord h r s).still.2.2.2.2.2.1 = s.still.2.2.2.2.2.1 := by
  simp only [State.rushRecord]
  repeat' split
  all_goals simp

@[simp] theorem crc_of_rushRecord (h : Handle) (r : Record) (s : State) :
    (State.rushRecord h r s).still.2.2.2.2.2.2.2.2 = s.still.2.2.2.2.2.2.2.2 := by
  simp only [State.rushRecord]
  repeat' split
  all_goals simp

@[simp] theorem pending_of_wrongCode (s : State) :
    (State.wrongCode s).still.1 = s.still.1 := by
  simp [State.wrongCode]

@[simp] theorem pins_of_wrongCode (s : State) :
    (State.wrongCode s).still.2.1 = s.still.2.1 := by
  simp [State.wrongCode]

@[simp] theorem conf_of_wrongCode (s : State) :
    (State.wrongCode s).still.2.2.1 = s.still.2.2.1 := by
  simp [State.wrongCode]

@[simp] theorem ret_of_wrongCode (s : State) :
    (State.wrongCode s).still.2.2.2.1 = s.still.2.2.2.1 := by
  simp [State.wrongCode]

@[simp] theorem staging_of_wrongCode (s : State) :
    (State.wrongCode s).still.2.2.2.2.1 = s.still.2.2.2.2.1 := by
  simp [State.wrongCode]

@[simp] theorem crc_of_wrongCode (s : State) :
    (State.wrongCode s).still.2.2.2.2.2.2.2.2 = s.still.2.2.2.2.2.2.2.2 := by
  simp [State.wrongCode]

@[simp] theorem pending_of_concede (h : Handle) (r : Record) (s : State) :
    (State.concede h r s).still.1 = s.still.1 := by
  simp only [State.concede]
  repeat' split
  all_goals simp

@[simp] theorem pins_of_concede (h : Handle) (r : Record) (s : State) :
    (State.concede h r s).still.2.1 = s.still.2.1 := by
  simp only [State.concede]
  repeat' split
  all_goals simp

@[simp] theorem conf_of_concede (h : Handle) (r : Record) (s : State) :
    (State.concede h r s).still.2.2.1 = s.still.2.2.1 := by
  simp only [State.concede]
  repeat' split
  all_goals simp

@[simp] theorem ret_of_concede (h : Handle) (r : Record) (s : State) :
    (State.concede h r s).still.2.2.2.1 = s.still.2.2.2.1 := by
  simp only [State.concede]
  repeat' split
  all_goals simp

@[simp] theorem staging_of_concede (h : Handle) (r : Record) (s : State) :
    (State.concede h r s).still.2.2.2.2.1 = s.still.2.2.2.2.1 := by
  simp only [State.concede]
  repeat' split
  all_goals simp

@[simp] theorem crc_of_concede (h : Handle) (r : Record) (s : State) :
    (State.concede h r s).still.2.2.2.2.2.2.2.2 = s.still.2.2.2.2.2.2.2.2 := by
  simp only [State.concede]
  repeat' split
  all_goals simp

@[simp] theorem pending_of_scrapRecord (h : Handle) (r : Record) (s : State) :
    (State.scrapRecord h r s).still.1 = s.still.1 := by
  simp only [State.scrapRecord]
  repeat' split
  all_goals simp

@[simp] theorem pins_of_scrapRecord (h : Handle) (r : Record) (s : State) :
    (State.scrapRecord h r s).still.2.1 = s.still.2.1 := by
  simp only [State.scrapRecord]
  repeat' split
  all_goals simp

@[simp] theorem conf_of_scrapRecord (h : Handle) (r : Record) (s : State) :
    (State.scrapRecord h r s).still.2.2.1 = s.still.2.2.1 := by
  simp only [State.scrapRecord]
  repeat' split
  all_goals simp

@[simp] theorem ret_of_scrapRecord (h : Handle) (r : Record) (s : State) :
    (State.scrapRecord h r s).still.2.2.2.1 = s.still.2.2.2.1 := by
  simp only [State.scrapRecord]
  repeat' split
  all_goals simp

@[simp] theorem staging_of_scrapRecord (h : Handle) (r : Record) (s : State) :
    (State.scrapRecord h r s).still.2.2.2.2.1 = s.still.2.2.2.2.1 := by
  simp only [State.scrapRecord]
  repeat' split
  all_goals simp

@[simp] theorem attempts_of_scrapRecord (h : Handle) (r : Record) (s : State) :
    (State.scrapRecord h r s).still.2.2.2.2.2.1 = s.still.2.2.2.2.2.1 := by
  simp only [State.scrapRecord]
  repeat' split
  all_goals simp

@[simp] theorem crc_of_scrapRecord (h : Handle) (r : Record) (s : State) :
    (State.scrapRecord h r s).still.2.2.2.2.2.2.2.2 = s.still.2.2.2.2.2.2.2.2 := by
  simp only [State.scrapRecord]
  repeat' split
  all_goals simp

@[simp] theorem pending_of_adoptRecord (h : Handle) (r : Record) (s : State) :
    (State.adoptRecord h r s).still.1 = s.still.1 := by
  simp [State.adoptRecord]

@[simp] theorem pins_of_adoptRecord (h : Handle) (r : Record) (s : State) :
    (State.adoptRecord h r s).still.2.1 = s.still.2.1 := by
  simp [State.adoptRecord]

@[simp] theorem conf_of_adoptRecord (h : Handle) (r : Record) (s : State) :
    (State.adoptRecord h r s).still.2.2.1 = s.still.2.2.1 := by
  simp [State.adoptRecord]

@[simp] theorem ret_of_adoptRecord (h : Handle) (r : Record) (s : State) :
    (State.adoptRecord h r s).still.2.2.2.1 = s.still.2.2.2.1 := by
  simp [State.adoptRecord]

@[simp] theorem staging_of_adoptRecord (h : Handle) (r : Record) (s : State) :
    (State.adoptRecord h r s).still.2.2.2.2.1 = s.still.2.2.2.2.1 := by
  simp [State.adoptRecord]

@[simp] theorem attempts_of_adoptRecord (h : Handle) (r : Record) (s : State) :
    (State.adoptRecord h r s).still.2.2.2.2.2.1 = s.still.2.2.2.2.2.1 := by
  simp [State.adoptRecord]

@[simp] theorem crc_of_adoptRecord (h : Handle) (r : Record) (s : State) :
    (State.adoptRecord h r s).still.2.2.2.2.2.2.2.2 = s.still.2.2.2.2.2.2.2.2 := by
  simp [State.adoptRecord]

@[simp] theorem pending_of_adopt (h : Handle) (r : Record) (s : State) :
    (State.adopt h r s).still.1 = s.still.1 := by
  simp only [State.adopt]
  repeat' split
  all_goals simp

@[simp] theorem pins_of_adopt (h : Handle) (r : Record) (s : State) :
    (State.adopt h r s).still.2.1 = s.still.2.1 := by
  simp only [State.adopt]
  repeat' split
  all_goals simp

@[simp] theorem conf_of_adopt (h : Handle) (r : Record) (s : State) :
    (State.adopt h r s).still.2.2.1 = s.still.2.2.1 := by
  simp only [State.adopt]
  repeat' split
  all_goals simp

@[simp] theorem ret_of_adopt (h : Handle) (r : Record) (s : State) :
    (State.adopt h r s).still.2.2.2.1 = s.still.2.2.2.1 := by
  simp only [State.adopt]
  repeat' split
  all_goals simp

@[simp] theorem staging_of_adopt (h : Handle) (r : Record) (s : State) :
    (State.adopt h r s).still.2.2.2.2.1 = s.still.2.2.2.2.1 := by
  simp only [State.adopt]
  repeat' split
  all_goals simp

@[simp] theorem crc_of_adopt (h : Handle) (r : Record) (s : State) :
    (State.adopt h r s).still.2.2.2.2.2.2.2.2 = s.still.2.2.2.2.2.2.2.2 := by
  simp only [State.adopt]
  repeat' split
  all_goals simp

@[simp] theorem pending_of_powerFail (s : State) :
    (State.powerFail s).still.1 = s.still.1 := by
  simp only [State.powerFail]
  split
  all_goals (simp; try rfl)

@[simp] theorem conf_of_powerFail (s : State) :
    (State.powerFail s).still.2.2.1 = s.still.2.2.1 := by
  simp only [State.powerFail]
  split
  all_goals (simp; try rfl)

@[simp] theorem ret_of_powerFail (s : State) :
    (State.powerFail s).still.2.2.2.1 = s.still.2.2.2.1 := by
  simp only [State.powerFail]
  split
  all_goals (simp; try rfl)

@[simp] theorem staging_of_powerFail (s : State) :
    (State.powerFail s).still.2.2.2.2.1 = s.still.2.2.2.2.1 := by
  simp only [State.powerFail]
  split
  all_goals (simp; try rfl)

@[simp] theorem attempts_of_powerFail (s : State) :
    (State.powerFail s).still.2.2.2.2.2.1 = s.still.2.2.2.2.2.1 := by
  simp only [State.powerFail]
  split
  all_goals (simp; try rfl)

@[simp] theorem crc_of_powerFail (s : State) :
    (State.powerFail s).still.2.2.2.2.2.2.2.2 = s.still.2.2.2.2.2.2.2.2 := by
  simp only [State.powerFail]
  split
  all_goals (simp; try rfl)

theorem still_add (x : RestoreRun) (e : Byte × List Byte) : (x.add e).state.still = x.state.still := by
  simp only [RestoreRun.add]
  repeat' split
  all_goals simp

theorem still_addAll (l : List (Byte × List Byte)) (x : RestoreRun) : (l.foldl RestoreRun.add x).state.still = x.state.still := by
  induction l generalizing x with
  | nil => rfl
  | cons e l ih => rw [List.foldl_cons, ih, still_add]

theorem still_restoreRecords (s : State) : s.restoreRecords.state.still = s.still := by
  simp [State.restoreRecords, still_addAll]

theorem still_restore (s : State) : s.restore.2.2.still = s.still ∨ s.restore.2.2.still = s.invalidate.still := by
  simp only [State.restore]
  split
  all_goals simp [still_restoreRecords]

@[simp] theorem pending_of_close (s : State) :
    (State.close s).still.1 = s.still.1 := by
  simp only [State.close]
  rcases still_restore s.openPositions with h | h <;> simp [h]

@[simp] theorem pins_of_close (s : State) :
    (State.close s).still.2.1 = s.still.2.1 := by
  simp only [State.close]
  rcases still_restore s.openPositions with h | h <;> simp [h]

@[simp] theorem staging_of_close (s : State) :
    (State.close s).still.2.2.2.2.1 = s.still.2.2.2.2.1 := by
  simp only [State.close]
  rcases still_restore s.openPositions with h | h <;> simp [h]

@[simp] theorem attempts_of_close (s : State) :
    (State.close s).still.2.2.2.2.2.1 = s.still.2.2.2.2.2.1 := by
  simp only [State.close]
  rcases still_restore s.openPositions with h | h <;> simp [h]

@[simp] theorem crc_of_close (s : State) :
    (State.close s).still.2.2.2.2.2.2.2.2 = s.still.2.2.2.2.2.2.2.2 := by
  simp only [State.close]
  rcases still_restore s.openPositions with h | h <;> simp [h]

@[simp] theorem pending_of_tryClose (s : State) :
    (State.tryClose s).still.1 = s.still.1 := by
  simp only [State.tryClose]
  repeat' split
  all_goals simp

@[simp] theorem pins_of_tryClose (s : State) :
    (State.tryClose s).still.2.1 = s.still.2.1 := by
  simp only [State.tryClose]
  repeat' split
  all_goals simp

@[simp] theorem staging_of_tryClose (s : State) :
    (State.tryClose s).still.2.2.2.2.1 = s.still.2.2.2.2.1 := by
  simp only [State.tryClose]
  repeat' split
  all_goals simp

@[simp] theorem attempts_of_tryClose (s : State) :
    (State.tryClose s).still.2.2.2.2.2.1 = s.still.2.2.2.2.2.1 := by
  simp only [State.tryClose]
  repeat' split
  all_goals simp

@[simp] theorem crc_of_tryClose (s : State) :
    (State.tryClose s).still.2.2.2.2.2.2.2.2 = s.still.2.2.2.2.2.2.2.2 := by
  simp only [State.tryClose]
  repeat' split
  all_goals simp

@[simp] theorem pending_of_configWrite (item : Byte) (v : BitVec 16) (s : State) :
    (State.configWrite item v s).still.1 = s.still.1 := by
  simp only [State.configWrite]
  repeat' split
  all_goals rfl

@[simp] theorem pins_of_configWrite (item : Byte) (v : BitVec 16) (s : State) :
    (State.configWrite item v s).still.2.1 = s.still.2.1 := by
  simp only [State.configWrite]
  repeat' split
  all_goals rfl

@[simp] theorem ret_of_configWrite (item : Byte) (v : BitVec 16) (s : State) :
    (State.configWrite item v s).still.2.2.2.1 = s.still.2.2.2.1 := by
  simp only [State.configWrite]
  repeat' split
  all_goals rfl

@[simp] theorem staging_of_configWrite (item : Byte) (v : BitVec 16) (s : State) :
    (State.configWrite item v s).still.2.2.2.2.1 = s.still.2.2.2.2.1 := by
  simp only [State.configWrite]
  repeat' split
  all_goals rfl

@[simp] theorem attempts_of_configWrite (item : Byte) (v : BitVec 16) (s : State) :
    (State.configWrite item v s).still.2.2.2.2.2.1 = s.still.2.2.2.2.2.1 := by
  simp only [State.configWrite]
  repeat' split
  all_goals rfl

@[simp] theorem crc_of_configWrite (item : Byte) (v : BitVec 16) (s : State) :
    (State.configWrite item v s).still.2.2.2.2.2.2.2.2 = s.still.2.2.2.2.2.2.2.2 := by
  simp only [State.configWrite]
  repeat' split
  all_goals rfl

end Sys2Proof.Machine
end

