-- ==== Sys2Proof/Laws/FrameAlarms.lean ====
section
/-! SUPPORT. Which operations set no alarm flag: one lemma per operation, proved in the order the operations are built in. -/

namespace Sys2Proof.Machine

@[simp] theorem alarms_ite (c : Prop) [Decidable c] (x y : State) : (if c then x else y).port.alarms = if c then x.port.alarms else y.port.alarms := by
  split <;> rfl

@[simp] theorem alarms_foldl {α} (f : State → α → State) (hf : ∀ s a, (f s a).port.alarms = s.port.alarms) (l : List α) (s : State) :
    (l.foldl f s).port.alarms = s.port.alarms := by
  induction l generalizing s with
  | nil => rfl
  | cons a l ih => rw [List.foldl_cons, ih, hf]

@[simp] theorem alarms_setSlot (h : Handle) (x : Slot) (s : State) :
    (State.setSlot h x s).port.alarms = s.port.alarms := by
  simp [State.setSlot]

@[simp] theorem alarms_setRec (h : Handle) (r : Record) (s : State) :
    (State.setRec h r s).port.alarms = s.port.alarms := by
  simp [State.setRec]

@[simp] theorem alarms_updRec (h : Handle) (f : Record → Record) (s : State) :
    (State.updRec h f s).port.alarms = s.port.alarms := by
  simp only [State.updRec]
  repeat' split
  all_goals simp

@[simp] theorem alarms_setWaits (h : Handle) (ws : List SlotWait) (s : State) :
    (State.setWaits h ws s).port.alarms = s.port.alarms := by
  simp [State.setWaits]

@[simp] theorem alarms_freeSlot (h : Handle) (s : State) : (State.freeSlot h s).port.alarms = s.port.alarms := by
  simp [State.freeSlot]

@[simp] theorem alarms_enqueue (h : Handle) (rush : Bool) (s : State) :
    (State.enqueue h rush s).port.alarms = s.port.alarms := by
  simp only [State.enqueue]
  repeat' split
  all_goals simp

@[simp] theorem alarms_unqueue (h : Handle) (s : State) : (State.unqueue h s).port.alarms = s.port.alarms := by
  simp [State.unqueue]

@[simp] theorem alarms_updPos (p : PosIx) (f : Position → Position) (s : State) :
    (State.updPos p f s).port.alarms = s.port.alarms := by
  simp [State.updPos]

@[simp] theorem alarms_vacate (p : PosIx) (st : PosState) (s : State) :
    (State.vacate p st s).port.alarms = s.port.alarms := by
  simp [State.vacate]

@[simp] theorem alarms_vacateOpt (p : Option PosIx) (st : PosState) (s : State) :
    (State.vacate? p st s).port.alarms = s.port.alarms := by
  simp only [State.vacate?]
  repeat' split
  all_goals simp

@[simp] theorem alarms_respond (st : Status) (data : BitVec 24) (s : State) :
    (State.respond st data s).port.alarms = s.port.alarms := by
  simp [State.respond]

@[simp] theorem alarms_ok (d2 d1 d0 : Byte) (s : State) : (State.ok d2 d1 d0 s).port.alarms = s.port.alarms := by
  simp [State.ok]

@[simp] theorem alarms_refuse (r : Reason) (d0 : Byte) (s : State) :
    (State.refuse r d0 s).port.alarms = s.port.alarms := by
  simp [State.refuse]

@[simp] theorem alarms_badArgument (code : Byte) (s : State) :
    (State.badArgument code s).port.alarms = s.port.alarms := by
  simp [State.badArgument]

@[simp] theorem alarms_deliver (s : State) : (State.deliver s).port.alarms = s.port.alarms := by
  simp [State.deliver]

@[simp] theorem alarms_stage (bs : List Byte) (s : State) : (State.stage bs s).port.alarms = s.port.alarms := by
  simp [State.stage]

@[simp] theorem alarms_queueFrame (o : Origin) (f : Frame) (s : State) :
    (State.queueFrame o f s).port.alarms = s.port.alarms := by
  simp only [State.queueFrame]
  repeat' split
  all_goals simp

@[simp] theorem alarms_setTx (l : List TxEntry) (s : State) : (State.setTx l s).port.alarms = s.port.alarms := by
  simp [State.setTx]

@[simp] theorem alarms_removeTx (o : Origin) (s : State) : (State.removeTx o s).port.alarms = s.port.alarms := by
  simp [State.removeTx]

@[simp] theorem alarms_updTx (o : Origin) (f : TxEntry → TxEntry) (s : State) :
    (State.updTx o f s).port.alarms = s.port.alarms := by
  simp [State.updTx]

@[simp] theorem alarms_withdrawTx (o : Origin) (s : State) : (State.withdrawTx o s).port.alarms = s.port.alarms := by
  simp only [State.withdrawTx]
  repeat' split
  all_goals simp

@[simp] theorem alarms_replaceTx (o : Origin) (f : Frame) (s : State) :
    (State.replaceTx o f s).port.alarms = s.port.alarms := by
  simp only [State.replaceTx]
  repeat' split
  all_goals simp

@[simp] theorem alarms_queueOrReplace (o : Origin) (f : Frame) (s : State) :
    (State.queueOrReplace o f s).port.alarms = s.port.alarms := by
  simp only [State.queueOrReplace]
  repeat' split
  all_goals simp

@[simp] theorem alarms_clearTx (s : State) : (State.clearTx s).port.alarms = s.port.alarms := by
  simp [State.clearTx]

@[simp] theorem alarms_queueAnswer (f : Frame) (s : State) : (State.queueAnswer f s).port.alarms = s.port.alarms := by
  simp only [State.queueAnswer]
  repeat' split
  all_goals simp

@[simp] theorem alarms_withdrawAnswers (cond : Frame → Bool) (s : State) :
    (State.withdrawAnswers cond s).port.alarms = s.port.alarms := by
  simp only [State.withdrawAnswers]
  apply alarms_foldl
  intro s i
  repeat' split
  all_goals simp

@[simp] theorem alarms_setClaim (p : PosIx) (c : ClaimState) (s : State) :
    (State.setClaim p c s).port.alarms = s.port.alarms := by
  simp [State.setClaim]

@[simp] theorem alarms_setRemembered (p : PosIx) (b : Bool) (s : State) :
    (State.setRemembered p b s).port.alarms = s.port.alarms := by
  simp [State.setRemembered]

@[simp] theorem alarms_queueClaim (p : PosIx) (s : State) : (State.queueClaim p s).port.alarms = s.port.alarms := by
  simp [State.queueClaim]

@[simp] theorem alarms_askClaim (p : PosIx) (s : State) : (State.askClaim p s).port.alarms = s.port.alarms := by
  simp only [State.askClaim]
  repeat' split
  all_goals simp

@[simp] theorem alarms_queueRelease (p : PosIx) (s : State) : (State.queueRelease p s).port.alarms = s.port.alarms := by
  simp [State.queueRelease]

@[simp] theorem alarms_giveUpClaim (p : PosIx) (s : State) : (State.giveUpClaim p s).port.alarms = s.port.alarms := by
  simp only [State.giveUpClaim]
  repeat' split
  all_goals simp

@[simp] theorem alarms_giveUpClaimOpt (p : Option PosIx) (s : State) :
    (State.giveUpClaim? p s).port.alarms = s.port.alarms := by
  simp only [State.giveUpClaim?]
  repeat' split
  all_goals simp

@[simp] theorem alarms_claimWithdrawn (p : PosIx) (s : State) :
    (State.claimWithdrawn p s).port.alarms = s.port.alarms := by
  simp only [State.claimWithdrawn]
  repeat' split
  all_goals simp

@[simp] theorem alarms_dropClaims (s : State) : (State.dropClaims s).port.alarms = s.port.alarms := by
  simp [State.dropClaims]

@[simp] theorem alarms_pumpWaits (h : Handle) (ws : List SlotWait) (s : State) :
    (State.pumpWaits h ws s).port.alarms = s.port.alarms := by
  induction ws generalizing s with
  | nil => simp [State.pumpWaits]
  | cons w ws ih => simp only [State.pumpWaits]; split <;> simp [ih]

@[simp] theorem alarms_pumpSlot (h : Handle) (s : State) : (State.pumpSlot h s).port.alarms = s.port.alarms := by
  simp only [State.pumpSlot]
  repeat' split
  all_goals simp

@[simp] theorem alarms_sendSlot (h : Handle) (w : SlotWait) (s : State) :
    (State.sendSlot h w s).port.alarms = s.port.alarms := by
  simp [State.sendSlot]

@[simp] theorem alarms_dropWaits (h : Handle) (w : SlotWait) (s : State) :
    (State.dropWaits h w s).port.alarms = s.port.alarms := by
  simp [State.dropWaits]

@[simp] theorem alarms_withdrawSlot (h : Handle) (k : FrameKind) (s : State) :
    (State.withdrawSlot h k s).port.alarms = s.port.alarms := by
  simp only [State.withdrawSlot]
  repeat' split
  all_goals simp

@[simp] theorem alarms_roundFrom (h : Handle) (k : Nat) (s : State) :
    (State.roundFrom h k s).port.alarms = s.port.alarms := by
  simp only [State.roundFrom]
  repeat' split
  all_goals simp

@[simp] theorem alarms_startRound (h : Handle) (s : State) : (State.startRound h s).port.alarms = s.port.alarms := by
  simp only [State.startRound]
  repeat' split
  all_goals simp

@[simp] theorem alarms_withdrawBooks (h : Handle) (s : State) : (State.withdrawBooks h s).port.alarms = s.port.alarms := by
  simp [State.withdrawBooks]

@[simp] theorem alarms_failCandidate (h : Handle) (s : State) :
    (State.failCandidate h s).port.alarms = s.port.alarms := by
  simp only [State.failCandidate]
  repeat' split
  all_goals simp

@[simp] theorem alarms_sendRenewal (h : Handle) (s : State) : (State.sendRenewal h s).port.alarms = s.port.alarms := by
  simp only [State.sendRenewal]
  repeat' split
  all_goals simp

@[simp] theorem alarms_endBooking (h : Handle) (s : State) : (State.endBooking h s).port.alarms = s.port.alarms := by
  simp only [State.endBooking]
  repeat' split
  all_goals simp

@[simp] theorem alarms_startTransfer (h : Handle) (s : State) :
    (State.startTransfer h s).port.alarms = s.port.alarms := by
  simp only [State.startTransfer]
  repeat' split
  all_goals simp

@[simp] theorem alarms_stopTransfer (h : Handle) (s : State) :
    (State.stopTransfer h s).port.alarms = s.port.alarms := by
  simp [State.stopTransfer]

@[simp] theorem alarms_stopPositionOpt (p : Option PosIx) (s : State) :
    (State.stopPosition? p s).port.alarms = s.port.alarms := by
  simp only [State.stopPosition?]
  repeat' split
  all_goals simp

@[simp] theorem alarms_judgeReady (h : Handle) (s : State) : (State.judgeReady h s).port.alarms = s.port.alarms := by
  simp only [State.judgeReady]
  repeat' split
  all_goals simp

@[simp] theorem alarms_claimStands (p : PosIx) (st : ClaimState) (s : State) :
    (State.claimStands p st s).port.alarms = s.port.alarms := by
  simp only [State.claimStands]
  repeat' split
  all_goals simp

@[simp] theorem alarms_ownRelease (payload : List Byte) (s : State) :
    (State.ownRelease payload s).port.alarms = s.port.alarms := by
  simp only [State.ownRelease]
  repeat' split
  all_goals simp

@[simp] theorem alarms_dropTable (s : State) : (State.dropTable s).port.alarms = s.port.alarms := by
  simp [State.dropTable]

@[simp] theorem alarms_setStatus (cond : Booking → Bool) (st : BookingStatus) (s : State) :
    (State.setStatus cond st s).port.alarms = s.port.alarms := by
  simp [State.setStatus]

@[simp] theorem alarms_deleteRecord (h : Handle) (s : State) :
    (State.deleteRecord h s).port.alarms = s.port.alarms := by
  simp [State.deleteRecord]

@[simp] theorem alarms_answerRefused (a : Addr) (t : Tag) (r : Reason) (s : State) :
    (State.answerRefused a t r s).port.alarms = s.port.alarms := by
  simp [State.answerRefused]

@[simp] theorem alarms_renewEntry (a : Addr) (q : BookRequest) (b : Booking) (s : State) :
    (State.renewEntry a q b s).port.alarms = s.port.alarms := by
  simp [State.renewEntry]

@[simp] theorem alarms_completeImage (b : Booking) (im : List Byte) (s : State) :
    (State.completeImage b im s).port.alarms = s.port.alarms := by
  simp only [State.completeImage]
  repeat' split
  all_goals simp

@[simp] theorem alarms_takePart (b : Booking) (a : Assembly) (s : State) :
    (State.takePart b a s).port.alarms = s.port.alarms := by
  simp only [State.takePart]
  repeat' split
  all_goals simp

@[simp] theorem alarms_rejectOpen (b : Booking) (s : State) : (State.rejectOpen b s).port.alarms = s.port.alarms := by
  simp only [State.rejectOpen]
  repeat' split
  all_goals simp

@[simp] theorem alarms_takeFirstPart (a : Addr) (c : CarryPart) (s : State) :
    (State.takeFirstPart a c s).port.alarms = s.port.alarms := by
  simp only [State.takeFirstPart]
  repeat' split
  all_goals simp

@[simp] theorem alarms_takeLaterPart (a : Addr) (c : CarryPart) (s : State) :
    (State.takeLaterPart a c s).port.alarms = s.port.alarms := by
  simp only [State.takeLaterPart]
  repeat' split
  all_goals simp

@[simp] theorem alarms_takeCarry (a : Addr) (c : CarryPart) (s : State) :
    (State.takeCarry a c s).port.alarms = s.port.alarms := by
  simp only [State.takeCarry]
  repeat' split
  all_goals simp

@[simp] theorem alarms_takeBooked (a : Addr) (t : Tag) (p : PosIx) (s : State) :
    (State.takeBooked a t p s).port.alarms = s.port.alarms := by
  simp only [State.takeBooked]
  repeat' split
  all_goals simp

@[simp] theorem alarms_answerLocate (a : Addr) (t : Tag) (s : State) :
    (State.answerLocate a t s).port.alarms = s.port.alarms := by
  simp only [State.answerLocate]
  repeat' split
  all_goals simp

@[simp] theorem alarms_clearOutbound (s : State) (p : PosIx) :
    (State.clearOutbound s p).port.alarms = s.port.alarms := by
  simp only [State.clearOutbound]
  repeat' split
  all_goals simp

@[simp] theorem alarms_updPeer (a : Addr) (f : Peer → Peer) (s : State) :
    (State.updPeer a f s).port.alarms = s.port.alarms := by
  simp [State.updPeer]

@[simp] theorem alarms_setLine (l : LineState) (s : State) : (State.setLine l s).port.alarms = s.port.alarms := by
  simp [State.setLine]

@[simp] theorem alarms_restartRound (a : Addr) (s : State) (h : Handle) :
    (State.restartRound a s h).port.alarms = s.port.alarms := by
  simp only [State.restartRound]
  repeat' split
  all_goals simp

@[simp] theorem alarms_restartRounds (a : Addr) (q : PresenceReport) (s : State) :
    (State.restartRounds a q s).port.alarms = s.port.alarms := by
  simp only [State.restartRounds]
  repeat' split
  all_goals simp

@[simp] theorem alarms_noteSender (a : Addr) (s : State) : (State.noteSender a s).port.alarms = s.port.alarms := by
  simp only [State.noteSender]
  repeat' split
  all_goals simp

@[simp] theorem alarms_sendUpkeep (f : Frame) (s : State) : (State.sendUpkeep f s).port.alarms = s.port.alarms := by
  simp only [State.sendUpkeep]
  repeat' split
  all_goals simp

@[simp] theorem alarms_pumpUpkeep (s : State) : (State.pumpUpkeep s).port.alarms = s.port.alarms := by
  simp only [State.pumpUpkeep]
  repeat' split
  all_goals simp

@[simp] theorem alarms_withdrawUpkeep (kinds : List FrameKind) (s : State) :
    (State.withdrawUpkeep kinds s).port.alarms = s.port.alarms := by
  simp only [State.withdrawUpkeep]
  repeat' split
  all_goals simp

@[simp] theorem alarms_stopServing (s : State) : (State.stopServing s).port.alarms = s.port.alarms := by
  simp [State.stopServing]

@[simp] theorem alarms_stopServingOf (a : Addr) (s : State) :
    (State.stopServingOf a s).port.alarms = s.port.alarms := by
  simp only [State.stopServingOf]
  repeat' split
  all_goals simp

@[simp] theorem alarms_setJoinQueue (l : List Joiner) (s : State) :
    (State.setJoinQueue l s).port.alarms = s.port.alarms := by
  simp [State.setJoinQueue]

@[simp] theorem alarms_leaveQueue (a : Addr) (s : State) : (State.leaveQueue a s).port.alarms = s.port.alarms := by
  simp [State.leaveQueue]

@[simp] theorem alarms_enterQueue (a : Addr) (s : State) : (State.enterQueue a s).port.alarms = s.port.alarms := by
  simp only [State.enterQueue]
  repeat' split
  all_goals simp

@[simp] theorem alarms_judgeProvider (a : Addr) (s : State) :
    (State.judgeProvider a s).port.alarms = s.port.alarms := by
  simp only [State.judgeProvider]
  repeat' split
  all_goals simp

@[simp] theorem alarms_tryServe (s : State) : (State.tryServe s).port.alarms = s.port.alarms := by
  simp only [State.tryServe]
  repeat' split
  all_goals simp

@[simp] theorem alarms_snapAppeared (s : State) : (State.snapAppeared s).port.alarms = s.port.alarms := by
  simp only [State.snapAppeared]
  repeat' split
  all_goals simp

@[simp] theorem alarms_startJoin (s : State) : (State.startJoin s).port.alarms = s.port.alarms := by
  simp [State.startJoin]

@[simp] theorem alarms_joinedRecord (s : State) (h : Handle) :
    (State.joinedRecord s h).port.alarms = s.port.alarms := by
  simp only [State.joinedRecord]
  repeat' split
  all_goals simp

@[simp] theorem alarms_joinedPosition (s : State) (p : PosIx) :
    (State.joinedPosition s p).port.alarms = s.port.alarms := by
  simp only [State.joinedPosition]
  repeat' split
  all_goals simp

@[simp] theorem alarms_loadSnapshot (n : SnapIn) (s : State) :
    (State.loadSnapshot n s).port.alarms = s.port.alarms := by
  simp [State.loadSnapshot]

@[simp] theorem alarms_setInTx (x : InTx) (s : State) : (State.setInTx x s).port.alarms = s.port.alarms := by
  simp [State.setInTx]

@[simp] theorem alarms_beginTx (s : State) : (State.beginTx s).port.alarms = s.port.alarms := by
  simp only [State.beginTx]
  repeat' split
  all_goals simp

@[simp] theorem alarms_restartStall (s : State) : (State.restartStall s).port.alarms = s.port.alarms := by
  simp [State.restartStall]

@[simp] theorem alarms_pumpOrigin (o : Origin) (s : State) : (State.pumpOrigin o s).port.alarms = s.port.alarms := by
  simp only [State.pumpOrigin]
  repeat' split
  all_goals simp

@[simp] theorem alarms_finishOwn (own : OwnTx) (s : State) : (State.finishOwn own s).port.alarms = s.port.alarms := by
  simp only [State.finishOwn]
  repeat' split
  all_goals simp

@[simp] theorem alarms_countClean (s : State) : (State.countClean s).port.alarms = s.port.alarms := by
  simp [State.countClean]

@[simp] theorem alarms_noteBar (k : FrameKind) (payload : List Byte) (s : State) :
    (State.noteBar k payload s).port.alarms = s.port.alarms := by
  simp only [State.noteBar]
  repeat' split
  all_goals simp

@[simp] theorem alarms_takenSaved (own : OwnTx) (s : State) : (State.takenSaved own s).port.alarms = s.port.alarms := by
  simp only [State.takenSaved]
  repeat' split
  all_goals simp

@[simp] theorem alarms_appearUndefined (sender : Addr) (s : State) :
    (State.appearUndefined sender s).port.alarms = s.port.alarms := by
  simp only [State.appearUndefined]
  repeat' split
  all_goals simp

@[simp] theorem alarms_bookAppeared (own : OwnTx) (dest : BitVec 5) (q : BookRequest) (s : State) :
    (State.bookAppeared own dest q s).port.alarms = s.port.alarms := by
  simp only [State.bookAppeared]
  repeat' split
  all_goals simp

@[simp] theorem alarms_bookedAppeared (dest : BitVec 5) (t : Tag) (s : State) :
    (State.bookedAppeared dest t s).port.alarms = s.port.alarms := by
  simp [State.bookedAppeared]

@[simp] theorem alarms_onBooked (own : OwnTx) (sender : Addr) (dest : BitVec 5) (payload : List Byte) (s : State) :
    (State.onBooked own sender dest payload s).port.alarms = s.port.alarms := by
  simp only [State.onBooked]
  repeat' split
  all_goals simp

@[simp] theorem alarms_locateAppeared (t : Tag) (s : State) :
    (State.locateAppeared t s).port.alarms = s.port.alarms := by
  simp only [State.locateAppeared]
  repeat' split
  all_goals simp

@[simp] theorem alarms_onLocate (own : OwnTx) (sender : Addr) (payload : List Byte) (s : State) :
    (State.onLocate own sender payload s).port.alarms = s.port.alarms := by
  simp only [State.onLocate]
  repeat' split
  all_goals simp

@[simp] theorem alarms_carryAppeared (own : OwnTx) (index : Nat) (s : State) :
    (State.carryAppeared own index s).port.alarms = s.port.alarms := by
  simp only [State.carryAppeared]
  repeat' split
  all_goals simp

@[simp] theorem alarms_onCarry (own : OwnTx) (sender : Addr) (dest : BitVec 5) (payload : List Byte) (s : State) :
    (State.onCarry own sender dest payload s).port.alarms = s.port.alarms := by
  simp only [State.onCarry]
  repeat' split
  all_goals simp

@[simp] theorem alarms_answerExpired (h : Handle) (s : State) :
    (State.answerExpired h s).port.alarms = s.port.alarms := by
  simp only [State.answerExpired]
  repeat' split
  all_goals simp

@[simp] theorem alarms_partGapExpired (p : PosIx) (s : State) :
    (State.partGapExpired p s).port.alarms = s.port.alarms := by
  simp only [State.partGapExpired]
  repeat' split
  all_goals simp

@[simp] theorem alarms_departureExpired (a : Addr) (s : State) :
    (State.departureExpired a s).port.alarms = s.port.alarms := by
  simp only [State.departureExpired]
  repeat' split
  all_goals simp

@[simp] theorem alarms_presenceExpired (s : State) : (State.presenceExpired s).port.alarms = s.port.alarms := by
  simp only [State.presenceExpired]
  repeat' split
  all_goals simp

@[simp] theorem alarms_advancePos (s : State) (p : PosIx) : (State.advancePos s p).port.alarms = s.port.alarms := by
  simp only [State.advancePos]
  repeat' split
  all_goals simp

@[simp] theorem alarms_advance (s : State) : (State.advance s).port.alarms = s.port.alarms := by
  simp [State.advance]

@[simp] theorem alarms_fireDeparture (s : State) (a : Addr) :
    (State.fireDeparture s a).port.alarms = s.port.alarms := by
  simp only [State.fireDeparture]
  repeat' split
  all_goals simp

@[simp] theorem alarms_pauseForPower (s : State) (p : PosIx) :
    (State.pauseForPower s p).port.alarms = s.port.alarms := by
  simp only [State.pauseForPower]
  repeat' split
  all_goals simp

@[simp] theorem alarms_beginWrite (s : State) : (State.beginWrite s).port.alarms = s.port.alarms := by
  simp only [State.beginWrite]
  repeat' split
  all_goals simp

@[simp] theorem alarms_endWrite (s : State) : (State.endWrite s).port.alarms = s.port.alarms := by
  simp only [State.endWrite]
  repeat' split
  all_goals simp

@[simp] theorem alarms_restorePosition (im : List Byte) (s : State) (p : PosIx) :
    (State.restorePosition im s p).port.alarms = s.port.alarms := by
  simp only [State.restorePosition]
  repeat' split
  all_goals simp

@[simp] theorem alarms_cleanLink (s : State) (h : Handle) : (State.cleanLink s h).port.alarms = s.port.alarms := by
  simp [State.cleanLink]

@[simp] theorem alarms_restoreArrival (s : State) (h : Handle) :
    (State.restoreArrival s h).port.alarms = s.port.alarms := by
  simp only [State.restoreArrival]
  repeat' split
  all_goals simp

@[simp] theorem alarms_rebuildFreeList (s : State) : (State.rebuildFreeList s).port.alarms = s.port.alarms := by
  simp [State.rebuildFreeList]

@[simp] theorem alarms_invalidate (s : State) : (State.invalidate s).port.alarms = s.port.alarms := by
  simp [State.invalidate]

@[simp] theorem alarms_openPositions (s : State) : (State.openPositions s).port.alarms = s.port.alarms := by
  simp [State.openPositions]

@[simp] theorem alarms_configWrite (item : Byte) (v : BitVec 16) (s : State) :
    (State.configWrite item v s).port.alarms = s.port.alarms := by
  simp only [State.configWrite]
  repeat' split
  all_goals simp

@[simp] theorem alarms_useSeq (q : BitVec 16) (s : State) : (State.useSeq q s).port.alarms = s.port.alarms := by
  simp [State.useSeq]

@[simp] theorem alarms_rushRecord (h : Handle) (r : Record) (s : State) :
    (State.rushRecord h r s).port.alarms = s.port.alarms := by
  simp only [State.rushRecord]
  repeat' split
  all_goals simp

@[simp] theorem alarms_scrapPosition (p : Option PosIx) (s : State) :
    (State.scrapPosition p s).port.alarms = s.port.alarms := by
  simp only [State.scrapPosition]
  repeat' split
  all_goals simp

@[simp] theorem alarms_stopLocate (h : Handle) (s : State) : (State.stopLocate h s).port.alarms = s.port.alarms := by
  simp [State.stopLocate]

@[simp] theorem alarms_setIlk (p : PosIx) (level : Bool) (s : State) :
    (State.setIlk p level s).port.alarms = s.port.alarms := by
  simp [State.setIlk]

@[simp] theorem alarms_pauseStep (p : PosIx) (s : State) : (State.pauseStep p s).port.alarms = s.port.alarms := by
  simp only [State.pauseStep]
  repeat' split
  all_goals simp

@[simp] theorem alarms_resumeStep (p : PosIx) (s : State) : (State.resumeStep p s).port.alarms = s.port.alarms := by
  simp only [State.resumeStep]
  repeat' split
  all_goals simp

@[simp] theorem alarms_departureDue (a : Addr) (s : State) : (State.departureDue a s).port.alarms = s.port.alarms := by
  simp [State.departureDue]

@[simp] theorem alarms_sendLeave (s : State) : (State.sendLeave s).port.alarms = s.port.alarms := by
  simp [State.sendLeave]

end Sys2Proof.Machine
end

