-- ==== Sys2Proof/Laws/FrameBookings.lean ====
section
/-! SUPPORT. Which operations leave the booking list alone: one lemma per operation, proved in the order the operations are built in. -/

namespace Sys2Proof.Machine

@[simp] theorem bookings_ite (c : Prop) [Decidable c] (x y : State) : (if c then x else y).bookings = if c then x.bookings else y.bookings := by
  split <;> rfl

@[simp] theorem bookings_foldl {α} (f : State → α → State) (hf : ∀ s a, (f s a).bookings = s.bookings) (l : List α) (s : State) :
    (l.foldl f s).bookings = s.bookings := by
  induction l generalizing s with
  | nil => rfl
  | cons a l ih => rw [List.foldl_cons, ih, hf]

@[simp] theorem bookings_updRec (h : Handle) (f : Record → Record) (s : State) :
    (State.updRec h f s).bookings = s.bookings := by
  simp only [State.updRec]
  repeat' split
  all_goals simp

@[simp] theorem bookings_vacateOpt (p : Option PosIx) (st : PosState) (s : State) :
    (State.vacate? p st s).bookings = s.bookings := by
  simp only [State.vacate?]
  repeat' split
  all_goals simp

@[simp] theorem bookings_post (e : Event) (s : State) : (State.post e s).bookings = s.bookings := by
  simp only [State.post]
  repeat' split
  all_goals simp

@[simp] theorem bookings_postLineState (c : Cause) (s : State) : (State.postLineState c s).bookings = s.bookings := by
  simp [State.postLineState]

@[simp] theorem bookings_ok (d2 d1 d0 : Byte) (s : State) : (State.ok d2 d1 d0 s).bookings = s.bookings := by
  simp [State.ok]

@[simp] theorem bookings_refuse (r : Reason) (d0 : Byte) (s : State) : (State.refuse r d0 s).bookings = s.bookings := by
  simp [State.refuse]

@[simp] theorem bookings_badArgument (code : Byte) (s : State) : (State.badArgument code s).bookings = s.bookings := by
  simp [State.badArgument]

@[simp] theorem bookings_queueFrame (o : Origin) (f : Frame) (s : State) :
    (State.queueFrame o f s).bookings = s.bookings := by
  simp only [State.queueFrame]
  repeat' split
  all_goals simp

@[simp] theorem bookings_withdrawTx (o : Origin) (s : State) : (State.withdrawTx o s).bookings = s.bookings := by
  simp only [State.withdrawTx]
  repeat' split
  all_goals simp

@[simp] theorem bookings_replaceTx (o : Origin) (f : Frame) (s : State) :
    (State.replaceTx o f s).bookings = s.bookings := by
  simp only [State.replaceTx]
  repeat' split
  all_goals simp

@[simp] theorem bookings_queueOrReplace (o : Origin) (f : Frame) (s : State) :
    (State.queueOrReplace o f s).bookings = s.bookings := by
  simp only [State.queueOrReplace]
  repeat' split
  all_goals simp

@[simp] theorem bookings_clearTx (s : State) : (State.clearTx s).bookings = s.bookings := by
  simp [State.clearTx]

@[simp] theorem bookings_queueAnswer (f : Frame) (s : State) : (State.queueAnswer f s).bookings = s.bookings := by
  simp only [State.queueAnswer]
  repeat' split
  all_goals simp

@[simp] theorem bookings_withdrawAnswers (cond : Frame → Bool) (s : State) :
    (State.withdrawAnswers cond s).bookings = s.bookings := by
  simp only [State.withdrawAnswers]
  apply bookings_foldl
  intro s i
  repeat' split
  all_goals simp

@[simp] theorem bookings_judgeSlots (s : State) : (State.judgeSlots s).bookings = s.bookings := by
  simp only [State.judgeSlots]
  repeat' split
  all_goals simp

@[simp] theorem bookings_failAttempt (s : State) : (State.failAttempt s).bookings = s.bookings := by
  simp only [State.failAttempt]
  repeat' split
  all_goals simp

@[simp] theorem bookings_countCrcError (s : State) : (State.countCrcError s).bookings = s.bookings := by
  simp only [State.countCrcError]
  repeat' split
  all_goals simp

@[simp] theorem bookings_queueClaim (p : PosIx) (s : State) : (State.queueClaim p s).bookings = s.bookings := by
  simp [State.queueClaim]

@[simp] theorem bookings_askClaim (p : PosIx) (s : State) : (State.askClaim p s).bookings = s.bookings := by
  simp only [State.askClaim]
  repeat' split
  all_goals simp

@[simp] theorem bookings_queueRelease (p : PosIx) (s : State) : (State.queueRelease p s).bookings = s.bookings := by
  simp [State.queueRelease]

@[simp] theorem bookings_giveUpClaim (p : PosIx) (s : State) : (State.giveUpClaim p s).bookings = s.bookings := by
  simp only [State.giveUpClaim]
  repeat' split
  all_goals simp

@[simp] theorem bookings_giveUpClaimOpt (p : Option PosIx) (s : State) :
    (State.giveUpClaim? p s).bookings = s.bookings := by
  simp only [State.giveUpClaim?]
  repeat' split
  all_goals simp

@[simp] theorem bookings_claimWithdrawn (p : PosIx) (s : State) : (State.claimWithdrawn p s).bookings = s.bookings := by
  simp only [State.claimWithdrawn]
  repeat' split
  all_goals simp

@[simp] theorem bookings_pumpWaits (h : Handle) (ws : List SlotWait) (s : State) :
    (State.pumpWaits h ws s).bookings = s.bookings := by
  induction ws generalizing s with
  | nil => simp [State.pumpWaits]
  | cons w ws ih => simp only [State.pumpWaits]; split <;> simp [ih]

@[simp] theorem bookings_pumpSlot (h : Handle) (s : State) : (State.pumpSlot h s).bookings = s.bookings := by
  simp only [State.pumpSlot]
  repeat' split
  all_goals simp

@[simp] theorem bookings_sendSlot (h : Handle) (w : SlotWait) (s : State) :
    (State.sendSlot h w s).bookings = s.bookings := by
  simp [State.sendSlot]

@[simp] theorem bookings_dropWaits (h : Handle) (w : SlotWait) (s : State) :
    (State.dropWaits h w s).bookings = s.bookings := by
  simp [State.dropWaits]

@[simp] theorem bookings_withdrawSlot (h : Handle) (k : FrameKind) (s : State) :
    (State.withdrawSlot h k s).bookings = s.bookings := by
  simp only [State.withdrawSlot]
  repeat' split
  all_goals simp

@[simp] theorem bookings_roundFrom (h : Handle) (k : Nat) (s : State) :
    (State.roundFrom h k s).bookings = s.bookings := by
  simp only [State.roundFrom]
  repeat' split
  all_goals simp

@[simp] theorem bookings_startRound (h : Handle) (s : State) : (State.startRound h s).bookings = s.bookings := by
  simp only [State.startRound]
  repeat' split
  all_goals simp

@[simp] theorem bookings_withdrawBooks (h : Handle) (s : State) : (State.withdrawBooks h s).bookings = s.bookings := by
  simp [State.withdrawBooks]

@[simp] theorem bookings_failCandidate (h : Handle) (s : State) : (State.failCandidate h s).bookings = s.bookings := by
  simp only [State.failCandidate]
  repeat' split
  all_goals simp

@[simp] theorem bookings_sendRenewal (h : Handle) (s : State) : (State.sendRenewal h s).bookings = s.bookings := by
  simp only [State.sendRenewal]
  repeat' split
  all_goals simp

@[simp] theorem bookings_endBooking (h : Handle) (s : State) : (State.endBooking h s).bookings = s.bookings := by
  simp only [State.endBooking]
  repeat' split
  all_goals simp

@[simp] theorem bookings_startTransfer (h : Handle) (s : State) : (State.startTransfer h s).bookings = s.bookings := by
  simp only [State.startTransfer]
  repeat' split
  all_goals simp

@[simp] theorem bookings_stopTransfer (h : Handle) (s : State) : (State.stopTransfer h s).bookings = s.bookings := by
  simp [State.stopTransfer]

@[simp] theorem bookings_placeOne (s : State) : (State.placeOne s).bookings = s.bookings := by
  simp only [State.placeOne]
  repeat' split
  all_goals simp

@[simp] theorem bookings_placement (s : State) : (State.placement s).bookings = s.bookings := by
  exact bookings_foldl _ (fun s _ => bookings_placeOne s) positions s

@[simp] theorem bookings_stopPositionOpt (p : Option PosIx) (s : State) :
    (State.stopPosition? p s).bookings = s.bookings := by
  simp only [State.stopPosition?]
  repeat' split
  all_goals simp

@[simp] theorem bookings_enterHeld (h : Handle) (k : DevKind) (v : BitVec 24) (leaves : Bool) (s : State) :
    (State.enterHeld h k v leaves s).bookings = s.bookings := by
  simp only [State.enterHeld]
  repeat' split
  all_goals simp

@[simp] theorem bookings_checkGap (h : Handle) (s : State) : (State.checkGap h s).bookings = s.bookings := by
  simp only [State.checkGap]
  repeat' split
  all_goals simp

@[simp] theorem bookings_judgeReady (h : Handle) (s : State) : (State.judgeReady h s).bookings = s.bookings := by
  simp only [State.judgeReady]
  repeat' split
  all_goals simp

@[simp] theorem bookings_enterChecked (h : Handle) (st : RecState) (s : State) :
    (State.enterChecked h st s).bookings = s.bookings := by
  simp [State.enterChecked]

@[simp] theorem bookings_enterLoaded (h : Handle) (s : State) : (State.enterLoaded h s).bookings = s.bookings := by
  simp [State.enterLoaded]

@[simp] theorem bookings_enterEnded (h : Handle) (s : State) : (State.enterEnded h s).bookings = s.bookings := by
  simp only [State.enterEnded]
  repeat' split
  all_goals simp

@[simp] theorem bookings_startStep (p : PosIx) (h : Handle) (s : State) :
    (State.startStep p h s).bookings = s.bookings := by
  simp only [State.startStep]
  repeat' split
  all_goals simp

@[simp] theorem bookings_tellGrant (p : PosIx) (s : State) : (State.tellGrant p s).bookings = s.bookings := by
  simp only [State.tellGrant]
  repeat' split
  all_goals simp

@[simp] theorem bookings_endStep (p : PosIx) (h : Handle) (s : State) :
    (State.endStep p h s).bookings = s.bookings := by
  simp only [State.endStep]
  repeat' split
  all_goals simp

@[simp] theorem bookings_stepFault (p : PosIx) (h : Handle) (k : DevKind) (v : BitVec 24) (s : State) :
    (State.stepFault p h k v s).bookings = s.bookings := by
  simp [State.stepFault]

@[simp] theorem bookings_dropBooking (h : Handle) (s : State) : (State.dropBooking h s).bookings = s.bookings := by
  simp only [State.dropBooking]
  repeat' split
  all_goals simp

@[simp] theorem bookings_tellEntry (s : State) (e : ClaimEntry) : (State.tellEntry s e).bookings = s.bookings := by
  simp only [State.tellEntry]
  repeat' split
  all_goals simp

@[simp] theorem bookings_tellGrants (l : List ClaimEntry) (s : State) :
    (State.tellGrants l s).bookings = s.bookings := by
  exact bookings_foldl _ bookings_tellEntry l s

@[simp] theorem bookings_reportOversize (p : PosIx) (b : BudgetIx) (s : State) :
    (State.reportOversize p b s).bookings = s.bookings := by
  simp only [State.reportOversize]
  repeat' split
  all_goals simp

@[simp] theorem bookings_claimStands (p : PosIx) (st : ClaimState) (s : State) :
    (State.claimStands p st s).bookings = s.bookings := by
  simp only [State.claimStands]
  repeat' split
  all_goals simp

@[simp] theorem bookings_ownClaim (payload : List Byte) (c : ClaimOutcome) (s : State) :
    (State.ownClaim payload c s).bookings = s.bookings := by
  simp only [State.ownClaim]
  repeat' split
  all_goals simp

@[simp] theorem bookings_ownRelease (payload : List Byte) (s : State) :
    (State.ownRelease payload s).bookings = s.bookings := by
  simp only [State.ownRelease]
  repeat' split
  all_goals simp

@[simp] theorem bookings_ownRemoved (caps : Triple) (s : State) (e : ClaimEntry) :
    (State.ownRemoved caps s e).bookings = s.bookings := by
  simp only [State.ownRemoved]
  repeat' split
  all_goals simp

@[simp] theorem bookings_takeReplicated (f : BufferedFrame) (own : Bool) (s : State) :
    (State.takeReplicated f own s).bookings = s.bookings := by
  simp only [State.takeReplicated]
  repeat' split
  all_goals simp

@[simp] theorem bookings_deleteRecord (h : Handle) (s : State) : (State.deleteRecord h s).bookings = s.bookings := by
  simp [State.deleteRecord]

@[simp] theorem bookings_answerRefused (a : Addr) (t : Tag) (r : Reason) (s : State) :
    (State.answerRefused a t r s).bookings = s.bookings := by
  simp [State.answerRefused]

@[simp] theorem bookings_takeBooked (a : Addr) (t : Tag) (p : PosIx) (s : State) :
    (State.takeBooked a t p s).bookings = s.bookings := by
  simp only [State.takeBooked]
  repeat' split
  all_goals simp

@[simp] theorem bookings_takeRefused (a : Addr) (t : Tag) (s : State) :
    (State.takeRefused a t s).bookings = s.bookings := by
  simp only [State.takeRefused]
  repeat' split
  all_goals simp

@[simp] theorem bookings_handOver (a : Addr) (t : Tag) (s : State) : (State.handOver a t s).bookings = s.bookings := by
  simp only [State.handOver]
  repeat' split
  all_goals simp

@[simp] theorem bookings_rejected (a : Addr) (t : Tag) (reason : Byte) (s : State) :
    (State.rejected a t reason s).bookings = s.bookings := by
  simp only [State.rejected]
  repeat' split
  all_goals simp

@[simp] theorem bookings_found (a : Addr) (t : Tag) (s : State) : (State.found a t s).bookings = s.bookings := by
  simp only [State.found]
  repeat' split
  all_goals simp

@[simp] theorem bookings_answerLocate (a : Addr) (t : Tag) (s : State) :
    (State.answerLocate a t s).bookings = s.bookings := by
  simp only [State.answerLocate]
  repeat' split
  all_goals simp

@[simp] theorem bookings_cancelBooking (a : Addr) (t : Tag) (s : State) :
    (State.cancelBooking a t s).bookings = s.bookings := by
  simp only [State.cancelBooking]
  repeat' split
  all_goals simp

@[simp] theorem bookings_departRecord (a : Addr) (s : State) (h : Handle) :
    (State.departRecord a s h).bookings = s.bookings := by
  simp only [State.departRecord]
  repeat' split
  all_goals simp

@[simp] theorem bookings_clearOutbound (s : State) (p : PosIx) : (State.clearOutbound s p).bookings = s.bookings := by
  simp only [State.clearOutbound]
  repeat' split
  all_goals simp

@[simp] theorem bookings_peerGone (a : Addr) (c : GoneCause) (s : State) :
    (State.peerGone a c s).bookings = s.bookings := by
  simp only [State.peerGone]
  repeat' split
  all_goals simp

@[simp] theorem bookings_postPeerJoined (a : Addr) (s : State) : (State.postPeerJoined a s).bookings = s.bookings := by
  simp [State.postPeerJoined]

@[simp] theorem bookings_peerJoins (a : Addr) (role : Role) (s : State) :
    (State.peerJoins a role s).bookings = s.bookings := by
  simp [State.peerJoins]

@[simp] theorem bookings_applyPresence (a : Addr) (q : PresenceReport) (s : State) :
    (State.applyPresence a q s).bookings = s.bookings := by
  simp only [State.applyPresence]
  repeat' split
  all_goals simp

@[simp] theorem bookings_restartRound (a : Addr) (s : State) (h : Handle) :
    (State.restartRound a s h).bookings = s.bookings := by
  simp only [State.restartRound]
  repeat' split
  all_goals simp

@[simp] theorem bookings_restartRounds (a : Addr) (q : PresenceReport) (s : State) :
    (State.restartRounds a q s).bookings = s.bookings := by
  simp only [State.restartRounds]
  repeat' split
  all_goals simp

@[simp] theorem bookings_noteSender (a : Addr) (s : State) : (State.noteSender a s).bookings = s.bookings := by
  simp only [State.noteSender]
  repeat' split
  all_goals simp

@[simp] theorem bookings_sendUpkeep (f : Frame) (s : State) : (State.sendUpkeep f s).bookings = s.bookings := by
  simp only [State.sendUpkeep]
  repeat' split
  all_goals simp

@[simp] theorem bookings_pumpUpkeep (s : State) : (State.pumpUpkeep s).bookings = s.bookings := by
  simp only [State.pumpUpkeep]
  repeat' split
  all_goals simp

@[simp] theorem bookings_withdrawUpkeep (kinds : List FrameKind) (s : State) :
    (State.withdrawUpkeep kinds s).bookings = s.bookings := by
  simp only [State.withdrawUpkeep]
  repeat' split
  all_goals simp

@[simp] theorem bookings_stopServing (s : State) : (State.stopServing s).bookings = s.bookings := by
  simp [State.stopServing]

@[simp] theorem bookings_stopServingOf (a : Addr) (s : State) : (State.stopServingOf a s).bookings = s.bookings := by
  simp only [State.stopServingOf]
  repeat' split
  all_goals simp

@[simp] theorem bookings_leaveQueue (a : Addr) (s : State) : (State.leaveQueue a s).bookings = s.bookings := by
  simp [State.leaveQueue]

@[simp] theorem bookings_enterQueue (a : Addr) (s : State) : (State.enterQueue a s).bookings = s.bookings := by
  simp only [State.enterQueue]
  repeat' split
  all_goals simp

@[simp] theorem bookings_judgeProvider (a : Addr) (s : State) : (State.judgeProvider a s).bookings = s.bookings := by
  simp only [State.judgeProvider]
  repeat' split
  all_goals simp

@[simp] theorem bookings_tryServe (s : State) : (State.tryServe s).bookings = s.bookings := by
  simp only [State.tryServe]
  repeat' split
  all_goals simp

@[simp] theorem bookings_snapAppeared (s : State) : (State.snapAppeared s).bookings = s.bookings := by
  simp only [State.snapAppeared]
  repeat' split
  all_goals simp

@[simp] theorem bookings_rejoin (c : Cause) (s : State) : (State.rejoin c s).bookings = s.bookings := by
  simp only [State.rejoin]
  repeat' split
  all_goals simp

@[simp] theorem bookings_enterJoining (c : Cause) (s : State) : (State.enterJoining c s).bookings = s.bookings := by
  simp [State.enterJoining]

@[simp] theorem bookings_startJoin (s : State) : (State.startJoin s).bookings = s.bookings := by
  simp [State.startJoin]

@[simp] theorem bookings_bufferFrame (f : BufferedFrame) (s : State) :
    (State.bufferFrame f s).bookings = s.bookings := by
  simp only [State.bufferFrame]
  repeat' split
  all_goals simp

@[simp] theorem bookings_joinedRecord (s : State) (h : Handle) : (State.joinedRecord s h).bookings = s.bookings := by
  simp only [State.joinedRecord]
  repeat' split
  all_goals simp

@[simp] theorem bookings_joinedPosition (s : State) (p : PosIx) : (State.joinedPosition s p).bookings = s.bookings := by
  simp only [State.joinedPosition]
  repeat' split
  all_goals simp

@[simp] theorem bookings_completeJoin (c : Cause) (s : State) : (State.completeJoin c s).bookings = s.bookings := by
  simp [State.completeJoin]

@[simp] theorem bookings_loadSnapshot (n : SnapIn) (s : State) : (State.loadSnapshot n s).bookings = s.bookings := by
  simp [State.loadSnapshot]

@[simp] theorem bookings_listFrame (f : BufferedFrame) (s : State) : (State.listFrame f s).bookings = s.bookings := by
  simp only [State.listFrame]
  repeat' split
  all_goals simp

@[simp] theorem bookings_replayFrame (s : State) (f : BufferedFrame) :
    (State.replayFrame s f).bookings = s.bookings := by
  simp [State.replayFrame]

@[simp] theorem bookings_finishSnapshot (n : SnapIn) (s : State) :
    (State.finishSnapshot n s).bookings = s.bookings := by
  simp [State.finishSnapshot]

@[simp] theorem bookings_firstStation (s : State) : (State.firstStation s).bookings = s.bookings := by
  simp [State.firstStation]

@[simp] theorem bookings_lostPosition (s : State) (p : PosIx) : (State.lostPosition s p).bookings = s.bookings := by
  simp only [State.lostPosition]
  repeat' split
  all_goals simp

@[simp] theorem bookings_enterMismatch (s : State) : (State.enterMismatch s).bookings = s.bookings := by
  simp [State.enterMismatch]

@[simp] theorem bookings_takeHead (sender : Addr) (q : SnapHead) (s : State) :
    (State.takeHead sender q s).bookings = s.bookings := by
  simp only [State.takeHead]
  repeat' split
  all_goals simp

@[simp] theorem bookings_takeSnapPart (index : Nat) (content : List Byte) (s : State) :
    (State.takeSnapPart index content s).bookings = s.bookings := by
  simp only [State.takeSnapPart]
  repeat' split
  all_goals simp

@[simp] theorem bookings_beginTx (s : State) : (State.beginTx s).bookings = s.bookings := by
  simp only [State.beginTx]
  repeat' split
  all_goals simp

@[simp] theorem bookings_pumpOrigin (o : Origin) (s : State) : (State.pumpOrigin o s).bookings = s.bookings := by
  simp only [State.pumpOrigin]
  repeat' split
  all_goals simp

@[simp] theorem bookings_finishOwn (own : OwnTx) (s : State) : (State.finishOwn own s).bookings = s.bookings := by
  simp only [State.finishOwn]
  repeat' split
  all_goals simp

@[simp] theorem bookings_dropFrame (o : Origin) (s : State) : (State.dropFrame o s).bookings = s.bookings := by
  simp [State.dropFrame]

@[simp] theorem bookings_countVoid (s : State) : (State.countVoid s).bookings = s.bookings := by
  simp only [State.countVoid]
  repeat' split
  all_goals simp

@[simp] theorem bookings_dropHead (s : State) : (State.dropHead s).bookings = s.bookings := by
  simp only [State.dropHead]
  repeat' split
  all_goals simp

@[simp] theorem bookings_noteBar (k : FrameKind) (payload : List Byte) (s : State) :
    (State.noteBar k payload s).bookings = s.bookings := by
  simp only [State.noteBar]
  repeat' split
  all_goals simp

@[simp] theorem bookings_appearUndefined (sender : Addr) (s : State) :
    (State.appearUndefined sender s).bookings = s.bookings := by
  simp only [State.appearUndefined]
  repeat' split
  all_goals simp

@[simp] theorem bookings_onReplicated (k : FrameKind) (sender : Addr) (payload : List Byte) (s : State) :
    (State.onReplicated k sender payload s).bookings = s.bookings := by
  simp only [State.onReplicated]
  repeat' split
  all_goals simp

@[simp] theorem bookings_onSnapHead (own : OwnTx) (sender : Addr) (payload : List Byte) (s : State) :
    (State.onSnapHead own sender payload s).bookings = s.bookings := by
  simp only [State.onSnapHead]
  repeat' split
  all_goals simp

@[simp] theorem bookings_onSnapPart (own : OwnTx) (payload : List Byte) (s : State) :
    (State.onSnapPart own payload s).bookings = s.bookings := by
  simp only [State.onSnapPart]
  repeat' split
  all_goals simp

@[simp] theorem bookings_onPresence (sender : Addr) (payload : List Byte) (s : State) :
    (State.onPresence sender payload s).bookings = s.bookings := by
  simp only [State.onPresence]
  repeat' split
  all_goals simp

@[simp] theorem bookings_bookAppeared (own : OwnTx) (dest : BitVec 5) (q : BookRequest) (s : State) :
    (State.bookAppeared own dest q s).bookings = s.bookings := by
  simp only [State.bookAppeared]
  repeat' split
  all_goals simp

@[simp] theorem bookings_onRefused (sender : Addr) (dest : BitVec 5) (payload : List Byte) (s : State) :
    (State.onRefused sender dest payload s).bookings = s.bookings := by
  simp only [State.onRefused]
  repeat' split
  all_goals simp

@[simp] theorem bookings_onFound (sender : Addr) (dest : BitVec 5) (payload : List Byte) (s : State) :
    (State.onFound sender dest payload s).bookings = s.bookings := by
  simp only [State.onFound]
  repeat' split
  all_goals simp

@[simp] theorem bookings_locateAppeared (t : Tag) (s : State) : (State.locateAppeared t s).bookings = s.bookings := by
  simp only [State.locateAppeared]
  repeat' split
  all_goals simp

@[simp] theorem bookings_onLocate (own : OwnTx) (sender : Addr) (payload : List Byte) (s : State) :
    (State.onLocate own sender payload s).bookings = s.bookings := by
  simp only [State.onLocate]
  repeat' split
  all_goals simp

@[simp] theorem bookings_carryAppeared (own : OwnTx) (index : Nat) (s : State) :
    (State.carryAppeared own index s).bookings = s.bookings := by
  simp only [State.carryAppeared]
  repeat' split
  all_goals simp

@[simp] theorem bookings_countOne (p : PosIx) (h : Handle) (r : Record) (e : StepEntry) (s : State) :
    (State.countOne p h r e s).bookings = s.bookings := by
  simp only [State.countOne]
  repeat' split
  all_goals simp

@[simp] theorem bookings_runSecond (p : PosIx) (s : State) : (State.runSecond p s).bookings = s.bookings := by
  simp only [State.runSecond]
  repeat' split
  all_goals simp

@[simp] theorem bookings_pauseSecond (p : PosIx) (s : State) : (State.pauseSecond p s).bookings = s.bookings := by
  simp only [State.pauseSecond]
  repeat' split
  all_goals simp

@[simp] theorem bookings_lampSilent (p : PosIx) (s : State) : (State.lampSilent p s).bookings = s.bookings := by
  simp only [State.lampSilent]
  repeat' split
  all_goals simp

@[simp] theorem bookings_doseShort (p : PosIx) (s : State) : (State.doseShort p s).bookings = s.bookings := by
  simp only [State.doseShort]
  repeat' split
  all_goals simp

@[simp] theorem bookings_dosePulse (p : PosIx) (s : State) : (State.dosePulse p s).bookings = s.bookings := by
  simp only [State.dosePulse]
  repeat' split
  all_goals simp

@[simp] theorem bookings_gapSecond (h : Handle) (s : State) : (State.gapSecond h s).bookings = s.bookings := by
  simp only [State.gapSecond]
  repeat' split
  all_goals simp

@[simp] theorem bookings_answerExpired (h : Handle) (s : State) : (State.answerExpired h s).bookings = s.bookings := by
  simp only [State.answerExpired]
  repeat' split
  all_goals simp

@[simp] theorem bookings_handOffExpired (h : Handle) (s : State) :
    (State.handOffExpired h s).bookings = s.bookings := by
  simp only [State.handOffExpired]
  repeat' split
  all_goals simp

@[simp] theorem bookings_locateExpired (h : Handle) (s : State) : (State.locateExpired h s).bookings = s.bookings := by
  simp only [State.locateExpired]
  repeat' split
  all_goals simp

@[simp] theorem bookings_departureExpired (a : Addr) (s : State) :
    (State.departureExpired a s).bookings = s.bookings := by
  simp only [State.departureExpired]
  repeat' split
  all_goals simp

@[simp] theorem bookings_presenceExpired (s : State) : (State.presenceExpired s).bookings = s.bookings := by
  simp only [State.presenceExpired]
  repeat' split
  all_goals simp

@[simp] theorem bookings_joinWaitExpired (s : State) : (State.joinWaitExpired s).bookings = s.bookings := by
  simp only [State.joinWaitExpired]
  repeat' split
  all_goals simp

@[simp] theorem bookings_snapGapExpired (s : State) : (State.snapGapExpired s).bookings = s.bookings := by
  simp only [State.snapGapExpired]
  repeat' split
  all_goals simp

@[simp] theorem bookings_backoffExpired (s : State) : (State.backoffExpired s).bookings = s.bookings := by
  simp only [State.backoffExpired]
  repeat' split
  all_goals simp

@[simp] theorem bookings_advancePos (s : State) (p : PosIx) : (State.advancePos s p).bookings = s.bookings := by
  simp only [State.advancePos]
  repeat' split
  all_goals simp

@[simp] theorem bookings_firePos (s : State) (p : PosIx) : (State.firePos s p).bookings = s.bookings := by
  simp only [State.firePos]
  repeat' split
  all_goals simp

@[simp] theorem bookings_fireRec (s : State) (h : Handle) : (State.fireRec s h).bookings = s.bookings := by
  simp only [State.fireRec]
  repeat' split
  all_goals simp

@[simp] theorem bookings_fireDeparture (s : State) (a : Addr) : (State.fireDeparture s a).bookings = s.bookings := by
  simp only [State.fireDeparture]
  repeat' split
  all_goals simp

@[simp] theorem bookings_pauseForPower (s : State) (p : PosIx) : (State.pauseForPower s p).bookings = s.bookings := by
  simp only [State.pauseForPower]
  repeat' split
  all_goals simp

@[simp] theorem bookings_beginWrite (s : State) : (State.beginWrite s).bookings = s.bookings := by
  simp only [State.beginWrite]
  repeat' split
  all_goals simp

@[simp] theorem bookings_endWrite (s : State) : (State.endWrite s).bookings = s.bookings := by
  simp only [State.endWrite]
  repeat' split
  all_goals simp

@[simp] theorem bookings_restorePosition (im : List Byte) (s : State) (p : PosIx) :
    (State.restorePosition im s p).bookings = s.bookings := by
  simp only [State.restorePosition]
  repeat' split
  all_goals simp

@[simp] theorem bookings_cleanLink (s : State) (h : Handle) : (State.cleanLink s h).bookings = s.bookings := by
  simp [State.cleanLink]

@[simp] theorem bookings_restoreArrival (s : State) (h : Handle) :
    (State.restoreArrival s h).bookings = s.bookings := by
  simp only [State.restoreArrival]
  repeat' split
  all_goals simp

@[simp] theorem bookings_postRestoreHeld (s : State) (x : Handle × Nat) :
    (State.postRestoreHeld s x).bookings = s.bookings := by
  simp only [State.postRestoreHeld]
  repeat' split
  all_goals simp

@[simp] theorem bookings_rebuildFreeList (s : State) : (State.rebuildFreeList s).bookings = s.bookings := by
  simp [State.rebuildFreeList]

@[simp] theorem bookings_postRestored (n : Nat) (s : State) : (State.postRestored n s).bookings = s.bookings := by
  simp [State.postRestored]

@[simp] theorem bookings_openPositions (s : State) : (State.openPositions s).bookings = s.bookings := by
  simp [State.openPositions]

@[simp] theorem bookings_configWrite (item : Byte) (v : BitVec 16) (s : State) :
    (State.configWrite item v s).bookings = s.bookings := by
  simp only [State.configWrite]
  repeat' split
  all_goals simp

@[simp] theorem bookings_plateArrives (p : PosIx) (h : Handle) (r : Record) (s : State) :
    (State.plateArrives p h r s).bookings = s.bookings := by
  simp only [State.plateArrives]
  repeat' split
  all_goals simp

@[simp] theorem bookings_arrived (p : PosIx) (seq : BitVec 16) (s : State) :
    (State.arrived p seq s).bookings = s.bookings := by
  simp only [State.arrived]
  repeat' split
  all_goals simp

@[simp] theorem bookings_retire (p : PosIx) (h : Handle) (r : Record) (s : State) :
    (State.retire p h r s).bookings = s.bookings := by
  simp [State.retire]

@[simp] theorem bookings_plateTaken (p : PosIx) (h : Handle) (r : Record) (s : State) :
    (State.plateTaken p h r s).bookings = s.bookings := by
  simp only [State.plateTaken]
  repeat' split
  all_goals simp

@[simp] theorem bookings_removed (p : PosIx) (s : State) : (State.removed p s).bookings = s.bookings := by
  simp only [State.removed]
  repeat' split
  all_goals simp

@[simp] theorem bookings_holdRecord (h : Handle) (r : Record) (s : State) :
    (State.holdRecord h r s).bookings = s.bookings := by
  simp only [State.holdRecord]
  repeat' split
  all_goals simp

@[simp] theorem bookings_rushRecord (h : Handle) (r : Record) (s : State) :
    (State.rushRecord h r s).bookings = s.bookings := by
  simp only [State.rushRecord]
  repeat' split
  all_goals simp

@[simp] theorem bookings_returnRecord (h : Handle) (r : Record) (st : RecState) (s : State) :
    (State.returnRecord h r st s).bookings = s.bookings := by
  simp only [State.returnRecord]
  repeat' split
  all_goals simp

@[simp] theorem bookings_wrongCode (s : State) : (State.wrongCode s).bookings = s.bookings := by
  simp [State.wrongCode]

@[simp] theorem bookings_concede (h : Handle) (r : Record) (s : State) :
    (State.concede h r s).bookings = s.bookings := by
  simp only [State.concede]
  repeat' split
  all_goals simp

@[simp] theorem bookings_scrapPosition (p : Option PosIx) (s : State) :
    (State.scrapPosition p s).bookings = s.bookings := by
  simp only [State.scrapPosition]
  repeat' split
  all_goals simp

@[simp] theorem bookings_stopLocate (h : Handle) (s : State) : (State.stopLocate h s).bookings = s.bookings := by
  simp [State.stopLocate]

@[simp] theorem bookings_scrapRecord (h : Handle) (r : Record) (s : State) :
    (State.scrapRecord h r s).bookings = s.bookings := by
  simp only [State.scrapRecord]
  repeat' split
  all_goals simp

@[simp] theorem bookings_adoptRecord (h : Handle) (r : Record) (s : State) :
    (State.adoptRecord h r s).bookings = s.bookings := by
  simp [State.adoptRecord]

@[simp] theorem bookings_adopt (h : Handle) (r : Record) (s : State) : (State.adopt h r s).bookings = s.bookings := by
  simp only [State.adopt]
  repeat' split
  all_goals simp

@[simp] theorem bookings_pauseStep (p : PosIx) (s : State) : (State.pauseStep p s).bookings = s.bookings := by
  simp only [State.pauseStep]
  repeat' split
  all_goals simp

@[simp] theorem bookings_resumeStep (p : PosIx) (s : State) : (State.resumeStep p s).bookings = s.bookings := by
  simp only [State.resumeStep]
  repeat' split
  all_goals simp

@[simp] theorem bookings_departureDue (a : Addr) (s : State) : (State.departureDue a s).bookings = s.bookings := by
  simp [State.departureDue]

@[simp] theorem bookings_sendLeave (s : State) : (State.sendLeave s).bookings = s.bookings := by
  simp [State.sendLeave]

end Sys2Proof.Machine
end

