-- ==== Sys2Proof/Laws/FrameBud.lean ====
section
/-! SUPPORT. Which operations leave the budget table alone: one lemma per operation, proved in the order the operations are built in. -/

namespace Sys2Proof.Machine

@[simp] theorem bud_ite (c : Prop) [Decidable c] (x y : State) : (if c then x else y).bud = if c then x.bud else y.bud := by
  split <;> rfl

@[simp] theorem bud_foldl {α} (f : State → α → State) (hf : ∀ s a, (f s a).bud = s.bud) (l : List α) (s : State) :
    (l.foldl f s).bud = s.bud := by
  induction l generalizing s with
  | nil => rfl
  | cons a l ih => rw [List.foldl_cons, ih, hf]

@[simp] theorem bud_updRec (h : Handle) (f : Record → Record) (s : State) : (State.updRec h f s).bud = s.bud := by
  simp only [State.updRec]
  repeat' split
  all_goals simp

@[simp] theorem bud_vacateOpt (p : Option PosIx) (st : PosState) (s : State) : (State.vacate? p st s).bud = s.bud := by
  simp only [State.vacate?]
  repeat' split
  all_goals simp

@[simp] theorem bud_post (e : Event) (s : State) : (State.post e s).bud = s.bud := by
  simp only [State.post]
  repeat' split
  all_goals simp

@[simp] theorem bud_postLineState (c : Cause) (s : State) : (State.postLineState c s).bud = s.bud := by
  simp [State.postLineState]

@[simp] theorem bud_ok (d2 d1 d0 : Byte) (s : State) : (State.ok d2 d1 d0 s).bud = s.bud := by
  simp [State.ok]

@[simp] theorem bud_refuse (r : Reason) (d0 : Byte) (s : State) : (State.refuse r d0 s).bud = s.bud := by
  simp [State.refuse]

@[simp] theorem bud_badArgument (code : Byte) (s : State) : (State.badArgument code s).bud = s.bud := by
  simp [State.badArgument]

@[simp] theorem bud_queueFrame (o : Origin) (f : Frame) (s : State) : (State.queueFrame o f s).bud = s.bud := by
  simp only [State.queueFrame]
  repeat' split
  all_goals simp

@[simp] theorem bud_withdrawTx (o : Origin) (s : State) : (State.withdrawTx o s).bud = s.bud := by
  simp only [State.withdrawTx]
  repeat' split
  all_goals simp

@[simp] theorem bud_replaceTx (o : Origin) (f : Frame) (s : State) : (State.replaceTx o f s).bud = s.bud := by
  simp only [State.replaceTx]
  repeat' split
  all_goals simp

@[simp] theorem bud_queueOrReplace (o : Origin) (f : Frame) (s : State) : (State.queueOrReplace o f s).bud = s.bud := by
  simp only [State.queueOrReplace]
  repeat' split
  all_goals simp

@[simp] theorem bud_clearTx (s : State) : (State.clearTx s).bud = s.bud := by
  simp [State.clearTx]

@[simp] theorem bud_queueAnswer (f : Frame) (s : State) : (State.queueAnswer f s).bud = s.bud := by
  simp only [State.queueAnswer]
  repeat' split
  all_goals simp

@[simp] theorem bud_withdrawAnswers (cond : Frame → Bool) (s : State) : (State.withdrawAnswers cond s).bud = s.bud := by
  simp only [State.withdrawAnswers]
  apply bud_foldl
  intro s i
  repeat' split
  all_goals simp

@[simp] theorem bud_judgeSlots (s : State) : (State.judgeSlots s).bud = s.bud := by
  simp only [State.judgeSlots]
  repeat' split
  all_goals simp

@[simp] theorem bud_failAttempt (s : State) : (State.failAttempt s).bud = s.bud := by
  simp only [State.failAttempt]
  repeat' split
  all_goals simp

@[simp] theorem bud_countCrcError (s : State) : (State.countCrcError s).bud = s.bud := by
  simp only [State.countCrcError]
  repeat' split
  all_goals simp

@[simp] theorem bud_queueClaim (p : PosIx) (s : State) : (State.queueClaim p s).bud = s.bud := by
  simp [State.queueClaim]

@[simp] theorem bud_askClaim (p : PosIx) (s : State) : (State.askClaim p s).bud = s.bud := by
  simp only [State.askClaim]
  repeat' split
  all_goals simp

@[simp] theorem bud_queueRelease (p : PosIx) (s : State) : (State.queueRelease p s).bud = s.bud := by
  simp [State.queueRelease]

@[simp] theorem bud_giveUpClaim (p : PosIx) (s : State) : (State.giveUpClaim p s).bud = s.bud := by
  simp only [State.giveUpClaim]
  repeat' split
  all_goals simp

@[simp] theorem bud_giveUpClaimOpt (p : Option PosIx) (s : State) : (State.giveUpClaim? p s).bud = s.bud := by
  simp only [State.giveUpClaim?]
  repeat' split
  all_goals simp

@[simp] theorem bud_claimWithdrawn (p : PosIx) (s : State) : (State.claimWithdrawn p s).bud = s.bud := by
  simp only [State.claimWithdrawn]
  repeat' split
  all_goals simp

@[simp] theorem bud_pumpWaits (h : Handle) (ws : List SlotWait) (s : State) : (State.pumpWaits h ws s).bud = s.bud := by
  induction ws generalizing s with
  | nil => simp [State.pumpWaits]
  | cons w ws ih => simp only [State.pumpWaits]; split <;> simp [ih]

@[simp] theorem bud_pumpSlot (h : Handle) (s : State) : (State.pumpSlot h s).bud = s.bud := by
  simp only [State.pumpSlot]
  repeat' split
  all_goals simp

@[simp] theorem bud_sendSlot (h : Handle) (w : SlotWait) (s : State) : (State.sendSlot h w s).bud = s.bud := by
  simp [State.sendSlot]

@[simp] theorem bud_dropWaits (h : Handle) (w : SlotWait) (s : State) : (State.dropWaits h w s).bud = s.bud := by
  simp [State.dropWaits]

@[simp] theorem bud_withdrawSlot (h : Handle) (k : FrameKind) (s : State) : (State.withdrawSlot h k s).bud = s.bud := by
  simp only [State.withdrawSlot]
  repeat' split
  all_goals simp

@[simp] theorem bud_roundFrom (h : Handle) (k : Nat) (s : State) : (State.roundFrom h k s).bud = s.bud := by
  simp only [State.roundFrom]
  repeat' split
  all_goals simp

@[simp] theorem bud_startRound (h : Handle) (s : State) : (State.startRound h s).bud = s.bud := by
  simp only [State.startRound]
  repeat' split
  all_goals simp

@[simp] theorem bud_withdrawBooks (h : Handle) (s : State) : (State.withdrawBooks h s).bud = s.bud := by
  simp [State.withdrawBooks]

@[simp] theorem bud_failCandidate (h : Handle) (s : State) : (State.failCandidate h s).bud = s.bud := by
  simp only [State.failCandidate]
  repeat' split
  all_goals simp

@[simp] theorem bud_sendRenewal (h : Handle) (s : State) : (State.sendRenewal h s).bud = s.bud := by
  simp only [State.sendRenewal]
  repeat' split
  all_goals simp

@[simp] theorem bud_endBooking (h : Handle) (s : State) : (State.endBooking h s).bud = s.bud := by
  simp only [State.endBooking]
  repeat' split
  all_goals simp

@[simp] theorem bud_startTransfer (h : Handle) (s : State) : (State.startTransfer h s).bud = s.bud := by
  simp only [State.startTransfer]
  repeat' split
  all_goals simp

@[simp] theorem bud_stopTransfer (h : Handle) (s : State) : (State.stopTransfer h s).bud = s.bud := by
  simp [State.stopTransfer]

@[simp] theorem bud_placeOne (s : State) : (State.placeOne s).bud = s.bud := by
  simp only [State.placeOne]
  repeat' split
  all_goals simp

@[simp] theorem bud_placement (s : State) : (State.placement s).bud = s.bud := by
  exact bud_foldl _ (fun s _ => bud_placeOne s) positions s

@[simp] theorem bud_stopPositionOpt (p : Option PosIx) (s : State) : (State.stopPosition? p s).bud = s.bud := by
  simp only [State.stopPosition?]
  repeat' split
  all_goals simp

@[simp] theorem bud_enterHeld (h : Handle) (k : DevKind) (v : BitVec 24) (leaves : Bool) (s : State) :
    (State.enterHeld h k v leaves s).bud = s.bud := by
  simp only [State.enterHeld]
  repeat' split
  all_goals simp

@[simp] theorem bud_checkGap (h : Handle) (s : State) : (State.checkGap h s).bud = s.bud := by
  simp only [State.checkGap]
  repeat' split
  all_goals simp

@[simp] theorem bud_judgeReady (h : Handle) (s : State) : (State.judgeReady h s).bud = s.bud := by
  simp only [State.judgeReady]
  repeat' split
  all_goals simp

@[simp] theorem bud_enterChecked (h : Handle) (st : RecState) (s : State) :
    (State.enterChecked h st s).bud = s.bud := by
  simp [State.enterChecked]

@[simp] theorem bud_enterLoaded (h : Handle) (s : State) : (State.enterLoaded h s).bud = s.bud := by
  simp [State.enterLoaded]

@[simp] theorem bud_enterEnded (h : Handle) (s : State) : (State.enterEnded h s).bud = s.bud := by
  simp only [State.enterEnded]
  repeat' split
  all_goals simp

@[simp] theorem bud_startStep (p : PosIx) (h : Handle) (s : State) : (State.startStep p h s).bud = s.bud := by
  simp only [State.startStep]
  repeat' split
  all_goals simp

@[simp] theorem bud_tellGrant (p : PosIx) (s : State) : (State.tellGrant p s).bud = s.bud := by
  simp only [State.tellGrant]
  repeat' split
  all_goals simp

@[simp] theorem bud_endStep (p : PosIx) (h : Handle) (s : State) : (State.endStep p h s).bud = s.bud := by
  simp only [State.endStep]
  repeat' split
  all_goals simp

@[simp] theorem bud_stepFault (p : PosIx) (h : Handle) (k : DevKind) (v : BitVec 24) (s : State) :
    (State.stepFault p h k v s).bud = s.bud := by
  simp [State.stepFault]

@[simp] theorem bud_dropBooking (h : Handle) (s : State) : (State.dropBooking h s).bud = s.bud := by
  simp only [State.dropBooking]
  repeat' split
  all_goals simp

@[simp] theorem bud_tellEntry (s : State) (e : ClaimEntry) : (State.tellEntry s e).bud = s.bud := by
  simp only [State.tellEntry]
  repeat' split
  all_goals simp

@[simp] theorem bud_tellGrants (l : List ClaimEntry) (s : State) : (State.tellGrants l s).bud = s.bud := by
  exact bud_foldl _ bud_tellEntry l s

@[simp] theorem bud_reportOversize (p : PosIx) (b : BudgetIx) (s : State) :
    (State.reportOversize p b s).bud = s.bud := by
  simp only [State.reportOversize]
  repeat' split
  all_goals simp

@[simp] theorem bud_claimStands (p : PosIx) (st : ClaimState) (s : State) : (State.claimStands p st s).bud = s.bud := by
  simp only [State.claimStands]
  repeat' split
  all_goals simp

@[simp] theorem bud_ownClaim (payload : List Byte) (c : ClaimOutcome) (s : State) :
    (State.ownClaim payload c s).bud = s.bud := by
  simp only [State.ownClaim]
  repeat' split
  all_goals simp

@[simp] theorem bud_ownRelease (payload : List Byte) (s : State) : (State.ownRelease payload s).bud = s.bud := by
  simp only [State.ownRelease]
  repeat' split
  all_goals simp

@[simp] theorem bud_ownRemoved (caps : Triple) (s : State) (e : ClaimEntry) :
    (State.ownRemoved caps s e).bud = s.bud := by
  simp only [State.ownRemoved]
  repeat' split
  all_goals simp

@[simp] theorem bud_setStatus (cond : Booking → Bool) (st : BookingStatus) (s : State) :
    (State.setStatus cond st s).bud = s.bud := by
  simp [State.setStatus]

@[simp] theorem bud_deleteRecord (h : Handle) (s : State) : (State.deleteRecord h s).bud = s.bud := by
  simp [State.deleteRecord]

@[simp] theorem bud_answerRefused (a : Addr) (t : Tag) (r : Reason) (s : State) :
    (State.answerRefused a t r s).bud = s.bud := by
  simp [State.answerRefused]

@[simp] theorem bud_reserve (a : Addr) (q : BookRequest) (p : PosIx) (s : State) :
    (State.reserve a q p s).bud = s.bud := by
  simp only [State.reserve]
  split
  · rfl
  · rename_i h t e
    have ht : t.bud = s.bud := by
      simp only [State.takeSlot] at e
      split at e
      · simp only [Option.some.injEq, Prod.mk.injEq] at e
        rw [← e.2]
        try rfl
      · contradiction
    simp [ht]

@[simp] theorem bud_renewEntry (a : Addr) (q : BookRequest) (b : Booking) (s : State) :
    (State.renewEntry a q b s).bud = s.bud := by
  simp [State.renewEntry]

@[simp] theorem bud_takeBook (a : Addr) (q : BookRequest) (s : State) : (State.takeBook a q s).bud = s.bud := by
  simp only [State.takeBook]
  repeat' split
  all_goals simp

@[simp] theorem bud_completeImage (b : Booking) (im : List Byte) (s : State) :
    (State.completeImage b im s).bud = s.bud := by
  simp only [State.completeImage]
  repeat' split
  all_goals simp

@[simp] theorem bud_takePart (b : Booking) (a : Assembly) (s : State) : (State.takePart b a s).bud = s.bud := by
  simp only [State.takePart]
  repeat' split
  all_goals simp

@[simp] theorem bud_rejectOpen (b : Booking) (s : State) : (State.rejectOpen b s).bud = s.bud := by
  simp only [State.rejectOpen]
  repeat' split
  all_goals simp

@[simp] theorem bud_takeFirstPart (a : Addr) (c : CarryPart) (s : State) : (State.takeFirstPart a c s).bud = s.bud := by
  simp only [State.takeFirstPart]
  repeat' split
  all_goals simp

@[simp] theorem bud_takeLaterPart (a : Addr) (c : CarryPart) (s : State) : (State.takeLaterPart a c s).bud = s.bud := by
  simp only [State.takeLaterPart]
  repeat' split
  all_goals simp

@[simp] theorem bud_takeCarry (a : Addr) (c : CarryPart) (s : State) : (State.takeCarry a c s).bud = s.bud := by
  simp only [State.takeCarry]
  repeat' split
  all_goals simp

@[simp] theorem bud_receiveRecord (f : Frame) (s : State) : (State.receiveRecord f s).bud = s.bud := by
  simp only [State.receiveRecord]
  repeat' split
  all_goals simp

@[simp] theorem bud_takeBooked (a : Addr) (t : Tag) (p : PosIx) (s : State) :
    (State.takeBooked a t p s).bud = s.bud := by
  simp only [State.takeBooked]
  repeat' split
  all_goals simp

@[simp] theorem bud_takeRefused (a : Addr) (t : Tag) (s : State) : (State.takeRefused a t s).bud = s.bud := by
  simp only [State.takeRefused]
  repeat' split
  all_goals simp

@[simp] theorem bud_handOver (a : Addr) (t : Tag) (s : State) : (State.handOver a t s).bud = s.bud := by
  simp only [State.handOver]
  repeat' split
  all_goals simp

@[simp] theorem bud_rejected (a : Addr) (t : Tag) (reason : Byte) (s : State) :
    (State.rejected a t reason s).bud = s.bud := by
  simp only [State.rejected]
  repeat' split
  all_goals simp

@[simp] theorem bud_found (a : Addr) (t : Tag) (s : State) : (State.found a t s).bud = s.bud := by
  simp only [State.found]
  repeat' split
  all_goals simp

@[simp] theorem bud_answerLocate (a : Addr) (t : Tag) (s : State) : (State.answerLocate a t s).bud = s.bud := by
  simp only [State.answerLocate]
  repeat' split
  all_goals simp

@[simp] theorem bud_cancelBooking (a : Addr) (t : Tag) (s : State) : (State.cancelBooking a t s).bud = s.bud := by
  simp only [State.cancelBooking]
  repeat' split
  all_goals simp

@[simp] theorem bud_departRecord (a : Addr) (s : State) (h : Handle) : (State.departRecord a s h).bud = s.bud := by
  simp only [State.departRecord]
  repeat' split
  all_goals simp

@[simp] theorem bud_clearOutbound (s : State) (p : PosIx) : (State.clearOutbound s p).bud = s.bud := by
  simp only [State.clearOutbound]
  repeat' split
  all_goals simp

@[simp] theorem bud_peerGone (a : Addr) (c : GoneCause) (s : State) : (State.peerGone a c s).bud = s.bud := by
  simp only [State.peerGone]
  repeat' split
  all_goals simp

@[simp] theorem bud_postPeerJoined (a : Addr) (s : State) : (State.postPeerJoined a s).bud = s.bud := by
  simp [State.postPeerJoined]

@[simp] theorem bud_peerJoins (a : Addr) (role : Role) (s : State) : (State.peerJoins a role s).bud = s.bud := by
  simp [State.peerJoins]

@[simp] theorem bud_applyPresence (a : Addr) (q : PresenceReport) (s : State) :
    (State.applyPresence a q s).bud = s.bud := by
  simp only [State.applyPresence]
  repeat' split
  all_goals simp

@[simp] theorem bud_restartRound (a : Addr) (s : State) (h : Handle) : (State.restartRound a s h).bud = s.bud := by
  simp only [State.restartRound]
  repeat' split
  all_goals simp

@[simp] theorem bud_restartRounds (a : Addr) (q : PresenceReport) (s : State) :
    (State.restartRounds a q s).bud = s.bud := by
  simp only [State.restartRounds]
  repeat' split
  all_goals simp

@[simp] theorem bud_noteSender (a : Addr) (s : State) : (State.noteSender a s).bud = s.bud := by
  simp only [State.noteSender]
  repeat' split
  all_goals simp

@[simp] theorem bud_sendUpkeep (f : Frame) (s : State) : (State.sendUpkeep f s).bud = s.bud := by
  simp only [State.sendUpkeep]
  repeat' split
  all_goals simp

@[simp] theorem bud_pumpUpkeep (s : State) : (State.pumpUpkeep s).bud = s.bud := by
  simp only [State.pumpUpkeep]
  repeat' split
  all_goals simp

@[simp] theorem bud_withdrawUpkeep (kinds : List FrameKind) (s : State) :
    (State.withdrawUpkeep kinds s).bud = s.bud := by
  simp only [State.withdrawUpkeep]
  repeat' split
  all_goals simp

@[simp] theorem bud_stopServing (s : State) : (State.stopServing s).bud = s.bud := by
  simp [State.stopServing]

@[simp] theorem bud_stopServingOf (a : Addr) (s : State) : (State.stopServingOf a s).bud = s.bud := by
  simp only [State.stopServingOf]
  repeat' split
  all_goals simp

@[simp] theorem bud_leaveQueue (a : Addr) (s : State) : (State.leaveQueue a s).bud = s.bud := by
  simp [State.leaveQueue]

@[simp] theorem bud_enterQueue (a : Addr) (s : State) : (State.enterQueue a s).bud = s.bud := by
  simp only [State.enterQueue]
  repeat' split
  all_goals simp

@[simp] theorem bud_judgeProvider (a : Addr) (s : State) : (State.judgeProvider a s).bud = s.bud := by
  simp only [State.judgeProvider]
  repeat' split
  all_goals simp

@[simp] theorem bud_tryServe (s : State) : (State.tryServe s).bud = s.bud := by
  simp only [State.tryServe]
  repeat' split
  all_goals simp

@[simp] theorem bud_snapAppeared (s : State) : (State.snapAppeared s).bud = s.bud := by
  simp only [State.snapAppeared]
  repeat' split
  all_goals simp

@[simp] theorem bud_rejoin (c : Cause) (s : State) : (State.rejoin c s).bud = s.bud := by
  simp only [State.rejoin]
  repeat' split
  all_goals simp

@[simp] theorem bud_enterJoining (c : Cause) (s : State) : (State.enterJoining c s).bud = s.bud := by
  simp [State.enterJoining]

@[simp] theorem bud_startJoin (s : State) : (State.startJoin s).bud = s.bud := by
  simp [State.startJoin]

@[simp] theorem bud_bufferFrame (f : BufferedFrame) (s : State) : (State.bufferFrame f s).bud = s.bud := by
  simp only [State.bufferFrame]
  repeat' split
  all_goals simp

@[simp] theorem bud_joinedRecord (s : State) (h : Handle) : (State.joinedRecord s h).bud = s.bud := by
  simp only [State.joinedRecord]
  repeat' split
  all_goals simp

@[simp] theorem bud_joinedPosition (s : State) (p : PosIx) : (State.joinedPosition s p).bud = s.bud := by
  simp only [State.joinedPosition]
  repeat' split
  all_goals simp

@[simp] theorem bud_completeJoin (c : Cause) (s : State) : (State.completeJoin c s).bud = s.bud := by
  simp [State.completeJoin]

@[simp] theorem bud_listFrame (f : BufferedFrame) (s : State) : (State.listFrame f s).bud = s.bud := by
  simp only [State.listFrame]
  repeat' split
  all_goals simp

@[simp] theorem bud_lostPosition (s : State) (p : PosIx) : (State.lostPosition s p).bud = s.bud := by
  simp only [State.lostPosition]
  repeat' split
  all_goals simp

@[simp] theorem bud_enterMismatch (s : State) : (State.enterMismatch s).bud = s.bud := by
  simp [State.enterMismatch]

@[simp] theorem bud_takeHead (sender : Addr) (q : SnapHead) (s : State) : (State.takeHead sender q s).bud = s.bud := by
  simp only [State.takeHead]
  repeat' split
  all_goals simp

@[simp] theorem bud_beginTx (s : State) : (State.beginTx s).bud = s.bud := by
  simp only [State.beginTx]
  repeat' split
  all_goals simp

@[simp] theorem bud_pumpOrigin (o : Origin) (s : State) : (State.pumpOrigin o s).bud = s.bud := by
  simp only [State.pumpOrigin]
  repeat' split
  all_goals simp

@[simp] theorem bud_finishOwn (own : OwnTx) (s : State) : (State.finishOwn own s).bud = s.bud := by
  simp only [State.finishOwn]
  repeat' split
  all_goals simp

@[simp] theorem bud_dropFrame (o : Origin) (s : State) : (State.dropFrame o s).bud = s.bud := by
  simp [State.dropFrame]

@[simp] theorem bud_countVoid (s : State) : (State.countVoid s).bud = s.bud := by
  simp only [State.countVoid]
  repeat' split
  all_goals simp

@[simp] theorem bud_dropHead (s : State) : (State.dropHead s).bud = s.bud := by
  simp only [State.dropHead]
  repeat' split
  all_goals simp

@[simp] theorem bud_noteBar (k : FrameKind) (payload : List Byte) (s : State) :
    (State.noteBar k payload s).bud = s.bud := by
  simp only [State.noteBar]
  repeat' split
  all_goals simp

@[simp] theorem bud_takenSaved (own : OwnTx) (s : State) : (State.takenSaved own s).bud = s.bud := by
  simp only [State.takenSaved]
  repeat' split
  all_goals simp

@[simp] theorem bud_appearUndefined (sender : Addr) (s : State) : (State.appearUndefined sender s).bud = s.bud := by
  simp only [State.appearUndefined]
  repeat' split
  all_goals simp

@[simp] theorem bud_onSnapHead (own : OwnTx) (sender : Addr) (payload : List Byte) (s : State) :
    (State.onSnapHead own sender payload s).bud = s.bud := by
  simp only [State.onSnapHead]
  repeat' split
  all_goals simp

@[simp] theorem bud_onPresence (sender : Addr) (payload : List Byte) (s : State) :
    (State.onPresence sender payload s).bud = s.bud := by
  simp only [State.onPresence]
  repeat' split
  all_goals simp

@[simp] theorem bud_bookAppeared (own : OwnTx) (dest : BitVec 5) (q : BookRequest) (s : State) :
    (State.bookAppeared own dest q s).bud = s.bud := by
  simp only [State.bookAppeared]
  repeat' split
  all_goals simp

@[simp] theorem bud_onBook (own : OwnTx) (sender : Addr) (dest : BitVec 5) (payload : List Byte) (s : State) :
    (State.onBook own sender dest payload s).bud = s.bud := by
  simp only [State.onBook]
  repeat' split
  all_goals simp

@[simp] theorem bud_bookedAppeared (dest : BitVec 5) (t : Tag) (s : State) :
    (State.bookedAppeared dest t s).bud = s.bud := by
  simp [State.bookedAppeared]

@[simp] theorem bud_onBooked (own : OwnTx) (sender : Addr) (dest : BitVec 5) (payload : List Byte) (s : State) :
    (State.onBooked own sender dest payload s).bud = s.bud := by
  simp only [State.onBooked]
  repeat' split
  all_goals simp

@[simp] theorem bud_onRefused (sender : Addr) (dest : BitVec 5) (payload : List Byte) (s : State) :
    (State.onRefused sender dest payload s).bud = s.bud := by
  simp only [State.onRefused]
  repeat' split
  all_goals simp

@[simp] theorem bud_onFound (sender : Addr) (dest : BitVec 5) (payload : List Byte) (s : State) :
    (State.onFound sender dest payload s).bud = s.bud := by
  simp only [State.onFound]
  repeat' split
  all_goals simp

@[simp] theorem bud_locateAppeared (t : Tag) (s : State) : (State.locateAppeared t s).bud = s.bud := by
  simp only [State.locateAppeared]
  repeat' split
  all_goals simp

@[simp] theorem bud_onLocate (own : OwnTx) (sender : Addr) (payload : List Byte) (s : State) :
    (State.onLocate own sender payload s).bud = s.bud := by
  simp only [State.onLocate]
  repeat' split
  all_goals simp

@[simp] theorem bud_carryAppeared (own : OwnTx) (index : Nat) (s : State) :
    (State.carryAppeared own index s).bud = s.bud := by
  simp only [State.carryAppeared]
  repeat' split
  all_goals simp

@[simp] theorem bud_onCarry (own : OwnTx) (sender : Addr) (dest : BitVec 5) (payload : List Byte) (s : State) :
    (State.onCarry own sender dest payload s).bud = s.bud := by
  simp only [State.onCarry]
  repeat' split
  all_goals simp

@[simp] theorem bud_onTaken (sender : Addr) (dest : BitVec 5) (payload : List Byte) (s : State) :
    (State.onTaken sender dest payload s).bud = s.bud := by
  simp only [State.onTaken]
  repeat' split
  all_goals simp

@[simp] theorem bud_countOne (p : PosIx) (h : Handle) (r : Record) (e : StepEntry) (s : State) :
    (State.countOne p h r e s).bud = s.bud := by
  simp only [State.countOne]
  repeat' split
  all_goals simp

@[simp] theorem bud_runSecond (p : PosIx) (s : State) : (State.runSecond p s).bud = s.bud := by
  simp only [State.runSecond]
  repeat' split
  all_goals simp

@[simp] theorem bud_pauseSecond (p : PosIx) (s : State) : (State.pauseSecond p s).bud = s.bud := by
  simp only [State.pauseSecond]
  repeat' split
  all_goals simp

@[simp] theorem bud_lampSilent (p : PosIx) (s : State) : (State.lampSilent p s).bud = s.bud := by
  simp only [State.lampSilent]
  repeat' split
  all_goals simp

@[simp] theorem bud_doseShort (p : PosIx) (s : State) : (State.doseShort p s).bud = s.bud := by
  simp only [State.doseShort]
  repeat' split
  all_goals simp

@[simp] theorem bud_dosePulse (p : PosIx) (s : State) : (State.dosePulse p s).bud = s.bud := by
  simp only [State.dosePulse]
  repeat' split
  all_goals simp

@[simp] theorem bud_gapSecond (h : Handle) (s : State) : (State.gapSecond h s).bud = s.bud := by
  simp only [State.gapSecond]
  repeat' split
  all_goals simp

@[simp] theorem bud_answerExpired (h : Handle) (s : State) : (State.answerExpired h s).bud = s.bud := by
  simp only [State.answerExpired]
  repeat' split
  all_goals simp

@[simp] theorem bud_partGapExpired (p : PosIx) (s : State) : (State.partGapExpired p s).bud = s.bud := by
  simp only [State.partGapExpired]
  repeat' split
  all_goals simp

@[simp] theorem bud_handOffExpired (h : Handle) (s : State) : (State.handOffExpired h s).bud = s.bud := by
  simp only [State.handOffExpired]
  repeat' split
  all_goals simp

@[simp] theorem bud_locateExpired (h : Handle) (s : State) : (State.locateExpired h s).bud = s.bud := by
  simp only [State.locateExpired]
  repeat' split
  all_goals simp

@[simp] theorem bud_departureExpired (a : Addr) (s : State) : (State.departureExpired a s).bud = s.bud := by
  simp only [State.departureExpired]
  repeat' split
  all_goals simp

@[simp] theorem bud_presenceExpired (s : State) : (State.presenceExpired s).bud = s.bud := by
  simp only [State.presenceExpired]
  repeat' split
  all_goals simp

@[simp] theorem bud_snapGapExpired (s : State) : (State.snapGapExpired s).bud = s.bud := by
  simp only [State.snapGapExpired]
  repeat' split
  all_goals simp

@[simp] theorem bud_backoffExpired (s : State) : (State.backoffExpired s).bud = s.bud := by
  simp only [State.backoffExpired]
  repeat' split
  all_goals simp

@[simp] theorem bud_advancePos (s : State) (p : PosIx) : (State.advancePos s p).bud = s.bud := by
  simp only [State.advancePos]
  repeat' split
  all_goals simp

@[simp] theorem bud_advance (s : State) : (State.advance s).bud = s.bud := by
  simp [State.advance]

@[simp] theorem bud_firePos (s : State) (p : PosIx) : (State.firePos s p).bud = s.bud := by
  simp only [State.firePos]
  repeat' split
  all_goals simp

@[simp] theorem bud_fireRec (s : State) (h : Handle) : (State.fireRec s h).bud = s.bud := by
  simp only [State.fireRec]
  repeat' split
  all_goals simp

@[simp] theorem bud_fireDeparture (s : State) (a : Addr) : (State.fireDeparture s a).bud = s.bud := by
  simp only [State.fireDeparture]
  repeat' split
  all_goals simp

@[simp] theorem bud_pauseForPower (s : State) (p : PosIx) : (State.pauseForPower s p).bud = s.bud := by
  simp only [State.pauseForPower]
  repeat' split
  all_goals simp

@[simp] theorem bud_beginWrite (s : State) : (State.beginWrite s).bud = s.bud := by
  simp only [State.beginWrite]
  repeat' split
  all_goals simp

@[simp] theorem bud_endWrite (s : State) : (State.endWrite s).bud = s.bud := by
  simp only [State.endWrite]
  repeat' split
  all_goals simp

@[simp] theorem bud_restorePosition (im : List Byte) (s : State) (p : PosIx) :
    (State.restorePosition im s p).bud = s.bud := by
  simp only [State.restorePosition]
  repeat' split
  all_goals simp

@[simp] theorem bud_cleanLink (s : State) (h : Handle) : (State.cleanLink s h).bud = s.bud := by
  simp [State.cleanLink]

@[simp] theorem bud_restoreArrival (s : State) (h : Handle) : (State.restoreArrival s h).bud = s.bud := by
  simp only [State.restoreArrival]
  repeat' split
  all_goals simp

@[simp] theorem bud_postRestoreHeld (s : State) (x : Handle × Nat) : (State.postRestoreHeld s x).bud = s.bud := by
  simp only [State.postRestoreHeld]
  repeat' split
  all_goals simp

@[simp] theorem bud_rebuildFreeList (s : State) : (State.rebuildFreeList s).bud = s.bud := by
  simp [State.rebuildFreeList]

@[simp] theorem bud_postRestored (n : Nat) (s : State) : (State.postRestored n s).bud = s.bud := by
  simp [State.postRestored]

@[simp] theorem bud_openPositions (s : State) : (State.openPositions s).bud = s.bud := by
  simp [State.openPositions]

@[simp] theorem bud_configWrite (item : Byte) (v : BitVec 16) (s : State) :
    (State.configWrite item v s).bud = s.bud := by
  simp only [State.configWrite]
  repeat' split
  all_goals simp

@[simp] theorem bud_plateArrives (p : PosIx) (h : Handle) (r : Record) (s : State) :
    (State.plateArrives p h r s).bud = s.bud := by
  simp only [State.plateArrives]
  repeat' split
  all_goals simp

@[simp] theorem bud_arrived (p : PosIx) (seq : BitVec 16) (s : State) : (State.arrived p seq s).bud = s.bud := by
  simp only [State.arrived]
  repeat' split
  all_goals simp

@[simp] theorem bud_retire (p : PosIx) (h : Handle) (r : Record) (s : State) : (State.retire p h r s).bud = s.bud := by
  simp [State.retire]

@[simp] theorem bud_plateTaken (p : PosIx) (h : Handle) (r : Record) (s : State) :
    (State.plateTaken p h r s).bud = s.bud := by
  simp only [State.plateTaken]
  repeat' split
  all_goals simp

@[simp] theorem bud_removed (p : PosIx) (s : State) : (State.removed p s).bud = s.bud := by
  simp only [State.removed]
  repeat' split
  all_goals simp

@[simp] theorem bud_holdRecord (h : Handle) (r : Record) (s : State) : (State.holdRecord h r s).bud = s.bud := by
  simp only [State.holdRecord]
  repeat' split
  all_goals simp

@[simp] theorem bud_rushRecord (h : Handle) (r : Record) (s : State) : (State.rushRecord h r s).bud = s.bud := by
  simp only [State.rushRecord]
  repeat' split
  all_goals simp

@[simp] theorem bud_returnRecord (h : Handle) (r : Record) (st : RecState) (s : State) :
    (State.returnRecord h r st s).bud = s.bud := by
  simp only [State.returnRecord]
  repeat' split
  all_goals simp

@[simp] theorem bud_wrongCode (s : State) : (State.wrongCode s).bud = s.bud := by
  simp [State.wrongCode]

@[simp] theorem bud_concede (h : Handle) (r : Record) (s : State) : (State.concede h r s).bud = s.bud := by
  simp only [State.concede]
  repeat' split
  all_goals simp

@[simp] theorem bud_scrapPosition (p : Option PosIx) (s : State) : (State.scrapPosition p s).bud = s.bud := by
  simp only [State.scrapPosition]
  repeat' split
  all_goals simp

@[simp] theorem bud_stopLocate (h : Handle) (s : State) : (State.stopLocate h s).bud = s.bud := by
  simp [State.stopLocate]

@[simp] theorem bud_scrapRecord (h : Handle) (r : Record) (s : State) : (State.scrapRecord h r s).bud = s.bud := by
  simp only [State.scrapRecord]
  repeat' split
  all_goals simp

@[simp] theorem bud_adoptRecord (h : Handle) (r : Record) (s : State) : (State.adoptRecord h r s).bud = s.bud := by
  simp [State.adoptRecord]

@[simp] theorem bud_adopt (h : Handle) (r : Record) (s : State) : (State.adopt h r s).bud = s.bud := by
  simp only [State.adopt]
  repeat' split
  all_goals simp

@[simp] theorem bud_pauseStep (p : PosIx) (s : State) : (State.pauseStep p s).bud = s.bud := by
  simp only [State.pauseStep]
  repeat' split
  all_goals simp

@[simp] theorem bud_resumeStep (p : PosIx) (s : State) : (State.resumeStep p s).bud = s.bud := by
  simp only [State.resumeStep]
  repeat' split
  all_goals simp

@[simp] theorem bud_departureDue (a : Addr) (s : State) : (State.departureDue a s).bud = s.bud := by
  simp [State.departureDue]

@[simp] theorem bud_sendLeave (s : State) : (State.sendLeave s).bud = s.bud := by
  simp [State.sendLeave]

end Sys2Proof.Machine
end

