-- ==== Sys2Proof/Laws/FrameEvents.lean ====
section
/-! SUPPORT. Which operations post no event: one lemma per operation, proved in the order the operations are built in. -/

namespace Sys2Proof.Machine

@[simp] theorem events_ite (c : Prop) [Decidable c] (x y : State) : (if c then x else y).port.events = if c then x.port.events else y.port.events := by
  split <;> rfl

@[simp] theorem events_foldl {α} (f : State → α → State) (hf : ∀ s a, (f s a).port.events = s.port.events) (l : List α) (s : State) :
    (l.foldl f s).port.events = s.port.events := by
  induction l generalizing s with
  | nil => rfl
  | cons a l ih => rw [List.foldl_cons, ih, hf]

@[simp] theorem events_setSlot (h : Handle) (x : Slot) (s : State) :
    (State.setSlot h x s).port.events = s.port.events := by
  simp [State.setSlot]

@[simp] theorem events_setRec (h : Handle) (r : Record) (s : State) :
    (State.setRec h r s).port.events = s.port.events := by
  simp [State.setRec]

@[simp] theorem events_updRec (h : Handle) (f : Record → Record) (s : State) :
    (State.updRec h f s).port.events = s.port.events := by
  simp only [State.updRec]
  repeat' split
  all_goals simp

@[simp] theorem events_setWaits (h : Handle) (ws : List SlotWait) (s : State) :
    (State.setWaits h ws s).port.events = s.port.events := by
  simp [State.setWaits]

@[simp] theorem events_freeSlot (h : Handle) (s : State) : (State.freeSlot h s).port.events = s.port.events := by
  simp [State.freeSlot]

@[simp] theorem events_enqueue (h : Handle) (rush : Bool) (s : State) :
    (State.enqueue h rush s).port.events = s.port.events := by
  simp only [State.enqueue]
  repeat' split
  all_goals simp

@[simp] theorem events_unqueue (h : Handle) (s : State) : (State.unqueue h s).port.events = s.port.events := by
  simp [State.unqueue]

@[simp] theorem events_updPos (p : PosIx) (f : Position → Position) (s : State) :
    (State.updPos p f s).port.events = s.port.events := by
  simp [State.updPos]

@[simp] theorem events_vacate (p : PosIx) (st : PosState) (s : State) :
    (State.vacate p st s).port.events = s.port.events := by
  simp [State.vacate]

@[simp] theorem events_vacateOpt (p : Option PosIx) (st : PosState) (s : State) :
    (State.vacate? p st s).port.events = s.port.events := by
  simp only [State.vacate?]
  repeat' split
  all_goals simp

@[simp] theorem events_alarm (f : Alarms → Alarms) (s : State) : (State.alarm f s).port.events = s.port.events := by
  simp [State.alarm]

@[simp] theorem events_respond (st : Status) (data : BitVec 24) (s : State) :
    (State.respond st data s).port.events = s.port.events := by
  simp [State.respond]

@[simp] theorem events_ok (d2 d1 d0 : Byte) (s : State) : (State.ok d2 d1 d0 s).port.events = s.port.events := by
  simp [State.ok]

@[simp] theorem events_refuse (r : Reason) (d0 : Byte) (s : State) :
    (State.refuse r d0 s).port.events = s.port.events := by
  simp [State.refuse]

@[simp] theorem events_badArgument (code : Byte) (s : State) :
    (State.badArgument code s).port.events = s.port.events := by
  simp [State.badArgument]

@[simp] theorem events_deliver (s : State) : (State.deliver s).port.events = s.port.events := by
  simp [State.deliver]

@[simp] theorem events_stage (bs : List Byte) (s : State) : (State.stage bs s).port.events = s.port.events := by
  simp [State.stage]

@[simp] theorem events_queueFrame (o : Origin) (f : Frame) (s : State) :
    (State.queueFrame o f s).port.events = s.port.events := by
  simp only [State.queueFrame]
  repeat' split
  all_goals simp

@[simp] theorem events_setTx (l : List TxEntry) (s : State) : (State.setTx l s).port.events = s.port.events := by
  simp [State.setTx]

@[simp] theorem events_removeTx (o : Origin) (s : State) : (State.removeTx o s).port.events = s.port.events := by
  simp [State.removeTx]

@[simp] theorem events_updTx (o : Origin) (f : TxEntry → TxEntry) (s : State) :
    (State.updTx o f s).port.events = s.port.events := by
  simp [State.updTx]

@[simp] theorem events_withdrawTx (o : Origin) (s : State) : (State.withdrawTx o s).port.events = s.port.events := by
  simp only [State.withdrawTx]
  repeat' split
  all_goals simp

@[simp] theorem events_replaceTx (o : Origin) (f : Frame) (s : State) :
    (State.replaceTx o f s).port.events = s.port.events := by
  simp only [State.replaceTx]
  repeat' split
  all_goals simp

@[simp] theorem events_queueOrReplace (o : Origin) (f : Frame) (s : State) :
    (State.queueOrReplace o f s).port.events = s.port.events := by
  simp only [State.queueOrReplace]
  repeat' split
  all_goals simp

@[simp] theorem events_clearTx (s : State) : (State.clearTx s).port.events = s.port.events := by
  simp [State.clearTx]

@[simp] theorem events_queueAnswer (f : Frame) (s : State) : (State.queueAnswer f s).port.events = s.port.events := by
  simp only [State.queueAnswer]
  repeat' split
  all_goals simp

@[simp] theorem events_withdrawAnswers (cond : Frame → Bool) (s : State) :
    (State.withdrawAnswers cond s).port.events = s.port.events := by
  simp only [State.withdrawAnswers]
  apply events_foldl
  intro s i
  repeat' split
  all_goals simp

@[simp] theorem events_failAttempt (s : State) : (State.failAttempt s).port.events = s.port.events := by
  simp only [State.failAttempt]
  repeat' split
  all_goals simp

@[simp] theorem events_countCrcError (s : State) : (State.countCrcError s).port.events = s.port.events := by
  simp only [State.countCrcError]
  repeat' split
  all_goals simp

@[simp] theorem events_setClaim (p : PosIx) (c : ClaimState) (s : State) :
    (State.setClaim p c s).port.events = s.port.events := by
  simp [State.setClaim]

@[simp] theorem events_setRemembered (p : PosIx) (b : Bool) (s : State) :
    (State.setRemembered p b s).port.events = s.port.events := by
  simp [State.setRemembered]

@[simp] theorem events_queueClaim (p : PosIx) (s : State) : (State.queueClaim p s).port.events = s.port.events := by
  simp [State.queueClaim]

@[simp] theorem events_askClaim (p : PosIx) (s : State) : (State.askClaim p s).port.events = s.port.events := by
  simp only [State.askClaim]
  repeat' split
  all_goals simp

@[simp] theorem events_queueRelease (p : PosIx) (s : State) : (State.queueRelease p s).port.events = s.port.events := by
  simp [State.queueRelease]

@[simp] theorem events_giveUpClaim (p : PosIx) (s : State) : (State.giveUpClaim p s).port.events = s.port.events := by
  simp only [State.giveUpClaim]
  repeat' split
  all_goals simp

@[simp] theorem events_giveUpClaimOpt (p : Option PosIx) (s : State) :
    (State.giveUpClaim? p s).port.events = s.port.events := by
  simp only [State.giveUpClaim?]
  repeat' split
  all_goals simp

@[simp] theorem events_claimWithdrawn (p : PosIx) (s : State) :
    (State.claimWithdrawn p s).port.events = s.port.events := by
  simp only [State.claimWithdrawn]
  repeat' split
  all_goals simp

@[simp] theorem events_dropClaims (s : State) : (State.dropClaims s).port.events = s.port.events := by
  simp [State.dropClaims]

@[simp] theorem events_pumpWaits (h : Handle) (ws : List SlotWait) (s : State) :
    (State.pumpWaits h ws s).port.events = s.port.events := by
  induction ws generalizing s with
  | nil => simp [State.pumpWaits]
  | cons w ws ih => simp only [State.pumpWaits]; split <;> simp [ih]

@[simp] theorem events_pumpSlot (h : Handle) (s : State) : (State.pumpSlot h s).port.events = s.port.events := by
  simp only [State.pumpSlot]
  repeat' split
  all_goals simp

@[simp] theorem events_sendSlot (h : Handle) (w : SlotWait) (s : State) :
    (State.sendSlot h w s).port.events = s.port.events := by
  simp [State.sendSlot]

@[simp] theorem events_dropWaits (h : Handle) (w : SlotWait) (s : State) :
    (State.dropWaits h w s).port.events = s.port.events := by
  simp [State.dropWaits]

@[simp] theorem events_withdrawSlot (h : Handle) (k : FrameKind) (s : State) :
    (State.withdrawSlot h k s).port.events = s.port.events := by
  simp only [State.withdrawSlot]
  repeat' split
  all_goals simp

@[simp] theorem events_roundFrom (h : Handle) (k : Nat) (s : State) :
    (State.roundFrom h k s).port.events = s.port.events := by
  simp only [State.roundFrom]
  repeat' split
  all_goals simp

@[simp] theorem events_startRound (h : Handle) (s : State) : (State.startRound h s).port.events = s.port.events := by
  simp only [State.startRound]
  repeat' split
  all_goals simp

@[simp] theorem events_withdrawBooks (h : Handle) (s : State) : (State.withdrawBooks h s).port.events = s.port.events := by
  simp [State.withdrawBooks]

@[simp] theorem events_failCandidate (h : Handle) (s : State) :
    (State.failCandidate h s).port.events = s.port.events := by
  simp only [State.failCandidate]
  repeat' split
  all_goals simp

@[simp] theorem events_sendRenewal (h : Handle) (s : State) : (State.sendRenewal h s).port.events = s.port.events := by
  simp only [State.sendRenewal]
  repeat' split
  all_goals simp

@[simp] theorem events_endBooking (h : Handle) (s : State) : (State.endBooking h s).port.events = s.port.events := by
  simp only [State.endBooking]
  repeat' split
  all_goals simp

@[simp] theorem events_startTransfer (h : Handle) (s : State) :
    (State.startTransfer h s).port.events = s.port.events := by
  simp only [State.startTransfer]
  repeat' split
  all_goals simp

@[simp] theorem events_stopTransfer (h : Handle) (s : State) :
    (State.stopTransfer h s).port.events = s.port.events := by
  simp [State.stopTransfer]

@[simp] theorem events_stopPositionOpt (p : Option PosIx) (s : State) :
    (State.stopPosition? p s).port.events = s.port.events := by
  simp only [State.stopPosition?]
  repeat' split
  all_goals simp

@[simp] theorem events_judgeReady (h : Handle) (s : State) : (State.judgeReady h s).port.events = s.port.events := by
  simp only [State.judgeReady]
  repeat' split
  all_goals simp

@[simp] theorem events_claimStands (p : PosIx) (st : ClaimState) (s : State) :
    (State.claimStands p st s).port.events = s.port.events := by
  simp only [State.claimStands]
  repeat' split
  all_goals simp

@[simp] theorem events_ownRelease (payload : List Byte) (s : State) :
    (State.ownRelease payload s).port.events = s.port.events := by
  simp only [State.ownRelease]
  repeat' split
  all_goals simp

@[simp] theorem events_dropTable (s : State) : (State.dropTable s).port.events = s.port.events := by
  simp [State.dropTable]

@[simp] theorem events_setStatus (cond : Booking → Bool) (st : BookingStatus) (s : State) :
    (State.setStatus cond st s).port.events = s.port.events := by
  simp [State.setStatus]

@[simp] theorem events_deleteRecord (h : Handle) (s : State) :
    (State.deleteRecord h s).port.events = s.port.events := by
  simp [State.deleteRecord]

@[simp] theorem events_answerRefused (a : Addr) (t : Tag) (r : Reason) (s : State) :
    (State.answerRefused a t r s).port.events = s.port.events := by
  simp [State.answerRefused]

@[simp] theorem events_renewEntry (a : Addr) (q : BookRequest) (b : Booking) (s : State) :
    (State.renewEntry a q b s).port.events = s.port.events := by
  simp [State.renewEntry]

@[simp] theorem events_completeImage (b : Booking) (im : List Byte) (s : State) :
    (State.completeImage b im s).port.events = s.port.events := by
  simp only [State.completeImage]
  repeat' split
  all_goals simp

@[simp] theorem events_takePart (b : Booking) (a : Assembly) (s : State) :
    (State.takePart b a s).port.events = s.port.events := by
  simp only [State.takePart]
  repeat' split
  all_goals simp

@[simp] theorem events_rejectOpen (b : Booking) (s : State) : (State.rejectOpen b s).port.events = s.port.events := by
  simp only [State.rejectOpen]
  repeat' split
  all_goals simp

@[simp] theorem events_takeFirstPart (a : Addr) (c : CarryPart) (s : State) :
    (State.takeFirstPart a c s).port.events = s.port.events := by
  simp only [State.takeFirstPart]
  repeat' split
  all_goals simp

@[simp] theorem events_takeLaterPart (a : Addr) (c : CarryPart) (s : State) :
    (State.takeLaterPart a c s).port.events = s.port.events := by
  simp only [State.takeLaterPart]
  repeat' split
  all_goals simp

@[simp] theorem events_takeCarry (a : Addr) (c : CarryPart) (s : State) :
    (State.takeCarry a c s).port.events = s.port.events := by
  simp only [State.takeCarry]
  repeat' split
  all_goals simp

@[simp] theorem events_takeBooked (a : Addr) (t : Tag) (p : PosIx) (s : State) :
    (State.takeBooked a t p s).port.events = s.port.events := by
  simp only [State.takeBooked]
  repeat' split
  all_goals simp

@[simp] theorem events_answerLocate (a : Addr) (t : Tag) (s : State) :
    (State.answerLocate a t s).port.events = s.port.events := by
  simp only [State.answerLocate]
  repeat' split
  all_goals simp

@[simp] theorem events_clearOutbound (s : State) (p : PosIx) :
    (State.clearOutbound s p).port.events = s.port.events := by
  simp only [State.clearOutbound]
  repeat' split
  all_goals simp

@[simp] theorem events_updPeer (a : Addr) (f : Peer → Peer) (s : State) :
    (State.updPeer a f s).port.events = s.port.events := by
  simp [State.updPeer]

@[simp] theorem events_setLine (l : LineState) (s : State) : (State.setLine l s).port.events = s.port.events := by
  simp [State.setLine]

@[simp] theorem events_restartRound (a : Addr) (s : State) (h : Handle) :
    (State.restartRound a s h).port.events = s.port.events := by
  simp only [State.restartRound]
  repeat' split
  all_goals simp

@[simp] theorem events_restartRounds (a : Addr) (q : PresenceReport) (s : State) :
    (State.restartRounds a q s).port.events = s.port.events := by
  simp only [State.restartRounds]
  repeat' split
  all_goals simp

@[simp] theorem events_noteSender (a : Addr) (s : State) : (State.noteSender a s).port.events = s.port.events := by
  simp only [State.noteSender]
  repeat' split
  all_goals simp

@[simp] theorem events_sendUpkeep (f : Frame) (s : State) : (State.sendUpkeep f s).port.events = s.port.events := by
  simp only [State.sendUpkeep]
  repeat' split
  all_goals simp

@[simp] theorem events_pumpUpkeep (s : State) : (State.pumpUpkeep s).port.events = s.port.events := by
  simp only [State.pumpUpkeep]
  repeat' split
  all_goals simp

@[simp] theorem events_withdrawUpkeep (kinds : List FrameKind) (s : State) :
    (State.withdrawUpkeep kinds s).port.events = s.port.events := by
  simp only [State.withdrawUpkeep]
  repeat' split
  all_goals simp

@[simp] theorem events_stopServing (s : State) : (State.stopServing s).port.events = s.port.events := by
  simp [State.stopServing]

@[simp] theorem events_stopServingOf (a : Addr) (s : State) :
    (State.stopServingOf a s).port.events = s.port.events := by
  simp only [State.stopServingOf]
  repeat' split
  all_goals simp

@[simp] theorem events_setJoinQueue (l : List Joiner) (s : State) :
    (State.setJoinQueue l s).port.events = s.port.events := by
  simp [State.setJoinQueue]

@[simp] theorem events_leaveQueue (a : Addr) (s : State) : (State.leaveQueue a s).port.events = s.port.events := by
  simp [State.leaveQueue]

@[simp] theorem events_enterQueue (a : Addr) (s : State) : (State.enterQueue a s).port.events = s.port.events := by
  simp only [State.enterQueue]
  repeat' split
  all_goals simp

@[simp] theorem events_judgeProvider (a : Addr) (s : State) :
    (State.judgeProvider a s).port.events = s.port.events := by
  simp only [State.judgeProvider]
  repeat' split
  all_goals simp

@[simp] theorem events_tryServe (s : State) : (State.tryServe s).port.events = s.port.events := by
  simp only [State.tryServe]
  repeat' split
  all_goals simp

@[simp] theorem events_snapAppeared (s : State) : (State.snapAppeared s).port.events = s.port.events := by
  simp only [State.snapAppeared]
  repeat' split
  all_goals simp

@[simp] theorem events_startJoin (s : State) : (State.startJoin s).port.events = s.port.events := by
  simp [State.startJoin]

@[simp] theorem events_joinedRecord (s : State) (h : Handle) :
    (State.joinedRecord s h).port.events = s.port.events := by
  simp only [State.joinedRecord]
  repeat' split
  all_goals simp

@[simp] theorem events_joinedPosition (s : State) (p : PosIx) :
    (State.joinedPosition s p).port.events = s.port.events := by
  simp only [State.joinedPosition]
  repeat' split
  all_goals simp

@[simp] theorem events_loadSnapshot (n : SnapIn) (s : State) :
    (State.loadSnapshot n s).port.events = s.port.events := by
  simp [State.loadSnapshot]

@[simp] theorem events_setInTx (x : InTx) (s : State) : (State.setInTx x s).port.events = s.port.events := by
  simp [State.setInTx]

@[simp] theorem events_beginTx (s : State) : (State.beginTx s).port.events = s.port.events := by
  simp only [State.beginTx]
  repeat' split
  all_goals simp

@[simp] theorem events_restartStall (s : State) : (State.restartStall s).port.events = s.port.events := by
  simp [State.restartStall]

@[simp] theorem events_pumpOrigin (o : Origin) (s : State) : (State.pumpOrigin o s).port.events = s.port.events := by
  simp only [State.pumpOrigin]
  repeat' split
  all_goals simp

@[simp] theorem events_finishOwn (own : OwnTx) (s : State) : (State.finishOwn own s).port.events = s.port.events := by
  simp only [State.finishOwn]
  repeat' split
  all_goals simp

@[simp] theorem events_dropFrame (o : Origin) (s : State) : (State.dropFrame o s).port.events = s.port.events := by
  simp [State.dropFrame]

@[simp] theorem events_countVoid (s : State) : (State.countVoid s).port.events = s.port.events := by
  simp only [State.countVoid]
  repeat' split
  all_goals simp

@[simp] theorem events_dropHead (s : State) : (State.dropHead s).port.events = s.port.events := by
  simp only [State.dropHead]
  repeat' split
  all_goals simp

@[simp] theorem events_countClean (s : State) : (State.countClean s).port.events = s.port.events := by
  simp [State.countClean]

@[simp] theorem events_noteBar (k : FrameKind) (payload : List Byte) (s : State) :
    (State.noteBar k payload s).port.events = s.port.events := by
  simp only [State.noteBar]
  repeat' split
  all_goals simp

@[simp] theorem events_takenSaved (own : OwnTx) (s : State) : (State.takenSaved own s).port.events = s.port.events := by
  simp only [State.takenSaved]
  repeat' split
  all_goals simp

@[simp] theorem events_appearUndefined (sender : Addr) (s : State) :
    (State.appearUndefined sender s).port.events = s.port.events := by
  simp only [State.appearUndefined]
  repeat' split
  all_goals simp

@[simp] theorem events_bookAppeared (own : OwnTx) (dest : BitVec 5) (q : BookRequest) (s : State) :
    (State.bookAppeared own dest q s).port.events = s.port.events := by
  simp only [State.bookAppeared]
  repeat' split
  all_goals simp

@[simp] theorem events_bookedAppeared (dest : BitVec 5) (t : Tag) (s : State) :
    (State.bookedAppeared dest t s).port.events = s.port.events := by
  simp [State.bookedAppeared]

@[simp] theorem events_onBooked (own : OwnTx) (sender : Addr) (dest : BitVec 5) (payload : List Byte) (s : State) :
    (State.onBooked own sender dest payload s).port.events = s.port.events := by
  simp only [State.onBooked]
  repeat' split
  all_goals simp

@[simp] theorem events_locateAppeared (t : Tag) (s : State) :
    (State.locateAppeared t s).port.events = s.port.events := by
  simp only [State.locateAppeared]
  repeat' split
  all_goals simp

@[simp] theorem events_onLocate (own : OwnTx) (sender : Addr) (payload : List Byte) (s : State) :
    (State.onLocate own sender payload s).port.events = s.port.events := by
  simp only [State.onLocate]
  repeat' split
  all_goals simp

@[simp] theorem events_carryAppeared (own : OwnTx) (index : Nat) (s : State) :
    (State.carryAppeared own index s).port.events = s.port.events := by
  simp only [State.carryAppeared]
  repeat' split
  all_goals simp

@[simp] theorem events_onCarry (own : OwnTx) (sender : Addr) (dest : BitVec 5) (payload : List Byte) (s : State) :
    (State.onCarry own sender dest payload s).port.events = s.port.events := by
  simp only [State.onCarry]
  repeat' split
  all_goals simp

@[simp] theorem events_answerExpired (h : Handle) (s : State) :
    (State.answerExpired h s).port.events = s.port.events := by
  simp only [State.answerExpired]
  repeat' split
  all_goals simp

@[simp] theorem events_partGapExpired (p : PosIx) (s : State) :
    (State.partGapExpired p s).port.events = s.port.events := by
  simp only [State.partGapExpired]
  repeat' split
  all_goals simp

@[simp] theorem events_departureExpired (a : Addr) (s : State) :
    (State.departureExpired a s).port.events = s.port.events := by
  simp only [State.departureExpired]
  repeat' split
  all_goals simp

@[simp] theorem events_presenceExpired (s : State) : (State.presenceExpired s).port.events = s.port.events := by
  simp only [State.presenceExpired]
  repeat' split
  all_goals simp

@[simp] theorem events_advancePos (s : State) (p : PosIx) : (State.advancePos s p).port.events = s.port.events := by
  simp only [State.advancePos]
  repeat' split
  all_goals simp

@[simp] theorem events_advance (s : State) : (State.advance s).port.events = s.port.events := by
  simp [State.advance]

@[simp] theorem events_fireDeparture (s : State) (a : Addr) :
    (State.fireDeparture s a).port.events = s.port.events := by
  simp only [State.fireDeparture]
  repeat' split
  all_goals simp

@[simp] theorem events_pauseForPower (s : State) (p : PosIx) :
    (State.pauseForPower s p).port.events = s.port.events := by
  simp only [State.pauseForPower]
  repeat' split
  all_goals simp

@[simp] theorem events_beginWrite (s : State) : (State.beginWrite s).port.events = s.port.events := by
  simp only [State.beginWrite]
  repeat' split
  all_goals simp

@[simp] theorem events_endWrite (s : State) : (State.endWrite s).port.events = s.port.events := by
  simp only [State.endWrite]
  repeat' split
  all_goals simp

@[simp] theorem events_restorePosition (im : List Byte) (s : State) (p : PosIx) :
    (State.restorePosition im s p).port.events = s.port.events := by
  simp only [State.restorePosition]
  repeat' split
  all_goals simp

@[simp] theorem events_cleanLink (s : State) (h : Handle) : (State.cleanLink s h).port.events = s.port.events := by
  simp [State.cleanLink]

@[simp] theorem events_restoreArrival (s : State) (h : Handle) :
    (State.restoreArrival s h).port.events = s.port.events := by
  simp only [State.restoreArrival]
  repeat' split
  all_goals simp

@[simp] theorem events_rebuildFreeList (s : State) : (State.rebuildFreeList s).port.events = s.port.events := by
  simp [State.rebuildFreeList]

@[simp] theorem events_invalidate (s : State) : (State.invalidate s).port.events = s.port.events := by
  simp [State.invalidate]

@[simp] theorem events_openPositions (s : State) : (State.openPositions s).port.events = s.port.events := by
  simp [State.openPositions]

@[simp] theorem events_configWrite (item : Byte) (v : BitVec 16) (s : State) :
    (State.configWrite item v s).port.events = s.port.events := by
  simp only [State.configWrite]
  repeat' split
  all_goals simp

@[simp] theorem events_useSeq (q : BitVec 16) (s : State) : (State.useSeq q s).port.events = s.port.events := by
  simp [State.useSeq]

@[simp] theorem events_rushRecord (h : Handle) (r : Record) (s : State) :
    (State.rushRecord h r s).port.events = s.port.events := by
  simp only [State.rushRecord]
  repeat' split
  all_goals simp

@[simp] theorem events_wrongCode (s : State) : (State.wrongCode s).port.events = s.port.events := by
  simp [State.wrongCode]

@[simp] theorem events_scrapPosition (p : Option PosIx) (s : State) :
    (State.scrapPosition p s).port.events = s.port.events := by
  simp only [State.scrapPosition]
  repeat' split
  all_goals simp

@[simp] theorem events_stopLocate (h : Handle) (s : State) : (State.stopLocate h s).port.events = s.port.events := by
  simp [State.stopLocate]

@[simp] theorem events_setIlk (p : PosIx) (level : Bool) (s : State) :
    (State.setIlk p level s).port.events = s.port.events := by
  simp [State.setIlk]

@[simp] theorem events_pauseStep (p : PosIx) (s : State) : (State.pauseStep p s).port.events = s.port.events := by
  simp only [State.pauseStep]
  repeat' split
  all_goals simp

@[simp] theorem events_resumeStep (p : PosIx) (s : State) : (State.resumeStep p s).port.events = s.port.events := by
  simp only [State.resumeStep]
  repeat' split
  all_goals simp

@[simp] theorem events_departureDue (a : Addr) (s : State) : (State.departureDue a s).port.events = s.port.events := by
  simp [State.departureDue]

@[simp] theorem events_sendLeave (s : State) : (State.sendLeave s).port.events = s.port.events := by
  simp [State.sendLeave]

end Sys2Proof.Machine
end

