-- ==== Sys2Proof/Laws/FrameFreeList.lean ====
section
/-! SUPPORT. Which operations leave the free list alone: one lemma per operation, proved in the order the operations are built in. -/

namespace Sys2Proof.Machine

@[simp] theorem freeList_ite (c : Prop) [Decidable c] (x y : State) : (if c then x else y).store.freeList = if c then x.store.freeList else y.store.freeList := by
  split <;> rfl

@[simp] theorem freeList_foldl {α} (f : State → α → State) (hf : ∀ s a, (f s a).store.freeList = s.store.freeList) (l : List α) (s : State) :
    (l.foldl f s).store.freeList = s.store.freeList := by
  induction l generalizing s with
  | nil => rfl
  | cons a l ih => rw [List.foldl_cons, ih, hf]

@[simp] theorem freeList_setSlot (h : Handle) (x : Slot) (s : State) :
    (State.setSlot h x s).store.freeList = s.store.freeList := by
  simp [State.setSlot]

@[simp] theorem freeList_setRec (h : Handle) (r : Record) (s : State) :
    (State.setRec h r s).store.freeList = s.store.freeList := by
  simp [State.setRec]

@[simp] theorem freeList_updRec (h : Handle) (f : Record → Record) (s : State) :
    (State.updRec h f s).store.freeList = s.store.freeList := by
  simp only [State.updRec]
  repeat' split
  all_goals simp

@[simp] theorem freeList_setWaits (h : Handle) (ws : List SlotWait) (s : State) :
    (State.setWaits h ws s).store.freeList = s.store.freeList := by
  simp [State.setWaits]

@[simp] theorem freeList_enqueue (h : Handle) (rush : Bool) (s : State) :
    (State.enqueue h rush s).store.freeList = s.store.freeList := by
  simp only [State.enqueue]
  repeat' split
  all_goals simp

@[simp] theorem freeList_unqueue (h : Handle) (s : State) : (State.unqueue h s).store.freeList = s.store.freeList := by
  simp [State.unqueue]

@[simp] theorem freeList_updPos (p : PosIx) (f : Position → Position) (s : State) :
    (State.updPos p f s).store.freeList = s.store.freeList := by
  simp [State.updPos]

@[simp] theorem freeList_vacate (p : PosIx) (st : PosState) (s : State) :
    (State.vacate p st s).store.freeList = s.store.freeList := by
  simp [State.vacate]

@[simp] theorem freeList_vacateOpt (p : Option PosIx) (st : PosState) (s : State) :
    (State.vacate? p st s).store.freeList = s.store.freeList := by
  simp only [State.vacate?]
  repeat' split
  all_goals simp

@[simp] theorem freeList_alarm (f : Alarms → Alarms) (s : State) :
    (State.alarm f s).store.freeList = s.store.freeList := by
  simp [State.alarm]

@[simp] theorem freeList_post (e : Event) (s : State) : (State.post e s).store.freeList = s.store.freeList := by
  simp only [State.post]
  repeat' split
  all_goals simp

@[simp] theorem freeList_postLineState (c : Cause) (s : State) :
    (State.postLineState c s).store.freeList = s.store.freeList := by
  simp [State.postLineState]

@[simp] theorem freeList_respond (st : Status) (data : BitVec 24) (s : State) :
    (State.respond st data s).store.freeList = s.store.freeList := by
  simp [State.respond]

@[simp] theorem freeList_ok (d2 d1 d0 : Byte) (s : State) :
    (State.ok d2 d1 d0 s).store.freeList = s.store.freeList := by
  simp [State.ok]

@[simp] theorem freeList_refuse (r : Reason) (d0 : Byte) (s : State) :
    (State.refuse r d0 s).store.freeList = s.store.freeList := by
  simp [State.refuse]

@[simp] theorem freeList_badArgument (code : Byte) (s : State) :
    (State.badArgument code s).store.freeList = s.store.freeList := by
  simp [State.badArgument]

@[simp] theorem freeList_deliver (s : State) : (State.deliver s).store.freeList = s.store.freeList := by
  simp [State.deliver]

@[simp] theorem freeList_stage (bs : List Byte) (s : State) : (State.stage bs s).store.freeList = s.store.freeList := by
  simp [State.stage]

@[simp] theorem freeList_queueFrame (o : Origin) (f : Frame) (s : State) :
    (State.queueFrame o f s).store.freeList = s.store.freeList := by
  simp only [State.queueFrame]
  repeat' split
  all_goals simp

@[simp] theorem freeList_setTx (l : List TxEntry) (s : State) :
    (State.setTx l s).store.freeList = s.store.freeList := by
  simp [State.setTx]

@[simp] theorem freeList_removeTx (o : Origin) (s : State) :
    (State.removeTx o s).store.freeList = s.store.freeList := by
  simp [State.removeTx]

@[simp] theorem freeList_updTx (o : Origin) (f : TxEntry → TxEntry) (s : State) :
    (State.updTx o f s).store.freeList = s.store.freeList := by
  simp [State.updTx]

@[simp] theorem freeList_withdrawTx (o : Origin) (s : State) :
    (State.withdrawTx o s).store.freeList = s.store.freeList := by
  simp only [State.withdrawTx]
  repeat' split
  all_goals simp

@[simp] theorem freeList_replaceTx (o : Origin) (f : Frame) (s : State) :
    (State.replaceTx o f s).store.freeList = s.store.freeList := by
  simp only [State.replaceTx]
  repeat' split
  all_goals simp

@[simp] theorem freeList_queueOrReplace (o : Origin) (f : Frame) (s : State) :
    (State.queueOrReplace o f s).store.freeList = s.store.freeList := by
  simp only [State.queueOrReplace]
  repeat' split
  all_goals simp

@[simp] theorem freeList_clearTx (s : State) : (State.clearTx s).store.freeList = s.store.freeList := by
  simp [State.clearTx]

@[simp] theorem freeList_queueAnswer (f : Frame) (s : State) :
    (State.queueAnswer f s).store.freeList = s.store.freeList := by
  simp only [State.queueAnswer]
  repeat' split
  all_goals simp

@[simp] theorem freeList_withdrawAnswers (cond : Frame → Bool) (s : State) :
    (State.withdrawAnswers cond s).store.freeList = s.store.freeList := by
  simp only [State.withdrawAnswers]
  apply freeList_foldl
  intro s i
  repeat' split
  all_goals simp

@[simp] theorem freeList_judgeSlots (s : State) : (State.judgeSlots s).store.freeList = s.store.freeList := by
  simp only [State.judgeSlots]
  repeat' split
  all_goals simp

@[simp] theorem freeList_failAttempt (s : State) : (State.failAttempt s).store.freeList = s.store.freeList := by
  simp only [State.failAttempt]
  repeat' split
  all_goals simp

@[simp] theorem freeList_countCrcError (s : State) : (State.countCrcError s).store.freeList = s.store.freeList := by
  simp only [State.countCrcError]
  repeat' split
  all_goals simp

@[simp] theorem freeList_setClaim (p : PosIx) (c : ClaimState) (s : State) :
    (State.setClaim p c s).store.freeList = s.store.freeList := by
  simp [State.setClaim]

@[simp] theorem freeList_setRemembered (p : PosIx) (b : Bool) (s : State) :
    (State.setRemembered p b s).store.freeList = s.store.freeList := by
  simp [State.setRemembered]

@[simp] theorem freeList_queueClaim (p : PosIx) (s : State) :
    (State.queueClaim p s).store.freeList = s.store.freeList := by
  simp [State.queueClaim]

@[simp] theorem freeList_askClaim (p : PosIx) (s : State) : (State.askClaim p s).store.freeList = s.store.freeList := by
  simp only [State.askClaim]
  repeat' split
  all_goals simp

@[simp] theorem freeList_queueRelease (p : PosIx) (s : State) :
    (State.queueRelease p s).store.freeList = s.store.freeList := by
  simp [State.queueRelease]

@[simp] theorem freeList_giveUpClaim (p : PosIx) (s : State) :
    (State.giveUpClaim p s).store.freeList = s.store.freeList := by
  simp only [State.giveUpClaim]
  repeat' split
  all_goals simp

@[simp] theorem freeList_giveUpClaimOpt (p : Option PosIx) (s : State) :
    (State.giveUpClaim? p s).store.freeList = s.store.freeList := by
  simp only [State.giveUpClaim?]
  repeat' split
  all_goals simp

@[simp] theorem freeList_claimWithdrawn (p : PosIx) (s : State) :
    (State.claimWithdrawn p s).store.freeList = s.store.freeList := by
  simp only [State.claimWithdrawn]
  repeat' split
  all_goals simp

@[simp] theorem freeList_dropClaims (s : State) : (State.dropClaims s).store.freeList = s.store.freeList := by
  simp [State.dropClaims]

@[simp] theorem freeList_pumpWaits (h : Handle) (ws : List SlotWait) (s : State) :
    (State.pumpWaits h ws s).store.freeList = s.store.freeList := by
  induction ws generalizing s with
  | nil => simp [State.pumpWaits]
  | cons w ws ih => simp only [State.pumpWaits]; split <;> simp [ih]

@[simp] theorem freeList_pumpSlot (h : Handle) (s : State) :
    (State.pumpSlot h s).store.freeList = s.store.freeList := by
  simp only [State.pumpSlot]
  repeat' split
  all_goals simp

@[simp] theorem freeList_sendSlot (h : Handle) (w : SlotWait) (s : State) :
    (State.sendSlot h w s).store.freeList = s.store.freeList := by
  simp [State.sendSlot]

@[simp] theorem freeList_dropWaits (h : Handle) (w : SlotWait) (s : State) :
    (State.dropWaits h w s).store.freeList = s.store.freeList := by
  simp [State.dropWaits]

@[simp] theorem freeList_withdrawSlot (h : Handle) (k : FrameKind) (s : State) :
    (State.withdrawSlot h k s).store.freeList = s.store.freeList := by
  simp only [State.withdrawSlot]
  repeat' split
  all_goals simp

@[simp] theorem freeList_roundFrom (h : Handle) (k : Nat) (s : State) :
    (State.roundFrom h k s).store.freeList = s.store.freeList := by
  simp only [State.roundFrom]
  repeat' split
  all_goals simp

@[simp] theorem freeList_startRound (h : Handle) (s : State) :
    (State.startRound h s).store.freeList = s.store.freeList := by
  simp only [State.startRound]
  repeat' split
  all_goals simp

@[simp] theorem freeList_withdrawBooks (h : Handle) (s : State) :
    (State.withdrawBooks h s).store.freeList = s.store.freeList := by
  simp [State.withdrawBooks]

@[simp] theorem freeList_failCandidate (h : Handle) (s : State) :
    (State.failCandidate h s).store.freeList = s.store.freeList := by
  simp only [State.failCandidate]
  repeat' split
  all_goals simp

@[simp] theorem freeList_sendRenewal (h : Handle) (s : State) :
    (State.sendRenewal h s).store.freeList = s.store.freeList := by
  simp only [State.sendRenewal]
  repeat' split
  all_goals simp

@[simp] theorem freeList_endBooking (h : Handle) (s : State) :
    (State.endBooking h s).store.freeList = s.store.freeList := by
  simp only [State.endBooking]
  repeat' split
  all_goals simp

@[simp] theorem freeList_startTransfer (h : Handle) (s : State) :
    (State.startTransfer h s).store.freeList = s.store.freeList := by
  simp only [State.startTransfer]
  repeat' split
  all_goals simp

@[simp] theorem freeList_stopTransfer (h : Handle) (s : State) :
    (State.stopTransfer h s).store.freeList = s.store.freeList := by
  simp [State.stopTransfer]

@[simp] theorem freeList_placeOne (s : State) : (State.placeOne s).store.freeList = s.store.freeList := by
  simp only [State.placeOne]
  repeat' split
  all_goals simp

@[simp] theorem freeList_stopPositionOpt (p : Option PosIx) (s : State) :
    (State.stopPosition? p s).store.freeList = s.store.freeList := by
  simp only [State.stopPosition?]
  repeat' split
  all_goals simp

@[simp] theorem freeList_enterHeld (h : Handle) (k : DevKind) (v : BitVec 24) (leaves : Bool) (s : State) :
    (State.enterHeld h k v leaves s).store.freeList = s.store.freeList := by
  simp only [State.enterHeld]
  repeat' split
  all_goals simp

@[simp] theorem freeList_checkGap (h : Handle) (s : State) :
    (State.checkGap h s).store.freeList = s.store.freeList := by
  simp only [State.checkGap]
  repeat' split
  all_goals simp

@[simp] theorem freeList_judgeReady (h : Handle) (s : State) :
    (State.judgeReady h s).store.freeList = s.store.freeList := by
  simp only [State.judgeReady]
  repeat' split
  all_goals simp

@[simp] theorem freeList_enterChecked (h : Handle) (st : RecState) (s : State) :
    (State.enterChecked h st s).store.freeList = s.store.freeList := by
  simp [State.enterChecked]

@[simp] theorem freeList_enterLoaded (h : Handle) (s : State) :
    (State.enterLoaded h s).store.freeList = s.store.freeList := by
  simp [State.enterLoaded]

@[simp] theorem freeList_enterEnded (h : Handle) (s : State) :
    (State.enterEnded h s).store.freeList = s.store.freeList := by
  simp only [State.enterEnded]
  repeat' split
  all_goals simp

@[simp] theorem freeList_startStep (p : PosIx) (h : Handle) (s : State) :
    (State.startStep p h s).store.freeList = s.store.freeList := by
  simp only [State.startStep]
  repeat' split
  all_goals simp

@[simp] theorem freeList_tellGrant (p : PosIx) (s : State) :
    (State.tellGrant p s).store.freeList = s.store.freeList := by
  simp only [State.tellGrant]
  repeat' split
  all_goals simp

@[simp] theorem freeList_endStep (p : PosIx) (h : Handle) (s : State) :
    (State.endStep p h s).store.freeList = s.store.freeList := by
  simp only [State.endStep]
  repeat' split
  all_goals simp

@[simp] theorem freeList_stepFault (p : PosIx) (h : Handle) (k : DevKind) (v : BitVec 24) (s : State) :
    (State.stepFault p h k v s).store.freeList = s.store.freeList := by
  simp [State.stepFault]

@[simp] theorem freeList_dropBooking (h : Handle) (s : State) :
    (State.dropBooking h s).store.freeList = s.store.freeList := by
  simp only [State.dropBooking]
  repeat' split
  all_goals simp

@[simp] theorem freeList_tellEntry (s : State) (e : ClaimEntry) :
    (State.tellEntry s e).store.freeList = s.store.freeList := by
  simp only [State.tellEntry]
  repeat' split
  all_goals simp

@[simp] theorem freeList_tellGrants (l : List ClaimEntry) (s : State) :
    (State.tellGrants l s).store.freeList = s.store.freeList := by
  exact freeList_foldl _ freeList_tellEntry l s

@[simp] theorem freeList_reportOversize (p : PosIx) (b : BudgetIx) (s : State) :
    (State.reportOversize p b s).store.freeList = s.store.freeList := by
  simp only [State.reportOversize]
  repeat' split
  all_goals simp

@[simp] theorem freeList_claimStands (p : PosIx) (st : ClaimState) (s : State) :
    (State.claimStands p st s).store.freeList = s.store.freeList := by
  simp only [State.claimStands]
  repeat' split
  all_goals simp

@[simp] theorem freeList_ownClaim (payload : List Byte) (c : ClaimOutcome) (s : State) :
    (State.ownClaim payload c s).store.freeList = s.store.freeList := by
  simp only [State.ownClaim]
  repeat' split
  all_goals simp

@[simp] theorem freeList_ownRelease (payload : List Byte) (s : State) :
    (State.ownRelease payload s).store.freeList = s.store.freeList := by
  simp only [State.ownRelease]
  repeat' split
  all_goals simp

@[simp] theorem freeList_ownRemoved (caps : Triple) (s : State) (e : ClaimEntry) :
    (State.ownRemoved caps s e).store.freeList = s.store.freeList := by
  simp only [State.ownRemoved]
  repeat' split
  all_goals simp

@[simp] theorem freeList_takeReplicated (f : BufferedFrame) (own : Bool) (s : State) :
    (State.takeReplicated f own s).store.freeList = s.store.freeList := by
  simp only [State.takeReplicated]
  repeat' split
  all_goals simp

@[simp] theorem freeList_dropTable (s : State) : (State.dropTable s).store.freeList = s.store.freeList := by
  simp [State.dropTable]

@[simp] theorem freeList_setStatus (cond : Booking → Bool) (st : BookingStatus) (s : State) :
    (State.setStatus cond st s).store.freeList = s.store.freeList := by
  simp [State.setStatus]

@[simp] theorem freeList_answerRefused (a : Addr) (t : Tag) (r : Reason) (s : State) :
    (State.answerRefused a t r s).store.freeList = s.store.freeList := by
  simp [State.answerRefused]

@[simp] theorem freeList_renewEntry (a : Addr) (q : BookRequest) (b : Booking) (s : State) :
    (State.renewEntry a q b s).store.freeList = s.store.freeList := by
  simp [State.renewEntry]

@[simp] theorem freeList_completeImage (b : Booking) (im : List Byte) (s : State) :
    (State.completeImage b im s).store.freeList = s.store.freeList := by
  simp only [State.completeImage]
  repeat' split
  all_goals simp

@[simp] theorem freeList_takePart (b : Booking) (a : Assembly) (s : State) :
    (State.takePart b a s).store.freeList = s.store.freeList := by
  simp only [State.takePart]
  repeat' split
  all_goals simp

@[simp] theorem freeList_rejectOpen (b : Booking) (s : State) :
    (State.rejectOpen b s).store.freeList = s.store.freeList := by
  simp only [State.rejectOpen]
  repeat' split
  all_goals simp

@[simp] theorem freeList_takeFirstPart (a : Addr) (c : CarryPart) (s : State) :
    (State.takeFirstPart a c s).store.freeList = s.store.freeList := by
  simp only [State.takeFirstPart]
  repeat' split
  all_goals simp

@[simp] theorem freeList_takeLaterPart (a : Addr) (c : CarryPart) (s : State) :
    (State.takeLaterPart a c s).store.freeList = s.store.freeList := by
  simp only [State.takeLaterPart]
  repeat' split
  all_goals simp

@[simp] theorem freeList_takeCarry (a : Addr) (c : CarryPart) (s : State) :
    (State.takeCarry a c s).store.freeList = s.store.freeList := by
  simp only [State.takeCarry]
  repeat' split
  all_goals simp

@[simp] theorem freeList_receiveRecord (f : Frame) (s : State) :
    (State.receiveRecord f s).store.freeList = s.store.freeList := by
  simp only [State.receiveRecord]
  repeat' split
  all_goals simp

@[simp] theorem freeList_takeBooked (a : Addr) (t : Tag) (p : PosIx) (s : State) :
    (State.takeBooked a t p s).store.freeList = s.store.freeList := by
  simp only [State.takeBooked]
  repeat' split
  all_goals simp

@[simp] theorem freeList_takeRefused (a : Addr) (t : Tag) (s : State) :
    (State.takeRefused a t s).store.freeList = s.store.freeList := by
  simp only [State.takeRefused]
  repeat' split
  all_goals simp

@[simp] theorem freeList_rejected (a : Addr) (t : Tag) (reason : Byte) (s : State) :
    (State.rejected a t reason s).store.freeList = s.store.freeList := by
  simp only [State.rejected]
  repeat' split
  all_goals simp

@[simp] theorem freeList_answerLocate (a : Addr) (t : Tag) (s : State) :
    (State.answerLocate a t s).store.freeList = s.store.freeList := by
  simp only [State.answerLocate]
  repeat' split
  all_goals simp

@[simp] theorem freeList_cancelBooking (a : Addr) (t : Tag) (s : State) :
    (State.cancelBooking a t s).store.freeList = s.store.freeList := by
  simp only [State.cancelBooking]
  repeat' split
  all_goals simp

@[simp] theorem freeList_departRecord (a : Addr) (s : State) (h : Handle) :
    (State.departRecord a s h).store.freeList = s.store.freeList := by
  simp only [State.departRecord]
  repeat' split
  all_goals simp

@[simp] theorem freeList_clearOutbound (s : State) (p : PosIx) :
    (State.clearOutbound s p).store.freeList = s.store.freeList := by
  simp only [State.clearOutbound]
  repeat' split
  all_goals simp

@[simp] theorem freeList_updPeer (a : Addr) (f : Peer → Peer) (s : State) :
    (State.updPeer a f s).store.freeList = s.store.freeList := by
  simp [State.updPeer]

@[simp] theorem freeList_setLine (l : LineState) (s : State) :
    (State.setLine l s).store.freeList = s.store.freeList := by
  simp [State.setLine]

@[simp] theorem freeList_peerGone (a : Addr) (c : GoneCause) (s : State) :
    (State.peerGone a c s).store.freeList = s.store.freeList := by
  simp only [State.peerGone]
  repeat' split
  all_goals simp

@[simp] theorem freeList_postPeerJoined (a : Addr) (s : State) :
    (State.postPeerJoined a s).store.freeList = s.store.freeList := by
  simp [State.postPeerJoined]

@[simp] theorem freeList_peerJoins (a : Addr) (role : Role) (s : State) :
    (State.peerJoins a role s).store.freeList = s.store.freeList := by
  simp [State.peerJoins]

@[simp] theorem freeList_applyPresence (a : Addr) (q : PresenceReport) (s : State) :
    (State.applyPresence a q s).store.freeList = s.store.freeList := by
  simp only [State.applyPresence]
  repeat' split
  all_goals simp

@[simp] theorem freeList_restartRound (a : Addr) (s : State) (h : Handle) :
    (State.restartRound a s h).store.freeList = s.store.freeList := by
  simp only [State.restartRound]
  repeat' split
  all_goals simp

@[simp] theorem freeList_restartRounds (a : Addr) (q : PresenceReport) (s : State) :
    (State.restartRounds a q s).store.freeList = s.store.freeList := by
  simp only [State.restartRounds]
  repeat' split
  all_goals simp

@[simp] theorem freeList_noteSender (a : Addr) (s : State) :
    (State.noteSender a s).store.freeList = s.store.freeList := by
  simp only [State.noteSender]
  repeat' split
  all_goals simp

@[simp] theorem freeList_sendUpkeep (f : Frame) (s : State) :
    (State.sendUpkeep f s).store.freeList = s.store.freeList := by
  simp only [State.sendUpkeep]
  repeat' split
  all_goals simp

@[simp] theorem freeList_pumpUpkeep (s : State) : (State.pumpUpkeep s).store.freeList = s.store.freeList := by
  simp only [State.pumpUpkeep]
  repeat' split
  all_goals simp

@[simp] theorem freeList_withdrawUpkeep (kinds : List FrameKind) (s : State) :
    (State.withdrawUpkeep kinds s).store.freeList = s.store.freeList := by
  simp only [State.withdrawUpkeep]
  repeat' split
  all_goals simp

@[simp] theorem freeList_stopServing (s : State) : (State.stopServing s).store.freeList = s.store.freeList := by
  simp [State.stopServing]

@[simp] theorem freeList_stopServingOf (a : Addr) (s : State) :
    (State.stopServingOf a s).store.freeList = s.store.freeList := by
  simp only [State.stopServingOf]
  repeat' split
  all_goals simp

@[simp] theorem freeList_setJoinQueue (l : List Joiner) (s : State) :
    (State.setJoinQueue l s).store.freeList = s.store.freeList := by
  simp [State.setJoinQueue]

@[simp] theorem freeList_leaveQueue (a : Addr) (s : State) :
    (State.leaveQueue a s).store.freeList = s.store.freeList := by
  simp [State.leaveQueue]

@[simp] theorem freeList_enterQueue (a : Addr) (s : State) :
    (State.enterQueue a s).store.freeList = s.store.freeList := by
  simp only [State.enterQueue]
  repeat' split
  all_goals simp

@[simp] theorem freeList_judgeProvider (a : Addr) (s : State) :
    (State.judgeProvider a s).store.freeList = s.store.freeList := by
  simp only [State.judgeProvider]
  repeat' split
  all_goals simp

@[simp] theorem freeList_tryServe (s : State) : (State.tryServe s).store.freeList = s.store.freeList := by
  simp only [State.tryServe]
  repeat' split
  all_goals simp

@[simp] theorem freeList_snapAppeared (s : State) : (State.snapAppeared s).store.freeList = s.store.freeList := by
  simp only [State.snapAppeared]
  repeat' split
  all_goals simp

@[simp] theorem freeList_rejoin (c : Cause) (s : State) : (State.rejoin c s).store.freeList = s.store.freeList := by
  simp only [State.rejoin]
  repeat' split
  all_goals simp

@[simp] theorem freeList_enterJoining (c : Cause) (s : State) :
    (State.enterJoining c s).store.freeList = s.store.freeList := by
  simp [State.enterJoining]

@[simp] theorem freeList_startJoin (s : State) : (State.startJoin s).store.freeList = s.store.freeList := by
  simp [State.startJoin]

@[simp] theorem freeList_bufferFrame (f : BufferedFrame) (s : State) :
    (State.bufferFrame f s).store.freeList = s.store.freeList := by
  simp only [State.bufferFrame]
  repeat' split
  all_goals simp

@[simp] theorem freeList_joinedRecord (s : State) (h : Handle) :
    (State.joinedRecord s h).store.freeList = s.store.freeList := by
  simp only [State.joinedRecord]
  repeat' split
  all_goals simp

@[simp] theorem freeList_joinedPosition (s : State) (p : PosIx) :
    (State.joinedPosition s p).store.freeList = s.store.freeList := by
  simp only [State.joinedPosition]
  repeat' split
  all_goals simp

@[simp] theorem freeList_completeJoin (c : Cause) (s : State) :
    (State.completeJoin c s).store.freeList = s.store.freeList := by
  simp [State.completeJoin]

@[simp] theorem freeList_loadSnapshot (n : SnapIn) (s : State) :
    (State.loadSnapshot n s).store.freeList = s.store.freeList := by
  simp [State.loadSnapshot]

@[simp] theorem freeList_listFrame (f : BufferedFrame) (s : State) :
    (State.listFrame f s).store.freeList = s.store.freeList := by
  simp only [State.listFrame]
  repeat' split
  all_goals simp

@[simp] theorem freeList_replayFrame (s : State) (f : BufferedFrame) :
    (State.replayFrame s f).store.freeList = s.store.freeList := by
  simp [State.replayFrame]

@[simp] theorem freeList_finishSnapshot (n : SnapIn) (s : State) :
    (State.finishSnapshot n s).store.freeList = s.store.freeList := by
  simp [State.finishSnapshot]

@[simp] theorem freeList_firstStation (s : State) : (State.firstStation s).store.freeList = s.store.freeList := by
  simp [State.firstStation]

@[simp] theorem freeList_lostPosition (s : State) (p : PosIx) :
    (State.lostPosition s p).store.freeList = s.store.freeList := by
  simp only [State.lostPosition]
  repeat' split
  all_goals simp

@[simp] theorem freeList_enterMismatch (s : State) : (State.enterMismatch s).store.freeList = s.store.freeList := by
  simp [State.enterMismatch]

@[simp] theorem freeList_takeHead (sender : Addr) (q : SnapHead) (s : State) :
    (State.takeHead sender q s).store.freeList = s.store.freeList := by
  simp only [State.takeHead]
  repeat' split
  all_goals simp

@[simp] theorem freeList_takeSnapPart (index : Nat) (content : List Byte) (s : State) :
    (State.takeSnapPart index content s).store.freeList = s.store.freeList := by
  simp only [State.takeSnapPart]
  repeat' split
  all_goals simp

@[simp] theorem freeList_setInTx (x : InTx) (s : State) : (State.setInTx x s).store.freeList = s.store.freeList := by
  simp [State.setInTx]

@[simp] theorem freeList_beginTx (s : State) : (State.beginTx s).store.freeList = s.store.freeList := by
  simp only [State.beginTx]
  repeat' split
  all_goals simp

@[simp] theorem freeList_restartStall (s : State) : (State.restartStall s).store.freeList = s.store.freeList := by
  simp [State.restartStall]

@[simp] theorem freeList_pumpOrigin (o : Origin) (s : State) :
    (State.pumpOrigin o s).store.freeList = s.store.freeList := by
  simp only [State.pumpOrigin]
  repeat' split
  all_goals simp

@[simp] theorem freeList_finishOwn (own : OwnTx) (s : State) :
    (State.finishOwn own s).store.freeList = s.store.freeList := by
  simp only [State.finishOwn]
  repeat' split
  all_goals simp

@[simp] theorem freeList_dropFrame (o : Origin) (s : State) :
    (State.dropFrame o s).store.freeList = s.store.freeList := by
  simp [State.dropFrame]

@[simp] theorem freeList_countVoid (s : State) : (State.countVoid s).store.freeList = s.store.freeList := by
  simp only [State.countVoid]
  repeat' split
  all_goals simp

@[simp] theorem freeList_dropHead (s : State) : (State.dropHead s).store.freeList = s.store.freeList := by
  simp only [State.dropHead]
  repeat' split
  all_goals simp

@[simp] theorem freeList_countClean (s : State) : (State.countClean s).store.freeList = s.store.freeList := by
  simp [State.countClean]

@[simp] theorem freeList_noteBar (k : FrameKind) (payload : List Byte) (s : State) :
    (State.noteBar k payload s).store.freeList = s.store.freeList := by
  simp only [State.noteBar]
  repeat' split
  all_goals simp

@[simp] theorem freeList_takenSaved (own : OwnTx) (s : State) :
    (State.takenSaved own s).store.freeList = s.store.freeList := by
  simp only [State.takenSaved]
  repeat' split
  all_goals simp

@[simp] theorem freeList_appearUndefined (sender : Addr) (s : State) :
    (State.appearUndefined sender s).store.freeList = s.store.freeList := by
  simp only [State.appearUndefined]
  repeat' split
  all_goals simp

@[simp] theorem freeList_onReplicated (k : FrameKind) (sender : Addr) (payload : List Byte) (s : State) :
    (State.onReplicated k sender payload s).store.freeList = s.store.freeList := by
  simp only [State.onReplicated]
  repeat' split
  all_goals simp

@[simp] theorem freeList_onSnapHead (own : OwnTx) (sender : Addr) (payload : List Byte) (s : State) :
    (State.onSnapHead own sender payload s).store.freeList = s.store.freeList := by
  simp only [State.onSnapHead]
  repeat' split
  all_goals simp

@[simp] theorem freeList_onSnapPart (own : OwnTx) (payload : List Byte) (s : State) :
    (State.onSnapPart own payload s).store.freeList = s.store.freeList := by
  simp only [State.onSnapPart]
  repeat' split
  all_goals simp

@[simp] theorem freeList_onPresence (sender : Addr) (payload : List Byte) (s : State) :
    (State.onPresence sender payload s).store.freeList = s.store.freeList := by
  simp only [State.onPresence]
  repeat' split
  all_goals simp

@[simp] theorem freeList_bookAppeared (own : OwnTx) (dest : BitVec 5) (q : BookRequest) (s : State) :
    (State.bookAppeared own dest q s).store.freeList = s.store.freeList := by
  simp only [State.bookAppeared]
  repeat' split
  all_goals simp

@[simp] theorem freeList_bookedAppeared (dest : BitVec 5) (t : Tag) (s : State) :
    (State.bookedAppeared dest t s).store.freeList = s.store.freeList := by
  simp [State.bookedAppeared]

@[simp] theorem freeList_onBooked (own : OwnTx) (sender : Addr) (dest : BitVec 5) (payload : List Byte) (s : State) :
    (State.onBooked own sender dest payload s).store.freeList = s.store.freeList := by
  simp only [State.onBooked]
  repeat' split
  all_goals simp

@[simp] theorem freeList_onRefused (sender : Addr) (dest : BitVec 5) (payload : List Byte) (s : State) :
    (State.onRefused sender dest payload s).store.freeList = s.store.freeList := by
  simp only [State.onRefused]
  repeat' split
  all_goals simp

@[simp] theorem freeList_locateAppeared (t : Tag) (s : State) :
    (State.locateAppeared t s).store.freeList = s.store.freeList := by
  simp only [State.locateAppeared]
  repeat' split
  all_goals simp

@[simp] theorem freeList_onLocate (own : OwnTx) (sender : Addr) (payload : List Byte) (s : State) :
    (State.onLocate own sender payload s).store.freeList = s.store.freeList := by
  simp only [State.onLocate]
  repeat' split
  all_goals simp

@[simp] theorem freeList_carryAppeared (own : OwnTx) (index : Nat) (s : State) :
    (State.carryAppeared own index s).store.freeList = s.store.freeList := by
  simp only [State.carryAppeared]
  repeat' split
  all_goals simp

@[simp] theorem freeList_onCarry (own : OwnTx) (sender : Addr) (dest : BitVec 5) (payload : List Byte) (s : State) :
    (State.onCarry own sender dest payload s).store.freeList = s.store.freeList := by
  simp only [State.onCarry]
  repeat' split
  all_goals simp

@[simp] theorem freeList_countOne (p : PosIx) (h : Handle) (r : Record) (e : StepEntry) (s : State) :
    (State.countOne p h r e s).store.freeList = s.store.freeList := by
  simp only [State.countOne]
  repeat' split
  all_goals simp

@[simp] theorem freeList_runSecond (p : PosIx) (s : State) :
    (State.runSecond p s).store.freeList = s.store.freeList := by
  simp only [State.runSecond]
  repeat' split
  all_goals simp

@[simp] theorem freeList_pauseSecond (p : PosIx) (s : State) :
    (State.pauseSecond p s).store.freeList = s.store.freeList := by
  simp only [State.pauseSecond]
  repeat' split
  all_goals simp

@[simp] theorem freeList_lampSilent (p : PosIx) (s : State) :
    (State.lampSilent p s).store.freeList = s.store.freeList := by
  simp only [State.lampSilent]
  repeat' split
  all_goals simp

@[simp] theorem freeList_doseShort (p : PosIx) (s : State) :
    (State.doseShort p s).store.freeList = s.store.freeList := by
  simp only [State.doseShort]
  repeat' split
  all_goals simp

@[simp] theorem freeList_dosePulse (p : PosIx) (s : State) :
    (State.dosePulse p s).store.freeList = s.store.freeList := by
  simp only [State.dosePulse]
  repeat' split
  all_goals simp

@[simp] theorem freeList_gapSecond (h : Handle) (s : State) :
    (State.gapSecond h s).store.freeList = s.store.freeList := by
  simp only [State.gapSecond]
  repeat' split
  all_goals simp

@[simp] theorem freeList_answerExpired (h : Handle) (s : State) :
    (State.answerExpired h s).store.freeList = s.store.freeList := by
  simp only [State.answerExpired]
  repeat' split
  all_goals simp

@[simp] theorem freeList_partGapExpired (p : PosIx) (s : State) :
    (State.partGapExpired p s).store.freeList = s.store.freeList := by
  simp only [State.partGapExpired]
  repeat' split
  all_goals simp

@[simp] theorem freeList_handOffExpired (h : Handle) (s : State) :
    (State.handOffExpired h s).store.freeList = s.store.freeList := by
  simp only [State.handOffExpired]
  repeat' split
  all_goals simp

@[simp] theorem freeList_locateExpired (h : Handle) (s : State) :
    (State.locateExpired h s).store.freeList = s.store.freeList := by
  simp only [State.locateExpired]
  repeat' split
  all_goals simp

@[simp] theorem freeList_departureExpired (a : Addr) (s : State) :
    (State.departureExpired a s).store.freeList = s.store.freeList := by
  simp only [State.departureExpired]
  repeat' split
  all_goals simp

@[simp] theorem freeList_presenceExpired (s : State) : (State.presenceExpired s).store.freeList = s.store.freeList := by
  simp only [State.presenceExpired]
  repeat' split
  all_goals simp

@[simp] theorem freeList_joinWaitExpired (s : State) : (State.joinWaitExpired s).store.freeList = s.store.freeList := by
  simp only [State.joinWaitExpired]
  repeat' split
  all_goals simp

@[simp] theorem freeList_snapGapExpired (s : State) : (State.snapGapExpired s).store.freeList = s.store.freeList := by
  simp only [State.snapGapExpired]
  repeat' split
  all_goals simp

@[simp] theorem freeList_backoffExpired (s : State) : (State.backoffExpired s).store.freeList = s.store.freeList := by
  simp only [State.backoffExpired]
  repeat' split
  all_goals simp

@[simp] theorem freeList_advancePos (s : State) (p : PosIx) :
    (State.advancePos s p).store.freeList = s.store.freeList := by
  simp only [State.advancePos]
  repeat' split
  all_goals simp

@[simp] theorem freeList_advance (s : State) : (State.advance s).store.freeList = s.store.freeList := by
  simp [State.advance]

@[simp] theorem freeList_firePos (s : State) (p : PosIx) : (State.firePos s p).store.freeList = s.store.freeList := by
  simp only [State.firePos]
  repeat' split
  all_goals simp

@[simp] theorem freeList_fireRec (s : State) (h : Handle) : (State.fireRec s h).store.freeList = s.store.freeList := by
  simp only [State.fireRec]
  repeat' split
  all_goals simp

@[simp] theorem freeList_fireDeparture (s : State) (a : Addr) :
    (State.fireDeparture s a).store.freeList = s.store.freeList := by
  simp only [State.fireDeparture]
  repeat' split
  all_goals simp

@[simp] theorem freeList_pauseForPower (s : State) (p : PosIx) :
    (State.pauseForPower s p).store.freeList = s.store.freeList := by
  simp only [State.pauseForPower]
  repeat' split
  all_goals simp

@[simp] theorem freeList_beginWrite (s : State) : (State.beginWrite s).store.freeList = s.store.freeList := by
  simp only [State.beginWrite]
  repeat' split
  all_goals simp

@[simp] theorem freeList_endWrite (s : State) : (State.endWrite s).store.freeList = s.store.freeList := by
  simp only [State.endWrite]
  repeat' split
  all_goals simp

@[simp] theorem freeList_restorePosition (im : List Byte) (s : State) (p : PosIx) :
    (State.restorePosition im s p).store.freeList = s.store.freeList := by
  simp only [State.restorePosition]
  repeat' split
  all_goals simp

@[simp] theorem freeList_cleanLink (s : State) (h : Handle) :
    (State.cleanLink s h).store.freeList = s.store.freeList := by
  simp [State.cleanLink]

@[simp] theorem freeList_restoreArrival (s : State) (h : Handle) :
    (State.restoreArrival s h).store.freeList = s.store.freeList := by
  simp only [State.restoreArrival]
  repeat' split
  all_goals simp

@[simp] theorem freeList_postRestoreHeld (s : State) (x : Handle × Nat) :
    (State.postRestoreHeld s x).store.freeList = s.store.freeList := by
  simp only [State.postRestoreHeld]
  repeat' split
  all_goals simp

@[simp] theorem freeList_invalidate (s : State) : (State.invalidate s).store.freeList = s.store.freeList := by
  simp [State.invalidate]

@[simp] theorem freeList_postRestored (n : Nat) (s : State) :
    (State.postRestored n s).store.freeList = s.store.freeList := by
  simp [State.postRestored]

@[simp] theorem freeList_openPositions (s : State) : (State.openPositions s).store.freeList = s.store.freeList := by
  simp [State.openPositions]

@[simp] theorem freeList_configWrite (item : Byte) (v : BitVec 16) (s : State) :
    (State.configWrite item v s).store.freeList = s.store.freeList := by
  simp only [State.configWrite]
  repeat' split
  all_goals simp

@[simp] theorem freeList_useSeq (q : BitVec 16) (s : State) : (State.useSeq q s).store.freeList = s.store.freeList := by
  simp [State.useSeq]

@[simp] theorem freeList_plateArrives (p : PosIx) (h : Handle) (r : Record) (s : State) :
    (State.plateArrives p h r s).store.freeList = s.store.freeList := by
  simp only [State.plateArrives]
  repeat' split
  all_goals simp

@[simp] theorem freeList_arrived (p : PosIx) (seq : BitVec 16) (s : State) :
    (State.arrived p seq s).store.freeList = s.store.freeList := by
  simp only [State.arrived]
  repeat' split
  all_goals simp

@[simp] theorem freeList_rushRecord (h : Handle) (r : Record) (s : State) :
    (State.rushRecord h r s).store.freeList = s.store.freeList := by
  simp only [State.rushRecord]
  repeat' split
  all_goals simp

@[simp] theorem freeList_wrongCode (s : State) : (State.wrongCode s).store.freeList = s.store.freeList := by
  simp [State.wrongCode]

@[simp] theorem freeList_scrapPosition (p : Option PosIx) (s : State) :
    (State.scrapPosition p s).store.freeList = s.store.freeList := by
  simp only [State.scrapPosition]
  repeat' split
  all_goals simp

@[simp] theorem freeList_stopLocate (h : Handle) (s : State) :
    (State.stopLocate h s).store.freeList = s.store.freeList := by
  simp [State.stopLocate]

@[simp] theorem freeList_adoptRecord (h : Handle) (r : Record) (s : State) :
    (State.adoptRecord h r s).store.freeList = s.store.freeList := by
  simp [State.adoptRecord]

@[simp] theorem freeList_adopt (h : Handle) (r : Record) (s : State) :
    (State.adopt h r s).store.freeList = s.store.freeList := by
  simp only [State.adopt]
  repeat' split
  all_goals simp

@[simp] theorem freeList_setIlk (p : PosIx) (level : Bool) (s : State) :
    (State.setIlk p level s).store.freeList = s.store.freeList := by
  simp [State.setIlk]

@[simp] theorem freeList_pauseStep (p : PosIx) (s : State) :
    (State.pauseStep p s).store.freeList = s.store.freeList := by
  simp only [State.pauseStep]
  repeat' split
  all_goals simp

@[simp] theorem freeList_resumeStep (p : PosIx) (s : State) :
    (State.resumeStep p s).store.freeList = s.store.freeList := by
  simp only [State.resumeStep]
  repeat' split
  all_goals simp

@[simp] theorem freeList_departureDue (a : Addr) (s : State) :
    (State.departureDue a s).store.freeList = s.store.freeList := by
  simp [State.departureDue]

@[simp] theorem freeList_sendLeave (s : State) : (State.sendLeave s).store.freeList = s.store.freeList := by
  simp [State.sendLeave]

end Sys2Proof.Machine
end

