-- ==== Sys2Proof/Laws/FrameInTx.lean ====
section
/-! SUPPORT. Which operations leave the frame in transmission alone: one lemma per operation, proved in the order the operations are built in. -/

namespace Sys2Proof.Machine

@[simp] theorem inTx_ite (c : Prop) [Decidable c] (x y : State) : (if c then x else y).lbi.inTx = if c then x.lbi.inTx else y.lbi.inTx := by
  split <;> rfl

@[simp] theorem inTx_foldl {α} (f : State → α → State) (hf : ∀ s a, (f s a).lbi.inTx = s.lbi.inTx) (l : List α) (s : State) :
    (l.foldl f s).lbi.inTx = s.lbi.inTx := by
  induction l generalizing s with
  | nil => rfl
  | cons a l ih => rw [List.foldl_cons, ih, hf]

@[simp] theorem inTx_setSlot (h : Handle) (x : Slot) (s : State) : (State.setSlot h x s).lbi.inTx = s.lbi.inTx := by
  simp [State.setSlot]

@[simp] theorem inTx_setRec (h : Handle) (r : Record) (s : State) : (State.setRec h r s).lbi.inTx = s.lbi.inTx := by
  simp [State.setRec]

@[simp] theorem inTx_updRec (h : Handle) (f : Record → Record) (s : State) :
    (State.updRec h f s).lbi.inTx = s.lbi.inTx := by
  simp only [State.updRec]
  repeat' split
  all_goals simp

@[simp] theorem inTx_setWaits (h : Handle) (ws : List SlotWait) (s : State) :
    (State.setWaits h ws s).lbi.inTx = s.lbi.inTx := by
  simp [State.setWaits]

@[simp] theorem inTx_freeSlot (h : Handle) (s : State) : (State.freeSlot h s).lbi.inTx = s.lbi.inTx := by
  simp [State.freeSlot]

@[simp] theorem inTx_enqueue (h : Handle) (rush : Bool) (s : State) :
    (State.enqueue h rush s).lbi.inTx = s.lbi.inTx := by
  simp only [State.enqueue]
  repeat' split
  all_goals simp

@[simp] theorem inTx_unqueue (h : Handle) (s : State) : (State.unqueue h s).lbi.inTx = s.lbi.inTx := by
  simp [State.unqueue]

@[simp] theorem inTx_updPos (p : PosIx) (f : Position → Position) (s : State) :
    (State.updPos p f s).lbi.inTx = s.lbi.inTx := by
  simp [State.updPos]

@[simp] theorem inTx_vacate (p : PosIx) (st : PosState) (s : State) : (State.vacate p st s).lbi.inTx = s.lbi.inTx := by
  simp [State.vacate]

@[simp] theorem inTx_vacateOpt (p : Option PosIx) (st : PosState) (s : State) :
    (State.vacate? p st s).lbi.inTx = s.lbi.inTx := by
  simp only [State.vacate?]
  repeat' split
  all_goals simp

@[simp] theorem inTx_alarm (f : Alarms → Alarms) (s : State) : (State.alarm f s).lbi.inTx = s.lbi.inTx := by
  simp [State.alarm]

@[simp] theorem inTx_post (e : Event) (s : State) : (State.post e s).lbi.inTx = s.lbi.inTx := by
  simp only [State.post]
  repeat' split
  all_goals simp

@[simp] theorem inTx_postLineState (c : Cause) (s : State) : (State.postLineState c s).lbi.inTx = s.lbi.inTx := by
  simp [State.postLineState]

@[simp] theorem inTx_respond (st : Status) (data : BitVec 24) (s : State) :
    (State.respond st data s).lbi.inTx = s.lbi.inTx := by
  simp [State.respond]

@[simp] theorem inTx_ok (d2 d1 d0 : Byte) (s : State) : (State.ok d2 d1 d0 s).lbi.inTx = s.lbi.inTx := by
  simp [State.ok]

@[simp] theorem inTx_refuse (r : Reason) (d0 : Byte) (s : State) : (State.refuse r d0 s).lbi.inTx = s.lbi.inTx := by
  simp [State.refuse]

@[simp] theorem inTx_badArgument (code : Byte) (s : State) : (State.badArgument code s).lbi.inTx = s.lbi.inTx := by
  simp [State.badArgument]

@[simp] theorem inTx_deliver (s : State) : (State.deliver s).lbi.inTx = s.lbi.inTx := by
  simp [State.deliver]

@[simp] theorem inTx_stage (bs : List Byte) (s : State) : (State.stage bs s).lbi.inTx = s.lbi.inTx := by
  simp [State.stage]

@[simp] theorem inTx_queueFrame (o : Origin) (f : Frame) (s : State) :
    (State.queueFrame o f s).lbi.inTx = s.lbi.inTx := by
  simp only [State.queueFrame]
  repeat' split
  all_goals simp

@[simp] theorem inTx_setTx (l : List TxEntry) (s : State) : (State.setTx l s).lbi.inTx = s.lbi.inTx := by
  simp [State.setTx]

@[simp] theorem inTx_removeTx (o : Origin) (s : State) : (State.removeTx o s).lbi.inTx = s.lbi.inTx := by
  simp [State.removeTx]

@[simp] theorem inTx_updTx (o : Origin) (f : TxEntry → TxEntry) (s : State) :
    (State.updTx o f s).lbi.inTx = s.lbi.inTx := by
  simp [State.updTx]

@[simp] theorem inTx_withdrawTx (o : Origin) (s : State) : (State.withdrawTx o s).lbi.inTx = s.lbi.inTx := by
  simp only [State.withdrawTx]
  repeat' split
  all_goals simp

@[simp] theorem inTx_replaceTx (o : Origin) (f : Frame) (s : State) :
    (State.replaceTx o f s).lbi.inTx = s.lbi.inTx := by
  simp only [State.replaceTx]
  repeat' split
  all_goals simp

@[simp] theorem inTx_queueOrReplace (o : Origin) (f : Frame) (s : State) :
    (State.queueOrReplace o f s).lbi.inTx = s.lbi.inTx := by
  simp only [State.queueOrReplace]
  repeat' split
  all_goals simp

@[simp] theorem inTx_queueAnswer (f : Frame) (s : State) : (State.queueAnswer f s).lbi.inTx = s.lbi.inTx := by
  simp only [State.queueAnswer]
  repeat' split
  all_goals simp

@[simp] theorem inTx_withdrawAnswers (cond : Frame → Bool) (s : State) :
    (State.withdrawAnswers cond s).lbi.inTx = s.lbi.inTx := by
  simp only [State.withdrawAnswers]
  apply inTx_foldl
  intro s i
  repeat' split
  all_goals simp

@[simp] theorem inTx_judgeSlots (s : State) : (State.judgeSlots s).lbi.inTx = s.lbi.inTx := by
  simp only [State.judgeSlots]
  repeat' split
  all_goals simp

@[simp] theorem inTx_failAttempt (s : State) : (State.failAttempt s).lbi.inTx = s.lbi.inTx := by
  simp only [State.failAttempt]
  repeat' split
  all_goals simp

@[simp] theorem inTx_countCrcError (s : State) : (State.countCrcError s).lbi.inTx = s.lbi.inTx := by
  simp only [State.countCrcError]
  repeat' split
  all_goals simp

@[simp] theorem inTx_setClaim (p : PosIx) (c : ClaimState) (s : State) :
    (State.setClaim p c s).lbi.inTx = s.lbi.inTx := by
  simp [State.setClaim]

@[simp] theorem inTx_setRemembered (p : PosIx) (b : Bool) (s : State) :
    (State.setRemembered p b s).lbi.inTx = s.lbi.inTx := by
  simp [State.setRemembered]

@[simp] theorem inTx_queueClaim (p : PosIx) (s : State) : (State.queueClaim p s).lbi.inTx = s.lbi.inTx := by
  simp [State.queueClaim]

@[simp] theorem inTx_askClaim (p : PosIx) (s : State) : (State.askClaim p s).lbi.inTx = s.lbi.inTx := by
  simp only [State.askClaim]
  repeat' split
  all_goals simp

@[simp] theorem inTx_queueRelease (p : PosIx) (s : State) : (State.queueRelease p s).lbi.inTx = s.lbi.inTx := by
  simp [State.queueRelease]

@[simp] theorem inTx_giveUpClaim (p : PosIx) (s : State) : (State.giveUpClaim p s).lbi.inTx = s.lbi.inTx := by
  simp only [State.giveUpClaim]
  repeat' split
  all_goals simp

@[simp] theorem inTx_giveUpClaimOpt (p : Option PosIx) (s : State) :
    (State.giveUpClaim? p s).lbi.inTx = s.lbi.inTx := by
  simp only [State.giveUpClaim?]
  repeat' split
  all_goals simp

@[simp] theorem inTx_claimWithdrawn (p : PosIx) (s : State) : (State.claimWithdrawn p s).lbi.inTx = s.lbi.inTx := by
  simp only [State.claimWithdrawn]
  repeat' split
  all_goals simp

@[simp] theorem inTx_dropClaims (s : State) : (State.dropClaims s).lbi.inTx = s.lbi.inTx := by
  simp [State.dropClaims]

@[simp] theorem inTx_pumpWaits (h : Handle) (ws : List SlotWait) (s : State) :
    (State.pumpWaits h ws s).lbi.inTx = s.lbi.inTx := by
  induction ws generalizing s with
  | nil => simp [State.pumpWaits]
  | cons w ws ih => simp only [State.pumpWaits]; split <;> simp [ih]

@[simp] theorem inTx_pumpSlot (h : Handle) (s : State) : (State.pumpSlot h s).lbi.inTx = s.lbi.inTx := by
  simp only [State.pumpSlot]
  repeat' split
  all_goals simp

@[simp] theorem inTx_sendSlot (h : Handle) (w : SlotWait) (s : State) :
    (State.sendSlot h w s).lbi.inTx = s.lbi.inTx := by
  simp [State.sendSlot]

@[simp] theorem inTx_dropWaits (h : Handle) (w : SlotWait) (s : State) :
    (State.dropWaits h w s).lbi.inTx = s.lbi.inTx := by
  simp [State.dropWaits]

@[simp] theorem inTx_withdrawSlot (h : Handle) (k : FrameKind) (s : State) :
    (State.withdrawSlot h k s).lbi.inTx = s.lbi.inTx := by
  simp only [State.withdrawSlot]
  repeat' split
  all_goals simp

@[simp] theorem inTx_roundFrom (h : Handle) (k : Nat) (s : State) : (State.roundFrom h k s).lbi.inTx = s.lbi.inTx := by
  simp only [State.roundFrom]
  repeat' split
  all_goals simp

@[simp] theorem inTx_startRound (h : Handle) (s : State) : (State.startRound h s).lbi.inTx = s.lbi.inTx := by
  simp only [State.startRound]
  repeat' split
  all_goals simp

@[simp] theorem inTx_withdrawBooks (h : Handle) (s : State) : (State.withdrawBooks h s).lbi.inTx = s.lbi.inTx := by
  simp [State.withdrawBooks]

@[simp] theorem inTx_failCandidate (h : Handle) (s : State) : (State.failCandidate h s).lbi.inTx = s.lbi.inTx := by
  simp only [State.failCandidate]
  repeat' split
  all_goals simp

@[simp] theorem inTx_sendRenewal (h : Handle) (s : State) : (State.sendRenewal h s).lbi.inTx = s.lbi.inTx := by
  simp only [State.sendRenewal]
  repeat' split
  all_goals simp

@[simp] theorem inTx_endBooking (h : Handle) (s : State) : (State.endBooking h s).lbi.inTx = s.lbi.inTx := by
  simp only [State.endBooking]
  repeat' split
  all_goals simp

@[simp] theorem inTx_startTransfer (h : Handle) (s : State) : (State.startTransfer h s).lbi.inTx = s.lbi.inTx := by
  simp only [State.startTransfer]
  repeat' split
  all_goals simp

@[simp] theorem inTx_stopTransfer (h : Handle) (s : State) : (State.stopTransfer h s).lbi.inTx = s.lbi.inTx := by
  simp [State.stopTransfer]

@[simp] theorem inTx_placeOne (s : State) : (State.placeOne s).lbi.inTx = s.lbi.inTx := by
  simp only [State.placeOne]
  repeat' split
  all_goals simp

@[simp] theorem inTx_stopPositionOpt (p : Option PosIx) (s : State) :
    (State.stopPosition? p s).lbi.inTx = s.lbi.inTx := by
  simp only [State.stopPosition?]
  repeat' split
  all_goals simp

@[simp] theorem inTx_enterHeld (h : Handle) (k : DevKind) (v : BitVec 24) (leaves : Bool) (s : State) :
    (State.enterHeld h k v leaves s).lbi.inTx = s.lbi.inTx := by
  simp only [State.enterHeld]
  repeat' split
  all_goals simp

@[simp] theorem inTx_checkGap (h : Handle) (s : State) : (State.checkGap h s).lbi.inTx = s.lbi.inTx := by
  simp only [State.checkGap]
  repeat' split
  all_goals simp

@[simp] theorem inTx_judgeReady (h : Handle) (s : State) : (State.judgeReady h s).lbi.inTx = s.lbi.inTx := by
  simp only [State.judgeReady]
  repeat' split
  all_goals simp

@[simp] theorem inTx_enterChecked (h : Handle) (st : RecState) (s : State) :
    (State.enterChecked h st s).lbi.inTx = s.lbi.inTx := by
  simp [State.enterChecked]

@[simp] theorem inTx_enterLoaded (h : Handle) (s : State) : (State.enterLoaded h s).lbi.inTx = s.lbi.inTx := by
  simp [State.enterLoaded]

@[simp] theorem inTx_enterEnded (h : Handle) (s : State) : (State.enterEnded h s).lbi.inTx = s.lbi.inTx := by
  simp only [State.enterEnded]
  repeat' split
  all_goals simp

@[simp] theorem inTx_startStep (p : PosIx) (h : Handle) (s : State) :
    (State.startStep p h s).lbi.inTx = s.lbi.inTx := by
  simp only [State.startStep]
  repeat' split
  all_goals simp

@[simp] theorem inTx_tellGrant (p : PosIx) (s : State) : (State.tellGrant p s).lbi.inTx = s.lbi.inTx := by
  simp only [State.tellGrant]
  repeat' split
  all_goals simp

@[simp] theorem inTx_endStep (p : PosIx) (h : Handle) (s : State) : (State.endStep p h s).lbi.inTx = s.lbi.inTx := by
  simp only [State.endStep]
  repeat' split
  all_goals simp

@[simp] theorem inTx_stepFault (p : PosIx) (h : Handle) (k : DevKind) (v : BitVec 24) (s : State) :
    (State.stepFault p h k v s).lbi.inTx = s.lbi.inTx := by
  simp [State.stepFault]

@[simp] theorem inTx_dropBooking (h : Handle) (s : State) : (State.dropBooking h s).lbi.inTx = s.lbi.inTx := by
  simp only [State.dropBooking]
  repeat' split
  all_goals simp

@[simp] theorem inTx_tellEntry (s : State) (e : ClaimEntry) : (State.tellEntry s e).lbi.inTx = s.lbi.inTx := by
  simp only [State.tellEntry]
  repeat' split
  all_goals simp

@[simp] theorem inTx_tellGrants (l : List ClaimEntry) (s : State) : (State.tellGrants l s).lbi.inTx = s.lbi.inTx := by
  exact inTx_foldl _ inTx_tellEntry l s

@[simp] theorem inTx_reportOversize (p : PosIx) (b : BudgetIx) (s : State) :
    (State.reportOversize p b s).lbi.inTx = s.lbi.inTx := by
  simp only [State.reportOversize]
  repeat' split
  all_goals simp

@[simp] theorem inTx_claimStands (p : PosIx) (st : ClaimState) (s : State) :
    (State.claimStands p st s).lbi.inTx = s.lbi.inTx := by
  simp only [State.claimStands]
  repeat' split
  all_goals simp

@[simp] theorem inTx_ownClaim (payload : List Byte) (c : ClaimOutcome) (s : State) :
    (State.ownClaim payload c s).lbi.inTx = s.lbi.inTx := by
  simp only [State.ownClaim]
  repeat' split
  all_goals simp

@[simp] theorem inTx_ownRelease (payload : List Byte) (s : State) :
    (State.ownRelease payload s).lbi.inTx = s.lbi.inTx := by
  simp only [State.ownRelease]
  repeat' split
  all_goals simp

@[simp] theorem inTx_ownRemoved (caps : Triple) (s : State) (e : ClaimEntry) :
    (State.ownRemoved caps s e).lbi.inTx = s.lbi.inTx := by
  simp only [State.ownRemoved]
  repeat' split
  all_goals simp

@[simp] theorem inTx_takeReplicated (f : BufferedFrame) (own : Bool) (s : State) :
    (State.takeReplicated f own s).lbi.inTx = s.lbi.inTx := by
  simp only [State.takeReplicated]
  repeat' split
  all_goals simp

@[simp] theorem inTx_dropTable (s : State) : (State.dropTable s).lbi.inTx = s.lbi.inTx := by
  simp [State.dropTable]

@[simp] theorem inTx_setStatus (cond : Booking → Bool) (st : BookingStatus) (s : State) :
    (State.setStatus cond st s).lbi.inTx = s.lbi.inTx := by
  simp [State.setStatus]

@[simp] theorem inTx_deleteRecord (h : Handle) (s : State) : (State.deleteRecord h s).lbi.inTx = s.lbi.inTx := by
  simp [State.deleteRecord]

@[simp] theorem inTx_answerRefused (a : Addr) (t : Tag) (r : Reason) (s : State) :
    (State.answerRefused a t r s).lbi.inTx = s.lbi.inTx := by
  simp [State.answerRefused]

@[simp] theorem inTx_reserve (a : Addr) (q : BookRequest) (p : PosIx) (s : State) :
    (State.reserve a q p s).lbi.inTx = s.lbi.inTx := by
  simp only [State.reserve]
  split
  · rfl
  · rename_i h t e
    have ht : t.lbi.inTx = s.lbi.inTx := by
      simp only [State.takeSlot] at e
      split at e
      · simp only [Option.some.injEq, Prod.mk.injEq] at e
        rw [← e.2]
        try rfl
      · contradiction
    simp [ht]

@[simp] theorem inTx_renewEntry (a : Addr) (q : BookRequest) (b : Booking) (s : State) :
    (State.renewEntry a q b s).lbi.inTx = s.lbi.inTx := by
  simp [State.renewEntry]

@[simp] theorem inTx_takeBook (a : Addr) (q : BookRequest) (s : State) :
    (State.takeBook a q s).lbi.inTx = s.lbi.inTx := by
  simp only [State.takeBook]
  repeat' split
  all_goals simp

@[simp] theorem inTx_completeImage (b : Booking) (im : List Byte) (s : State) :
    (State.completeImage b im s).lbi.inTx = s.lbi.inTx := by
  simp only [State.completeImage]
  repeat' split
  all_goals simp

@[simp] theorem inTx_takePart (b : Booking) (a : Assembly) (s : State) :
    (State.takePart b a s).lbi.inTx = s.lbi.inTx := by
  simp only [State.takePart]
  repeat' split
  all_goals simp

@[simp] theorem inTx_rejectOpen (b : Booking) (s : State) : (State.rejectOpen b s).lbi.inTx = s.lbi.inTx := by
  simp only [State.rejectOpen]
  repeat' split
  all_goals simp

@[simp] theorem inTx_takeFirstPart (a : Addr) (c : CarryPart) (s : State) :
    (State.takeFirstPart a c s).lbi.inTx = s.lbi.inTx := by
  simp only [State.takeFirstPart]
  repeat' split
  all_goals simp

@[simp] theorem inTx_takeLaterPart (a : Addr) (c : CarryPart) (s : State) :
    (State.takeLaterPart a c s).lbi.inTx = s.lbi.inTx := by
  simp only [State.takeLaterPart]
  repeat' split
  all_goals simp

@[simp] theorem inTx_takeCarry (a : Addr) (c : CarryPart) (s : State) :
    (State.takeCarry a c s).lbi.inTx = s.lbi.inTx := by
  simp only [State.takeCarry]
  repeat' split
  all_goals simp

@[simp] theorem inTx_receiveRecord (f : Frame) (s : State) : (State.receiveRecord f s).lbi.inTx = s.lbi.inTx := by
  simp only [State.receiveRecord]
  repeat' split
  all_goals simp

@[simp] theorem inTx_takeBooked (a : Addr) (t : Tag) (p : PosIx) (s : State) :
    (State.takeBooked a t p s).lbi.inTx = s.lbi.inTx := by
  simp only [State.takeBooked]
  repeat' split
  all_goals simp

@[simp] theorem inTx_takeRefused (a : Addr) (t : Tag) (s : State) :
    (State.takeRefused a t s).lbi.inTx = s.lbi.inTx := by
  simp only [State.takeRefused]
  repeat' split
  all_goals simp

@[simp] theorem inTx_handOver (a : Addr) (t : Tag) (s : State) : (State.handOver a t s).lbi.inTx = s.lbi.inTx := by
  simp only [State.handOver]
  repeat' split
  all_goals simp

@[simp] theorem inTx_rejected (a : Addr) (t : Tag) (reason : Byte) (s : State) :
    (State.rejected a t reason s).lbi.inTx = s.lbi.inTx := by
  simp only [State.rejected]
  repeat' split
  all_goals simp

@[simp] theorem inTx_found (a : Addr) (t : Tag) (s : State) : (State.found a t s).lbi.inTx = s.lbi.inTx := by
  simp only [State.found]
  repeat' split
  all_goals simp

@[simp] theorem inTx_answerLocate (a : Addr) (t : Tag) (s : State) :
    (State.answerLocate a t s).lbi.inTx = s.lbi.inTx := by
  simp only [State.answerLocate]
  repeat' split
  all_goals simp

@[simp] theorem inTx_cancelBooking (a : Addr) (t : Tag) (s : State) :
    (State.cancelBooking a t s).lbi.inTx = s.lbi.inTx := by
  simp only [State.cancelBooking]
  repeat' split
  all_goals simp

@[simp] theorem inTx_departRecord (a : Addr) (s : State) (h : Handle) :
    (State.departRecord a s h).lbi.inTx = s.lbi.inTx := by
  simp only [State.departRecord]
  repeat' split
  all_goals simp

@[simp] theorem inTx_clearOutbound (s : State) (p : PosIx) : (State.clearOutbound s p).lbi.inTx = s.lbi.inTx := by
  simp only [State.clearOutbound]
  repeat' split
  all_goals simp

@[simp] theorem inTx_updPeer (a : Addr) (f : Peer → Peer) (s : State) :
    (State.updPeer a f s).lbi.inTx = s.lbi.inTx := by
  simp [State.updPeer]

@[simp] theorem inTx_setLine (l : LineState) (s : State) : (State.setLine l s).lbi.inTx = s.lbi.inTx := by
  simp [State.setLine]

@[simp] theorem inTx_peerGone (a : Addr) (c : GoneCause) (s : State) :
    (State.peerGone a c s).lbi.inTx = s.lbi.inTx := by
  simp only [State.peerGone]
  repeat' split
  all_goals simp

@[simp] theorem inTx_postPeerJoined (a : Addr) (s : State) : (State.postPeerJoined a s).lbi.inTx = s.lbi.inTx := by
  simp [State.postPeerJoined]

@[simp] theorem inTx_peerJoins (a : Addr) (role : Role) (s : State) :
    (State.peerJoins a role s).lbi.inTx = s.lbi.inTx := by
  simp [State.peerJoins]

@[simp] theorem inTx_applyPresence (a : Addr) (q : PresenceReport) (s : State) :
    (State.applyPresence a q s).lbi.inTx = s.lbi.inTx := by
  simp only [State.applyPresence]
  repeat' split
  all_goals simp

@[simp] theorem inTx_restartRound (a : Addr) (s : State) (h : Handle) :
    (State.restartRound a s h).lbi.inTx = s.lbi.inTx := by
  simp only [State.restartRound]
  repeat' split
  all_goals simp

@[simp] theorem inTx_restartRounds (a : Addr) (q : PresenceReport) (s : State) :
    (State.restartRounds a q s).lbi.inTx = s.lbi.inTx := by
  simp only [State.restartRounds]
  repeat' split
  all_goals simp

@[simp] theorem inTx_noteSender (a : Addr) (s : State) : (State.noteSender a s).lbi.inTx = s.lbi.inTx := by
  simp only [State.noteSender]
  repeat' split
  all_goals simp

@[simp] theorem inTx_sendUpkeep (f : Frame) (s : State) : (State.sendUpkeep f s).lbi.inTx = s.lbi.inTx := by
  simp only [State.sendUpkeep]
  repeat' split
  all_goals simp

@[simp] theorem inTx_pumpUpkeep (s : State) : (State.pumpUpkeep s).lbi.inTx = s.lbi.inTx := by
  simp only [State.pumpUpkeep]
  repeat' split
  all_goals simp

@[simp] theorem inTx_withdrawUpkeep (kinds : List FrameKind) (s : State) :
    (State.withdrawUpkeep kinds s).lbi.inTx = s.lbi.inTx := by
  simp only [State.withdrawUpkeep]
  repeat' split
  all_goals simp

@[simp] theorem inTx_stopServing (s : State) : (State.stopServing s).lbi.inTx = s.lbi.inTx := by
  simp [State.stopServing]

@[simp] theorem inTx_stopServingOf (a : Addr) (s : State) : (State.stopServingOf a s).lbi.inTx = s.lbi.inTx := by
  simp only [State.stopServingOf]
  repeat' split
  all_goals simp

@[simp] theorem inTx_setJoinQueue (l : List Joiner) (s : State) : (State.setJoinQueue l s).lbi.inTx = s.lbi.inTx := by
  simp [State.setJoinQueue]

@[simp] theorem inTx_leaveQueue (a : Addr) (s : State) : (State.leaveQueue a s).lbi.inTx = s.lbi.inTx := by
  simp [State.leaveQueue]

@[simp] theorem inTx_enterQueue (a : Addr) (s : State) : (State.enterQueue a s).lbi.inTx = s.lbi.inTx := by
  simp only [State.enterQueue]
  repeat' split
  all_goals simp

@[simp] theorem inTx_judgeProvider (a : Addr) (s : State) : (State.judgeProvider a s).lbi.inTx = s.lbi.inTx := by
  simp only [State.judgeProvider]
  repeat' split
  all_goals simp

@[simp] theorem inTx_tryServe (s : State) : (State.tryServe s).lbi.inTx = s.lbi.inTx := by
  simp only [State.tryServe]
  repeat' split
  all_goals simp

@[simp] theorem inTx_snapAppeared (s : State) : (State.snapAppeared s).lbi.inTx = s.lbi.inTx := by
  simp only [State.snapAppeared]
  repeat' split
  all_goals simp

@[simp] theorem inTx_rejoin (c : Cause) (s : State) : (State.rejoin c s).lbi.inTx = s.lbi.inTx := by
  simp only [State.rejoin]
  repeat' split
  all_goals simp

@[simp] theorem inTx_enterJoining (c : Cause) (s : State) : (State.enterJoining c s).lbi.inTx = s.lbi.inTx := by
  simp [State.enterJoining]

@[simp] theorem inTx_startJoin (s : State) : (State.startJoin s).lbi.inTx = s.lbi.inTx := by
  simp [State.startJoin]

@[simp] theorem inTx_bufferFrame (f : BufferedFrame) (s : State) : (State.bufferFrame f s).lbi.inTx = s.lbi.inTx := by
  simp only [State.bufferFrame]
  repeat' split
  all_goals simp

@[simp] theorem inTx_joinedRecord (s : State) (h : Handle) : (State.joinedRecord s h).lbi.inTx = s.lbi.inTx := by
  simp only [State.joinedRecord]
  repeat' split
  all_goals simp

@[simp] theorem inTx_joinedPosition (s : State) (p : PosIx) : (State.joinedPosition s p).lbi.inTx = s.lbi.inTx := by
  simp only [State.joinedPosition]
  repeat' split
  all_goals simp

@[simp] theorem inTx_completeJoin (c : Cause) (s : State) : (State.completeJoin c s).lbi.inTx = s.lbi.inTx := by
  simp [State.completeJoin]

@[simp] theorem inTx_loadSnapshot (n : SnapIn) (s : State) : (State.loadSnapshot n s).lbi.inTx = s.lbi.inTx := by
  simp [State.loadSnapshot]

@[simp] theorem inTx_listFrame (f : BufferedFrame) (s : State) : (State.listFrame f s).lbi.inTx = s.lbi.inTx := by
  simp only [State.listFrame]
  repeat' split
  all_goals simp

@[simp] theorem inTx_replayFrame (s : State) (f : BufferedFrame) : (State.replayFrame s f).lbi.inTx = s.lbi.inTx := by
  simp [State.replayFrame]

@[simp] theorem inTx_finishSnapshot (n : SnapIn) (s : State) : (State.finishSnapshot n s).lbi.inTx = s.lbi.inTx := by
  simp [State.finishSnapshot]

@[simp] theorem inTx_firstStation (s : State) : (State.firstStation s).lbi.inTx = s.lbi.inTx := by
  simp [State.firstStation]

@[simp] theorem inTx_lostPosition (s : State) (p : PosIx) : (State.lostPosition s p).lbi.inTx = s.lbi.inTx := by
  simp only [State.lostPosition]
  repeat' split
  all_goals simp

@[simp] theorem inTx_takeSnapPart (index : Nat) (content : List Byte) (s : State) :
    (State.takeSnapPart index content s).lbi.inTx = s.lbi.inTx := by
  simp only [State.takeSnapPart]
  repeat' split
  all_goals simp

@[simp] theorem inTx_restartStall (s : State) : (State.restartStall s).lbi.inTx = s.lbi.inTx := by
  simp [State.restartStall]

@[simp] theorem inTx_pumpOrigin (o : Origin) (s : State) : (State.pumpOrigin o s).lbi.inTx = s.lbi.inTx := by
  simp only [State.pumpOrigin]
  repeat' split
  all_goals simp

@[simp] theorem inTx_dropFrame (o : Origin) (s : State) : (State.dropFrame o s).lbi.inTx = s.lbi.inTx := by
  simp [State.dropFrame]

@[simp] theorem inTx_countVoid (s : State) : (State.countVoid s).lbi.inTx = s.lbi.inTx := by
  simp only [State.countVoid]
  repeat' split
  all_goals simp

@[simp] theorem inTx_countClean (s : State) : (State.countClean s).lbi.inTx = s.lbi.inTx := by
  simp [State.countClean]

@[simp] theorem inTx_noteBar (k : FrameKind) (payload : List Byte) (s : State) :
    (State.noteBar k payload s).lbi.inTx = s.lbi.inTx := by
  simp only [State.noteBar]
  repeat' split
  all_goals simp

@[simp] theorem inTx_takenSaved (own : OwnTx) (s : State) : (State.takenSaved own s).lbi.inTx = s.lbi.inTx := by
  simp only [State.takenSaved]
  repeat' split
  all_goals simp

@[simp] theorem inTx_appearUndefined (sender : Addr) (s : State) :
    (State.appearUndefined sender s).lbi.inTx = s.lbi.inTx := by
  simp only [State.appearUndefined]
  repeat' split
  all_goals simp

@[simp] theorem inTx_onReplicated (k : FrameKind) (sender : Addr) (payload : List Byte) (s : State) :
    (State.onReplicated k sender payload s).lbi.inTx = s.lbi.inTx := by
  simp only [State.onReplicated]
  repeat' split
  all_goals simp

@[simp] theorem inTx_onSnapPart (own : OwnTx) (payload : List Byte) (s : State) :
    (State.onSnapPart own payload s).lbi.inTx = s.lbi.inTx := by
  simp only [State.onSnapPart]
  repeat' split
  all_goals simp

@[simp] theorem inTx_onPresence (sender : Addr) (payload : List Byte) (s : State) :
    (State.onPresence sender payload s).lbi.inTx = s.lbi.inTx := by
  simp only [State.onPresence]
  repeat' split
  all_goals simp

@[simp] theorem inTx_bookAppeared (own : OwnTx) (dest : BitVec 5) (q : BookRequest) (s : State) :
    (State.bookAppeared own dest q s).lbi.inTx = s.lbi.inTx := by
  simp only [State.bookAppeared]
  repeat' split
  all_goals simp

@[simp] theorem inTx_onBook (own : OwnTx) (sender : Addr) (dest : BitVec 5) (payload : List Byte) (s : State) :
    (State.onBook own sender dest payload s).lbi.inTx = s.lbi.inTx := by
  simp only [State.onBook]
  repeat' split
  all_goals simp

@[simp] theorem inTx_bookedAppeared (dest : BitVec 5) (t : Tag) (s : State) :
    (State.bookedAppeared dest t s).lbi.inTx = s.lbi.inTx := by
  simp [State.bookedAppeared]

@[simp] theorem inTx_onBooked (own : OwnTx) (sender : Addr) (dest : BitVec 5) (payload : List Byte) (s : State) :
    (State.onBooked own sender dest payload s).lbi.inTx = s.lbi.inTx := by
  simp only [State.onBooked]
  repeat' split
  all_goals simp

@[simp] theorem inTx_onRefused (sender : Addr) (dest : BitVec 5) (payload : List Byte) (s : State) :
    (State.onRefused sender dest payload s).lbi.inTx = s.lbi.inTx := by
  simp only [State.onRefused]
  repeat' split
  all_goals simp

@[simp] theorem inTx_onFound (sender : Addr) (dest : BitVec 5) (payload : List Byte) (s : State) :
    (State.onFound sender dest payload s).lbi.inTx = s.lbi.inTx := by
  simp only [State.onFound]
  repeat' split
  all_goals simp

@[simp] theorem inTx_locateAppeared (t : Tag) (s : State) : (State.locateAppeared t s).lbi.inTx = s.lbi.inTx := by
  simp only [State.locateAppeared]
  repeat' split
  all_goals simp

@[simp] theorem inTx_onLocate (own : OwnTx) (sender : Addr) (payload : List Byte) (s : State) :
    (State.onLocate own sender payload s).lbi.inTx = s.lbi.inTx := by
  simp only [State.onLocate]
  repeat' split
  all_goals simp

@[simp] theorem inTx_carryAppeared (own : OwnTx) (index : Nat) (s : State) :
    (State.carryAppeared own index s).lbi.inTx = s.lbi.inTx := by
  simp only [State.carryAppeared]
  repeat' split
  all_goals simp

@[simp] theorem inTx_onCarry (own : OwnTx) (sender : Addr) (dest : BitVec 5) (payload : List Byte) (s : State) :
    (State.onCarry own sender dest payload s).lbi.inTx = s.lbi.inTx := by
  simp only [State.onCarry]
  repeat' split
  all_goals simp

@[simp] theorem inTx_onTaken (sender : Addr) (dest : BitVec 5) (payload : List Byte) (s : State) :
    (State.onTaken sender dest payload s).lbi.inTx = s.lbi.inTx := by
  simp only [State.onTaken]
  repeat' split
  all_goals simp

@[simp] theorem inTx_countOne (p : PosIx) (h : Handle) (r : Record) (e : StepEntry) (s : State) :
    (State.countOne p h r e s).lbi.inTx = s.lbi.inTx := by
  simp only [State.countOne]
  repeat' split
  all_goals simp

@[simp] theorem inTx_runSecond (p : PosIx) (s : State) : (State.runSecond p s).lbi.inTx = s.lbi.inTx := by
  simp only [State.runSecond]
  repeat' split
  all_goals simp

@[simp] theorem inTx_pauseSecond (p : PosIx) (s : State) : (State.pauseSecond p s).lbi.inTx = s.lbi.inTx := by
  simp only [State.pauseSecond]
  repeat' split
  all_goals simp

@[simp] theorem inTx_lampSilent (p : PosIx) (s : State) : (State.lampSilent p s).lbi.inTx = s.lbi.inTx := by
  simp only [State.lampSilent]
  repeat' split
  all_goals simp

@[simp] theorem inTx_doseShort (p : PosIx) (s : State) : (State.doseShort p s).lbi.inTx = s.lbi.inTx := by
  simp only [State.doseShort]
  repeat' split
  all_goals simp

@[simp] theorem inTx_dosePulse (p : PosIx) (s : State) : (State.dosePulse p s).lbi.inTx = s.lbi.inTx := by
  simp only [State.dosePulse]
  repeat' split
  all_goals simp

@[simp] theorem inTx_gapSecond (h : Handle) (s : State) : (State.gapSecond h s).lbi.inTx = s.lbi.inTx := by
  simp only [State.gapSecond]
  repeat' split
  all_goals simp

@[simp] theorem inTx_answerExpired (h : Handle) (s : State) : (State.answerExpired h s).lbi.inTx = s.lbi.inTx := by
  simp only [State.answerExpired]
  repeat' split
  all_goals simp

@[simp] theorem inTx_partGapExpired (p : PosIx) (s : State) : (State.partGapExpired p s).lbi.inTx = s.lbi.inTx := by
  simp only [State.partGapExpired]
  repeat' split
  all_goals simp

@[simp] theorem inTx_handOffExpired (h : Handle) (s : State) : (State.handOffExpired h s).lbi.inTx = s.lbi.inTx := by
  simp only [State.handOffExpired]
  repeat' split
  all_goals simp

@[simp] theorem inTx_locateExpired (h : Handle) (s : State) : (State.locateExpired h s).lbi.inTx = s.lbi.inTx := by
  simp only [State.locateExpired]
  repeat' split
  all_goals simp

@[simp] theorem inTx_departureExpired (a : Addr) (s : State) : (State.departureExpired a s).lbi.inTx = s.lbi.inTx := by
  simp only [State.departureExpired]
  repeat' split
  all_goals simp

@[simp] theorem inTx_presenceExpired (s : State) : (State.presenceExpired s).lbi.inTx = s.lbi.inTx := by
  simp only [State.presenceExpired]
  repeat' split
  all_goals simp

@[simp] theorem inTx_joinWaitExpired (s : State) : (State.joinWaitExpired s).lbi.inTx = s.lbi.inTx := by
  simp only [State.joinWaitExpired]
  repeat' split
  all_goals simp

@[simp] theorem inTx_snapGapExpired (s : State) : (State.snapGapExpired s).lbi.inTx = s.lbi.inTx := by
  simp only [State.snapGapExpired]
  repeat' split
  all_goals simp

@[simp] theorem inTx_backoffExpired (s : State) : (State.backoffExpired s).lbi.inTx = s.lbi.inTx := by
  simp only [State.backoffExpired]
  repeat' split
  all_goals simp

@[simp] theorem inTx_advancePos (s : State) (p : PosIx) : (State.advancePos s p).lbi.inTx = s.lbi.inTx := by
  simp only [State.advancePos]
  repeat' split
  all_goals simp

@[simp] theorem inTx_firePos (s : State) (p : PosIx) : (State.firePos s p).lbi.inTx = s.lbi.inTx := by
  simp only [State.firePos]
  repeat' split
  all_goals simp

@[simp] theorem inTx_fireRec (s : State) (h : Handle) : (State.fireRec s h).lbi.inTx = s.lbi.inTx := by
  simp only [State.fireRec]
  repeat' split
  all_goals simp

@[simp] theorem inTx_fireDeparture (s : State) (a : Addr) : (State.fireDeparture s a).lbi.inTx = s.lbi.inTx := by
  simp only [State.fireDeparture]
  repeat' split
  all_goals simp

@[simp] theorem inTx_pauseForPower (s : State) (p : PosIx) : (State.pauseForPower s p).lbi.inTx = s.lbi.inTx := by
  simp only [State.pauseForPower]
  repeat' split
  all_goals simp

@[simp] theorem inTx_beginWrite (s : State) : (State.beginWrite s).lbi.inTx = s.lbi.inTx := by
  simp only [State.beginWrite]
  repeat' split
  all_goals simp

@[simp] theorem inTx_restorePosition (im : List Byte) (s : State) (p : PosIx) :
    (State.restorePosition im s p).lbi.inTx = s.lbi.inTx := by
  simp only [State.restorePosition]
  repeat' split
  all_goals simp

@[simp] theorem inTx_cleanLink (s : State) (h : Handle) : (State.cleanLink s h).lbi.inTx = s.lbi.inTx := by
  simp [State.cleanLink]

@[simp] theorem inTx_restoreArrival (s : State) (h : Handle) : (State.restoreArrival s h).lbi.inTx = s.lbi.inTx := by
  simp only [State.restoreArrival]
  repeat' split
  all_goals simp

@[simp] theorem inTx_postRestoreHeld (s : State) (x : Handle × Nat) :
    (State.postRestoreHeld s x).lbi.inTx = s.lbi.inTx := by
  simp only [State.postRestoreHeld]
  repeat' split
  all_goals simp

@[simp] theorem inTx_rebuildFreeList (s : State) : (State.rebuildFreeList s).lbi.inTx = s.lbi.inTx := by
  simp [State.rebuildFreeList]

@[simp] theorem inTx_invalidate (s : State) : (State.invalidate s).lbi.inTx = s.lbi.inTx := by
  simp [State.invalidate]

@[simp] theorem inTx_postRestored (n : Nat) (s : State) : (State.postRestored n s).lbi.inTx = s.lbi.inTx := by
  simp [State.postRestored]

@[simp] theorem inTx_openPositions (s : State) : (State.openPositions s).lbi.inTx = s.lbi.inTx := by
  simp [State.openPositions]

@[simp] theorem inTx_configWrite (item : Byte) (v : BitVec 16) (s : State) :
    (State.configWrite item v s).lbi.inTx = s.lbi.inTx := by
  simp only [State.configWrite]
  repeat' split
  all_goals simp

@[simp] theorem inTx_useSeq (q : BitVec 16) (s : State) : (State.useSeq q s).lbi.inTx = s.lbi.inTx := by
  simp [State.useSeq]

@[simp] theorem inTx_plateArrives (p : PosIx) (h : Handle) (r : Record) (s : State) :
    (State.plateArrives p h r s).lbi.inTx = s.lbi.inTx := by
  simp only [State.plateArrives]
  repeat' split
  all_goals simp

@[simp] theorem inTx_arrived (p : PosIx) (seq : BitVec 16) (s : State) :
    (State.arrived p seq s).lbi.inTx = s.lbi.inTx := by
  simp only [State.arrived]
  repeat' split
  all_goals simp

@[simp] theorem inTx_retire (p : PosIx) (h : Handle) (r : Record) (s : State) :
    (State.retire p h r s).lbi.inTx = s.lbi.inTx := by
  simp [State.retire]

@[simp] theorem inTx_plateTaken (p : PosIx) (h : Handle) (r : Record) (s : State) :
    (State.plateTaken p h r s).lbi.inTx = s.lbi.inTx := by
  simp only [State.plateTaken]
  repeat' split
  all_goals simp

@[simp] theorem inTx_rushRecord (h : Handle) (r : Record) (s : State) :
    (State.rushRecord h r s).lbi.inTx = s.lbi.inTx := by
  simp only [State.rushRecord]
  repeat' split
  all_goals simp

@[simp] theorem inTx_wrongCode (s : State) : (State.wrongCode s).lbi.inTx = s.lbi.inTx := by
  simp [State.wrongCode]

@[simp] theorem inTx_scrapPosition (p : Option PosIx) (s : State) :
    (State.scrapPosition p s).lbi.inTx = s.lbi.inTx := by
  simp only [State.scrapPosition]
  repeat' split
  all_goals simp

@[simp] theorem inTx_stopLocate (h : Handle) (s : State) : (State.stopLocate h s).lbi.inTx = s.lbi.inTx := by
  simp [State.stopLocate]

@[simp] theorem inTx_adoptRecord (h : Handle) (r : Record) (s : State) :
    (State.adoptRecord h r s).lbi.inTx = s.lbi.inTx := by
  simp [State.adoptRecord]

@[simp] theorem inTx_adopt (h : Handle) (r : Record) (s : State) : (State.adopt h r s).lbi.inTx = s.lbi.inTx := by
  simp only [State.adopt]
  repeat' split
  all_goals simp

@[simp] theorem inTx_setIlk (p : PosIx) (level : Bool) (s : State) :
    (State.setIlk p level s).lbi.inTx = s.lbi.inTx := by
  simp [State.setIlk]

@[simp] theorem inTx_pauseStep (p : PosIx) (s : State) : (State.pauseStep p s).lbi.inTx = s.lbi.inTx := by
  simp only [State.pauseStep]
  repeat' split
  all_goals simp

@[simp] theorem inTx_resumeStep (p : PosIx) (s : State) : (State.resumeStep p s).lbi.inTx = s.lbi.inTx := by
  simp only [State.resumeStep]
  repeat' split
  all_goals simp

@[simp] theorem inTx_departureDue (a : Addr) (s : State) : (State.departureDue a s).lbi.inTx = s.lbi.inTx := by
  simp [State.departureDue]

@[simp] theorem inTx_sendLeave (s : State) : (State.sendLeave s).lbi.inTx = s.lbi.inTx := by
  simp [State.sendLeave]

end Sys2Proof.Machine
end

