-- ==== Sys2Proof/Laws/FrameLbi.lean ====
section
/-! SUPPORT. Which operations leave the line bus interface alone: one lemma per operation, proved in the order the operations are built in. -/

namespace Sys2Proof.Machine

@[simp] theorem lbi_ite (c : Prop) [Decidable c] (x y : State) : (if c then x else y).lbi = if c then x.lbi else y.lbi := by
  split <;> rfl

@[simp] theorem lbi_foldl {α} (f : State → α → State) (hf : ∀ s a, (f s a).lbi = s.lbi) (l : List α) (s : State) :
    (l.foldl f s).lbi = s.lbi := by
  induction l generalizing s with
  | nil => rfl
  | cons a l ih => rw [List.foldl_cons, ih, hf]

@[simp] theorem lbi_updRec (h : Handle) (f : Record → Record) (s : State) : (State.updRec h f s).lbi = s.lbi := by
  simp only [State.updRec]
  repeat' split
  all_goals simp

@[simp] theorem lbi_vacateOpt (p : Option PosIx) (st : PosState) (s : State) : (State.vacate? p st s).lbi = s.lbi := by
  simp only [State.vacate?]
  repeat' split
  all_goals simp

@[simp] theorem lbi_post (e : Event) (s : State) : (State.post e s).lbi = s.lbi := by
  simp only [State.post]
  repeat' split
  all_goals simp

@[simp] theorem lbi_postLineState (c : Cause) (s : State) : (State.postLineState c s).lbi = s.lbi := by
  simp [State.postLineState]

@[simp] theorem lbi_ok (d2 d1 d0 : Byte) (s : State) : (State.ok d2 d1 d0 s).lbi = s.lbi := by
  simp [State.ok]

@[simp] theorem lbi_refuse (r : Reason) (d0 : Byte) (s : State) : (State.refuse r d0 s).lbi = s.lbi := by
  simp [State.refuse]

@[simp] theorem lbi_badArgument (code : Byte) (s : State) : (State.badArgument code s).lbi = s.lbi := by
  simp [State.badArgument]

@[simp] theorem lbi_judgeSlots (s : State) : (State.judgeSlots s).lbi = s.lbi := by
  simp only [State.judgeSlots]
  repeat' split
  all_goals simp

@[simp] theorem lbi_failAttempt (s : State) : (State.failAttempt s).lbi = s.lbi := by
  simp only [State.failAttempt]
  repeat' split
  all_goals simp

@[simp] theorem lbi_countCrcError (s : State) : (State.countCrcError s).lbi = s.lbi := by
  simp only [State.countCrcError]
  repeat' split
  all_goals simp

@[simp] theorem lbi_dropWaits (h : Handle) (w : SlotWait) (s : State) : (State.dropWaits h w s).lbi = s.lbi := by
  simp [State.dropWaits]

@[simp] theorem lbi_placeOne (s : State) : (State.placeOne s).lbi = s.lbi := by
  simp only [State.placeOne]
  repeat' split
  all_goals simp

@[simp] theorem lbi_placement (s : State) : (State.placement s).lbi = s.lbi := by
  exact lbi_foldl _ (fun s _ => lbi_placeOne s) positions s

@[simp] theorem lbi_stopPositionOpt (p : Option PosIx) (s : State) : (State.stopPosition? p s).lbi = s.lbi := by
  simp only [State.stopPosition?]
  repeat' split
  all_goals simp

@[simp] theorem lbi_startStep (p : PosIx) (h : Handle) (s : State) : (State.startStep p h s).lbi = s.lbi := by
  simp only [State.startStep]
  repeat' split
  all_goals simp

@[simp] theorem lbi_tellGrant (p : PosIx) (s : State) : (State.tellGrant p s).lbi = s.lbi := by
  simp only [State.tellGrant]
  repeat' split
  all_goals simp

@[simp] theorem lbi_tellEntry (s : State) (e : ClaimEntry) : (State.tellEntry s e).lbi = s.lbi := by
  simp only [State.tellEntry]
  repeat' split
  all_goals simp

@[simp] theorem lbi_tellGrants (l : List ClaimEntry) (s : State) : (State.tellGrants l s).lbi = s.lbi := by
  exact lbi_foldl _ lbi_tellEntry l s

@[simp] theorem lbi_setStatus (cond : Booking → Bool) (st : BookingStatus) (s : State) :
    (State.setStatus cond st s).lbi = s.lbi := by
  simp [State.setStatus]

@[simp] theorem lbi_deleteRecord (h : Handle) (s : State) : (State.deleteRecord h s).lbi = s.lbi := by
  simp [State.deleteRecord]

@[simp] theorem lbi_found (a : Addr) (t : Tag) (s : State) : (State.found a t s).lbi = s.lbi := by
  simp only [State.found]
  repeat' split
  all_goals simp

@[simp] theorem lbi_clearOutbound (s : State) (p : PosIx) : (State.clearOutbound s p).lbi = s.lbi := by
  simp only [State.clearOutbound]
  repeat' split
  all_goals simp

@[simp] theorem lbi_peerGone (a : Addr) (c : GoneCause) (s : State) : (State.peerGone a c s).lbi = s.lbi := by
  simp only [State.peerGone]
  repeat' split
  all_goals simp

@[simp] theorem lbi_postPeerJoined (a : Addr) (s : State) : (State.postPeerJoined a s).lbi = s.lbi := by
  simp [State.postPeerJoined]

@[simp] theorem lbi_peerJoins (a : Addr) (role : Role) (s : State) : (State.peerJoins a role s).lbi = s.lbi := by
  simp [State.peerJoins]

@[simp] theorem lbi_applyPresence (a : Addr) (q : PresenceReport) (s : State) :
    (State.applyPresence a q s).lbi = s.lbi := by
  simp only [State.applyPresence]
  repeat' split
  all_goals simp

@[simp] theorem lbi_startJoin (s : State) : (State.startJoin s).lbi = s.lbi := by
  simp [State.startJoin]

@[simp] theorem lbi_loadSnapshot (n : SnapIn) (s : State) : (State.loadSnapshot n s).lbi = s.lbi := by
  simp [State.loadSnapshot]

@[simp] theorem lbi_listFrame (f : BufferedFrame) (s : State) : (State.listFrame f s).lbi = s.lbi := by
  simp only [State.listFrame]
  repeat' split
  all_goals simp

@[simp] theorem lbi_replayFrame (s : State) (f : BufferedFrame) : (State.replayFrame s f).lbi = s.lbi := by
  simp [State.replayFrame]

@[simp] theorem lbi_noteBar (k : FrameKind) (payload : List Byte) (s : State) :
    (State.noteBar k payload s).lbi = s.lbi := by
  simp only [State.noteBar]
  repeat' split
  all_goals simp

@[simp] theorem lbi_takenSaved (own : OwnTx) (s : State) : (State.takenSaved own s).lbi = s.lbi := by
  simp only [State.takenSaved]
  repeat' split
  all_goals simp

@[simp] theorem lbi_bookAppeared (own : OwnTx) (dest : BitVec 5) (q : BookRequest) (s : State) :
    (State.bookAppeared own dest q s).lbi = s.lbi := by
  simp only [State.bookAppeared]
  repeat' split
  all_goals simp

@[simp] theorem lbi_bookedAppeared (dest : BitVec 5) (t : Tag) (s : State) :
    (State.bookedAppeared dest t s).lbi = s.lbi := by
  simp [State.bookedAppeared]

@[simp] theorem lbi_onFound (sender : Addr) (dest : BitVec 5) (payload : List Byte) (s : State) :
    (State.onFound sender dest payload s).lbi = s.lbi := by
  simp only [State.onFound]
  repeat' split
  all_goals simp

@[simp] theorem lbi_locateAppeared (t : Tag) (s : State) : (State.locateAppeared t s).lbi = s.lbi := by
  simp only [State.locateAppeared]
  repeat' split
  all_goals simp

@[simp] theorem lbi_partGapExpired (p : PosIx) (s : State) : (State.partGapExpired p s).lbi = s.lbi := by
  simp only [State.partGapExpired]
  repeat' split
  all_goals simp

@[simp] theorem lbi_locateExpired (h : Handle) (s : State) : (State.locateExpired h s).lbi = s.lbi := by
  simp only [State.locateExpired]
  repeat' split
  all_goals simp

@[simp] theorem lbi_advancePos (s : State) (p : PosIx) : (State.advancePos s p).lbi = s.lbi := by
  simp only [State.advancePos]
  repeat' split
  all_goals simp

@[simp] theorem lbi_pauseForPower (s : State) (p : PosIx) : (State.pauseForPower s p).lbi = s.lbi := by
  simp only [State.pauseForPower]
  repeat' split
  all_goals simp

@[simp] theorem lbi_beginWrite (s : State) : (State.beginWrite s).lbi = s.lbi := by
  simp only [State.beginWrite]
  repeat' split
  all_goals simp

@[simp] theorem lbi_restorePosition (im : List Byte) (s : State) (p : PosIx) :
    (State.restorePosition im s p).lbi = s.lbi := by
  simp only [State.restorePosition]
  repeat' split
  all_goals simp

@[simp] theorem lbi_cleanLink (s : State) (h : Handle) : (State.cleanLink s h).lbi = s.lbi := by
  simp [State.cleanLink]

@[simp] theorem lbi_restoreArrival (s : State) (h : Handle) : (State.restoreArrival s h).lbi = s.lbi := by
  simp only [State.restoreArrival]
  repeat' split
  all_goals simp

@[simp] theorem lbi_postRestoreHeld (s : State) (x : Handle × Nat) : (State.postRestoreHeld s x).lbi = s.lbi := by
  simp only [State.postRestoreHeld]
  repeat' split
  all_goals simp

@[simp] theorem lbi_rebuildFreeList (s : State) : (State.rebuildFreeList s).lbi = s.lbi := by
  simp [State.rebuildFreeList]

@[simp] theorem lbi_postRestored (n : Nat) (s : State) : (State.postRestored n s).lbi = s.lbi := by
  simp [State.postRestored]

@[simp] theorem lbi_openPositions (s : State) : (State.openPositions s).lbi = s.lbi := by
  simp [State.openPositions]

@[simp] theorem lbi_configWrite (item : Byte) (v : BitVec 16) (s : State) :
    (State.configWrite item v s).lbi = s.lbi := by
  simp only [State.configWrite]
  repeat' split
  all_goals simp

@[simp] theorem lbi_retire (p : PosIx) (h : Handle) (r : Record) (s : State) : (State.retire p h r s).lbi = s.lbi := by
  simp [State.retire]

@[simp] theorem lbi_rushRecord (h : Handle) (r : Record) (s : State) : (State.rushRecord h r s).lbi = s.lbi := by
  simp only [State.rushRecord]
  repeat' split
  all_goals simp

@[simp] theorem lbi_wrongCode (s : State) : (State.wrongCode s).lbi = s.lbi := by
  simp [State.wrongCode]

@[simp] theorem lbi_scrapPosition (p : Option PosIx) (s : State) : (State.scrapPosition p s).lbi = s.lbi := by
  simp only [State.scrapPosition]
  repeat' split
  all_goals simp

@[simp] theorem lbi_pauseStep (p : PosIx) (s : State) : (State.pauseStep p s).lbi = s.lbi := by
  simp only [State.pauseStep]
  repeat' split
  all_goals simp

@[simp] theorem lbi_departureDue (a : Addr) (s : State) : (State.departureDue a s).lbi = s.lbi := by
  simp [State.departureDue]

end Sys2Proof.Machine
end

