-- ==== Sys2Proof/Laws/FrameLine.lean ====
section
/-! SUPPORT. Which operations leave the line state alone: one lemma per operation, proved in the order the operations are built in. -/

namespace Sys2Proof.Machine

@[simp] theorem line_ite (c : Prop) [Decidable c] (x y : State) : (if c then x else y).mem.line = if c then x.mem.line else y.mem.line := by
  split <;> rfl

@[simp] theorem line_foldl {α} (f : State → α → State) (hf : ∀ s a, (f s a).mem.line = s.mem.line) (l : List α) (s : State) :
    (l.foldl f s).mem.line = s.mem.line := by
  induction l generalizing s with
  | nil => rfl
  | cons a l ih => rw [List.foldl_cons, ih, hf]

@[simp] theorem line_updRec (h : Handle) (f : Record → Record) (s : State) :
    (State.updRec h f s).mem.line = s.mem.line := by
  simp only [State.updRec]
  repeat' split
  all_goals simp

@[simp] theorem line_vacateOpt (p : Option PosIx) (st : PosState) (s : State) :
    (State.vacate? p st s).mem.line = s.mem.line := by
  simp only [State.vacate?]
  repeat' split
  all_goals simp

@[simp] theorem line_post (e : Event) (s : State) : (State.post e s).mem.line = s.mem.line := by
  simp only [State.post]
  repeat' split
  all_goals simp

@[simp] theorem line_postLineState (c : Cause) (s : State) : (State.postLineState c s).mem.line = s.mem.line := by
  simp [State.postLineState]

@[simp] theorem line_ok (d2 d1 d0 : Byte) (s : State) : (State.ok d2 d1 d0 s).mem.line = s.mem.line := by
  simp [State.ok]

@[simp] theorem line_refuse (r : Reason) (d0 : Byte) (s : State) : (State.refuse r d0 s).mem.line = s.mem.line := by
  simp [State.refuse]

@[simp] theorem line_badArgument (code : Byte) (s : State) : (State.badArgument code s).mem.line = s.mem.line := by
  simp [State.badArgument]

@[simp] theorem line_queueFrame (o : Origin) (f : Frame) (s : State) :
    (State.queueFrame o f s).mem.line = s.mem.line := by
  simp only [State.queueFrame]
  repeat' split
  all_goals simp

@[simp] theorem line_withdrawTx (o : Origin) (s : State) : (State.withdrawTx o s).mem.line = s.mem.line := by
  simp only [State.withdrawTx]
  repeat' split
  all_goals simp

@[simp] theorem line_replaceTx (o : Origin) (f : Frame) (s : State) :
    (State.replaceTx o f s).mem.line = s.mem.line := by
  simp only [State.replaceTx]
  repeat' split
  all_goals simp

@[simp] theorem line_queueOrReplace (o : Origin) (f : Frame) (s : State) :
    (State.queueOrReplace o f s).mem.line = s.mem.line := by
  simp only [State.queueOrReplace]
  repeat' split
  all_goals simp

@[simp] theorem line_clearTx (s : State) : (State.clearTx s).mem.line = s.mem.line := by
  simp [State.clearTx]

@[simp] theorem line_queueAnswer (f : Frame) (s : State) : (State.queueAnswer f s).mem.line = s.mem.line := by
  simp only [State.queueAnswer]
  repeat' split
  all_goals simp

@[simp] theorem line_withdrawAnswers (cond : Frame → Bool) (s : State) :
    (State.withdrawAnswers cond s).mem.line = s.mem.line := by
  simp only [State.withdrawAnswers]
  apply line_foldl
  intro s i
  repeat' split
  all_goals simp

@[simp] theorem line_judgeSlots (s : State) : (State.judgeSlots s).mem.line = s.mem.line := by
  simp only [State.judgeSlots]
  repeat' split
  all_goals simp

@[simp] theorem line_failAttempt (s : State) : (State.failAttempt s).mem.line = s.mem.line := by
  simp only [State.failAttempt]
  repeat' split
  all_goals simp

@[simp] theorem line_countCrcError (s : State) : (State.countCrcError s).mem.line = s.mem.line := by
  simp only [State.countCrcError]
  repeat' split
  all_goals simp

@[simp] theorem line_queueClaim (p : PosIx) (s : State) : (State.queueClaim p s).mem.line = s.mem.line := by
  simp [State.queueClaim]

@[simp] theorem line_askClaim (p : PosIx) (s : State) : (State.askClaim p s).mem.line = s.mem.line := by
  simp only [State.askClaim]
  repeat' split
  all_goals simp

@[simp] theorem line_queueRelease (p : PosIx) (s : State) : (State.queueRelease p s).mem.line = s.mem.line := by
  simp [State.queueRelease]

@[simp] theorem line_giveUpClaim (p : PosIx) (s : State) : (State.giveUpClaim p s).mem.line = s.mem.line := by
  simp only [State.giveUpClaim]
  repeat' split
  all_goals simp

@[simp] theorem line_giveUpClaimOpt (p : Option PosIx) (s : State) :
    (State.giveUpClaim? p s).mem.line = s.mem.line := by
  simp only [State.giveUpClaim?]
  repeat' split
  all_goals simp

@[simp] theorem line_claimWithdrawn (p : PosIx) (s : State) : (State.claimWithdrawn p s).mem.line = s.mem.line := by
  simp only [State.claimWithdrawn]
  repeat' split
  all_goals simp

@[simp] theorem line_pumpWaits (h : Handle) (ws : List SlotWait) (s : State) :
    (State.pumpWaits h ws s).mem.line = s.mem.line := by
  induction ws generalizing s with
  | nil => simp [State.pumpWaits]
  | cons w ws ih => simp only [State.pumpWaits]; split <;> simp [ih]

@[simp] theorem line_pumpSlot (h : Handle) (s : State) : (State.pumpSlot h s).mem.line = s.mem.line := by
  simp only [State.pumpSlot]
  repeat' split
  all_goals simp

@[simp] theorem line_sendSlot (h : Handle) (w : SlotWait) (s : State) :
    (State.sendSlot h w s).mem.line = s.mem.line := by
  simp [State.sendSlot]

@[simp] theorem line_dropWaits (h : Handle) (w : SlotWait) (s : State) :
    (State.dropWaits h w s).mem.line = s.mem.line := by
  simp [State.dropWaits]

@[simp] theorem line_withdrawSlot (h : Handle) (k : FrameKind) (s : State) :
    (State.withdrawSlot h k s).mem.line = s.mem.line := by
  simp only [State.withdrawSlot]
  repeat' split
  all_goals simp

@[simp] theorem line_roundFrom (h : Handle) (k : Nat) (s : State) : (State.roundFrom h k s).mem.line = s.mem.line := by
  simp only [State.roundFrom]
  repeat' split
  all_goals simp

@[simp] theorem line_startRound (h : Handle) (s : State) : (State.startRound h s).mem.line = s.mem.line := by
  simp only [State.startRound]
  repeat' split
  all_goals simp

@[simp] theorem line_withdrawBooks (h : Handle) (s : State) : (State.withdrawBooks h s).mem.line = s.mem.line := by
  simp [State.withdrawBooks]

@[simp] theorem line_failCandidate (h : Handle) (s : State) : (State.failCandidate h s).mem.line = s.mem.line := by
  simp only [State.failCandidate]
  repeat' split
  all_goals simp

@[simp] theorem line_sendRenewal (h : Handle) (s : State) : (State.sendRenewal h s).mem.line = s.mem.line := by
  simp only [State.sendRenewal]
  repeat' split
  all_goals simp

@[simp] theorem line_endBooking (h : Handle) (s : State) : (State.endBooking h s).mem.line = s.mem.line := by
  simp only [State.endBooking]
  repeat' split
  all_goals simp

@[simp] theorem line_startTransfer (h : Handle) (s : State) : (State.startTransfer h s).mem.line = s.mem.line := by
  simp only [State.startTransfer]
  repeat' split
  all_goals simp

@[simp] theorem line_stopTransfer (h : Handle) (s : State) : (State.stopTransfer h s).mem.line = s.mem.line := by
  simp [State.stopTransfer]

@[simp] theorem line_placeOne (s : State) : (State.placeOne s).mem.line = s.mem.line := by
  simp only [State.placeOne]
  repeat' split
  all_goals simp

@[simp] theorem line_stopPositionOpt (p : Option PosIx) (s : State) :
    (State.stopPosition? p s).mem.line = s.mem.line := by
  simp only [State.stopPosition?]
  repeat' split
  all_goals simp

@[simp] theorem line_enterHeld (h : Handle) (k : DevKind) (v : BitVec 24) (leaves : Bool) (s : State) :
    (State.enterHeld h k v leaves s).mem.line = s.mem.line := by
  simp only [State.enterHeld]
  repeat' split
  all_goals simp

@[simp] theorem line_checkGap (h : Handle) (s : State) : (State.checkGap h s).mem.line = s.mem.line := by
  simp only [State.checkGap]
  repeat' split
  all_goals simp

@[simp] theorem line_judgeReady (h : Handle) (s : State) : (State.judgeReady h s).mem.line = s.mem.line := by
  simp only [State.judgeReady]
  repeat' split
  all_goals simp

@[simp] theorem line_enterChecked (h : Handle) (st : RecState) (s : State) :
    (State.enterChecked h st s).mem.line = s.mem.line := by
  simp [State.enterChecked]

@[simp] theorem line_enterLoaded (h : Handle) (s : State) : (State.enterLoaded h s).mem.line = s.mem.line := by
  simp [State.enterLoaded]

@[simp] theorem line_enterEnded (h : Handle) (s : State) : (State.enterEnded h s).mem.line = s.mem.line := by
  simp only [State.enterEnded]
  repeat' split
  all_goals simp

@[simp] theorem line_startStep (p : PosIx) (h : Handle) (s : State) :
    (State.startStep p h s).mem.line = s.mem.line := by
  simp only [State.startStep]
  repeat' split
  all_goals simp

@[simp] theorem line_tellGrant (p : PosIx) (s : State) : (State.tellGrant p s).mem.line = s.mem.line := by
  simp only [State.tellGrant]
  repeat' split
  all_goals simp

@[simp] theorem line_endStep (p : PosIx) (h : Handle) (s : State) : (State.endStep p h s).mem.line = s.mem.line := by
  simp only [State.endStep]
  repeat' split
  all_goals simp

@[simp] theorem line_stepFault (p : PosIx) (h : Handle) (k : DevKind) (v : BitVec 24) (s : State) :
    (State.stepFault p h k v s).mem.line = s.mem.line := by
  simp [State.stepFault]

@[simp] theorem line_dropBooking (h : Handle) (s : State) : (State.dropBooking h s).mem.line = s.mem.line := by
  simp only [State.dropBooking]
  repeat' split
  all_goals simp

@[simp] theorem line_tellEntry (s : State) (e : ClaimEntry) : (State.tellEntry s e).mem.line = s.mem.line := by
  simp only [State.tellEntry]
  repeat' split
  all_goals simp

@[simp] theorem line_tellGrants (l : List ClaimEntry) (s : State) : (State.tellGrants l s).mem.line = s.mem.line := by
  exact line_foldl _ line_tellEntry l s

@[simp] theorem line_reportOversize (p : PosIx) (b : BudgetIx) (s : State) :
    (State.reportOversize p b s).mem.line = s.mem.line := by
  simp only [State.reportOversize]
  repeat' split
  all_goals simp

@[simp] theorem line_claimStands (p : PosIx) (st : ClaimState) (s : State) :
    (State.claimStands p st s).mem.line = s.mem.line := by
  simp only [State.claimStands]
  repeat' split
  all_goals simp

@[simp] theorem line_ownClaim (payload : List Byte) (c : ClaimOutcome) (s : State) :
    (State.ownClaim payload c s).mem.line = s.mem.line := by
  simp only [State.ownClaim]
  repeat' split
  all_goals simp

@[simp] theorem line_ownRelease (payload : List Byte) (s : State) :
    (State.ownRelease payload s).mem.line = s.mem.line := by
  simp only [State.ownRelease]
  repeat' split
  all_goals simp

@[simp] theorem line_ownRemoved (caps : Triple) (s : State) (e : ClaimEntry) :
    (State.ownRemoved caps s e).mem.line = s.mem.line := by
  simp only [State.ownRemoved]
  repeat' split
  all_goals simp

@[simp] theorem line_takeReplicated (f : BufferedFrame) (own : Bool) (s : State) :
    (State.takeReplicated f own s).mem.line = s.mem.line := by
  simp only [State.takeReplicated]
  repeat' split
  all_goals simp

@[simp] theorem line_setStatus (cond : Booking → Bool) (st : BookingStatus) (s : State) :
    (State.setStatus cond st s).mem.line = s.mem.line := by
  simp [State.setStatus]

@[simp] theorem line_deleteRecord (h : Handle) (s : State) : (State.deleteRecord h s).mem.line = s.mem.line := by
  simp [State.deleteRecord]

@[simp] theorem line_answerRefused (a : Addr) (t : Tag) (r : Reason) (s : State) :
    (State.answerRefused a t r s).mem.line = s.mem.line := by
  simp [State.answerRefused]

@[simp] theorem line_reserve (a : Addr) (q : BookRequest) (p : PosIx) (s : State) :
    (State.reserve a q p s).mem.line = s.mem.line := by
  simp only [State.reserve]
  split
  · rfl
  · rename_i h t e
    have ht : t.mem.line = s.mem.line := by
      simp only [State.takeSlot] at e
      split at e
      · simp only [Option.some.injEq, Prod.mk.injEq] at e
        rw [← e.2]
        try rfl
      · contradiction
    simp [ht]

@[simp] theorem line_renewEntry (a : Addr) (q : BookRequest) (b : Booking) (s : State) :
    (State.renewEntry a q b s).mem.line = s.mem.line := by
  simp [State.renewEntry]

@[simp] theorem line_takeBook (a : Addr) (q : BookRequest) (s : State) :
    (State.takeBook a q s).mem.line = s.mem.line := by
  simp only [State.takeBook]
  repeat' split
  all_goals simp

@[simp] theorem line_completeImage (b : Booking) (im : List Byte) (s : State) :
    (State.completeImage b im s).mem.line = s.mem.line := by
  simp only [State.completeImage]
  repeat' split
  all_goals simp

@[simp] theorem line_takePart (b : Booking) (a : Assembly) (s : State) :
    (State.takePart b a s).mem.line = s.mem.line := by
  simp only [State.takePart]
  repeat' split
  all_goals simp

@[simp] theorem line_rejectOpen (b : Booking) (s : State) : (State.rejectOpen b s).mem.line = s.mem.line := by
  simp only [State.rejectOpen]
  repeat' split
  all_goals simp

@[simp] theorem line_takeFirstPart (a : Addr) (c : CarryPart) (s : State) :
    (State.takeFirstPart a c s).mem.line = s.mem.line := by
  simp only [State.takeFirstPart]
  repeat' split
  all_goals simp

@[simp] theorem line_takeLaterPart (a : Addr) (c : CarryPart) (s : State) :
    (State.takeLaterPart a c s).mem.line = s.mem.line := by
  simp only [State.takeLaterPart]
  repeat' split
  all_goals simp

@[simp] theorem line_takeCarry (a : Addr) (c : CarryPart) (s : State) :
    (State.takeCarry a c s).mem.line = s.mem.line := by
  simp only [State.takeCarry]
  repeat' split
  all_goals simp

@[simp] theorem line_receiveRecord (f : Frame) (s : State) : (State.receiveRecord f s).mem.line = s.mem.line := by
  simp only [State.receiveRecord]
  repeat' split
  all_goals simp

@[simp] theorem line_takeBooked (a : Addr) (t : Tag) (p : PosIx) (s : State) :
    (State.takeBooked a t p s).mem.line = s.mem.line := by
  simp only [State.takeBooked]
  repeat' split
  all_goals simp

@[simp] theorem line_takeRefused (a : Addr) (t : Tag) (s : State) :
    (State.takeRefused a t s).mem.line = s.mem.line := by
  simp only [State.takeRefused]
  repeat' split
  all_goals simp

@[simp] theorem line_handOver (a : Addr) (t : Tag) (s : State) : (State.handOver a t s).mem.line = s.mem.line := by
  simp only [State.handOver]
  repeat' split
  all_goals simp

@[simp] theorem line_rejected (a : Addr) (t : Tag) (reason : Byte) (s : State) :
    (State.rejected a t reason s).mem.line = s.mem.line := by
  simp only [State.rejected]
  repeat' split
  all_goals simp

@[simp] theorem line_found (a : Addr) (t : Tag) (s : State) : (State.found a t s).mem.line = s.mem.line := by
  simp only [State.found]
  repeat' split
  all_goals simp

@[simp] theorem line_answerLocate (a : Addr) (t : Tag) (s : State) :
    (State.answerLocate a t s).mem.line = s.mem.line := by
  simp only [State.answerLocate]
  repeat' split
  all_goals simp

@[simp] theorem line_cancelBooking (a : Addr) (t : Tag) (s : State) :
    (State.cancelBooking a t s).mem.line = s.mem.line := by
  simp only [State.cancelBooking]
  repeat' split
  all_goals simp

@[simp] theorem line_departRecord (a : Addr) (s : State) (h : Handle) :
    (State.departRecord a s h).mem.line = s.mem.line := by
  simp only [State.departRecord]
  repeat' split
  all_goals simp

@[simp] theorem line_clearOutbound (s : State) (p : PosIx) : (State.clearOutbound s p).mem.line = s.mem.line := by
  simp only [State.clearOutbound]
  repeat' split
  all_goals simp

@[simp] theorem line_peerGone (a : Addr) (c : GoneCause) (s : State) :
    (State.peerGone a c s).mem.line = s.mem.line := by
  simp only [State.peerGone]
  repeat' split
  all_goals simp

@[simp] theorem line_postPeerJoined (a : Addr) (s : State) : (State.postPeerJoined a s).mem.line = s.mem.line := by
  simp [State.postPeerJoined]

@[simp] theorem line_peerJoins (a : Addr) (role : Role) (s : State) :
    (State.peerJoins a role s).mem.line = s.mem.line := by
  simp [State.peerJoins]

@[simp] theorem line_applyPresence (a : Addr) (q : PresenceReport) (s : State) :
    (State.applyPresence a q s).mem.line = s.mem.line := by
  simp only [State.applyPresence]
  repeat' split
  all_goals simp

@[simp] theorem line_restartRound (a : Addr) (s : State) (h : Handle) :
    (State.restartRound a s h).mem.line = s.mem.line := by
  simp only [State.restartRound]
  repeat' split
  all_goals simp

@[simp] theorem line_restartRounds (a : Addr) (q : PresenceReport) (s : State) :
    (State.restartRounds a q s).mem.line = s.mem.line := by
  simp only [State.restartRounds]
  repeat' split
  all_goals simp

@[simp] theorem line_noteSender (a : Addr) (s : State) : (State.noteSender a s).mem.line = s.mem.line := by
  simp only [State.noteSender]
  repeat' split
  all_goals simp

@[simp] theorem line_sendUpkeep (f : Frame) (s : State) : (State.sendUpkeep f s).mem.line = s.mem.line := by
  simp only [State.sendUpkeep]
  repeat' split
  all_goals simp

@[simp] theorem line_pumpUpkeep (s : State) : (State.pumpUpkeep s).mem.line = s.mem.line := by
  simp only [State.pumpUpkeep]
  repeat' split
  all_goals simp

@[simp] theorem line_withdrawUpkeep (kinds : List FrameKind) (s : State) :
    (State.withdrawUpkeep kinds s).mem.line = s.mem.line := by
  simp only [State.withdrawUpkeep]
  repeat' split
  all_goals simp

@[simp] theorem line_stopServing (s : State) : (State.stopServing s).mem.line = s.mem.line := by
  simp [State.stopServing]

@[simp] theorem line_stopServingOf (a : Addr) (s : State) : (State.stopServingOf a s).mem.line = s.mem.line := by
  simp only [State.stopServingOf]
  repeat' split
  all_goals simp

@[simp] theorem line_leaveQueue (a : Addr) (s : State) : (State.leaveQueue a s).mem.line = s.mem.line := by
  simp [State.leaveQueue]

@[simp] theorem line_enterQueue (a : Addr) (s : State) : (State.enterQueue a s).mem.line = s.mem.line := by
  simp only [State.enterQueue]
  repeat' split
  all_goals simp

@[simp] theorem line_judgeProvider (a : Addr) (s : State) : (State.judgeProvider a s).mem.line = s.mem.line := by
  simp only [State.judgeProvider]
  repeat' split
  all_goals simp

@[simp] theorem line_tryServe (s : State) : (State.tryServe s).mem.line = s.mem.line := by
  simp only [State.tryServe]
  repeat' split
  all_goals simp

@[simp] theorem line_snapAppeared (s : State) : (State.snapAppeared s).mem.line = s.mem.line := by
  simp only [State.snapAppeared]
  repeat' split
  all_goals simp

@[simp] theorem line_joinedRecord (s : State) (h : Handle) : (State.joinedRecord s h).mem.line = s.mem.line := by
  simp only [State.joinedRecord]
  repeat' split
  all_goals simp

@[simp] theorem line_joinedPosition (s : State) (p : PosIx) : (State.joinedPosition s p).mem.line = s.mem.line := by
  simp only [State.joinedPosition]
  repeat' split
  all_goals simp

@[simp] theorem line_loadSnapshot (n : SnapIn) (s : State) : (State.loadSnapshot n s).mem.line = s.mem.line := by
  simp [State.loadSnapshot]

@[simp] theorem line_listFrame (f : BufferedFrame) (s : State) : (State.listFrame f s).mem.line = s.mem.line := by
  simp only [State.listFrame]
  repeat' split
  all_goals simp

@[simp] theorem line_replayFrame (s : State) (f : BufferedFrame) : (State.replayFrame s f).mem.line = s.mem.line := by
  simp [State.replayFrame]

@[simp] theorem line_lostPosition (s : State) (p : PosIx) : (State.lostPosition s p).mem.line = s.mem.line := by
  simp only [State.lostPosition]
  repeat' split
  all_goals simp

@[simp] theorem line_beginTx (s : State) : (State.beginTx s).mem.line = s.mem.line := by
  simp only [State.beginTx]
  repeat' split
  all_goals simp

@[simp] theorem line_pumpOrigin (o : Origin) (s : State) : (State.pumpOrigin o s).mem.line = s.mem.line := by
  simp only [State.pumpOrigin]
  repeat' split
  all_goals simp

@[simp] theorem line_finishOwn (own : OwnTx) (s : State) : (State.finishOwn own s).mem.line = s.mem.line := by
  simp only [State.finishOwn]
  repeat' split
  all_goals simp

@[simp] theorem line_dropFrame (o : Origin) (s : State) : (State.dropFrame o s).mem.line = s.mem.line := by
  simp [State.dropFrame]

@[simp] theorem line_countVoid (s : State) : (State.countVoid s).mem.line = s.mem.line := by
  simp only [State.countVoid]
  repeat' split
  all_goals simp

@[simp] theorem line_dropHead (s : State) : (State.dropHead s).mem.line = s.mem.line := by
  simp only [State.dropHead]
  repeat' split
  all_goals simp

@[simp] theorem line_noteBar (k : FrameKind) (payload : List Byte) (s : State) :
    (State.noteBar k payload s).mem.line = s.mem.line := by
  simp only [State.noteBar]
  repeat' split
  all_goals simp

@[simp] theorem line_takenSaved (own : OwnTx) (s : State) : (State.takenSaved own s).mem.line = s.mem.line := by
  simp only [State.takenSaved]
  repeat' split
  all_goals simp

@[simp] theorem line_appearUndefined (sender : Addr) (s : State) :
    (State.appearUndefined sender s).mem.line = s.mem.line := by
  simp only [State.appearUndefined]
  repeat' split
  all_goals simp

@[simp] theorem line_onPresence (sender : Addr) (payload : List Byte) (s : State) :
    (State.onPresence sender payload s).mem.line = s.mem.line := by
  simp only [State.onPresence]
  repeat' split
  all_goals simp

@[simp] theorem line_bookAppeared (own : OwnTx) (dest : BitVec 5) (q : BookRequest) (s : State) :
    (State.bookAppeared own dest q s).mem.line = s.mem.line := by
  simp only [State.bookAppeared]
  repeat' split
  all_goals simp

@[simp] theorem line_onBook (own : OwnTx) (sender : Addr) (dest : BitVec 5) (payload : List Byte) (s : State) :
    (State.onBook own sender dest payload s).mem.line = s.mem.line := by
  simp only [State.onBook]
  repeat' split
  all_goals simp

@[simp] theorem line_bookedAppeared (dest : BitVec 5) (t : Tag) (s : State) :
    (State.bookedAppeared dest t s).mem.line = s.mem.line := by
  simp [State.bookedAppeared]

@[simp] theorem line_onBooked (own : OwnTx) (sender : Addr) (dest : BitVec 5) (payload : List Byte) (s : State) :
    (State.onBooked own sender dest payload s).mem.line = s.mem.line := by
  simp only [State.onBooked]
  repeat' split
  all_goals simp

@[simp] theorem line_onRefused (sender : Addr) (dest : BitVec 5) (payload : List Byte) (s : State) :
    (State.onRefused sender dest payload s).mem.line = s.mem.line := by
  simp only [State.onRefused]
  repeat' split
  all_goals simp

@[simp] theorem line_onFound (sender : Addr) (dest : BitVec 5) (payload : List Byte) (s : State) :
    (State.onFound sender dest payload s).mem.line = s.mem.line := by
  simp only [State.onFound]
  repeat' split
  all_goals simp

@[simp] theorem line_locateAppeared (t : Tag) (s : State) : (State.locateAppeared t s).mem.line = s.mem.line := by
  simp only [State.locateAppeared]
  repeat' split
  all_goals simp

@[simp] theorem line_onLocate (own : OwnTx) (sender : Addr) (payload : List Byte) (s : State) :
    (State.onLocate own sender payload s).mem.line = s.mem.line := by
  simp only [State.onLocate]
  repeat' split
  all_goals simp

@[simp] theorem line_carryAppeared (own : OwnTx) (index : Nat) (s : State) :
    (State.carryAppeared own index s).mem.line = s.mem.line := by
  simp only [State.carryAppeared]
  repeat' split
  all_goals simp

@[simp] theorem line_onCarry (own : OwnTx) (sender : Addr) (dest : BitVec 5) (payload : List Byte) (s : State) :
    (State.onCarry own sender dest payload s).mem.line = s.mem.line := by
  simp only [State.onCarry]
  repeat' split
  all_goals simp

@[simp] theorem line_onTaken (sender : Addr) (dest : BitVec 5) (payload : List Byte) (s : State) :
    (State.onTaken sender dest payload s).mem.line = s.mem.line := by
  simp only [State.onTaken]
  repeat' split
  all_goals simp

@[simp] theorem line_countOne (p : PosIx) (h : Handle) (r : Record) (e : StepEntry) (s : State) :
    (State.countOne p h r e s).mem.line = s.mem.line := by
  simp only [State.countOne]
  repeat' split
  all_goals simp

@[simp] theorem line_runSecond (p : PosIx) (s : State) : (State.runSecond p s).mem.line = s.mem.line := by
  simp only [State.runSecond]
  repeat' split
  all_goals simp

@[simp] theorem line_pauseSecond (p : PosIx) (s : State) : (State.pauseSecond p s).mem.line = s.mem.line := by
  simp only [State.pauseSecond]
  repeat' split
  all_goals simp

@[simp] theorem line_lampSilent (p : PosIx) (s : State) : (State.lampSilent p s).mem.line = s.mem.line := by
  simp only [State.lampSilent]
  repeat' split
  all_goals simp

@[simp] theorem line_doseShort (p : PosIx) (s : State) : (State.doseShort p s).mem.line = s.mem.line := by
  simp only [State.doseShort]
  repeat' split
  all_goals simp

@[simp] theorem line_dosePulse (p : PosIx) (s : State) : (State.dosePulse p s).mem.line = s.mem.line := by
  simp only [State.dosePulse]
  repeat' split
  all_goals simp

@[simp] theorem line_gapSecond (h : Handle) (s : State) : (State.gapSecond h s).mem.line = s.mem.line := by
  simp only [State.gapSecond]
  repeat' split
  all_goals simp

@[simp] theorem line_answerExpired (h : Handle) (s : State) : (State.answerExpired h s).mem.line = s.mem.line := by
  simp only [State.answerExpired]
  repeat' split
  all_goals simp

@[simp] theorem line_partGapExpired (p : PosIx) (s : State) : (State.partGapExpired p s).mem.line = s.mem.line := by
  simp only [State.partGapExpired]
  repeat' split
  all_goals simp

@[simp] theorem line_handOffExpired (h : Handle) (s : State) : (State.handOffExpired h s).mem.line = s.mem.line := by
  simp only [State.handOffExpired]
  repeat' split
  all_goals simp

@[simp] theorem line_locateExpired (h : Handle) (s : State) : (State.locateExpired h s).mem.line = s.mem.line := by
  simp only [State.locateExpired]
  repeat' split
  all_goals simp

@[simp] theorem line_departureExpired (a : Addr) (s : State) : (State.departureExpired a s).mem.line = s.mem.line := by
  simp only [State.departureExpired]
  repeat' split
  all_goals simp

@[simp] theorem line_presenceExpired (s : State) : (State.presenceExpired s).mem.line = s.mem.line := by
  simp only [State.presenceExpired]
  repeat' split
  all_goals simp

@[simp] theorem line_advancePos (s : State) (p : PosIx) : (State.advancePos s p).mem.line = s.mem.line := by
  simp only [State.advancePos]
  repeat' split
  all_goals simp

@[simp] theorem line_firePos (s : State) (p : PosIx) : (State.firePos s p).mem.line = s.mem.line := by
  simp only [State.firePos]
  repeat' split
  all_goals simp

@[simp] theorem line_fireRec (s : State) (h : Handle) : (State.fireRec s h).mem.line = s.mem.line := by
  simp only [State.fireRec]
  repeat' split
  all_goals simp

@[simp] theorem line_fireDeparture (s : State) (a : Addr) : (State.fireDeparture s a).mem.line = s.mem.line := by
  simp only [State.fireDeparture]
  repeat' split
  all_goals simp

@[simp] theorem line_pauseForPower (s : State) (p : PosIx) : (State.pauseForPower s p).mem.line = s.mem.line := by
  simp only [State.pauseForPower]
  repeat' split
  all_goals simp

@[simp] theorem line_beginWrite (s : State) : (State.beginWrite s).mem.line = s.mem.line := by
  simp only [State.beginWrite]
  repeat' split
  all_goals simp

@[simp] theorem line_restorePosition (im : List Byte) (s : State) (p : PosIx) :
    (State.restorePosition im s p).mem.line = s.mem.line := by
  simp only [State.restorePosition]
  repeat' split
  all_goals simp

@[simp] theorem line_cleanLink (s : State) (h : Handle) : (State.cleanLink s h).mem.line = s.mem.line := by
  simp [State.cleanLink]

@[simp] theorem line_restoreArrival (s : State) (h : Handle) : (State.restoreArrival s h).mem.line = s.mem.line := by
  simp only [State.restoreArrival]
  repeat' split
  all_goals simp

@[simp] theorem line_postRestoreHeld (s : State) (x : Handle × Nat) :
    (State.postRestoreHeld s x).mem.line = s.mem.line := by
  simp only [State.postRestoreHeld]
  repeat' split
  all_goals simp

@[simp] theorem line_rebuildFreeList (s : State) : (State.rebuildFreeList s).mem.line = s.mem.line := by
  simp [State.rebuildFreeList]

@[simp] theorem line_postRestored (n : Nat) (s : State) : (State.postRestored n s).mem.line = s.mem.line := by
  simp [State.postRestored]

@[simp] theorem line_openPositions (s : State) : (State.openPositions s).mem.line = s.mem.line := by
  simp [State.openPositions]

@[simp] theorem line_configWrite (item : Byte) (v : BitVec 16) (s : State) :
    (State.configWrite item v s).mem.line = s.mem.line := by
  simp only [State.configWrite]
  repeat' split
  all_goals simp

@[simp] theorem line_plateArrives (p : PosIx) (h : Handle) (r : Record) (s : State) :
    (State.plateArrives p h r s).mem.line = s.mem.line := by
  simp only [State.plateArrives]
  repeat' split
  all_goals simp

@[simp] theorem line_arrived (p : PosIx) (seq : BitVec 16) (s : State) :
    (State.arrived p seq s).mem.line = s.mem.line := by
  simp only [State.arrived]
  repeat' split
  all_goals simp

@[simp] theorem line_retire (p : PosIx) (h : Handle) (r : Record) (s : State) :
    (State.retire p h r s).mem.line = s.mem.line := by
  simp [State.retire]

@[simp] theorem line_plateTaken (p : PosIx) (h : Handle) (r : Record) (s : State) :
    (State.plateTaken p h r s).mem.line = s.mem.line := by
  simp only [State.plateTaken]
  repeat' split
  all_goals simp

@[simp] theorem line_rushRecord (h : Handle) (r : Record) (s : State) :
    (State.rushRecord h r s).mem.line = s.mem.line := by
  simp only [State.rushRecord]
  repeat' split
  all_goals simp

@[simp] theorem line_wrongCode (s : State) : (State.wrongCode s).mem.line = s.mem.line := by
  simp [State.wrongCode]

@[simp] theorem line_scrapPosition (p : Option PosIx) (s : State) :
    (State.scrapPosition p s).mem.line = s.mem.line := by
  simp only [State.scrapPosition]
  repeat' split
  all_goals simp

@[simp] theorem line_stopLocate (h : Handle) (s : State) : (State.stopLocate h s).mem.line = s.mem.line := by
  simp [State.stopLocate]

@[simp] theorem line_adoptRecord (h : Handle) (r : Record) (s : State) :
    (State.adoptRecord h r s).mem.line = s.mem.line := by
  simp [State.adoptRecord]

@[simp] theorem line_adopt (h : Handle) (r : Record) (s : State) : (State.adopt h r s).mem.line = s.mem.line := by
  simp only [State.adopt]
  repeat' split
  all_goals simp

@[simp] theorem line_pauseStep (p : PosIx) (s : State) : (State.pauseStep p s).mem.line = s.mem.line := by
  simp only [State.pauseStep]
  repeat' split
  all_goals simp

@[simp] theorem line_resumeStep (p : PosIx) (s : State) : (State.resumeStep p s).mem.line = s.mem.line := by
  simp only [State.resumeStep]
  repeat' split
  all_goals simp

@[simp] theorem line_departureDue (a : Addr) (s : State) : (State.departureDue a s).mem.line = s.mem.line := by
  simp [State.departureDue]

@[simp] theorem line_sendLeave (s : State) : (State.sendLeave s).mem.line = s.mem.line := by
  simp [State.sendLeave]

end Sys2Proof.Machine
end

