-- ==== Sys2Proof/Laws/FrameListenOnly.lean ====
section
/-! SUPPORT. Which operations leave the listen-only mark alone: one lemma per operation, proved in the order the operations are built in. -/

namespace Sys2Proof.Machine

@[simp] theorem listenOnly_ite (c : Prop) [Decidable c] (x y : State) : (if c then x else y).lbi.listenOnly = if c then x.lbi.listenOnly else y.lbi.listenOnly := by
  split <;> rfl

@[simp] theorem listenOnly_foldl {α} (f : State → α → State) (hf : ∀ s a, (f s a).lbi.listenOnly = s.lbi.listenOnly) (l : List α) (s : State) :
    (l.foldl f s).lbi.listenOnly = s.lbi.listenOnly := by
  induction l generalizing s with
  | nil => rfl
  | cons a l ih => rw [List.foldl_cons, ih, hf]

@[simp] theorem listenOnly_setSlot (h : Handle) (x : Slot) (s : State) :
    (State.setSlot h x s).lbi.listenOnly = s.lbi.listenOnly := by
  simp [State.setSlot]

@[simp] theorem listenOnly_setRec (h : Handle) (r : Record) (s : State) :
    (State.setRec h r s).lbi.listenOnly = s.lbi.listenOnly := by
  simp [State.setRec]

@[simp] theorem listenOnly_updRec (h : Handle) (f : Record → Record) (s : State) :
    (State.updRec h f s).lbi.listenOnly = s.lbi.listenOnly := by
  simp only [State.updRec]
  repeat' split
  all_goals simp

@[simp] theorem listenOnly_setWaits (h : Handle) (ws : List SlotWait) (s : State) :
    (State.setWaits h ws s).lbi.listenOnly = s.lbi.listenOnly := by
  simp [State.setWaits]

@[simp] theorem listenOnly_freeSlot (h : Handle) (s : State) :
    (State.freeSlot h s).lbi.listenOnly = s.lbi.listenOnly := by
  simp [State.freeSlot]

@[simp] theorem listenOnly_enqueue (h : Handle) (rush : Bool) (s : State) :
    (State.enqueue h rush s).lbi.listenOnly = s.lbi.listenOnly := by
  simp only [State.enqueue]
  repeat' split
  all_goals simp

@[simp] theorem listenOnly_unqueue (h : Handle) (s : State) :
    (State.unqueue h s).lbi.listenOnly = s.lbi.listenOnly := by
  simp [State.unqueue]

@[simp] theorem listenOnly_updPos (p : PosIx) (f : Position → Position) (s : State) :
    (State.updPos p f s).lbi.listenOnly = s.lbi.listenOnly := by
  simp [State.updPos]

@[simp] theorem listenOnly_vacate (p : PosIx) (st : PosState) (s : State) :
    (State.vacate p st s).lbi.listenOnly = s.lbi.listenOnly := by
  simp [State.vacate]

@[simp] theorem listenOnly_vacateOpt (p : Option PosIx) (st : PosState) (s : State) :
    (State.vacate? p st s).lbi.listenOnly = s.lbi.listenOnly := by
  simp only [State.vacate?]
  repeat' split
  all_goals simp

@[simp] theorem listenOnly_alarm (f : Alarms → Alarms) (s : State) :
    (State.alarm f s).lbi.listenOnly = s.lbi.listenOnly := by
  simp [State.alarm]

@[simp] theorem listenOnly_post (e : Event) (s : State) : (State.post e s).lbi.listenOnly = s.lbi.listenOnly := by
  simp only [State.post]
  repeat' split
  all_goals simp

@[simp] theorem listenOnly_postLineState (c : Cause) (s : State) :
    (State.postLineState c s).lbi.listenOnly = s.lbi.listenOnly := by
  simp [State.postLineState]

@[simp] theorem listenOnly_respond (st : Status) (data : BitVec 24) (s : State) :
    (State.respond st data s).lbi.listenOnly = s.lbi.listenOnly := by
  simp [State.respond]

@[simp] theorem listenOnly_ok (d2 d1 d0 : Byte) (s : State) :
    (State.ok d2 d1 d0 s).lbi.listenOnly = s.lbi.listenOnly := by
  simp [State.ok]

@[simp] theorem listenOnly_refuse (r : Reason) (d0 : Byte) (s : State) :
    (State.refuse r d0 s).lbi.listenOnly = s.lbi.listenOnly := by
  simp [State.refuse]

@[simp] theorem listenOnly_badArgument (code : Byte) (s : State) :
    (State.badArgument code s).lbi.listenOnly = s.lbi.listenOnly := by
  simp [State.badArgument]

@[simp] theorem listenOnly_deliver (s : State) : (State.deliver s).lbi.listenOnly = s.lbi.listenOnly := by
  simp [State.deliver]

@[simp] theorem listenOnly_stage (bs : List Byte) (s : State) :
    (State.stage bs s).lbi.listenOnly = s.lbi.listenOnly := by
  simp [State.stage]

@[simp] theorem listenOnly_queueFrame (o : Origin) (f : Frame) (s : State) :
    (State.queueFrame o f s).lbi.listenOnly = s.lbi.listenOnly := by
  simp only [State.queueFrame]
  repeat' split
  all_goals simp

@[simp] theorem listenOnly_setTx (l : List TxEntry) (s : State) :
    (State.setTx l s).lbi.listenOnly = s.lbi.listenOnly := by
  simp [State.setTx]

@[simp] theorem listenOnly_removeTx (o : Origin) (s : State) :
    (State.removeTx o s).lbi.listenOnly = s.lbi.listenOnly := by
  simp [State.removeTx]

@[simp] theorem listenOnly_updTx (o : Origin) (f : TxEntry → TxEntry) (s : State) :
    (State.updTx o f s).lbi.listenOnly = s.lbi.listenOnly := by
  simp [State.updTx]

@[simp] theorem listenOnly_withdrawTx (o : Origin) (s : State) :
    (State.withdrawTx o s).lbi.listenOnly = s.lbi.listenOnly := by
  simp only [State.withdrawTx]
  repeat' split
  all_goals simp

@[simp] theorem listenOnly_replaceTx (o : Origin) (f : Frame) (s : State) :
    (State.replaceTx o f s).lbi.listenOnly = s.lbi.listenOnly := by
  simp only [State.replaceTx]
  repeat' split
  all_goals simp

@[simp] theorem listenOnly_queueOrReplace (o : Origin) (f : Frame) (s : State) :
    (State.queueOrReplace o f s).lbi.listenOnly = s.lbi.listenOnly := by
  simp only [State.queueOrReplace]
  repeat' split
  all_goals simp

@[simp] theorem listenOnly_clearTx (s : State) : (State.clearTx s).lbi.listenOnly = s.lbi.listenOnly := by
  simp [State.clearTx]

@[simp] theorem listenOnly_queueAnswer (f : Frame) (s : State) :
    (State.queueAnswer f s).lbi.listenOnly = s.lbi.listenOnly := by
  simp only [State.queueAnswer]
  repeat' split
  all_goals simp

@[simp] theorem listenOnly_withdrawAnswers (cond : Frame → Bool) (s : State) :
    (State.withdrawAnswers cond s).lbi.listenOnly = s.lbi.listenOnly := by
  simp only [State.withdrawAnswers]
  apply listenOnly_foldl
  intro s i
  repeat' split
  all_goals simp

@[simp] theorem listenOnly_judgeSlots (s : State) : (State.judgeSlots s).lbi.listenOnly = s.lbi.listenOnly := by
  simp only [State.judgeSlots]
  repeat' split
  all_goals simp

@[simp] theorem listenOnly_failAttempt (s : State) : (State.failAttempt s).lbi.listenOnly = s.lbi.listenOnly := by
  simp only [State.failAttempt]
  repeat' split
  all_goals simp

@[simp] theorem listenOnly_countCrcError (s : State) : (State.countCrcError s).lbi.listenOnly = s.lbi.listenOnly := by
  simp only [State.countCrcError]
  repeat' split
  all_goals simp

@[simp] theorem listenOnly_setClaim (p : PosIx) (c : ClaimState) (s : State) :
    (State.setClaim p c s).lbi.listenOnly = s.lbi.listenOnly := by
  simp [State.setClaim]

@[simp] theorem listenOnly_setRemembered (p : PosIx) (b : Bool) (s : State) :
    (State.setRemembered p b s).lbi.listenOnly = s.lbi.listenOnly := by
  simp [State.setRemembered]

@[simp] theorem listenOnly_queueClaim (p : PosIx) (s : State) :
    (State.queueClaim p s).lbi.listenOnly = s.lbi.listenOnly := by
  simp [State.queueClaim]

@[simp] theorem listenOnly_askClaim (p : PosIx) (s : State) :
    (State.askClaim p s).lbi.listenOnly = s.lbi.listenOnly := by
  simp only [State.askClaim]
  repeat' split
  all_goals simp

@[simp] theorem listenOnly_queueRelease (p : PosIx) (s : State) :
    (State.queueRelease p s).lbi.listenOnly = s.lbi.listenOnly := by
  simp [State.queueRelease]

@[simp] theorem listenOnly_giveUpClaim (p : PosIx) (s : State) :
    (State.giveUpClaim p s).lbi.listenOnly = s.lbi.listenOnly := by
  simp only [State.giveUpClaim]
  repeat' split
  all_goals simp

@[simp] theorem listenOnly_giveUpClaimOpt (p : Option PosIx) (s : State) :
    (State.giveUpClaim? p s).lbi.listenOnly = s.lbi.listenOnly := by
  simp only [State.giveUpClaim?]
  repeat' split
  all_goals simp

@[simp] theorem listenOnly_claimWithdrawn (p : PosIx) (s : State) :
    (State.claimWithdrawn p s).lbi.listenOnly = s.lbi.listenOnly := by
  simp only [State.claimWithdrawn]
  repeat' split
  all_goals simp

@[simp] theorem listenOnly_dropClaims (s : State) : (State.dropClaims s).lbi.listenOnly = s.lbi.listenOnly := by
  simp [State.dropClaims]

@[simp] theorem listenOnly_pumpWaits (h : Handle) (ws : List SlotWait) (s : State) :
    (State.pumpWaits h ws s).lbi.listenOnly = s.lbi.listenOnly := by
  induction ws generalizing s with
  | nil => simp [State.pumpWaits]
  | cons w ws ih => simp only [State.pumpWaits]; split <;> simp [ih]

@[simp] theorem listenOnly_pumpSlot (h : Handle) (s : State) :
    (State.pumpSlot h s).lbi.listenOnly = s.lbi.listenOnly := by
  simp only [State.pumpSlot]
  repeat' split
  all_goals simp

@[simp] theorem listenOnly_sendSlot (h : Handle) (w : SlotWait) (s : State) :
    (State.sendSlot h w s).lbi.listenOnly = s.lbi.listenOnly := by
  simp [State.sendSlot]

@[simp] theorem listenOnly_dropWaits (h : Handle) (w : SlotWait) (s : State) :
    (State.dropWaits h w s).lbi.listenOnly = s.lbi.listenOnly := by
  simp [State.dropWaits]

@[simp] theorem listenOnly_withdrawSlot (h : Handle) (k : FrameKind) (s : State) :
    (State.withdrawSlot h k s).lbi.listenOnly = s.lbi.listenOnly := by
  simp only [State.withdrawSlot]
  repeat' split
  all_goals simp

@[simp] theorem listenOnly_roundFrom (h : Handle) (k : Nat) (s : State) :
    (State.roundFrom h k s).lbi.listenOnly = s.lbi.listenOnly := by
  simp only [State.roundFrom]
  repeat' split
  all_goals simp

@[simp] theorem listenOnly_startRound (h : Handle) (s : State) :
    (State.startRound h s).lbi.listenOnly = s.lbi.listenOnly := by
  simp only [State.startRound]
  repeat' split
  all_goals simp

@[simp] theorem listenOnly_withdrawBooks (h : Handle) (s : State) :
    (State.withdrawBooks h s).lbi.listenOnly = s.lbi.listenOnly := by
  simp [State.withdrawBooks]

@[simp] theorem listenOnly_failCandidate (h : Handle) (s : State) :
    (State.failCandidate h s).lbi.listenOnly = s.lbi.listenOnly := by
  simp only [State.failCandidate]
  repeat' split
  all_goals simp

@[simp] theorem listenOnly_sendRenewal (h : Handle) (s : State) :
    (State.sendRenewal h s).lbi.listenOnly = s.lbi.listenOnly := by
  simp only [State.sendRenewal]
  repeat' split
  all_goals simp

@[simp] theorem listenOnly_endBooking (h : Handle) (s : State) :
    (State.endBooking h s).lbi.listenOnly = s.lbi.listenOnly := by
  simp only [State.endBooking]
  repeat' split
  all_goals simp

@[simp] theorem listenOnly_startTransfer (h : Handle) (s : State) :
    (State.startTransfer h s).lbi.listenOnly = s.lbi.listenOnly := by
  simp only [State.startTransfer]
  repeat' split
  all_goals simp

@[simp] theorem listenOnly_stopTransfer (h : Handle) (s : State) :
    (State.stopTransfer h s).lbi.listenOnly = s.lbi.listenOnly := by
  simp [State.stopTransfer]

@[simp] theorem listenOnly_placeOne (s : State) : (State.placeOne s).lbi.listenOnly = s.lbi.listenOnly := by
  simp only [State.placeOne]
  repeat' split
  all_goals simp

@[simp] theorem listenOnly_stopPositionOpt (p : Option PosIx) (s : State) :
    (State.stopPosition? p s).lbi.listenOnly = s.lbi.listenOnly := by
  simp only [State.stopPosition?]
  repeat' split
  all_goals simp

@[simp] theorem listenOnly_enterHeld (h : Handle) (k : DevKind) (v : BitVec 24) (leaves : Bool) (s : State) :
    (State.enterHeld h k v leaves s).lbi.listenOnly = s.lbi.listenOnly := by
  simp only [State.enterHeld]
  repeat' split
  all_goals simp

@[simp] theorem listenOnly_checkGap (h : Handle) (s : State) :
    (State.checkGap h s).lbi.listenOnly = s.lbi.listenOnly := by
  simp only [State.checkGap]
  repeat' split
  all_goals simp

@[simp] theorem listenOnly_judgeReady (h : Handle) (s : State) :
    (State.judgeReady h s).lbi.listenOnly = s.lbi.listenOnly := by
  simp only [State.judgeReady]
  repeat' split
  all_goals simp

@[simp] theorem listenOnly_enterChecked (h : Handle) (st : RecState) (s : State) :
    (State.enterChecked h st s).lbi.listenOnly = s.lbi.listenOnly := by
  simp [State.enterChecked]

@[simp] theorem listenOnly_enterLoaded (h : Handle) (s : State) :
    (State.enterLoaded h s).lbi.listenOnly = s.lbi.listenOnly := by
  simp [State.enterLoaded]

@[simp] theorem listenOnly_enterEnded (h : Handle) (s : State) :
    (State.enterEnded h s).lbi.listenOnly = s.lbi.listenOnly := by
  simp only [State.enterEnded]
  repeat' split
  all_goals simp

@[simp] theorem listenOnly_startStep (p : PosIx) (h : Handle) (s : State) :
    (State.startStep p h s).lbi.listenOnly = s.lbi.listenOnly := by
  simp only [State.startStep]
  repeat' split
  all_goals simp

@[simp] theorem listenOnly_tellGrant (p : PosIx) (s : State) :
    (State.tellGrant p s).lbi.listenOnly = s.lbi.listenOnly := by
  simp only [State.tellGrant]
  repeat' split
  all_goals simp

@[simp] theorem listenOnly_endStep (p : PosIx) (h : Handle) (s : State) :
    (State.endStep p h s).lbi.listenOnly = s.lbi.listenOnly := by
  simp only [State.endStep]
  repeat' split
  all_goals simp

@[simp] theorem listenOnly_stepFault (p : PosIx) (h : Handle) (k : DevKind) (v : BitVec 24) (s : State) :
    (State.stepFault p h k v s).lbi.listenOnly = s.lbi.listenOnly := by
  simp [State.stepFault]

@[simp] theorem listenOnly_dropBooking (h : Handle) (s : State) :
    (State.dropBooking h s).lbi.listenOnly = s.lbi.listenOnly := by
  simp only [State.dropBooking]
  repeat' split
  all_goals simp

@[simp] theorem listenOnly_tellEntry (s : State) (e : ClaimEntry) :
    (State.tellEntry s e).lbi.listenOnly = s.lbi.listenOnly := by
  simp only [State.tellEntry]
  repeat' split
  all_goals simp

@[simp] theorem listenOnly_tellGrants (l : List ClaimEntry) (s : State) :
    (State.tellGrants l s).lbi.listenOnly = s.lbi.listenOnly := by
  exact listenOnly_foldl _ listenOnly_tellEntry l s

@[simp] theorem listenOnly_reportOversize (p : PosIx) (b : BudgetIx) (s : State) :
    (State.reportOversize p b s).lbi.listenOnly = s.lbi.listenOnly := by
  simp only [State.reportOversize]
  repeat' split
  all_goals simp

@[simp] theorem listenOnly_claimStands (p : PosIx) (st : ClaimState) (s : State) :
    (State.claimStands p st s).lbi.listenOnly = s.lbi.listenOnly := by
  simp only [State.claimStands]
  repeat' split
  all_goals simp

@[simp] theorem listenOnly_ownClaim (payload : List Byte) (c : ClaimOutcome) (s : State) :
    (State.ownClaim payload c s).lbi.listenOnly = s.lbi.listenOnly := by
  simp only [State.ownClaim]
  repeat' split
  all_goals simp

@[simp] theorem listenOnly_ownRelease (payload : List Byte) (s : State) :
    (State.ownRelease payload s).lbi.listenOnly = s.lbi.listenOnly := by
  simp only [State.ownRelease]
  repeat' split
  all_goals simp

@[simp] theorem listenOnly_ownRemoved (caps : Triple) (s : State) (e : ClaimEntry) :
    (State.ownRemoved caps s e).lbi.listenOnly = s.lbi.listenOnly := by
  simp only [State.ownRemoved]
  repeat' split
  all_goals simp

@[simp] theorem listenOnly_takeReplicated (f : BufferedFrame) (own : Bool) (s : State) :
    (State.takeReplicated f own s).lbi.listenOnly = s.lbi.listenOnly := by
  simp only [State.takeReplicated]
  repeat' split
  all_goals simp

@[simp] theorem listenOnly_dropTable (s : State) : (State.dropTable s).lbi.listenOnly = s.lbi.listenOnly := by
  simp [State.dropTable]

@[simp] theorem listenOnly_setStatus (cond : Booking → Bool) (st : BookingStatus) (s : State) :
    (State.setStatus cond st s).lbi.listenOnly = s.lbi.listenOnly := by
  simp [State.setStatus]

@[simp] theorem listenOnly_deleteRecord (h : Handle) (s : State) :
    (State.deleteRecord h s).lbi.listenOnly = s.lbi.listenOnly := by
  simp [State.deleteRecord]

@[simp] theorem listenOnly_answerRefused (a : Addr) (t : Tag) (r : Reason) (s : State) :
    (State.answerRefused a t r s).lbi.listenOnly = s.lbi.listenOnly := by
  simp [State.answerRefused]

@[simp] theorem listenOnly_reserve (a : Addr) (q : BookRequest) (p : PosIx) (s : State) :
    (State.reserve a q p s).lbi.listenOnly = s.lbi.listenOnly := by
  simp only [State.reserve]
  split
  · rfl
  · rename_i h t e
    have ht : t.lbi.listenOnly = s.lbi.listenOnly := by
      simp only [State.takeSlot] at e
      split at e
      · simp only [Option.some.injEq, Prod.mk.injEq] at e
        rw [← e.2]
        try rfl
      · contradiction
    simp [ht]

@[simp] theorem listenOnly_renewEntry (a : Addr) (q : BookRequest) (b : Booking) (s : State) :
    (State.renewEntry a q b s).lbi.listenOnly = s.lbi.listenOnly := by
  simp [State.renewEntry]

@[simp] theorem listenOnly_takeBook (a : Addr) (q : BookRequest) (s : State) :
    (State.takeBook a q s).lbi.listenOnly = s.lbi.listenOnly := by
  simp only [State.takeBook]
  repeat' split
  all_goals simp

@[simp] theorem listenOnly_completeImage (b : Booking) (im : List Byte) (s : State) :
    (State.completeImage b im s).lbi.listenOnly = s.lbi.listenOnly := by
  simp only [State.completeImage]
  repeat' split
  all_goals simp

@[simp] theorem listenOnly_takePart (b : Booking) (a : Assembly) (s : State) :
    (State.takePart b a s).lbi.listenOnly = s.lbi.listenOnly := by
  simp only [State.takePart]
  repeat' split
  all_goals simp

@[simp] theorem listenOnly_rejectOpen (b : Booking) (s : State) :
    (State.rejectOpen b s).lbi.listenOnly = s.lbi.listenOnly := by
  simp only [State.rejectOpen]
  repeat' split
  all_goals simp

@[simp] theorem listenOnly_takeFirstPart (a : Addr) (c : CarryPart) (s : State) :
    (State.takeFirstPart a c s).lbi.listenOnly = s.lbi.listenOnly := by
  simp only [State.takeFirstPart]
  repeat' split
  all_goals simp

@[simp] theorem listenOnly_takeLaterPart (a : Addr) (c : CarryPart) (s : State) :
    (State.takeLaterPart a c s).lbi.listenOnly = s.lbi.listenOnly := by
  simp only [State.takeLaterPart]
  repeat' split
  all_goals simp

@[simp] theorem listenOnly_takeCarry (a : Addr) (c : CarryPart) (s : State) :
    (State.takeCarry a c s).lbi.listenOnly = s.lbi.listenOnly := by
  simp only [State.takeCarry]
  repeat' split
  all_goals simp

@[simp] theorem listenOnly_receiveRecord (f : Frame) (s : State) :
    (State.receiveRecord f s).lbi.listenOnly = s.lbi.listenOnly := by
  simp only [State.receiveRecord]
  repeat' split
  all_goals simp

@[simp] theorem listenOnly_takeBooked (a : Addr) (t : Tag) (p : PosIx) (s : State) :
    (State.takeBooked a t p s).lbi.listenOnly = s.lbi.listenOnly := by
  simp only [State.takeBooked]
  repeat' split
  all_goals simp

@[simp] theorem listenOnly_takeRefused (a : Addr) (t : Tag) (s : State) :
    (State.takeRefused a t s).lbi.listenOnly = s.lbi.listenOnly := by
  simp only [State.takeRefused]
  repeat' split
  all_goals simp

@[simp] theorem listenOnly_handOver (a : Addr) (t : Tag) (s : State) :
    (State.handOver a t s).lbi.listenOnly = s.lbi.listenOnly := by
  simp only [State.handOver]
  repeat' split
  all_goals simp

@[simp] theorem listenOnly_rejected (a : Addr) (t : Tag) (reason : Byte) (s : State) :
    (State.rejected a t reason s).lbi.listenOnly = s.lbi.listenOnly := by
  simp only [State.rejected]
  repeat' split
  all_goals simp

@[simp] theorem listenOnly_found (a : Addr) (t : Tag) (s : State) :
    (State.found a t s).lbi.listenOnly = s.lbi.listenOnly := by
  simp only [State.found]
  repeat' split
  all_goals simp

@[simp] theorem listenOnly_answerLocate (a : Addr) (t : Tag) (s : State) :
    (State.answerLocate a t s).lbi.listenOnly = s.lbi.listenOnly := by
  simp only [State.answerLocate]
  repeat' split
  all_goals simp

@[simp] theorem listenOnly_cancelBooking (a : Addr) (t : Tag) (s : State) :
    (State.cancelBooking a t s).lbi.listenOnly = s.lbi.listenOnly := by
  simp only [State.cancelBooking]
  repeat' split
  all_goals simp

@[simp] theorem listenOnly_departRecord (a : Addr) (s : State) (h : Handle) :
    (State.departRecord a s h).lbi.listenOnly = s.lbi.listenOnly := by
  simp only [State.departRecord]
  repeat' split
  all_goals simp

@[simp] theorem listenOnly_clearOutbound (s : State) (p : PosIx) :
    (State.clearOutbound s p).lbi.listenOnly = s.lbi.listenOnly := by
  simp only [State.clearOutbound]
  repeat' split
  all_goals simp

@[simp] theorem listenOnly_updPeer (a : Addr) (f : Peer → Peer) (s : State) :
    (State.updPeer a f s).lbi.listenOnly = s.lbi.listenOnly := by
  simp [State.updPeer]

@[simp] theorem listenOnly_setLine (l : LineState) (s : State) :
    (State.setLine l s).lbi.listenOnly = s.lbi.listenOnly := by
  simp [State.setLine]

@[simp] theorem listenOnly_peerGone (a : Addr) (c : GoneCause) (s : State) :
    (State.peerGone a c s).lbi.listenOnly = s.lbi.listenOnly := by
  simp only [State.peerGone]
  repeat' split
  all_goals simp

@[simp] theorem listenOnly_postPeerJoined (a : Addr) (s : State) :
    (State.postPeerJoined a s).lbi.listenOnly = s.lbi.listenOnly := by
  simp [State.postPeerJoined]

@[simp] theorem listenOnly_peerJoins (a : Addr) (role : Role) (s : State) :
    (State.peerJoins a role s).lbi.listenOnly = s.lbi.listenOnly := by
  simp [State.peerJoins]

@[simp] theorem listenOnly_applyPresence (a : Addr) (q : PresenceReport) (s : State) :
    (State.applyPresence a q s).lbi.listenOnly = s.lbi.listenOnly := by
  simp only [State.applyPresence]
  repeat' split
  all_goals simp

@[simp] theorem listenOnly_restartRound (a : Addr) (s : State) (h : Handle) :
    (State.restartRound a s h).lbi.listenOnly = s.lbi.listenOnly := by
  simp only [State.restartRound]
  repeat' split
  all_goals simp

@[simp] theorem listenOnly_restartRounds (a : Addr) (q : PresenceReport) (s : State) :
    (State.restartRounds a q s).lbi.listenOnly = s.lbi.listenOnly := by
  simp only [State.restartRounds]
  repeat' split
  all_goals simp

@[simp] theorem listenOnly_noteSender (a : Addr) (s : State) :
    (State.noteSender a s).lbi.listenOnly = s.lbi.listenOnly := by
  simp only [State.noteSender]
  repeat' split
  all_goals simp

@[simp] theorem listenOnly_sendUpkeep (f : Frame) (s : State) :
    (State.sendUpkeep f s).lbi.listenOnly = s.lbi.listenOnly := by
  simp only [State.sendUpkeep]
  repeat' split
  all_goals simp

@[simp] theorem listenOnly_pumpUpkeep (s : State) : (State.pumpUpkeep s).lbi.listenOnly = s.lbi.listenOnly := by
  simp only [State.pumpUpkeep]
  repeat' split
  all_goals simp

@[simp] theorem listenOnly_withdrawUpkeep (kinds : List FrameKind) (s : State) :
    (State.withdrawUpkeep kinds s).lbi.listenOnly = s.lbi.listenOnly := by
  simp only [State.withdrawUpkeep]
  repeat' split
  all_goals simp

@[simp] theorem listenOnly_stopServing (s : State) : (State.stopServing s).lbi.listenOnly = s.lbi.listenOnly := by
  simp [State.stopServing]

@[simp] theorem listenOnly_stopServingOf (a : Addr) (s : State) :
    (State.stopServingOf a s).lbi.listenOnly = s.lbi.listenOnly := by
  simp only [State.stopServingOf]
  repeat' split
  all_goals simp

@[simp] theorem listenOnly_setJoinQueue (l : List Joiner) (s : State) :
    (State.setJoinQueue l s).lbi.listenOnly = s.lbi.listenOnly := by
  simp [State.setJoinQueue]

@[simp] theorem listenOnly_leaveQueue (a : Addr) (s : State) :
    (State.leaveQueue a s).lbi.listenOnly = s.lbi.listenOnly := by
  simp [State.leaveQueue]

@[simp] theorem listenOnly_enterQueue (a : Addr) (s : State) :
    (State.enterQueue a s).lbi.listenOnly = s.lbi.listenOnly := by
  simp only [State.enterQueue]
  repeat' split
  all_goals simp

@[simp] theorem listenOnly_judgeProvider (a : Addr) (s : State) :
    (State.judgeProvider a s).lbi.listenOnly = s.lbi.listenOnly := by
  simp only [State.judgeProvider]
  repeat' split
  all_goals simp

@[simp] theorem listenOnly_tryServe (s : State) : (State.tryServe s).lbi.listenOnly = s.lbi.listenOnly := by
  simp only [State.tryServe]
  repeat' split
  all_goals simp

@[simp] theorem listenOnly_snapAppeared (s : State) : (State.snapAppeared s).lbi.listenOnly = s.lbi.listenOnly := by
  simp only [State.snapAppeared]
  repeat' split
  all_goals simp

@[simp] theorem listenOnly_rejoin (c : Cause) (s : State) : (State.rejoin c s).lbi.listenOnly = s.lbi.listenOnly := by
  simp only [State.rejoin]
  repeat' split
  all_goals simp

@[simp] theorem listenOnly_enterJoining (c : Cause) (s : State) :
    (State.enterJoining c s).lbi.listenOnly = s.lbi.listenOnly := by
  simp [State.enterJoining]

@[simp] theorem listenOnly_startJoin (s : State) : (State.startJoin s).lbi.listenOnly = s.lbi.listenOnly := by
  simp [State.startJoin]

@[simp] theorem listenOnly_bufferFrame (f : BufferedFrame) (s : State) :
    (State.bufferFrame f s).lbi.listenOnly = s.lbi.listenOnly := by
  simp only [State.bufferFrame]
  repeat' split
  all_goals simp

@[simp] theorem listenOnly_joinedRecord (s : State) (h : Handle) :
    (State.joinedRecord s h).lbi.listenOnly = s.lbi.listenOnly := by
  simp only [State.joinedRecord]
  repeat' split
  all_goals simp

@[simp] theorem listenOnly_joinedPosition (s : State) (p : PosIx) :
    (State.joinedPosition s p).lbi.listenOnly = s.lbi.listenOnly := by
  simp only [State.joinedPosition]
  repeat' split
  all_goals simp

@[simp] theorem listenOnly_loadSnapshot (n : SnapIn) (s : State) :
    (State.loadSnapshot n s).lbi.listenOnly = s.lbi.listenOnly := by
  simp [State.loadSnapshot]

@[simp] theorem listenOnly_listFrame (f : BufferedFrame) (s : State) :
    (State.listFrame f s).lbi.listenOnly = s.lbi.listenOnly := by
  simp only [State.listFrame]
  repeat' split
  all_goals simp

@[simp] theorem listenOnly_replayFrame (s : State) (f : BufferedFrame) :
    (State.replayFrame s f).lbi.listenOnly = s.lbi.listenOnly := by
  simp [State.replayFrame]

@[simp] theorem listenOnly_lostPosition (s : State) (p : PosIx) :
    (State.lostPosition s p).lbi.listenOnly = s.lbi.listenOnly := by
  simp only [State.lostPosition]
  repeat' split
  all_goals simp

@[simp] theorem listenOnly_enterMismatch (s : State) : (State.enterMismatch s).lbi.listenOnly = s.lbi.listenOnly := by
  simp [State.enterMismatch]

@[simp] theorem listenOnly_takeHead (sender : Addr) (q : SnapHead) (s : State) :
    (State.takeHead sender q s).lbi.listenOnly = s.lbi.listenOnly := by
  simp only [State.takeHead]
  repeat' split
  all_goals simp

@[simp] theorem listenOnly_setInTx (x : InTx) (s : State) : (State.setInTx x s).lbi.listenOnly = s.lbi.listenOnly := by
  simp [State.setInTx]

@[simp] theorem listenOnly_beginTx (s : State) : (State.beginTx s).lbi.listenOnly = s.lbi.listenOnly := by
  simp only [State.beginTx]
  repeat' split
  all_goals simp

@[simp] theorem listenOnly_restartStall (s : State) : (State.restartStall s).lbi.listenOnly = s.lbi.listenOnly := by
  simp [State.restartStall]

@[simp] theorem listenOnly_pumpOrigin (o : Origin) (s : State) :
    (State.pumpOrigin o s).lbi.listenOnly = s.lbi.listenOnly := by
  simp only [State.pumpOrigin]
  repeat' split
  all_goals simp

@[simp] theorem listenOnly_finishOwn (own : OwnTx) (s : State) :
    (State.finishOwn own s).lbi.listenOnly = s.lbi.listenOnly := by
  simp only [State.finishOwn]
  repeat' split
  all_goals simp

@[simp] theorem listenOnly_dropFrame (o : Origin) (s : State) :
    (State.dropFrame o s).lbi.listenOnly = s.lbi.listenOnly := by
  simp [State.dropFrame]

@[simp] theorem listenOnly_dropHead (s : State) : (State.dropHead s).lbi.listenOnly = s.lbi.listenOnly := by
  simp only [State.dropHead]
  repeat' split
  all_goals simp

@[simp] theorem listenOnly_countClean (s : State) : (State.countClean s).lbi.listenOnly = s.lbi.listenOnly := by
  simp [State.countClean]

@[simp] theorem listenOnly_noteBar (k : FrameKind) (payload : List Byte) (s : State) :
    (State.noteBar k payload s).lbi.listenOnly = s.lbi.listenOnly := by
  simp only [State.noteBar]
  repeat' split
  all_goals simp

@[simp] theorem listenOnly_takenSaved (own : OwnTx) (s : State) :
    (State.takenSaved own s).lbi.listenOnly = s.lbi.listenOnly := by
  simp only [State.takenSaved]
  repeat' split
  all_goals simp

@[simp] theorem listenOnly_appearUndefined (sender : Addr) (s : State) :
    (State.appearUndefined sender s).lbi.listenOnly = s.lbi.listenOnly := by
  simp only [State.appearUndefined]
  repeat' split
  all_goals simp

@[simp] theorem listenOnly_onReplicated (k : FrameKind) (sender : Addr) (payload : List Byte) (s : State) :
    (State.onReplicated k sender payload s).lbi.listenOnly = s.lbi.listenOnly := by
  simp only [State.onReplicated]
  repeat' split
  all_goals simp

@[simp] theorem listenOnly_onSnapHead (own : OwnTx) (sender : Addr) (payload : List Byte) (s : State) :
    (State.onSnapHead own sender payload s).lbi.listenOnly = s.lbi.listenOnly := by
  simp only [State.onSnapHead]
  repeat' split
  all_goals simp

@[simp] theorem listenOnly_onPresence (sender : Addr) (payload : List Byte) (s : State) :
    (State.onPresence sender payload s).lbi.listenOnly = s.lbi.listenOnly := by
  simp only [State.onPresence]
  repeat' split
  all_goals simp

@[simp] theorem listenOnly_bookAppeared (own : OwnTx) (dest : BitVec 5) (q : BookRequest) (s : State) :
    (State.bookAppeared own dest q s).lbi.listenOnly = s.lbi.listenOnly := by
  simp only [State.bookAppeared]
  repeat' split
  all_goals simp

@[simp] theorem listenOnly_onBook (own : OwnTx) (sender : Addr) (dest : BitVec 5) (payload : List Byte) (s : State) :
    (State.onBook own sender dest payload s).lbi.listenOnly = s.lbi.listenOnly := by
  simp only [State.onBook]
  repeat' split
  all_goals simp

@[simp] theorem listenOnly_bookedAppeared (dest : BitVec 5) (t : Tag) (s : State) :
    (State.bookedAppeared dest t s).lbi.listenOnly = s.lbi.listenOnly := by
  simp [State.bookedAppeared]

@[simp] theorem listenOnly_onBooked (own : OwnTx) (sender : Addr) (dest : BitVec 5) (payload : List Byte) (s : State) :
    (State.onBooked own sender dest payload s).lbi.listenOnly = s.lbi.listenOnly := by
  simp only [State.onBooked]
  repeat' split
  all_goals simp

@[simp] theorem listenOnly_onRefused (sender : Addr) (dest : BitVec 5) (payload : List Byte) (s : State) :
    (State.onRefused sender dest payload s).lbi.listenOnly = s.lbi.listenOnly := by
  simp only [State.onRefused]
  repeat' split
  all_goals simp

@[simp] theorem listenOnly_onFound (sender : Addr) (dest : BitVec 5) (payload : List Byte) (s : State) :
    (State.onFound sender dest payload s).lbi.listenOnly = s.lbi.listenOnly := by
  simp only [State.onFound]
  repeat' split
  all_goals simp

@[simp] theorem listenOnly_locateAppeared (t : Tag) (s : State) :
    (State.locateAppeared t s).lbi.listenOnly = s.lbi.listenOnly := by
  simp only [State.locateAppeared]
  repeat' split
  all_goals simp

@[simp] theorem listenOnly_onLocate (own : OwnTx) (sender : Addr) (payload : List Byte) (s : State) :
    (State.onLocate own sender payload s).lbi.listenOnly = s.lbi.listenOnly := by
  simp only [State.onLocate]
  repeat' split
  all_goals simp

@[simp] theorem listenOnly_carryAppeared (own : OwnTx) (index : Nat) (s : State) :
    (State.carryAppeared own index s).lbi.listenOnly = s.lbi.listenOnly := by
  simp only [State.carryAppeared]
  repeat' split
  all_goals simp

@[simp] theorem listenOnly_onCarry (own : OwnTx) (sender : Addr) (dest : BitVec 5) (payload : List Byte) (s : State) :
    (State.onCarry own sender dest payload s).lbi.listenOnly = s.lbi.listenOnly := by
  simp only [State.onCarry]
  repeat' split
  all_goals simp

@[simp] theorem listenOnly_onTaken (sender : Addr) (dest : BitVec 5) (payload : List Byte) (s : State) :
    (State.onTaken sender dest payload s).lbi.listenOnly = s.lbi.listenOnly := by
  simp only [State.onTaken]
  repeat' split
  all_goals simp

@[simp] theorem listenOnly_countOne (p : PosIx) (h : Handle) (r : Record) (e : StepEntry) (s : State) :
    (State.countOne p h r e s).lbi.listenOnly = s.lbi.listenOnly := by
  simp only [State.countOne]
  repeat' split
  all_goals simp

@[simp] theorem listenOnly_runSecond (p : PosIx) (s : State) :
    (State.runSecond p s).lbi.listenOnly = s.lbi.listenOnly := by
  simp only [State.runSecond]
  repeat' split
  all_goals simp

@[simp] theorem listenOnly_pauseSecond (p : PosIx) (s : State) :
    (State.pauseSecond p s).lbi.listenOnly = s.lbi.listenOnly := by
  simp only [State.pauseSecond]
  repeat' split
  all_goals simp

@[simp] theorem listenOnly_lampSilent (p : PosIx) (s : State) :
    (State.lampSilent p s).lbi.listenOnly = s.lbi.listenOnly := by
  simp only [State.lampSilent]
  repeat' split
  all_goals simp

@[simp] theorem listenOnly_doseShort (p : PosIx) (s : State) :
    (State.doseShort p s).lbi.listenOnly = s.lbi.listenOnly := by
  simp only [State.doseShort]
  repeat' split
  all_goals simp

@[simp] theorem listenOnly_dosePulse (p : PosIx) (s : State) :
    (State.dosePulse p s).lbi.listenOnly = s.lbi.listenOnly := by
  simp only [State.dosePulse]
  repeat' split
  all_goals simp

@[simp] theorem listenOnly_gapSecond (h : Handle) (s : State) :
    (State.gapSecond h s).lbi.listenOnly = s.lbi.listenOnly := by
  simp only [State.gapSecond]
  repeat' split
  all_goals simp

@[simp] theorem listenOnly_answerExpired (h : Handle) (s : State) :
    (State.answerExpired h s).lbi.listenOnly = s.lbi.listenOnly := by
  simp only [State.answerExpired]
  repeat' split
  all_goals simp

@[simp] theorem listenOnly_partGapExpired (p : PosIx) (s : State) :
    (State.partGapExpired p s).lbi.listenOnly = s.lbi.listenOnly := by
  simp only [State.partGapExpired]
  repeat' split
  all_goals simp

@[simp] theorem listenOnly_handOffExpired (h : Handle) (s : State) :
    (State.handOffExpired h s).lbi.listenOnly = s.lbi.listenOnly := by
  simp only [State.handOffExpired]
  repeat' split
  all_goals simp

@[simp] theorem listenOnly_locateExpired (h : Handle) (s : State) :
    (State.locateExpired h s).lbi.listenOnly = s.lbi.listenOnly := by
  simp only [State.locateExpired]
  repeat' split
  all_goals simp

@[simp] theorem listenOnly_departureExpired (a : Addr) (s : State) :
    (State.departureExpired a s).lbi.listenOnly = s.lbi.listenOnly := by
  simp only [State.departureExpired]
  repeat' split
  all_goals simp

@[simp] theorem listenOnly_presenceExpired (s : State) :
    (State.presenceExpired s).lbi.listenOnly = s.lbi.listenOnly := by
  simp only [State.presenceExpired]
  repeat' split
  all_goals simp

@[simp] theorem listenOnly_snapGapExpired (s : State) : (State.snapGapExpired s).lbi.listenOnly = s.lbi.listenOnly := by
  simp only [State.snapGapExpired]
  repeat' split
  all_goals simp

@[simp] theorem listenOnly_backoffExpired (s : State) : (State.backoffExpired s).lbi.listenOnly = s.lbi.listenOnly := by
  simp only [State.backoffExpired]
  repeat' split
  all_goals simp

@[simp] theorem listenOnly_advancePos (s : State) (p : PosIx) :
    (State.advancePos s p).lbi.listenOnly = s.lbi.listenOnly := by
  simp only [State.advancePos]
  repeat' split
  all_goals simp

@[simp] theorem listenOnly_firePos (s : State) (p : PosIx) : (State.firePos s p).lbi.listenOnly = s.lbi.listenOnly := by
  simp only [State.firePos]
  repeat' split
  all_goals simp

@[simp] theorem listenOnly_fireRec (s : State) (h : Handle) :
    (State.fireRec s h).lbi.listenOnly = s.lbi.listenOnly := by
  simp only [State.fireRec]
  repeat' split
  all_goals simp

@[simp] theorem listenOnly_fireDeparture (s : State) (a : Addr) :
    (State.fireDeparture s a).lbi.listenOnly = s.lbi.listenOnly := by
  simp only [State.fireDeparture]
  repeat' split
  all_goals simp

@[simp] theorem listenOnly_pauseForPower (s : State) (p : PosIx) :
    (State.pauseForPower s p).lbi.listenOnly = s.lbi.listenOnly := by
  simp only [State.pauseForPower]
  repeat' split
  all_goals simp

@[simp] theorem listenOnly_beginWrite (s : State) : (State.beginWrite s).lbi.listenOnly = s.lbi.listenOnly := by
  simp only [State.beginWrite]
  repeat' split
  all_goals simp

@[simp] theorem listenOnly_endWrite (s : State) : (State.endWrite s).lbi.listenOnly = s.lbi.listenOnly := by
  simp only [State.endWrite]
  repeat' split
  all_goals simp

@[simp] theorem listenOnly_restorePosition (im : List Byte) (s : State) (p : PosIx) :
    (State.restorePosition im s p).lbi.listenOnly = s.lbi.listenOnly := by
  simp only [State.restorePosition]
  repeat' split
  all_goals simp

@[simp] theorem listenOnly_cleanLink (s : State) (h : Handle) :
    (State.cleanLink s h).lbi.listenOnly = s.lbi.listenOnly := by
  simp [State.cleanLink]

@[simp] theorem listenOnly_restoreArrival (s : State) (h : Handle) :
    (State.restoreArrival s h).lbi.listenOnly = s.lbi.listenOnly := by
  simp only [State.restoreArrival]
  repeat' split
  all_goals simp

@[simp] theorem listenOnly_postRestoreHeld (s : State) (x : Handle × Nat) :
    (State.postRestoreHeld s x).lbi.listenOnly = s.lbi.listenOnly := by
  simp only [State.postRestoreHeld]
  repeat' split
  all_goals simp

@[simp] theorem listenOnly_rebuildFreeList (s : State) :
    (State.rebuildFreeList s).lbi.listenOnly = s.lbi.listenOnly := by
  simp [State.rebuildFreeList]

@[simp] theorem listenOnly_invalidate (s : State) : (State.invalidate s).lbi.listenOnly = s.lbi.listenOnly := by
  simp [State.invalidate]

@[simp] theorem listenOnly_postRestored (n : Nat) (s : State) :
    (State.postRestored n s).lbi.listenOnly = s.lbi.listenOnly := by
  simp [State.postRestored]

@[simp] theorem listenOnly_openPositions (s : State) : (State.openPositions s).lbi.listenOnly = s.lbi.listenOnly := by
  simp [State.openPositions]

@[simp] theorem listenOnly_configWrite (item : Byte) (v : BitVec 16) (s : State) :
    (State.configWrite item v s).lbi.listenOnly = s.lbi.listenOnly := by
  simp only [State.configWrite]
  repeat' split
  all_goals simp

@[simp] theorem listenOnly_useSeq (q : BitVec 16) (s : State) :
    (State.useSeq q s).lbi.listenOnly = s.lbi.listenOnly := by
  simp [State.useSeq]

@[simp] theorem listenOnly_plateArrives (p : PosIx) (h : Handle) (r : Record) (s : State) :
    (State.plateArrives p h r s).lbi.listenOnly = s.lbi.listenOnly := by
  simp only [State.plateArrives]
  repeat' split
  all_goals simp

@[simp] theorem listenOnly_arrived (p : PosIx) (seq : BitVec 16) (s : State) :
    (State.arrived p seq s).lbi.listenOnly = s.lbi.listenOnly := by
  simp only [State.arrived]
  repeat' split
  all_goals simp

@[simp] theorem listenOnly_retire (p : PosIx) (h : Handle) (r : Record) (s : State) :
    (State.retire p h r s).lbi.listenOnly = s.lbi.listenOnly := by
  simp [State.retire]

@[simp] theorem listenOnly_plateTaken (p : PosIx) (h : Handle) (r : Record) (s : State) :
    (State.plateTaken p h r s).lbi.listenOnly = s.lbi.listenOnly := by
  simp only [State.plateTaken]
  repeat' split
  all_goals simp

@[simp] theorem listenOnly_rushRecord (h : Handle) (r : Record) (s : State) :
    (State.rushRecord h r s).lbi.listenOnly = s.lbi.listenOnly := by
  simp only [State.rushRecord]
  repeat' split
  all_goals simp

@[simp] theorem listenOnly_wrongCode (s : State) : (State.wrongCode s).lbi.listenOnly = s.lbi.listenOnly := by
  simp [State.wrongCode]

@[simp] theorem listenOnly_scrapPosition (p : Option PosIx) (s : State) :
    (State.scrapPosition p s).lbi.listenOnly = s.lbi.listenOnly := by
  simp only [State.scrapPosition]
  repeat' split
  all_goals simp

@[simp] theorem listenOnly_stopLocate (h : Handle) (s : State) :
    (State.stopLocate h s).lbi.listenOnly = s.lbi.listenOnly := by
  simp [State.stopLocate]

@[simp] theorem listenOnly_adoptRecord (h : Handle) (r : Record) (s : State) :
    (State.adoptRecord h r s).lbi.listenOnly = s.lbi.listenOnly := by
  simp [State.adoptRecord]

@[simp] theorem listenOnly_adopt (h : Handle) (r : Record) (s : State) :
    (State.adopt h r s).lbi.listenOnly = s.lbi.listenOnly := by
  simp only [State.adopt]
  repeat' split
  all_goals simp

@[simp] theorem listenOnly_setIlk (p : PosIx) (level : Bool) (s : State) :
    (State.setIlk p level s).lbi.listenOnly = s.lbi.listenOnly := by
  simp [State.setIlk]

@[simp] theorem listenOnly_pauseStep (p : PosIx) (s : State) :
    (State.pauseStep p s).lbi.listenOnly = s.lbi.listenOnly := by
  simp only [State.pauseStep]
  repeat' split
  all_goals simp

@[simp] theorem listenOnly_resumeStep (p : PosIx) (s : State) :
    (State.resumeStep p s).lbi.listenOnly = s.lbi.listenOnly := by
  simp only [State.resumeStep]
  repeat' split
  all_goals simp

@[simp] theorem listenOnly_departureDue (a : Addr) (s : State) :
    (State.departureDue a s).lbi.listenOnly = s.lbi.listenOnly := by
  simp [State.departureDue]

@[simp] theorem listenOnly_sendLeave (s : State) : (State.sendLeave s).lbi.listenOnly = s.lbi.listenOnly := by
  simp [State.sendLeave]

end Sys2Proof.Machine
end

