-- ==== Sys2Proof/Laws/FrameLowIndication.lean ====
section
/-! SUPPORT. Which operations leave the low indication alone: one lemma per operation, proved in the order the operations are built in. -/

namespace Sys2Proof.Machine

@[simp] theorem lowIndication_ite (c : Prop) [Decidable c] (x y : State) : (if c then x else y).store.lowIndication = if c then x.store.lowIndication else y.store.lowIndication := by
  split <;> rfl

@[simp] theorem lowIndication_foldl {α} (f : State → α → State) (hf : ∀ s a, (f s a).store.lowIndication = s.store.lowIndication) (l : List α) (s : State) :
    (l.foldl f s).store.lowIndication = s.store.lowIndication := by
  induction l generalizing s with
  | nil => rfl
  | cons a l ih => rw [List.foldl_cons, ih, hf]

@[simp] theorem lowIndication_setSlot (h : Handle) (x : Slot) (s : State) :
    (State.setSlot h x s).store.lowIndication = s.store.lowIndication := by
  simp [State.setSlot]

@[simp] theorem lowIndication_setRec (h : Handle) (r : Record) (s : State) :
    (State.setRec h r s).store.lowIndication = s.store.lowIndication := by
  simp [State.setRec]

@[simp] theorem lowIndication_updRec (h : Handle) (f : Record → Record) (s : State) :
    (State.updRec h f s).store.lowIndication = s.store.lowIndication := by
  simp only [State.updRec]
  repeat' split
  all_goals simp

@[simp] theorem lowIndication_setWaits (h : Handle) (ws : List SlotWait) (s : State) :
    (State.setWaits h ws s).store.lowIndication = s.store.lowIndication := by
  simp [State.setWaits]

@[simp] theorem lowIndication_freeSlot (h : Handle) (s : State) :
    (State.freeSlot h s).store.lowIndication = s.store.lowIndication := by
  simp [State.freeSlot]

@[simp] theorem lowIndication_enqueue (h : Handle) (rush : Bool) (s : State) :
    (State.enqueue h rush s).store.lowIndication = s.store.lowIndication := by
  simp only [State.enqueue]
  repeat' split
  all_goals simp

@[simp] theorem lowIndication_unqueue (h : Handle) (s : State) :
    (State.unqueue h s).store.lowIndication = s.store.lowIndication := by
  simp [State.unqueue]

@[simp] theorem lowIndication_updPos (p : PosIx) (f : Position → Position) (s : State) :
    (State.updPos p f s).store.lowIndication = s.store.lowIndication := by
  simp [State.updPos]

@[simp] theorem lowIndication_vacate (p : PosIx) (st : PosState) (s : State) :
    (State.vacate p st s).store.lowIndication = s.store.lowIndication := by
  simp [State.vacate]

@[simp] theorem lowIndication_vacateOpt (p : Option PosIx) (st : PosState) (s : State) :
    (State.vacate? p st s).store.lowIndication = s.store.lowIndication := by
  simp only [State.vacate?]
  repeat' split
  all_goals simp

@[simp] theorem lowIndication_alarm (f : Alarms → Alarms) (s : State) :
    (State.alarm f s).store.lowIndication = s.store.lowIndication := by
  simp [State.alarm]

@[simp] theorem lowIndication_post (e : Event) (s : State) :
    (State.post e s).store.lowIndication = s.store.lowIndication := by
  simp only [State.post]
  repeat' split
  all_goals simp

@[simp] theorem lowIndication_postLineState (c : Cause) (s : State) :
    (State.postLineState c s).store.lowIndication = s.store.lowIndication := by
  simp [State.postLineState]

@[simp] theorem lowIndication_respond (st : Status) (data : BitVec 24) (s : State) :
    (State.respond st data s).store.lowIndication = s.store.lowIndication := by
  simp [State.respond]

@[simp] theorem lowIndication_ok (d2 d1 d0 : Byte) (s : State) :
    (State.ok d2 d1 d0 s).store.lowIndication = s.store.lowIndication := by
  simp [State.ok]

@[simp] theorem lowIndication_refuse (r : Reason) (d0 : Byte) (s : State) :
    (State.refuse r d0 s).store.lowIndication = s.store.lowIndication := by
  simp [State.refuse]

@[simp] theorem lowIndication_badArgument (code : Byte) (s : State) :
    (State.badArgument code s).store.lowIndication = s.store.lowIndication := by
  simp [State.badArgument]

@[simp] theorem lowIndication_deliver (s : State) : (State.deliver s).store.lowIndication = s.store.lowIndication := by
  simp [State.deliver]

@[simp] theorem lowIndication_stage (bs : List Byte) (s : State) :
    (State.stage bs s).store.lowIndication = s.store.lowIndication := by
  simp [State.stage]

@[simp] theorem lowIndication_queueFrame (o : Origin) (f : Frame) (s : State) :
    (State.queueFrame o f s).store.lowIndication = s.store.lowIndication := by
  simp only [State.queueFrame]
  repeat' split
  all_goals simp

@[simp] theorem lowIndication_setTx (l : List TxEntry) (s : State) :
    (State.setTx l s).store.lowIndication = s.store.lowIndication := by
  simp [State.setTx]

@[simp] theorem lowIndication_removeTx (o : Origin) (s : State) :
    (State.removeTx o s).store.lowIndication = s.store.lowIndication := by
  simp [State.removeTx]

@[simp] theorem lowIndication_updTx (o : Origin) (f : TxEntry → TxEntry) (s : State) :
    (State.updTx o f s).store.lowIndication = s.store.lowIndication := by
  simp [State.updTx]

@[simp] theorem lowIndication_withdrawTx (o : Origin) (s : State) :
    (State.withdrawTx o s).store.lowIndication = s.store.lowIndication := by
  simp only [State.withdrawTx]
  repeat' split
  all_goals simp

@[simp] theorem lowIndication_replaceTx (o : Origin) (f : Frame) (s : State) :
    (State.replaceTx o f s).store.lowIndication = s.store.lowIndication := by
  simp only [State.replaceTx]
  repeat' split
  all_goals simp

@[simp] theorem lowIndication_queueOrReplace (o : Origin) (f : Frame) (s : State) :
    (State.queueOrReplace o f s).store.lowIndication = s.store.lowIndication := by
  simp only [State.queueOrReplace]
  repeat' split
  all_goals simp

@[simp] theorem lowIndication_clearTx (s : State) : (State.clearTx s).store.lowIndication = s.store.lowIndication := by
  simp [State.clearTx]

@[simp] theorem lowIndication_queueAnswer (f : Frame) (s : State) :
    (State.queueAnswer f s).store.lowIndication = s.store.lowIndication := by
  simp only [State.queueAnswer]
  repeat' split
  all_goals simp

@[simp] theorem lowIndication_withdrawAnswers (cond : Frame → Bool) (s : State) :
    (State.withdrawAnswers cond s).store.lowIndication = s.store.lowIndication := by
  simp only [State.withdrawAnswers]
  apply lowIndication_foldl
  intro s i
  repeat' split
  all_goals simp

@[simp] theorem lowIndication_failAttempt (s : State) :
    (State.failAttempt s).store.lowIndication = s.store.lowIndication := by
  simp only [State.failAttempt]
  repeat' split
  all_goals simp

@[simp] theorem lowIndication_countCrcError (s : State) :
    (State.countCrcError s).store.lowIndication = s.store.lowIndication := by
  simp only [State.countCrcError]
  repeat' split
  all_goals simp

@[simp] theorem lowIndication_setClaim (p : PosIx) (c : ClaimState) (s : State) :
    (State.setClaim p c s).store.lowIndication = s.store.lowIndication := by
  simp [State.setClaim]

@[simp] theorem lowIndication_setRemembered (p : PosIx) (b : Bool) (s : State) :
    (State.setRemembered p b s).store.lowIndication = s.store.lowIndication := by
  simp [State.setRemembered]

@[simp] theorem lowIndication_queueClaim (p : PosIx) (s : State) :
    (State.queueClaim p s).store.lowIndication = s.store.lowIndication := by
  simp [State.queueClaim]

@[simp] theorem lowIndication_askClaim (p : PosIx) (s : State) :
    (State.askClaim p s).store.lowIndication = s.store.lowIndication := by
  simp only [State.askClaim]
  repeat' split
  all_goals simp

@[simp] theorem lowIndication_queueRelease (p : PosIx) (s : State) :
    (State.queueRelease p s).store.lowIndication = s.store.lowIndication := by
  simp [State.queueRelease]

@[simp] theorem lowIndication_giveUpClaim (p : PosIx) (s : State) :
    (State.giveUpClaim p s).store.lowIndication = s.store.lowIndication := by
  simp only [State.giveUpClaim]
  repeat' split
  all_goals simp

@[simp] theorem lowIndication_giveUpClaimOpt (p : Option PosIx) (s : State) :
    (State.giveUpClaim? p s).store.lowIndication = s.store.lowIndication := by
  simp only [State.giveUpClaim?]
  repeat' split
  all_goals simp

@[simp] theorem lowIndication_claimWithdrawn (p : PosIx) (s : State) :
    (State.claimWithdrawn p s).store.lowIndication = s.store.lowIndication := by
  simp only [State.claimWithdrawn]
  repeat' split
  all_goals simp

@[simp] theorem lowIndication_dropClaims (s : State) :
    (State.dropClaims s).store.lowIndication = s.store.lowIndication := by
  simp [State.dropClaims]

@[simp] theorem lowIndication_pumpWaits (h : Handle) (ws : List SlotWait) (s : State) :
    (State.pumpWaits h ws s).store.lowIndication = s.store.lowIndication := by
  induction ws generalizing s with
  | nil => simp [State.pumpWaits]
  | cons w ws ih => simp only [State.pumpWaits]; split <;> simp [ih]

@[simp] theorem lowIndication_pumpSlot (h : Handle) (s : State) :
    (State.pumpSlot h s).store.lowIndication = s.store.lowIndication := by
  simp only [State.pumpSlot]
  repeat' split
  all_goals simp

@[simp] theorem lowIndication_sendSlot (h : Handle) (w : SlotWait) (s : State) :
    (State.sendSlot h w s).store.lowIndication = s.store.lowIndication := by
  simp [State.sendSlot]

@[simp] theorem lowIndication_dropWaits (h : Handle) (w : SlotWait) (s : State) :
    (State.dropWaits h w s).store.lowIndication = s.store.lowIndication := by
  simp [State.dropWaits]

@[simp] theorem lowIndication_withdrawSlot (h : Handle) (k : FrameKind) (s : State) :
    (State.withdrawSlot h k s).store.lowIndication = s.store.lowIndication := by
  simp only [State.withdrawSlot]
  repeat' split
  all_goals simp

@[simp] theorem lowIndication_roundFrom (h : Handle) (k : Nat) (s : State) :
    (State.roundFrom h k s).store.lowIndication = s.store.lowIndication := by
  simp only [State.roundFrom]
  repeat' split
  all_goals simp

@[simp] theorem lowIndication_startRound (h : Handle) (s : State) :
    (State.startRound h s).store.lowIndication = s.store.lowIndication := by
  simp only [State.startRound]
  repeat' split
  all_goals simp

@[simp] theorem lowIndication_withdrawBooks (h : Handle) (s : State) :
    (State.withdrawBooks h s).store.lowIndication = s.store.lowIndication := by
  simp [State.withdrawBooks]

@[simp] theorem lowIndication_failCandidate (h : Handle) (s : State) :
    (State.failCandidate h s).store.lowIndication = s.store.lowIndication := by
  simp only [State.failCandidate]
  repeat' split
  all_goals simp

@[simp] theorem lowIndication_sendRenewal (h : Handle) (s : State) :
    (State.sendRenewal h s).store.lowIndication = s.store.lowIndication := by
  simp only [State.sendRenewal]
  repeat' split
  all_goals simp

@[simp] theorem lowIndication_endBooking (h : Handle) (s : State) :
    (State.endBooking h s).store.lowIndication = s.store.lowIndication := by
  simp only [State.endBooking]
  repeat' split
  all_goals simp

@[simp] theorem lowIndication_startTransfer (h : Handle) (s : State) :
    (State.startTransfer h s).store.lowIndication = s.store.lowIndication := by
  simp only [State.startTransfer]
  repeat' split
  all_goals simp

@[simp] theorem lowIndication_stopTransfer (h : Handle) (s : State) :
    (State.stopTransfer h s).store.lowIndication = s.store.lowIndication := by
  simp [State.stopTransfer]

@[simp] theorem lowIndication_placeOne (s : State) :
    (State.placeOne s).store.lowIndication = s.store.lowIndication := by
  simp only [State.placeOne]
  repeat' split
  all_goals simp

@[simp] theorem lowIndication_stopPositionOpt (p : Option PosIx) (s : State) :
    (State.stopPosition? p s).store.lowIndication = s.store.lowIndication := by
  simp only [State.stopPosition?]
  repeat' split
  all_goals simp

@[simp] theorem lowIndication_enterHeld (h : Handle) (k : DevKind) (v : BitVec 24) (leaves : Bool) (s : State) :
    (State.enterHeld h k v leaves s).store.lowIndication = s.store.lowIndication := by
  simp only [State.enterHeld]
  repeat' split
  all_goals simp

@[simp] theorem lowIndication_checkGap (h : Handle) (s : State) :
    (State.checkGap h s).store.lowIndication = s.store.lowIndication := by
  simp only [State.checkGap]
  repeat' split
  all_goals simp

@[simp] theorem lowIndication_judgeReady (h : Handle) (s : State) :
    (State.judgeReady h s).store.lowIndication = s.store.lowIndication := by
  simp only [State.judgeReady]
  repeat' split
  all_goals simp

@[simp] theorem lowIndication_enterChecked (h : Handle) (st : RecState) (s : State) :
    (State.enterChecked h st s).store.lowIndication = s.store.lowIndication := by
  simp [State.enterChecked]

@[simp] theorem lowIndication_enterLoaded (h : Handle) (s : State) :
    (State.enterLoaded h s).store.lowIndication = s.store.lowIndication := by
  simp [State.enterLoaded]

@[simp] theorem lowIndication_enterEnded (h : Handle) (s : State) :
    (State.enterEnded h s).store.lowIndication = s.store.lowIndication := by
  simp only [State.enterEnded]
  repeat' split
  all_goals simp

@[simp] theorem lowIndication_startStep (p : PosIx) (h : Handle) (s : State) :
    (State.startStep p h s).store.lowIndication = s.store.lowIndication := by
  simp only [State.startStep]
  repeat' split
  all_goals simp

@[simp] theorem lowIndication_tellGrant (p : PosIx) (s : State) :
    (State.tellGrant p s).store.lowIndication = s.store.lowIndication := by
  simp only [State.tellGrant]
  repeat' split
  all_goals simp

@[simp] theorem lowIndication_endStep (p : PosIx) (h : Handle) (s : State) :
    (State.endStep p h s).store.lowIndication = s.store.lowIndication := by
  simp only [State.endStep]
  repeat' split
  all_goals simp

@[simp] theorem lowIndication_stepFault (p : PosIx) (h : Handle) (k : DevKind) (v : BitVec 24) (s : State) :
    (State.stepFault p h k v s).store.lowIndication = s.store.lowIndication := by
  simp [State.stepFault]

@[simp] theorem lowIndication_dropBooking (h : Handle) (s : State) :
    (State.dropBooking h s).store.lowIndication = s.store.lowIndication := by
  simp only [State.dropBooking]
  repeat' split
  all_goals simp

@[simp] theorem lowIndication_tellEntry (s : State) (e : ClaimEntry) :
    (State.tellEntry s e).store.lowIndication = s.store.lowIndication := by
  simp only [State.tellEntry]
  repeat' split
  all_goals simp

@[simp] theorem lowIndication_tellGrants (l : List ClaimEntry) (s : State) :
    (State.tellGrants l s).store.lowIndication = s.store.lowIndication := by
  exact lowIndication_foldl _ lowIndication_tellEntry l s

@[simp] theorem lowIndication_reportOversize (p : PosIx) (b : BudgetIx) (s : State) :
    (State.reportOversize p b s).store.lowIndication = s.store.lowIndication := by
  simp only [State.reportOversize]
  repeat' split
  all_goals simp

@[simp] theorem lowIndication_claimStands (p : PosIx) (st : ClaimState) (s : State) :
    (State.claimStands p st s).store.lowIndication = s.store.lowIndication := by
  simp only [State.claimStands]
  repeat' split
  all_goals simp

@[simp] theorem lowIndication_ownClaim (payload : List Byte) (c : ClaimOutcome) (s : State) :
    (State.ownClaim payload c s).store.lowIndication = s.store.lowIndication := by
  simp only [State.ownClaim]
  repeat' split
  all_goals simp

@[simp] theorem lowIndication_ownRelease (payload : List Byte) (s : State) :
    (State.ownRelease payload s).store.lowIndication = s.store.lowIndication := by
  simp only [State.ownRelease]
  repeat' split
  all_goals simp

@[simp] theorem lowIndication_ownRemoved (caps : Triple) (s : State) (e : ClaimEntry) :
    (State.ownRemoved caps s e).store.lowIndication = s.store.lowIndication := by
  simp only [State.ownRemoved]
  repeat' split
  all_goals simp

@[simp] theorem lowIndication_takeReplicated (f : BufferedFrame) (own : Bool) (s : State) :
    (State.takeReplicated f own s).store.lowIndication = s.store.lowIndication := by
  simp only [State.takeReplicated]
  repeat' split
  all_goals simp

@[simp] theorem lowIndication_dropTable (s : State) :
    (State.dropTable s).store.lowIndication = s.store.lowIndication := by
  simp [State.dropTable]

@[simp] theorem lowIndication_setStatus (cond : Booking → Bool) (st : BookingStatus) (s : State) :
    (State.setStatus cond st s).store.lowIndication = s.store.lowIndication := by
  simp [State.setStatus]

@[simp] theorem lowIndication_deleteRecord (h : Handle) (s : State) :
    (State.deleteRecord h s).store.lowIndication = s.store.lowIndication := by
  simp [State.deleteRecord]

@[simp] theorem lowIndication_answerRefused (a : Addr) (t : Tag) (r : Reason) (s : State) :
    (State.answerRefused a t r s).store.lowIndication = s.store.lowIndication := by
  simp [State.answerRefused]

@[simp] theorem lowIndication_renewEntry (a : Addr) (q : BookRequest) (b : Booking) (s : State) :
    (State.renewEntry a q b s).store.lowIndication = s.store.lowIndication := by
  simp [State.renewEntry]

@[simp] theorem lowIndication_completeImage (b : Booking) (im : List Byte) (s : State) :
    (State.completeImage b im s).store.lowIndication = s.store.lowIndication := by
  simp only [State.completeImage]
  repeat' split
  all_goals simp

@[simp] theorem lowIndication_takePart (b : Booking) (a : Assembly) (s : State) :
    (State.takePart b a s).store.lowIndication = s.store.lowIndication := by
  simp only [State.takePart]
  repeat' split
  all_goals simp

@[simp] theorem lowIndication_rejectOpen (b : Booking) (s : State) :
    (State.rejectOpen b s).store.lowIndication = s.store.lowIndication := by
  simp only [State.rejectOpen]
  repeat' split
  all_goals simp

@[simp] theorem lowIndication_takeFirstPart (a : Addr) (c : CarryPart) (s : State) :
    (State.takeFirstPart a c s).store.lowIndication = s.store.lowIndication := by
  simp only [State.takeFirstPart]
  repeat' split
  all_goals simp

@[simp] theorem lowIndication_takeLaterPart (a : Addr) (c : CarryPart) (s : State) :
    (State.takeLaterPart a c s).store.lowIndication = s.store.lowIndication := by
  simp only [State.takeLaterPart]
  repeat' split
  all_goals simp

@[simp] theorem lowIndication_takeCarry (a : Addr) (c : CarryPart) (s : State) :
    (State.takeCarry a c s).store.lowIndication = s.store.lowIndication := by
  simp only [State.takeCarry]
  repeat' split
  all_goals simp

@[simp] theorem lowIndication_receiveRecord (f : Frame) (s : State) :
    (State.receiveRecord f s).store.lowIndication = s.store.lowIndication := by
  simp only [State.receiveRecord]
  repeat' split
  all_goals simp

@[simp] theorem lowIndication_takeBooked (a : Addr) (t : Tag) (p : PosIx) (s : State) :
    (State.takeBooked a t p s).store.lowIndication = s.store.lowIndication := by
  simp only [State.takeBooked]
  repeat' split
  all_goals simp

@[simp] theorem lowIndication_takeRefused (a : Addr) (t : Tag) (s : State) :
    (State.takeRefused a t s).store.lowIndication = s.store.lowIndication := by
  simp only [State.takeRefused]
  repeat' split
  all_goals simp

@[simp] theorem lowIndication_rejected (a : Addr) (t : Tag) (reason : Byte) (s : State) :
    (State.rejected a t reason s).store.lowIndication = s.store.lowIndication := by
  simp only [State.rejected]
  repeat' split
  all_goals simp

@[simp] theorem lowIndication_answerLocate (a : Addr) (t : Tag) (s : State) :
    (State.answerLocate a t s).store.lowIndication = s.store.lowIndication := by
  simp only [State.answerLocate]
  repeat' split
  all_goals simp

@[simp] theorem lowIndication_cancelBooking (a : Addr) (t : Tag) (s : State) :
    (State.cancelBooking a t s).store.lowIndication = s.store.lowIndication := by
  simp only [State.cancelBooking]
  repeat' split
  all_goals simp

@[simp] theorem lowIndication_departRecord (a : Addr) (s : State) (h : Handle) :
    (State.departRecord a s h).store.lowIndication = s.store.lowIndication := by
  simp only [State.departRecord]
  repeat' split
  all_goals simp

@[simp] theorem lowIndication_clearOutbound (s : State) (p : PosIx) :
    (State.clearOutbound s p).store.lowIndication = s.store.lowIndication := by
  simp only [State.clearOutbound]
  repeat' split
  all_goals simp

@[simp] theorem lowIndication_updPeer (a : Addr) (f : Peer → Peer) (s : State) :
    (State.updPeer a f s).store.lowIndication = s.store.lowIndication := by
  simp [State.updPeer]

@[simp] theorem lowIndication_setLine (l : LineState) (s : State) :
    (State.setLine l s).store.lowIndication = s.store.lowIndication := by
  simp [State.setLine]

@[simp] theorem lowIndication_peerGone (a : Addr) (c : GoneCause) (s : State) :
    (State.peerGone a c s).store.lowIndication = s.store.lowIndication := by
  simp only [State.peerGone]
  repeat' split
  all_goals simp

@[simp] theorem lowIndication_postPeerJoined (a : Addr) (s : State) :
    (State.postPeerJoined a s).store.lowIndication = s.store.lowIndication := by
  simp [State.postPeerJoined]

@[simp] theorem lowIndication_peerJoins (a : Addr) (role : Role) (s : State) :
    (State.peerJoins a role s).store.lowIndication = s.store.lowIndication := by
  simp [State.peerJoins]

@[simp] theorem lowIndication_applyPresence (a : Addr) (q : PresenceReport) (s : State) :
    (State.applyPresence a q s).store.lowIndication = s.store.lowIndication := by
  simp only [State.applyPresence]
  repeat' split
  all_goals simp

@[simp] theorem lowIndication_restartRound (a : Addr) (s : State) (h : Handle) :
    (State.restartRound a s h).store.lowIndication = s.store.lowIndication := by
  simp only [State.restartRound]
  repeat' split
  all_goals simp

@[simp] theorem lowIndication_restartRounds (a : Addr) (q : PresenceReport) (s : State) :
    (State.restartRounds a q s).store.lowIndication = s.store.lowIndication := by
  simp only [State.restartRounds]
  repeat' split
  all_goals simp

@[simp] theorem lowIndication_noteSender (a : Addr) (s : State) :
    (State.noteSender a s).store.lowIndication = s.store.lowIndication := by
  simp only [State.noteSender]
  repeat' split
  all_goals simp

@[simp] theorem lowIndication_sendUpkeep (f : Frame) (s : State) :
    (State.sendUpkeep f s).store.lowIndication = s.store.lowIndication := by
  simp only [State.sendUpkeep]
  repeat' split
  all_goals simp

@[simp] theorem lowIndication_pumpUpkeep (s : State) :
    (State.pumpUpkeep s).store.lowIndication = s.store.lowIndication := by
  simp only [State.pumpUpkeep]
  repeat' split
  all_goals simp

@[simp] theorem lowIndication_withdrawUpkeep (kinds : List FrameKind) (s : State) :
    (State.withdrawUpkeep kinds s).store.lowIndication = s.store.lowIndication := by
  simp only [State.withdrawUpkeep]
  repeat' split
  all_goals simp

@[simp] theorem lowIndication_stopServing (s : State) :
    (State.stopServing s).store.lowIndication = s.store.lowIndication := by
  simp [State.stopServing]

@[simp] theorem lowIndication_stopServingOf (a : Addr) (s : State) :
    (State.stopServingOf a s).store.lowIndication = s.store.lowIndication := by
  simp only [State.stopServingOf]
  repeat' split
  all_goals simp

@[simp] theorem lowIndication_setJoinQueue (l : List Joiner) (s : State) :
    (State.setJoinQueue l s).store.lowIndication = s.store.lowIndication := by
  simp [State.setJoinQueue]

@[simp] theorem lowIndication_leaveQueue (a : Addr) (s : State) :
    (State.leaveQueue a s).store.lowIndication = s.store.lowIndication := by
  simp [State.leaveQueue]

@[simp] theorem lowIndication_enterQueue (a : Addr) (s : State) :
    (State.enterQueue a s).store.lowIndication = s.store.lowIndication := by
  simp only [State.enterQueue]
  repeat' split
  all_goals simp

@[simp] theorem lowIndication_judgeProvider (a : Addr) (s : State) :
    (State.judgeProvider a s).store.lowIndication = s.store.lowIndication := by
  simp only [State.judgeProvider]
  repeat' split
  all_goals simp

@[simp] theorem lowIndication_tryServe (s : State) :
    (State.tryServe s).store.lowIndication = s.store.lowIndication := by
  simp only [State.tryServe]
  repeat' split
  all_goals simp

@[simp] theorem lowIndication_snapAppeared (s : State) :
    (State.snapAppeared s).store.lowIndication = s.store.lowIndication := by
  simp only [State.snapAppeared]
  repeat' split
  all_goals simp

@[simp] theorem lowIndication_rejoin (c : Cause) (s : State) :
    (State.rejoin c s).store.lowIndication = s.store.lowIndication := by
  simp only [State.rejoin]
  repeat' split
  all_goals simp

@[simp] theorem lowIndication_enterJoining (c : Cause) (s : State) :
    (State.enterJoining c s).store.lowIndication = s.store.lowIndication := by
  simp [State.enterJoining]

@[simp] theorem lowIndication_startJoin (s : State) :
    (State.startJoin s).store.lowIndication = s.store.lowIndication := by
  simp [State.startJoin]

@[simp] theorem lowIndication_bufferFrame (f : BufferedFrame) (s : State) :
    (State.bufferFrame f s).store.lowIndication = s.store.lowIndication := by
  simp only [State.bufferFrame]
  repeat' split
  all_goals simp

@[simp] theorem lowIndication_joinedRecord (s : State) (h : Handle) :
    (State.joinedRecord s h).store.lowIndication = s.store.lowIndication := by
  simp only [State.joinedRecord]
  repeat' split
  all_goals simp

@[simp] theorem lowIndication_joinedPosition (s : State) (p : PosIx) :
    (State.joinedPosition s p).store.lowIndication = s.store.lowIndication := by
  simp only [State.joinedPosition]
  repeat' split
  all_goals simp

@[simp] theorem lowIndication_completeJoin (c : Cause) (s : State) :
    (State.completeJoin c s).store.lowIndication = s.store.lowIndication := by
  simp [State.completeJoin]

@[simp] theorem lowIndication_loadSnapshot (n : SnapIn) (s : State) :
    (State.loadSnapshot n s).store.lowIndication = s.store.lowIndication := by
  simp [State.loadSnapshot]

@[simp] theorem lowIndication_listFrame (f : BufferedFrame) (s : State) :
    (State.listFrame f s).store.lowIndication = s.store.lowIndication := by
  simp only [State.listFrame]
  repeat' split
  all_goals simp

@[simp] theorem lowIndication_replayFrame (s : State) (f : BufferedFrame) :
    (State.replayFrame s f).store.lowIndication = s.store.lowIndication := by
  simp [State.replayFrame]

@[simp] theorem lowIndication_finishSnapshot (n : SnapIn) (s : State) :
    (State.finishSnapshot n s).store.lowIndication = s.store.lowIndication := by
  simp [State.finishSnapshot]

@[simp] theorem lowIndication_firstStation (s : State) :
    (State.firstStation s).store.lowIndication = s.store.lowIndication := by
  simp [State.firstStation]

@[simp] theorem lowIndication_lostPosition (s : State) (p : PosIx) :
    (State.lostPosition s p).store.lowIndication = s.store.lowIndication := by
  simp only [State.lostPosition]
  repeat' split
  all_goals simp

@[simp] theorem lowIndication_enterMismatch (s : State) :
    (State.enterMismatch s).store.lowIndication = s.store.lowIndication := by
  simp [State.enterMismatch]

@[simp] theorem lowIndication_takeHead (sender : Addr) (q : SnapHead) (s : State) :
    (State.takeHead sender q s).store.lowIndication = s.store.lowIndication := by
  simp only [State.takeHead]
  repeat' split
  all_goals simp

@[simp] theorem lowIndication_takeSnapPart (index : Nat) (content : List Byte) (s : State) :
    (State.takeSnapPart index content s).store.lowIndication = s.store.lowIndication := by
  simp only [State.takeSnapPart]
  repeat' split
  all_goals simp

@[simp] theorem lowIndication_setInTx (x : InTx) (s : State) :
    (State.setInTx x s).store.lowIndication = s.store.lowIndication := by
  simp [State.setInTx]

@[simp] theorem lowIndication_beginTx (s : State) : (State.beginTx s).store.lowIndication = s.store.lowIndication := by
  simp only [State.beginTx]
  repeat' split
  all_goals simp

@[simp] theorem lowIndication_restartStall (s : State) :
    (State.restartStall s).store.lowIndication = s.store.lowIndication := by
  simp [State.restartStall]

@[simp] theorem lowIndication_pumpOrigin (o : Origin) (s : State) :
    (State.pumpOrigin o s).store.lowIndication = s.store.lowIndication := by
  simp only [State.pumpOrigin]
  repeat' split
  all_goals simp

@[simp] theorem lowIndication_finishOwn (own : OwnTx) (s : State) :
    (State.finishOwn own s).store.lowIndication = s.store.lowIndication := by
  simp only [State.finishOwn]
  repeat' split
  all_goals simp

@[simp] theorem lowIndication_dropFrame (o : Origin) (s : State) :
    (State.dropFrame o s).store.lowIndication = s.store.lowIndication := by
  simp [State.dropFrame]

@[simp] theorem lowIndication_countVoid (s : State) :
    (State.countVoid s).store.lowIndication = s.store.lowIndication := by
  simp only [State.countVoid]
  repeat' split
  all_goals simp

@[simp] theorem lowIndication_dropHead (s : State) :
    (State.dropHead s).store.lowIndication = s.store.lowIndication := by
  simp only [State.dropHead]
  repeat' split
  all_goals simp

@[simp] theorem lowIndication_countClean (s : State) :
    (State.countClean s).store.lowIndication = s.store.lowIndication := by
  simp [State.countClean]

@[simp] theorem lowIndication_noteBar (k : FrameKind) (payload : List Byte) (s : State) :
    (State.noteBar k payload s).store.lowIndication = s.store.lowIndication := by
  simp only [State.noteBar]
  repeat' split
  all_goals simp

@[simp] theorem lowIndication_takenSaved (own : OwnTx) (s : State) :
    (State.takenSaved own s).store.lowIndication = s.store.lowIndication := by
  simp only [State.takenSaved]
  repeat' split
  all_goals simp

@[simp] theorem lowIndication_appearUndefined (sender : Addr) (s : State) :
    (State.appearUndefined sender s).store.lowIndication = s.store.lowIndication := by
  simp only [State.appearUndefined]
  repeat' split
  all_goals simp

@[simp] theorem lowIndication_onReplicated (k : FrameKind) (sender : Addr) (payload : List Byte) (s : State) :
    (State.onReplicated k sender payload s).store.lowIndication = s.store.lowIndication := by
  simp only [State.onReplicated]
  repeat' split
  all_goals simp

@[simp] theorem lowIndication_onSnapHead (own : OwnTx) (sender : Addr) (payload : List Byte) (s : State) :
    (State.onSnapHead own sender payload s).store.lowIndication = s.store.lowIndication := by
  simp only [State.onSnapHead]
  repeat' split
  all_goals simp

@[simp] theorem lowIndication_onSnapPart (own : OwnTx) (payload : List Byte) (s : State) :
    (State.onSnapPart own payload s).store.lowIndication = s.store.lowIndication := by
  simp only [State.onSnapPart]
  repeat' split
  all_goals simp

@[simp] theorem lowIndication_onPresence (sender : Addr) (payload : List Byte) (s : State) :
    (State.onPresence sender payload s).store.lowIndication = s.store.lowIndication := by
  simp only [State.onPresence]
  repeat' split
  all_goals simp

@[simp] theorem lowIndication_bookAppeared (own : OwnTx) (dest : BitVec 5) (q : BookRequest) (s : State) :
    (State.bookAppeared own dest q s).store.lowIndication = s.store.lowIndication := by
  simp only [State.bookAppeared]
  repeat' split
  all_goals simp

@[simp] theorem lowIndication_bookedAppeared (dest : BitVec 5) (t : Tag) (s : State) :
    (State.bookedAppeared dest t s).store.lowIndication = s.store.lowIndication := by
  simp [State.bookedAppeared]

@[simp] theorem lowIndication_onBooked (own : OwnTx) (sender : Addr) (dest : BitVec 5) (payload : List Byte)
    (s : State) :
    (State.onBooked own sender dest payload s).store.lowIndication = s.store.lowIndication := by
  simp only [State.onBooked]
  repeat' split
  all_goals simp

@[simp] theorem lowIndication_onRefused (sender : Addr) (dest : BitVec 5) (payload : List Byte) (s : State) :
    (State.onRefused sender dest payload s).store.lowIndication = s.store.lowIndication := by
  simp only [State.onRefused]
  repeat' split
  all_goals simp

@[simp] theorem lowIndication_locateAppeared (t : Tag) (s : State) :
    (State.locateAppeared t s).store.lowIndication = s.store.lowIndication := by
  simp only [State.locateAppeared]
  repeat' split
  all_goals simp

@[simp] theorem lowIndication_onLocate (own : OwnTx) (sender : Addr) (payload : List Byte) (s : State) :
    (State.onLocate own sender payload s).store.lowIndication = s.store.lowIndication := by
  simp only [State.onLocate]
  repeat' split
  all_goals simp

@[simp] theorem lowIndication_carryAppeared (own : OwnTx) (index : Nat) (s : State) :
    (State.carryAppeared own index s).store.lowIndication = s.store.lowIndication := by
  simp only [State.carryAppeared]
  repeat' split
  all_goals simp

@[simp] theorem lowIndication_onCarry (own : OwnTx) (sender : Addr) (dest : BitVec 5) (payload : List Byte)
    (s : State) :
    (State.onCarry own sender dest payload s).store.lowIndication = s.store.lowIndication := by
  simp only [State.onCarry]
  repeat' split
  all_goals simp

@[simp] theorem lowIndication_countOne (p : PosIx) (h : Handle) (r : Record) (e : StepEntry) (s : State) :
    (State.countOne p h r e s).store.lowIndication = s.store.lowIndication := by
  simp only [State.countOne]
  repeat' split
  all_goals simp

@[simp] theorem lowIndication_runSecond (p : PosIx) (s : State) :
    (State.runSecond p s).store.lowIndication = s.store.lowIndication := by
  simp only [State.runSecond]
  repeat' split
  all_goals simp

@[simp] theorem lowIndication_pauseSecond (p : PosIx) (s : State) :
    (State.pauseSecond p s).store.lowIndication = s.store.lowIndication := by
  simp only [State.pauseSecond]
  repeat' split
  all_goals simp

@[simp] theorem lowIndication_lampSilent (p : PosIx) (s : State) :
    (State.lampSilent p s).store.lowIndication = s.store.lowIndication := by
  simp only [State.lampSilent]
  repeat' split
  all_goals simp

@[simp] theorem lowIndication_doseShort (p : PosIx) (s : State) :
    (State.doseShort p s).store.lowIndication = s.store.lowIndication := by
  simp only [State.doseShort]
  repeat' split
  all_goals simp

@[simp] theorem lowIndication_dosePulse (p : PosIx) (s : State) :
    (State.dosePulse p s).store.lowIndication = s.store.lowIndication := by
  simp only [State.dosePulse]
  repeat' split
  all_goals simp

@[simp] theorem lowIndication_gapSecond (h : Handle) (s : State) :
    (State.gapSecond h s).store.lowIndication = s.store.lowIndication := by
  simp only [State.gapSecond]
  repeat' split
  all_goals simp

@[simp] theorem lowIndication_answerExpired (h : Handle) (s : State) :
    (State.answerExpired h s).store.lowIndication = s.store.lowIndication := by
  simp only [State.answerExpired]
  repeat' split
  all_goals simp

@[simp] theorem lowIndication_partGapExpired (p : PosIx) (s : State) :
    (State.partGapExpired p s).store.lowIndication = s.store.lowIndication := by
  simp only [State.partGapExpired]
  repeat' split
  all_goals simp

@[simp] theorem lowIndication_handOffExpired (h : Handle) (s : State) :
    (State.handOffExpired h s).store.lowIndication = s.store.lowIndication := by
  simp only [State.handOffExpired]
  repeat' split
  all_goals simp

@[simp] theorem lowIndication_locateExpired (h : Handle) (s : State) :
    (State.locateExpired h s).store.lowIndication = s.store.lowIndication := by
  simp only [State.locateExpired]
  repeat' split
  all_goals simp

@[simp] theorem lowIndication_departureExpired (a : Addr) (s : State) :
    (State.departureExpired a s).store.lowIndication = s.store.lowIndication := by
  simp only [State.departureExpired]
  repeat' split
  all_goals simp

@[simp] theorem lowIndication_presenceExpired (s : State) :
    (State.presenceExpired s).store.lowIndication = s.store.lowIndication := by
  simp only [State.presenceExpired]
  repeat' split
  all_goals simp

@[simp] theorem lowIndication_joinWaitExpired (s : State) :
    (State.joinWaitExpired s).store.lowIndication = s.store.lowIndication := by
  simp only [State.joinWaitExpired]
  repeat' split
  all_goals simp

@[simp] theorem lowIndication_snapGapExpired (s : State) :
    (State.snapGapExpired s).store.lowIndication = s.store.lowIndication := by
  simp only [State.snapGapExpired]
  repeat' split
  all_goals simp

@[simp] theorem lowIndication_backoffExpired (s : State) :
    (State.backoffExpired s).store.lowIndication = s.store.lowIndication := by
  simp only [State.backoffExpired]
  repeat' split
  all_goals simp

@[simp] theorem lowIndication_advancePos (s : State) (p : PosIx) :
    (State.advancePos s p).store.lowIndication = s.store.lowIndication := by
  simp only [State.advancePos]
  repeat' split
  all_goals simp

@[simp] theorem lowIndication_advance (s : State) : (State.advance s).store.lowIndication = s.store.lowIndication := by
  simp [State.advance]

@[simp] theorem lowIndication_firePos (s : State) (p : PosIx) :
    (State.firePos s p).store.lowIndication = s.store.lowIndication := by
  simp only [State.firePos]
  repeat' split
  all_goals simp

@[simp] theorem lowIndication_fireRec (s : State) (h : Handle) :
    (State.fireRec s h).store.lowIndication = s.store.lowIndication := by
  simp only [State.fireRec]
  repeat' split
  all_goals simp

@[simp] theorem lowIndication_fireDeparture (s : State) (a : Addr) :
    (State.fireDeparture s a).store.lowIndication = s.store.lowIndication := by
  simp only [State.fireDeparture]
  repeat' split
  all_goals simp

@[simp] theorem lowIndication_pauseForPower (s : State) (p : PosIx) :
    (State.pauseForPower s p).store.lowIndication = s.store.lowIndication := by
  simp only [State.pauseForPower]
  repeat' split
  all_goals simp

@[simp] theorem lowIndication_beginWrite (s : State) :
    (State.beginWrite s).store.lowIndication = s.store.lowIndication := by
  simp only [State.beginWrite]
  repeat' split
  all_goals simp

@[simp] theorem lowIndication_endWrite (s : State) :
    (State.endWrite s).store.lowIndication = s.store.lowIndication := by
  simp only [State.endWrite]
  repeat' split
  all_goals simp

@[simp] theorem lowIndication_restorePosition (im : List Byte) (s : State) (p : PosIx) :
    (State.restorePosition im s p).store.lowIndication = s.store.lowIndication := by
  simp only [State.restorePosition]
  repeat' split
  all_goals simp

@[simp] theorem lowIndication_cleanLink (s : State) (h : Handle) :
    (State.cleanLink s h).store.lowIndication = s.store.lowIndication := by
  simp [State.cleanLink]

@[simp] theorem lowIndication_restoreArrival (s : State) (h : Handle) :
    (State.restoreArrival s h).store.lowIndication = s.store.lowIndication := by
  simp only [State.restoreArrival]
  repeat' split
  all_goals simp

@[simp] theorem lowIndication_postRestoreHeld (s : State) (x : Handle × Nat) :
    (State.postRestoreHeld s x).store.lowIndication = s.store.lowIndication := by
  simp only [State.postRestoreHeld]
  repeat' split
  all_goals simp

@[simp] theorem lowIndication_rebuildFreeList (s : State) :
    (State.rebuildFreeList s).store.lowIndication = s.store.lowIndication := by
  simp [State.rebuildFreeList]

@[simp] theorem lowIndication_invalidate (s : State) :
    (State.invalidate s).store.lowIndication = s.store.lowIndication := by
  simp [State.invalidate]

@[simp] theorem lowIndication_postRestored (n : Nat) (s : State) :
    (State.postRestored n s).store.lowIndication = s.store.lowIndication := by
  simp [State.postRestored]

@[simp] theorem lowIndication_openPositions (s : State) :
    (State.openPositions s).store.lowIndication = s.store.lowIndication := by
  simp [State.openPositions]

@[simp] theorem lowIndication_configWrite (item : Byte) (v : BitVec 16) (s : State) :
    (State.configWrite item v s).store.lowIndication = s.store.lowIndication := by
  simp only [State.configWrite]
  repeat' split
  all_goals simp

@[simp] theorem lowIndication_useSeq (q : BitVec 16) (s : State) :
    (State.useSeq q s).store.lowIndication = s.store.lowIndication := by
  simp [State.useSeq]

@[simp] theorem lowIndication_plateArrives (p : PosIx) (h : Handle) (r : Record) (s : State) :
    (State.plateArrives p h r s).store.lowIndication = s.store.lowIndication := by
  simp only [State.plateArrives]
  repeat' split
  all_goals simp

@[simp] theorem lowIndication_arrived (p : PosIx) (seq : BitVec 16) (s : State) :
    (State.arrived p seq s).store.lowIndication = s.store.lowIndication := by
  simp only [State.arrived]
  repeat' split
  all_goals simp

@[simp] theorem lowIndication_rushRecord (h : Handle) (r : Record) (s : State) :
    (State.rushRecord h r s).store.lowIndication = s.store.lowIndication := by
  simp only [State.rushRecord]
  repeat' split
  all_goals simp

@[simp] theorem lowIndication_wrongCode (s : State) :
    (State.wrongCode s).store.lowIndication = s.store.lowIndication := by
  simp [State.wrongCode]

@[simp] theorem lowIndication_scrapPosition (p : Option PosIx) (s : State) :
    (State.scrapPosition p s).store.lowIndication = s.store.lowIndication := by
  simp only [State.scrapPosition]
  repeat' split
  all_goals simp

@[simp] theorem lowIndication_stopLocate (h : Handle) (s : State) :
    (State.stopLocate h s).store.lowIndication = s.store.lowIndication := by
  simp [State.stopLocate]

@[simp] theorem lowIndication_adoptRecord (h : Handle) (r : Record) (s : State) :
    (State.adoptRecord h r s).store.lowIndication = s.store.lowIndication := by
  simp [State.adoptRecord]

@[simp] theorem lowIndication_adopt (h : Handle) (r : Record) (s : State) :
    (State.adopt h r s).store.lowIndication = s.store.lowIndication := by
  simp only [State.adopt]
  repeat' split
  all_goals simp

@[simp] theorem lowIndication_setIlk (p : PosIx) (level : Bool) (s : State) :
    (State.setIlk p level s).store.lowIndication = s.store.lowIndication := by
  simp [State.setIlk]

@[simp] theorem lowIndication_pauseStep (p : PosIx) (s : State) :
    (State.pauseStep p s).store.lowIndication = s.store.lowIndication := by
  simp only [State.pauseStep]
  repeat' split
  all_goals simp

@[simp] theorem lowIndication_resumeStep (p : PosIx) (s : State) :
    (State.resumeStep p s).store.lowIndication = s.store.lowIndication := by
  simp only [State.resumeStep]
  repeat' split
  all_goals simp

@[simp] theorem lowIndication_departureDue (a : Addr) (s : State) :
    (State.departureDue a s).store.lowIndication = s.store.lowIndication := by
  simp [State.departureDue]

@[simp] theorem lowIndication_sendLeave (s : State) :
    (State.sendLeave s).store.lowIndication = s.store.lowIndication := by
  simp [State.sendLeave]

end Sys2Proof.Machine
end

