-- ==== Sys2Proof/Laws/FrameMem.lean ====
section
/-! SUPPORT. Which operations leave the membership unit alone: one lemma per operation, proved in the order the operations are built in. -/

namespace Sys2Proof.Machine

@[simp] theorem mem_ite (c : Prop) [Decidable c] (x y : State) : (if c then x else y).mem = if c then x.mem else y.mem := by
  split <;> rfl

@[simp] theorem mem_foldl {α} (f : State → α → State) (hf : ∀ s a, (f s a).mem = s.mem) (l : List α) (s : State) :
    (l.foldl f s).mem = s.mem := by
  induction l generalizing s with
  | nil => rfl
  | cons a l ih => rw [List.foldl_cons, ih, hf]

@[simp] theorem mem_updRec (h : Handle) (f : Record → Record) (s : State) : (State.updRec h f s).mem = s.mem := by
  simp only [State.updRec]
  repeat' split
  all_goals simp

@[simp] theorem mem_vacateOpt (p : Option PosIx) (st : PosState) (s : State) : (State.vacate? p st s).mem = s.mem := by
  simp only [State.vacate?]
  repeat' split
  all_goals simp

@[simp] theorem mem_post (e : Event) (s : State) : (State.post e s).mem = s.mem := by
  simp only [State.post]
  repeat' split
  all_goals simp

@[simp] theorem mem_postLineState (c : Cause) (s : State) : (State.postLineState c s).mem = s.mem := by
  simp [State.postLineState]

@[simp] theorem mem_ok (d2 d1 d0 : Byte) (s : State) : (State.ok d2 d1 d0 s).mem = s.mem := by
  simp [State.ok]

@[simp] theorem mem_refuse (r : Reason) (d0 : Byte) (s : State) : (State.refuse r d0 s).mem = s.mem := by
  simp [State.refuse]

@[simp] theorem mem_badArgument (code : Byte) (s : State) : (State.badArgument code s).mem = s.mem := by
  simp [State.badArgument]

@[simp] theorem mem_queueFrame (o : Origin) (f : Frame) (s : State) : (State.queueFrame o f s).mem = s.mem := by
  simp only [State.queueFrame]
  repeat' split
  all_goals simp

@[simp] theorem mem_withdrawTx (o : Origin) (s : State) : (State.withdrawTx o s).mem = s.mem := by
  simp only [State.withdrawTx]
  repeat' split
  all_goals simp

@[simp] theorem mem_replaceTx (o : Origin) (f : Frame) (s : State) : (State.replaceTx o f s).mem = s.mem := by
  simp only [State.replaceTx]
  repeat' split
  all_goals simp

@[simp] theorem mem_queueOrReplace (o : Origin) (f : Frame) (s : State) : (State.queueOrReplace o f s).mem = s.mem := by
  simp only [State.queueOrReplace]
  repeat' split
  all_goals simp

@[simp] theorem mem_queueAnswer (f : Frame) (s : State) : (State.queueAnswer f s).mem = s.mem := by
  simp only [State.queueAnswer]
  repeat' split
  all_goals simp

@[simp] theorem mem_withdrawAnswers (cond : Frame → Bool) (s : State) : (State.withdrawAnswers cond s).mem = s.mem := by
  simp only [State.withdrawAnswers]
  apply mem_foldl
  intro s i
  repeat' split
  all_goals simp

@[simp] theorem mem_judgeSlots (s : State) : (State.judgeSlots s).mem = s.mem := by
  simp only [State.judgeSlots]
  repeat' split
  all_goals simp

@[simp] theorem mem_failAttempt (s : State) : (State.failAttempt s).mem = s.mem := by
  simp only [State.failAttempt]
  repeat' split
  all_goals simp

@[simp] theorem mem_countCrcError (s : State) : (State.countCrcError s).mem = s.mem := by
  simp only [State.countCrcError]
  repeat' split
  all_goals simp

@[simp] theorem mem_queueClaim (p : PosIx) (s : State) : (State.queueClaim p s).mem = s.mem := by
  simp [State.queueClaim]

@[simp] theorem mem_askClaim (p : PosIx) (s : State) : (State.askClaim p s).mem = s.mem := by
  simp only [State.askClaim]
  repeat' split
  all_goals simp

@[simp] theorem mem_queueRelease (p : PosIx) (s : State) : (State.queueRelease p s).mem = s.mem := by
  simp [State.queueRelease]

@[simp] theorem mem_giveUpClaim (p : PosIx) (s : State) : (State.giveUpClaim p s).mem = s.mem := by
  simp only [State.giveUpClaim]
  repeat' split
  all_goals simp

@[simp] theorem mem_giveUpClaimOpt (p : Option PosIx) (s : State) : (State.giveUpClaim? p s).mem = s.mem := by
  simp only [State.giveUpClaim?]
  repeat' split
  all_goals simp

@[simp] theorem mem_claimWithdrawn (p : PosIx) (s : State) : (State.claimWithdrawn p s).mem = s.mem := by
  simp only [State.claimWithdrawn]
  repeat' split
  all_goals simp

@[simp] theorem mem_pumpWaits (h : Handle) (ws : List SlotWait) (s : State) : (State.pumpWaits h ws s).mem = s.mem := by
  induction ws generalizing s with
  | nil => simp [State.pumpWaits]
  | cons w ws ih => simp only [State.pumpWaits]; split <;> simp [ih]

@[simp] theorem mem_pumpSlot (h : Handle) (s : State) : (State.pumpSlot h s).mem = s.mem := by
  simp only [State.pumpSlot]
  repeat' split
  all_goals simp

@[simp] theorem mem_sendSlot (h : Handle) (w : SlotWait) (s : State) : (State.sendSlot h w s).mem = s.mem := by
  simp [State.sendSlot]

@[simp] theorem mem_dropWaits (h : Handle) (w : SlotWait) (s : State) : (State.dropWaits h w s).mem = s.mem := by
  simp [State.dropWaits]

@[simp] theorem mem_withdrawSlot (h : Handle) (k : FrameKind) (s : State) : (State.withdrawSlot h k s).mem = s.mem := by
  simp only [State.withdrawSlot]
  repeat' split
  all_goals simp

@[simp] theorem mem_roundFrom (h : Handle) (k : Nat) (s : State) : (State.roundFrom h k s).mem = s.mem := by
  simp only [State.roundFrom]
  repeat' split
  all_goals simp

@[simp] theorem mem_startRound (h : Handle) (s : State) : (State.startRound h s).mem = s.mem := by
  simp only [State.startRound]
  repeat' split
  all_goals simp

@[simp] theorem mem_withdrawBooks (h : Handle) (s : State) : (State.withdrawBooks h s).mem = s.mem := by
  simp [State.withdrawBooks]

@[simp] theorem mem_failCandidate (h : Handle) (s : State) : (State.failCandidate h s).mem = s.mem := by
  simp only [State.failCandidate]
  repeat' split
  all_goals simp

@[simp] theorem mem_sendRenewal (h : Handle) (s : State) : (State.sendRenewal h s).mem = s.mem := by
  simp only [State.sendRenewal]
  repeat' split
  all_goals simp

@[simp] theorem mem_endBooking (h : Handle) (s : State) : (State.endBooking h s).mem = s.mem := by
  simp only [State.endBooking]
  repeat' split
  all_goals simp

@[simp] theorem mem_startTransfer (h : Handle) (s : State) : (State.startTransfer h s).mem = s.mem := by
  simp only [State.startTransfer]
  repeat' split
  all_goals simp

@[simp] theorem mem_stopTransfer (h : Handle) (s : State) : (State.stopTransfer h s).mem = s.mem := by
  simp [State.stopTransfer]

@[simp] theorem mem_placeOne (s : State) : (State.placeOne s).mem = s.mem := by
  simp only [State.placeOne]
  repeat' split
  all_goals simp

@[simp] theorem mem_placement (s : State) : (State.placement s).mem = s.mem := by
  exact mem_foldl _ (fun s _ => mem_placeOne s) positions s

@[simp] theorem mem_stopPositionOpt (p : Option PosIx) (s : State) : (State.stopPosition? p s).mem = s.mem := by
  simp only [State.stopPosition?]
  repeat' split
  all_goals simp

@[simp] theorem mem_enterHeld (h : Handle) (k : DevKind) (v : BitVec 24) (leaves : Bool) (s : State) :
    (State.enterHeld h k v leaves s).mem = s.mem := by
  simp only [State.enterHeld]
  repeat' split
  all_goals simp

@[simp] theorem mem_checkGap (h : Handle) (s : State) : (State.checkGap h s).mem = s.mem := by
  simp only [State.checkGap]
  repeat' split
  all_goals simp

@[simp] theorem mem_judgeReady (h : Handle) (s : State) : (State.judgeReady h s).mem = s.mem := by
  simp only [State.judgeReady]
  repeat' split
  all_goals simp

@[simp] theorem mem_enterChecked (h : Handle) (st : RecState) (s : State) :
    (State.enterChecked h st s).mem = s.mem := by
  simp [State.enterChecked]

@[simp] theorem mem_enterLoaded (h : Handle) (s : State) : (State.enterLoaded h s).mem = s.mem := by
  simp [State.enterLoaded]

@[simp] theorem mem_enterEnded (h : Handle) (s : State) : (State.enterEnded h s).mem = s.mem := by
  simp only [State.enterEnded]
  repeat' split
  all_goals simp

@[simp] theorem mem_startStep (p : PosIx) (h : Handle) (s : State) : (State.startStep p h s).mem = s.mem := by
  simp only [State.startStep]
  repeat' split
  all_goals simp

@[simp] theorem mem_tellGrant (p : PosIx) (s : State) : (State.tellGrant p s).mem = s.mem := by
  simp only [State.tellGrant]
  repeat' split
  all_goals simp

@[simp] theorem mem_endStep (p : PosIx) (h : Handle) (s : State) : (State.endStep p h s).mem = s.mem := by
  simp only [State.endStep]
  repeat' split
  all_goals simp

@[simp] theorem mem_stepFault (p : PosIx) (h : Handle) (k : DevKind) (v : BitVec 24) (s : State) :
    (State.stepFault p h k v s).mem = s.mem := by
  simp [State.stepFault]

@[simp] theorem mem_dropBooking (h : Handle) (s : State) : (State.dropBooking h s).mem = s.mem := by
  simp only [State.dropBooking]
  repeat' split
  all_goals simp

@[simp] theorem mem_tellEntry (s : State) (e : ClaimEntry) : (State.tellEntry s e).mem = s.mem := by
  simp only [State.tellEntry]
  repeat' split
  all_goals simp

@[simp] theorem mem_tellGrants (l : List ClaimEntry) (s : State) : (State.tellGrants l s).mem = s.mem := by
  exact mem_foldl _ mem_tellEntry l s

@[simp] theorem mem_reportOversize (p : PosIx) (b : BudgetIx) (s : State) :
    (State.reportOversize p b s).mem = s.mem := by
  simp only [State.reportOversize]
  repeat' split
  all_goals simp

@[simp] theorem mem_claimStands (p : PosIx) (st : ClaimState) (s : State) : (State.claimStands p st s).mem = s.mem := by
  simp only [State.claimStands]
  repeat' split
  all_goals simp

@[simp] theorem mem_ownClaim (payload : List Byte) (c : ClaimOutcome) (s : State) :
    (State.ownClaim payload c s).mem = s.mem := by
  simp only [State.ownClaim]
  repeat' split
  all_goals simp

@[simp] theorem mem_ownRelease (payload : List Byte) (s : State) : (State.ownRelease payload s).mem = s.mem := by
  simp only [State.ownRelease]
  repeat' split
  all_goals simp

@[simp] theorem mem_ownRemoved (caps : Triple) (s : State) (e : ClaimEntry) :
    (State.ownRemoved caps s e).mem = s.mem := by
  simp only [State.ownRemoved]
  repeat' split
  all_goals simp

@[simp] theorem mem_takeReplicated (f : BufferedFrame) (own : Bool) (s : State) :
    (State.takeReplicated f own s).mem = s.mem := by
  simp only [State.takeReplicated]
  repeat' split
  all_goals simp

@[simp] theorem mem_setStatus (cond : Booking → Bool) (st : BookingStatus) (s : State) :
    (State.setStatus cond st s).mem = s.mem := by
  simp [State.setStatus]

@[simp] theorem mem_deleteRecord (h : Handle) (s : State) : (State.deleteRecord h s).mem = s.mem := by
  simp [State.deleteRecord]

@[simp] theorem mem_answerRefused (a : Addr) (t : Tag) (r : Reason) (s : State) :
    (State.answerRefused a t r s).mem = s.mem := by
  simp [State.answerRefused]

@[simp] theorem mem_reserve (a : Addr) (q : BookRequest) (p : PosIx) (s : State) :
    (State.reserve a q p s).mem = s.mem := by
  simp only [State.reserve]
  split
  · rfl
  · rename_i h t e
    have ht : t.mem = s.mem := by
      simp only [State.takeSlot] at e
      split at e
      · simp only [Option.some.injEq, Prod.mk.injEq] at e
        rw [← e.2]
        try rfl
      · contradiction
    simp [ht]

@[simp] theorem mem_renewEntry (a : Addr) (q : BookRequest) (b : Booking) (s : State) :
    (State.renewEntry a q b s).mem = s.mem := by
  simp [State.renewEntry]

@[simp] theorem mem_takeBook (a : Addr) (q : BookRequest) (s : State) : (State.takeBook a q s).mem = s.mem := by
  simp only [State.takeBook]
  repeat' split
  all_goals simp

@[simp] theorem mem_completeImage (b : Booking) (im : List Byte) (s : State) :
    (State.completeImage b im s).mem = s.mem := by
  simp only [State.completeImage]
  repeat' split
  all_goals simp

@[simp] theorem mem_takePart (b : Booking) (a : Assembly) (s : State) : (State.takePart b a s).mem = s.mem := by
  simp only [State.takePart]
  repeat' split
  all_goals simp

@[simp] theorem mem_rejectOpen (b : Booking) (s : State) : (State.rejectOpen b s).mem = s.mem := by
  simp only [State.rejectOpen]
  repeat' split
  all_goals simp

@[simp] theorem mem_takeFirstPart (a : Addr) (c : CarryPart) (s : State) : (State.takeFirstPart a c s).mem = s.mem := by
  simp only [State.takeFirstPart]
  repeat' split
  all_goals simp

@[simp] theorem mem_takeLaterPart (a : Addr) (c : CarryPart) (s : State) : (State.takeLaterPart a c s).mem = s.mem := by
  simp only [State.takeLaterPart]
  repeat' split
  all_goals simp

@[simp] theorem mem_takeCarry (a : Addr) (c : CarryPart) (s : State) : (State.takeCarry a c s).mem = s.mem := by
  simp only [State.takeCarry]
  repeat' split
  all_goals simp

@[simp] theorem mem_receiveRecord (f : Frame) (s : State) : (State.receiveRecord f s).mem = s.mem := by
  simp only [State.receiveRecord]
  repeat' split
  all_goals simp

@[simp] theorem mem_takeBooked (a : Addr) (t : Tag) (p : PosIx) (s : State) :
    (State.takeBooked a t p s).mem = s.mem := by
  simp only [State.takeBooked]
  repeat' split
  all_goals simp

@[simp] theorem mem_takeRefused (a : Addr) (t : Tag) (s : State) : (State.takeRefused a t s).mem = s.mem := by
  simp only [State.takeRefused]
  repeat' split
  all_goals simp

@[simp] theorem mem_handOver (a : Addr) (t : Tag) (s : State) : (State.handOver a t s).mem = s.mem := by
  simp only [State.handOver]
  repeat' split
  all_goals simp

@[simp] theorem mem_rejected (a : Addr) (t : Tag) (reason : Byte) (s : State) :
    (State.rejected a t reason s).mem = s.mem := by
  simp only [State.rejected]
  repeat' split
  all_goals simp

@[simp] theorem mem_found (a : Addr) (t : Tag) (s : State) : (State.found a t s).mem = s.mem := by
  simp only [State.found]
  repeat' split
  all_goals simp

@[simp] theorem mem_answerLocate (a : Addr) (t : Tag) (s : State) : (State.answerLocate a t s).mem = s.mem := by
  simp only [State.answerLocate]
  repeat' split
  all_goals simp

@[simp] theorem mem_cancelBooking (a : Addr) (t : Tag) (s : State) : (State.cancelBooking a t s).mem = s.mem := by
  simp only [State.cancelBooking]
  repeat' split
  all_goals simp

@[simp] theorem mem_departRecord (a : Addr) (s : State) (h : Handle) : (State.departRecord a s h).mem = s.mem := by
  simp only [State.departRecord]
  repeat' split
  all_goals simp

@[simp] theorem mem_clearOutbound (s : State) (p : PosIx) : (State.clearOutbound s p).mem = s.mem := by
  simp only [State.clearOutbound]
  repeat' split
  all_goals simp

@[simp] theorem mem_postPeerJoined (a : Addr) (s : State) : (State.postPeerJoined a s).mem = s.mem := by
  simp [State.postPeerJoined]

@[simp] theorem mem_restartRound (a : Addr) (s : State) (h : Handle) : (State.restartRound a s h).mem = s.mem := by
  simp only [State.restartRound]
  repeat' split
  all_goals simp

@[simp] theorem mem_restartRounds (a : Addr) (q : PresenceReport) (s : State) :
    (State.restartRounds a q s).mem = s.mem := by
  simp only [State.restartRounds]
  repeat' split
  all_goals simp

@[simp] theorem mem_withdrawUpkeep (kinds : List FrameKind) (s : State) :
    (State.withdrawUpkeep kinds s).mem = s.mem := by
  simp only [State.withdrawUpkeep]
  repeat' split
  all_goals simp

@[simp] theorem mem_joinedRecord (s : State) (h : Handle) : (State.joinedRecord s h).mem = s.mem := by
  simp only [State.joinedRecord]
  repeat' split
  all_goals simp

@[simp] theorem mem_joinedPosition (s : State) (p : PosIx) : (State.joinedPosition s p).mem = s.mem := by
  simp only [State.joinedPosition]
  repeat' split
  all_goals simp

@[simp] theorem mem_lostPosition (s : State) (p : PosIx) : (State.lostPosition s p).mem = s.mem := by
  simp only [State.lostPosition]
  repeat' split
  all_goals simp

@[simp] theorem mem_beginTx (s : State) : (State.beginTx s).mem = s.mem := by
  simp only [State.beginTx]
  repeat' split
  all_goals simp

@[simp] theorem mem_countVoid (s : State) : (State.countVoid s).mem = s.mem := by
  simp only [State.countVoid]
  repeat' split
  all_goals simp

@[simp] theorem mem_takenSaved (own : OwnTx) (s : State) : (State.takenSaved own s).mem = s.mem := by
  simp only [State.takenSaved]
  repeat' split
  all_goals simp

@[simp] theorem mem_bookAppeared (own : OwnTx) (dest : BitVec 5) (q : BookRequest) (s : State) :
    (State.bookAppeared own dest q s).mem = s.mem := by
  simp only [State.bookAppeared]
  repeat' split
  all_goals simp

@[simp] theorem mem_onBook (own : OwnTx) (sender : Addr) (dest : BitVec 5) (payload : List Byte) (s : State) :
    (State.onBook own sender dest payload s).mem = s.mem := by
  simp only [State.onBook]
  repeat' split
  all_goals simp

@[simp] theorem mem_bookedAppeared (dest : BitVec 5) (t : Tag) (s : State) :
    (State.bookedAppeared dest t s).mem = s.mem := by
  simp [State.bookedAppeared]

@[simp] theorem mem_onBooked (own : OwnTx) (sender : Addr) (dest : BitVec 5) (payload : List Byte) (s : State) :
    (State.onBooked own sender dest payload s).mem = s.mem := by
  simp only [State.onBooked]
  repeat' split
  all_goals simp

@[simp] theorem mem_onRefused (sender : Addr) (dest : BitVec 5) (payload : List Byte) (s : State) :
    (State.onRefused sender dest payload s).mem = s.mem := by
  simp only [State.onRefused]
  repeat' split
  all_goals simp

@[simp] theorem mem_onFound (sender : Addr) (dest : BitVec 5) (payload : List Byte) (s : State) :
    (State.onFound sender dest payload s).mem = s.mem := by
  simp only [State.onFound]
  repeat' split
  all_goals simp

@[simp] theorem mem_locateAppeared (t : Tag) (s : State) : (State.locateAppeared t s).mem = s.mem := by
  simp only [State.locateAppeared]
  repeat' split
  all_goals simp

@[simp] theorem mem_onLocate (own : OwnTx) (sender : Addr) (payload : List Byte) (s : State) :
    (State.onLocate own sender payload s).mem = s.mem := by
  simp only [State.onLocate]
  repeat' split
  all_goals simp

@[simp] theorem mem_carryAppeared (own : OwnTx) (index : Nat) (s : State) :
    (State.carryAppeared own index s).mem = s.mem := by
  simp only [State.carryAppeared]
  repeat' split
  all_goals simp

@[simp] theorem mem_onCarry (own : OwnTx) (sender : Addr) (dest : BitVec 5) (payload : List Byte) (s : State) :
    (State.onCarry own sender dest payload s).mem = s.mem := by
  simp only [State.onCarry]
  repeat' split
  all_goals simp

@[simp] theorem mem_onTaken (sender : Addr) (dest : BitVec 5) (payload : List Byte) (s : State) :
    (State.onTaken sender dest payload s).mem = s.mem := by
  simp only [State.onTaken]
  repeat' split
  all_goals simp

@[simp] theorem mem_countOne (p : PosIx) (h : Handle) (r : Record) (e : StepEntry) (s : State) :
    (State.countOne p h r e s).mem = s.mem := by
  simp only [State.countOne]
  repeat' split
  all_goals simp

@[simp] theorem mem_runSecond (p : PosIx) (s : State) : (State.runSecond p s).mem = s.mem := by
  simp only [State.runSecond]
  repeat' split
  all_goals simp

@[simp] theorem mem_pauseSecond (p : PosIx) (s : State) : (State.pauseSecond p s).mem = s.mem := by
  simp only [State.pauseSecond]
  repeat' split
  all_goals simp

@[simp] theorem mem_lampSilent (p : PosIx) (s : State) : (State.lampSilent p s).mem = s.mem := by
  simp only [State.lampSilent]
  repeat' split
  all_goals simp

@[simp] theorem mem_doseShort (p : PosIx) (s : State) : (State.doseShort p s).mem = s.mem := by
  simp only [State.doseShort]
  repeat' split
  all_goals simp

@[simp] theorem mem_dosePulse (p : PosIx) (s : State) : (State.dosePulse p s).mem = s.mem := by
  simp only [State.dosePulse]
  repeat' split
  all_goals simp

@[simp] theorem mem_gapSecond (h : Handle) (s : State) : (State.gapSecond h s).mem = s.mem := by
  simp only [State.gapSecond]
  repeat' split
  all_goals simp

@[simp] theorem mem_answerExpired (h : Handle) (s : State) : (State.answerExpired h s).mem = s.mem := by
  simp only [State.answerExpired]
  repeat' split
  all_goals simp

@[simp] theorem mem_partGapExpired (p : PosIx) (s : State) : (State.partGapExpired p s).mem = s.mem := by
  simp only [State.partGapExpired]
  repeat' split
  all_goals simp

@[simp] theorem mem_handOffExpired (h : Handle) (s : State) : (State.handOffExpired h s).mem = s.mem := by
  simp only [State.handOffExpired]
  repeat' split
  all_goals simp

@[simp] theorem mem_locateExpired (h : Handle) (s : State) : (State.locateExpired h s).mem = s.mem := by
  simp only [State.locateExpired]
  repeat' split
  all_goals simp

@[simp] theorem mem_departureExpired (a : Addr) (s : State) : (State.departureExpired a s).mem = s.mem := by
  simp only [State.departureExpired]
  repeat' split
  all_goals simp

@[simp] theorem mem_advancePos (s : State) (p : PosIx) : (State.advancePos s p).mem = s.mem := by
  simp only [State.advancePos]
  repeat' split
  all_goals simp

@[simp] theorem mem_firePos (s : State) (p : PosIx) : (State.firePos s p).mem = s.mem := by
  simp only [State.firePos]
  repeat' split
  all_goals simp

@[simp] theorem mem_fireRec (s : State) (h : Handle) : (State.fireRec s h).mem = s.mem := by
  simp only [State.fireRec]
  repeat' split
  all_goals simp

@[simp] theorem mem_fireDeparture (s : State) (a : Addr) : (State.fireDeparture s a).mem = s.mem := by
  simp only [State.fireDeparture]
  repeat' split
  all_goals simp

@[simp] theorem mem_pauseForPower (s : State) (p : PosIx) : (State.pauseForPower s p).mem = s.mem := by
  simp only [State.pauseForPower]
  repeat' split
  all_goals simp

@[simp] theorem mem_beginWrite (s : State) : (State.beginWrite s).mem = s.mem := by
  simp only [State.beginWrite]
  repeat' split
  all_goals simp

@[simp] theorem mem_restorePosition (im : List Byte) (s : State) (p : PosIx) :
    (State.restorePosition im s p).mem = s.mem := by
  simp only [State.restorePosition]
  repeat' split
  all_goals simp

@[simp] theorem mem_cleanLink (s : State) (h : Handle) : (State.cleanLink s h).mem = s.mem := by
  simp [State.cleanLink]

@[simp] theorem mem_restoreArrival (s : State) (h : Handle) : (State.restoreArrival s h).mem = s.mem := by
  simp only [State.restoreArrival]
  repeat' split
  all_goals simp

@[simp] theorem mem_postRestoreHeld (s : State) (x : Handle × Nat) : (State.postRestoreHeld s x).mem = s.mem := by
  simp only [State.postRestoreHeld]
  repeat' split
  all_goals simp

@[simp] theorem mem_rebuildFreeList (s : State) : (State.rebuildFreeList s).mem = s.mem := by
  simp [State.rebuildFreeList]

@[simp] theorem mem_postRestored (n : Nat) (s : State) : (State.postRestored n s).mem = s.mem := by
  simp [State.postRestored]

@[simp] theorem mem_openPositions (s : State) : (State.openPositions s).mem = s.mem := by
  simp [State.openPositions]

@[simp] theorem mem_configWrite (item : Byte) (v : BitVec 16) (s : State) :
    (State.configWrite item v s).mem = s.mem := by
  simp only [State.configWrite]
  repeat' split
  all_goals simp

@[simp] theorem mem_plateArrives (p : PosIx) (h : Handle) (r : Record) (s : State) :
    (State.plateArrives p h r s).mem = s.mem := by
  simp only [State.plateArrives]
  repeat' split
  all_goals simp

@[simp] theorem mem_arrived (p : PosIx) (seq : BitVec 16) (s : State) : (State.arrived p seq s).mem = s.mem := by
  simp only [State.arrived]
  repeat' split
  all_goals simp

@[simp] theorem mem_retire (p : PosIx) (h : Handle) (r : Record) (s : State) : (State.retire p h r s).mem = s.mem := by
  simp [State.retire]

@[simp] theorem mem_plateTaken (p : PosIx) (h : Handle) (r : Record) (s : State) :
    (State.plateTaken p h r s).mem = s.mem := by
  simp only [State.plateTaken]
  repeat' split
  all_goals simp

@[simp] theorem mem_removed (p : PosIx) (s : State) : (State.removed p s).mem = s.mem := by
  simp only [State.removed]
  repeat' split
  all_goals simp

@[simp] theorem mem_holdRecord (h : Handle) (r : Record) (s : State) : (State.holdRecord h r s).mem = s.mem := by
  simp only [State.holdRecord]
  repeat' split
  all_goals simp

@[simp] theorem mem_rushRecord (h : Handle) (r : Record) (s : State) : (State.rushRecord h r s).mem = s.mem := by
  simp only [State.rushRecord]
  repeat' split
  all_goals simp

@[simp] theorem mem_returnRecord (h : Handle) (r : Record) (st : RecState) (s : State) :
    (State.returnRecord h r st s).mem = s.mem := by
  simp only [State.returnRecord]
  repeat' split
  all_goals simp

@[simp] theorem mem_wrongCode (s : State) : (State.wrongCode s).mem = s.mem := by
  simp [State.wrongCode]

@[simp] theorem mem_concede (h : Handle) (r : Record) (s : State) : (State.concede h r s).mem = s.mem := by
  simp only [State.concede]
  repeat' split
  all_goals simp

@[simp] theorem mem_scrapPosition (p : Option PosIx) (s : State) : (State.scrapPosition p s).mem = s.mem := by
  simp only [State.scrapPosition]
  repeat' split
  all_goals simp

@[simp] theorem mem_stopLocate (h : Handle) (s : State) : (State.stopLocate h s).mem = s.mem := by
  simp [State.stopLocate]

@[simp] theorem mem_scrapRecord (h : Handle) (r : Record) (s : State) : (State.scrapRecord h r s).mem = s.mem := by
  simp only [State.scrapRecord]
  repeat' split
  all_goals simp

@[simp] theorem mem_adoptRecord (h : Handle) (r : Record) (s : State) : (State.adoptRecord h r s).mem = s.mem := by
  simp [State.adoptRecord]

@[simp] theorem mem_adopt (h : Handle) (r : Record) (s : State) : (State.adopt h r s).mem = s.mem := by
  simp only [State.adopt]
  repeat' split
  all_goals simp

@[simp] theorem mem_pauseStep (p : PosIx) (s : State) : (State.pauseStep p s).mem = s.mem := by
  simp only [State.pauseStep]
  repeat' split
  all_goals simp

@[simp] theorem mem_resumeStep (p : PosIx) (s : State) : (State.resumeStep p s).mem = s.mem := by
  simp only [State.resumeStep]
  repeat' split
  all_goals simp

end Sys2Proof.Machine
end

