-- ==== Sys2Proof/Laws/FrameOrdinaryQueue.lean ====
section
/-! SUPPORT. Which operations leave the ordinary group of the arrival queue alone: one lemma per operation, proved in the order the operations are built in. -/

namespace Sys2Proof.Machine

@[simp] theorem ordinaryQueue_ite (c : Prop) [Decidable c] (x y : State) : (if c then x else y).store.ordinaryQueue = if c then x.store.ordinaryQueue else y.store.ordinaryQueue := by
  split <;> rfl

@[simp] theorem ordinaryQueue_foldl {α} (f : State → α → State) (hf : ∀ s a, (f s a).store.ordinaryQueue = s.store.ordinaryQueue) (l : List α) (s : State) :
    (l.foldl f s).store.ordinaryQueue = s.store.ordinaryQueue := by
  induction l generalizing s with
  | nil => rfl
  | cons a l ih => rw [List.foldl_cons, ih, hf]

@[simp] theorem ordinaryQueue_setSlot (h : Handle) (x : Slot) (s : State) :
    (State.setSlot h x s).store.ordinaryQueue = s.store.ordinaryQueue := by
  simp [State.setSlot]

@[simp] theorem ordinaryQueue_setRec (h : Handle) (r : Record) (s : State) :
    (State.setRec h r s).store.ordinaryQueue = s.store.ordinaryQueue := by
  simp [State.setRec]

@[simp] theorem ordinaryQueue_updRec (h : Handle) (f : Record → Record) (s : State) :
    (State.updRec h f s).store.ordinaryQueue = s.store.ordinaryQueue := by
  simp only [State.updRec]
  repeat' split
  all_goals simp

@[simp] theorem ordinaryQueue_setWaits (h : Handle) (ws : List SlotWait) (s : State) :
    (State.setWaits h ws s).store.ordinaryQueue = s.store.ordinaryQueue := by
  simp [State.setWaits]

@[simp] theorem ordinaryQueue_freeSlot (h : Handle) (s : State) :
    (State.freeSlot h s).store.ordinaryQueue = s.store.ordinaryQueue := by
  simp [State.freeSlot]

@[simp] theorem ordinaryQueue_updPos (p : PosIx) (f : Position → Position) (s : State) :
    (State.updPos p f s).store.ordinaryQueue = s.store.ordinaryQueue := by
  simp [State.updPos]

@[simp] theorem ordinaryQueue_vacate (p : PosIx) (st : PosState) (s : State) :
    (State.vacate p st s).store.ordinaryQueue = s.store.ordinaryQueue := by
  simp [State.vacate]

@[simp] theorem ordinaryQueue_vacateOpt (p : Option PosIx) (st : PosState) (s : State) :
    (State.vacate? p st s).store.ordinaryQueue = s.store.ordinaryQueue := by
  simp only [State.vacate?]
  repeat' split
  all_goals simp

@[simp] theorem ordinaryQueue_alarm (f : Alarms → Alarms) (s : State) :
    (State.alarm f s).store.ordinaryQueue = s.store.ordinaryQueue := by
  simp [State.alarm]

@[simp] theorem ordinaryQueue_post (e : Event) (s : State) :
    (State.post e s).store.ordinaryQueue = s.store.ordinaryQueue := by
  simp only [State.post]
  repeat' split
  all_goals simp

@[simp] theorem ordinaryQueue_postLineState (c : Cause) (s : State) :
    (State.postLineState c s).store.ordinaryQueue = s.store.ordinaryQueue := by
  simp [State.postLineState]

@[simp] theorem ordinaryQueue_respond (st : Status) (data : BitVec 24) (s : State) :
    (State.respond st data s).store.ordinaryQueue = s.store.ordinaryQueue := by
  simp [State.respond]

@[simp] theorem ordinaryQueue_ok (d2 d1 d0 : Byte) (s : State) :
    (State.ok d2 d1 d0 s).store.ordinaryQueue = s.store.ordinaryQueue := by
  simp [State.ok]

@[simp] theorem ordinaryQueue_refuse (r : Reason) (d0 : Byte) (s : State) :
    (State.refuse r d0 s).store.ordinaryQueue = s.store.ordinaryQueue := by
  simp [State.refuse]

@[simp] theorem ordinaryQueue_badArgument (code : Byte) (s : State) :
    (State.badArgument code s).store.ordinaryQueue = s.store.ordinaryQueue := by
  simp [State.badArgument]

@[simp] theorem ordinaryQueue_deliver (s : State) : (State.deliver s).store.ordinaryQueue = s.store.ordinaryQueue := by
  simp [State.deliver]

@[simp] theorem ordinaryQueue_stage (bs : List Byte) (s : State) :
    (State.stage bs s).store.ordinaryQueue = s.store.ordinaryQueue := by
  simp [State.stage]

@[simp] theorem ordinaryQueue_queueFrame (o : Origin) (f : Frame) (s : State) :
    (State.queueFrame o f s).store.ordinaryQueue = s.store.ordinaryQueue := by
  simp only [State.queueFrame]
  repeat' split
  all_goals simp

@[simp] theorem ordinaryQueue_setTx (l : List TxEntry) (s : State) :
    (State.setTx l s).store.ordinaryQueue = s.store.ordinaryQueue := by
  simp [State.setTx]

@[simp] theorem ordinaryQueue_removeTx (o : Origin) (s : State) :
    (State.removeTx o s).store.ordinaryQueue = s.store.ordinaryQueue := by
  simp [State.removeTx]

@[simp] theorem ordinaryQueue_updTx (o : Origin) (f : TxEntry → TxEntry) (s : State) :
    (State.updTx o f s).store.ordinaryQueue = s.store.ordinaryQueue := by
  simp [State.updTx]

@[simp] theorem ordinaryQueue_withdrawTx (o : Origin) (s : State) :
    (State.withdrawTx o s).store.ordinaryQueue = s.store.ordinaryQueue := by
  simp only [State.withdrawTx]
  repeat' split
  all_goals simp

@[simp] theorem ordinaryQueue_replaceTx (o : Origin) (f : Frame) (s : State) :
    (State.replaceTx o f s).store.ordinaryQueue = s.store.ordinaryQueue := by
  simp only [State.replaceTx]
  repeat' split
  all_goals simp

@[simp] theorem ordinaryQueue_queueOrReplace (o : Origin) (f : Frame) (s : State) :
    (State.queueOrReplace o f s).store.ordinaryQueue = s.store.ordinaryQueue := by
  simp only [State.queueOrReplace]
  repeat' split
  all_goals simp

@[simp] theorem ordinaryQueue_clearTx (s : State) : (State.clearTx s).store.ordinaryQueue = s.store.ordinaryQueue := by
  simp [State.clearTx]

@[simp] theorem ordinaryQueue_queueAnswer (f : Frame) (s : State) :
    (State.queueAnswer f s).store.ordinaryQueue = s.store.ordinaryQueue := by
  simp only [State.queueAnswer]
  repeat' split
  all_goals simp

@[simp] theorem ordinaryQueue_withdrawAnswers (cond : Frame → Bool) (s : State) :
    (State.withdrawAnswers cond s).store.ordinaryQueue = s.store.ordinaryQueue := by
  simp only [State.withdrawAnswers]
  apply ordinaryQueue_foldl
  intro s i
  repeat' split
  all_goals simp

@[simp] theorem ordinaryQueue_judgeSlots (s : State) :
    (State.judgeSlots s).store.ordinaryQueue = s.store.ordinaryQueue := by
  simp only [State.judgeSlots]
  repeat' split
  all_goals simp

@[simp] theorem ordinaryQueue_failAttempt (s : State) :
    (State.failAttempt s).store.ordinaryQueue = s.store.ordinaryQueue := by
  simp only [State.failAttempt]
  repeat' split
  all_goals simp

@[simp] theorem ordinaryQueue_countCrcError (s : State) :
    (State.countCrcError s).store.ordinaryQueue = s.store.ordinaryQueue := by
  simp only [State.countCrcError]
  repeat' split
  all_goals simp

@[simp] theorem ordinaryQueue_setClaim (p : PosIx) (c : ClaimState) (s : State) :
    (State.setClaim p c s).store.ordinaryQueue = s.store.ordinaryQueue := by
  simp [State.setClaim]

@[simp] theorem ordinaryQueue_setRemembered (p : PosIx) (b : Bool) (s : State) :
    (State.setRemembered p b s).store.ordinaryQueue = s.store.ordinaryQueue := by
  simp [State.setRemembered]

@[simp] theorem ordinaryQueue_queueClaim (p : PosIx) (s : State) :
    (State.queueClaim p s).store.ordinaryQueue = s.store.ordinaryQueue := by
  simp [State.queueClaim]

@[simp] theorem ordinaryQueue_askClaim (p : PosIx) (s : State) :
    (State.askClaim p s).store.ordinaryQueue = s.store.ordinaryQueue := by
  simp only [State.askClaim]
  repeat' split
  all_goals simp

@[simp] theorem ordinaryQueue_queueRelease (p : PosIx) (s : State) :
    (State.queueRelease p s).store.ordinaryQueue = s.store.ordinaryQueue := by
  simp [State.queueRelease]

@[simp] theorem ordinaryQueue_giveUpClaim (p : PosIx) (s : State) :
    (State.giveUpClaim p s).store.ordinaryQueue = s.store.ordinaryQueue := by
  simp only [State.giveUpClaim]
  repeat' split
  all_goals simp

@[simp] theorem ordinaryQueue_giveUpClaimOpt (p : Option PosIx) (s : State) :
    (State.giveUpClaim? p s).store.ordinaryQueue = s.store.ordinaryQueue := by
  simp only [State.giveUpClaim?]
  repeat' split
  all_goals simp

@[simp] theorem ordinaryQueue_claimWithdrawn (p : PosIx) (s : State) :
    (State.claimWithdrawn p s).store.ordinaryQueue = s.store.ordinaryQueue := by
  simp only [State.claimWithdrawn]
  repeat' split
  all_goals simp

@[simp] theorem ordinaryQueue_dropClaims (s : State) :
    (State.dropClaims s).store.ordinaryQueue = s.store.ordinaryQueue := by
  simp [State.dropClaims]

@[simp] theorem ordinaryQueue_pumpWaits (h : Handle) (ws : List SlotWait) (s : State) :
    (State.pumpWaits h ws s).store.ordinaryQueue = s.store.ordinaryQueue := by
  induction ws generalizing s with
  | nil => simp [State.pumpWaits]
  | cons w ws ih => simp only [State.pumpWaits]; split <;> simp [ih]

@[simp] theorem ordinaryQueue_pumpSlot (h : Handle) (s : State) :
    (State.pumpSlot h s).store.ordinaryQueue = s.store.ordinaryQueue := by
  simp only [State.pumpSlot]
  repeat' split
  all_goals simp

@[simp] theorem ordinaryQueue_sendSlot (h : Handle) (w : SlotWait) (s : State) :
    (State.sendSlot h w s).store.ordinaryQueue = s.store.ordinaryQueue := by
  simp [State.sendSlot]

@[simp] theorem ordinaryQueue_dropWaits (h : Handle) (w : SlotWait) (s : State) :
    (State.dropWaits h w s).store.ordinaryQueue = s.store.ordinaryQueue := by
  simp [State.dropWaits]

@[simp] theorem ordinaryQueue_withdrawSlot (h : Handle) (k : FrameKind) (s : State) :
    (State.withdrawSlot h k s).store.ordinaryQueue = s.store.ordinaryQueue := by
  simp only [State.withdrawSlot]
  repeat' split
  all_goals simp

@[simp] theorem ordinaryQueue_roundFrom (h : Handle) (k : Nat) (s : State) :
    (State.roundFrom h k s).store.ordinaryQueue = s.store.ordinaryQueue := by
  simp only [State.roundFrom]
  repeat' split
  all_goals simp

@[simp] theorem ordinaryQueue_startRound (h : Handle) (s : State) :
    (State.startRound h s).store.ordinaryQueue = s.store.ordinaryQueue := by
  simp only [State.startRound]
  repeat' split
  all_goals simp

@[simp] theorem ordinaryQueue_withdrawBooks (h : Handle) (s : State) :
    (State.withdrawBooks h s).store.ordinaryQueue = s.store.ordinaryQueue := by
  simp [State.withdrawBooks]

@[simp] theorem ordinaryQueue_failCandidate (h : Handle) (s : State) :
    (State.failCandidate h s).store.ordinaryQueue = s.store.ordinaryQueue := by
  simp only [State.failCandidate]
  repeat' split
  all_goals simp

@[simp] theorem ordinaryQueue_sendRenewal (h : Handle) (s : State) :
    (State.sendRenewal h s).store.ordinaryQueue = s.store.ordinaryQueue := by
  simp only [State.sendRenewal]
  repeat' split
  all_goals simp

@[simp] theorem ordinaryQueue_endBooking (h : Handle) (s : State) :
    (State.endBooking h s).store.ordinaryQueue = s.store.ordinaryQueue := by
  simp only [State.endBooking]
  repeat' split
  all_goals simp

@[simp] theorem ordinaryQueue_startTransfer (h : Handle) (s : State) :
    (State.startTransfer h s).store.ordinaryQueue = s.store.ordinaryQueue := by
  simp only [State.startTransfer]
  repeat' split
  all_goals simp

@[simp] theorem ordinaryQueue_stopTransfer (h : Handle) (s : State) :
    (State.stopTransfer h s).store.ordinaryQueue = s.store.ordinaryQueue := by
  simp [State.stopTransfer]

@[simp] theorem ordinaryQueue_stopPositionOpt (p : Option PosIx) (s : State) :
    (State.stopPosition? p s).store.ordinaryQueue = s.store.ordinaryQueue := by
  simp only [State.stopPosition?]
  repeat' split
  all_goals simp

@[simp] theorem ordinaryQueue_judgeReady (h : Handle) (s : State) :
    (State.judgeReady h s).store.ordinaryQueue = s.store.ordinaryQueue := by
  simp only [State.judgeReady]
  repeat' split
  all_goals simp

@[simp] theorem ordinaryQueue_startStep (p : PosIx) (h : Handle) (s : State) :
    (State.startStep p h s).store.ordinaryQueue = s.store.ordinaryQueue := by
  simp only [State.startStep]
  repeat' split
  all_goals simp

@[simp] theorem ordinaryQueue_tellGrant (p : PosIx) (s : State) :
    (State.tellGrant p s).store.ordinaryQueue = s.store.ordinaryQueue := by
  simp only [State.tellGrant]
  repeat' split
  all_goals simp

@[simp] theorem ordinaryQueue_tellEntry (s : State) (e : ClaimEntry) :
    (State.tellEntry s e).store.ordinaryQueue = s.store.ordinaryQueue := by
  simp only [State.tellEntry]
  repeat' split
  all_goals simp

@[simp] theorem ordinaryQueue_tellGrants (l : List ClaimEntry) (s : State) :
    (State.tellGrants l s).store.ordinaryQueue = s.store.ordinaryQueue := by
  exact ordinaryQueue_foldl _ ordinaryQueue_tellEntry l s

@[simp] theorem ordinaryQueue_claimStands (p : PosIx) (st : ClaimState) (s : State) :
    (State.claimStands p st s).store.ordinaryQueue = s.store.ordinaryQueue := by
  simp only [State.claimStands]
  repeat' split
  all_goals simp

@[simp] theorem ordinaryQueue_ownRelease (payload : List Byte) (s : State) :
    (State.ownRelease payload s).store.ordinaryQueue = s.store.ordinaryQueue := by
  simp only [State.ownRelease]
  repeat' split
  all_goals simp

@[simp] theorem ordinaryQueue_dropTable (s : State) :
    (State.dropTable s).store.ordinaryQueue = s.store.ordinaryQueue := by
  simp [State.dropTable]

@[simp] theorem ordinaryQueue_setStatus (cond : Booking → Bool) (st : BookingStatus) (s : State) :
    (State.setStatus cond st s).store.ordinaryQueue = s.store.ordinaryQueue := by
  simp [State.setStatus]

@[simp] theorem ordinaryQueue_deleteRecord (h : Handle) (s : State) :
    (State.deleteRecord h s).store.ordinaryQueue = s.store.ordinaryQueue := by
  simp [State.deleteRecord]

@[simp] theorem ordinaryQueue_answerRefused (a : Addr) (t : Tag) (r : Reason) (s : State) :
    (State.answerRefused a t r s).store.ordinaryQueue = s.store.ordinaryQueue := by
  simp [State.answerRefused]

@[simp] theorem ordinaryQueue_reserve (a : Addr) (q : BookRequest) (p : PosIx) (s : State) :
    (State.reserve a q p s).store.ordinaryQueue = s.store.ordinaryQueue := by
  simp only [State.reserve]
  split
  · rfl
  · rename_i h t e
    have ht : t.store.ordinaryQueue = s.store.ordinaryQueue := by
      simp only [State.takeSlot] at e
      split at e
      · simp only [Option.some.injEq, Prod.mk.injEq] at e
        rw [← e.2]
        try rfl
      · contradiction
    simp [ht]

@[simp] theorem ordinaryQueue_renewEntry (a : Addr) (q : BookRequest) (b : Booking) (s : State) :
    (State.renewEntry a q b s).store.ordinaryQueue = s.store.ordinaryQueue := by
  simp [State.renewEntry]

@[simp] theorem ordinaryQueue_takeBook (a : Addr) (q : BookRequest) (s : State) :
    (State.takeBook a q s).store.ordinaryQueue = s.store.ordinaryQueue := by
  simp only [State.takeBook]
  repeat' split
  all_goals simp

@[simp] theorem ordinaryQueue_completeImage (b : Booking) (im : List Byte) (s : State) :
    (State.completeImage b im s).store.ordinaryQueue = s.store.ordinaryQueue := by
  simp only [State.completeImage]
  repeat' split
  all_goals simp

@[simp] theorem ordinaryQueue_takePart (b : Booking) (a : Assembly) (s : State) :
    (State.takePart b a s).store.ordinaryQueue = s.store.ordinaryQueue := by
  simp only [State.takePart]
  repeat' split
  all_goals simp

@[simp] theorem ordinaryQueue_rejectOpen (b : Booking) (s : State) :
    (State.rejectOpen b s).store.ordinaryQueue = s.store.ordinaryQueue := by
  simp only [State.rejectOpen]
  repeat' split
  all_goals simp

@[simp] theorem ordinaryQueue_takeFirstPart (a : Addr) (c : CarryPart) (s : State) :
    (State.takeFirstPart a c s).store.ordinaryQueue = s.store.ordinaryQueue := by
  simp only [State.takeFirstPart]
  repeat' split
  all_goals simp

@[simp] theorem ordinaryQueue_takeLaterPart (a : Addr) (c : CarryPart) (s : State) :
    (State.takeLaterPart a c s).store.ordinaryQueue = s.store.ordinaryQueue := by
  simp only [State.takeLaterPart]
  repeat' split
  all_goals simp

@[simp] theorem ordinaryQueue_takeCarry (a : Addr) (c : CarryPart) (s : State) :
    (State.takeCarry a c s).store.ordinaryQueue = s.store.ordinaryQueue := by
  simp only [State.takeCarry]
  repeat' split
  all_goals simp

@[simp] theorem ordinaryQueue_takeBooked (a : Addr) (t : Tag) (p : PosIx) (s : State) :
    (State.takeBooked a t p s).store.ordinaryQueue = s.store.ordinaryQueue := by
  simp only [State.takeBooked]
  repeat' split
  all_goals simp

@[simp] theorem ordinaryQueue_handOver (a : Addr) (t : Tag) (s : State) :
    (State.handOver a t s).store.ordinaryQueue = s.store.ordinaryQueue := by
  simp only [State.handOver]
  repeat' split
  all_goals simp

@[simp] theorem ordinaryQueue_found (a : Addr) (t : Tag) (s : State) :
    (State.found a t s).store.ordinaryQueue = s.store.ordinaryQueue := by
  simp only [State.found]
  repeat' split
  all_goals simp

@[simp] theorem ordinaryQueue_answerLocate (a : Addr) (t : Tag) (s : State) :
    (State.answerLocate a t s).store.ordinaryQueue = s.store.ordinaryQueue := by
  simp only [State.answerLocate]
  repeat' split
  all_goals simp

@[simp] theorem ordinaryQueue_clearOutbound (s : State) (p : PosIx) :
    (State.clearOutbound s p).store.ordinaryQueue = s.store.ordinaryQueue := by
  simp only [State.clearOutbound]
  repeat' split
  all_goals simp

@[simp] theorem ordinaryQueue_updPeer (a : Addr) (f : Peer → Peer) (s : State) :
    (State.updPeer a f s).store.ordinaryQueue = s.store.ordinaryQueue := by
  simp [State.updPeer]

@[simp] theorem ordinaryQueue_setLine (l : LineState) (s : State) :
    (State.setLine l s).store.ordinaryQueue = s.store.ordinaryQueue := by
  simp [State.setLine]

@[simp] theorem ordinaryQueue_peerGone (a : Addr) (c : GoneCause) (s : State) :
    (State.peerGone a c s).store.ordinaryQueue = s.store.ordinaryQueue := by
  simp only [State.peerGone]
  repeat' split
  all_goals simp

@[simp] theorem ordinaryQueue_postPeerJoined (a : Addr) (s : State) :
    (State.postPeerJoined a s).store.ordinaryQueue = s.store.ordinaryQueue := by
  simp [State.postPeerJoined]

@[simp] theorem ordinaryQueue_peerJoins (a : Addr) (role : Role) (s : State) :
    (State.peerJoins a role s).store.ordinaryQueue = s.store.ordinaryQueue := by
  simp [State.peerJoins]

@[simp] theorem ordinaryQueue_applyPresence (a : Addr) (q : PresenceReport) (s : State) :
    (State.applyPresence a q s).store.ordinaryQueue = s.store.ordinaryQueue := by
  simp only [State.applyPresence]
  repeat' split
  all_goals simp

@[simp] theorem ordinaryQueue_restartRound (a : Addr) (s : State) (h : Handle) :
    (State.restartRound a s h).store.ordinaryQueue = s.store.ordinaryQueue := by
  simp only [State.restartRound]
  repeat' split
  all_goals simp

@[simp] theorem ordinaryQueue_restartRounds (a : Addr) (q : PresenceReport) (s : State) :
    (State.restartRounds a q s).store.ordinaryQueue = s.store.ordinaryQueue := by
  simp only [State.restartRounds]
  repeat' split
  all_goals simp

@[simp] theorem ordinaryQueue_noteSender (a : Addr) (s : State) :
    (State.noteSender a s).store.ordinaryQueue = s.store.ordinaryQueue := by
  simp only [State.noteSender]
  repeat' split
  all_goals simp

@[simp] theorem ordinaryQueue_sendUpkeep (f : Frame) (s : State) :
    (State.sendUpkeep f s).store.ordinaryQueue = s.store.ordinaryQueue := by
  simp only [State.sendUpkeep]
  repeat' split
  all_goals simp

@[simp] theorem ordinaryQueue_pumpUpkeep (s : State) :
    (State.pumpUpkeep s).store.ordinaryQueue = s.store.ordinaryQueue := by
  simp only [State.pumpUpkeep]
  repeat' split
  all_goals simp

@[simp] theorem ordinaryQueue_withdrawUpkeep (kinds : List FrameKind) (s : State) :
    (State.withdrawUpkeep kinds s).store.ordinaryQueue = s.store.ordinaryQueue := by
  simp only [State.withdrawUpkeep]
  repeat' split
  all_goals simp

@[simp] theorem ordinaryQueue_stopServing (s : State) :
    (State.stopServing s).store.ordinaryQueue = s.store.ordinaryQueue := by
  simp [State.stopServing]

@[simp] theorem ordinaryQueue_stopServingOf (a : Addr) (s : State) :
    (State.stopServingOf a s).store.ordinaryQueue = s.store.ordinaryQueue := by
  simp only [State.stopServingOf]
  repeat' split
  all_goals simp

@[simp] theorem ordinaryQueue_setJoinQueue (l : List Joiner) (s : State) :
    (State.setJoinQueue l s).store.ordinaryQueue = s.store.ordinaryQueue := by
  simp [State.setJoinQueue]

@[simp] theorem ordinaryQueue_leaveQueue (a : Addr) (s : State) :
    (State.leaveQueue a s).store.ordinaryQueue = s.store.ordinaryQueue := by
  simp [State.leaveQueue]

@[simp] theorem ordinaryQueue_enterQueue (a : Addr) (s : State) :
    (State.enterQueue a s).store.ordinaryQueue = s.store.ordinaryQueue := by
  simp only [State.enterQueue]
  repeat' split
  all_goals simp

@[simp] theorem ordinaryQueue_judgeProvider (a : Addr) (s : State) :
    (State.judgeProvider a s).store.ordinaryQueue = s.store.ordinaryQueue := by
  simp only [State.judgeProvider]
  repeat' split
  all_goals simp

@[simp] theorem ordinaryQueue_tryServe (s : State) :
    (State.tryServe s).store.ordinaryQueue = s.store.ordinaryQueue := by
  simp only [State.tryServe]
  repeat' split
  all_goals simp

@[simp] theorem ordinaryQueue_snapAppeared (s : State) :
    (State.snapAppeared s).store.ordinaryQueue = s.store.ordinaryQueue := by
  simp only [State.snapAppeared]
  repeat' split
  all_goals simp

@[simp] theorem ordinaryQueue_rejoin (c : Cause) (s : State) :
    (State.rejoin c s).store.ordinaryQueue = s.store.ordinaryQueue := by
  simp only [State.rejoin]
  repeat' split
  all_goals simp

@[simp] theorem ordinaryQueue_enterJoining (c : Cause) (s : State) :
    (State.enterJoining c s).store.ordinaryQueue = s.store.ordinaryQueue := by
  simp [State.enterJoining]

@[simp] theorem ordinaryQueue_startJoin (s : State) :
    (State.startJoin s).store.ordinaryQueue = s.store.ordinaryQueue := by
  simp [State.startJoin]

@[simp] theorem ordinaryQueue_bufferFrame (f : BufferedFrame) (s : State) :
    (State.bufferFrame f s).store.ordinaryQueue = s.store.ordinaryQueue := by
  simp only [State.bufferFrame]
  repeat' split
  all_goals simp

@[simp] theorem ordinaryQueue_joinedRecord (s : State) (h : Handle) :
    (State.joinedRecord s h).store.ordinaryQueue = s.store.ordinaryQueue := by
  simp only [State.joinedRecord]
  repeat' split
  all_goals simp

@[simp] theorem ordinaryQueue_joinedPosition (s : State) (p : PosIx) :
    (State.joinedPosition s p).store.ordinaryQueue = s.store.ordinaryQueue := by
  simp only [State.joinedPosition]
  repeat' split
  all_goals simp

@[simp] theorem ordinaryQueue_completeJoin (c : Cause) (s : State) :
    (State.completeJoin c s).store.ordinaryQueue = s.store.ordinaryQueue := by
  simp [State.completeJoin]

@[simp] theorem ordinaryQueue_loadSnapshot (n : SnapIn) (s : State) :
    (State.loadSnapshot n s).store.ordinaryQueue = s.store.ordinaryQueue := by
  simp [State.loadSnapshot]

@[simp] theorem ordinaryQueue_listFrame (f : BufferedFrame) (s : State) :
    (State.listFrame f s).store.ordinaryQueue = s.store.ordinaryQueue := by
  simp only [State.listFrame]
  repeat' split
  all_goals simp

@[simp] theorem ordinaryQueue_replayFrame (s : State) (f : BufferedFrame) :
    (State.replayFrame s f).store.ordinaryQueue = s.store.ordinaryQueue := by
  simp [State.replayFrame]

@[simp] theorem ordinaryQueue_finishSnapshot (n : SnapIn) (s : State) :
    (State.finishSnapshot n s).store.ordinaryQueue = s.store.ordinaryQueue := by
  simp [State.finishSnapshot]

@[simp] theorem ordinaryQueue_firstStation (s : State) :
    (State.firstStation s).store.ordinaryQueue = s.store.ordinaryQueue := by
  simp [State.firstStation]

@[simp] theorem ordinaryQueue_enterMismatch (s : State) :
    (State.enterMismatch s).store.ordinaryQueue = s.store.ordinaryQueue := by
  simp [State.enterMismatch]

@[simp] theorem ordinaryQueue_takeHead (sender : Addr) (q : SnapHead) (s : State) :
    (State.takeHead sender q s).store.ordinaryQueue = s.store.ordinaryQueue := by
  simp only [State.takeHead]
  repeat' split
  all_goals simp

@[simp] theorem ordinaryQueue_takeSnapPart (index : Nat) (content : List Byte) (s : State) :
    (State.takeSnapPart index content s).store.ordinaryQueue = s.store.ordinaryQueue := by
  simp only [State.takeSnapPart]
  repeat' split
  all_goals simp

@[simp] theorem ordinaryQueue_setInTx (x : InTx) (s : State) :
    (State.setInTx x s).store.ordinaryQueue = s.store.ordinaryQueue := by
  simp [State.setInTx]

@[simp] theorem ordinaryQueue_beginTx (s : State) : (State.beginTx s).store.ordinaryQueue = s.store.ordinaryQueue := by
  simp only [State.beginTx]
  repeat' split
  all_goals simp

@[simp] theorem ordinaryQueue_restartStall (s : State) :
    (State.restartStall s).store.ordinaryQueue = s.store.ordinaryQueue := by
  simp [State.restartStall]

@[simp] theorem ordinaryQueue_pumpOrigin (o : Origin) (s : State) :
    (State.pumpOrigin o s).store.ordinaryQueue = s.store.ordinaryQueue := by
  simp only [State.pumpOrigin]
  repeat' split
  all_goals simp

@[simp] theorem ordinaryQueue_finishOwn (own : OwnTx) (s : State) :
    (State.finishOwn own s).store.ordinaryQueue = s.store.ordinaryQueue := by
  simp only [State.finishOwn]
  repeat' split
  all_goals simp

@[simp] theorem ordinaryQueue_dropFrame (o : Origin) (s : State) :
    (State.dropFrame o s).store.ordinaryQueue = s.store.ordinaryQueue := by
  simp [State.dropFrame]

@[simp] theorem ordinaryQueue_countVoid (s : State) :
    (State.countVoid s).store.ordinaryQueue = s.store.ordinaryQueue := by
  simp only [State.countVoid]
  repeat' split
  all_goals simp

@[simp] theorem ordinaryQueue_dropHead (s : State) :
    (State.dropHead s).store.ordinaryQueue = s.store.ordinaryQueue := by
  simp only [State.dropHead]
  repeat' split
  all_goals simp

@[simp] theorem ordinaryQueue_countClean (s : State) :
    (State.countClean s).store.ordinaryQueue = s.store.ordinaryQueue := by
  simp [State.countClean]

@[simp] theorem ordinaryQueue_noteBar (k : FrameKind) (payload : List Byte) (s : State) :
    (State.noteBar k payload s).store.ordinaryQueue = s.store.ordinaryQueue := by
  simp only [State.noteBar]
  repeat' split
  all_goals simp

@[simp] theorem ordinaryQueue_takenSaved (own : OwnTx) (s : State) :
    (State.takenSaved own s).store.ordinaryQueue = s.store.ordinaryQueue := by
  simp only [State.takenSaved]
  repeat' split
  all_goals simp

@[simp] theorem ordinaryQueue_appearUndefined (sender : Addr) (s : State) :
    (State.appearUndefined sender s).store.ordinaryQueue = s.store.ordinaryQueue := by
  simp only [State.appearUndefined]
  repeat' split
  all_goals simp

@[simp] theorem ordinaryQueue_onSnapHead (own : OwnTx) (sender : Addr) (payload : List Byte) (s : State) :
    (State.onSnapHead own sender payload s).store.ordinaryQueue = s.store.ordinaryQueue := by
  simp only [State.onSnapHead]
  repeat' split
  all_goals simp

@[simp] theorem ordinaryQueue_onSnapPart (own : OwnTx) (payload : List Byte) (s : State) :
    (State.onSnapPart own payload s).store.ordinaryQueue = s.store.ordinaryQueue := by
  simp only [State.onSnapPart]
  repeat' split
  all_goals simp

@[simp] theorem ordinaryQueue_onPresence (sender : Addr) (payload : List Byte) (s : State) :
    (State.onPresence sender payload s).store.ordinaryQueue = s.store.ordinaryQueue := by
  simp only [State.onPresence]
  repeat' split
  all_goals simp

@[simp] theorem ordinaryQueue_bookAppeared (own : OwnTx) (dest : BitVec 5) (q : BookRequest) (s : State) :
    (State.bookAppeared own dest q s).store.ordinaryQueue = s.store.ordinaryQueue := by
  simp only [State.bookAppeared]
  repeat' split
  all_goals simp

@[simp] theorem ordinaryQueue_onBook (own : OwnTx) (sender : Addr) (dest : BitVec 5) (payload : List Byte) (s : State) :
    (State.onBook own sender dest payload s).store.ordinaryQueue = s.store.ordinaryQueue := by
  simp only [State.onBook]
  repeat' split
  all_goals simp

@[simp] theorem ordinaryQueue_bookedAppeared (dest : BitVec 5) (t : Tag) (s : State) :
    (State.bookedAppeared dest t s).store.ordinaryQueue = s.store.ordinaryQueue := by
  simp [State.bookedAppeared]

@[simp] theorem ordinaryQueue_onBooked (own : OwnTx) (sender : Addr) (dest : BitVec 5) (payload : List Byte)
    (s : State) :
    (State.onBooked own sender dest payload s).store.ordinaryQueue = s.store.ordinaryQueue := by
  simp only [State.onBooked]
  repeat' split
  all_goals simp

@[simp] theorem ordinaryQueue_onFound (sender : Addr) (dest : BitVec 5) (payload : List Byte) (s : State) :
    (State.onFound sender dest payload s).store.ordinaryQueue = s.store.ordinaryQueue := by
  simp only [State.onFound]
  repeat' split
  all_goals simp

@[simp] theorem ordinaryQueue_locateAppeared (t : Tag) (s : State) :
    (State.locateAppeared t s).store.ordinaryQueue = s.store.ordinaryQueue := by
  simp only [State.locateAppeared]
  repeat' split
  all_goals simp

@[simp] theorem ordinaryQueue_onLocate (own : OwnTx) (sender : Addr) (payload : List Byte) (s : State) :
    (State.onLocate own sender payload s).store.ordinaryQueue = s.store.ordinaryQueue := by
  simp only [State.onLocate]
  repeat' split
  all_goals simp

@[simp] theorem ordinaryQueue_carryAppeared (own : OwnTx) (index : Nat) (s : State) :
    (State.carryAppeared own index s).store.ordinaryQueue = s.store.ordinaryQueue := by
  simp only [State.carryAppeared]
  repeat' split
  all_goals simp

@[simp] theorem ordinaryQueue_onCarry (own : OwnTx) (sender : Addr) (dest : BitVec 5) (payload : List Byte)
    (s : State) :
    (State.onCarry own sender dest payload s).store.ordinaryQueue = s.store.ordinaryQueue := by
  simp only [State.onCarry]
  repeat' split
  all_goals simp

@[simp] theorem ordinaryQueue_answerExpired (h : Handle) (s : State) :
    (State.answerExpired h s).store.ordinaryQueue = s.store.ordinaryQueue := by
  simp only [State.answerExpired]
  repeat' split
  all_goals simp

@[simp] theorem ordinaryQueue_partGapExpired (p : PosIx) (s : State) :
    (State.partGapExpired p s).store.ordinaryQueue = s.store.ordinaryQueue := by
  simp only [State.partGapExpired]
  repeat' split
  all_goals simp

@[simp] theorem ordinaryQueue_handOffExpired (h : Handle) (s : State) :
    (State.handOffExpired h s).store.ordinaryQueue = s.store.ordinaryQueue := by
  simp only [State.handOffExpired]
  repeat' split
  all_goals simp

@[simp] theorem ordinaryQueue_locateExpired (h : Handle) (s : State) :
    (State.locateExpired h s).store.ordinaryQueue = s.store.ordinaryQueue := by
  simp only [State.locateExpired]
  repeat' split
  all_goals simp

@[simp] theorem ordinaryQueue_departureExpired (a : Addr) (s : State) :
    (State.departureExpired a s).store.ordinaryQueue = s.store.ordinaryQueue := by
  simp only [State.departureExpired]
  repeat' split
  all_goals simp

@[simp] theorem ordinaryQueue_presenceExpired (s : State) :
    (State.presenceExpired s).store.ordinaryQueue = s.store.ordinaryQueue := by
  simp only [State.presenceExpired]
  repeat' split
  all_goals simp

@[simp] theorem ordinaryQueue_joinWaitExpired (s : State) :
    (State.joinWaitExpired s).store.ordinaryQueue = s.store.ordinaryQueue := by
  simp only [State.joinWaitExpired]
  repeat' split
  all_goals simp

@[simp] theorem ordinaryQueue_snapGapExpired (s : State) :
    (State.snapGapExpired s).store.ordinaryQueue = s.store.ordinaryQueue := by
  simp only [State.snapGapExpired]
  repeat' split
  all_goals simp

@[simp] theorem ordinaryQueue_backoffExpired (s : State) :
    (State.backoffExpired s).store.ordinaryQueue = s.store.ordinaryQueue := by
  simp only [State.backoffExpired]
  repeat' split
  all_goals simp

@[simp] theorem ordinaryQueue_advancePos (s : State) (p : PosIx) :
    (State.advancePos s p).store.ordinaryQueue = s.store.ordinaryQueue := by
  simp only [State.advancePos]
  repeat' split
  all_goals simp

@[simp] theorem ordinaryQueue_advance (s : State) : (State.advance s).store.ordinaryQueue = s.store.ordinaryQueue := by
  simp [State.advance]

@[simp] theorem ordinaryQueue_fireDeparture (s : State) (a : Addr) :
    (State.fireDeparture s a).store.ordinaryQueue = s.store.ordinaryQueue := by
  simp only [State.fireDeparture]
  repeat' split
  all_goals simp

@[simp] theorem ordinaryQueue_pauseForPower (s : State) (p : PosIx) :
    (State.pauseForPower s p).store.ordinaryQueue = s.store.ordinaryQueue := by
  simp only [State.pauseForPower]
  repeat' split
  all_goals simp

@[simp] theorem ordinaryQueue_beginWrite (s : State) :
    (State.beginWrite s).store.ordinaryQueue = s.store.ordinaryQueue := by
  simp only [State.beginWrite]
  repeat' split
  all_goals simp

@[simp] theorem ordinaryQueue_endWrite (s : State) :
    (State.endWrite s).store.ordinaryQueue = s.store.ordinaryQueue := by
  simp only [State.endWrite]
  repeat' split
  all_goals simp

@[simp] theorem ordinaryQueue_restorePosition (im : List Byte) (s : State) (p : PosIx) :
    (State.restorePosition im s p).store.ordinaryQueue = s.store.ordinaryQueue := by
  simp only [State.restorePosition]
  repeat' split
  all_goals simp

@[simp] theorem ordinaryQueue_cleanLink (s : State) (h : Handle) :
    (State.cleanLink s h).store.ordinaryQueue = s.store.ordinaryQueue := by
  simp [State.cleanLink]

@[simp] theorem ordinaryQueue_postRestoreHeld (s : State) (x : Handle × Nat) :
    (State.postRestoreHeld s x).store.ordinaryQueue = s.store.ordinaryQueue := by
  simp only [State.postRestoreHeld]
  repeat' split
  all_goals simp

@[simp] theorem ordinaryQueue_rebuildFreeList (s : State) :
    (State.rebuildFreeList s).store.ordinaryQueue = s.store.ordinaryQueue := by
  simp [State.rebuildFreeList]

@[simp] theorem ordinaryQueue_invalidate (s : State) :
    (State.invalidate s).store.ordinaryQueue = s.store.ordinaryQueue := by
  simp [State.invalidate]

@[simp] theorem ordinaryQueue_postRestored (n : Nat) (s : State) :
    (State.postRestored n s).store.ordinaryQueue = s.store.ordinaryQueue := by
  simp [State.postRestored]

@[simp] theorem ordinaryQueue_openPositions (s : State) :
    (State.openPositions s).store.ordinaryQueue = s.store.ordinaryQueue := by
  simp [State.openPositions]

@[simp] theorem ordinaryQueue_configWrite (item : Byte) (v : BitVec 16) (s : State) :
    (State.configWrite item v s).store.ordinaryQueue = s.store.ordinaryQueue := by
  simp only [State.configWrite]
  repeat' split
  all_goals simp

@[simp] theorem ordinaryQueue_useSeq (q : BitVec 16) (s : State) :
    (State.useSeq q s).store.ordinaryQueue = s.store.ordinaryQueue := by
  simp [State.useSeq]

@[simp] theorem ordinaryQueue_retire (p : PosIx) (h : Handle) (r : Record) (s : State) :
    (State.retire p h r s).store.ordinaryQueue = s.store.ordinaryQueue := by
  simp [State.retire]

@[simp] theorem ordinaryQueue_wrongCode (s : State) :
    (State.wrongCode s).store.ordinaryQueue = s.store.ordinaryQueue := by
  simp [State.wrongCode]

@[simp] theorem ordinaryQueue_scrapPosition (p : Option PosIx) (s : State) :
    (State.scrapPosition p s).store.ordinaryQueue = s.store.ordinaryQueue := by
  simp only [State.scrapPosition]
  repeat' split
  all_goals simp

@[simp] theorem ordinaryQueue_stopLocate (h : Handle) (s : State) :
    (State.stopLocate h s).store.ordinaryQueue = s.store.ordinaryQueue := by
  simp [State.stopLocate]

@[simp] theorem ordinaryQueue_setIlk (p : PosIx) (level : Bool) (s : State) :
    (State.setIlk p level s).store.ordinaryQueue = s.store.ordinaryQueue := by
  simp [State.setIlk]

@[simp] theorem ordinaryQueue_pauseStep (p : PosIx) (s : State) :
    (State.pauseStep p s).store.ordinaryQueue = s.store.ordinaryQueue := by
  simp only [State.pauseStep]
  repeat' split
  all_goals simp

@[simp] theorem ordinaryQueue_resumeStep (p : PosIx) (s : State) :
    (State.resumeStep p s).store.ordinaryQueue = s.store.ordinaryQueue := by
  simp only [State.resumeStep]
  repeat' split
  all_goals simp

@[simp] theorem ordinaryQueue_departureDue (a : Addr) (s : State) :
    (State.departureDue a s).store.ordinaryQueue = s.store.ordinaryQueue := by
  simp [State.departureDue]

@[simp] theorem ordinaryQueue_sendLeave (s : State) :
    (State.sendLeave s).store.ordinaryQueue = s.store.ordinaryQueue := by
  simp [State.sendLeave]

end Sys2Proof.Machine
end

