-- ==== Sys2Proof/Laws/FramePeers.lean ====
section
/-! SUPPORT. Which operations leave the peer list alone: one lemma per operation, proved in the order the operations are built in. -/

namespace Sys2Proof.Machine

@[simp] theorem peers_ite (c : Prop) [Decidable c] (x y : State) : (if c then x else y).mem.peers = if c then x.mem.peers else y.mem.peers := by
  split <;> rfl

@[simp] theorem peers_foldl {α} (f : State → α → State) (hf : ∀ s a, (f s a).mem.peers = s.mem.peers) (l : List α) (s : State) :
    (l.foldl f s).mem.peers = s.mem.peers := by
  induction l generalizing s with
  | nil => rfl
  | cons a l ih => rw [List.foldl_cons, ih, hf]

@[simp] theorem peers_setSlot (h : Handle) (x : Slot) (s : State) : (State.setSlot h x s).mem.peers = s.mem.peers := by
  simp [State.setSlot]

@[simp] theorem peers_setRec (h : Handle) (r : Record) (s : State) : (State.setRec h r s).mem.peers = s.mem.peers := by
  simp [State.setRec]

@[simp] theorem peers_updRec (h : Handle) (f : Record → Record) (s : State) :
    (State.updRec h f s).mem.peers = s.mem.peers := by
  simp only [State.updRec]
  repeat' split
  all_goals simp

@[simp] theorem peers_setWaits (h : Handle) (ws : List SlotWait) (s : State) :
    (State.setWaits h ws s).mem.peers = s.mem.peers := by
  simp [State.setWaits]

@[simp] theorem peers_freeSlot (h : Handle) (s : State) : (State.freeSlot h s).mem.peers = s.mem.peers := by
  simp [State.freeSlot]

@[simp] theorem peers_enqueue (h : Handle) (rush : Bool) (s : State) :
    (State.enqueue h rush s).mem.peers = s.mem.peers := by
  simp only [State.enqueue]
  repeat' split
  all_goals simp

@[simp] theorem peers_unqueue (h : Handle) (s : State) : (State.unqueue h s).mem.peers = s.mem.peers := by
  simp [State.unqueue]

@[simp] theorem peers_updPos (p : PosIx) (f : Position → Position) (s : State) :
    (State.updPos p f s).mem.peers = s.mem.peers := by
  simp [State.updPos]

@[simp] theorem peers_vacate (p : PosIx) (st : PosState) (s : State) :
    (State.vacate p st s).mem.peers = s.mem.peers := by
  simp [State.vacate]

@[simp] theorem peers_vacateOpt (p : Option PosIx) (st : PosState) (s : State) :
    (State.vacate? p st s).mem.peers = s.mem.peers := by
  simp only [State.vacate?]
  repeat' split
  all_goals simp

@[simp] theorem peers_alarm (f : Alarms → Alarms) (s : State) : (State.alarm f s).mem.peers = s.mem.peers := by
  simp [State.alarm]

@[simp] theorem peers_post (e : Event) (s : State) : (State.post e s).mem.peers = s.mem.peers := by
  simp only [State.post]
  repeat' split
  all_goals simp

@[simp] theorem peers_postLineState (c : Cause) (s : State) : (State.postLineState c s).mem.peers = s.mem.peers := by
  simp [State.postLineState]

@[simp] theorem peers_respond (st : Status) (data : BitVec 24) (s : State) :
    (State.respond st data s).mem.peers = s.mem.peers := by
  simp [State.respond]

@[simp] theorem peers_ok (d2 d1 d0 : Byte) (s : State) : (State.ok d2 d1 d0 s).mem.peers = s.mem.peers := by
  simp [State.ok]

@[simp] theorem peers_refuse (r : Reason) (d0 : Byte) (s : State) : (State.refuse r d0 s).mem.peers = s.mem.peers := by
  simp [State.refuse]

@[simp] theorem peers_badArgument (code : Byte) (s : State) : (State.badArgument code s).mem.peers = s.mem.peers := by
  simp [State.badArgument]

@[simp] theorem peers_deliver (s : State) : (State.deliver s).mem.peers = s.mem.peers := by
  simp [State.deliver]

@[simp] theorem peers_stage (bs : List Byte) (s : State) : (State.stage bs s).mem.peers = s.mem.peers := by
  simp [State.stage]

@[simp] theorem peers_queueFrame (o : Origin) (f : Frame) (s : State) :
    (State.queueFrame o f s).mem.peers = s.mem.peers := by
  simp only [State.queueFrame]
  repeat' split
  all_goals simp

@[simp] theorem peers_setTx (l : List TxEntry) (s : State) : (State.setTx l s).mem.peers = s.mem.peers := by
  simp [State.setTx]

@[simp] theorem peers_removeTx (o : Origin) (s : State) : (State.removeTx o s).mem.peers = s.mem.peers := by
  simp [State.removeTx]

@[simp] theorem peers_updTx (o : Origin) (f : TxEntry → TxEntry) (s : State) :
    (State.updTx o f s).mem.peers = s.mem.peers := by
  simp [State.updTx]

@[simp] theorem peers_withdrawTx (o : Origin) (s : State) : (State.withdrawTx o s).mem.peers = s.mem.peers := by
  simp only [State.withdrawTx]
  repeat' split
  all_goals simp

@[simp] theorem peers_replaceTx (o : Origin) (f : Frame) (s : State) :
    (State.replaceTx o f s).mem.peers = s.mem.peers := by
  simp only [State.replaceTx]
  repeat' split
  all_goals simp

@[simp] theorem peers_queueOrReplace (o : Origin) (f : Frame) (s : State) :
    (State.queueOrReplace o f s).mem.peers = s.mem.peers := by
  simp only [State.queueOrReplace]
  repeat' split
  all_goals simp

@[simp] theorem peers_clearTx (s : State) : (State.clearTx s).mem.peers = s.mem.peers := by
  simp [State.clearTx]

@[simp] theorem peers_queueAnswer (f : Frame) (s : State) : (State.queueAnswer f s).mem.peers = s.mem.peers := by
  simp only [State.queueAnswer]
  repeat' split
  all_goals simp

@[simp] theorem peers_withdrawAnswers (cond : Frame → Bool) (s : State) :
    (State.withdrawAnswers cond s).mem.peers = s.mem.peers := by
  simp only [State.withdrawAnswers]
  apply peers_foldl
  intro s i
  repeat' split
  all_goals simp

@[simp] theorem peers_judgeSlots (s : State) : (State.judgeSlots s).mem.peers = s.mem.peers := by
  simp only [State.judgeSlots]
  repeat' split
  all_goals simp

@[simp] theorem peers_failAttempt (s : State) : (State.failAttempt s).mem.peers = s.mem.peers := by
  simp only [State.failAttempt]
  repeat' split
  all_goals simp

@[simp] theorem peers_countCrcError (s : State) : (State.countCrcError s).mem.peers = s.mem.peers := by
  simp only [State.countCrcError]
  repeat' split
  all_goals simp

@[simp] theorem peers_setClaim (p : PosIx) (c : ClaimState) (s : State) :
    (State.setClaim p c s).mem.peers = s.mem.peers := by
  simp [State.setClaim]

@[simp] theorem peers_setRemembered (p : PosIx) (b : Bool) (s : State) :
    (State.setRemembered p b s).mem.peers = s.mem.peers := by
  simp [State.setRemembered]

@[simp] theorem peers_queueClaim (p : PosIx) (s : State) : (State.queueClaim p s).mem.peers = s.mem.peers := by
  simp [State.queueClaim]

@[simp] theorem peers_askClaim (p : PosIx) (s : State) : (State.askClaim p s).mem.peers = s.mem.peers := by
  simp only [State.askClaim]
  repeat' split
  all_goals simp

@[simp] theorem peers_queueRelease (p : PosIx) (s : State) : (State.queueRelease p s).mem.peers = s.mem.peers := by
  simp [State.queueRelease]

@[simp] theorem peers_giveUpClaim (p : PosIx) (s : State) : (State.giveUpClaim p s).mem.peers = s.mem.peers := by
  simp only [State.giveUpClaim]
  repeat' split
  all_goals simp

@[simp] theorem peers_giveUpClaimOpt (p : Option PosIx) (s : State) :
    (State.giveUpClaim? p s).mem.peers = s.mem.peers := by
  simp only [State.giveUpClaim?]
  repeat' split
  all_goals simp

@[simp] theorem peers_claimWithdrawn (p : PosIx) (s : State) : (State.claimWithdrawn p s).mem.peers = s.mem.peers := by
  simp only [State.claimWithdrawn]
  repeat' split
  all_goals simp

@[simp] theorem peers_dropClaims (s : State) : (State.dropClaims s).mem.peers = s.mem.peers := by
  simp [State.dropClaims]

@[simp] theorem peers_pumpWaits (h : Handle) (ws : List SlotWait) (s : State) :
    (State.pumpWaits h ws s).mem.peers = s.mem.peers := by
  induction ws generalizing s with
  | nil => simp [State.pumpWaits]
  | cons w ws ih => simp only [State.pumpWaits]; split <;> simp [ih]

@[simp] theorem peers_pumpSlot (h : Handle) (s : State) : (State.pumpSlot h s).mem.peers = s.mem.peers := by
  simp only [State.pumpSlot]
  repeat' split
  all_goals simp

@[simp] theorem peers_sendSlot (h : Handle) (w : SlotWait) (s : State) :
    (State.sendSlot h w s).mem.peers = s.mem.peers := by
  simp [State.sendSlot]

@[simp] theorem peers_dropWaits (h : Handle) (w : SlotWait) (s : State) :
    (State.dropWaits h w s).mem.peers = s.mem.peers := by
  simp [State.dropWaits]

@[simp] theorem peers_withdrawSlot (h : Handle) (k : FrameKind) (s : State) :
    (State.withdrawSlot h k s).mem.peers = s.mem.peers := by
  simp only [State.withdrawSlot]
  repeat' split
  all_goals simp

@[simp] theorem peers_roundFrom (h : Handle) (k : Nat) (s : State) :
    (State.roundFrom h k s).mem.peers = s.mem.peers := by
  simp only [State.roundFrom]
  repeat' split
  all_goals simp

@[simp] theorem peers_startRound (h : Handle) (s : State) : (State.startRound h s).mem.peers = s.mem.peers := by
  simp only [State.startRound]
  repeat' split
  all_goals simp

@[simp] theorem peers_withdrawBooks (h : Handle) (s : State) : (State.withdrawBooks h s).mem.peers = s.mem.peers := by
  simp [State.withdrawBooks]

@[simp] theorem peers_failCandidate (h : Handle) (s : State) : (State.failCandidate h s).mem.peers = s.mem.peers := by
  simp only [State.failCandidate]
  repeat' split
  all_goals simp

@[simp] theorem peers_sendRenewal (h : Handle) (s : State) : (State.sendRenewal h s).mem.peers = s.mem.peers := by
  simp only [State.sendRenewal]
  repeat' split
  all_goals simp

@[simp] theorem peers_endBooking (h : Handle) (s : State) : (State.endBooking h s).mem.peers = s.mem.peers := by
  simp only [State.endBooking]
  repeat' split
  all_goals simp

@[simp] theorem peers_startTransfer (h : Handle) (s : State) : (State.startTransfer h s).mem.peers = s.mem.peers := by
  simp only [State.startTransfer]
  repeat' split
  all_goals simp

@[simp] theorem peers_stopTransfer (h : Handle) (s : State) : (State.stopTransfer h s).mem.peers = s.mem.peers := by
  simp [State.stopTransfer]

@[simp] theorem peers_placeOne (s : State) : (State.placeOne s).mem.peers = s.mem.peers := by
  simp only [State.placeOne]
  repeat' split
  all_goals simp

@[simp] theorem peers_stopPositionOpt (p : Option PosIx) (s : State) :
    (State.stopPosition? p s).mem.peers = s.mem.peers := by
  simp only [State.stopPosition?]
  repeat' split
  all_goals simp

@[simp] theorem peers_enterHeld (h : Handle) (k : DevKind) (v : BitVec 24) (leaves : Bool) (s : State) :
    (State.enterHeld h k v leaves s).mem.peers = s.mem.peers := by
  simp only [State.enterHeld]
  repeat' split
  all_goals simp

@[simp] theorem peers_checkGap (h : Handle) (s : State) : (State.checkGap h s).mem.peers = s.mem.peers := by
  simp only [State.checkGap]
  repeat' split
  all_goals simp

@[simp] theorem peers_judgeReady (h : Handle) (s : State) : (State.judgeReady h s).mem.peers = s.mem.peers := by
  simp only [State.judgeReady]
  repeat' split
  all_goals simp

@[simp] theorem peers_enterChecked (h : Handle) (st : RecState) (s : State) :
    (State.enterChecked h st s).mem.peers = s.mem.peers := by
  simp [State.enterChecked]

@[simp] theorem peers_enterLoaded (h : Handle) (s : State) : (State.enterLoaded h s).mem.peers = s.mem.peers := by
  simp [State.enterLoaded]

@[simp] theorem peers_enterEnded (h : Handle) (s : State) : (State.enterEnded h s).mem.peers = s.mem.peers := by
  simp only [State.enterEnded]
  repeat' split
  all_goals simp

@[simp] theorem peers_startStep (p : PosIx) (h : Handle) (s : State) :
    (State.startStep p h s).mem.peers = s.mem.peers := by
  simp only [State.startStep]
  repeat' split
  all_goals simp

@[simp] theorem peers_tellGrant (p : PosIx) (s : State) : (State.tellGrant p s).mem.peers = s.mem.peers := by
  simp only [State.tellGrant]
  repeat' split
  all_goals simp

@[simp] theorem peers_endStep (p : PosIx) (h : Handle) (s : State) : (State.endStep p h s).mem.peers = s.mem.peers := by
  simp only [State.endStep]
  repeat' split
  all_goals simp

@[simp] theorem peers_stepFault (p : PosIx) (h : Handle) (k : DevKind) (v : BitVec 24) (s : State) :
    (State.stepFault p h k v s).mem.peers = s.mem.peers := by
  simp [State.stepFault]

@[simp] theorem peers_dropBooking (h : Handle) (s : State) : (State.dropBooking h s).mem.peers = s.mem.peers := by
  simp only [State.dropBooking]
  repeat' split
  all_goals simp

@[simp] theorem peers_tellEntry (s : State) (e : ClaimEntry) : (State.tellEntry s e).mem.peers = s.mem.peers := by
  simp only [State.tellEntry]
  repeat' split
  all_goals simp

@[simp] theorem peers_tellGrants (l : List ClaimEntry) (s : State) :
    (State.tellGrants l s).mem.peers = s.mem.peers := by
  exact peers_foldl _ peers_tellEntry l s

@[simp] theorem peers_reportOversize (p : PosIx) (b : BudgetIx) (s : State) :
    (State.reportOversize p b s).mem.peers = s.mem.peers := by
  simp only [State.reportOversize]
  repeat' split
  all_goals simp

@[simp] theorem peers_claimStands (p : PosIx) (st : ClaimState) (s : State) :
    (State.claimStands p st s).mem.peers = s.mem.peers := by
  simp only [State.claimStands]
  repeat' split
  all_goals simp

@[simp] theorem peers_ownClaim (payload : List Byte) (c : ClaimOutcome) (s : State) :
    (State.ownClaim payload c s).mem.peers = s.mem.peers := by
  simp only [State.ownClaim]
  repeat' split
  all_goals simp

@[simp] theorem peers_ownRelease (payload : List Byte) (s : State) :
    (State.ownRelease payload s).mem.peers = s.mem.peers := by
  simp only [State.ownRelease]
  repeat' split
  all_goals simp

@[simp] theorem peers_ownRemoved (caps : Triple) (s : State) (e : ClaimEntry) :
    (State.ownRemoved caps s e).mem.peers = s.mem.peers := by
  simp only [State.ownRemoved]
  repeat' split
  all_goals simp

@[simp] theorem peers_takeReplicated (f : BufferedFrame) (own : Bool) (s : State) :
    (State.takeReplicated f own s).mem.peers = s.mem.peers := by
  simp only [State.takeReplicated]
  repeat' split
  all_goals simp

@[simp] theorem peers_dropTable (s : State) : (State.dropTable s).mem.peers = s.mem.peers := by
  simp [State.dropTable]

@[simp] theorem peers_setStatus (cond : Booking → Bool) (st : BookingStatus) (s : State) :
    (State.setStatus cond st s).mem.peers = s.mem.peers := by
  simp [State.setStatus]

@[simp] theorem peers_deleteRecord (h : Handle) (s : State) : (State.deleteRecord h s).mem.peers = s.mem.peers := by
  simp [State.deleteRecord]

@[simp] theorem peers_answerRefused (a : Addr) (t : Tag) (r : Reason) (s : State) :
    (State.answerRefused a t r s).mem.peers = s.mem.peers := by
  simp [State.answerRefused]

@[simp] theorem peers_reserve (a : Addr) (q : BookRequest) (p : PosIx) (s : State) :
    (State.reserve a q p s).mem.peers = s.mem.peers := by
  simp only [State.reserve]
  split
  · rfl
  · rename_i h t e
    have ht : t.mem.peers = s.mem.peers := by
      simp only [State.takeSlot] at e
      split at e
      · simp only [Option.some.injEq, Prod.mk.injEq] at e
        rw [← e.2]
        try rfl
      · contradiction
    simp [ht]

@[simp] theorem peers_renewEntry (a : Addr) (q : BookRequest) (b : Booking) (s : State) :
    (State.renewEntry a q b s).mem.peers = s.mem.peers := by
  simp [State.renewEntry]

@[simp] theorem peers_takeBook (a : Addr) (q : BookRequest) (s : State) :
    (State.takeBook a q s).mem.peers = s.mem.peers := by
  simp only [State.takeBook]
  repeat' split
  all_goals simp

@[simp] theorem peers_completeImage (b : Booking) (im : List Byte) (s : State) :
    (State.completeImage b im s).mem.peers = s.mem.peers := by
  simp only [State.completeImage]
  repeat' split
  all_goals simp

@[simp] theorem peers_takePart (b : Booking) (a : Assembly) (s : State) :
    (State.takePart b a s).mem.peers = s.mem.peers := by
  simp only [State.takePart]
  repeat' split
  all_goals simp

@[simp] theorem peers_rejectOpen (b : Booking) (s : State) : (State.rejectOpen b s).mem.peers = s.mem.peers := by
  simp only [State.rejectOpen]
  repeat' split
  all_goals simp

@[simp] theorem peers_takeFirstPart (a : Addr) (c : CarryPart) (s : State) :
    (State.takeFirstPart a c s).mem.peers = s.mem.peers := by
  simp only [State.takeFirstPart]
  repeat' split
  all_goals simp

@[simp] theorem peers_takeLaterPart (a : Addr) (c : CarryPart) (s : State) :
    (State.takeLaterPart a c s).mem.peers = s.mem.peers := by
  simp only [State.takeLaterPart]
  repeat' split
  all_goals simp

@[simp] theorem peers_takeCarry (a : Addr) (c : CarryPart) (s : State) :
    (State.takeCarry a c s).mem.peers = s.mem.peers := by
  simp only [State.takeCarry]
  repeat' split
  all_goals simp

@[simp] theorem peers_receiveRecord (f : Frame) (s : State) : (State.receiveRecord f s).mem.peers = s.mem.peers := by
  simp only [State.receiveRecord]
  repeat' split
  all_goals simp

@[simp] theorem peers_takeBooked (a : Addr) (t : Tag) (p : PosIx) (s : State) :
    (State.takeBooked a t p s).mem.peers = s.mem.peers := by
  simp only [State.takeBooked]
  repeat' split
  all_goals simp

@[simp] theorem peers_takeRefused (a : Addr) (t : Tag) (s : State) :
    (State.takeRefused a t s).mem.peers = s.mem.peers := by
  simp only [State.takeRefused]
  repeat' split
  all_goals simp

@[simp] theorem peers_handOver (a : Addr) (t : Tag) (s : State) : (State.handOver a t s).mem.peers = s.mem.peers := by
  simp only [State.handOver]
  repeat' split
  all_goals simp

@[simp] theorem peers_rejected (a : Addr) (t : Tag) (reason : Byte) (s : State) :
    (State.rejected a t reason s).mem.peers = s.mem.peers := by
  simp only [State.rejected]
  repeat' split
  all_goals simp

@[simp] theorem peers_found (a : Addr) (t : Tag) (s : State) : (State.found a t s).mem.peers = s.mem.peers := by
  simp only [State.found]
  repeat' split
  all_goals simp

@[simp] theorem peers_answerLocate (a : Addr) (t : Tag) (s : State) :
    (State.answerLocate a t s).mem.peers = s.mem.peers := by
  simp only [State.answerLocate]
  repeat' split
  all_goals simp

@[simp] theorem peers_cancelBooking (a : Addr) (t : Tag) (s : State) :
    (State.cancelBooking a t s).mem.peers = s.mem.peers := by
  simp only [State.cancelBooking]
  repeat' split
  all_goals simp

@[simp] theorem peers_departRecord (a : Addr) (s : State) (h : Handle) :
    (State.departRecord a s h).mem.peers = s.mem.peers := by
  simp only [State.departRecord]
  repeat' split
  all_goals simp

@[simp] theorem peers_clearOutbound (s : State) (p : PosIx) : (State.clearOutbound s p).mem.peers = s.mem.peers := by
  simp only [State.clearOutbound]
  repeat' split
  all_goals simp

@[simp] theorem peers_setLine (l : LineState) (s : State) : (State.setLine l s).mem.peers = s.mem.peers := by
  simp [State.setLine]

@[simp] theorem peers_postPeerJoined (a : Addr) (s : State) : (State.postPeerJoined a s).mem.peers = s.mem.peers := by
  simp [State.postPeerJoined]

@[simp] theorem peers_restartRound (a : Addr) (s : State) (h : Handle) :
    (State.restartRound a s h).mem.peers = s.mem.peers := by
  simp only [State.restartRound]
  repeat' split
  all_goals simp

@[simp] theorem peers_restartRounds (a : Addr) (q : PresenceReport) (s : State) :
    (State.restartRounds a q s).mem.peers = s.mem.peers := by
  simp only [State.restartRounds]
  repeat' split
  all_goals simp

@[simp] theorem peers_sendUpkeep (f : Frame) (s : State) : (State.sendUpkeep f s).mem.peers = s.mem.peers := by
  simp only [State.sendUpkeep]
  repeat' split
  all_goals simp

@[simp] theorem peers_pumpUpkeep (s : State) : (State.pumpUpkeep s).mem.peers = s.mem.peers := by
  simp only [State.pumpUpkeep]
  repeat' split
  all_goals simp

@[simp] theorem peers_withdrawUpkeep (kinds : List FrameKind) (s : State) :
    (State.withdrawUpkeep kinds s).mem.peers = s.mem.peers := by
  simp only [State.withdrawUpkeep]
  repeat' split
  all_goals simp

@[simp] theorem peers_stopServing (s : State) : (State.stopServing s).mem.peers = s.mem.peers := by
  simp [State.stopServing]

@[simp] theorem peers_stopServingOf (a : Addr) (s : State) : (State.stopServingOf a s).mem.peers = s.mem.peers := by
  simp only [State.stopServingOf]
  repeat' split
  all_goals simp

@[simp] theorem peers_setJoinQueue (l : List Joiner) (s : State) :
    (State.setJoinQueue l s).mem.peers = s.mem.peers := by
  simp [State.setJoinQueue]

@[simp] theorem peers_leaveQueue (a : Addr) (s : State) : (State.leaveQueue a s).mem.peers = s.mem.peers := by
  simp [State.leaveQueue]

@[simp] theorem peers_enterQueue (a : Addr) (s : State) : (State.enterQueue a s).mem.peers = s.mem.peers := by
  simp only [State.enterQueue]
  repeat' split
  all_goals simp

@[simp] theorem peers_judgeProvider (a : Addr) (s : State) : (State.judgeProvider a s).mem.peers = s.mem.peers := by
  simp only [State.judgeProvider]
  repeat' split
  all_goals simp

@[simp] theorem peers_tryServe (s : State) : (State.tryServe s).mem.peers = s.mem.peers := by
  simp only [State.tryServe]
  repeat' split
  all_goals simp

@[simp] theorem peers_snapAppeared (s : State) : (State.snapAppeared s).mem.peers = s.mem.peers := by
  simp only [State.snapAppeared]
  repeat' split
  all_goals simp

@[simp] theorem peers_joinedRecord (s : State) (h : Handle) : (State.joinedRecord s h).mem.peers = s.mem.peers := by
  simp only [State.joinedRecord]
  repeat' split
  all_goals simp

@[simp] theorem peers_joinedPosition (s : State) (p : PosIx) : (State.joinedPosition s p).mem.peers = s.mem.peers := by
  simp only [State.joinedPosition]
  repeat' split
  all_goals simp

@[simp] theorem peers_lostPosition (s : State) (p : PosIx) : (State.lostPosition s p).mem.peers = s.mem.peers := by
  simp only [State.lostPosition]
  repeat' split
  all_goals simp

@[simp] theorem peers_setInTx (x : InTx) (s : State) : (State.setInTx x s).mem.peers = s.mem.peers := by
  simp [State.setInTx]

@[simp] theorem peers_beginTx (s : State) : (State.beginTx s).mem.peers = s.mem.peers := by
  simp only [State.beginTx]
  repeat' split
  all_goals simp

@[simp] theorem peers_restartStall (s : State) : (State.restartStall s).mem.peers = s.mem.peers := by
  simp [State.restartStall]

@[simp] theorem peers_pumpOrigin (o : Origin) (s : State) : (State.pumpOrigin o s).mem.peers = s.mem.peers := by
  simp only [State.pumpOrigin]
  repeat' split
  all_goals simp

@[simp] theorem peers_finishOwn (own : OwnTx) (s : State) : (State.finishOwn own s).mem.peers = s.mem.peers := by
  simp only [State.finishOwn]
  repeat' split
  all_goals simp

@[simp] theorem peers_dropFrame (o : Origin) (s : State) : (State.dropFrame o s).mem.peers = s.mem.peers := by
  simp [State.dropFrame]

@[simp] theorem peers_countVoid (s : State) : (State.countVoid s).mem.peers = s.mem.peers := by
  simp only [State.countVoid]
  repeat' split
  all_goals simp

@[simp] theorem peers_dropHead (s : State) : (State.dropHead s).mem.peers = s.mem.peers := by
  simp only [State.dropHead]
  repeat' split
  all_goals simp

@[simp] theorem peers_countClean (s : State) : (State.countClean s).mem.peers = s.mem.peers := by
  simp [State.countClean]

@[simp] theorem peers_noteBar (k : FrameKind) (payload : List Byte) (s : State) :
    (State.noteBar k payload s).mem.peers = s.mem.peers := by
  simp only [State.noteBar]
  repeat' split
  all_goals simp

@[simp] theorem peers_takenSaved (own : OwnTx) (s : State) : (State.takenSaved own s).mem.peers = s.mem.peers := by
  simp only [State.takenSaved]
  repeat' split
  all_goals simp

@[simp] theorem peers_bookAppeared (own : OwnTx) (dest : BitVec 5) (q : BookRequest) (s : State) :
    (State.bookAppeared own dest q s).mem.peers = s.mem.peers := by
  simp only [State.bookAppeared]
  repeat' split
  all_goals simp

@[simp] theorem peers_onBook (own : OwnTx) (sender : Addr) (dest : BitVec 5) (payload : List Byte) (s : State) :
    (State.onBook own sender dest payload s).mem.peers = s.mem.peers := by
  simp only [State.onBook]
  repeat' split
  all_goals simp

@[simp] theorem peers_bookedAppeared (dest : BitVec 5) (t : Tag) (s : State) :
    (State.bookedAppeared dest t s).mem.peers = s.mem.peers := by
  simp [State.bookedAppeared]

@[simp] theorem peers_onBooked (own : OwnTx) (sender : Addr) (dest : BitVec 5) (payload : List Byte) (s : State) :
    (State.onBooked own sender dest payload s).mem.peers = s.mem.peers := by
  simp only [State.onBooked]
  repeat' split
  all_goals simp

@[simp] theorem peers_onRefused (sender : Addr) (dest : BitVec 5) (payload : List Byte) (s : State) :
    (State.onRefused sender dest payload s).mem.peers = s.mem.peers := by
  simp only [State.onRefused]
  repeat' split
  all_goals simp

@[simp] theorem peers_onFound (sender : Addr) (dest : BitVec 5) (payload : List Byte) (s : State) :
    (State.onFound sender dest payload s).mem.peers = s.mem.peers := by
  simp only [State.onFound]
  repeat' split
  all_goals simp

@[simp] theorem peers_locateAppeared (t : Tag) (s : State) : (State.locateAppeared t s).mem.peers = s.mem.peers := by
  simp only [State.locateAppeared]
  repeat' split
  all_goals simp

@[simp] theorem peers_onLocate (own : OwnTx) (sender : Addr) (payload : List Byte) (s : State) :
    (State.onLocate own sender payload s).mem.peers = s.mem.peers := by
  simp only [State.onLocate]
  repeat' split
  all_goals simp

@[simp] theorem peers_carryAppeared (own : OwnTx) (index : Nat) (s : State) :
    (State.carryAppeared own index s).mem.peers = s.mem.peers := by
  simp only [State.carryAppeared]
  repeat' split
  all_goals simp

@[simp] theorem peers_onCarry (own : OwnTx) (sender : Addr) (dest : BitVec 5) (payload : List Byte) (s : State) :
    (State.onCarry own sender dest payload s).mem.peers = s.mem.peers := by
  simp only [State.onCarry]
  repeat' split
  all_goals simp

@[simp] theorem peers_onTaken (sender : Addr) (dest : BitVec 5) (payload : List Byte) (s : State) :
    (State.onTaken sender dest payload s).mem.peers = s.mem.peers := by
  simp only [State.onTaken]
  repeat' split
  all_goals simp

@[simp] theorem peers_countOne (p : PosIx) (h : Handle) (r : Record) (e : StepEntry) (s : State) :
    (State.countOne p h r e s).mem.peers = s.mem.peers := by
  simp only [State.countOne]
  repeat' split
  all_goals simp

@[simp] theorem peers_runSecond (p : PosIx) (s : State) : (State.runSecond p s).mem.peers = s.mem.peers := by
  simp only [State.runSecond]
  repeat' split
  all_goals simp

@[simp] theorem peers_pauseSecond (p : PosIx) (s : State) : (State.pauseSecond p s).mem.peers = s.mem.peers := by
  simp only [State.pauseSecond]
  repeat' split
  all_goals simp

@[simp] theorem peers_lampSilent (p : PosIx) (s : State) : (State.lampSilent p s).mem.peers = s.mem.peers := by
  simp only [State.lampSilent]
  repeat' split
  all_goals simp

@[simp] theorem peers_doseShort (p : PosIx) (s : State) : (State.doseShort p s).mem.peers = s.mem.peers := by
  simp only [State.doseShort]
  repeat' split
  all_goals simp

@[simp] theorem peers_dosePulse (p : PosIx) (s : State) : (State.dosePulse p s).mem.peers = s.mem.peers := by
  simp only [State.dosePulse]
  repeat' split
  all_goals simp

@[simp] theorem peers_gapSecond (h : Handle) (s : State) : (State.gapSecond h s).mem.peers = s.mem.peers := by
  simp only [State.gapSecond]
  repeat' split
  all_goals simp

@[simp] theorem peers_answerExpired (h : Handle) (s : State) : (State.answerExpired h s).mem.peers = s.mem.peers := by
  simp only [State.answerExpired]
  repeat' split
  all_goals simp

@[simp] theorem peers_partGapExpired (p : PosIx) (s : State) : (State.partGapExpired p s).mem.peers = s.mem.peers := by
  simp only [State.partGapExpired]
  repeat' split
  all_goals simp

@[simp] theorem peers_handOffExpired (h : Handle) (s : State) : (State.handOffExpired h s).mem.peers = s.mem.peers := by
  simp only [State.handOffExpired]
  repeat' split
  all_goals simp

@[simp] theorem peers_locateExpired (h : Handle) (s : State) : (State.locateExpired h s).mem.peers = s.mem.peers := by
  simp only [State.locateExpired]
  repeat' split
  all_goals simp

@[simp] theorem peers_departureExpired (a : Addr) (s : State) :
    (State.departureExpired a s).mem.peers = s.mem.peers := by
  simp only [State.departureExpired]
  repeat' split
  all_goals simp

@[simp] theorem peers_presenceExpired (s : State) : (State.presenceExpired s).mem.peers = s.mem.peers := by
  simp only [State.presenceExpired]
  repeat' split
  all_goals simp

@[simp] theorem peers_advancePos (s : State) (p : PosIx) : (State.advancePos s p).mem.peers = s.mem.peers := by
  simp only [State.advancePos]
  repeat' split
  all_goals simp

@[simp] theorem peers_firePos (s : State) (p : PosIx) : (State.firePos s p).mem.peers = s.mem.peers := by
  simp only [State.firePos]
  repeat' split
  all_goals simp

@[simp] theorem peers_fireRec (s : State) (h : Handle) : (State.fireRec s h).mem.peers = s.mem.peers := by
  simp only [State.fireRec]
  repeat' split
  all_goals simp

@[simp] theorem peers_fireDeparture (s : State) (a : Addr) : (State.fireDeparture s a).mem.peers = s.mem.peers := by
  simp only [State.fireDeparture]
  repeat' split
  all_goals simp

@[simp] theorem peers_pauseForPower (s : State) (p : PosIx) : (State.pauseForPower s p).mem.peers = s.mem.peers := by
  simp only [State.pauseForPower]
  repeat' split
  all_goals simp

@[simp] theorem peers_beginWrite (s : State) : (State.beginWrite s).mem.peers = s.mem.peers := by
  simp only [State.beginWrite]
  repeat' split
  all_goals simp

@[simp] theorem peers_endWrite (s : State) : (State.endWrite s).mem.peers = s.mem.peers := by
  simp only [State.endWrite]
  repeat' split
  all_goals simp

@[simp] theorem peers_restorePosition (im : List Byte) (s : State) (p : PosIx) :
    (State.restorePosition im s p).mem.peers = s.mem.peers := by
  simp only [State.restorePosition]
  repeat' split
  all_goals simp

@[simp] theorem peers_cleanLink (s : State) (h : Handle) : (State.cleanLink s h).mem.peers = s.mem.peers := by
  simp [State.cleanLink]

@[simp] theorem peers_restoreArrival (s : State) (h : Handle) : (State.restoreArrival s h).mem.peers = s.mem.peers := by
  simp only [State.restoreArrival]
  repeat' split
  all_goals simp

@[simp] theorem peers_postRestoreHeld (s : State) (x : Handle × Nat) :
    (State.postRestoreHeld s x).mem.peers = s.mem.peers := by
  simp only [State.postRestoreHeld]
  repeat' split
  all_goals simp

@[simp] theorem peers_rebuildFreeList (s : State) : (State.rebuildFreeList s).mem.peers = s.mem.peers := by
  simp [State.rebuildFreeList]

@[simp] theorem peers_invalidate (s : State) : (State.invalidate s).mem.peers = s.mem.peers := by
  simp [State.invalidate]

@[simp] theorem peers_postRestored (n : Nat) (s : State) : (State.postRestored n s).mem.peers = s.mem.peers := by
  simp [State.postRestored]

@[simp] theorem peers_openPositions (s : State) : (State.openPositions s).mem.peers = s.mem.peers := by
  simp [State.openPositions]

@[simp] theorem peers_configWrite (item : Byte) (v : BitVec 16) (s : State) :
    (State.configWrite item v s).mem.peers = s.mem.peers := by
  simp only [State.configWrite]
  repeat' split
  all_goals simp

@[simp] theorem peers_useSeq (q : BitVec 16) (s : State) : (State.useSeq q s).mem.peers = s.mem.peers := by
  simp [State.useSeq]

@[simp] theorem peers_plateArrives (p : PosIx) (h : Handle) (r : Record) (s : State) :
    (State.plateArrives p h r s).mem.peers = s.mem.peers := by
  simp only [State.plateArrives]
  repeat' split
  all_goals simp

@[simp] theorem peers_arrived (p : PosIx) (seq : BitVec 16) (s : State) :
    (State.arrived p seq s).mem.peers = s.mem.peers := by
  simp only [State.arrived]
  repeat' split
  all_goals simp

@[simp] theorem peers_retire (p : PosIx) (h : Handle) (r : Record) (s : State) :
    (State.retire p h r s).mem.peers = s.mem.peers := by
  simp [State.retire]

@[simp] theorem peers_plateTaken (p : PosIx) (h : Handle) (r : Record) (s : State) :
    (State.plateTaken p h r s).mem.peers = s.mem.peers := by
  simp only [State.plateTaken]
  repeat' split
  all_goals simp

@[simp] theorem peers_rushRecord (h : Handle) (r : Record) (s : State) :
    (State.rushRecord h r s).mem.peers = s.mem.peers := by
  simp only [State.rushRecord]
  repeat' split
  all_goals simp

@[simp] theorem peers_wrongCode (s : State) : (State.wrongCode s).mem.peers = s.mem.peers := by
  simp [State.wrongCode]

@[simp] theorem peers_scrapPosition (p : Option PosIx) (s : State) :
    (State.scrapPosition p s).mem.peers = s.mem.peers := by
  simp only [State.scrapPosition]
  repeat' split
  all_goals simp

@[simp] theorem peers_stopLocate (h : Handle) (s : State) : (State.stopLocate h s).mem.peers = s.mem.peers := by
  simp [State.stopLocate]

@[simp] theorem peers_adoptRecord (h : Handle) (r : Record) (s : State) :
    (State.adoptRecord h r s).mem.peers = s.mem.peers := by
  simp [State.adoptRecord]

@[simp] theorem peers_adopt (h : Handle) (r : Record) (s : State) : (State.adopt h r s).mem.peers = s.mem.peers := by
  simp only [State.adopt]
  repeat' split
  all_goals simp

@[simp] theorem peers_setIlk (p : PosIx) (level : Bool) (s : State) :
    (State.setIlk p level s).mem.peers = s.mem.peers := by
  simp [State.setIlk]

@[simp] theorem peers_pauseStep (p : PosIx) (s : State) : (State.pauseStep p s).mem.peers = s.mem.peers := by
  simp only [State.pauseStep]
  repeat' split
  all_goals simp

@[simp] theorem peers_resumeStep (p : PosIx) (s : State) : (State.resumeStep p s).mem.peers = s.mem.peers := by
  simp only [State.resumeStep]
  repeat' split
  all_goals simp

@[simp] theorem peers_sendLeave (s : State) : (State.sendLeave s).mem.peers = s.mem.peers := by
  simp [State.sendLeave]

end Sys2Proof.Machine
end

