-- ==== Sys2Proof/Laws/FramePort.lean ====
section
/-! SUPPORT. Which operations leave the machine port alone: one lemma per operation, proved in the order the operations are built in. -/

namespace Sys2Proof.Machine

@[simp] theorem port_ite (c : Prop) [Decidable c] (x y : State) : (if c then x else y).port = if c then x.port else y.port := by
  split <;> rfl

@[simp] theorem port_foldl {α} (f : State → α → State) (hf : ∀ s a, (f s a).port = s.port) (l : List α) (s : State) :
    (l.foldl f s).port = s.port := by
  induction l generalizing s with
  | nil => rfl
  | cons a l ih => rw [List.foldl_cons, ih, hf]

@[simp] theorem port_updRec (h : Handle) (f : Record → Record) (s : State) : (State.updRec h f s).port = s.port := by
  simp only [State.updRec]
  repeat' split
  all_goals simp

@[simp] theorem port_vacateOpt (p : Option PosIx) (st : PosState) (s : State) :
    (State.vacate? p st s).port = s.port := by
  simp only [State.vacate?]
  repeat' split
  all_goals simp

@[simp] theorem port_queueFrame (o : Origin) (f : Frame) (s : State) : (State.queueFrame o f s).port = s.port := by
  simp only [State.queueFrame]
  repeat' split
  all_goals simp

@[simp] theorem port_withdrawTx (o : Origin) (s : State) : (State.withdrawTx o s).port = s.port := by
  simp only [State.withdrawTx]
  repeat' split
  all_goals simp

@[simp] theorem port_replaceTx (o : Origin) (f : Frame) (s : State) : (State.replaceTx o f s).port = s.port := by
  simp only [State.replaceTx]
  repeat' split
  all_goals simp

@[simp] theorem port_queueOrReplace (o : Origin) (f : Frame) (s : State) :
    (State.queueOrReplace o f s).port = s.port := by
  simp only [State.queueOrReplace]
  repeat' split
  all_goals simp

@[simp] theorem port_clearTx (s : State) : (State.clearTx s).port = s.port := by
  simp [State.clearTx]

@[simp] theorem port_queueAnswer (f : Frame) (s : State) : (State.queueAnswer f s).port = s.port := by
  simp only [State.queueAnswer]
  repeat' split
  all_goals simp

@[simp] theorem port_withdrawAnswers (cond : Frame → Bool) (s : State) :
    (State.withdrawAnswers cond s).port = s.port := by
  simp only [State.withdrawAnswers]
  apply port_foldl
  intro s i
  repeat' split
  all_goals simp

@[simp] theorem port_queueClaim (p : PosIx) (s : State) : (State.queueClaim p s).port = s.port := by
  simp [State.queueClaim]

@[simp] theorem port_askClaim (p : PosIx) (s : State) : (State.askClaim p s).port = s.port := by
  simp only [State.askClaim]
  repeat' split
  all_goals simp

@[simp] theorem port_queueRelease (p : PosIx) (s : State) : (State.queueRelease p s).port = s.port := by
  simp [State.queueRelease]

@[simp] theorem port_giveUpClaim (p : PosIx) (s : State) : (State.giveUpClaim p s).port = s.port := by
  simp only [State.giveUpClaim]
  repeat' split
  all_goals simp

@[simp] theorem port_giveUpClaimOpt (p : Option PosIx) (s : State) : (State.giveUpClaim? p s).port = s.port := by
  simp only [State.giveUpClaim?]
  repeat' split
  all_goals simp

@[simp] theorem port_claimWithdrawn (p : PosIx) (s : State) : (State.claimWithdrawn p s).port = s.port := by
  simp only [State.claimWithdrawn]
  repeat' split
  all_goals simp

@[simp] theorem port_pumpWaits (h : Handle) (ws : List SlotWait) (s : State) :
    (State.pumpWaits h ws s).port = s.port := by
  induction ws generalizing s with
  | nil => simp [State.pumpWaits]
  | cons w ws ih => simp only [State.pumpWaits]; split <;> simp [ih]

@[simp] theorem port_pumpSlot (h : Handle) (s : State) : (State.pumpSlot h s).port = s.port := by
  simp only [State.pumpSlot]
  repeat' split
  all_goals simp

@[simp] theorem port_sendSlot (h : Handle) (w : SlotWait) (s : State) : (State.sendSlot h w s).port = s.port := by
  simp [State.sendSlot]

@[simp] theorem port_dropWaits (h : Handle) (w : SlotWait) (s : State) : (State.dropWaits h w s).port = s.port := by
  simp [State.dropWaits]

@[simp] theorem port_withdrawSlot (h : Handle) (k : FrameKind) (s : State) :
    (State.withdrawSlot h k s).port = s.port := by
  simp only [State.withdrawSlot]
  repeat' split
  all_goals simp

@[simp] theorem port_roundFrom (h : Handle) (k : Nat) (s : State) : (State.roundFrom h k s).port = s.port := by
  simp only [State.roundFrom]
  repeat' split
  all_goals simp

@[simp] theorem port_startRound (h : Handle) (s : State) : (State.startRound h s).port = s.port := by
  simp only [State.startRound]
  repeat' split
  all_goals simp

@[simp] theorem port_withdrawBooks (h : Handle) (s : State) : (State.withdrawBooks h s).port = s.port := by
  simp [State.withdrawBooks]

@[simp] theorem port_failCandidate (h : Handle) (s : State) : (State.failCandidate h s).port = s.port := by
  simp only [State.failCandidate]
  repeat' split
  all_goals simp

@[simp] theorem port_sendRenewal (h : Handle) (s : State) : (State.sendRenewal h s).port = s.port := by
  simp only [State.sendRenewal]
  repeat' split
  all_goals simp

@[simp] theorem port_endBooking (h : Handle) (s : State) : (State.endBooking h s).port = s.port := by
  simp only [State.endBooking]
  repeat' split
  all_goals simp

@[simp] theorem port_startTransfer (h : Handle) (s : State) : (State.startTransfer h s).port = s.port := by
  simp only [State.startTransfer]
  repeat' split
  all_goals simp

@[simp] theorem port_stopTransfer (h : Handle) (s : State) : (State.stopTransfer h s).port = s.port := by
  simp [State.stopTransfer]

@[simp] theorem port_stopPositionOpt (p : Option PosIx) (s : State) : (State.stopPosition? p s).port = s.port := by
  simp only [State.stopPosition?]
  repeat' split
  all_goals simp

@[simp] theorem port_judgeReady (h : Handle) (s : State) : (State.judgeReady h s).port = s.port := by
  simp only [State.judgeReady]
  repeat' split
  all_goals simp

@[simp] theorem port_claimStands (p : PosIx) (st : ClaimState) (s : State) :
    (State.claimStands p st s).port = s.port := by
  simp only [State.claimStands]
  repeat' split
  all_goals simp

@[simp] theorem port_ownRelease (payload : List Byte) (s : State) : (State.ownRelease payload s).port = s.port := by
  simp only [State.ownRelease]
  repeat' split
  all_goals simp

@[simp] theorem port_setStatus (cond : Booking → Bool) (st : BookingStatus) (s : State) :
    (State.setStatus cond st s).port = s.port := by
  simp [State.setStatus]

@[simp] theorem port_deleteRecord (h : Handle) (s : State) : (State.deleteRecord h s).port = s.port := by
  simp [State.deleteRecord]

@[simp] theorem port_answerRefused (a : Addr) (t : Tag) (r : Reason) (s : State) :
    (State.answerRefused a t r s).port = s.port := by
  simp [State.answerRefused]

@[simp] theorem port_renewEntry (a : Addr) (q : BookRequest) (b : Booking) (s : State) :
    (State.renewEntry a q b s).port = s.port := by
  simp [State.renewEntry]

@[simp] theorem port_completeImage (b : Booking) (im : List Byte) (s : State) :
    (State.completeImage b im s).port = s.port := by
  simp only [State.completeImage]
  repeat' split
  all_goals simp

@[simp] theorem port_takePart (b : Booking) (a : Assembly) (s : State) : (State.takePart b a s).port = s.port := by
  simp only [State.takePart]
  repeat' split
  all_goals simp

@[simp] theorem port_rejectOpen (b : Booking) (s : State) : (State.rejectOpen b s).port = s.port := by
  simp only [State.rejectOpen]
  repeat' split
  all_goals simp

@[simp] theorem port_takeFirstPart (a : Addr) (c : CarryPart) (s : State) :
    (State.takeFirstPart a c s).port = s.port := by
  simp only [State.takeFirstPart]
  repeat' split
  all_goals simp

@[simp] theorem port_takeLaterPart (a : Addr) (c : CarryPart) (s : State) :
    (State.takeLaterPart a c s).port = s.port := by
  simp only [State.takeLaterPart]
  repeat' split
  all_goals simp

@[simp] theorem port_takeCarry (a : Addr) (c : CarryPart) (s : State) : (State.takeCarry a c s).port = s.port := by
  simp only [State.takeCarry]
  repeat' split
  all_goals simp

@[simp] theorem port_takeBooked (a : Addr) (t : Tag) (p : PosIx) (s : State) :
    (State.takeBooked a t p s).port = s.port := by
  simp only [State.takeBooked]
  repeat' split
  all_goals simp

@[simp] theorem port_answerLocate (a : Addr) (t : Tag) (s : State) : (State.answerLocate a t s).port = s.port := by
  simp only [State.answerLocate]
  repeat' split
  all_goals simp

@[simp] theorem port_clearOutbound (s : State) (p : PosIx) : (State.clearOutbound s p).port = s.port := by
  simp only [State.clearOutbound]
  repeat' split
  all_goals simp

@[simp] theorem port_restartRound (a : Addr) (s : State) (h : Handle) : (State.restartRound a s h).port = s.port := by
  simp only [State.restartRound]
  repeat' split
  all_goals simp

@[simp] theorem port_restartRounds (a : Addr) (q : PresenceReport) (s : State) :
    (State.restartRounds a q s).port = s.port := by
  simp only [State.restartRounds]
  repeat' split
  all_goals simp

@[simp] theorem port_noteSender (a : Addr) (s : State) : (State.noteSender a s).port = s.port := by
  simp only [State.noteSender]
  repeat' split
  all_goals simp

@[simp] theorem port_sendUpkeep (f : Frame) (s : State) : (State.sendUpkeep f s).port = s.port := by
  simp only [State.sendUpkeep]
  repeat' split
  all_goals simp

@[simp] theorem port_pumpUpkeep (s : State) : (State.pumpUpkeep s).port = s.port := by
  simp only [State.pumpUpkeep]
  repeat' split
  all_goals simp

@[simp] theorem port_withdrawUpkeep (kinds : List FrameKind) (s : State) :
    (State.withdrawUpkeep kinds s).port = s.port := by
  simp only [State.withdrawUpkeep]
  repeat' split
  all_goals simp

@[simp] theorem port_stopServing (s : State) : (State.stopServing s).port = s.port := by
  simp [State.stopServing]

@[simp] theorem port_stopServingOf (a : Addr) (s : State) : (State.stopServingOf a s).port = s.port := by
  simp only [State.stopServingOf]
  repeat' split
  all_goals simp

@[simp] theorem port_leaveQueue (a : Addr) (s : State) : (State.leaveQueue a s).port = s.port := by
  simp [State.leaveQueue]

@[simp] theorem port_enterQueue (a : Addr) (s : State) : (State.enterQueue a s).port = s.port := by
  simp only [State.enterQueue]
  repeat' split
  all_goals simp

@[simp] theorem port_judgeProvider (a : Addr) (s : State) : (State.judgeProvider a s).port = s.port := by
  simp only [State.judgeProvider]
  repeat' split
  all_goals simp

@[simp] theorem port_tryServe (s : State) : (State.tryServe s).port = s.port := by
  simp only [State.tryServe]
  repeat' split
  all_goals simp

@[simp] theorem port_snapAppeared (s : State) : (State.snapAppeared s).port = s.port := by
  simp only [State.snapAppeared]
  repeat' split
  all_goals simp

@[simp] theorem port_startJoin (s : State) : (State.startJoin s).port = s.port := by
  simp [State.startJoin]

@[simp] theorem port_joinedRecord (s : State) (h : Handle) : (State.joinedRecord s h).port = s.port := by
  simp only [State.joinedRecord]
  repeat' split
  all_goals simp

@[simp] theorem port_joinedPosition (s : State) (p : PosIx) : (State.joinedPosition s p).port = s.port := by
  simp only [State.joinedPosition]
  repeat' split
  all_goals simp

@[simp] theorem port_loadSnapshot (n : SnapIn) (s : State) : (State.loadSnapshot n s).port = s.port := by
  simp [State.loadSnapshot]

@[simp] theorem port_beginTx (s : State) : (State.beginTx s).port = s.port := by
  simp only [State.beginTx]
  repeat' split
  all_goals simp

@[simp] theorem port_pumpOrigin (o : Origin) (s : State) : (State.pumpOrigin o s).port = s.port := by
  simp only [State.pumpOrigin]
  repeat' split
  all_goals simp

@[simp] theorem port_finishOwn (own : OwnTx) (s : State) : (State.finishOwn own s).port = s.port := by
  simp only [State.finishOwn]
  repeat' split
  all_goals simp

@[simp] theorem port_noteBar (k : FrameKind) (payload : List Byte) (s : State) :
    (State.noteBar k payload s).port = s.port := by
  simp only [State.noteBar]
  repeat' split
  all_goals simp

@[simp] theorem port_takenSaved (own : OwnTx) (s : State) : (State.takenSaved own s).port = s.port := by
  simp only [State.takenSaved]
  repeat' split
  all_goals simp

@[simp] theorem port_appearUndefined (sender : Addr) (s : State) : (State.appearUndefined sender s).port = s.port := by
  simp only [State.appearUndefined]
  repeat' split
  all_goals simp

@[simp] theorem port_bookAppeared (own : OwnTx) (dest : BitVec 5) (q : BookRequest) (s : State) :
    (State.bookAppeared own dest q s).port = s.port := by
  simp only [State.bookAppeared]
  repeat' split
  all_goals simp

@[simp] theorem port_bookedAppeared (dest : BitVec 5) (t : Tag) (s : State) :
    (State.bookedAppeared dest t s).port = s.port := by
  simp [State.bookedAppeared]

@[simp] theorem port_onBooked (own : OwnTx) (sender : Addr) (dest : BitVec 5) (payload : List Byte) (s : State) :
    (State.onBooked own sender dest payload s).port = s.port := by
  simp only [State.onBooked]
  repeat' split
  all_goals simp

@[simp] theorem port_locateAppeared (t : Tag) (s : State) : (State.locateAppeared t s).port = s.port := by
  simp only [State.locateAppeared]
  repeat' split
  all_goals simp

@[simp] theorem port_onLocate (own : OwnTx) (sender : Addr) (payload : List Byte) (s : State) :
    (State.onLocate own sender payload s).port = s.port := by
  simp only [State.onLocate]
  repeat' split
  all_goals simp

@[simp] theorem port_carryAppeared (own : OwnTx) (index : Nat) (s : State) :
    (State.carryAppeared own index s).port = s.port := by
  simp only [State.carryAppeared]
  repeat' split
  all_goals simp

@[simp] theorem port_onCarry (own : OwnTx) (sender : Addr) (dest : BitVec 5) (payload : List Byte) (s : State) :
    (State.onCarry own sender dest payload s).port = s.port := by
  simp only [State.onCarry]
  repeat' split
  all_goals simp

@[simp] theorem port_answerExpired (h : Handle) (s : State) : (State.answerExpired h s).port = s.port := by
  simp only [State.answerExpired]
  repeat' split
  all_goals simp

@[simp] theorem port_partGapExpired (p : PosIx) (s : State) : (State.partGapExpired p s).port = s.port := by
  simp only [State.partGapExpired]
  repeat' split
  all_goals simp

@[simp] theorem port_departureExpired (a : Addr) (s : State) : (State.departureExpired a s).port = s.port := by
  simp only [State.departureExpired]
  repeat' split
  all_goals simp

@[simp] theorem port_presenceExpired (s : State) : (State.presenceExpired s).port = s.port := by
  simp only [State.presenceExpired]
  repeat' split
  all_goals simp

@[simp] theorem port_advancePos (s : State) (p : PosIx) : (State.advancePos s p).port = s.port := by
  simp only [State.advancePos]
  repeat' split
  all_goals simp

@[simp] theorem port_advance (s : State) : (State.advance s).port = s.port := by
  simp [State.advance]

@[simp] theorem port_fireDeparture (s : State) (a : Addr) : (State.fireDeparture s a).port = s.port := by
  simp only [State.fireDeparture]
  repeat' split
  all_goals simp

@[simp] theorem port_pauseForPower (s : State) (p : PosIx) : (State.pauseForPower s p).port = s.port := by
  simp only [State.pauseForPower]
  repeat' split
  all_goals simp

@[simp] theorem port_beginWrite (s : State) : (State.beginWrite s).port = s.port := by
  simp only [State.beginWrite]
  repeat' split
  all_goals simp

@[simp] theorem port_endWrite (s : State) : (State.endWrite s).port = s.port := by
  simp only [State.endWrite]
  repeat' split
  all_goals simp

@[simp] theorem port_restorePosition (im : List Byte) (s : State) (p : PosIx) :
    (State.restorePosition im s p).port = s.port := by
  simp only [State.restorePosition]
  repeat' split
  all_goals simp

@[simp] theorem port_cleanLink (s : State) (h : Handle) : (State.cleanLink s h).port = s.port := by
  simp [State.cleanLink]

@[simp] theorem port_restoreArrival (s : State) (h : Handle) : (State.restoreArrival s h).port = s.port := by
  simp only [State.restoreArrival]
  repeat' split
  all_goals simp

@[simp] theorem port_rebuildFreeList (s : State) : (State.rebuildFreeList s).port = s.port := by
  simp [State.rebuildFreeList]

@[simp] theorem port_openPositions (s : State) : (State.openPositions s).port = s.port := by
  simp [State.openPositions]

@[simp] theorem port_scrapPosition (p : Option PosIx) (s : State) : (State.scrapPosition p s).port = s.port := by
  simp only [State.scrapPosition]
  repeat' split
  all_goals simp

@[simp] theorem port_stopLocate (h : Handle) (s : State) : (State.stopLocate h s).port = s.port := by
  simp [State.stopLocate]

@[simp] theorem port_pauseStep (p : PosIx) (s : State) : (State.pauseStep p s).port = s.port := by
  simp only [State.pauseStep]
  repeat' split
  all_goals simp

@[simp] theorem port_resumeStep (p : PosIx) (s : State) : (State.resumeStep p s).port = s.port := by
  simp only [State.resumeStep]
  repeat' split
  all_goals simp

@[simp] theorem port_departureDue (a : Addr) (s : State) : (State.departureDue a s).port = s.port := by
  simp [State.departureDue]

@[simp] theorem port_sendLeave (s : State) : (State.sendLeave s).port = s.port := by
  simp [State.sendLeave]

end Sys2Proof.Machine
end

