-- ==== Sys2Proof/Laws/FrameRushQueue.lean ====
section
/-! SUPPORT. Which operations leave the rush group of the arrival queue alone: one lemma per operation, proved in the order the operations are built in. -/

namespace Sys2Proof.Machine

@[simp] theorem rushQueue_ite (c : Prop) [Decidable c] (x y : State) : (if c then x else y).store.rushQueue = if c then x.store.rushQueue else y.store.rushQueue := by
  split <;> rfl

@[simp] theorem rushQueue_foldl {α} (f : State → α → State) (hf : ∀ s a, (f s a).store.rushQueue = s.store.rushQueue) (l : List α) (s : State) :
    (l.foldl f s).store.rushQueue = s.store.rushQueue := by
  induction l generalizing s with
  | nil => rfl
  | cons a l ih => rw [List.foldl_cons, ih, hf]

@[simp] theorem rushQueue_setSlot (h : Handle) (x : Slot) (s : State) :
    (State.setSlot h x s).store.rushQueue = s.store.rushQueue := by
  simp [State.setSlot]

@[simp] theorem rushQueue_setRec (h : Handle) (r : Record) (s : State) :
    (State.setRec h r s).store.rushQueue = s.store.rushQueue := by
  simp [State.setRec]

@[simp] theorem rushQueue_updRec (h : Handle) (f : Record → Record) (s : State) :
    (State.updRec h f s).store.rushQueue = s.store.rushQueue := by
  simp only [State.updRec]
  repeat' split
  all_goals simp

@[simp] theorem rushQueue_setWaits (h : Handle) (ws : List SlotWait) (s : State) :
    (State.setWaits h ws s).store.rushQueue = s.store.rushQueue := by
  simp [State.setWaits]

@[simp] theorem rushQueue_freeSlot (h : Handle) (s : State) :
    (State.freeSlot h s).store.rushQueue = s.store.rushQueue := by
  simp [State.freeSlot]

@[simp] theorem rushQueue_updPos (p : PosIx) (f : Position → Position) (s : State) :
    (State.updPos p f s).store.rushQueue = s.store.rushQueue := by
  simp [State.updPos]

@[simp] theorem rushQueue_vacate (p : PosIx) (st : PosState) (s : State) :
    (State.vacate p st s).store.rushQueue = s.store.rushQueue := by
  simp [State.vacate]

@[simp] theorem rushQueue_vacateOpt (p : Option PosIx) (st : PosState) (s : State) :
    (State.vacate? p st s).store.rushQueue = s.store.rushQueue := by
  simp only [State.vacate?]
  repeat' split
  all_goals simp

@[simp] theorem rushQueue_alarm (f : Alarms → Alarms) (s : State) :
    (State.alarm f s).store.rushQueue = s.store.rushQueue := by
  simp [State.alarm]

@[simp] theorem rushQueue_post (e : Event) (s : State) : (State.post e s).store.rushQueue = s.store.rushQueue := by
  simp only [State.post]
  repeat' split
  all_goals simp

@[simp] theorem rushQueue_postLineState (c : Cause) (s : State) :
    (State.postLineState c s).store.rushQueue = s.store.rushQueue := by
  simp [State.postLineState]

@[simp] theorem rushQueue_respond (st : Status) (data : BitVec 24) (s : State) :
    (State.respond st data s).store.rushQueue = s.store.rushQueue := by
  simp [State.respond]

@[simp] theorem rushQueue_ok (d2 d1 d0 : Byte) (s : State) :
    (State.ok d2 d1 d0 s).store.rushQueue = s.store.rushQueue := by
  simp [State.ok]

@[simp] theorem rushQueue_refuse (r : Reason) (d0 : Byte) (s : State) :
    (State.refuse r d0 s).store.rushQueue = s.store.rushQueue := by
  simp [State.refuse]

@[simp] theorem rushQueue_badArgument (code : Byte) (s : State) :
    (State.badArgument code s).store.rushQueue = s.store.rushQueue := by
  simp [State.badArgument]

@[simp] theorem rushQueue_deliver (s : State) : (State.deliver s).store.rushQueue = s.store.rushQueue := by
  simp [State.deliver]

@[simp] theorem rushQueue_stage (bs : List Byte) (s : State) :
    (State.stage bs s).store.rushQueue = s.store.rushQueue := by
  simp [State.stage]

@[simp] theorem rushQueue_queueFrame (o : Origin) (f : Frame) (s : State) :
    (State.queueFrame o f s).store.rushQueue = s.store.rushQueue := by
  simp only [State.queueFrame]
  repeat' split
  all_goals simp

@[simp] theorem rushQueue_setTx (l : List TxEntry) (s : State) :
    (State.setTx l s).store.rushQueue = s.store.rushQueue := by
  simp [State.setTx]

@[simp] theorem rushQueue_removeTx (o : Origin) (s : State) :
    (State.removeTx o s).store.rushQueue = s.store.rushQueue := by
  simp [State.removeTx]

@[simp] theorem rushQueue_updTx (o : Origin) (f : TxEntry → TxEntry) (s : State) :
    (State.updTx o f s).store.rushQueue = s.store.rushQueue := by
  simp [State.updTx]

@[simp] theorem rushQueue_withdrawTx (o : Origin) (s : State) :
    (State.withdrawTx o s).store.rushQueue = s.store.rushQueue := by
  simp only [State.withdrawTx]
  repeat' split
  all_goals simp

@[simp] theorem rushQueue_replaceTx (o : Origin) (f : Frame) (s : State) :
    (State.replaceTx o f s).store.rushQueue = s.store.rushQueue := by
  simp only [State.replaceTx]
  repeat' split
  all_goals simp

@[simp] theorem rushQueue_queueOrReplace (o : Origin) (f : Frame) (s : State) :
    (State.queueOrReplace o f s).store.rushQueue = s.store.rushQueue := by
  simp only [State.queueOrReplace]
  repeat' split
  all_goals simp

@[simp] theorem rushQueue_clearTx (s : State) : (State.clearTx s).store.rushQueue = s.store.rushQueue := by
  simp [State.clearTx]

@[simp] theorem rushQueue_queueAnswer (f : Frame) (s : State) :
    (State.queueAnswer f s).store.rushQueue = s.store.rushQueue := by
  simp only [State.queueAnswer]
  repeat' split
  all_goals simp

@[simp] theorem rushQueue_withdrawAnswers (cond : Frame → Bool) (s : State) :
    (State.withdrawAnswers cond s).store.rushQueue = s.store.rushQueue := by
  simp only [State.withdrawAnswers]
  apply rushQueue_foldl
  intro s i
  repeat' split
  all_goals simp

@[simp] theorem rushQueue_judgeSlots (s : State) : (State.judgeSlots s).store.rushQueue = s.store.rushQueue := by
  simp only [State.judgeSlots]
  repeat' split
  all_goals simp

@[simp] theorem rushQueue_failAttempt (s : State) : (State.failAttempt s).store.rushQueue = s.store.rushQueue := by
  simp only [State.failAttempt]
  repeat' split
  all_goals simp

@[simp] theorem rushQueue_countCrcError (s : State) : (State.countCrcError s).store.rushQueue = s.store.rushQueue := by
  simp only [State.countCrcError]
  repeat' split
  all_goals simp

@[simp] theorem rushQueue_setClaim (p : PosIx) (c : ClaimState) (s : State) :
    (State.setClaim p c s).store.rushQueue = s.store.rushQueue := by
  simp [State.setClaim]

@[simp] theorem rushQueue_setRemembered (p : PosIx) (b : Bool) (s : State) :
    (State.setRemembered p b s).store.rushQueue = s.store.rushQueue := by
  simp [State.setRemembered]

@[simp] theorem rushQueue_queueClaim (p : PosIx) (s : State) :
    (State.queueClaim p s).store.rushQueue = s.store.rushQueue := by
  simp [State.queueClaim]

@[simp] theorem rushQueue_askClaim (p : PosIx) (s : State) :
    (State.askClaim p s).store.rushQueue = s.store.rushQueue := by
  simp only [State.askClaim]
  repeat' split
  all_goals simp

@[simp] theorem rushQueue_queueRelease (p : PosIx) (s : State) :
    (State.queueRelease p s).store.rushQueue = s.store.rushQueue := by
  simp [State.queueRelease]

@[simp] theorem rushQueue_giveUpClaim (p : PosIx) (s : State) :
    (State.giveUpClaim p s).store.rushQueue = s.store.rushQueue := by
  simp only [State.giveUpClaim]
  repeat' split
  all_goals simp

@[simp] theorem rushQueue_giveUpClaimOpt (p : Option PosIx) (s : State) :
    (State.giveUpClaim? p s).store.rushQueue = s.store.rushQueue := by
  simp only [State.giveUpClaim?]
  repeat' split
  all_goals simp

@[simp] theorem rushQueue_claimWithdrawn (p : PosIx) (s : State) :
    (State.claimWithdrawn p s).store.rushQueue = s.store.rushQueue := by
  simp only [State.claimWithdrawn]
  repeat' split
  all_goals simp

@[simp] theorem rushQueue_dropClaims (s : State) : (State.dropClaims s).store.rushQueue = s.store.rushQueue := by
  simp [State.dropClaims]

@[simp] theorem rushQueue_pumpWaits (h : Handle) (ws : List SlotWait) (s : State) :
    (State.pumpWaits h ws s).store.rushQueue = s.store.rushQueue := by
  induction ws generalizing s with
  | nil => simp [State.pumpWaits]
  | cons w ws ih => simp only [State.pumpWaits]; split <;> simp [ih]

@[simp] theorem rushQueue_pumpSlot (h : Handle) (s : State) :
    (State.pumpSlot h s).store.rushQueue = s.store.rushQueue := by
  simp only [State.pumpSlot]
  repeat' split
  all_goals simp

@[simp] theorem rushQueue_sendSlot (h : Handle) (w : SlotWait) (s : State) :
    (State.sendSlot h w s).store.rushQueue = s.store.rushQueue := by
  simp [State.sendSlot]

@[simp] theorem rushQueue_dropWaits (h : Handle) (w : SlotWait) (s : State) :
    (State.dropWaits h w s).store.rushQueue = s.store.rushQueue := by
  simp [State.dropWaits]

@[simp] theorem rushQueue_withdrawSlot (h : Handle) (k : FrameKind) (s : State) :
    (State.withdrawSlot h k s).store.rushQueue = s.store.rushQueue := by
  simp only [State.withdrawSlot]
  repeat' split
  all_goals simp

@[simp] theorem rushQueue_roundFrom (h : Handle) (k : Nat) (s : State) :
    (State.roundFrom h k s).store.rushQueue = s.store.rushQueue := by
  simp only [State.roundFrom]
  repeat' split
  all_goals simp

@[simp] theorem rushQueue_startRound (h : Handle) (s : State) :
    (State.startRound h s).store.rushQueue = s.store.rushQueue := by
  simp only [State.startRound]
  repeat' split
  all_goals simp

@[simp] theorem rushQueue_withdrawBooks (h : Handle) (s : State) :
    (State.withdrawBooks h s).store.rushQueue = s.store.rushQueue := by
  simp [State.withdrawBooks]

@[simp] theorem rushQueue_failCandidate (h : Handle) (s : State) :
    (State.failCandidate h s).store.rushQueue = s.store.rushQueue := by
  simp only [State.failCandidate]
  repeat' split
  all_goals simp

@[simp] theorem rushQueue_sendRenewal (h : Handle) (s : State) :
    (State.sendRenewal h s).store.rushQueue = s.store.rushQueue := by
  simp only [State.sendRenewal]
  repeat' split
  all_goals simp

@[simp] theorem rushQueue_endBooking (h : Handle) (s : State) :
    (State.endBooking h s).store.rushQueue = s.store.rushQueue := by
  simp only [State.endBooking]
  repeat' split
  all_goals simp

@[simp] theorem rushQueue_startTransfer (h : Handle) (s : State) :
    (State.startTransfer h s).store.rushQueue = s.store.rushQueue := by
  simp only [State.startTransfer]
  repeat' split
  all_goals simp

@[simp] theorem rushQueue_stopTransfer (h : Handle) (s : State) :
    (State.stopTransfer h s).store.rushQueue = s.store.rushQueue := by
  simp [State.stopTransfer]

@[simp] theorem rushQueue_stopPositionOpt (p : Option PosIx) (s : State) :
    (State.stopPosition? p s).store.rushQueue = s.store.rushQueue := by
  simp only [State.stopPosition?]
  repeat' split
  all_goals simp

@[simp] theorem rushQueue_judgeReady (h : Handle) (s : State) :
    (State.judgeReady h s).store.rushQueue = s.store.rushQueue := by
  simp only [State.judgeReady]
  repeat' split
  all_goals simp

@[simp] theorem rushQueue_startStep (p : PosIx) (h : Handle) (s : State) :
    (State.startStep p h s).store.rushQueue = s.store.rushQueue := by
  simp only [State.startStep]
  repeat' split
  all_goals simp

@[simp] theorem rushQueue_tellGrant (p : PosIx) (s : State) :
    (State.tellGrant p s).store.rushQueue = s.store.rushQueue := by
  simp only [State.tellGrant]
  repeat' split
  all_goals simp

@[simp] theorem rushQueue_tellEntry (s : State) (e : ClaimEntry) :
    (State.tellEntry s e).store.rushQueue = s.store.rushQueue := by
  simp only [State.tellEntry]
  repeat' split
  all_goals simp

@[simp] theorem rushQueue_tellGrants (l : List ClaimEntry) (s : State) :
    (State.tellGrants l s).store.rushQueue = s.store.rushQueue := by
  exact rushQueue_foldl _ rushQueue_tellEntry l s

@[simp] theorem rushQueue_claimStands (p : PosIx) (st : ClaimState) (s : State) :
    (State.claimStands p st s).store.rushQueue = s.store.rushQueue := by
  simp only [State.claimStands]
  repeat' split
  all_goals simp

@[simp] theorem rushQueue_ownRelease (payload : List Byte) (s : State) :
    (State.ownRelease payload s).store.rushQueue = s.store.rushQueue := by
  simp only [State.ownRelease]
  repeat' split
  all_goals simp

@[simp] theorem rushQueue_dropTable (s : State) : (State.dropTable s).store.rushQueue = s.store.rushQueue := by
  simp [State.dropTable]

@[simp] theorem rushQueue_setStatus (cond : Booking → Bool) (st : BookingStatus) (s : State) :
    (State.setStatus cond st s).store.rushQueue = s.store.rushQueue := by
  simp [State.setStatus]

@[simp] theorem rushQueue_deleteRecord (h : Handle) (s : State) :
    (State.deleteRecord h s).store.rushQueue = s.store.rushQueue := by
  simp [State.deleteRecord]

@[simp] theorem rushQueue_answerRefused (a : Addr) (t : Tag) (r : Reason) (s : State) :
    (State.answerRefused a t r s).store.rushQueue = s.store.rushQueue := by
  simp [State.answerRefused]

@[simp] theorem rushQueue_reserve (a : Addr) (q : BookRequest) (p : PosIx) (s : State) :
    (State.reserve a q p s).store.rushQueue = s.store.rushQueue := by
  simp only [State.reserve]
  split
  · rfl
  · rename_i h t e
    have ht : t.store.rushQueue = s.store.rushQueue := by
      simp only [State.takeSlot] at e
      split at e
      · simp only [Option.some.injEq, Prod.mk.injEq] at e
        rw [← e.2]
        try rfl
      · contradiction
    simp [ht]

@[simp] theorem rushQueue_renewEntry (a : Addr) (q : BookRequest) (b : Booking) (s : State) :
    (State.renewEntry a q b s).store.rushQueue = s.store.rushQueue := by
  simp [State.renewEntry]

@[simp] theorem rushQueue_takeBook (a : Addr) (q : BookRequest) (s : State) :
    (State.takeBook a q s).store.rushQueue = s.store.rushQueue := by
  simp only [State.takeBook]
  repeat' split
  all_goals simp

@[simp] theorem rushQueue_completeImage (b : Booking) (im : List Byte) (s : State) :
    (State.completeImage b im s).store.rushQueue = s.store.rushQueue := by
  simp only [State.completeImage]
  repeat' split
  all_goals simp

@[simp] theorem rushQueue_takePart (b : Booking) (a : Assembly) (s : State) :
    (State.takePart b a s).store.rushQueue = s.store.rushQueue := by
  simp only [State.takePart]
  repeat' split
  all_goals simp

@[simp] theorem rushQueue_rejectOpen (b : Booking) (s : State) :
    (State.rejectOpen b s).store.rushQueue = s.store.rushQueue := by
  simp only [State.rejectOpen]
  repeat' split
  all_goals simp

@[simp] theorem rushQueue_takeFirstPart (a : Addr) (c : CarryPart) (s : State) :
    (State.takeFirstPart a c s).store.rushQueue = s.store.rushQueue := by
  simp only [State.takeFirstPart]
  repeat' split
  all_goals simp

@[simp] theorem rushQueue_takeLaterPart (a : Addr) (c : CarryPart) (s : State) :
    (State.takeLaterPart a c s).store.rushQueue = s.store.rushQueue := by
  simp only [State.takeLaterPart]
  repeat' split
  all_goals simp

@[simp] theorem rushQueue_takeCarry (a : Addr) (c : CarryPart) (s : State) :
    (State.takeCarry a c s).store.rushQueue = s.store.rushQueue := by
  simp only [State.takeCarry]
  repeat' split
  all_goals simp

@[simp] theorem rushQueue_takeBooked (a : Addr) (t : Tag) (p : PosIx) (s : State) :
    (State.takeBooked a t p s).store.rushQueue = s.store.rushQueue := by
  simp only [State.takeBooked]
  repeat' split
  all_goals simp

@[simp] theorem rushQueue_handOver (a : Addr) (t : Tag) (s : State) :
    (State.handOver a t s).store.rushQueue = s.store.rushQueue := by
  simp only [State.handOver]
  repeat' split
  all_goals simp

@[simp] theorem rushQueue_found (a : Addr) (t : Tag) (s : State) :
    (State.found a t s).store.rushQueue = s.store.rushQueue := by
  simp only [State.found]
  repeat' split
  all_goals simp

@[simp] theorem rushQueue_answerLocate (a : Addr) (t : Tag) (s : State) :
    (State.answerLocate a t s).store.rushQueue = s.store.rushQueue := by
  simp only [State.answerLocate]
  repeat' split
  all_goals simp

@[simp] theorem rushQueue_clearOutbound (s : State) (p : PosIx) :
    (State.clearOutbound s p).store.rushQueue = s.store.rushQueue := by
  simp only [State.clearOutbound]
  repeat' split
  all_goals simp

@[simp] theorem rushQueue_updPeer (a : Addr) (f : Peer → Peer) (s : State) :
    (State.updPeer a f s).store.rushQueue = s.store.rushQueue := by
  simp [State.updPeer]

@[simp] theorem rushQueue_setLine (l : LineState) (s : State) :
    (State.setLine l s).store.rushQueue = s.store.rushQueue := by
  simp [State.setLine]

@[simp] theorem rushQueue_peerGone (a : Addr) (c : GoneCause) (s : State) :
    (State.peerGone a c s).store.rushQueue = s.store.rushQueue := by
  simp only [State.peerGone]
  repeat' split
  all_goals simp

@[simp] theorem rushQueue_postPeerJoined (a : Addr) (s : State) :
    (State.postPeerJoined a s).store.rushQueue = s.store.rushQueue := by
  simp [State.postPeerJoined]

@[simp] theorem rushQueue_peerJoins (a : Addr) (role : Role) (s : State) :
    (State.peerJoins a role s).store.rushQueue = s.store.rushQueue := by
  simp [State.peerJoins]

@[simp] theorem rushQueue_applyPresence (a : Addr) (q : PresenceReport) (s : State) :
    (State.applyPresence a q s).store.rushQueue = s.store.rushQueue := by
  simp only [State.applyPresence]
  repeat' split
  all_goals simp

@[simp] theorem rushQueue_restartRound (a : Addr) (s : State) (h : Handle) :
    (State.restartRound a s h).store.rushQueue = s.store.rushQueue := by
  simp only [State.restartRound]
  repeat' split
  all_goals simp

@[simp] theorem rushQueue_restartRounds (a : Addr) (q : PresenceReport) (s : State) :
    (State.restartRounds a q s).store.rushQueue = s.store.rushQueue := by
  simp only [State.restartRounds]
  repeat' split
  all_goals simp

@[simp] theorem rushQueue_noteSender (a : Addr) (s : State) :
    (State.noteSender a s).store.rushQueue = s.store.rushQueue := by
  simp only [State.noteSender]
  repeat' split
  all_goals simp

@[simp] theorem rushQueue_sendUpkeep (f : Frame) (s : State) :
    (State.sendUpkeep f s).store.rushQueue = s.store.rushQueue := by
  simp only [State.sendUpkeep]
  repeat' split
  all_goals simp

@[simp] theorem rushQueue_pumpUpkeep (s : State) : (State.pumpUpkeep s).store.rushQueue = s.store.rushQueue := by
  simp only [State.pumpUpkeep]
  repeat' split
  all_goals simp

@[simp] theorem rushQueue_withdrawUpkeep (kinds : List FrameKind) (s : State) :
    (State.withdrawUpkeep kinds s).store.rushQueue = s.store.rushQueue := by
  simp only [State.withdrawUpkeep]
  repeat' split
  all_goals simp

@[simp] theorem rushQueue_stopServing (s : State) : (State.stopServing s).store.rushQueue = s.store.rushQueue := by
  simp [State.stopServing]

@[simp] theorem rushQueue_stopServingOf (a : Addr) (s : State) :
    (State.stopServingOf a s).store.rushQueue = s.store.rushQueue := by
  simp only [State.stopServingOf]
  repeat' split
  all_goals simp

@[simp] theorem rushQueue_setJoinQueue (l : List Joiner) (s : State) :
    (State.setJoinQueue l s).store.rushQueue = s.store.rushQueue := by
  simp [State.setJoinQueue]

@[simp] theorem rushQueue_leaveQueue (a : Addr) (s : State) :
    (State.leaveQueue a s).store.rushQueue = s.store.rushQueue := by
  simp [State.leaveQueue]

@[simp] theorem rushQueue_enterQueue (a : Addr) (s : State) :
    (State.enterQueue a s).store.rushQueue = s.store.rushQueue := by
  simp only [State.enterQueue]
  repeat' split
  all_goals simp

@[simp] theorem rushQueue_judgeProvider (a : Addr) (s : State) :
    (State.judgeProvider a s).store.rushQueue = s.store.rushQueue := by
  simp only [State.judgeProvider]
  repeat' split
  all_goals simp

@[simp] theorem rushQueue_tryServe (s : State) : (State.tryServe s).store.rushQueue = s.store.rushQueue := by
  simp only [State.tryServe]
  repeat' split
  all_goals simp

@[simp] theorem rushQueue_snapAppeared (s : State) : (State.snapAppeared s).store.rushQueue = s.store.rushQueue := by
  simp only [State.snapAppeared]
  repeat' split
  all_goals simp

@[simp] theorem rushQueue_rejoin (c : Cause) (s : State) : (State.rejoin c s).store.rushQueue = s.store.rushQueue := by
  simp only [State.rejoin]
  repeat' split
  all_goals simp

@[simp] theorem rushQueue_enterJoining (c : Cause) (s : State) :
    (State.enterJoining c s).store.rushQueue = s.store.rushQueue := by
  simp [State.enterJoining]

@[simp] theorem rushQueue_startJoin (s : State) : (State.startJoin s).store.rushQueue = s.store.rushQueue := by
  simp [State.startJoin]

@[simp] theorem rushQueue_bufferFrame (f : BufferedFrame) (s : State) :
    (State.bufferFrame f s).store.rushQueue = s.store.rushQueue := by
  simp only [State.bufferFrame]
  repeat' split
  all_goals simp

@[simp] theorem rushQueue_joinedRecord (s : State) (h : Handle) :
    (State.joinedRecord s h).store.rushQueue = s.store.rushQueue := by
  simp only [State.joinedRecord]
  repeat' split
  all_goals simp

@[simp] theorem rushQueue_joinedPosition (s : State) (p : PosIx) :
    (State.joinedPosition s p).store.rushQueue = s.store.rushQueue := by
  simp only [State.joinedPosition]
  repeat' split
  all_goals simp

@[simp] theorem rushQueue_completeJoin (c : Cause) (s : State) :
    (State.completeJoin c s).store.rushQueue = s.store.rushQueue := by
  simp [State.completeJoin]

@[simp] theorem rushQueue_loadSnapshot (n : SnapIn) (s : State) :
    (State.loadSnapshot n s).store.rushQueue = s.store.rushQueue := by
  simp [State.loadSnapshot]

@[simp] theorem rushQueue_listFrame (f : BufferedFrame) (s : State) :
    (State.listFrame f s).store.rushQueue = s.store.rushQueue := by
  simp only [State.listFrame]
  repeat' split
  all_goals simp

@[simp] theorem rushQueue_replayFrame (s : State) (f : BufferedFrame) :
    (State.replayFrame s f).store.rushQueue = s.store.rushQueue := by
  simp [State.replayFrame]

@[simp] theorem rushQueue_finishSnapshot (n : SnapIn) (s : State) :
    (State.finishSnapshot n s).store.rushQueue = s.store.rushQueue := by
  simp [State.finishSnapshot]

@[simp] theorem rushQueue_firstStation (s : State) : (State.firstStation s).store.rushQueue = s.store.rushQueue := by
  simp [State.firstStation]

@[simp] theorem rushQueue_enterMismatch (s : State) : (State.enterMismatch s).store.rushQueue = s.store.rushQueue := by
  simp [State.enterMismatch]

@[simp] theorem rushQueue_takeHead (sender : Addr) (q : SnapHead) (s : State) :
    (State.takeHead sender q s).store.rushQueue = s.store.rushQueue := by
  simp only [State.takeHead]
  repeat' split
  all_goals simp

@[simp] theorem rushQueue_takeSnapPart (index : Nat) (content : List Byte) (s : State) :
    (State.takeSnapPart index content s).store.rushQueue = s.store.rushQueue := by
  simp only [State.takeSnapPart]
  repeat' split
  all_goals simp

@[simp] theorem rushQueue_setInTx (x : InTx) (s : State) : (State.setInTx x s).store.rushQueue = s.store.rushQueue := by
  simp [State.setInTx]

@[simp] theorem rushQueue_beginTx (s : State) : (State.beginTx s).store.rushQueue = s.store.rushQueue := by
  simp only [State.beginTx]
  repeat' split
  all_goals simp

@[simp] theorem rushQueue_restartStall (s : State) : (State.restartStall s).store.rushQueue = s.store.rushQueue := by
  simp [State.restartStall]

@[simp] theorem rushQueue_pumpOrigin (o : Origin) (s : State) :
    (State.pumpOrigin o s).store.rushQueue = s.store.rushQueue := by
  simp only [State.pumpOrigin]
  repeat' split
  all_goals simp

@[simp] theorem rushQueue_finishOwn (own : OwnTx) (s : State) :
    (State.finishOwn own s).store.rushQueue = s.store.rushQueue := by
  simp only [State.finishOwn]
  repeat' split
  all_goals simp

@[simp] theorem rushQueue_dropFrame (o : Origin) (s : State) :
    (State.dropFrame o s).store.rushQueue = s.store.rushQueue := by
  simp [State.dropFrame]

@[simp] theorem rushQueue_countVoid (s : State) : (State.countVoid s).store.rushQueue = s.store.rushQueue := by
  simp only [State.countVoid]
  repeat' split
  all_goals simp

@[simp] theorem rushQueue_dropHead (s : State) : (State.dropHead s).store.rushQueue = s.store.rushQueue := by
  simp only [State.dropHead]
  repeat' split
  all_goals simp

@[simp] theorem rushQueue_countClean (s : State) : (State.countClean s).store.rushQueue = s.store.rushQueue := by
  simp [State.countClean]

@[simp] theorem rushQueue_noteBar (k : FrameKind) (payload : List Byte) (s : State) :
    (State.noteBar k payload s).store.rushQueue = s.store.rushQueue := by
  simp only [State.noteBar]
  repeat' split
  all_goals simp

@[simp] theorem rushQueue_takenSaved (own : OwnTx) (s : State) :
    (State.takenSaved own s).store.rushQueue = s.store.rushQueue := by
  simp only [State.takenSaved]
  repeat' split
  all_goals simp

@[simp] theorem rushQueue_appearUndefined (sender : Addr) (s : State) :
    (State.appearUndefined sender s).store.rushQueue = s.store.rushQueue := by
  simp only [State.appearUndefined]
  repeat' split
  all_goals simp

@[simp] theorem rushQueue_onSnapHead (own : OwnTx) (sender : Addr) (payload : List Byte) (s : State) :
    (State.onSnapHead own sender payload s).store.rushQueue = s.store.rushQueue := by
  simp only [State.onSnapHead]
  repeat' split
  all_goals simp

@[simp] theorem rushQueue_onSnapPart (own : OwnTx) (payload : List Byte) (s : State) :
    (State.onSnapPart own payload s).store.rushQueue = s.store.rushQueue := by
  simp only [State.onSnapPart]
  repeat' split
  all_goals simp

@[simp] theorem rushQueue_onPresence (sender : Addr) (payload : List Byte) (s : State) :
    (State.onPresence sender payload s).store.rushQueue = s.store.rushQueue := by
  simp only [State.onPresence]
  repeat' split
  all_goals simp

@[simp] theorem rushQueue_bookAppeared (own : OwnTx) (dest : BitVec 5) (q : BookRequest) (s : State) :
    (State.bookAppeared own dest q s).store.rushQueue = s.store.rushQueue := by
  simp only [State.bookAppeared]
  repeat' split
  all_goals simp

@[simp] theorem rushQueue_onBook (own : OwnTx) (sender : Addr) (dest : BitVec 5) (payload : List Byte) (s : State) :
    (State.onBook own sender dest payload s).store.rushQueue = s.store.rushQueue := by
  simp only [State.onBook]
  repeat' split
  all_goals simp

@[simp] theorem rushQueue_bookedAppeared (dest : BitVec 5) (t : Tag) (s : State) :
    (State.bookedAppeared dest t s).store.rushQueue = s.store.rushQueue := by
  simp [State.bookedAppeared]

@[simp] theorem rushQueue_onBooked (own : OwnTx) (sender : Addr) (dest : BitVec 5) (payload : List Byte) (s : State) :
    (State.onBooked own sender dest payload s).store.rushQueue = s.store.rushQueue := by
  simp only [State.onBooked]
  repeat' split
  all_goals simp

@[simp] theorem rushQueue_onFound (sender : Addr) (dest : BitVec 5) (payload : List Byte) (s : State) :
    (State.onFound sender dest payload s).store.rushQueue = s.store.rushQueue := by
  simp only [State.onFound]
  repeat' split
  all_goals simp

@[simp] theorem rushQueue_locateAppeared (t : Tag) (s : State) :
    (State.locateAppeared t s).store.rushQueue = s.store.rushQueue := by
  simp only [State.locateAppeared]
  repeat' split
  all_goals simp

@[simp] theorem rushQueue_onLocate (own : OwnTx) (sender : Addr) (payload : List Byte) (s : State) :
    (State.onLocate own sender payload s).store.rushQueue = s.store.rushQueue := by
  simp only [State.onLocate]
  repeat' split
  all_goals simp

@[simp] theorem rushQueue_carryAppeared (own : OwnTx) (index : Nat) (s : State) :
    (State.carryAppeared own index s).store.rushQueue = s.store.rushQueue := by
  simp only [State.carryAppeared]
  repeat' split
  all_goals simp

@[simp] theorem rushQueue_onCarry (own : OwnTx) (sender : Addr) (dest : BitVec 5) (payload : List Byte) (s : State) :
    (State.onCarry own sender dest payload s).store.rushQueue = s.store.rushQueue := by
  simp only [State.onCarry]
  repeat' split
  all_goals simp

@[simp] theorem rushQueue_answerExpired (h : Handle) (s : State) :
    (State.answerExpired h s).store.rushQueue = s.store.rushQueue := by
  simp only [State.answerExpired]
  repeat' split
  all_goals simp

@[simp] theorem rushQueue_partGapExpired (p : PosIx) (s : State) :
    (State.partGapExpired p s).store.rushQueue = s.store.rushQueue := by
  simp only [State.partGapExpired]
  repeat' split
  all_goals simp

@[simp] theorem rushQueue_handOffExpired (h : Handle) (s : State) :
    (State.handOffExpired h s).store.rushQueue = s.store.rushQueue := by
  simp only [State.handOffExpired]
  repeat' split
  all_goals simp

@[simp] theorem rushQueue_locateExpired (h : Handle) (s : State) :
    (State.locateExpired h s).store.rushQueue = s.store.rushQueue := by
  simp only [State.locateExpired]
  repeat' split
  all_goals simp

@[simp] theorem rushQueue_departureExpired (a : Addr) (s : State) :
    (State.departureExpired a s).store.rushQueue = s.store.rushQueue := by
  simp only [State.departureExpired]
  repeat' split
  all_goals simp

@[simp] theorem rushQueue_presenceExpired (s : State) :
    (State.presenceExpired s).store.rushQueue = s.store.rushQueue := by
  simp only [State.presenceExpired]
  repeat' split
  all_goals simp

@[simp] theorem rushQueue_joinWaitExpired (s : State) :
    (State.joinWaitExpired s).store.rushQueue = s.store.rushQueue := by
  simp only [State.joinWaitExpired]
  repeat' split
  all_goals simp

@[simp] theorem rushQueue_snapGapExpired (s : State) :
    (State.snapGapExpired s).store.rushQueue = s.store.rushQueue := by
  simp only [State.snapGapExpired]
  repeat' split
  all_goals simp

@[simp] theorem rushQueue_backoffExpired (s : State) :
    (State.backoffExpired s).store.rushQueue = s.store.rushQueue := by
  simp only [State.backoffExpired]
  repeat' split
  all_goals simp

@[simp] theorem rushQueue_advancePos (s : State) (p : PosIx) :
    (State.advancePos s p).store.rushQueue = s.store.rushQueue := by
  simp only [State.advancePos]
  repeat' split
  all_goals simp

@[simp] theorem rushQueue_advance (s : State) : (State.advance s).store.rushQueue = s.store.rushQueue := by
  simp [State.advance]

@[simp] theorem rushQueue_fireDeparture (s : State) (a : Addr) :
    (State.fireDeparture s a).store.rushQueue = s.store.rushQueue := by
  simp only [State.fireDeparture]
  repeat' split
  all_goals simp

@[simp] theorem rushQueue_pauseForPower (s : State) (p : PosIx) :
    (State.pauseForPower s p).store.rushQueue = s.store.rushQueue := by
  simp only [State.pauseForPower]
  repeat' split
  all_goals simp

@[simp] theorem rushQueue_beginWrite (s : State) : (State.beginWrite s).store.rushQueue = s.store.rushQueue := by
  simp only [State.beginWrite]
  repeat' split
  all_goals simp

@[simp] theorem rushQueue_endWrite (s : State) : (State.endWrite s).store.rushQueue = s.store.rushQueue := by
  simp only [State.endWrite]
  repeat' split
  all_goals simp

@[simp] theorem rushQueue_restorePosition (im : List Byte) (s : State) (p : PosIx) :
    (State.restorePosition im s p).store.rushQueue = s.store.rushQueue := by
  simp only [State.restorePosition]
  repeat' split
  all_goals simp

@[simp] theorem rushQueue_cleanLink (s : State) (h : Handle) :
    (State.cleanLink s h).store.rushQueue = s.store.rushQueue := by
  simp [State.cleanLink]

@[simp] theorem rushQueue_postRestoreHeld (s : State) (x : Handle × Nat) :
    (State.postRestoreHeld s x).store.rushQueue = s.store.rushQueue := by
  simp only [State.postRestoreHeld]
  repeat' split
  all_goals simp

@[simp] theorem rushQueue_rebuildFreeList (s : State) :
    (State.rebuildFreeList s).store.rushQueue = s.store.rushQueue := by
  simp [State.rebuildFreeList]

@[simp] theorem rushQueue_invalidate (s : State) : (State.invalidate s).store.rushQueue = s.store.rushQueue := by
  simp [State.invalidate]

@[simp] theorem rushQueue_postRestored (n : Nat) (s : State) :
    (State.postRestored n s).store.rushQueue = s.store.rushQueue := by
  simp [State.postRestored]

@[simp] theorem rushQueue_openPositions (s : State) : (State.openPositions s).store.rushQueue = s.store.rushQueue := by
  simp [State.openPositions]

@[simp] theorem rushQueue_configWrite (item : Byte) (v : BitVec 16) (s : State) :
    (State.configWrite item v s).store.rushQueue = s.store.rushQueue := by
  simp only [State.configWrite]
  repeat' split
  all_goals simp

@[simp] theorem rushQueue_useSeq (q : BitVec 16) (s : State) :
    (State.useSeq q s).store.rushQueue = s.store.rushQueue := by
  simp [State.useSeq]

@[simp] theorem rushQueue_retire (p : PosIx) (h : Handle) (r : Record) (s : State) :
    (State.retire p h r s).store.rushQueue = s.store.rushQueue := by
  simp [State.retire]

@[simp] theorem rushQueue_wrongCode (s : State) : (State.wrongCode s).store.rushQueue = s.store.rushQueue := by
  simp [State.wrongCode]

@[simp] theorem rushQueue_scrapPosition (p : Option PosIx) (s : State) :
    (State.scrapPosition p s).store.rushQueue = s.store.rushQueue := by
  simp only [State.scrapPosition]
  repeat' split
  all_goals simp

@[simp] theorem rushQueue_stopLocate (h : Handle) (s : State) :
    (State.stopLocate h s).store.rushQueue = s.store.rushQueue := by
  simp [State.stopLocate]

@[simp] theorem rushQueue_setIlk (p : PosIx) (level : Bool) (s : State) :
    (State.setIlk p level s).store.rushQueue = s.store.rushQueue := by
  simp [State.setIlk]

@[simp] theorem rushQueue_pauseStep (p : PosIx) (s : State) :
    (State.pauseStep p s).store.rushQueue = s.store.rushQueue := by
  simp only [State.pauseStep]
  repeat' split
  all_goals simp

@[simp] theorem rushQueue_resumeStep (p : PosIx) (s : State) :
    (State.resumeStep p s).store.rushQueue = s.store.rushQueue := by
  simp only [State.resumeStep]
  repeat' split
  all_goals simp

@[simp] theorem rushQueue_departureDue (a : Addr) (s : State) :
    (State.departureDue a s).store.rushQueue = s.store.rushQueue := by
  simp [State.departureDue]

@[simp] theorem rushQueue_sendLeave (s : State) : (State.sendLeave s).store.rushQueue = s.store.rushQueue := by
  simp [State.sendLeave]

end Sys2Proof.Machine
end

