-- ==== Sys2Proof/Laws/FrameRxErrors.lean ====
section
/-! SUPPORT. Which operations leave the receive error count alone: one lemma per operation, proved in the order the operations are built in. -/

namespace Sys2Proof.Machine

@[simp] theorem rxErrors_ite (c : Prop) [Decidable c] (x y : State) : (if c then x else y).lbi.rxErrors = if c then x.lbi.rxErrors else y.lbi.rxErrors := by
  split <;> rfl

@[simp] theorem rxErrors_foldl {α} (f : State → α → State) (hf : ∀ s a, (f s a).lbi.rxErrors = s.lbi.rxErrors) (l : List α) (s : State) :
    (l.foldl f s).lbi.rxErrors = s.lbi.rxErrors := by
  induction l generalizing s with
  | nil => rfl
  | cons a l ih => rw [List.foldl_cons, ih, hf]

@[simp] theorem rxErrors_setSlot (h : Handle) (x : Slot) (s : State) :
    (State.setSlot h x s).lbi.rxErrors = s.lbi.rxErrors := by
  simp [State.setSlot]

@[simp] theorem rxErrors_setRec (h : Handle) (r : Record) (s : State) :
    (State.setRec h r s).lbi.rxErrors = s.lbi.rxErrors := by
  simp [State.setRec]

@[simp] theorem rxErrors_updRec (h : Handle) (f : Record → Record) (s : State) :
    (State.updRec h f s).lbi.rxErrors = s.lbi.rxErrors := by
  simp only [State.updRec]
  repeat' split
  all_goals simp

@[simp] theorem rxErrors_setWaits (h : Handle) (ws : List SlotWait) (s : State) :
    (State.setWaits h ws s).lbi.rxErrors = s.lbi.rxErrors := by
  simp [State.setWaits]

@[simp] theorem rxErrors_freeSlot (h : Handle) (s : State) : (State.freeSlot h s).lbi.rxErrors = s.lbi.rxErrors := by
  simp [State.freeSlot]

@[simp] theorem rxErrors_enqueue (h : Handle) (rush : Bool) (s : State) :
    (State.enqueue h rush s).lbi.rxErrors = s.lbi.rxErrors := by
  simp only [State.enqueue]
  repeat' split
  all_goals simp

@[simp] theorem rxErrors_unqueue (h : Handle) (s : State) : (State.unqueue h s).lbi.rxErrors = s.lbi.rxErrors := by
  simp [State.unqueue]

@[simp] theorem rxErrors_updPos (p : PosIx) (f : Position → Position) (s : State) :
    (State.updPos p f s).lbi.rxErrors = s.lbi.rxErrors := by
  simp [State.updPos]

@[simp] theorem rxErrors_vacate (p : PosIx) (st : PosState) (s : State) :
    (State.vacate p st s).lbi.rxErrors = s.lbi.rxErrors := by
  simp [State.vacate]

@[simp] theorem rxErrors_vacateOpt (p : Option PosIx) (st : PosState) (s : State) :
    (State.vacate? p st s).lbi.rxErrors = s.lbi.rxErrors := by
  simp only [State.vacate?]
  repeat' split
  all_goals simp

@[simp] theorem rxErrors_alarm (f : Alarms → Alarms) (s : State) : (State.alarm f s).lbi.rxErrors = s.lbi.rxErrors := by
  simp [State.alarm]

@[simp] theorem rxErrors_post (e : Event) (s : State) : (State.post e s).lbi.rxErrors = s.lbi.rxErrors := by
  simp only [State.post]
  repeat' split
  all_goals simp

@[simp] theorem rxErrors_postLineState (c : Cause) (s : State) :
    (State.postLineState c s).lbi.rxErrors = s.lbi.rxErrors := by
  simp [State.postLineState]

@[simp] theorem rxErrors_respond (st : Status) (data : BitVec 24) (s : State) :
    (State.respond st data s).lbi.rxErrors = s.lbi.rxErrors := by
  simp [State.respond]

@[simp] theorem rxErrors_ok (d2 d1 d0 : Byte) (s : State) : (State.ok d2 d1 d0 s).lbi.rxErrors = s.lbi.rxErrors := by
  simp [State.ok]

@[simp] theorem rxErrors_refuse (r : Reason) (d0 : Byte) (s : State) :
    (State.refuse r d0 s).lbi.rxErrors = s.lbi.rxErrors := by
  simp [State.refuse]

@[simp] theorem rxErrors_badArgument (code : Byte) (s : State) :
    (State.badArgument code s).lbi.rxErrors = s.lbi.rxErrors := by
  simp [State.badArgument]

@[simp] theorem rxErrors_deliver (s : State) : (State.deliver s).lbi.rxErrors = s.lbi.rxErrors := by
  simp [State.deliver]

@[simp] theorem rxErrors_stage (bs : List Byte) (s : State) : (State.stage bs s).lbi.rxErrors = s.lbi.rxErrors := by
  simp [State.stage]

@[simp] theorem rxErrors_queueFrame (o : Origin) (f : Frame) (s : State) :
    (State.queueFrame o f s).lbi.rxErrors = s.lbi.rxErrors := by
  simp only [State.queueFrame]
  repeat' split
  all_goals simp

@[simp] theorem rxErrors_setTx (l : List TxEntry) (s : State) : (State.setTx l s).lbi.rxErrors = s.lbi.rxErrors := by
  simp [State.setTx]

@[simp] theorem rxErrors_removeTx (o : Origin) (s : State) : (State.removeTx o s).lbi.rxErrors = s.lbi.rxErrors := by
  simp [State.removeTx]

@[simp] theorem rxErrors_updTx (o : Origin) (f : TxEntry → TxEntry) (s : State) :
    (State.updTx o f s).lbi.rxErrors = s.lbi.rxErrors := by
  simp [State.updTx]

@[simp] theorem rxErrors_withdrawTx (o : Origin) (s : State) :
    (State.withdrawTx o s).lbi.rxErrors = s.lbi.rxErrors := by
  simp only [State.withdrawTx]
  repeat' split
  all_goals simp

@[simp] theorem rxErrors_replaceTx (o : Origin) (f : Frame) (s : State) :
    (State.replaceTx o f s).lbi.rxErrors = s.lbi.rxErrors := by
  simp only [State.replaceTx]
  repeat' split
  all_goals simp

@[simp] theorem rxErrors_queueOrReplace (o : Origin) (f : Frame) (s : State) :
    (State.queueOrReplace o f s).lbi.rxErrors = s.lbi.rxErrors := by
  simp only [State.queueOrReplace]
  repeat' split
  all_goals simp

@[simp] theorem rxErrors_clearTx (s : State) : (State.clearTx s).lbi.rxErrors = s.lbi.rxErrors := by
  simp [State.clearTx]

@[simp] theorem rxErrors_queueAnswer (f : Frame) (s : State) :
    (State.queueAnswer f s).lbi.rxErrors = s.lbi.rxErrors := by
  simp only [State.queueAnswer]
  repeat' split
  all_goals simp

@[simp] theorem rxErrors_withdrawAnswers (cond : Frame → Bool) (s : State) :
    (State.withdrawAnswers cond s).lbi.rxErrors = s.lbi.rxErrors := by
  simp only [State.withdrawAnswers]
  apply rxErrors_foldl
  intro s i
  repeat' split
  all_goals simp

@[simp] theorem rxErrors_judgeSlots (s : State) : (State.judgeSlots s).lbi.rxErrors = s.lbi.rxErrors := by
  simp only [State.judgeSlots]
  repeat' split
  all_goals simp

@[simp] theorem rxErrors_failAttempt (s : State) : (State.failAttempt s).lbi.rxErrors = s.lbi.rxErrors := by
  simp only [State.failAttempt]
  repeat' split
  all_goals simp

@[simp] theorem rxErrors_countCrcError (s : State) : (State.countCrcError s).lbi.rxErrors = s.lbi.rxErrors := by
  simp only [State.countCrcError]
  repeat' split
  all_goals simp

@[simp] theorem rxErrors_setClaim (p : PosIx) (c : ClaimState) (s : State) :
    (State.setClaim p c s).lbi.rxErrors = s.lbi.rxErrors := by
  simp [State.setClaim]

@[simp] theorem rxErrors_setRemembered (p : PosIx) (b : Bool) (s : State) :
    (State.setRemembered p b s).lbi.rxErrors = s.lbi.rxErrors := by
  simp [State.setRemembered]

@[simp] theorem rxErrors_queueClaim (p : PosIx) (s : State) : (State.queueClaim p s).lbi.rxErrors = s.lbi.rxErrors := by
  simp [State.queueClaim]

@[simp] theorem rxErrors_askClaim (p : PosIx) (s : State) : (State.askClaim p s).lbi.rxErrors = s.lbi.rxErrors := by
  simp only [State.askClaim]
  repeat' split
  all_goals simp

@[simp] theorem rxErrors_queueRelease (p : PosIx) (s : State) :
    (State.queueRelease p s).lbi.rxErrors = s.lbi.rxErrors := by
  simp [State.queueRelease]

@[simp] theorem rxErrors_giveUpClaim (p : PosIx) (s : State) :
    (State.giveUpClaim p s).lbi.rxErrors = s.lbi.rxErrors := by
  simp only [State.giveUpClaim]
  repeat' split
  all_goals simp

@[simp] theorem rxErrors_giveUpClaimOpt (p : Option PosIx) (s : State) :
    (State.giveUpClaim? p s).lbi.rxErrors = s.lbi.rxErrors := by
  simp only [State.giveUpClaim?]
  repeat' split
  all_goals simp

@[simp] theorem rxErrors_claimWithdrawn (p : PosIx) (s : State) :
    (State.claimWithdrawn p s).lbi.rxErrors = s.lbi.rxErrors := by
  simp only [State.claimWithdrawn]
  repeat' split
  all_goals simp

@[simp] theorem rxErrors_dropClaims (s : State) : (State.dropClaims s).lbi.rxErrors = s.lbi.rxErrors := by
  simp [State.dropClaims]

@[simp] theorem rxErrors_pumpWaits (h : Handle) (ws : List SlotWait) (s : State) :
    (State.pumpWaits h ws s).lbi.rxErrors = s.lbi.rxErrors := by
  induction ws generalizing s with
  | nil => simp [State.pumpWaits]
  | cons w ws ih => simp only [State.pumpWaits]; split <;> simp [ih]

@[simp] theorem rxErrors_pumpSlot (h : Handle) (s : State) : (State.pumpSlot h s).lbi.rxErrors = s.lbi.rxErrors := by
  simp only [State.pumpSlot]
  repeat' split
  all_goals simp

@[simp] theorem rxErrors_sendSlot (h : Handle) (w : SlotWait) (s : State) :
    (State.sendSlot h w s).lbi.rxErrors = s.lbi.rxErrors := by
  simp [State.sendSlot]

@[simp] theorem rxErrors_dropWaits (h : Handle) (w : SlotWait) (s : State) :
    (State.dropWaits h w s).lbi.rxErrors = s.lbi.rxErrors := by
  simp [State.dropWaits]

@[simp] theorem rxErrors_withdrawSlot (h : Handle) (k : FrameKind) (s : State) :
    (State.withdrawSlot h k s).lbi.rxErrors = s.lbi.rxErrors := by
  simp only [State.withdrawSlot]
  repeat' split
  all_goals simp

@[simp] theorem rxErrors_roundFrom (h : Handle) (k : Nat) (s : State) :
    (State.roundFrom h k s).lbi.rxErrors = s.lbi.rxErrors := by
  simp only [State.roundFrom]
  repeat' split
  all_goals simp

@[simp] theorem rxErrors_startRound (h : Handle) (s : State) :
    (State.startRound h s).lbi.rxErrors = s.lbi.rxErrors := by
  simp only [State.startRound]
  repeat' split
  all_goals simp

@[simp] theorem rxErrors_withdrawBooks (h : Handle) (s : State) : (State.withdrawBooks h s).lbi.rxErrors = s.lbi.rxErrors := by
  simp [State.withdrawBooks]

@[simp] theorem rxErrors_failCandidate (h : Handle) (s : State) :
    (State.failCandidate h s).lbi.rxErrors = s.lbi.rxErrors := by
  simp only [State.failCandidate]
  repeat' split
  all_goals simp

@[simp] theorem rxErrors_sendRenewal (h : Handle) (s : State) :
    (State.sendRenewal h s).lbi.rxErrors = s.lbi.rxErrors := by
  simp only [State.sendRenewal]
  repeat' split
  all_goals simp

@[simp] theorem rxErrors_endBooking (h : Handle) (s : State) :
    (State.endBooking h s).lbi.rxErrors = s.lbi.rxErrors := by
  simp only [State.endBooking]
  repeat' split
  all_goals simp

@[simp] theorem rxErrors_startTransfer (h : Handle) (s : State) :
    (State.startTransfer h s).lbi.rxErrors = s.lbi.rxErrors := by
  simp only [State.startTransfer]
  repeat' split
  all_goals simp

@[simp] theorem rxErrors_stopTransfer (h : Handle) (s : State) :
    (State.stopTransfer h s).lbi.rxErrors = s.lbi.rxErrors := by
  simp [State.stopTransfer]

@[simp] theorem rxErrors_placeOne (s : State) : (State.placeOne s).lbi.rxErrors = s.lbi.rxErrors := by
  simp only [State.placeOne]
  repeat' split
  all_goals simp

@[simp] theorem rxErrors_stopPositionOpt (p : Option PosIx) (s : State) :
    (State.stopPosition? p s).lbi.rxErrors = s.lbi.rxErrors := by
  simp only [State.stopPosition?]
  repeat' split
  all_goals simp

@[simp] theorem rxErrors_enterHeld (h : Handle) (k : DevKind) (v : BitVec 24) (leaves : Bool) (s : State) :
    (State.enterHeld h k v leaves s).lbi.rxErrors = s.lbi.rxErrors := by
  simp only [State.enterHeld]
  repeat' split
  all_goals simp

@[simp] theorem rxErrors_checkGap (h : Handle) (s : State) : (State.checkGap h s).lbi.rxErrors = s.lbi.rxErrors := by
  simp only [State.checkGap]
  repeat' split
  all_goals simp

@[simp] theorem rxErrors_judgeReady (h : Handle) (s : State) :
    (State.judgeReady h s).lbi.rxErrors = s.lbi.rxErrors := by
  simp only [State.judgeReady]
  repeat' split
  all_goals simp

@[simp] theorem rxErrors_enterChecked (h : Handle) (st : RecState) (s : State) :
    (State.enterChecked h st s).lbi.rxErrors = s.lbi.rxErrors := by
  simp [State.enterChecked]

@[simp] theorem rxErrors_enterLoaded (h : Handle) (s : State) :
    (State.enterLoaded h s).lbi.rxErrors = s.lbi.rxErrors := by
  simp [State.enterLoaded]

@[simp] theorem rxErrors_enterEnded (h : Handle) (s : State) :
    (State.enterEnded h s).lbi.rxErrors = s.lbi.rxErrors := by
  simp only [State.enterEnded]
  repeat' split
  all_goals simp

@[simp] theorem rxErrors_startStep (p : PosIx) (h : Handle) (s : State) :
    (State.startStep p h s).lbi.rxErrors = s.lbi.rxErrors := by
  simp only [State.startStep]
  repeat' split
  all_goals simp

@[simp] theorem rxErrors_tellGrant (p : PosIx) (s : State) : (State.tellGrant p s).lbi.rxErrors = s.lbi.rxErrors := by
  simp only [State.tellGrant]
  repeat' split
  all_goals simp

@[simp] theorem rxErrors_endStep (p : PosIx) (h : Handle) (s : State) :
    (State.endStep p h s).lbi.rxErrors = s.lbi.rxErrors := by
  simp only [State.endStep]
  repeat' split
  all_goals simp

@[simp] theorem rxErrors_stepFault (p : PosIx) (h : Handle) (k : DevKind) (v : BitVec 24) (s : State) :
    (State.stepFault p h k v s).lbi.rxErrors = s.lbi.rxErrors := by
  simp [State.stepFault]

@[simp] theorem rxErrors_dropBooking (h : Handle) (s : State) :
    (State.dropBooking h s).lbi.rxErrors = s.lbi.rxErrors := by
  simp only [State.dropBooking]
  repeat' split
  all_goals simp

@[simp] theorem rxErrors_tellEntry (s : State) (e : ClaimEntry) :
    (State.tellEntry s e).lbi.rxErrors = s.lbi.rxErrors := by
  simp only [State.tellEntry]
  repeat' split
  all_goals simp

@[simp] theorem rxErrors_tellGrants (l : List ClaimEntry) (s : State) :
    (State.tellGrants l s).lbi.rxErrors = s.lbi.rxErrors := by
  exact rxErrors_foldl _ rxErrors_tellEntry l s

@[simp] theorem rxErrors_reportOversize (p : PosIx) (b : BudgetIx) (s : State) :
    (State.reportOversize p b s).lbi.rxErrors = s.lbi.rxErrors := by
  simp only [State.reportOversize]
  repeat' split
  all_goals simp

@[simp] theorem rxErrors_claimStands (p : PosIx) (st : ClaimState) (s : State) :
    (State.claimStands p st s).lbi.rxErrors = s.lbi.rxErrors := by
  simp only [State.claimStands]
  repeat' split
  all_goals simp

@[simp] theorem rxErrors_ownClaim (payload : List Byte) (c : ClaimOutcome) (s : State) :
    (State.ownClaim payload c s).lbi.rxErrors = s.lbi.rxErrors := by
  simp only [State.ownClaim]
  repeat' split
  all_goals simp

@[simp] theorem rxErrors_ownRelease (payload : List Byte) (s : State) :
    (State.ownRelease payload s).lbi.rxErrors = s.lbi.rxErrors := by
  simp only [State.ownRelease]
  repeat' split
  all_goals simp

@[simp] theorem rxErrors_ownRemoved (caps : Triple) (s : State) (e : ClaimEntry) :
    (State.ownRemoved caps s e).lbi.rxErrors = s.lbi.rxErrors := by
  simp only [State.ownRemoved]
  repeat' split
  all_goals simp

@[simp] theorem rxErrors_takeReplicated (f : BufferedFrame) (own : Bool) (s : State) :
    (State.takeReplicated f own s).lbi.rxErrors = s.lbi.rxErrors := by
  simp only [State.takeReplicated]
  repeat' split
  all_goals simp

@[simp] theorem rxErrors_dropTable (s : State) : (State.dropTable s).lbi.rxErrors = s.lbi.rxErrors := by
  simp [State.dropTable]

@[simp] theorem rxErrors_setStatus (cond : Booking → Bool) (st : BookingStatus) (s : State) :
    (State.setStatus cond st s).lbi.rxErrors = s.lbi.rxErrors := by
  simp [State.setStatus]

@[simp] theorem rxErrors_deleteRecord (h : Handle) (s : State) :
    (State.deleteRecord h s).lbi.rxErrors = s.lbi.rxErrors := by
  simp [State.deleteRecord]

@[simp] theorem rxErrors_answerRefused (a : Addr) (t : Tag) (r : Reason) (s : State) :
    (State.answerRefused a t r s).lbi.rxErrors = s.lbi.rxErrors := by
  simp [State.answerRefused]

@[simp] theorem rxErrors_reserve (a : Addr) (q : BookRequest) (p : PosIx) (s : State) :
    (State.reserve a q p s).lbi.rxErrors = s.lbi.rxErrors := by
  simp only [State.reserve]
  split
  · rfl
  · rename_i h t e
    have ht : t.lbi.rxErrors = s.lbi.rxErrors := by
      simp only [State.takeSlot] at e
      split at e
      · simp only [Option.some.injEq, Prod.mk.injEq] at e
        rw [← e.2]
        try rfl
      · contradiction
    simp [ht]

@[simp] theorem rxErrors_renewEntry (a : Addr) (q : BookRequest) (b : Booking) (s : State) :
    (State.renewEntry a q b s).lbi.rxErrors = s.lbi.rxErrors := by
  simp [State.renewEntry]

@[simp] theorem rxErrors_takeBook (a : Addr) (q : BookRequest) (s : State) :
    (State.takeBook a q s).lbi.rxErrors = s.lbi.rxErrors := by
  simp only [State.takeBook]
  repeat' split
  all_goals simp

@[simp] theorem rxErrors_completeImage (b : Booking) (im : List Byte) (s : State) :
    (State.completeImage b im s).lbi.rxErrors = s.lbi.rxErrors := by
  simp only [State.completeImage]
  repeat' split
  all_goals simp

@[simp] theorem rxErrors_takePart (b : Booking) (a : Assembly) (s : State) :
    (State.takePart b a s).lbi.rxErrors = s.lbi.rxErrors := by
  simp only [State.takePart]
  repeat' split
  all_goals simp

@[simp] theorem rxErrors_rejectOpen (b : Booking) (s : State) :
    (State.rejectOpen b s).lbi.rxErrors = s.lbi.rxErrors := by
  simp only [State.rejectOpen]
  repeat' split
  all_goals simp

@[simp] theorem rxErrors_takeFirstPart (a : Addr) (c : CarryPart) (s : State) :
    (State.takeFirstPart a c s).lbi.rxErrors = s.lbi.rxErrors := by
  simp only [State.takeFirstPart]
  repeat' split
  all_goals simp

@[simp] theorem rxErrors_takeLaterPart (a : Addr) (c : CarryPart) (s : State) :
    (State.takeLaterPart a c s).lbi.rxErrors = s.lbi.rxErrors := by
  simp only [State.takeLaterPart]
  repeat' split
  all_goals simp

@[simp] theorem rxErrors_takeCarry (a : Addr) (c : CarryPart) (s : State) :
    (State.takeCarry a c s).lbi.rxErrors = s.lbi.rxErrors := by
  simp only [State.takeCarry]
  repeat' split
  all_goals simp

@[simp] theorem rxErrors_receiveRecord (f : Frame) (s : State) :
    (State.receiveRecord f s).lbi.rxErrors = s.lbi.rxErrors := by
  simp only [State.receiveRecord]
  repeat' split
  all_goals simp

@[simp] theorem rxErrors_takeBooked (a : Addr) (t : Tag) (p : PosIx) (s : State) :
    (State.takeBooked a t p s).lbi.rxErrors = s.lbi.rxErrors := by
  simp only [State.takeBooked]
  repeat' split
  all_goals simp

@[simp] theorem rxErrors_takeRefused (a : Addr) (t : Tag) (s : State) :
    (State.takeRefused a t s).lbi.rxErrors = s.lbi.rxErrors := by
  simp only [State.takeRefused]
  repeat' split
  all_goals simp

@[simp] theorem rxErrors_handOver (a : Addr) (t : Tag) (s : State) :
    (State.handOver a t s).lbi.rxErrors = s.lbi.rxErrors := by
  simp only [State.handOver]
  repeat' split
  all_goals simp

@[simp] theorem rxErrors_rejected (a : Addr) (t : Tag) (reason : Byte) (s : State) :
    (State.rejected a t reason s).lbi.rxErrors = s.lbi.rxErrors := by
  simp only [State.rejected]
  repeat' split
  all_goals simp

@[simp] theorem rxErrors_found (a : Addr) (t : Tag) (s : State) :
    (State.found a t s).lbi.rxErrors = s.lbi.rxErrors := by
  simp only [State.found]
  repeat' split
  all_goals simp

@[simp] theorem rxErrors_answerLocate (a : Addr) (t : Tag) (s : State) :
    (State.answerLocate a t s).lbi.rxErrors = s.lbi.rxErrors := by
  simp only [State.answerLocate]
  repeat' split
  all_goals simp

@[simp] theorem rxErrors_cancelBooking (a : Addr) (t : Tag) (s : State) :
    (State.cancelBooking a t s).lbi.rxErrors = s.lbi.rxErrors := by
  simp only [State.cancelBooking]
  repeat' split
  all_goals simp

@[simp] theorem rxErrors_departRecord (a : Addr) (s : State) (h : Handle) :
    (State.departRecord a s h).lbi.rxErrors = s.lbi.rxErrors := by
  simp only [State.departRecord]
  repeat' split
  all_goals simp

@[simp] theorem rxErrors_clearOutbound (s : State) (p : PosIx) :
    (State.clearOutbound s p).lbi.rxErrors = s.lbi.rxErrors := by
  simp only [State.clearOutbound]
  repeat' split
  all_goals simp

@[simp] theorem rxErrors_updPeer (a : Addr) (f : Peer → Peer) (s : State) :
    (State.updPeer a f s).lbi.rxErrors = s.lbi.rxErrors := by
  simp [State.updPeer]

@[simp] theorem rxErrors_setLine (l : LineState) (s : State) : (State.setLine l s).lbi.rxErrors = s.lbi.rxErrors := by
  simp [State.setLine]

@[simp] theorem rxErrors_peerGone (a : Addr) (c : GoneCause) (s : State) :
    (State.peerGone a c s).lbi.rxErrors = s.lbi.rxErrors := by
  simp only [State.peerGone]
  repeat' split
  all_goals simp

@[simp] theorem rxErrors_postPeerJoined (a : Addr) (s : State) :
    (State.postPeerJoined a s).lbi.rxErrors = s.lbi.rxErrors := by
  simp [State.postPeerJoined]

@[simp] theorem rxErrors_peerJoins (a : Addr) (role : Role) (s : State) :
    (State.peerJoins a role s).lbi.rxErrors = s.lbi.rxErrors := by
  simp [State.peerJoins]

@[simp] theorem rxErrors_applyPresence (a : Addr) (q : PresenceReport) (s : State) :
    (State.applyPresence a q s).lbi.rxErrors = s.lbi.rxErrors := by
  simp only [State.applyPresence]
  repeat' split
  all_goals simp

@[simp] theorem rxErrors_restartRound (a : Addr) (s : State) (h : Handle) :
    (State.restartRound a s h).lbi.rxErrors = s.lbi.rxErrors := by
  simp only [State.restartRound]
  repeat' split
  all_goals simp

@[simp] theorem rxErrors_restartRounds (a : Addr) (q : PresenceReport) (s : State) :
    (State.restartRounds a q s).lbi.rxErrors = s.lbi.rxErrors := by
  simp only [State.restartRounds]
  repeat' split
  all_goals simp

@[simp] theorem rxErrors_noteSender (a : Addr) (s : State) : (State.noteSender a s).lbi.rxErrors = s.lbi.rxErrors := by
  simp only [State.noteSender]
  repeat' split
  all_goals simp

@[simp] theorem rxErrors_sendUpkeep (f : Frame) (s : State) : (State.sendUpkeep f s).lbi.rxErrors = s.lbi.rxErrors := by
  simp only [State.sendUpkeep]
  repeat' split
  all_goals simp

@[simp] theorem rxErrors_pumpUpkeep (s : State) : (State.pumpUpkeep s).lbi.rxErrors = s.lbi.rxErrors := by
  simp only [State.pumpUpkeep]
  repeat' split
  all_goals simp

@[simp] theorem rxErrors_withdrawUpkeep (kinds : List FrameKind) (s : State) :
    (State.withdrawUpkeep kinds s).lbi.rxErrors = s.lbi.rxErrors := by
  simp only [State.withdrawUpkeep]
  repeat' split
  all_goals simp

@[simp] theorem rxErrors_stopServing (s : State) : (State.stopServing s).lbi.rxErrors = s.lbi.rxErrors := by
  simp [State.stopServing]

@[simp] theorem rxErrors_stopServingOf (a : Addr) (s : State) :
    (State.stopServingOf a s).lbi.rxErrors = s.lbi.rxErrors := by
  simp only [State.stopServingOf]
  repeat' split
  all_goals simp

@[simp] theorem rxErrors_setJoinQueue (l : List Joiner) (s : State) :
    (State.setJoinQueue l s).lbi.rxErrors = s.lbi.rxErrors := by
  simp [State.setJoinQueue]

@[simp] theorem rxErrors_leaveQueue (a : Addr) (s : State) : (State.leaveQueue a s).lbi.rxErrors = s.lbi.rxErrors := by
  simp [State.leaveQueue]

@[simp] theorem rxErrors_enterQueue (a : Addr) (s : State) : (State.enterQueue a s).lbi.rxErrors = s.lbi.rxErrors := by
  simp only [State.enterQueue]
  repeat' split
  all_goals simp

@[simp] theorem rxErrors_judgeProvider (a : Addr) (s : State) :
    (State.judgeProvider a s).lbi.rxErrors = s.lbi.rxErrors := by
  simp only [State.judgeProvider]
  repeat' split
  all_goals simp

@[simp] theorem rxErrors_tryServe (s : State) : (State.tryServe s).lbi.rxErrors = s.lbi.rxErrors := by
  simp only [State.tryServe]
  repeat' split
  all_goals simp

@[simp] theorem rxErrors_snapAppeared (s : State) : (State.snapAppeared s).lbi.rxErrors = s.lbi.rxErrors := by
  simp only [State.snapAppeared]
  repeat' split
  all_goals simp

@[simp] theorem rxErrors_rejoin (c : Cause) (s : State) : (State.rejoin c s).lbi.rxErrors = s.lbi.rxErrors := by
  simp only [State.rejoin]
  repeat' split
  all_goals simp

@[simp] theorem rxErrors_enterJoining (c : Cause) (s : State) :
    (State.enterJoining c s).lbi.rxErrors = s.lbi.rxErrors := by
  simp [State.enterJoining]

@[simp] theorem rxErrors_startJoin (s : State) : (State.startJoin s).lbi.rxErrors = s.lbi.rxErrors := by
  simp [State.startJoin]

@[simp] theorem rxErrors_bufferFrame (f : BufferedFrame) (s : State) :
    (State.bufferFrame f s).lbi.rxErrors = s.lbi.rxErrors := by
  simp only [State.bufferFrame]
  repeat' split
  all_goals simp

@[simp] theorem rxErrors_joinedRecord (s : State) (h : Handle) :
    (State.joinedRecord s h).lbi.rxErrors = s.lbi.rxErrors := by
  simp only [State.joinedRecord]
  repeat' split
  all_goals simp

@[simp] theorem rxErrors_joinedPosition (s : State) (p : PosIx) :
    (State.joinedPosition s p).lbi.rxErrors = s.lbi.rxErrors := by
  simp only [State.joinedPosition]
  repeat' split
  all_goals simp

@[simp] theorem rxErrors_completeJoin (c : Cause) (s : State) :
    (State.completeJoin c s).lbi.rxErrors = s.lbi.rxErrors := by
  simp [State.completeJoin]

@[simp] theorem rxErrors_loadSnapshot (n : SnapIn) (s : State) :
    (State.loadSnapshot n s).lbi.rxErrors = s.lbi.rxErrors := by
  simp [State.loadSnapshot]

@[simp] theorem rxErrors_listFrame (f : BufferedFrame) (s : State) :
    (State.listFrame f s).lbi.rxErrors = s.lbi.rxErrors := by
  simp only [State.listFrame]
  repeat' split
  all_goals simp

@[simp] theorem rxErrors_replayFrame (s : State) (f : BufferedFrame) :
    (State.replayFrame s f).lbi.rxErrors = s.lbi.rxErrors := by
  simp [State.replayFrame]

@[simp] theorem rxErrors_finishSnapshot (n : SnapIn) (s : State) :
    (State.finishSnapshot n s).lbi.rxErrors = s.lbi.rxErrors := by
  simp [State.finishSnapshot]

@[simp] theorem rxErrors_firstStation (s : State) : (State.firstStation s).lbi.rxErrors = s.lbi.rxErrors := by
  simp [State.firstStation]

@[simp] theorem rxErrors_lostPosition (s : State) (p : PosIx) :
    (State.lostPosition s p).lbi.rxErrors = s.lbi.rxErrors := by
  simp only [State.lostPosition]
  repeat' split
  all_goals simp

@[simp] theorem rxErrors_enterMismatch (s : State) : (State.enterMismatch s).lbi.rxErrors = s.lbi.rxErrors := by
  simp [State.enterMismatch]

@[simp] theorem rxErrors_takeHead (sender : Addr) (q : SnapHead) (s : State) :
    (State.takeHead sender q s).lbi.rxErrors = s.lbi.rxErrors := by
  simp only [State.takeHead]
  repeat' split
  all_goals simp

@[simp] theorem rxErrors_takeSnapPart (index : Nat) (content : List Byte) (s : State) :
    (State.takeSnapPart index content s).lbi.rxErrors = s.lbi.rxErrors := by
  simp only [State.takeSnapPart]
  repeat' split
  all_goals simp

@[simp] theorem rxErrors_setInTx (x : InTx) (s : State) : (State.setInTx x s).lbi.rxErrors = s.lbi.rxErrors := by
  simp [State.setInTx]

@[simp] theorem rxErrors_beginTx (s : State) : (State.beginTx s).lbi.rxErrors = s.lbi.rxErrors := by
  simp only [State.beginTx]
  repeat' split
  all_goals simp

@[simp] theorem rxErrors_restartStall (s : State) : (State.restartStall s).lbi.rxErrors = s.lbi.rxErrors := by
  simp [State.restartStall]

@[simp] theorem rxErrors_pumpOrigin (o : Origin) (s : State) :
    (State.pumpOrigin o s).lbi.rxErrors = s.lbi.rxErrors := by
  simp only [State.pumpOrigin]
  repeat' split
  all_goals simp

@[simp] theorem rxErrors_finishOwn (own : OwnTx) (s : State) :
    (State.finishOwn own s).lbi.rxErrors = s.lbi.rxErrors := by
  simp only [State.finishOwn]
  repeat' split
  all_goals simp

@[simp] theorem rxErrors_dropFrame (o : Origin) (s : State) : (State.dropFrame o s).lbi.rxErrors = s.lbi.rxErrors := by
  simp [State.dropFrame]

@[simp] theorem rxErrors_dropHead (s : State) : (State.dropHead s).lbi.rxErrors = s.lbi.rxErrors := by
  simp only [State.dropHead]
  repeat' split
  all_goals simp

@[simp] theorem rxErrors_noteBar (k : FrameKind) (payload : List Byte) (s : State) :
    (State.noteBar k payload s).lbi.rxErrors = s.lbi.rxErrors := by
  simp only [State.noteBar]
  repeat' split
  all_goals simp

@[simp] theorem rxErrors_takenSaved (own : OwnTx) (s : State) :
    (State.takenSaved own s).lbi.rxErrors = s.lbi.rxErrors := by
  simp only [State.takenSaved]
  repeat' split
  all_goals simp

@[simp] theorem rxErrors_onReplicated (k : FrameKind) (sender : Addr) (payload : List Byte) (s : State) :
    (State.onReplicated k sender payload s).lbi.rxErrors = s.lbi.rxErrors := by
  simp only [State.onReplicated]
  repeat' split
  all_goals simp

@[simp] theorem rxErrors_onSnapHead (own : OwnTx) (sender : Addr) (payload : List Byte) (s : State) :
    (State.onSnapHead own sender payload s).lbi.rxErrors = s.lbi.rxErrors := by
  simp only [State.onSnapHead]
  repeat' split
  all_goals simp

@[simp] theorem rxErrors_onSnapPart (own : OwnTx) (payload : List Byte) (s : State) :
    (State.onSnapPart own payload s).lbi.rxErrors = s.lbi.rxErrors := by
  simp only [State.onSnapPart]
  repeat' split
  all_goals simp

@[simp] theorem rxErrors_onPresence (sender : Addr) (payload : List Byte) (s : State) :
    (State.onPresence sender payload s).lbi.rxErrors = s.lbi.rxErrors := by
  simp only [State.onPresence]
  repeat' split
  all_goals simp

@[simp] theorem rxErrors_bookAppeared (own : OwnTx) (dest : BitVec 5) (q : BookRequest) (s : State) :
    (State.bookAppeared own dest q s).lbi.rxErrors = s.lbi.rxErrors := by
  simp only [State.bookAppeared]
  repeat' split
  all_goals simp

@[simp] theorem rxErrors_onBook (own : OwnTx) (sender : Addr) (dest : BitVec 5) (payload : List Byte) (s : State) :
    (State.onBook own sender dest payload s).lbi.rxErrors = s.lbi.rxErrors := by
  simp only [State.onBook]
  repeat' split
  all_goals simp

@[simp] theorem rxErrors_bookedAppeared (dest : BitVec 5) (t : Tag) (s : State) :
    (State.bookedAppeared dest t s).lbi.rxErrors = s.lbi.rxErrors := by
  simp [State.bookedAppeared]

@[simp] theorem rxErrors_onBooked (own : OwnTx) (sender : Addr) (dest : BitVec 5) (payload : List Byte) (s : State) :
    (State.onBooked own sender dest payload s).lbi.rxErrors = s.lbi.rxErrors := by
  simp only [State.onBooked]
  repeat' split
  all_goals simp

@[simp] theorem rxErrors_onRefused (sender : Addr) (dest : BitVec 5) (payload : List Byte) (s : State) :
    (State.onRefused sender dest payload s).lbi.rxErrors = s.lbi.rxErrors := by
  simp only [State.onRefused]
  repeat' split
  all_goals simp

@[simp] theorem rxErrors_onFound (sender : Addr) (dest : BitVec 5) (payload : List Byte) (s : State) :
    (State.onFound sender dest payload s).lbi.rxErrors = s.lbi.rxErrors := by
  simp only [State.onFound]
  repeat' split
  all_goals simp

@[simp] theorem rxErrors_locateAppeared (t : Tag) (s : State) :
    (State.locateAppeared t s).lbi.rxErrors = s.lbi.rxErrors := by
  simp only [State.locateAppeared]
  repeat' split
  all_goals simp

@[simp] theorem rxErrors_onLocate (own : OwnTx) (sender : Addr) (payload : List Byte) (s : State) :
    (State.onLocate own sender payload s).lbi.rxErrors = s.lbi.rxErrors := by
  simp only [State.onLocate]
  repeat' split
  all_goals simp

@[simp] theorem rxErrors_carryAppeared (own : OwnTx) (index : Nat) (s : State) :
    (State.carryAppeared own index s).lbi.rxErrors = s.lbi.rxErrors := by
  simp only [State.carryAppeared]
  repeat' split
  all_goals simp

@[simp] theorem rxErrors_onCarry (own : OwnTx) (sender : Addr) (dest : BitVec 5) (payload : List Byte) (s : State) :
    (State.onCarry own sender dest payload s).lbi.rxErrors = s.lbi.rxErrors := by
  simp only [State.onCarry]
  repeat' split
  all_goals simp

@[simp] theorem rxErrors_onTaken (sender : Addr) (dest : BitVec 5) (payload : List Byte) (s : State) :
    (State.onTaken sender dest payload s).lbi.rxErrors = s.lbi.rxErrors := by
  simp only [State.onTaken]
  repeat' split
  all_goals simp

@[simp] theorem rxErrors_countOne (p : PosIx) (h : Handle) (r : Record) (e : StepEntry) (s : State) :
    (State.countOne p h r e s).lbi.rxErrors = s.lbi.rxErrors := by
  simp only [State.countOne]
  repeat' split
  all_goals simp

@[simp] theorem rxErrors_runSecond (p : PosIx) (s : State) : (State.runSecond p s).lbi.rxErrors = s.lbi.rxErrors := by
  simp only [State.runSecond]
  repeat' split
  all_goals simp

@[simp] theorem rxErrors_pauseSecond (p : PosIx) (s : State) :
    (State.pauseSecond p s).lbi.rxErrors = s.lbi.rxErrors := by
  simp only [State.pauseSecond]
  repeat' split
  all_goals simp

@[simp] theorem rxErrors_lampSilent (p : PosIx) (s : State) : (State.lampSilent p s).lbi.rxErrors = s.lbi.rxErrors := by
  simp only [State.lampSilent]
  repeat' split
  all_goals simp

@[simp] theorem rxErrors_doseShort (p : PosIx) (s : State) : (State.doseShort p s).lbi.rxErrors = s.lbi.rxErrors := by
  simp only [State.doseShort]
  repeat' split
  all_goals simp

@[simp] theorem rxErrors_dosePulse (p : PosIx) (s : State) : (State.dosePulse p s).lbi.rxErrors = s.lbi.rxErrors := by
  simp only [State.dosePulse]
  repeat' split
  all_goals simp

@[simp] theorem rxErrors_gapSecond (h : Handle) (s : State) : (State.gapSecond h s).lbi.rxErrors = s.lbi.rxErrors := by
  simp only [State.gapSecond]
  repeat' split
  all_goals simp

@[simp] theorem rxErrors_answerExpired (h : Handle) (s : State) :
    (State.answerExpired h s).lbi.rxErrors = s.lbi.rxErrors := by
  simp only [State.answerExpired]
  repeat' split
  all_goals simp

@[simp] theorem rxErrors_partGapExpired (p : PosIx) (s : State) :
    (State.partGapExpired p s).lbi.rxErrors = s.lbi.rxErrors := by
  simp only [State.partGapExpired]
  repeat' split
  all_goals simp

@[simp] theorem rxErrors_handOffExpired (h : Handle) (s : State) :
    (State.handOffExpired h s).lbi.rxErrors = s.lbi.rxErrors := by
  simp only [State.handOffExpired]
  repeat' split
  all_goals simp

@[simp] theorem rxErrors_locateExpired (h : Handle) (s : State) :
    (State.locateExpired h s).lbi.rxErrors = s.lbi.rxErrors := by
  simp only [State.locateExpired]
  repeat' split
  all_goals simp

@[simp] theorem rxErrors_departureExpired (a : Addr) (s : State) :
    (State.departureExpired a s).lbi.rxErrors = s.lbi.rxErrors := by
  simp only [State.departureExpired]
  repeat' split
  all_goals simp

@[simp] theorem rxErrors_presenceExpired (s : State) : (State.presenceExpired s).lbi.rxErrors = s.lbi.rxErrors := by
  simp only [State.presenceExpired]
  repeat' split
  all_goals simp

@[simp] theorem rxErrors_joinWaitExpired (s : State) : (State.joinWaitExpired s).lbi.rxErrors = s.lbi.rxErrors := by
  simp only [State.joinWaitExpired]
  repeat' split
  all_goals simp

@[simp] theorem rxErrors_snapGapExpired (s : State) : (State.snapGapExpired s).lbi.rxErrors = s.lbi.rxErrors := by
  simp only [State.snapGapExpired]
  repeat' split
  all_goals simp

@[simp] theorem rxErrors_backoffExpired (s : State) : (State.backoffExpired s).lbi.rxErrors = s.lbi.rxErrors := by
  simp only [State.backoffExpired]
  repeat' split
  all_goals simp

@[simp] theorem rxErrors_advancePos (s : State) (p : PosIx) : (State.advancePos s p).lbi.rxErrors = s.lbi.rxErrors := by
  simp only [State.advancePos]
  repeat' split
  all_goals simp

@[simp] theorem rxErrors_firePos (s : State) (p : PosIx) : (State.firePos s p).lbi.rxErrors = s.lbi.rxErrors := by
  simp only [State.firePos]
  repeat' split
  all_goals simp

@[simp] theorem rxErrors_fireRec (s : State) (h : Handle) : (State.fireRec s h).lbi.rxErrors = s.lbi.rxErrors := by
  simp only [State.fireRec]
  repeat' split
  all_goals simp

@[simp] theorem rxErrors_fireDeparture (s : State) (a : Addr) :
    (State.fireDeparture s a).lbi.rxErrors = s.lbi.rxErrors := by
  simp only [State.fireDeparture]
  repeat' split
  all_goals simp

@[simp] theorem rxErrors_pauseForPower (s : State) (p : PosIx) :
    (State.pauseForPower s p).lbi.rxErrors = s.lbi.rxErrors := by
  simp only [State.pauseForPower]
  repeat' split
  all_goals simp

@[simp] theorem rxErrors_beginWrite (s : State) : (State.beginWrite s).lbi.rxErrors = s.lbi.rxErrors := by
  simp only [State.beginWrite]
  repeat' split
  all_goals simp

@[simp] theorem rxErrors_endWrite (s : State) : (State.endWrite s).lbi.rxErrors = s.lbi.rxErrors := by
  simp only [State.endWrite]
  repeat' split
  all_goals simp

@[simp] theorem rxErrors_restorePosition (im : List Byte) (s : State) (p : PosIx) :
    (State.restorePosition im s p).lbi.rxErrors = s.lbi.rxErrors := by
  simp only [State.restorePosition]
  repeat' split
  all_goals simp

@[simp] theorem rxErrors_cleanLink (s : State) (h : Handle) : (State.cleanLink s h).lbi.rxErrors = s.lbi.rxErrors := by
  simp [State.cleanLink]

@[simp] theorem rxErrors_restoreArrival (s : State) (h : Handle) :
    (State.restoreArrival s h).lbi.rxErrors = s.lbi.rxErrors := by
  simp only [State.restoreArrival]
  repeat' split
  all_goals simp

@[simp] theorem rxErrors_postRestoreHeld (s : State) (x : Handle × Nat) :
    (State.postRestoreHeld s x).lbi.rxErrors = s.lbi.rxErrors := by
  simp only [State.postRestoreHeld]
  repeat' split
  all_goals simp

@[simp] theorem rxErrors_rebuildFreeList (s : State) : (State.rebuildFreeList s).lbi.rxErrors = s.lbi.rxErrors := by
  simp [State.rebuildFreeList]

@[simp] theorem rxErrors_invalidate (s : State) : (State.invalidate s).lbi.rxErrors = s.lbi.rxErrors := by
  simp [State.invalidate]

@[simp] theorem rxErrors_postRestored (n : Nat) (s : State) :
    (State.postRestored n s).lbi.rxErrors = s.lbi.rxErrors := by
  simp [State.postRestored]

@[simp] theorem rxErrors_openPositions (s : State) : (State.openPositions s).lbi.rxErrors = s.lbi.rxErrors := by
  simp [State.openPositions]

@[simp] theorem rxErrors_configWrite (item : Byte) (v : BitVec 16) (s : State) :
    (State.configWrite item v s).lbi.rxErrors = s.lbi.rxErrors := by
  simp only [State.configWrite]
  repeat' split
  all_goals simp

@[simp] theorem rxErrors_useSeq (q : BitVec 16) (s : State) : (State.useSeq q s).lbi.rxErrors = s.lbi.rxErrors := by
  simp [State.useSeq]

@[simp] theorem rxErrors_plateArrives (p : PosIx) (h : Handle) (r : Record) (s : State) :
    (State.plateArrives p h r s).lbi.rxErrors = s.lbi.rxErrors := by
  simp only [State.plateArrives]
  repeat' split
  all_goals simp

@[simp] theorem rxErrors_arrived (p : PosIx) (seq : BitVec 16) (s : State) :
    (State.arrived p seq s).lbi.rxErrors = s.lbi.rxErrors := by
  simp only [State.arrived]
  repeat' split
  all_goals simp

@[simp] theorem rxErrors_retire (p : PosIx) (h : Handle) (r : Record) (s : State) :
    (State.retire p h r s).lbi.rxErrors = s.lbi.rxErrors := by
  simp [State.retire]

@[simp] theorem rxErrors_plateTaken (p : PosIx) (h : Handle) (r : Record) (s : State) :
    (State.plateTaken p h r s).lbi.rxErrors = s.lbi.rxErrors := by
  simp only [State.plateTaken]
  repeat' split
  all_goals simp

@[simp] theorem rxErrors_rushRecord (h : Handle) (r : Record) (s : State) :
    (State.rushRecord h r s).lbi.rxErrors = s.lbi.rxErrors := by
  simp only [State.rushRecord]
  repeat' split
  all_goals simp

@[simp] theorem rxErrors_wrongCode (s : State) : (State.wrongCode s).lbi.rxErrors = s.lbi.rxErrors := by
  simp [State.wrongCode]

@[simp] theorem rxErrors_scrapPosition (p : Option PosIx) (s : State) :
    (State.scrapPosition p s).lbi.rxErrors = s.lbi.rxErrors := by
  simp only [State.scrapPosition]
  repeat' split
  all_goals simp

@[simp] theorem rxErrors_stopLocate (h : Handle) (s : State) :
    (State.stopLocate h s).lbi.rxErrors = s.lbi.rxErrors := by
  simp [State.stopLocate]

@[simp] theorem rxErrors_adoptRecord (h : Handle) (r : Record) (s : State) :
    (State.adoptRecord h r s).lbi.rxErrors = s.lbi.rxErrors := by
  simp [State.adoptRecord]

@[simp] theorem rxErrors_adopt (h : Handle) (r : Record) (s : State) :
    (State.adopt h r s).lbi.rxErrors = s.lbi.rxErrors := by
  simp only [State.adopt]
  repeat' split
  all_goals simp

@[simp] theorem rxErrors_setIlk (p : PosIx) (level : Bool) (s : State) :
    (State.setIlk p level s).lbi.rxErrors = s.lbi.rxErrors := by
  simp [State.setIlk]

@[simp] theorem rxErrors_pauseStep (p : PosIx) (s : State) : (State.pauseStep p s).lbi.rxErrors = s.lbi.rxErrors := by
  simp only [State.pauseStep]
  repeat' split
  all_goals simp

@[simp] theorem rxErrors_resumeStep (p : PosIx) (s : State) : (State.resumeStep p s).lbi.rxErrors = s.lbi.rxErrors := by
  simp only [State.resumeStep]
  repeat' split
  all_goals simp

@[simp] theorem rxErrors_departureDue (a : Addr) (s : State) :
    (State.departureDue a s).lbi.rxErrors = s.lbi.rxErrors := by
  simp [State.departureDue]

@[simp] theorem rxErrors_sendLeave (s : State) : (State.sendLeave s).lbi.rxErrors = s.lbi.rxErrors := by
  simp [State.sendLeave]

end Sys2Proof.Machine
end

