-- ==== Sys2Proof/Laws/FrameSeqCounter.lean ====
section
/-! SUPPORT. Which operations leave the sequence counter alone: one lemma per operation, proved in the order the operations are built in. -/

namespace Sys2Proof.Machine

@[simp] theorem seqCounter_ite (c : Prop) [Decidable c] (x y : State) : (if c then x else y).store.seqCounter = if c then x.store.seqCounter else y.store.seqCounter := by
  split <;> rfl

@[simp] theorem seqCounter_foldl {α} (f : State → α → State) (hf : ∀ s a, (f s a).store.seqCounter = s.store.seqCounter) (l : List α) (s : State) :
    (l.foldl f s).store.seqCounter = s.store.seqCounter := by
  induction l generalizing s with
  | nil => rfl
  | cons a l ih => rw [List.foldl_cons, ih, hf]

@[simp] theorem seqCounter_setSlot (h : Handle) (x : Slot) (s : State) :
    (State.setSlot h x s).store.seqCounter = s.store.seqCounter := by
  simp [State.setSlot]

@[simp] theorem seqCounter_setRec (h : Handle) (r : Record) (s : State) :
    (State.setRec h r s).store.seqCounter = s.store.seqCounter := by
  simp [State.setRec]

@[simp] theorem seqCounter_updRec (h : Handle) (f : Record → Record) (s : State) :
    (State.updRec h f s).store.seqCounter = s.store.seqCounter := by
  simp only [State.updRec]
  repeat' split
  all_goals simp

@[simp] theorem seqCounter_setWaits (h : Handle) (ws : List SlotWait) (s : State) :
    (State.setWaits h ws s).store.seqCounter = s.store.seqCounter := by
  simp [State.setWaits]

@[simp] theorem seqCounter_freeSlot (h : Handle) (s : State) :
    (State.freeSlot h s).store.seqCounter = s.store.seqCounter := by
  simp [State.freeSlot]

@[simp] theorem seqCounter_enqueue (h : Handle) (rush : Bool) (s : State) :
    (State.enqueue h rush s).store.seqCounter = s.store.seqCounter := by
  simp only [State.enqueue]
  repeat' split
  all_goals simp

@[simp] theorem seqCounter_unqueue (h : Handle) (s : State) :
    (State.unqueue h s).store.seqCounter = s.store.seqCounter := by
  simp [State.unqueue]

@[simp] theorem seqCounter_updPos (p : PosIx) (f : Position → Position) (s : State) :
    (State.updPos p f s).store.seqCounter = s.store.seqCounter := by
  simp [State.updPos]

@[simp] theorem seqCounter_vacate (p : PosIx) (st : PosState) (s : State) :
    (State.vacate p st s).store.seqCounter = s.store.seqCounter := by
  simp [State.vacate]

@[simp] theorem seqCounter_vacateOpt (p : Option PosIx) (st : PosState) (s : State) :
    (State.vacate? p st s).store.seqCounter = s.store.seqCounter := by
  simp only [State.vacate?]
  repeat' split
  all_goals simp

@[simp] theorem seqCounter_alarm (f : Alarms → Alarms) (s : State) :
    (State.alarm f s).store.seqCounter = s.store.seqCounter := by
  simp [State.alarm]

@[simp] theorem seqCounter_post (e : Event) (s : State) : (State.post e s).store.seqCounter = s.store.seqCounter := by
  simp only [State.post]
  repeat' split
  all_goals simp

@[simp] theorem seqCounter_postLineState (c : Cause) (s : State) :
    (State.postLineState c s).store.seqCounter = s.store.seqCounter := by
  simp [State.postLineState]

@[simp] theorem seqCounter_respond (st : Status) (data : BitVec 24) (s : State) :
    (State.respond st data s).store.seqCounter = s.store.seqCounter := by
  simp [State.respond]

@[simp] theorem seqCounter_ok (d2 d1 d0 : Byte) (s : State) :
    (State.ok d2 d1 d0 s).store.seqCounter = s.store.seqCounter := by
  simp [State.ok]

@[simp] theorem seqCounter_refuse (r : Reason) (d0 : Byte) (s : State) :
    (State.refuse r d0 s).store.seqCounter = s.store.seqCounter := by
  simp [State.refuse]

@[simp] theorem seqCounter_badArgument (code : Byte) (s : State) :
    (State.badArgument code s).store.seqCounter = s.store.seqCounter := by
  simp [State.badArgument]

@[simp] theorem seqCounter_deliver (s : State) : (State.deliver s).store.seqCounter = s.store.seqCounter := by
  simp [State.deliver]

@[simp] theorem seqCounter_stage (bs : List Byte) (s : State) :
    (State.stage bs s).store.seqCounter = s.store.seqCounter := by
  simp [State.stage]

@[simp] theorem seqCounter_queueFrame (o : Origin) (f : Frame) (s : State) :
    (State.queueFrame o f s).store.seqCounter = s.store.seqCounter := by
  simp only [State.queueFrame]
  repeat' split
  all_goals simp

@[simp] theorem seqCounter_setTx (l : List TxEntry) (s : State) :
    (State.setTx l s).store.seqCounter = s.store.seqCounter := by
  simp [State.setTx]

@[simp] theorem seqCounter_removeTx (o : Origin) (s : State) :
    (State.removeTx o s).store.seqCounter = s.store.seqCounter := by
  simp [State.removeTx]

@[simp] theorem seqCounter_updTx (o : Origin) (f : TxEntry → TxEntry) (s : State) :
    (State.updTx o f s).store.seqCounter = s.store.seqCounter := by
  simp [State.updTx]

@[simp] theorem seqCounter_withdrawTx (o : Origin) (s : State) :
    (State.withdrawTx o s).store.seqCounter = s.store.seqCounter := by
  simp only [State.withdrawTx]
  repeat' split
  all_goals simp

@[simp] theorem seqCounter_replaceTx (o : Origin) (f : Frame) (s : State) :
    (State.replaceTx o f s).store.seqCounter = s.store.seqCounter := by
  simp only [State.replaceTx]
  repeat' split
  all_goals simp

@[simp] theorem seqCounter_queueOrReplace (o : Origin) (f : Frame) (s : State) :
    (State.queueOrReplace o f s).store.seqCounter = s.store.seqCounter := by
  simp only [State.queueOrReplace]
  repeat' split
  all_goals simp

@[simp] theorem seqCounter_clearTx (s : State) : (State.clearTx s).store.seqCounter = s.store.seqCounter := by
  simp [State.clearTx]

@[simp] theorem seqCounter_queueAnswer (f : Frame) (s : State) :
    (State.queueAnswer f s).store.seqCounter = s.store.seqCounter := by
  simp only [State.queueAnswer]
  repeat' split
  all_goals simp

@[simp] theorem seqCounter_withdrawAnswers (cond : Frame → Bool) (s : State) :
    (State.withdrawAnswers cond s).store.seqCounter = s.store.seqCounter := by
  simp only [State.withdrawAnswers]
  apply seqCounter_foldl
  intro s i
  repeat' split
  all_goals simp

@[simp] theorem seqCounter_judgeSlots (s : State) : (State.judgeSlots s).store.seqCounter = s.store.seqCounter := by
  simp only [State.judgeSlots]
  repeat' split
  all_goals simp

@[simp] theorem seqCounter_failAttempt (s : State) : (State.failAttempt s).store.seqCounter = s.store.seqCounter := by
  simp only [State.failAttempt]
  repeat' split
  all_goals simp

@[simp] theorem seqCounter_countCrcError (s : State) :
    (State.countCrcError s).store.seqCounter = s.store.seqCounter := by
  simp only [State.countCrcError]
  repeat' split
  all_goals simp

@[simp] theorem seqCounter_setClaim (p : PosIx) (c : ClaimState) (s : State) :
    (State.setClaim p c s).store.seqCounter = s.store.seqCounter := by
  simp [State.setClaim]

@[simp] theorem seqCounter_setRemembered (p : PosIx) (b : Bool) (s : State) :
    (State.setRemembered p b s).store.seqCounter = s.store.seqCounter := by
  simp [State.setRemembered]

@[simp] theorem seqCounter_queueClaim (p : PosIx) (s : State) :
    (State.queueClaim p s).store.seqCounter = s.store.seqCounter := by
  simp [State.queueClaim]

@[simp] theorem seqCounter_askClaim (p : PosIx) (s : State) :
    (State.askClaim p s).store.seqCounter = s.store.seqCounter := by
  simp only [State.askClaim]
  repeat' split
  all_goals simp

@[simp] theorem seqCounter_queueRelease (p : PosIx) (s : State) :
    (State.queueRelease p s).store.seqCounter = s.store.seqCounter := by
  simp [State.queueRelease]

@[simp] theorem seqCounter_giveUpClaim (p : PosIx) (s : State) :
    (State.giveUpClaim p s).store.seqCounter = s.store.seqCounter := by
  simp only [State.giveUpClaim]
  repeat' split
  all_goals simp

@[simp] theorem seqCounter_giveUpClaimOpt (p : Option PosIx) (s : State) :
    (State.giveUpClaim? p s).store.seqCounter = s.store.seqCounter := by
  simp only [State.giveUpClaim?]
  repeat' split
  all_goals simp

@[simp] theorem seqCounter_claimWithdrawn (p : PosIx) (s : State) :
    (State.claimWithdrawn p s).store.seqCounter = s.store.seqCounter := by
  simp only [State.claimWithdrawn]
  repeat' split
  all_goals simp

@[simp] theorem seqCounter_dropClaims (s : State) : (State.dropClaims s).store.seqCounter = s.store.seqCounter := by
  simp [State.dropClaims]

@[simp] theorem seqCounter_pumpWaits (h : Handle) (ws : List SlotWait) (s : State) :
    (State.pumpWaits h ws s).store.seqCounter = s.store.seqCounter := by
  induction ws generalizing s with
  | nil => simp [State.pumpWaits]
  | cons w ws ih => simp only [State.pumpWaits]; split <;> simp [ih]

@[simp] theorem seqCounter_pumpSlot (h : Handle) (s : State) :
    (State.pumpSlot h s).store.seqCounter = s.store.seqCounter := by
  simp only [State.pumpSlot]
  repeat' split
  all_goals simp

@[simp] theorem seqCounter_sendSlot (h : Handle) (w : SlotWait) (s : State) :
    (State.sendSlot h w s).store.seqCounter = s.store.seqCounter := by
  simp [State.sendSlot]

@[simp] theorem seqCounter_dropWaits (h : Handle) (w : SlotWait) (s : State) :
    (State.dropWaits h w s).store.seqCounter = s.store.seqCounter := by
  simp [State.dropWaits]

@[simp] theorem seqCounter_withdrawSlot (h : Handle) (k : FrameKind) (s : State) :
    (State.withdrawSlot h k s).store.seqCounter = s.store.seqCounter := by
  simp only [State.withdrawSlot]
  repeat' split
  all_goals simp

@[simp] theorem seqCounter_roundFrom (h : Handle) (k : Nat) (s : State) :
    (State.roundFrom h k s).store.seqCounter = s.store.seqCounter := by
  simp only [State.roundFrom]
  repeat' split
  all_goals simp

@[simp] theorem seqCounter_startRound (h : Handle) (s : State) :
    (State.startRound h s).store.seqCounter = s.store.seqCounter := by
  simp only [State.startRound]
  repeat' split
  all_goals simp

@[simp] theorem seqCounter_withdrawBooks (h : Handle) (s : State) :
    (State.withdrawBooks h s).store.seqCounter = s.store.seqCounter := by
  simp [State.withdrawBooks]

@[simp] theorem seqCounter_failCandidate (h : Handle) (s : State) :
    (State.failCandidate h s).store.seqCounter = s.store.seqCounter := by
  simp only [State.failCandidate]
  repeat' split
  all_goals simp

@[simp] theorem seqCounter_sendRenewal (h : Handle) (s : State) :
    (State.sendRenewal h s).store.seqCounter = s.store.seqCounter := by
  simp only [State.sendRenewal]
  repeat' split
  all_goals simp

@[simp] theorem seqCounter_endBooking (h : Handle) (s : State) :
    (State.endBooking h s).store.seqCounter = s.store.seqCounter := by
  simp only [State.endBooking]
  repeat' split
  all_goals simp

@[simp] theorem seqCounter_startTransfer (h : Handle) (s : State) :
    (State.startTransfer h s).store.seqCounter = s.store.seqCounter := by
  simp only [State.startTransfer]
  repeat' split
  all_goals simp

@[simp] theorem seqCounter_stopTransfer (h : Handle) (s : State) :
    (State.stopTransfer h s).store.seqCounter = s.store.seqCounter := by
  simp [State.stopTransfer]

@[simp] theorem seqCounter_placeOne (s : State) : (State.placeOne s).store.seqCounter = s.store.seqCounter := by
  simp only [State.placeOne]
  repeat' split
  all_goals simp

@[simp] theorem seqCounter_stopPositionOpt (p : Option PosIx) (s : State) :
    (State.stopPosition? p s).store.seqCounter = s.store.seqCounter := by
  simp only [State.stopPosition?]
  repeat' split
  all_goals simp

@[simp] theorem seqCounter_enterHeld (h : Handle) (k : DevKind) (v : BitVec 24) (leaves : Bool) (s : State) :
    (State.enterHeld h k v leaves s).store.seqCounter = s.store.seqCounter := by
  simp only [State.enterHeld]
  repeat' split
  all_goals simp

@[simp] theorem seqCounter_checkGap (h : Handle) (s : State) :
    (State.checkGap h s).store.seqCounter = s.store.seqCounter := by
  simp only [State.checkGap]
  repeat' split
  all_goals simp

@[simp] theorem seqCounter_judgeReady (h : Handle) (s : State) :
    (State.judgeReady h s).store.seqCounter = s.store.seqCounter := by
  simp only [State.judgeReady]
  repeat' split
  all_goals simp

@[simp] theorem seqCounter_enterChecked (h : Handle) (st : RecState) (s : State) :
    (State.enterChecked h st s).store.seqCounter = s.store.seqCounter := by
  simp [State.enterChecked]

@[simp] theorem seqCounter_enterLoaded (h : Handle) (s : State) :
    (State.enterLoaded h s).store.seqCounter = s.store.seqCounter := by
  simp [State.enterLoaded]

@[simp] theorem seqCounter_enterEnded (h : Handle) (s : State) :
    (State.enterEnded h s).store.seqCounter = s.store.seqCounter := by
  simp only [State.enterEnded]
  repeat' split
  all_goals simp

@[simp] theorem seqCounter_startStep (p : PosIx) (h : Handle) (s : State) :
    (State.startStep p h s).store.seqCounter = s.store.seqCounter := by
  simp only [State.startStep]
  repeat' split
  all_goals simp

@[simp] theorem seqCounter_tellGrant (p : PosIx) (s : State) :
    (State.tellGrant p s).store.seqCounter = s.store.seqCounter := by
  simp only [State.tellGrant]
  repeat' split
  all_goals simp

@[simp] theorem seqCounter_endStep (p : PosIx) (h : Handle) (s : State) :
    (State.endStep p h s).store.seqCounter = s.store.seqCounter := by
  simp only [State.endStep]
  repeat' split
  all_goals simp

@[simp] theorem seqCounter_stepFault (p : PosIx) (h : Handle) (k : DevKind) (v : BitVec 24) (s : State) :
    (State.stepFault p h k v s).store.seqCounter = s.store.seqCounter := by
  simp [State.stepFault]

@[simp] theorem seqCounter_dropBooking (h : Handle) (s : State) :
    (State.dropBooking h s).store.seqCounter = s.store.seqCounter := by
  simp only [State.dropBooking]
  repeat' split
  all_goals simp

@[simp] theorem seqCounter_tellEntry (s : State) (e : ClaimEntry) :
    (State.tellEntry s e).store.seqCounter = s.store.seqCounter := by
  simp only [State.tellEntry]
  repeat' split
  all_goals simp

@[simp] theorem seqCounter_tellGrants (l : List ClaimEntry) (s : State) :
    (State.tellGrants l s).store.seqCounter = s.store.seqCounter := by
  exact seqCounter_foldl _ seqCounter_tellEntry l s

@[simp] theorem seqCounter_reportOversize (p : PosIx) (b : BudgetIx) (s : State) :
    (State.reportOversize p b s).store.seqCounter = s.store.seqCounter := by
  simp only [State.reportOversize]
  repeat' split
  all_goals simp

@[simp] theorem seqCounter_claimStands (p : PosIx) (st : ClaimState) (s : State) :
    (State.claimStands p st s).store.seqCounter = s.store.seqCounter := by
  simp only [State.claimStands]
  repeat' split
  all_goals simp

@[simp] theorem seqCounter_ownClaim (payload : List Byte) (c : ClaimOutcome) (s : State) :
    (State.ownClaim payload c s).store.seqCounter = s.store.seqCounter := by
  simp only [State.ownClaim]
  repeat' split
  all_goals simp

@[simp] theorem seqCounter_ownRelease (payload : List Byte) (s : State) :
    (State.ownRelease payload s).store.seqCounter = s.store.seqCounter := by
  simp only [State.ownRelease]
  repeat' split
  all_goals simp

@[simp] theorem seqCounter_ownRemoved (caps : Triple) (s : State) (e : ClaimEntry) :
    (State.ownRemoved caps s e).store.seqCounter = s.store.seqCounter := by
  simp only [State.ownRemoved]
  repeat' split
  all_goals simp

@[simp] theorem seqCounter_takeReplicated (f : BufferedFrame) (own : Bool) (s : State) :
    (State.takeReplicated f own s).store.seqCounter = s.store.seqCounter := by
  simp only [State.takeReplicated]
  repeat' split
  all_goals simp

@[simp] theorem seqCounter_dropTable (s : State) : (State.dropTable s).store.seqCounter = s.store.seqCounter := by
  simp [State.dropTable]

@[simp] theorem seqCounter_setStatus (cond : Booking → Bool) (st : BookingStatus) (s : State) :
    (State.setStatus cond st s).store.seqCounter = s.store.seqCounter := by
  simp [State.setStatus]

@[simp] theorem seqCounter_deleteRecord (h : Handle) (s : State) :
    (State.deleteRecord h s).store.seqCounter = s.store.seqCounter := by
  simp [State.deleteRecord]

@[simp] theorem seqCounter_answerRefused (a : Addr) (t : Tag) (r : Reason) (s : State) :
    (State.answerRefused a t r s).store.seqCounter = s.store.seqCounter := by
  simp [State.answerRefused]

@[simp] theorem seqCounter_reserve (a : Addr) (q : BookRequest) (p : PosIx) (s : State) :
    (State.reserve a q p s).store.seqCounter = s.store.seqCounter := by
  simp only [State.reserve]
  split
  · rfl
  · rename_i h t e
    have ht : t.store.seqCounter = s.store.seqCounter := by
      simp only [State.takeSlot] at e
      split at e
      · simp only [Option.some.injEq, Prod.mk.injEq] at e
        rw [← e.2]
        try rfl
      · contradiction
    simp [ht]

@[simp] theorem seqCounter_renewEntry (a : Addr) (q : BookRequest) (b : Booking) (s : State) :
    (State.renewEntry a q b s).store.seqCounter = s.store.seqCounter := by
  simp [State.renewEntry]

@[simp] theorem seqCounter_takeBook (a : Addr) (q : BookRequest) (s : State) :
    (State.takeBook a q s).store.seqCounter = s.store.seqCounter := by
  simp only [State.takeBook]
  repeat' split
  all_goals simp

@[simp] theorem seqCounter_completeImage (b : Booking) (im : List Byte) (s : State) :
    (State.completeImage b im s).store.seqCounter = s.store.seqCounter := by
  simp only [State.completeImage]
  repeat' split
  all_goals simp

@[simp] theorem seqCounter_takePart (b : Booking) (a : Assembly) (s : State) :
    (State.takePart b a s).store.seqCounter = s.store.seqCounter := by
  simp only [State.takePart]
  repeat' split
  all_goals simp

@[simp] theorem seqCounter_rejectOpen (b : Booking) (s : State) :
    (State.rejectOpen b s).store.seqCounter = s.store.seqCounter := by
  simp only [State.rejectOpen]
  repeat' split
  all_goals simp

@[simp] theorem seqCounter_takeFirstPart (a : Addr) (c : CarryPart) (s : State) :
    (State.takeFirstPart a c s).store.seqCounter = s.store.seqCounter := by
  simp only [State.takeFirstPart]
  repeat' split
  all_goals simp

@[simp] theorem seqCounter_takeLaterPart (a : Addr) (c : CarryPart) (s : State) :
    (State.takeLaterPart a c s).store.seqCounter = s.store.seqCounter := by
  simp only [State.takeLaterPart]
  repeat' split
  all_goals simp

@[simp] theorem seqCounter_takeCarry (a : Addr) (c : CarryPart) (s : State) :
    (State.takeCarry a c s).store.seqCounter = s.store.seqCounter := by
  simp only [State.takeCarry]
  repeat' split
  all_goals simp

@[simp] theorem seqCounter_receiveRecord (f : Frame) (s : State) :
    (State.receiveRecord f s).store.seqCounter = s.store.seqCounter := by
  simp only [State.receiveRecord]
  repeat' split
  all_goals simp

@[simp] theorem seqCounter_takeBooked (a : Addr) (t : Tag) (p : PosIx) (s : State) :
    (State.takeBooked a t p s).store.seqCounter = s.store.seqCounter := by
  simp only [State.takeBooked]
  repeat' split
  all_goals simp

@[simp] theorem seqCounter_takeRefused (a : Addr) (t : Tag) (s : State) :
    (State.takeRefused a t s).store.seqCounter = s.store.seqCounter := by
  simp only [State.takeRefused]
  repeat' split
  all_goals simp

@[simp] theorem seqCounter_handOver (a : Addr) (t : Tag) (s : State) :
    (State.handOver a t s).store.seqCounter = s.store.seqCounter := by
  simp only [State.handOver]
  repeat' split
  all_goals simp

@[simp] theorem seqCounter_rejected (a : Addr) (t : Tag) (reason : Byte) (s : State) :
    (State.rejected a t reason s).store.seqCounter = s.store.seqCounter := by
  simp only [State.rejected]
  repeat' split
  all_goals simp

@[simp] theorem seqCounter_found (a : Addr) (t : Tag) (s : State) :
    (State.found a t s).store.seqCounter = s.store.seqCounter := by
  simp only [State.found]
  repeat' split
  all_goals simp

@[simp] theorem seqCounter_answerLocate (a : Addr) (t : Tag) (s : State) :
    (State.answerLocate a t s).store.seqCounter = s.store.seqCounter := by
  simp only [State.answerLocate]
  repeat' split
  all_goals simp

@[simp] theorem seqCounter_cancelBooking (a : Addr) (t : Tag) (s : State) :
    (State.cancelBooking a t s).store.seqCounter = s.store.seqCounter := by
  simp only [State.cancelBooking]
  repeat' split
  all_goals simp

@[simp] theorem seqCounter_departRecord (a : Addr) (s : State) (h : Handle) :
    (State.departRecord a s h).store.seqCounter = s.store.seqCounter := by
  simp only [State.departRecord]
  repeat' split
  all_goals simp

@[simp] theorem seqCounter_clearOutbound (s : State) (p : PosIx) :
    (State.clearOutbound s p).store.seqCounter = s.store.seqCounter := by
  simp only [State.clearOutbound]
  repeat' split
  all_goals simp

@[simp] theorem seqCounter_updPeer (a : Addr) (f : Peer → Peer) (s : State) :
    (State.updPeer a f s).store.seqCounter = s.store.seqCounter := by
  simp [State.updPeer]

@[simp] theorem seqCounter_setLine (l : LineState) (s : State) :
    (State.setLine l s).store.seqCounter = s.store.seqCounter := by
  simp [State.setLine]

@[simp] theorem seqCounter_peerGone (a : Addr) (c : GoneCause) (s : State) :
    (State.peerGone a c s).store.seqCounter = s.store.seqCounter := by
  simp only [State.peerGone]
  repeat' split
  all_goals simp

@[simp] theorem seqCounter_postPeerJoined (a : Addr) (s : State) :
    (State.postPeerJoined a s).store.seqCounter = s.store.seqCounter := by
  simp [State.postPeerJoined]

@[simp] theorem seqCounter_peerJoins (a : Addr) (role : Role) (s : State) :
    (State.peerJoins a role s).store.seqCounter = s.store.seqCounter := by
  simp [State.peerJoins]

@[simp] theorem seqCounter_applyPresence (a : Addr) (q : PresenceReport) (s : State) :
    (State.applyPresence a q s).store.seqCounter = s.store.seqCounter := by
  simp only [State.applyPresence]
  repeat' split
  all_goals simp

@[simp] theorem seqCounter_restartRound (a : Addr) (s : State) (h : Handle) :
    (State.restartRound a s h).store.seqCounter = s.store.seqCounter := by
  simp only [State.restartRound]
  repeat' split
  all_goals simp

@[simp] theorem seqCounter_restartRounds (a : Addr) (q : PresenceReport) (s : State) :
    (State.restartRounds a q s).store.seqCounter = s.store.seqCounter := by
  simp only [State.restartRounds]
  repeat' split
  all_goals simp

@[simp] theorem seqCounter_noteSender (a : Addr) (s : State) :
    (State.noteSender a s).store.seqCounter = s.store.seqCounter := by
  simp only [State.noteSender]
  repeat' split
  all_goals simp

@[simp] theorem seqCounter_sendUpkeep (f : Frame) (s : State) :
    (State.sendUpkeep f s).store.seqCounter = s.store.seqCounter := by
  simp only [State.sendUpkeep]
  repeat' split
  all_goals simp

@[simp] theorem seqCounter_pumpUpkeep (s : State) : (State.pumpUpkeep s).store.seqCounter = s.store.seqCounter := by
  simp only [State.pumpUpkeep]
  repeat' split
  all_goals simp

@[simp] theorem seqCounter_withdrawUpkeep (kinds : List FrameKind) (s : State) :
    (State.withdrawUpkeep kinds s).store.seqCounter = s.store.seqCounter := by
  simp only [State.withdrawUpkeep]
  repeat' split
  all_goals simp

@[simp] theorem seqCounter_stopServing (s : State) : (State.stopServing s).store.seqCounter = s.store.seqCounter := by
  simp [State.stopServing]

@[simp] theorem seqCounter_stopServingOf (a : Addr) (s : State) :
    (State.stopServingOf a s).store.seqCounter = s.store.seqCounter := by
  simp only [State.stopServingOf]
  repeat' split
  all_goals simp

@[simp] theorem seqCounter_setJoinQueue (l : List Joiner) (s : State) :
    (State.setJoinQueue l s).store.seqCounter = s.store.seqCounter := by
  simp [State.setJoinQueue]

@[simp] theorem seqCounter_leaveQueue (a : Addr) (s : State) :
    (State.leaveQueue a s).store.seqCounter = s.store.seqCounter := by
  simp [State.leaveQueue]

@[simp] theorem seqCounter_enterQueue (a : Addr) (s : State) :
    (State.enterQueue a s).store.seqCounter = s.store.seqCounter := by
  simp only [State.enterQueue]
  repeat' split
  all_goals simp

@[simp] theorem seqCounter_judgeProvider (a : Addr) (s : State) :
    (State.judgeProvider a s).store.seqCounter = s.store.seqCounter := by
  simp only [State.judgeProvider]
  repeat' split
  all_goals simp

@[simp] theorem seqCounter_tryServe (s : State) : (State.tryServe s).store.seqCounter = s.store.seqCounter := by
  simp only [State.tryServe]
  repeat' split
  all_goals simp

@[simp] theorem seqCounter_snapAppeared (s : State) : (State.snapAppeared s).store.seqCounter = s.store.seqCounter := by
  simp only [State.snapAppeared]
  repeat' split
  all_goals simp

@[simp] theorem seqCounter_rejoin (c : Cause) (s : State) :
    (State.rejoin c s).store.seqCounter = s.store.seqCounter := by
  simp only [State.rejoin]
  repeat' split
  all_goals simp

@[simp] theorem seqCounter_enterJoining (c : Cause) (s : State) :
    (State.enterJoining c s).store.seqCounter = s.store.seqCounter := by
  simp [State.enterJoining]

@[simp] theorem seqCounter_startJoin (s : State) : (State.startJoin s).store.seqCounter = s.store.seqCounter := by
  simp [State.startJoin]

@[simp] theorem seqCounter_bufferFrame (f : BufferedFrame) (s : State) :
    (State.bufferFrame f s).store.seqCounter = s.store.seqCounter := by
  simp only [State.bufferFrame]
  repeat' split
  all_goals simp

@[simp] theorem seqCounter_joinedRecord (s : State) (h : Handle) :
    (State.joinedRecord s h).store.seqCounter = s.store.seqCounter := by
  simp only [State.joinedRecord]
  repeat' split
  all_goals simp

@[simp] theorem seqCounter_joinedPosition (s : State) (p : PosIx) :
    (State.joinedPosition s p).store.seqCounter = s.store.seqCounter := by
  simp only [State.joinedPosition]
  repeat' split
  all_goals simp

@[simp] theorem seqCounter_completeJoin (c : Cause) (s : State) :
    (State.completeJoin c s).store.seqCounter = s.store.seqCounter := by
  simp [State.completeJoin]

@[simp] theorem seqCounter_loadSnapshot (n : SnapIn) (s : State) :
    (State.loadSnapshot n s).store.seqCounter = s.store.seqCounter := by
  simp [State.loadSnapshot]

@[simp] theorem seqCounter_listFrame (f : BufferedFrame) (s : State) :
    (State.listFrame f s).store.seqCounter = s.store.seqCounter := by
  simp only [State.listFrame]
  repeat' split
  all_goals simp

@[simp] theorem seqCounter_replayFrame (s : State) (f : BufferedFrame) :
    (State.replayFrame s f).store.seqCounter = s.store.seqCounter := by
  simp [State.replayFrame]

@[simp] theorem seqCounter_finishSnapshot (n : SnapIn) (s : State) :
    (State.finishSnapshot n s).store.seqCounter = s.store.seqCounter := by
  simp [State.finishSnapshot]

@[simp] theorem seqCounter_firstStation (s : State) : (State.firstStation s).store.seqCounter = s.store.seqCounter := by
  simp [State.firstStation]

@[simp] theorem seqCounter_lostPosition (s : State) (p : PosIx) :
    (State.lostPosition s p).store.seqCounter = s.store.seqCounter := by
  simp only [State.lostPosition]
  repeat' split
  all_goals simp

@[simp] theorem seqCounter_enterMismatch (s : State) :
    (State.enterMismatch s).store.seqCounter = s.store.seqCounter := by
  simp [State.enterMismatch]

@[simp] theorem seqCounter_takeHead (sender : Addr) (q : SnapHead) (s : State) :
    (State.takeHead sender q s).store.seqCounter = s.store.seqCounter := by
  simp only [State.takeHead]
  repeat' split
  all_goals simp

@[simp] theorem seqCounter_takeSnapPart (index : Nat) (content : List Byte) (s : State) :
    (State.takeSnapPart index content s).store.seqCounter = s.store.seqCounter := by
  simp only [State.takeSnapPart]
  repeat' split
  all_goals simp

@[simp] theorem seqCounter_setInTx (x : InTx) (s : State) :
    (State.setInTx x s).store.seqCounter = s.store.seqCounter := by
  simp [State.setInTx]

@[simp] theorem seqCounter_beginTx (s : State) : (State.beginTx s).store.seqCounter = s.store.seqCounter := by
  simp only [State.beginTx]
  repeat' split
  all_goals simp

@[simp] theorem seqCounter_restartStall (s : State) : (State.restartStall s).store.seqCounter = s.store.seqCounter := by
  simp [State.restartStall]

@[simp] theorem seqCounter_pumpOrigin (o : Origin) (s : State) :
    (State.pumpOrigin o s).store.seqCounter = s.store.seqCounter := by
  simp only [State.pumpOrigin]
  repeat' split
  all_goals simp

@[simp] theorem seqCounter_finishOwn (own : OwnTx) (s : State) :
    (State.finishOwn own s).store.seqCounter = s.store.seqCounter := by
  simp only [State.finishOwn]
  repeat' split
  all_goals simp

@[simp] theorem seqCounter_dropFrame (o : Origin) (s : State) :
    (State.dropFrame o s).store.seqCounter = s.store.seqCounter := by
  simp [State.dropFrame]

@[simp] theorem seqCounter_countVoid (s : State) : (State.countVoid s).store.seqCounter = s.store.seqCounter := by
  simp only [State.countVoid]
  repeat' split
  all_goals simp

@[simp] theorem seqCounter_dropHead (s : State) : (State.dropHead s).store.seqCounter = s.store.seqCounter := by
  simp only [State.dropHead]
  repeat' split
  all_goals simp

@[simp] theorem seqCounter_countClean (s : State) : (State.countClean s).store.seqCounter = s.store.seqCounter := by
  simp [State.countClean]

@[simp] theorem seqCounter_noteBar (k : FrameKind) (payload : List Byte) (s : State) :
    (State.noteBar k payload s).store.seqCounter = s.store.seqCounter := by
  simp only [State.noteBar]
  repeat' split
  all_goals simp

@[simp] theorem seqCounter_takenSaved (own : OwnTx) (s : State) :
    (State.takenSaved own s).store.seqCounter = s.store.seqCounter := by
  simp only [State.takenSaved]
  repeat' split
  all_goals simp

@[simp] theorem seqCounter_appearUndefined (sender : Addr) (s : State) :
    (State.appearUndefined sender s).store.seqCounter = s.store.seqCounter := by
  simp only [State.appearUndefined]
  repeat' split
  all_goals simp

@[simp] theorem seqCounter_onReplicated (k : FrameKind) (sender : Addr) (payload : List Byte) (s : State) :
    (State.onReplicated k sender payload s).store.seqCounter = s.store.seqCounter := by
  simp only [State.onReplicated]
  repeat' split
  all_goals simp

@[simp] theorem seqCounter_onSnapHead (own : OwnTx) (sender : Addr) (payload : List Byte) (s : State) :
    (State.onSnapHead own sender payload s).store.seqCounter = s.store.seqCounter := by
  simp only [State.onSnapHead]
  repeat' split
  all_goals simp

@[simp] theorem seqCounter_onSnapPart (own : OwnTx) (payload : List Byte) (s : State) :
    (State.onSnapPart own payload s).store.seqCounter = s.store.seqCounter := by
  simp only [State.onSnapPart]
  repeat' split
  all_goals simp

@[simp] theorem seqCounter_onPresence (sender : Addr) (payload : List Byte) (s : State) :
    (State.onPresence sender payload s).store.seqCounter = s.store.seqCounter := by
  simp only [State.onPresence]
  repeat' split
  all_goals simp

@[simp] theorem seqCounter_bookAppeared (own : OwnTx) (dest : BitVec 5) (q : BookRequest) (s : State) :
    (State.bookAppeared own dest q s).store.seqCounter = s.store.seqCounter := by
  simp only [State.bookAppeared]
  repeat' split
  all_goals simp

@[simp] theorem seqCounter_onBook (own : OwnTx) (sender : Addr) (dest : BitVec 5) (payload : List Byte) (s : State) :
    (State.onBook own sender dest payload s).store.seqCounter = s.store.seqCounter := by
  simp only [State.onBook]
  repeat' split
  all_goals simp

@[simp] theorem seqCounter_bookedAppeared (dest : BitVec 5) (t : Tag) (s : State) :
    (State.bookedAppeared dest t s).store.seqCounter = s.store.seqCounter := by
  simp [State.bookedAppeared]

@[simp] theorem seqCounter_onBooked (own : OwnTx) (sender : Addr) (dest : BitVec 5) (payload : List Byte) (s : State) :
    (State.onBooked own sender dest payload s).store.seqCounter = s.store.seqCounter := by
  simp only [State.onBooked]
  repeat' split
  all_goals simp

@[simp] theorem seqCounter_onRefused (sender : Addr) (dest : BitVec 5) (payload : List Byte) (s : State) :
    (State.onRefused sender dest payload s).store.seqCounter = s.store.seqCounter := by
  simp only [State.onRefused]
  repeat' split
  all_goals simp

@[simp] theorem seqCounter_onFound (sender : Addr) (dest : BitVec 5) (payload : List Byte) (s : State) :
    (State.onFound sender dest payload s).store.seqCounter = s.store.seqCounter := by
  simp only [State.onFound]
  repeat' split
  all_goals simp

@[simp] theorem seqCounter_locateAppeared (t : Tag) (s : State) :
    (State.locateAppeared t s).store.seqCounter = s.store.seqCounter := by
  simp only [State.locateAppeared]
  repeat' split
  all_goals simp

@[simp] theorem seqCounter_onLocate (own : OwnTx) (sender : Addr) (payload : List Byte) (s : State) :
    (State.onLocate own sender payload s).store.seqCounter = s.store.seqCounter := by
  simp only [State.onLocate]
  repeat' split
  all_goals simp

@[simp] theorem seqCounter_carryAppeared (own : OwnTx) (index : Nat) (s : State) :
    (State.carryAppeared own index s).store.seqCounter = s.store.seqCounter := by
  simp only [State.carryAppeared]
  repeat' split
  all_goals simp

@[simp] theorem seqCounter_onCarry (own : OwnTx) (sender : Addr) (dest : BitVec 5) (payload : List Byte) (s : State) :
    (State.onCarry own sender dest payload s).store.seqCounter = s.store.seqCounter := by
  simp only [State.onCarry]
  repeat' split
  all_goals simp

@[simp] theorem seqCounter_onTaken (sender : Addr) (dest : BitVec 5) (payload : List Byte) (s : State) :
    (State.onTaken sender dest payload s).store.seqCounter = s.store.seqCounter := by
  simp only [State.onTaken]
  repeat' split
  all_goals simp

@[simp] theorem seqCounter_countOne (p : PosIx) (h : Handle) (r : Record) (e : StepEntry) (s : State) :
    (State.countOne p h r e s).store.seqCounter = s.store.seqCounter := by
  simp only [State.countOne]
  repeat' split
  all_goals simp

@[simp] theorem seqCounter_runSecond (p : PosIx) (s : State) :
    (State.runSecond p s).store.seqCounter = s.store.seqCounter := by
  simp only [State.runSecond]
  repeat' split
  all_goals simp

@[simp] theorem seqCounter_pauseSecond (p : PosIx) (s : State) :
    (State.pauseSecond p s).store.seqCounter = s.store.seqCounter := by
  simp only [State.pauseSecond]
  repeat' split
  all_goals simp

@[simp] theorem seqCounter_lampSilent (p : PosIx) (s : State) :
    (State.lampSilent p s).store.seqCounter = s.store.seqCounter := by
  simp only [State.lampSilent]
  repeat' split
  all_goals simp

@[simp] theorem seqCounter_doseShort (p : PosIx) (s : State) :
    (State.doseShort p s).store.seqCounter = s.store.seqCounter := by
  simp only [State.doseShort]
  repeat' split
  all_goals simp

@[simp] theorem seqCounter_dosePulse (p : PosIx) (s : State) :
    (State.dosePulse p s).store.seqCounter = s.store.seqCounter := by
  simp only [State.dosePulse]
  repeat' split
  all_goals simp

@[simp] theorem seqCounter_gapSecond (h : Handle) (s : State) :
    (State.gapSecond h s).store.seqCounter = s.store.seqCounter := by
  simp only [State.gapSecond]
  repeat' split
  all_goals simp

@[simp] theorem seqCounter_answerExpired (h : Handle) (s : State) :
    (State.answerExpired h s).store.seqCounter = s.store.seqCounter := by
  simp only [State.answerExpired]
  repeat' split
  all_goals simp

@[simp] theorem seqCounter_partGapExpired (p : PosIx) (s : State) :
    (State.partGapExpired p s).store.seqCounter = s.store.seqCounter := by
  simp only [State.partGapExpired]
  repeat' split
  all_goals simp

@[simp] theorem seqCounter_handOffExpired (h : Handle) (s : State) :
    (State.handOffExpired h s).store.seqCounter = s.store.seqCounter := by
  simp only [State.handOffExpired]
  repeat' split
  all_goals simp

@[simp] theorem seqCounter_locateExpired (h : Handle) (s : State) :
    (State.locateExpired h s).store.seqCounter = s.store.seqCounter := by
  simp only [State.locateExpired]
  repeat' split
  all_goals simp

@[simp] theorem seqCounter_departureExpired (a : Addr) (s : State) :
    (State.departureExpired a s).store.seqCounter = s.store.seqCounter := by
  simp only [State.departureExpired]
  repeat' split
  all_goals simp

@[simp] theorem seqCounter_presenceExpired (s : State) :
    (State.presenceExpired s).store.seqCounter = s.store.seqCounter := by
  simp only [State.presenceExpired]
  repeat' split
  all_goals simp

@[simp] theorem seqCounter_joinWaitExpired (s : State) :
    (State.joinWaitExpired s).store.seqCounter = s.store.seqCounter := by
  simp only [State.joinWaitExpired]
  repeat' split
  all_goals simp

@[simp] theorem seqCounter_snapGapExpired (s : State) :
    (State.snapGapExpired s).store.seqCounter = s.store.seqCounter := by
  simp only [State.snapGapExpired]
  repeat' split
  all_goals simp

@[simp] theorem seqCounter_backoffExpired (s : State) :
    (State.backoffExpired s).store.seqCounter = s.store.seqCounter := by
  simp only [State.backoffExpired]
  repeat' split
  all_goals simp

@[simp] theorem seqCounter_advancePos (s : State) (p : PosIx) :
    (State.advancePos s p).store.seqCounter = s.store.seqCounter := by
  simp only [State.advancePos]
  repeat' split
  all_goals simp

@[simp] theorem seqCounter_advance (s : State) : (State.advance s).store.seqCounter = s.store.seqCounter := by
  simp [State.advance]

@[simp] theorem seqCounter_firePos (s : State) (p : PosIx) :
    (State.firePos s p).store.seqCounter = s.store.seqCounter := by
  simp only [State.firePos]
  repeat' split
  all_goals simp

@[simp] theorem seqCounter_fireRec (s : State) (h : Handle) :
    (State.fireRec s h).store.seqCounter = s.store.seqCounter := by
  simp only [State.fireRec]
  repeat' split
  all_goals simp

@[simp] theorem seqCounter_fireDeparture (s : State) (a : Addr) :
    (State.fireDeparture s a).store.seqCounter = s.store.seqCounter := by
  simp only [State.fireDeparture]
  repeat' split
  all_goals simp

@[simp] theorem seqCounter_pauseForPower (s : State) (p : PosIx) :
    (State.pauseForPower s p).store.seqCounter = s.store.seqCounter := by
  simp only [State.pauseForPower]
  repeat' split
  all_goals simp

@[simp] theorem seqCounter_beginWrite (s : State) : (State.beginWrite s).store.seqCounter = s.store.seqCounter := by
  simp only [State.beginWrite]
  repeat' split
  all_goals simp

@[simp] theorem seqCounter_endWrite (s : State) : (State.endWrite s).store.seqCounter = s.store.seqCounter := by
  simp only [State.endWrite]
  repeat' split
  all_goals simp

@[simp] theorem seqCounter_restorePosition (im : List Byte) (s : State) (p : PosIx) :
    (State.restorePosition im s p).store.seqCounter = s.store.seqCounter := by
  simp only [State.restorePosition]
  repeat' split
  all_goals simp

@[simp] theorem seqCounter_cleanLink (s : State) (h : Handle) :
    (State.cleanLink s h).store.seqCounter = s.store.seqCounter := by
  simp [State.cleanLink]

@[simp] theorem seqCounter_restoreArrival (s : State) (h : Handle) :
    (State.restoreArrival s h).store.seqCounter = s.store.seqCounter := by
  simp only [State.restoreArrival]
  repeat' split
  all_goals simp

@[simp] theorem seqCounter_postRestoreHeld (s : State) (x : Handle × Nat) :
    (State.postRestoreHeld s x).store.seqCounter = s.store.seqCounter := by
  simp only [State.postRestoreHeld]
  repeat' split
  all_goals simp

@[simp] theorem seqCounter_rebuildFreeList (s : State) :
    (State.rebuildFreeList s).store.seqCounter = s.store.seqCounter := by
  simp [State.rebuildFreeList]

@[simp] theorem seqCounter_invalidate (s : State) : (State.invalidate s).store.seqCounter = s.store.seqCounter := by
  simp [State.invalidate]

@[simp] theorem seqCounter_postRestored (n : Nat) (s : State) :
    (State.postRestored n s).store.seqCounter = s.store.seqCounter := by
  simp [State.postRestored]

@[simp] theorem seqCounter_openPositions (s : State) :
    (State.openPositions s).store.seqCounter = s.store.seqCounter := by
  simp [State.openPositions]

@[simp] theorem seqCounter_configWrite (item : Byte) (v : BitVec 16) (s : State) :
    (State.configWrite item v s).store.seqCounter = s.store.seqCounter := by
  simp only [State.configWrite]
  repeat' split
  all_goals simp

@[simp] theorem seqCounter_plateArrives (p : PosIx) (h : Handle) (r : Record) (s : State) :
    (State.plateArrives p h r s).store.seqCounter = s.store.seqCounter := by
  simp only [State.plateArrives]
  repeat' split
  all_goals simp

@[simp] theorem seqCounter_arrived (p : PosIx) (seq : BitVec 16) (s : State) :
    (State.arrived p seq s).store.seqCounter = s.store.seqCounter := by
  simp only [State.arrived]
  repeat' split
  all_goals simp

@[simp] theorem seqCounter_retire (p : PosIx) (h : Handle) (r : Record) (s : State) :
    (State.retire p h r s).store.seqCounter = s.store.seqCounter := by
  simp [State.retire]

@[simp] theorem seqCounter_plateTaken (p : PosIx) (h : Handle) (r : Record) (s : State) :
    (State.plateTaken p h r s).store.seqCounter = s.store.seqCounter := by
  simp only [State.plateTaken]
  repeat' split
  all_goals simp

@[simp] theorem seqCounter_rushRecord (h : Handle) (r : Record) (s : State) :
    (State.rushRecord h r s).store.seqCounter = s.store.seqCounter := by
  simp only [State.rushRecord]
  repeat' split
  all_goals simp

@[simp] theorem seqCounter_wrongCode (s : State) : (State.wrongCode s).store.seqCounter = s.store.seqCounter := by
  simp [State.wrongCode]

@[simp] theorem seqCounter_scrapPosition (p : Option PosIx) (s : State) :
    (State.scrapPosition p s).store.seqCounter = s.store.seqCounter := by
  simp only [State.scrapPosition]
  repeat' split
  all_goals simp

@[simp] theorem seqCounter_stopLocate (h : Handle) (s : State) :
    (State.stopLocate h s).store.seqCounter = s.store.seqCounter := by
  simp [State.stopLocate]

@[simp] theorem seqCounter_setIlk (p : PosIx) (level : Bool) (s : State) :
    (State.setIlk p level s).store.seqCounter = s.store.seqCounter := by
  simp [State.setIlk]

@[simp] theorem seqCounter_pauseStep (p : PosIx) (s : State) :
    (State.pauseStep p s).store.seqCounter = s.store.seqCounter := by
  simp only [State.pauseStep]
  repeat' split
  all_goals simp

@[simp] theorem seqCounter_resumeStep (p : PosIx) (s : State) :
    (State.resumeStep p s).store.seqCounter = s.store.seqCounter := by
  simp only [State.resumeStep]
  repeat' split
  all_goals simp

@[simp] theorem seqCounter_departureDue (a : Addr) (s : State) :
    (State.departureDue a s).store.seqCounter = s.store.seqCounter := by
  simp [State.departureDue]

@[simp] theorem seqCounter_sendLeave (s : State) : (State.sendLeave s).store.seqCounter = s.store.seqCounter := by
  simp [State.sendLeave]

end Sys2Proof.Machine
end

