-- ==== Sys2Proof/Laws/FrameSeqr.lean ====
section
/-! SUPPORT. Which operations leave the positions alone: one lemma per operation, proved in the order the operations are built in. -/

namespace Sys2Proof.Machine

@[simp] theorem seqr_ite (c : Prop) [Decidable c] (x y : State) : (if c then x else y).seqr = if c then x.seqr else y.seqr := by
  split <;> rfl

@[simp] theorem seqr_foldl {α} (f : State → α → State) (hf : ∀ s a, (f s a).seqr = s.seqr) (l : List α) (s : State) :
    (l.foldl f s).seqr = s.seqr := by
  induction l generalizing s with
  | nil => rfl
  | cons a l ih => rw [List.foldl_cons, ih, hf]

@[simp] theorem seqr_updRec (h : Handle) (f : Record → Record) (s : State) : (State.updRec h f s).seqr = s.seqr := by
  simp only [State.updRec]
  repeat' split
  all_goals simp

@[simp] theorem seqr_post (e : Event) (s : State) : (State.post e s).seqr = s.seqr := by
  simp only [State.post]
  repeat' split
  all_goals simp

@[simp] theorem seqr_postLineState (c : Cause) (s : State) : (State.postLineState c s).seqr = s.seqr := by
  simp [State.postLineState]

@[simp] theorem seqr_ok (d2 d1 d0 : Byte) (s : State) : (State.ok d2 d1 d0 s).seqr = s.seqr := by
  simp [State.ok]

@[simp] theorem seqr_refuse (r : Reason) (d0 : Byte) (s : State) : (State.refuse r d0 s).seqr = s.seqr := by
  simp [State.refuse]

@[simp] theorem seqr_badArgument (code : Byte) (s : State) : (State.badArgument code s).seqr = s.seqr := by
  simp [State.badArgument]

@[simp] theorem seqr_queueFrame (o : Origin) (f : Frame) (s : State) : (State.queueFrame o f s).seqr = s.seqr := by
  simp only [State.queueFrame]
  repeat' split
  all_goals simp

@[simp] theorem seqr_withdrawTx (o : Origin) (s : State) : (State.withdrawTx o s).seqr = s.seqr := by
  simp only [State.withdrawTx]
  repeat' split
  all_goals simp

@[simp] theorem seqr_replaceTx (o : Origin) (f : Frame) (s : State) : (State.replaceTx o f s).seqr = s.seqr := by
  simp only [State.replaceTx]
  repeat' split
  all_goals simp

@[simp] theorem seqr_queueOrReplace (o : Origin) (f : Frame) (s : State) :
    (State.queueOrReplace o f s).seqr = s.seqr := by
  simp only [State.queueOrReplace]
  repeat' split
  all_goals simp

@[simp] theorem seqr_clearTx (s : State) : (State.clearTx s).seqr = s.seqr := by
  simp [State.clearTx]

@[simp] theorem seqr_queueAnswer (f : Frame) (s : State) : (State.queueAnswer f s).seqr = s.seqr := by
  simp only [State.queueAnswer]
  repeat' split
  all_goals simp

@[simp] theorem seqr_withdrawAnswers (cond : Frame → Bool) (s : State) :
    (State.withdrawAnswers cond s).seqr = s.seqr := by
  simp only [State.withdrawAnswers]
  apply seqr_foldl
  intro s i
  repeat' split
  all_goals simp

@[simp] theorem seqr_judgeSlots (s : State) : (State.judgeSlots s).seqr = s.seqr := by
  simp only [State.judgeSlots]
  repeat' split
  all_goals simp

@[simp] theorem seqr_failAttempt (s : State) : (State.failAttempt s).seqr = s.seqr := by
  simp only [State.failAttempt]
  repeat' split
  all_goals simp

@[simp] theorem seqr_countCrcError (s : State) : (State.countCrcError s).seqr = s.seqr := by
  simp only [State.countCrcError]
  repeat' split
  all_goals simp

@[simp] theorem seqr_pumpWaits (h : Handle) (ws : List SlotWait) (s : State) :
    (State.pumpWaits h ws s).seqr = s.seqr := by
  induction ws generalizing s with
  | nil => simp [State.pumpWaits]
  | cons w ws ih => simp only [State.pumpWaits]; split <;> simp [ih]

@[simp] theorem seqr_pumpSlot (h : Handle) (s : State) : (State.pumpSlot h s).seqr = s.seqr := by
  simp only [State.pumpSlot]
  repeat' split
  all_goals simp

@[simp] theorem seqr_sendSlot (h : Handle) (w : SlotWait) (s : State) : (State.sendSlot h w s).seqr = s.seqr := by
  simp [State.sendSlot]

@[simp] theorem seqr_dropWaits (h : Handle) (w : SlotWait) (s : State) : (State.dropWaits h w s).seqr = s.seqr := by
  simp [State.dropWaits]

@[simp] theorem seqr_withdrawSlot (h : Handle) (k : FrameKind) (s : State) :
    (State.withdrawSlot h k s).seqr = s.seqr := by
  simp only [State.withdrawSlot]
  repeat' split
  all_goals simp

@[simp] theorem seqr_roundFrom (h : Handle) (k : Nat) (s : State) : (State.roundFrom h k s).seqr = s.seqr := by
  simp only [State.roundFrom]
  repeat' split
  all_goals simp

@[simp] theorem seqr_startRound (h : Handle) (s : State) : (State.startRound h s).seqr = s.seqr := by
  simp only [State.startRound]
  repeat' split
  all_goals simp

@[simp] theorem seqr_withdrawBooks (h : Handle) (s : State) : (State.withdrawBooks h s).seqr = s.seqr := by
  simp [State.withdrawBooks]

@[simp] theorem seqr_failCandidate (h : Handle) (s : State) : (State.failCandidate h s).seqr = s.seqr := by
  simp only [State.failCandidate]
  repeat' split
  all_goals simp

@[simp] theorem seqr_sendRenewal (h : Handle) (s : State) : (State.sendRenewal h s).seqr = s.seqr := by
  simp only [State.sendRenewal]
  repeat' split
  all_goals simp

@[simp] theorem seqr_endBooking (h : Handle) (s : State) : (State.endBooking h s).seqr = s.seqr := by
  simp only [State.endBooking]
  repeat' split
  all_goals simp

@[simp] theorem seqr_startTransfer (h : Handle) (s : State) : (State.startTransfer h s).seqr = s.seqr := by
  simp only [State.startTransfer]
  repeat' split
  all_goals simp

@[simp] theorem seqr_stopTransfer (h : Handle) (s : State) : (State.stopTransfer h s).seqr = s.seqr := by
  simp [State.stopTransfer]

@[simp] theorem seqr_setStatus (cond : Booking → Bool) (st : BookingStatus) (s : State) :
    (State.setStatus cond st s).seqr = s.seqr := by
  simp [State.setStatus]

@[simp] theorem seqr_deleteRecord (h : Handle) (s : State) : (State.deleteRecord h s).seqr = s.seqr := by
  simp [State.deleteRecord]

@[simp] theorem seqr_answerRefused (a : Addr) (t : Tag) (r : Reason) (s : State) :
    (State.answerRefused a t r s).seqr = s.seqr := by
  simp [State.answerRefused]

@[simp] theorem seqr_renewEntry (a : Addr) (q : BookRequest) (b : Booking) (s : State) :
    (State.renewEntry a q b s).seqr = s.seqr := by
  simp [State.renewEntry]

@[simp] theorem seqr_completeImage (b : Booking) (im : List Byte) (s : State) :
    (State.completeImage b im s).seqr = s.seqr := by
  simp only [State.completeImage]
  repeat' split
  all_goals simp

@[simp] theorem seqr_takePart (b : Booking) (a : Assembly) (s : State) : (State.takePart b a s).seqr = s.seqr := by
  simp only [State.takePart]
  repeat' split
  all_goals simp

@[simp] theorem seqr_rejectOpen (b : Booking) (s : State) : (State.rejectOpen b s).seqr = s.seqr := by
  simp only [State.rejectOpen]
  repeat' split
  all_goals simp

@[simp] theorem seqr_takeFirstPart (a : Addr) (c : CarryPart) (s : State) :
    (State.takeFirstPart a c s).seqr = s.seqr := by
  simp only [State.takeFirstPart]
  repeat' split
  all_goals simp

@[simp] theorem seqr_takeLaterPart (a : Addr) (c : CarryPart) (s : State) :
    (State.takeLaterPart a c s).seqr = s.seqr := by
  simp only [State.takeLaterPart]
  repeat' split
  all_goals simp

@[simp] theorem seqr_takeCarry (a : Addr) (c : CarryPart) (s : State) : (State.takeCarry a c s).seqr = s.seqr := by
  simp only [State.takeCarry]
  repeat' split
  all_goals simp

@[simp] theorem seqr_found (a : Addr) (t : Tag) (s : State) : (State.found a t s).seqr = s.seqr := by
  simp only [State.found]
  repeat' split
  all_goals simp

@[simp] theorem seqr_answerLocate (a : Addr) (t : Tag) (s : State) : (State.answerLocate a t s).seqr = s.seqr := by
  simp only [State.answerLocate]
  repeat' split
  all_goals simp

@[simp] theorem seqr_peerGone (a : Addr) (c : GoneCause) (s : State) : (State.peerGone a c s).seqr = s.seqr := by
  simp only [State.peerGone]
  repeat' split
  all_goals simp

@[simp] theorem seqr_postPeerJoined (a : Addr) (s : State) : (State.postPeerJoined a s).seqr = s.seqr := by
  simp [State.postPeerJoined]

@[simp] theorem seqr_peerJoins (a : Addr) (role : Role) (s : State) : (State.peerJoins a role s).seqr = s.seqr := by
  simp [State.peerJoins]

@[simp] theorem seqr_applyPresence (a : Addr) (q : PresenceReport) (s : State) :
    (State.applyPresence a q s).seqr = s.seqr := by
  simp only [State.applyPresence]
  repeat' split
  all_goals simp

@[simp] theorem seqr_restartRound (a : Addr) (s : State) (h : Handle) : (State.restartRound a s h).seqr = s.seqr := by
  simp only [State.restartRound]
  repeat' split
  all_goals simp

@[simp] theorem seqr_restartRounds (a : Addr) (q : PresenceReport) (s : State) :
    (State.restartRounds a q s).seqr = s.seqr := by
  simp only [State.restartRounds]
  repeat' split
  all_goals simp

@[simp] theorem seqr_noteSender (a : Addr) (s : State) : (State.noteSender a s).seqr = s.seqr := by
  simp only [State.noteSender]
  repeat' split
  all_goals simp

@[simp] theorem seqr_sendUpkeep (f : Frame) (s : State) : (State.sendUpkeep f s).seqr = s.seqr := by
  simp only [State.sendUpkeep]
  repeat' split
  all_goals simp

@[simp] theorem seqr_pumpUpkeep (s : State) : (State.pumpUpkeep s).seqr = s.seqr := by
  simp only [State.pumpUpkeep]
  repeat' split
  all_goals simp

@[simp] theorem seqr_withdrawUpkeep (kinds : List FrameKind) (s : State) :
    (State.withdrawUpkeep kinds s).seqr = s.seqr := by
  simp only [State.withdrawUpkeep]
  repeat' split
  all_goals simp

@[simp] theorem seqr_stopServing (s : State) : (State.stopServing s).seqr = s.seqr := by
  simp [State.stopServing]

@[simp] theorem seqr_stopServingOf (a : Addr) (s : State) : (State.stopServingOf a s).seqr = s.seqr := by
  simp only [State.stopServingOf]
  repeat' split
  all_goals simp

@[simp] theorem seqr_leaveQueue (a : Addr) (s : State) : (State.leaveQueue a s).seqr = s.seqr := by
  simp [State.leaveQueue]

@[simp] theorem seqr_enterQueue (a : Addr) (s : State) : (State.enterQueue a s).seqr = s.seqr := by
  simp only [State.enterQueue]
  repeat' split
  all_goals simp

@[simp] theorem seqr_judgeProvider (a : Addr) (s : State) : (State.judgeProvider a s).seqr = s.seqr := by
  simp only [State.judgeProvider]
  repeat' split
  all_goals simp

@[simp] theorem seqr_tryServe (s : State) : (State.tryServe s).seqr = s.seqr := by
  simp only [State.tryServe]
  repeat' split
  all_goals simp

@[simp] theorem seqr_snapAppeared (s : State) : (State.snapAppeared s).seqr = s.seqr := by
  simp only [State.snapAppeared]
  repeat' split
  all_goals simp

@[simp] theorem seqr_rejoin (c : Cause) (s : State) : (State.rejoin c s).seqr = s.seqr := by
  simp only [State.rejoin]
  repeat' split
  all_goals simp

@[simp] theorem seqr_enterJoining (c : Cause) (s : State) : (State.enterJoining c s).seqr = s.seqr := by
  simp [State.enterJoining]

@[simp] theorem seqr_startJoin (s : State) : (State.startJoin s).seqr = s.seqr := by
  simp [State.startJoin]

@[simp] theorem seqr_bufferFrame (f : BufferedFrame) (s : State) : (State.bufferFrame f s).seqr = s.seqr := by
  simp only [State.bufferFrame]
  repeat' split
  all_goals simp

@[simp] theorem seqr_joinedRecord (s : State) (h : Handle) : (State.joinedRecord s h).seqr = s.seqr := by
  simp only [State.joinedRecord]
  repeat' split
  all_goals simp

@[simp] theorem seqr_loadSnapshot (n : SnapIn) (s : State) : (State.loadSnapshot n s).seqr = s.seqr := by
  simp [State.loadSnapshot]

@[simp] theorem seqr_listFrame (f : BufferedFrame) (s : State) : (State.listFrame f s).seqr = s.seqr := by
  simp only [State.listFrame]
  repeat' split
  all_goals simp

@[simp] theorem seqr_replayFrame (s : State) (f : BufferedFrame) : (State.replayFrame s f).seqr = s.seqr := by
  simp [State.replayFrame]

@[simp] theorem seqr_enterMismatch (s : State) : (State.enterMismatch s).seqr = s.seqr := by
  simp [State.enterMismatch]

@[simp] theorem seqr_takeHead (sender : Addr) (q : SnapHead) (s : State) :
    (State.takeHead sender q s).seqr = s.seqr := by
  simp only [State.takeHead]
  repeat' split
  all_goals simp

@[simp] theorem seqr_beginTx (s : State) : (State.beginTx s).seqr = s.seqr := by
  simp only [State.beginTx]
  repeat' split
  all_goals simp

@[simp] theorem seqr_pumpOrigin (o : Origin) (s : State) : (State.pumpOrigin o s).seqr = s.seqr := by
  simp only [State.pumpOrigin]
  repeat' split
  all_goals simp

@[simp] theorem seqr_finishOwn (own : OwnTx) (s : State) : (State.finishOwn own s).seqr = s.seqr := by
  simp only [State.finishOwn]
  repeat' split
  all_goals simp

@[simp] theorem seqr_dropFrame (o : Origin) (s : State) : (State.dropFrame o s).seqr = s.seqr := by
  simp [State.dropFrame]

@[simp] theorem seqr_countVoid (s : State) : (State.countVoid s).seqr = s.seqr := by
  simp only [State.countVoid]
  repeat' split
  all_goals simp

@[simp] theorem seqr_dropHead (s : State) : (State.dropHead s).seqr = s.seqr := by
  simp only [State.dropHead]
  repeat' split
  all_goals simp

@[simp] theorem seqr_noteBar (k : FrameKind) (payload : List Byte) (s : State) :
    (State.noteBar k payload s).seqr = s.seqr := by
  simp only [State.noteBar]
  repeat' split
  all_goals simp

@[simp] theorem seqr_takenSaved (own : OwnTx) (s : State) : (State.takenSaved own s).seqr = s.seqr := by
  simp only [State.takenSaved]
  repeat' split
  all_goals simp

@[simp] theorem seqr_appearUndefined (sender : Addr) (s : State) : (State.appearUndefined sender s).seqr = s.seqr := by
  simp only [State.appearUndefined]
  repeat' split
  all_goals simp

@[simp] theorem seqr_onSnapHead (own : OwnTx) (sender : Addr) (payload : List Byte) (s : State) :
    (State.onSnapHead own sender payload s).seqr = s.seqr := by
  simp only [State.onSnapHead]
  repeat' split
  all_goals simp

@[simp] theorem seqr_onPresence (sender : Addr) (payload : List Byte) (s : State) :
    (State.onPresence sender payload s).seqr = s.seqr := by
  simp only [State.onPresence]
  repeat' split
  all_goals simp

@[simp] theorem seqr_bookAppeared (own : OwnTx) (dest : BitVec 5) (q : BookRequest) (s : State) :
    (State.bookAppeared own dest q s).seqr = s.seqr := by
  simp only [State.bookAppeared]
  repeat' split
  all_goals simp

@[simp] theorem seqr_bookedAppeared (dest : BitVec 5) (t : Tag) (s : State) :
    (State.bookedAppeared dest t s).seqr = s.seqr := by
  simp [State.bookedAppeared]

@[simp] theorem seqr_onFound (sender : Addr) (dest : BitVec 5) (payload : List Byte) (s : State) :
    (State.onFound sender dest payload s).seqr = s.seqr := by
  simp only [State.onFound]
  repeat' split
  all_goals simp

@[simp] theorem seqr_locateAppeared (t : Tag) (s : State) : (State.locateAppeared t s).seqr = s.seqr := by
  simp only [State.locateAppeared]
  repeat' split
  all_goals simp

@[simp] theorem seqr_onLocate (own : OwnTx) (sender : Addr) (payload : List Byte) (s : State) :
    (State.onLocate own sender payload s).seqr = s.seqr := by
  simp only [State.onLocate]
  repeat' split
  all_goals simp

@[simp] theorem seqr_carryAppeared (own : OwnTx) (index : Nat) (s : State) :
    (State.carryAppeared own index s).seqr = s.seqr := by
  simp only [State.carryAppeared]
  repeat' split
  all_goals simp

@[simp] theorem seqr_onCarry (own : OwnTx) (sender : Addr) (dest : BitVec 5) (payload : List Byte) (s : State) :
    (State.onCarry own sender dest payload s).seqr = s.seqr := by
  simp only [State.onCarry]
  repeat' split
  all_goals simp

@[simp] theorem seqr_answerExpired (h : Handle) (s : State) : (State.answerExpired h s).seqr = s.seqr := by
  simp only [State.answerExpired]
  repeat' split
  all_goals simp

@[simp] theorem seqr_partGapExpired (p : PosIx) (s : State) : (State.partGapExpired p s).seqr = s.seqr := by
  simp only [State.partGapExpired]
  repeat' split
  all_goals simp

@[simp] theorem seqr_locateExpired (h : Handle) (s : State) : (State.locateExpired h s).seqr = s.seqr := by
  simp only [State.locateExpired]
  repeat' split
  all_goals simp

@[simp] theorem seqr_departureExpired (a : Addr) (s : State) : (State.departureExpired a s).seqr = s.seqr := by
  simp only [State.departureExpired]
  repeat' split
  all_goals simp

@[simp] theorem seqr_presenceExpired (s : State) : (State.presenceExpired s).seqr = s.seqr := by
  simp only [State.presenceExpired]
  repeat' split
  all_goals simp

@[simp] theorem seqr_snapGapExpired (s : State) : (State.snapGapExpired s).seqr = s.seqr := by
  simp only [State.snapGapExpired]
  repeat' split
  all_goals simp

@[simp] theorem seqr_backoffExpired (s : State) : (State.backoffExpired s).seqr = s.seqr := by
  simp only [State.backoffExpired]
  repeat' split
  all_goals simp

@[simp] theorem seqr_fireDeparture (s : State) (a : Addr) : (State.fireDeparture s a).seqr = s.seqr := by
  simp only [State.fireDeparture]
  repeat' split
  all_goals simp

@[simp] theorem seqr_beginWrite (s : State) : (State.beginWrite s).seqr = s.seqr := by
  simp only [State.beginWrite]
  repeat' split
  all_goals simp

@[simp] theorem seqr_endWrite (s : State) : (State.endWrite s).seqr = s.seqr := by
  simp only [State.endWrite]
  repeat' split
  all_goals simp

@[simp] theorem seqr_cleanLink (s : State) (h : Handle) : (State.cleanLink s h).seqr = s.seqr := by
  simp [State.cleanLink]

@[simp] theorem seqr_restoreArrival (s : State) (h : Handle) : (State.restoreArrival s h).seqr = s.seqr := by
  simp only [State.restoreArrival]
  repeat' split
  all_goals simp

@[simp] theorem seqr_postRestoreHeld (s : State) (x : Handle × Nat) : (State.postRestoreHeld s x).seqr = s.seqr := by
  simp only [State.postRestoreHeld]
  repeat' split
  all_goals simp

@[simp] theorem seqr_rebuildFreeList (s : State) : (State.rebuildFreeList s).seqr = s.seqr := by
  simp [State.rebuildFreeList]

@[simp] theorem seqr_postRestored (n : Nat) (s : State) : (State.postRestored n s).seqr = s.seqr := by
  simp [State.postRestored]

@[simp] theorem seqr_configWrite (item : Byte) (v : BitVec 16) (s : State) :
    (State.configWrite item v s).seqr = s.seqr := by
  simp only [State.configWrite]
  repeat' split
  all_goals simp

@[simp] theorem seqr_rushRecord (h : Handle) (r : Record) (s : State) : (State.rushRecord h r s).seqr = s.seqr := by
  simp only [State.rushRecord]
  repeat' split
  all_goals simp

@[simp] theorem seqr_wrongCode (s : State) : (State.wrongCode s).seqr = s.seqr := by
  simp [State.wrongCode]

@[simp] theorem seqr_stopLocate (h : Handle) (s : State) : (State.stopLocate h s).seqr = s.seqr := by
  simp [State.stopLocate]

@[simp] theorem seqr_departureDue (a : Addr) (s : State) : (State.departureDue a s).seqr = s.seqr := by
  simp [State.departureDue]

@[simp] theorem seqr_sendLeave (s : State) : (State.sendLeave s).seqr = s.seqr := by
  simp [State.sendLeave]

end Sys2Proof.Machine
end

