-- ==== Sys2Proof/Laws/FrameStates.lean ====
section
/-! SUPPORT. Which operations leave the slot states, and so every record, alone: one lemma per operation, proved in the order the operations are built in. -/

namespace Sys2Proof.Machine

/-- The states of the slots, with the records. -/
def State.states (s : State) : Vector SlotState 32 := s.store.slots.map fun (x : Slot) => x.state

@[simp] theorem states_mk (a b c d e f g h i j k l) : (State.mk a b c d e f g h i j k l).states = j.slots.map fun (x : Slot) => x.state := rfl

@[simp] theorem states_eta (s : State) : (s.store.slots.map fun (x : Slot) => x.state) = s.states := rfl

@[simp] theorem states_setWaits (h : Handle) (ws : List SlotWait) (s : State) :
    (s.setWaits h ws).states = s.states := by
  simp only [State.states, State.setWaits, State.setSlot, State.slot]
  ext i hi
  simp only [Vector.getElem_map, Vector.getElem_set, Fin.getElem_fin]
  split <;> first | rfl | (rename_i e; subst e; rfl)

/-- A slot's record as its state gives it. -/
theorem recOpt_eq (s : State) (h : Handle) : s.rec? h = match s.states[h] with
    | .inUse r => some r
    | .reserved => none
    | .free => none := by
  simp only [State.rec?, State.states, State.slot, Fin.getElem_fin, Vector.getElem_map] <;> rfl

theorem recOpt_of_states {s t : State} (e : t.states = s.states) (h : Handle) : t.rec? h = s.rec? h := by
  rw [recOpt_eq, recOpt_eq, e]

@[simp] theorem states_ite (c : Prop) [Decidable c] (x y : State) : (if c then x else y).states = if c then x.states else y.states := by
  split <;> rfl

@[simp] theorem states_foldl {α} (f : State → α → State) (hf : ∀ s a, (f s a).states = s.states) (l : List α) (s : State) :
    (l.foldl f s).states = s.states := by
  induction l generalizing s with
  | nil => rfl
  | cons a l ih => rw [List.foldl_cons, ih, hf]

@[simp] theorem states_enqueue (h : Handle) (rush : Bool) (s : State) : (State.enqueue h rush s).states = s.states := by
  simp only [State.enqueue]
  repeat' split
  all_goals simp

@[simp] theorem states_unqueue (h : Handle) (s : State) : (State.unqueue h s).states = s.states := by
  simp [State.unqueue]

@[simp] theorem states_updPos (p : PosIx) (f : Position → Position) (s : State) :
    (State.updPos p f s).states = s.states := by
  simp [State.updPos]

@[simp] theorem states_vacate (p : PosIx) (st : PosState) (s : State) : (State.vacate p st s).states = s.states := by
  simp [State.vacate]

@[simp] theorem states_vacateOpt (p : Option PosIx) (st : PosState) (s : State) :
    (State.vacate? p st s).states = s.states := by
  simp only [State.vacate?]
  repeat' split
  all_goals simp

@[simp] theorem states_alarm (f : Alarms → Alarms) (s : State) : (State.alarm f s).states = s.states := by
  simp [State.alarm]

@[simp] theorem states_post (e : Event) (s : State) : (State.post e s).states = s.states := by
  simp only [State.post]
  repeat' split
  all_goals simp

@[simp] theorem states_postLineState (c : Cause) (s : State) : (State.postLineState c s).states = s.states := by
  simp [State.postLineState]

@[simp] theorem states_respond (st : Status) (data : BitVec 24) (s : State) :
    (State.respond st data s).states = s.states := by
  simp [State.respond]

@[simp] theorem states_ok (d2 d1 d0 : Byte) (s : State) : (State.ok d2 d1 d0 s).states = s.states := by
  simp [State.ok]

@[simp] theorem states_refuse (r : Reason) (d0 : Byte) (s : State) : (State.refuse r d0 s).states = s.states := by
  simp [State.refuse]

@[simp] theorem states_badArgument (code : Byte) (s : State) : (State.badArgument code s).states = s.states := by
  simp [State.badArgument]

@[simp] theorem states_deliver (s : State) : (State.deliver s).states = s.states := by
  simp [State.deliver]

@[simp] theorem states_stage (bs : List Byte) (s : State) : (State.stage bs s).states = s.states := by
  simp [State.stage]

@[simp] theorem states_queueFrame (o : Origin) (f : Frame) (s : State) :
    (State.queueFrame o f s).states = s.states := by
  simp only [State.queueFrame]
  repeat' split
  all_goals simp

@[simp] theorem states_setTx (l : List TxEntry) (s : State) : (State.setTx l s).states = s.states := by
  simp only [State.setTx]
  repeat' split
  all_goals simp

@[simp] theorem states_removeTx (o : Origin) (s : State) : (State.removeTx o s).states = s.states := by
  simp [State.removeTx]

@[simp] theorem states_updTx (o : Origin) (f : TxEntry → TxEntry) (s : State) :
    (State.updTx o f s).states = s.states := by
  simp [State.updTx]

@[simp] theorem states_withdrawTx (o : Origin) (s : State) : (State.withdrawTx o s).states = s.states := by
  simp only [State.withdrawTx]
  repeat' split
  all_goals simp

@[simp] theorem states_replaceTx (o : Origin) (f : Frame) (s : State) : (State.replaceTx o f s).states = s.states := by
  simp only [State.replaceTx]
  repeat' split
  all_goals simp

@[simp] theorem states_queueOrReplace (o : Origin) (f : Frame) (s : State) :
    (State.queueOrReplace o f s).states = s.states := by
  simp only [State.queueOrReplace]
  repeat' split
  all_goals simp

@[simp] theorem states_queueAnswer (f : Frame) (s : State) : (State.queueAnswer f s).states = s.states := by
  simp only [State.queueAnswer]
  repeat' split
  all_goals simp

@[simp] theorem states_withdrawAnswers (cond : Frame → Bool) (s : State) :
    (State.withdrawAnswers cond s).states = s.states := by
  simp only [State.withdrawAnswers]
  apply states_foldl
  intro s i
  repeat' split
  all_goals simp

@[simp] theorem states_judgeSlots (s : State) : (State.judgeSlots s).states = s.states := by
  simp only [State.judgeSlots]
  repeat' split
  all_goals simp

@[simp] theorem states_failAttempt (s : State) : (State.failAttempt s).states = s.states := by
  simp only [State.failAttempt]
  repeat' split
  all_goals simp

@[simp] theorem states_countCrcError (s : State) : (State.countCrcError s).states = s.states := by
  simp only [State.countCrcError]
  repeat' split
  all_goals simp

@[simp] theorem states_setClaim (p : PosIx) (c : ClaimState) (s : State) :
    (State.setClaim p c s).states = s.states := by
  simp [State.setClaim]

@[simp] theorem states_setRemembered (p : PosIx) (b : Bool) (s : State) :
    (State.setRemembered p b s).states = s.states := by
  simp [State.setRemembered]

@[simp] theorem states_queueClaim (p : PosIx) (s : State) : (State.queueClaim p s).states = s.states := by
  simp [State.queueClaim]

@[simp] theorem states_askClaim (p : PosIx) (s : State) : (State.askClaim p s).states = s.states := by
  simp only [State.askClaim]
  repeat' split
  all_goals simp

@[simp] theorem states_queueRelease (p : PosIx) (s : State) : (State.queueRelease p s).states = s.states := by
  simp [State.queueRelease]

@[simp] theorem states_giveUpClaim (p : PosIx) (s : State) : (State.giveUpClaim p s).states = s.states := by
  simp only [State.giveUpClaim]
  repeat' split
  all_goals simp

@[simp] theorem states_giveUpClaimOpt (p : Option PosIx) (s : State) : (State.giveUpClaim? p s).states = s.states := by
  simp only [State.giveUpClaim?]
  repeat' split
  all_goals simp

@[simp] theorem states_claimWithdrawn (p : PosIx) (s : State) : (State.claimWithdrawn p s).states = s.states := by
  simp only [State.claimWithdrawn]
  repeat' split
  all_goals simp

@[simp] theorem states_dropClaims (s : State) : (State.dropClaims s).states = s.states := by
  simp [State.dropClaims]

@[simp] theorem states_pumpWaits (h : Handle) (ws : List SlotWait) (s : State) :
    (State.pumpWaits h ws s).states = s.states := by
  induction ws generalizing s with
  | nil => simp [State.pumpWaits]
  | cons w ws ih => simp only [State.pumpWaits]; split <;> simp [ih]

@[simp] theorem states_pumpSlot (h : Handle) (s : State) : (State.pumpSlot h s).states = s.states := by
  simp only [State.pumpSlot]
  repeat' split
  all_goals simp

@[simp] theorem states_sendSlot (h : Handle) (w : SlotWait) (s : State) : (State.sendSlot h w s).states = s.states := by
  simp [State.sendSlot]

@[simp] theorem states_dropWaits (h : Handle) (w : SlotWait) (s : State) :
    (State.dropWaits h w s).states = s.states := by
  simp [State.dropWaits]

@[simp] theorem states_withdrawSlot (h : Handle) (k : FrameKind) (s : State) :
    (State.withdrawSlot h k s).states = s.states := by
  simp only [State.withdrawSlot]
  repeat' split
  all_goals simp

@[simp] theorem states_sendRenewal (h : Handle) (s : State) : (State.sendRenewal h s).states = s.states := by
  simp only [State.sendRenewal]
  repeat' split
  all_goals simp

@[simp] theorem states_stopPositionOpt (p : Option PosIx) (s : State) :
    (State.stopPosition? p s).states = s.states := by
  simp only [State.stopPosition?]
  repeat' split
  all_goals simp

@[simp] theorem states_claimStands (p : PosIx) (st : ClaimState) (s : State) :
    (State.claimStands p st s).states = s.states := by
  simp only [State.claimStands]
  repeat' split
  all_goals simp

@[simp] theorem states_ownRelease (payload : List Byte) (s : State) :
    (State.ownRelease payload s).states = s.states := by
  simp only [State.ownRelease]
  repeat' split
  all_goals simp

@[simp] theorem states_dropTable (s : State) : (State.dropTable s).states = s.states := by
  simp [State.dropTable]

@[simp] theorem states_setStatus (cond : Booking → Bool) (st : BookingStatus) (s : State) :
    (State.setStatus cond st s).states = s.states := by
  simp [State.setStatus]

@[simp] theorem states_answerRefused (a : Addr) (t : Tag) (r : Reason) (s : State) :
    (State.answerRefused a t r s).states = s.states := by
  simp [State.answerRefused]

@[simp] theorem states_renewEntry (a : Addr) (q : BookRequest) (b : Booking) (s : State) :
    (State.renewEntry a q b s).states = s.states := by
  simp [State.renewEntry]

@[simp] theorem states_completeImage (b : Booking) (im : List Byte) (s : State) :
    (State.completeImage b im s).states = s.states := by
  simp only [State.completeImage]
  repeat' split
  all_goals simp

@[simp] theorem states_takePart (b : Booking) (a : Assembly) (s : State) :
    (State.takePart b a s).states = s.states := by
  simp only [State.takePart]
  repeat' split
  all_goals simp

@[simp] theorem states_rejectOpen (b : Booking) (s : State) : (State.rejectOpen b s).states = s.states := by
  simp only [State.rejectOpen]
  repeat' split
  all_goals simp

@[simp] theorem states_takeFirstPart (a : Addr) (c : CarryPart) (s : State) :
    (State.takeFirstPart a c s).states = s.states := by
  simp only [State.takeFirstPart]
  repeat' split
  all_goals simp

@[simp] theorem states_takeLaterPart (a : Addr) (c : CarryPart) (s : State) :
    (State.takeLaterPart a c s).states = s.states := by
  simp only [State.takeLaterPart]
  repeat' split
  all_goals simp

@[simp] theorem states_takeCarry (a : Addr) (c : CarryPart) (s : State) :
    (State.takeCarry a c s).states = s.states := by
  simp only [State.takeCarry]
  repeat' split
  all_goals simp

@[simp] theorem states_answerLocate (a : Addr) (t : Tag) (s : State) :
    (State.answerLocate a t s).states = s.states := by
  simp only [State.answerLocate]
  repeat' split
  all_goals simp

@[simp] theorem states_clearOutbound (s : State) (p : PosIx) : (State.clearOutbound s p).states = s.states := by
  simp only [State.clearOutbound]
  repeat' split
  all_goals simp

@[simp] theorem states_updPeer (a : Addr) (f : Peer → Peer) (s : State) : (State.updPeer a f s).states = s.states := by
  simp [State.updPeer]

@[simp] theorem states_setLine (l : LineState) (s : State) : (State.setLine l s).states = s.states := by
  simp [State.setLine]

@[simp] theorem states_peerGone (a : Addr) (c : GoneCause) (s : State) : (State.peerGone a c s).states = s.states := by
  simp only [State.peerGone]
  repeat' split
  all_goals simp

@[simp] theorem states_postPeerJoined (a : Addr) (s : State) : (State.postPeerJoined a s).states = s.states := by
  simp [State.postPeerJoined]

@[simp] theorem states_peerJoins (a : Addr) (role : Role) (s : State) :
    (State.peerJoins a role s).states = s.states := by
  simp [State.peerJoins]

@[simp] theorem states_applyPresence (a : Addr) (q : PresenceReport) (s : State) :
    (State.applyPresence a q s).states = s.states := by
  simp only [State.applyPresence]
  repeat' split
  all_goals simp

@[simp] theorem states_noteSender (a : Addr) (s : State) : (State.noteSender a s).states = s.states := by
  simp only [State.noteSender]
  repeat' split
  all_goals simp

@[simp] theorem states_sendUpkeep (f : Frame) (s : State) : (State.sendUpkeep f s).states = s.states := by
  simp only [State.sendUpkeep]
  repeat' split
  all_goals simp

@[simp] theorem states_pumpUpkeep (s : State) : (State.pumpUpkeep s).states = s.states := by
  simp only [State.pumpUpkeep]
  repeat' split
  all_goals simp

@[simp] theorem states_withdrawUpkeep (kinds : List FrameKind) (s : State) :
    (State.withdrawUpkeep kinds s).states = s.states := by
  simp only [State.withdrawUpkeep]
  repeat' split
  all_goals simp

@[simp] theorem states_stopServing (s : State) : (State.stopServing s).states = s.states := by
  simp [State.stopServing]

@[simp] theorem states_stopServingOf (a : Addr) (s : State) : (State.stopServingOf a s).states = s.states := by
  simp only [State.stopServingOf]
  repeat' split
  all_goals simp

@[simp] theorem states_setJoinQueue (l : List Joiner) (s : State) : (State.setJoinQueue l s).states = s.states := by
  simp [State.setJoinQueue]

@[simp] theorem states_leaveQueue (a : Addr) (s : State) : (State.leaveQueue a s).states = s.states := by
  simp [State.leaveQueue]

@[simp] theorem states_enterQueue (a : Addr) (s : State) : (State.enterQueue a s).states = s.states := by
  simp only [State.enterQueue]
  repeat' split
  all_goals simp

@[simp] theorem states_judgeProvider (a : Addr) (s : State) : (State.judgeProvider a s).states = s.states := by
  simp only [State.judgeProvider]
  repeat' split
  all_goals simp

@[simp] theorem states_tryServe (s : State) : (State.tryServe s).states = s.states := by
  simp only [State.tryServe]
  repeat' split
  all_goals simp

@[simp] theorem states_snapAppeared (s : State) : (State.snapAppeared s).states = s.states := by
  simp only [State.snapAppeared]
  repeat' split
  all_goals simp

@[simp] theorem states_rejoin (c : Cause) (s : State) : (State.rejoin c s).states = s.states := by
  simp only [State.rejoin]
  repeat' split
  all_goals simp

@[simp] theorem states_enterJoining (c : Cause) (s : State) : (State.enterJoining c s).states = s.states := by
  simp [State.enterJoining]

@[simp] theorem states_startJoin (s : State) : (State.startJoin s).states = s.states := by
  simp [State.startJoin]

@[simp] theorem states_bufferFrame (f : BufferedFrame) (s : State) : (State.bufferFrame f s).states = s.states := by
  simp only [State.bufferFrame]
  repeat' split
  all_goals simp

@[simp] theorem states_loadSnapshot (n : SnapIn) (s : State) : (State.loadSnapshot n s).states = s.states := by
  simp [State.loadSnapshot]

@[simp] theorem states_listFrame (f : BufferedFrame) (s : State) : (State.listFrame f s).states = s.states := by
  simp only [State.listFrame]
  repeat' split
  all_goals simp

@[simp] theorem states_replayFrame (s : State) (f : BufferedFrame) : (State.replayFrame s f).states = s.states := by
  simp [State.replayFrame]

@[simp] theorem states_setInTx (x : InTx) (s : State) : (State.setInTx x s).states = s.states := by
  simp [State.setInTx]

@[simp] theorem states_beginTx (s : State) : (State.beginTx s).states = s.states := by
  simp only [State.beginTx]
  repeat' split
  all_goals simp

@[simp] theorem states_restartStall (s : State) : (State.restartStall s).states = s.states := by
  simp only [State.restartStall]
  repeat' split
  all_goals simp

@[simp] theorem states_pumpOrigin (o : Origin) (s : State) : (State.pumpOrigin o s).states = s.states := by
  simp only [State.pumpOrigin]
  repeat' split
  all_goals simp

@[simp] theorem states_finishOwn (own : OwnTx) (s : State) : (State.finishOwn own s).states = s.states := by
  simp only [State.finishOwn]
  repeat' split
  all_goals simp

@[simp] theorem states_dropFrame (o : Origin) (s : State) : (State.dropFrame o s).states = s.states := by
  simp [State.dropFrame]

@[simp] theorem states_countVoid (s : State) : (State.countVoid s).states = s.states := by
  simp only [State.countVoid]
  repeat' split
  all_goals simp

@[simp] theorem states_dropHead (s : State) : (State.dropHead s).states = s.states := by
  simp only [State.dropHead]
  repeat' split
  all_goals simp

@[simp] theorem states_countClean (s : State) : (State.countClean s).states = s.states := by
  simp [State.countClean]

@[simp] theorem states_noteBar (k : FrameKind) (payload : List Byte) (s : State) :
    (State.noteBar k payload s).states = s.states := by
  simp only [State.noteBar]
  repeat' split
  all_goals simp

@[simp] theorem states_takenSaved (own : OwnTx) (s : State) : (State.takenSaved own s).states = s.states := by
  simp only [State.takenSaved]
  repeat' split
  all_goals simp

@[simp] theorem states_appearUndefined (sender : Addr) (s : State) :
    (State.appearUndefined sender s).states = s.states := by
  simp only [State.appearUndefined]
  repeat' split
  all_goals simp

@[simp] theorem states_bookedAppeared (dest : BitVec 5) (t : Tag) (s : State) :
    (State.bookedAppeared dest t s).states = s.states := by
  simp [State.bookedAppeared]

@[simp] theorem states_partGapExpired (p : PosIx) (s : State) : (State.partGapExpired p s).states = s.states := by
  simp only [State.partGapExpired]
  repeat' split
  all_goals simp

@[simp] theorem states_departureExpired (a : Addr) (s : State) : (State.departureExpired a s).states = s.states := by
  simp only [State.departureExpired]
  repeat' split
  all_goals simp

@[simp] theorem states_presenceExpired (s : State) : (State.presenceExpired s).states = s.states := by
  simp only [State.presenceExpired]
  repeat' split
  all_goals simp

@[simp] theorem states_snapGapExpired (s : State) : (State.snapGapExpired s).states = s.states := by
  simp only [State.snapGapExpired]
  repeat' split
  all_goals simp

@[simp] theorem states_backoffExpired (s : State) : (State.backoffExpired s).states = s.states := by
  simp only [State.backoffExpired]
  repeat' split
  all_goals simp

@[simp] theorem states_advancePos (s : State) (p : PosIx) : (State.advancePos s p).states = s.states := by
  simp only [State.advancePos]
  repeat' split
  all_goals simp

@[simp] theorem states_fireDeparture (s : State) (a : Addr) : (State.fireDeparture s a).states = s.states := by
  simp only [State.fireDeparture]
  repeat' split
  all_goals simp

@[simp] theorem states_beginWrite (s : State) : (State.beginWrite s).states = s.states := by
  simp only [State.beginWrite]
  repeat' split
  all_goals simp

@[simp] theorem states_restorePosition (im : List Byte) (s : State) (p : PosIx) :
    (State.restorePosition im s p).states = s.states := by
  simp only [State.restorePosition]
  repeat' split
  all_goals simp

@[simp] theorem states_restoreArrival (s : State) (h : Handle) : (State.restoreArrival s h).states = s.states := by
  simp only [State.restoreArrival]
  repeat' split
  all_goals simp

@[simp] theorem states_postRestoreHeld (s : State) (x : Handle × Nat) :
    (State.postRestoreHeld s x).states = s.states := by
  simp only [State.postRestoreHeld]
  repeat' split
  all_goals simp

@[simp] theorem states_rebuildFreeList (s : State) : (State.rebuildFreeList s).states = s.states := by
  simp [State.rebuildFreeList]

@[simp] theorem states_invalidate (s : State) : (State.invalidate s).states = s.states := by
  simp [State.invalidate]

@[simp] theorem states_postRestored (n : Nat) (s : State) : (State.postRestored n s).states = s.states := by
  simp [State.postRestored]

@[simp] theorem states_openPositions (s : State) : (State.openPositions s).states = s.states := by
  simp [State.openPositions]

@[simp] theorem states_configWrite (item : Byte) (v : BitVec 16) (s : State) :
    (State.configWrite item v s).states = s.states := by
  simp only [State.configWrite]
  repeat' split
  all_goals simp

@[simp] theorem states_useSeq (q : BitVec 16) (s : State) : (State.useSeq q s).states = s.states := by
  simp [State.useSeq]

@[simp] theorem states_wrongCode (s : State) : (State.wrongCode s).states = s.states := by
  simp [State.wrongCode]

@[simp] theorem states_scrapPosition (p : Option PosIx) (s : State) : (State.scrapPosition p s).states = s.states := by
  simp only [State.scrapPosition]
  repeat' split
  all_goals simp

@[simp] theorem states_setIlk (p : PosIx) (level : Bool) (s : State) : (State.setIlk p level s).states = s.states := by
  simp [State.setIlk]

@[simp] theorem states_departureDue (a : Addr) (s : State) : (State.departureDue a s).states = s.states := by
  simp [State.departureDue]

@[simp] theorem states_sendLeave (s : State) : (State.sendLeave s).states = s.states := by
  simp [State.sendLeave]

end Sys2Proof.Machine
end

