-- ==== Sys2Proof/Laws/FrameStore.lean ====
section
/-! SUPPORT. Which operations leave the whole record store alone: one lemma per operation, proved in the order the operations are built in. -/

namespace Sys2Proof.Machine

@[simp] theorem store_ite (c : Prop) [Decidable c] (x y : State) : (if c then x else y).store = if c then x.store else y.store := by
  split <;> rfl

@[simp] theorem store_foldl {α} (f : State → α → State) (hf : ∀ s a, (f s a).store = s.store) (l : List α) (s : State) :
    (l.foldl f s).store = s.store := by
  induction l generalizing s with
  | nil => rfl
  | cons a l ih => rw [List.foldl_cons, ih, hf]

@[simp] theorem store_vacateOpt (p : Option PosIx) (st : PosState) (s : State) :
    (State.vacate? p st s).store = s.store := by
  simp only [State.vacate?]
  repeat' split
  all_goals simp

@[simp] theorem store_post (e : Event) (s : State) : (State.post e s).store = s.store := by
  simp only [State.post]
  repeat' split
  all_goals simp

@[simp] theorem store_postLineState (c : Cause) (s : State) : (State.postLineState c s).store = s.store := by
  simp [State.postLineState]

@[simp] theorem store_ok (d2 d1 d0 : Byte) (s : State) : (State.ok d2 d1 d0 s).store = s.store := by
  simp [State.ok]

@[simp] theorem store_refuse (r : Reason) (d0 : Byte) (s : State) : (State.refuse r d0 s).store = s.store := by
  simp [State.refuse]

@[simp] theorem store_badArgument (code : Byte) (s : State) : (State.badArgument code s).store = s.store := by
  simp [State.badArgument]

@[simp] theorem store_queueFrame (o : Origin) (f : Frame) (s : State) : (State.queueFrame o f s).store = s.store := by
  simp only [State.queueFrame]
  repeat' split
  all_goals simp

@[simp] theorem store_withdrawTx (o : Origin) (s : State) : (State.withdrawTx o s).store = s.store := by
  simp only [State.withdrawTx]
  repeat' split
  all_goals simp

@[simp] theorem store_replaceTx (o : Origin) (f : Frame) (s : State) : (State.replaceTx o f s).store = s.store := by
  simp only [State.replaceTx]
  repeat' split
  all_goals simp

@[simp] theorem store_queueOrReplace (o : Origin) (f : Frame) (s : State) :
    (State.queueOrReplace o f s).store = s.store := by
  simp only [State.queueOrReplace]
  repeat' split
  all_goals simp

@[simp] theorem store_queueAnswer (f : Frame) (s : State) : (State.queueAnswer f s).store = s.store := by
  simp only [State.queueAnswer]
  repeat' split
  all_goals simp

@[simp] theorem store_withdrawAnswers (cond : Frame → Bool) (s : State) :
    (State.withdrawAnswers cond s).store = s.store := by
  simp only [State.withdrawAnswers]
  apply store_foldl
  intro s i
  repeat' split
  all_goals simp

@[simp] theorem store_countCrcError (s : State) : (State.countCrcError s).store = s.store := by
  simp only [State.countCrcError]
  repeat' split
  all_goals simp

@[simp] theorem store_queueClaim (p : PosIx) (s : State) : (State.queueClaim p s).store = s.store := by
  simp [State.queueClaim]

@[simp] theorem store_askClaim (p : PosIx) (s : State) : (State.askClaim p s).store = s.store := by
  simp only [State.askClaim]
  repeat' split
  all_goals simp

@[simp] theorem store_queueRelease (p : PosIx) (s : State) : (State.queueRelease p s).store = s.store := by
  simp [State.queueRelease]

@[simp] theorem store_giveUpClaim (p : PosIx) (s : State) : (State.giveUpClaim p s).store = s.store := by
  simp only [State.giveUpClaim]
  repeat' split
  all_goals simp

@[simp] theorem store_giveUpClaimOpt (p : Option PosIx) (s : State) : (State.giveUpClaim? p s).store = s.store := by
  simp only [State.giveUpClaim?]
  repeat' split
  all_goals simp

@[simp] theorem store_claimWithdrawn (p : PosIx) (s : State) : (State.claimWithdrawn p s).store = s.store := by
  simp only [State.claimWithdrawn]
  repeat' split
  all_goals simp

@[simp] theorem store_stopPositionOpt (p : Option PosIx) (s : State) : (State.stopPosition? p s).store = s.store := by
  simp only [State.stopPosition?]
  repeat' split
  all_goals simp

@[simp] theorem store_claimStands (p : PosIx) (st : ClaimState) (s : State) :
    (State.claimStands p st s).store = s.store := by
  simp only [State.claimStands]
  repeat' split
  all_goals simp

@[simp] theorem store_ownRelease (payload : List Byte) (s : State) : (State.ownRelease payload s).store = s.store := by
  simp only [State.ownRelease]
  repeat' split
  all_goals simp

@[simp] theorem store_setStatus (cond : Booking → Bool) (st : BookingStatus) (s : State) :
    (State.setStatus cond st s).store = s.store := by
  simp [State.setStatus]

@[simp] theorem store_answerRefused (a : Addr) (t : Tag) (r : Reason) (s : State) :
    (State.answerRefused a t r s).store = s.store := by
  simp [State.answerRefused]

@[simp] theorem store_renewEntry (a : Addr) (q : BookRequest) (b : Booking) (s : State) :
    (State.renewEntry a q b s).store = s.store := by
  simp [State.renewEntry]

@[simp] theorem store_completeImage (b : Booking) (im : List Byte) (s : State) :
    (State.completeImage b im s).store = s.store := by
  simp only [State.completeImage]
  repeat' split
  all_goals simp

@[simp] theorem store_takePart (b : Booking) (a : Assembly) (s : State) : (State.takePart b a s).store = s.store := by
  simp only [State.takePart]
  repeat' split
  all_goals simp

@[simp] theorem store_rejectOpen (b : Booking) (s : State) : (State.rejectOpen b s).store = s.store := by
  simp only [State.rejectOpen]
  repeat' split
  all_goals simp

@[simp] theorem store_takeFirstPart (a : Addr) (c : CarryPart) (s : State) :
    (State.takeFirstPart a c s).store = s.store := by
  simp only [State.takeFirstPart]
  repeat' split
  all_goals simp

@[simp] theorem store_takeLaterPart (a : Addr) (c : CarryPart) (s : State) :
    (State.takeLaterPart a c s).store = s.store := by
  simp only [State.takeLaterPart]
  repeat' split
  all_goals simp

@[simp] theorem store_takeCarry (a : Addr) (c : CarryPart) (s : State) : (State.takeCarry a c s).store = s.store := by
  simp only [State.takeCarry]
  repeat' split
  all_goals simp

@[simp] theorem store_answerLocate (a : Addr) (t : Tag) (s : State) : (State.answerLocate a t s).store = s.store := by
  simp only [State.answerLocate]
  repeat' split
  all_goals simp

@[simp] theorem store_clearOutbound (s : State) (p : PosIx) : (State.clearOutbound s p).store = s.store := by
  simp only [State.clearOutbound]
  repeat' split
  all_goals simp

@[simp] theorem store_peerGone (a : Addr) (c : GoneCause) (s : State) : (State.peerGone a c s).store = s.store := by
  simp only [State.peerGone]
  repeat' split
  all_goals simp

@[simp] theorem store_postPeerJoined (a : Addr) (s : State) : (State.postPeerJoined a s).store = s.store := by
  simp [State.postPeerJoined]

@[simp] theorem store_peerJoins (a : Addr) (role : Role) (s : State) : (State.peerJoins a role s).store = s.store := by
  simp [State.peerJoins]

@[simp] theorem store_applyPresence (a : Addr) (q : PresenceReport) (s : State) :
    (State.applyPresence a q s).store = s.store := by
  simp only [State.applyPresence]
  repeat' split
  all_goals simp

@[simp] theorem store_noteSender (a : Addr) (s : State) : (State.noteSender a s).store = s.store := by
  simp only [State.noteSender]
  repeat' split
  all_goals simp

@[simp] theorem store_sendUpkeep (f : Frame) (s : State) : (State.sendUpkeep f s).store = s.store := by
  simp only [State.sendUpkeep]
  repeat' split
  all_goals simp

@[simp] theorem store_pumpUpkeep (s : State) : (State.pumpUpkeep s).store = s.store := by
  simp only [State.pumpUpkeep]
  repeat' split
  all_goals simp

@[simp] theorem store_withdrawUpkeep (kinds : List FrameKind) (s : State) :
    (State.withdrawUpkeep kinds s).store = s.store := by
  simp only [State.withdrawUpkeep]
  repeat' split
  all_goals simp

@[simp] theorem store_stopServing (s : State) : (State.stopServing s).store = s.store := by
  simp [State.stopServing]

@[simp] theorem store_stopServingOf (a : Addr) (s : State) : (State.stopServingOf a s).store = s.store := by
  simp only [State.stopServingOf]
  repeat' split
  all_goals simp

@[simp] theorem store_leaveQueue (a : Addr) (s : State) : (State.leaveQueue a s).store = s.store := by
  simp [State.leaveQueue]

@[simp] theorem store_enterQueue (a : Addr) (s : State) : (State.enterQueue a s).store = s.store := by
  simp only [State.enterQueue]
  repeat' split
  all_goals simp

@[simp] theorem store_judgeProvider (a : Addr) (s : State) : (State.judgeProvider a s).store = s.store := by
  simp only [State.judgeProvider]
  repeat' split
  all_goals simp

@[simp] theorem store_tryServe (s : State) : (State.tryServe s).store = s.store := by
  simp only [State.tryServe]
  repeat' split
  all_goals simp

@[simp] theorem store_snapAppeared (s : State) : (State.snapAppeared s).store = s.store := by
  simp only [State.snapAppeared]
  repeat' split
  all_goals simp

@[simp] theorem store_rejoin (c : Cause) (s : State) : (State.rejoin c s).store = s.store := by
  simp only [State.rejoin]
  repeat' split
  all_goals simp

@[simp] theorem store_enterJoining (c : Cause) (s : State) : (State.enterJoining c s).store = s.store := by
  simp [State.enterJoining]

@[simp] theorem store_startJoin (s : State) : (State.startJoin s).store = s.store := by
  simp [State.startJoin]

@[simp] theorem store_bufferFrame (f : BufferedFrame) (s : State) : (State.bufferFrame f s).store = s.store := by
  simp only [State.bufferFrame]
  repeat' split
  all_goals simp

@[simp] theorem store_loadSnapshot (n : SnapIn) (s : State) : (State.loadSnapshot n s).store = s.store := by
  simp [State.loadSnapshot]

@[simp] theorem store_listFrame (f : BufferedFrame) (s : State) : (State.listFrame f s).store = s.store := by
  simp only [State.listFrame]
  repeat' split
  all_goals simp

@[simp] theorem store_replayFrame (s : State) (f : BufferedFrame) : (State.replayFrame s f).store = s.store := by
  simp [State.replayFrame]

@[simp] theorem store_beginTx (s : State) : (State.beginTx s).store = s.store := by
  simp only [State.beginTx]
  repeat' split
  all_goals simp

@[simp] theorem store_countVoid (s : State) : (State.countVoid s).store = s.store := by
  simp only [State.countVoid]
  repeat' split
  all_goals simp

@[simp] theorem store_noteBar (k : FrameKind) (payload : List Byte) (s : State) :
    (State.noteBar k payload s).store = s.store := by
  simp only [State.noteBar]
  repeat' split
  all_goals simp

@[simp] theorem store_takenSaved (own : OwnTx) (s : State) : (State.takenSaved own s).store = s.store := by
  simp only [State.takenSaved]
  repeat' split
  all_goals simp

@[simp] theorem store_appearUndefined (sender : Addr) (s : State) :
    (State.appearUndefined sender s).store = s.store := by
  simp only [State.appearUndefined]
  repeat' split
  all_goals simp

@[simp] theorem store_bookedAppeared (dest : BitVec 5) (t : Tag) (s : State) :
    (State.bookedAppeared dest t s).store = s.store := by
  simp [State.bookedAppeared]

@[simp] theorem store_partGapExpired (p : PosIx) (s : State) : (State.partGapExpired p s).store = s.store := by
  simp only [State.partGapExpired]
  repeat' split
  all_goals simp

@[simp] theorem store_departureExpired (a : Addr) (s : State) : (State.departureExpired a s).store = s.store := by
  simp only [State.departureExpired]
  repeat' split
  all_goals simp

@[simp] theorem store_presenceExpired (s : State) : (State.presenceExpired s).store = s.store := by
  simp only [State.presenceExpired]
  repeat' split
  all_goals simp

@[simp] theorem store_snapGapExpired (s : State) : (State.snapGapExpired s).store = s.store := by
  simp only [State.snapGapExpired]
  repeat' split
  all_goals simp

@[simp] theorem store_backoffExpired (s : State) : (State.backoffExpired s).store = s.store := by
  simp only [State.backoffExpired]
  repeat' split
  all_goals simp

@[simp] theorem store_advancePos (s : State) (p : PosIx) : (State.advancePos s p).store = s.store := by
  simp only [State.advancePos]
  repeat' split
  all_goals simp

@[simp] theorem store_fireDeparture (s : State) (a : Addr) : (State.fireDeparture s a).store = s.store := by
  simp only [State.fireDeparture]
  repeat' split
  all_goals simp

@[simp] theorem store_beginWrite (s : State) : (State.beginWrite s).store = s.store := by
  simp only [State.beginWrite]
  repeat' split
  all_goals simp

@[simp] theorem store_restorePosition (im : List Byte) (s : State) (p : PosIx) :
    (State.restorePosition im s p).store = s.store := by
  simp only [State.restorePosition]
  repeat' split
  all_goals simp

@[simp] theorem store_postRestoreHeld (s : State) (x : Handle × Nat) : (State.postRestoreHeld s x).store = s.store := by
  simp only [State.postRestoreHeld]
  repeat' split
  all_goals simp

@[simp] theorem store_postRestored (n : Nat) (s : State) : (State.postRestored n s).store = s.store := by
  simp [State.postRestored]

@[simp] theorem store_openPositions (s : State) : (State.openPositions s).store = s.store := by
  simp [State.openPositions]

@[simp] theorem store_configWrite (item : Byte) (v : BitVec 16) (s : State) :
    (State.configWrite item v s).store = s.store := by
  simp only [State.configWrite]
  repeat' split
  all_goals simp

@[simp] theorem store_scrapPosition (p : Option PosIx) (s : State) : (State.scrapPosition p s).store = s.store := by
  simp only [State.scrapPosition]
  repeat' split
  all_goals simp

@[simp] theorem store_departureDue (a : Addr) (s : State) : (State.departureDue a s).store = s.store := by
  simp [State.departureDue]

@[simp] theorem store_sendLeave (s : State) : (State.sendLeave s).store = s.store := by
  simp [State.sendLeave]

end Sys2Proof.Machine
end

