-- ==== Sys2Proof/Laws/FrameTx.lean ====
section
/-! SUPPORT. Which operations leave the transmit list alone: one lemma per operation, proved in the order the operations are built in. -/

namespace Sys2Proof.Machine

@[simp] theorem tx_ite (c : Prop) [Decidable c] (x y : State) : (if c then x else y).lbi.tx = if c then x.lbi.tx else y.lbi.tx := by
  split <;> rfl

@[simp] theorem tx_foldl {α} (f : State → α → State) (hf : ∀ s a, (f s a).lbi.tx = s.lbi.tx) (l : List α) (s : State) :
    (l.foldl f s).lbi.tx = s.lbi.tx := by
  induction l generalizing s with
  | nil => rfl
  | cons a l ih => rw [List.foldl_cons, ih, hf]

@[simp] theorem tx_setSlot (h : Handle) (x : Slot) (s : State) : (State.setSlot h x s).lbi.tx = s.lbi.tx := by
  simp [State.setSlot]

@[simp] theorem tx_setRec (h : Handle) (r : Record) (s : State) : (State.setRec h r s).lbi.tx = s.lbi.tx := by
  simp [State.setRec]

@[simp] theorem tx_updRec (h : Handle) (f : Record → Record) (s : State) : (State.updRec h f s).lbi.tx = s.lbi.tx := by
  simp only [State.updRec]
  repeat' split
  all_goals simp

@[simp] theorem tx_setWaits (h : Handle) (ws : List SlotWait) (s : State) :
    (State.setWaits h ws s).lbi.tx = s.lbi.tx := by
  simp [State.setWaits]

@[simp] theorem tx_freeSlot (h : Handle) (s : State) : (State.freeSlot h s).lbi.tx = s.lbi.tx := by
  simp [State.freeSlot]

@[simp] theorem tx_enqueue (h : Handle) (rush : Bool) (s : State) : (State.enqueue h rush s).lbi.tx = s.lbi.tx := by
  simp only [State.enqueue]
  repeat' split
  all_goals simp

@[simp] theorem tx_unqueue (h : Handle) (s : State) : (State.unqueue h s).lbi.tx = s.lbi.tx := by
  simp [State.unqueue]

@[simp] theorem tx_updPos (p : PosIx) (f : Position → Position) (s : State) :
    (State.updPos p f s).lbi.tx = s.lbi.tx := by
  simp [State.updPos]

@[simp] theorem tx_vacate (p : PosIx) (st : PosState) (s : State) : (State.vacate p st s).lbi.tx = s.lbi.tx := by
  simp [State.vacate]

@[simp] theorem tx_vacateOpt (p : Option PosIx) (st : PosState) (s : State) :
    (State.vacate? p st s).lbi.tx = s.lbi.tx := by
  simp only [State.vacate?]
  repeat' split
  all_goals simp

@[simp] theorem tx_alarm (f : Alarms → Alarms) (s : State) : (State.alarm f s).lbi.tx = s.lbi.tx := by
  simp [State.alarm]

@[simp] theorem tx_post (e : Event) (s : State) : (State.post e s).lbi.tx = s.lbi.tx := by
  simp only [State.post]
  repeat' split
  all_goals simp

@[simp] theorem tx_postLineState (c : Cause) (s : State) : (State.postLineState c s).lbi.tx = s.lbi.tx := by
  simp [State.postLineState]

@[simp] theorem tx_respond (st : Status) (data : BitVec 24) (s : State) :
    (State.respond st data s).lbi.tx = s.lbi.tx := by
  simp [State.respond]

@[simp] theorem tx_ok (d2 d1 d0 : Byte) (s : State) : (State.ok d2 d1 d0 s).lbi.tx = s.lbi.tx := by
  simp [State.ok]

@[simp] theorem tx_refuse (r : Reason) (d0 : Byte) (s : State) : (State.refuse r d0 s).lbi.tx = s.lbi.tx := by
  simp [State.refuse]

@[simp] theorem tx_badArgument (code : Byte) (s : State) : (State.badArgument code s).lbi.tx = s.lbi.tx := by
  simp [State.badArgument]

@[simp] theorem tx_deliver (s : State) : (State.deliver s).lbi.tx = s.lbi.tx := by
  simp [State.deliver]

@[simp] theorem tx_stage (bs : List Byte) (s : State) : (State.stage bs s).lbi.tx = s.lbi.tx := by
  simp [State.stage]

@[simp] theorem tx_judgeSlots (s : State) : (State.judgeSlots s).lbi.tx = s.lbi.tx := by
  simp only [State.judgeSlots]
  repeat' split
  all_goals simp

@[simp] theorem tx_failAttempt (s : State) : (State.failAttempt s).lbi.tx = s.lbi.tx := by
  simp only [State.failAttempt]
  repeat' split
  all_goals simp

@[simp] theorem tx_countCrcError (s : State) : (State.countCrcError s).lbi.tx = s.lbi.tx := by
  simp only [State.countCrcError]
  repeat' split
  all_goals simp

@[simp] theorem tx_setClaim (p : PosIx) (c : ClaimState) (s : State) : (State.setClaim p c s).lbi.tx = s.lbi.tx := by
  simp [State.setClaim]

@[simp] theorem tx_setRemembered (p : PosIx) (b : Bool) (s : State) :
    (State.setRemembered p b s).lbi.tx = s.lbi.tx := by
  simp [State.setRemembered]

@[simp] theorem tx_dropClaims (s : State) : (State.dropClaims s).lbi.tx = s.lbi.tx := by
  simp [State.dropClaims]

@[simp] theorem tx_dropWaits (h : Handle) (w : SlotWait) (s : State) : (State.dropWaits h w s).lbi.tx = s.lbi.tx := by
  simp [State.dropWaits]

@[simp] theorem tx_placeOne (s : State) : (State.placeOne s).lbi.tx = s.lbi.tx := by
  simp only [State.placeOne]
  repeat' split
  all_goals simp

@[simp] theorem tx_stopPositionOpt (p : Option PosIx) (s : State) : (State.stopPosition? p s).lbi.tx = s.lbi.tx := by
  simp only [State.stopPosition?]
  repeat' split
  all_goals simp

@[simp] theorem tx_startStep (p : PosIx) (h : Handle) (s : State) : (State.startStep p h s).lbi.tx = s.lbi.tx := by
  simp only [State.startStep]
  repeat' split
  all_goals simp

@[simp] theorem tx_tellGrant (p : PosIx) (s : State) : (State.tellGrant p s).lbi.tx = s.lbi.tx := by
  simp only [State.tellGrant]
  repeat' split
  all_goals simp

@[simp] theorem tx_tellEntry (s : State) (e : ClaimEntry) : (State.tellEntry s e).lbi.tx = s.lbi.tx := by
  simp only [State.tellEntry]
  repeat' split
  all_goals simp

@[simp] theorem tx_tellGrants (l : List ClaimEntry) (s : State) : (State.tellGrants l s).lbi.tx = s.lbi.tx := by
  exact tx_foldl _ tx_tellEntry l s

@[simp] theorem tx_dropTable (s : State) : (State.dropTable s).lbi.tx = s.lbi.tx := by
  simp [State.dropTable]

@[simp] theorem tx_setStatus (cond : Booking → Bool) (st : BookingStatus) (s : State) :
    (State.setStatus cond st s).lbi.tx = s.lbi.tx := by
  simp [State.setStatus]

@[simp] theorem tx_deleteRecord (h : Handle) (s : State) : (State.deleteRecord h s).lbi.tx = s.lbi.tx := by
  simp [State.deleteRecord]

@[simp] theorem tx_found (a : Addr) (t : Tag) (s : State) : (State.found a t s).lbi.tx = s.lbi.tx := by
  simp only [State.found]
  repeat' split
  all_goals simp

@[simp] theorem tx_clearOutbound (s : State) (p : PosIx) : (State.clearOutbound s p).lbi.tx = s.lbi.tx := by
  simp only [State.clearOutbound]
  repeat' split
  all_goals simp

@[simp] theorem tx_updPeer (a : Addr) (f : Peer → Peer) (s : State) : (State.updPeer a f s).lbi.tx = s.lbi.tx := by
  simp [State.updPeer]

@[simp] theorem tx_setLine (l : LineState) (s : State) : (State.setLine l s).lbi.tx = s.lbi.tx := by
  simp [State.setLine]

@[simp] theorem tx_peerGone (a : Addr) (c : GoneCause) (s : State) : (State.peerGone a c s).lbi.tx = s.lbi.tx := by
  simp only [State.peerGone]
  repeat' split
  all_goals simp

@[simp] theorem tx_postPeerJoined (a : Addr) (s : State) : (State.postPeerJoined a s).lbi.tx = s.lbi.tx := by
  simp [State.postPeerJoined]

@[simp] theorem tx_peerJoins (a : Addr) (role : Role) (s : State) : (State.peerJoins a role s).lbi.tx = s.lbi.tx := by
  simp [State.peerJoins]

@[simp] theorem tx_applyPresence (a : Addr) (q : PresenceReport) (s : State) :
    (State.applyPresence a q s).lbi.tx = s.lbi.tx := by
  simp only [State.applyPresence]
  repeat' split
  all_goals simp

@[simp] theorem tx_setJoinQueue (l : List Joiner) (s : State) : (State.setJoinQueue l s).lbi.tx = s.lbi.tx := by
  simp [State.setJoinQueue]

@[simp] theorem tx_startJoin (s : State) : (State.startJoin s).lbi.tx = s.lbi.tx := by
  simp [State.startJoin]

@[simp] theorem tx_loadSnapshot (n : SnapIn) (s : State) : (State.loadSnapshot n s).lbi.tx = s.lbi.tx := by
  simp [State.loadSnapshot]

@[simp] theorem tx_listFrame (f : BufferedFrame) (s : State) : (State.listFrame f s).lbi.tx = s.lbi.tx := by
  simp only [State.listFrame]
  repeat' split
  all_goals simp

@[simp] theorem tx_replayFrame (s : State) (f : BufferedFrame) : (State.replayFrame s f).lbi.tx = s.lbi.tx := by
  simp [State.replayFrame]

@[simp] theorem tx_setInTx (x : InTx) (s : State) : (State.setInTx x s).lbi.tx = s.lbi.tx := by
  simp [State.setInTx]

@[simp] theorem tx_beginTx (s : State) : (State.beginTx s).lbi.tx = s.lbi.tx := by
  simp only [State.beginTx]
  repeat' split
  all_goals simp

@[simp] theorem tx_restartStall (s : State) : (State.restartStall s).lbi.tx = s.lbi.tx := by
  simp [State.restartStall]

@[simp] theorem tx_countVoid (s : State) : (State.countVoid s).lbi.tx = s.lbi.tx := by
  simp only [State.countVoid]
  repeat' split
  all_goals simp

@[simp] theorem tx_countClean (s : State) : (State.countClean s).lbi.tx = s.lbi.tx := by
  simp [State.countClean]

@[simp] theorem tx_noteBar (k : FrameKind) (payload : List Byte) (s : State) :
    (State.noteBar k payload s).lbi.tx = s.lbi.tx := by
  simp only [State.noteBar]
  repeat' split
  all_goals simp

@[simp] theorem tx_takenSaved (own : OwnTx) (s : State) : (State.takenSaved own s).lbi.tx = s.lbi.tx := by
  simp only [State.takenSaved]
  repeat' split
  all_goals simp

@[simp] theorem tx_bookAppeared (own : OwnTx) (dest : BitVec 5) (q : BookRequest) (s : State) :
    (State.bookAppeared own dest q s).lbi.tx = s.lbi.tx := by
  simp only [State.bookAppeared]
  repeat' split
  all_goals simp

@[simp] theorem tx_bookedAppeared (dest : BitVec 5) (t : Tag) (s : State) :
    (State.bookedAppeared dest t s).lbi.tx = s.lbi.tx := by
  simp [State.bookedAppeared]

@[simp] theorem tx_onFound (sender : Addr) (dest : BitVec 5) (payload : List Byte) (s : State) :
    (State.onFound sender dest payload s).lbi.tx = s.lbi.tx := by
  simp only [State.onFound]
  repeat' split
  all_goals simp

@[simp] theorem tx_locateAppeared (t : Tag) (s : State) : (State.locateAppeared t s).lbi.tx = s.lbi.tx := by
  simp only [State.locateAppeared]
  repeat' split
  all_goals simp

@[simp] theorem tx_partGapExpired (p : PosIx) (s : State) : (State.partGapExpired p s).lbi.tx = s.lbi.tx := by
  simp only [State.partGapExpired]
  repeat' split
  all_goals simp

@[simp] theorem tx_locateExpired (h : Handle) (s : State) : (State.locateExpired h s).lbi.tx = s.lbi.tx := by
  simp only [State.locateExpired]
  repeat' split
  all_goals simp

@[simp] theorem tx_advancePos (s : State) (p : PosIx) : (State.advancePos s p).lbi.tx = s.lbi.tx := by
  simp only [State.advancePos]
  repeat' split
  all_goals simp

@[simp] theorem tx_pauseForPower (s : State) (p : PosIx) : (State.pauseForPower s p).lbi.tx = s.lbi.tx := by
  simp only [State.pauseForPower]
  repeat' split
  all_goals simp

@[simp] theorem tx_beginWrite (s : State) : (State.beginWrite s).lbi.tx = s.lbi.tx := by
  simp only [State.beginWrite]
  repeat' split
  all_goals simp

@[simp] theorem tx_restorePosition (im : List Byte) (s : State) (p : PosIx) :
    (State.restorePosition im s p).lbi.tx = s.lbi.tx := by
  simp only [State.restorePosition]
  repeat' split
  all_goals simp

@[simp] theorem tx_cleanLink (s : State) (h : Handle) : (State.cleanLink s h).lbi.tx = s.lbi.tx := by
  simp [State.cleanLink]

@[simp] theorem tx_restoreArrival (s : State) (h : Handle) : (State.restoreArrival s h).lbi.tx = s.lbi.tx := by
  simp only [State.restoreArrival]
  repeat' split
  all_goals simp

@[simp] theorem tx_postRestoreHeld (s : State) (x : Handle × Nat) : (State.postRestoreHeld s x).lbi.tx = s.lbi.tx := by
  simp only [State.postRestoreHeld]
  repeat' split
  all_goals simp

@[simp] theorem tx_rebuildFreeList (s : State) : (State.rebuildFreeList s).lbi.tx = s.lbi.tx := by
  simp [State.rebuildFreeList]

@[simp] theorem tx_invalidate (s : State) : (State.invalidate s).lbi.tx = s.lbi.tx := by
  simp [State.invalidate]

@[simp] theorem tx_postRestored (n : Nat) (s : State) : (State.postRestored n s).lbi.tx = s.lbi.tx := by
  simp [State.postRestored]

@[simp] theorem tx_openPositions (s : State) : (State.openPositions s).lbi.tx = s.lbi.tx := by
  simp [State.openPositions]

@[simp] theorem tx_configWrite (item : Byte) (v : BitVec 16) (s : State) :
    (State.configWrite item v s).lbi.tx = s.lbi.tx := by
  simp only [State.configWrite]
  repeat' split
  all_goals simp

@[simp] theorem tx_useSeq (q : BitVec 16) (s : State) : (State.useSeq q s).lbi.tx = s.lbi.tx := by
  simp [State.useSeq]

@[simp] theorem tx_retire (p : PosIx) (h : Handle) (r : Record) (s : State) :
    (State.retire p h r s).lbi.tx = s.lbi.tx := by
  simp [State.retire]

@[simp] theorem tx_rushRecord (h : Handle) (r : Record) (s : State) : (State.rushRecord h r s).lbi.tx = s.lbi.tx := by
  simp only [State.rushRecord]
  repeat' split
  all_goals simp

@[simp] theorem tx_wrongCode (s : State) : (State.wrongCode s).lbi.tx = s.lbi.tx := by
  simp [State.wrongCode]

@[simp] theorem tx_scrapPosition (p : Option PosIx) (s : State) : (State.scrapPosition p s).lbi.tx = s.lbi.tx := by
  simp only [State.scrapPosition]
  repeat' split
  all_goals simp

@[simp] theorem tx_setIlk (p : PosIx) (level : Bool) (s : State) : (State.setIlk p level s).lbi.tx = s.lbi.tx := by
  simp [State.setIlk]

@[simp] theorem tx_pauseStep (p : PosIx) (s : State) : (State.pauseStep p s).lbi.tx = s.lbi.tx := by
  simp only [State.pauseStep]
  repeat' split
  all_goals simp

@[simp] theorem tx_departureDue (a : Addr) (s : State) : (State.departureDue a s).lbi.tx = s.lbi.tx := by
  simp [State.departureDue]

end Sys2Proof.Machine
end

