-- ==== Sys2Proof/Laws/Slots.lean ====
section
/-! SUPPORT. What the operations on one record do to the records, which handle they touch and what its record becomes, and to what waits for its slot. -/

namespace Sys2Proof.Machine

/-! ### The record of the handle itself and of the others -/

theorem recOpt_setRec (g h : Handle) (r : Record) (s : State) :
    (s.setRec h r).rec? g = if h = g then some r else s.rec? g := by
  by_cases e : h = g
  · subst e; simp
  · simp [recOpt_setRec_ne _ _ _ _ e, e]

theorem recOpt_updRec (g h : Handle) (f : Record → Record) (s : State) :
    (s.updRec h f).rec? g = if h = g then (s.rec? g).map f else s.rec? g := by
  simp only [State.updRec]
  cases e : s.rec? h with
  | none =>
    by_cases n : h = g
    · subst n; simp [e]
    · simp [n]
  | some r =>
    by_cases n : h = g
    · subst n; simp [e]
    · simp [n, recOpt_setRec_ne _ _ _ _ n]

@[simp] theorem recOpt_updRec_same (h : Handle) (f : Record → Record) (s : State) :
    (s.updRec h f).rec? h = (s.rec? h).map f := by simp [recOpt_updRec]

theorem recOpt_updRec_ne (g h : Handle) (f : Record → Record) (s : State) (n : h ≠ g) :
    (s.updRec h f).rec? g = s.rec? g := by simp [recOpt_updRec, n]

/-- Updating a record that stands there is setting it. -/
theorem updRec_some (h : Handle) (f : Record → Record) (r : Record) (s : State) (e : s.rec? h = some r) :
    s.updRec h f = s.setRec h (f r) := by simp [State.updRec, e]

/-- A record set twice is set once. -/
@[simp] theorem setRec_setRec (h : Handle) (r q : Record) (s : State) : (s.setRec h r).setRec h q = s.setRec h q := by
  simp only [State.setRec, State.setSlot, State.slot]
  congr 2
  apply Vector.ext
  intro i hi
  simp only [Vector.getElem_set, Fin.getElem_fin]
  split <;> simp

/-- Setting the frames of an origin to what they are changes nothing. -/
theorem setWaits_eq (h : Handle) (ws : List SlotWait) (s : State) (e : (s.slot h).waits = ws) : s.setWaits h ws = s := by
  subst e
  obtain ⟨a, b, c, d, e, f, g, i, j, k, l, m⟩ := s
  obtain ⟨k1, k2, k3, k4, k5, k6, k7⟩ := k
  simp only [State.setWaits, State.setSlot, State.slot]
  congr 2
  apply Vector.ext
  intro i hi
  simp only [Vector.getElem_set, Fin.getElem_fin]
  split <;> simp_all

/-- Waiting frames set twice are set once. -/
@[simp] theorem setWaits_setWaits (h : Handle) (v w : List SlotWait) (s : State) :
    (s.setWaits h v).setWaits h w = s.setWaits h w := by
  simp only [State.setWaits, State.setSlot, State.slot]
  congr 2
  apply Vector.ext
  intro i hi
  simp only [Vector.getElem_set, Fin.getElem_fin]
  split <;> simp

/-! ### Operations that leave every record -/

@[simp] theorem recOpt_post (e : Event) (s : State) (g : Handle) : (s.post e).rec? g = s.rec? g :=
  recOpt_of_states (states_post e s) g

@[simp] theorem recOpt_queueFrame (o : Origin) (f : Frame) (s : State) (g : Handle) :
    (s.queueFrame o f).rec? g = s.rec? g := recOpt_of_states (by simp) g

@[simp] theorem recOpt_withdrawTx (o : Origin) (s : State) (g : Handle) : (s.withdrawTx o).rec? g = s.rec? g :=
  recOpt_of_states (by simp) g

@[simp] theorem recOpt_queueAnswer (f : Frame) (s : State) (g : Handle) : (s.queueAnswer f).rec? g = s.rec? g :=
  recOpt_of_states (by simp) g

@[simp] theorem recOpt_withdrawAnswers (c : Frame → Bool) (s : State) (g : Handle) :
    (s.withdrawAnswers c).rec? g = s.rec? g := recOpt_of_states (by simp) g

@[simp] theorem recOpt_enqueue (h : Handle) (rush : Bool) (s : State) (g : Handle) :
    (s.enqueue h rush).rec? g = s.rec? g := recOpt_of_states (by simp) g

@[simp] theorem recOpt_unqueue (h : Handle) (s : State) (g : Handle) : (s.unqueue h).rec? g = s.rec? g :=
  recOpt_of_states (by simp) g

@[simp] theorem recOpt_vacateOpt (p : Option PosIx) (st : PosState) (s : State) (g : Handle) :
    (s.vacate? p st).rec? g = s.rec? g := recOpt_of_states (by simp) g

@[simp] theorem recOpt_askClaim (p : PosIx) (s : State) (g : Handle) : (s.askClaim p).rec? g = s.rec? g :=
  recOpt_of_states (by simp) g

@[simp] theorem recOpt_giveUpClaim (p : PosIx) (s : State) (g : Handle) : (s.giveUpClaim p).rec? g = s.rec? g :=
  recOpt_of_states (by simp) g

@[simp] theorem recOpt_giveUpClaimOpt (p : Option PosIx) (s : State) (g : Handle) :
    (s.giveUpClaim? p).rec? g = s.rec? g := recOpt_of_states (by simp) g

@[simp] theorem recOpt_stopPositionOpt (p : Option PosIx) (s : State) (g : Handle) :
    (s.stopPosition? p).rec? g = s.rec? g := recOpt_of_states (by simp) g

@[simp] theorem recOpt_judgeSlots (s : State) (g : Handle) : s.judgeSlots.rec? g = s.rec? g :=
  recOpt_of_states (by simp) g

@[simp] theorem recOpt_useSeq (q : BitVec 16) (s : State) (g : Handle) : (s.useSeq q).rec? g = s.rec? g :=
  recOpt_of_states (by simp) g

@[simp] theorem recOpt_scrapPosition (p : Option PosIx) (s : State) (g : Handle) :
    (s.scrapPosition p).rec? g = s.rec? g := recOpt_of_states (by simp) g

@[simp] theorem recOpt_pumpSlot (h : Handle) (s : State) (g : Handle) : (s.pumpSlot h).rec? g = s.rec? g :=
  recOpt_of_states (by simp) g

@[simp] theorem recOpt_sendSlot (h : Handle) (w : SlotWait) (s : State) (g : Handle) :
    (s.sendSlot h w).rec? g = s.rec? g := recOpt_of_states (by simp) g

@[simp] theorem recOpt_dropWaits (h : Handle) (w : SlotWait) (s : State) (g : Handle) :
    (s.dropWaits h w).rec? g = s.rec? g := recOpt_of_states (by simp) g

@[simp] theorem recOpt_withdrawSlot (h : Handle) (k : FrameKind) (s : State) (g : Handle) :
    (s.withdrawSlot h k).rec? g = s.rec? g := recOpt_of_states (by simp) g

@[simp] theorem recOpt_sendRenewal (h : Handle) (s : State) (g : Handle) : (s.sendRenewal h).rec? g = s.rec? g :=
  recOpt_of_states (by simp) g

/-! ### Operations of the booker's side -/

@[simp] theorem recOpt_withdrawBooks (g h : Handle) (s : State) : (s.withdrawBooks h).rec? g = s.rec? g := by
  simp [State.withdrawBooks]

theorem recOpt_stopTransfer (g h : Handle) (s : State) : (s.stopTransfer h).rec? g =
    if h = g then (s.rec? g).map fun r => { r with carry := none, handOffTimer := none } else s.rec? g := by
  simp [State.stopTransfer, recOpt_updRec]

theorem recOpt_stopLocate (g h : Handle) (s : State) : (s.stopLocate h).rec? g =
    if h = g then (s.rec? g).map fun r => { r with locateTimer := none } else s.rec? g := by
  simp [State.stopLocate, recOpt_updRec]

/-- A record whose booking has been ended (R58 step 4): no booking, no exhausted round, no answer timer. -/
def Record.unbooked (r : Record) : Record := { r with booking := .none, exhausted := false, answerTimer := none }

theorem recOpt_endBooking (g h : Handle) (s : State) : (s.endBooking h).rec? g =
    if h = g then (s.rec? g).map Record.unbooked else s.rec? g := by
  simp only [State.endBooking]
  cases e : s.rec? h with
  | none =>
    by_cases n : h = g
    · subst n; simp [e]
    · simp [n]
  | some r =>
    cases b : r.booking <;> by_cases n : h = g
    all_goals first
      | (subst n; simp [b, e, Record.unbooked])
      | simp [b, n, recOpt_updRec]

/-! ### What waits for a slot's origin -/

/-- Pumping keeps some of the frames given and adds none. -/
theorem waits_pumpWaits (h : Handle) (x : SlotWait) (ws : List SlotWait) (s : State)
    (m : x ∈ ((State.pumpWaits h ws s).slot h).waits) : x ∈ ws := by
  induction ws with
  | nil => simp [State.pumpWaits, State.setWaits] at m
  | cons w ws ih =>
    simp only [State.pumpWaits] at m
    split at m
    · simp only [State.slot, store_queueFrame] at m
      exact List.mem_cons_of_mem _ (by simpa [State.setWaits] using m)
    · exact List.mem_cons_of_mem _ (ih m)

/-- A slot's frames that wait after a pump waited before. -/
theorem waits_pumpSlot (h : Handle) (x : SlotWait) (s : State) (m : x ∈ ((s.pumpSlot h).slot h).waits) :
    x ∈ (s.slot h).waits := by
  simp only [State.pumpSlot] at m
  split at m
  · exact m
  · exact waits_pumpWaits h x _ s m

/-- A slot's frames that wait after a withdrawal waited before. -/
theorem waits_withdrawSlot (h : Handle) (k : FrameKind) (x : SlotWait) (s : State)
    (m : x ∈ ((s.withdrawSlot h k).slot h).waits) : x ∈ (s.slot h).waits := by
  simp only [State.withdrawSlot] at m
  split at m
  · split at m
    · have n := waits_pumpSlot h x _ m
      simpa [State.withdrawTx, State.slot] using n
    · exact m
  · exact m

/-- No BOOK of a round and no renewal waits once a slot's BOOKs are withdrawn (R88). -/
theorem waits_withdrawBooks (h : Handle) (s : State) :
    SlotWait.book ∉ ((s.withdrawBooks h).slot h).waits ∧ SlotWait.renewal ∉ ((s.withdrawBooks h).slot h).waits := by
  constructor <;> intro m <;> have n := waits_withdrawSlot h .book _ _ m <;> simp [State.dropWaits, State.setWaits] at n

/-- With no BOOK waiting or on the list and no booking, a booking's end leaves the record with no booking, no exhausted
round and no answer timer, and nothing else changes. -/
theorem endBooking_still (h : Handle) (r : Record) (s : State) (e : s.rec? h = some r) (b : r.booking = .none)
    (w : SlotWait.book ∉ (s.slot h).waits ∧ SlotWait.renewal ∉ (s.slot h).waits)
    (n : ∀ x, s.txEntry (.slot h) = some x → x.frame.kind ≠ .book) :
    s.endBooking h = s.setRec h r.unbooked := by
  have hw : ((s.setRec h r.unbooked).slot h).waits = (s.slot h).waits := by simp [State.setRec]
  have d1 : (s.setRec h r.unbooked).dropWaits h .book = s.setRec h r.unbooked :=
    setWaits_eq _ _ _ (by rw [hw]; exact (List.filter_eq_self.2 fun x hx => by
      simp; rintro rfl; exact w.1 hx).symm)
  have d2 : (s.setRec h r.unbooked).dropWaits h .renewal = s.setRec h r.unbooked :=
    setWaits_eq _ _ _ (by rw [hw]; exact (List.filter_eq_self.2 fun x hx => by
      simp; rintro rfl; exact w.2 hx).symm)
  have d3 : (s.setRec h r.unbooked).withdrawSlot h .book = s.setRec h r.unbooked := by
    simp only [State.withdrawSlot, txEntry_setRec]
    cases x : s.txEntry (.slot h) with
    | none => rfl
    | some y => simp [n y x]
  simp only [State.endBooking, e, b, updRec_some _ _ _ _ e]
  change (s.setRec h r.unbooked).withdrawBooks h = _
  rw [State.withdrawBooks, d1, d2, d3]

/-- A slot that becomes FREE holds no record; the others keep theirs. -/
theorem recOpt_freeSlot (g h : Handle) (s : State) : (s.freeSlot h).rec? g = if h = g then none else s.rec? g := by
  simp only [State.freeSlot, State.rec?]
  by_cases n : h = g
  · subst n; simp [State.slot, State.setSlot]
  · have : h.val ≠ g.val := fun e => n (Fin.ext e)
    simp [State.slot, State.setSlot, n, this]

/-- A record entering HELD, in full (R55, R58 to R60): the operations in the order of R58. -/
theorem enterHeld_some (h : Handle) (k : DevKind) (v : BitVec 24) (leaves : Bool) (r : Record) (s : State)
    (e : s.rec? h = some r) (n : r.state ≠ .held) :
    s.enterHeld h k v leaves =
      (let s := s.setRec h { r.deviate k v with heldFrom := some r.state, state := .held }
       let s := (s.giveUpClaim? r.position).stopPosition? r.position
       let s := s.endBooking h
       let s := if r.state = .queued then s.unqueue h else s
       let s := if leaves || decide (r.state = .placed) then
           (s.vacate? r.position .empty).updRec h fun r => { r with position := none } else s
       s.post (recordEvent .held (if leaves || decide (r.state = .placed) then none else r.position) h r.tag
         (heldValue r k))) := by
  simp [State.enterHeld, e, n]

/-- Every other record stands through an entry into HELD. -/
theorem recOpt_enterHeld_ne (g h : Handle) (k : DevKind) (v : BitVec 24) (leaves : Bool) (s : State) (n : h ≠ g) :
    (s.enterHeld h k v leaves).rec? g = s.rec? g := by
  simp only [State.enterHeld]
  repeat' split
  all_goals simp [recOpt_endBooking, recOpt_setRec_ne _ _ _ _ n, recOpt_updRec_ne _ _ _ _ n, n]

/-- The record that an entry into HELD leaves. -/
theorem recOpt_enterHeld_same (h : Handle) (k : DevKind) (v : BitVec 24) (leaves : Bool) (r : Record) (s : State)
    (e : s.rec? h = some r) (n : r.state ≠ .held) :
    (s.enterHeld h k v leaves).rec? h =
      some { ({ r.deviate k v with heldFrom := some r.state, state := .held } : Record).unbooked with
        position := if leaves || decide (r.state = .placed) then none else (r.deviate k v).position } := by
  rw [enterHeld_some _ _ _ _ _ _ e n]
  generalize (leaves || decide (r.state = .placed)) = gone
  have base : ∀ p, (((State.setRec h { r.deviate k v with heldFrom := some r.state, state := .held } s).giveUpClaim?
      p).stopPosition? p).rec? h = some { r.deviate k v with heldFrom := some r.state, state := .held } := by simp
  cases gone <;> simp only [recOpt_post, Bool.false_eq_true, if_true, if_false]
  · split <;> simp [recOpt_endBooking, base, Record.unbooked]
  · split <;> simp [recOpt_endBooking, base, Record.unbooked]

/-! ### Frames that go out at once -/

/-- A frame sent from a slot's origin that is free, with nothing waiting, is queued at once. -/
theorem sendSlot_free (h : Handle) (w : SlotWait) (f : Frame) (s : State) (e : s.txHas (.slot h) = false)
    (n : (s.slot h).waits = []) (c : s.composeWait h w = some f) : s.sendSlot h w = s.queueFrame (.slot h) f := by
  have hc : (s.setWaits h [w]).composeWait h w = some f := by
    rw [← c]; simp only [State.composeWait, recOpt_setWaits, conf_setWaits]
  have hs : ((s.setWaits h [w]).slot h).waits = [w] := by simp [State.setWaits]
  simp only [State.sendSlot, n, List.nil_append, State.pumpSlot, txHas_setWaits, e, hs, State.pumpWaits, hc]
  simp [setWaits_eq h [] s n]

end Sys2Proof.Machine
end

