-- ==== Sys2Proof/Laws/Claims.lean ====
section
/-! SUPPORT. What asking for a claim and giving it up do to a position (R131, R132). -/

namespace Sys2Proof.Machine

theorem pos_of_seqr {s t : State} (e : t.seqr = s.seqr) (p : PosIx) : t.pos p = s.pos p := by
  simp only [State.pos, e]

@[simp] theorem pos_queueFrame (o : Origin) (f : Frame) (s : State) (p : PosIx) : (s.queueFrame o f).pos p = s.pos p :=
  pos_of_seqr (by simp) p

@[simp] theorem pos_withdrawTx (o : Origin) (s : State) (p : PosIx) : (s.withdrawTx o).pos p = s.pos p :=
  pos_of_seqr (by simp) p

@[simp] theorem pos_post (e : Event) (s : State) (p : PosIx) : (s.post e).pos p = s.pos p := pos_of_seqr (by simp) p

@[simp] theorem pos_endBooking (h : Handle) (s : State) (p : PosIx) : (s.endBooking h).pos p = s.pos p :=
  pos_of_seqr (by simp) p

@[simp] theorem pos_updRec (h : Handle) (f : Record → Record) (s : State) (p : PosIx) : (s.updRec h f).pos p = s.pos p := by
  simp only [State.updRec]; split <;> rfl

/-- The claim state a position takes when it gives its claim up (R132). -/
def Position.claimGivenUp (x : Position) (sending : Bool) : ClaimState :=
  match x.claim with
  | .none => .none
  | .claimQueued => if x.withdrawing || sending then .claimQueued else .none
  | .waiting => .releaseQueued
  | .granted => .releaseQueued
  | .releaseQueued => .releaseQueued

/-- Giving up a claim touches the claim state and its marks alone, and no other position. -/
theorem pos_giveUpClaim (p q : PosIx) (s : State) :
    (q ≠ p → (s.giveUpClaim p).pos q = s.pos q)
    ∧ ((s.giveUpClaim p).pos p).claim = (s.pos p).claimGivenUp (s.sending (.position p))
    ∧ ((s.giveUpClaim p).pos p).state = (s.pos p).state ∧ ((s.giveUpClaim p).pos p).link = (s.pos p).link
    ∧ ((s.giveUpClaim p).pos p).stepEn = (s.pos p).stepEn
    ∧ ((s.giveUpClaim p).pos p).interlock = (s.pos p).interlock := by
  simp only [State.giveUpClaim, Position.claimGivenUp]
  repeat' split
  all_goals simp_all [State.setRemembered, State.queueRelease, State.setClaim, pos_updPos]
  all_goals (intro n1 n2; exact absurd n2.symm n1)

theorem pos_giveUpClaim_ne (p q : PosIx) (s : State) (n : q ≠ p) : (s.giveUpClaim p).pos q = s.pos q :=
  (pos_giveUpClaim p q s).1 n

/-- The steps of an entry into HELD or of SCRAP that concern the position: its claim given up, STEP_EN low. -/
theorem pos_stopped (p : Option PosIx) (q : PosIx) (s : State) :
    (p ≠ some q → ((s.giveUpClaim? p).stopPosition? p).pos q = s.pos q)
    ∧ (p = some q → (((s.giveUpClaim? p).stopPosition? p).pos q).stepEn = false
      ∧ (((s.giveUpClaim? p).stopPosition? p).pos q).state = (s.pos q).state
      ∧ (((s.giveUpClaim? p).stopPosition? p).pos q).link = (s.pos q).link
      ∧ (((s.giveUpClaim? p).stopPosition? p).pos q).claim = (s.pos q).claimGivenUp (s.sending (.position q))) := by
  cases p with
  | none => simp [State.giveUpClaim?, State.stopPosition?]
  | some p =>
    obtain ⟨h1, h2, h3, h4, h5, _⟩ := pos_giveUpClaim p q s
    by_cases n : p = q
    · subst n
      simp [State.giveUpClaim?, State.stopPosition?, h2, h3, h4]
    · have : q ≠ p := fun e => n e.symm
      simp [State.giveUpClaim?, State.stopPosition?, n, pos_updPos, h1 this]

end Sys2Proof.Machine
end

