-- ==== Sys2Proof/Laws/Departures.lean ====
section
/-! SUPPORT. What a departure's statement rests on: the peers that a round reads, and an error that nobody voids, by line state. -/

namespace Sys2Proof.Machine

/-- A round reads of the peer list which peers are JOINED in the role of its route, and nothing else. -/
theorem candidateFrom_congr {s t : State} {role : Role} {k : Nat} (routes : t.conf.items.routes = s.conf.items.routes)
    (peers : ∀ a : Addr, (t.mem.peers[a]).state = .joined ∧ (t.mem.peers[a]).role = role ↔
      (s.mem.peers[a]).state = .joined ∧ (s.mem.peers[a]).role = role) :
    t.candidateFrom role k = s.candidateFrom role k := by
  simp only [State.candidateFrom, State.route, routes, peers]

/-- A station gone from the list is no candidate. -/
theorem gone_not_joined (p : Peer) : p.gone.state ≠ .joined := by simp [Peer.gone]

/-- A station that joins is no candidate. -/
theorem joins_not_joined (role : Role) (p : Peer) : (p.joins role).state ≠ .joined := by simp [Peer.joins]

/-- A round passes over a gone peer and a joining one alike. -/
theorem candidateFrom_joins_eq_gone (s : State) (a : Addr) (role r : Role) (k : Nat) :
    (s.updPeer a (Peer.joins role)).candidateFrom r k = (s.updPeer a Peer.gone).candidateFrom r k := by
  refine candidateFrom_congr rfl fun b => ?_
  simp only [State.updPeer]
  by_cases e : a = b
  · subst e
    simp [Peer.gone, Peer.joins]
  · have n : a.val ≠ b.val := fun h => e (Fin.ext h)
    simp [n]

/-- A join is abandoned in JOINING alone. -/
theorem rejoin_of_not_joining {s : State} (c : Cause) (h : s.mem.line ≠ .joining) : s.rejoin c = s := by
  have k : s.collecting = false := by
    unfold State.collecting
    split <;> simp_all
  simp [State.rejoin, k]

/-- A station that voids, and one in CONFIG, takes no error so. -/
theorem takeListenOnlyError_voiding {s : State} (a : Addr) (h : s.voiding = true ∨ s.mem.line = .config) :
    s.takeListenOnlyError a = s := by
  rcases h with h | h <;> simp [State.takeListenOnlyError, h]

end Sys2Proof.Machine
end

