-- ==== Sys2Proof/Laws/Memory.lean ====
section
/-! SUPPORT. The staging buffer: every write keeps the canonical form, and a read after a write. -/

namespace Sys2Proof.Machine

/-- The canonical form from a higher address on is also one from a lower. -/
theorem Memory.wfFrom_mono {lo lo' : Nat} (h : lo ≤ lo') (m : Memory) (w : Memory.wfFrom lo' m = true) :
    Memory.wfFrom lo m = true := by
  cases m with
  | nil => rfl
  | cons c m =>
    obtain ⟨x, b⟩ := c
    simp only [Memory.wfFrom, Bool.and_eq_true, decide_eq_true_eq] at w ⊢
    exact ⟨⟨⟨by omega, w.1.1.2⟩, w.1.2⟩, w.2⟩

theorem Memory.wfFrom_write (m : Memory) (lo a : Nat) (v : Byte) (hlo : lo ≤ a) (ha : a < 128)
    (w : Memory.wfFrom lo m = true) : Memory.wfFrom lo (Memory.write m a v) = true := by
  induction m generalizing lo with
  | nil =>
    by_cases hv : v = 0#8
    · simp [Memory.write, hv, Memory.wfFrom]
    · simp [Memory.write, hv, Memory.wfFrom, hlo, ha]
  | cons c m ih =>
    obtain ⟨x, b⟩ := c
    simp only [Memory.wfFrom, Bool.and_eq_true, decide_eq_true_eq] at w
    obtain ⟨⟨⟨h1, h2⟩, h3⟩, h4⟩ := w
    have h3 : ¬b = 0#8 := h3
    by_cases hx : a < x
    · by_cases hv : v = 0#8
      · simp [Memory.write, hx, hv, Memory.wfFrom, h1, h2, h3, h4]
      · have h5 : a + 1 ≤ x := hx
        simp [Memory.write, hx, hv, Memory.wfFrom, hlo, ha, h2, h3, h4, h5]
    · by_cases he : a = x
      · subst he
        by_cases hv : v = 0#8
        · simp [Memory.write, hv]
          exact Memory.wfFrom_mono (by omega) m h4
        · simp [Memory.write, hv, Memory.wfFrom, h1, h2, h4]
      · simp only [Memory.write, hx, he, if_false, Memory.wfFrom, Bool.and_eq_true, decide_eq_true_eq]
        exact ⟨⟨⟨h1, h2⟩, h3⟩, ih (x + 1) (by omega) h4⟩

/-- A write at an address of the buffer keeps the canonical form. -/
theorem Memory.wf_write (m : Memory) (a : Nat) (v : Byte) (ha : a < 128) (w : Memory.wf m = true) :
    Memory.wf (Memory.write m a v) = true :=
  Memory.wfFrom_write m 0 a v (Nat.zero_le a) ha w

/-- Bytes written inside the buffer keep the canonical form. -/
theorem Memory.wf_writeList (bs : List Byte) (m : Memory) (a : Nat) (h : a + bs.length ≤ 128) (w : Memory.wf m = true) :
    Memory.wf (Memory.writeList m a bs) = true := by
  induction bs generalizing m a with
  | nil => exact w
  | cons b bs ih =>
    simp only [List.length_cons] at h
    exact ih _ _ (by omega) (Memory.wf_write m a b (by omega) w)

/-- The staging buffer after reset has the canonical form. -/
theorem Memory.wf_reset : Memory.wf State.reset.staging = true := rfl

/-- Below the first address of a list in canonical form every byte reads 0. -/
theorem Memory.read_below (m : Memory) (lo a : Nat) (h : a < lo) (w : Memory.wfFrom lo m = true) : Memory.read m a = 0 := by
  induction m generalizing lo with
  | nil => rfl
  | cons c m ih =>
    obtain ⟨x, b⟩ := c
    simp only [Memory.wfFrom, Bool.and_eq_true, decide_eq_true_eq] at w
    have hne : x ≠ a := by omega
    simp only [Memory.read, hne, if_false]
    exact ih (x + 1) (by omega) w.2

theorem Memory.read_writeFrom (m : Memory) (lo a c : Nat) (v : Byte) (w : Memory.wfFrom lo m = true) :
    Memory.read (Memory.write m a v) c = if a = c then v else Memory.read m c := by
  induction m generalizing lo with
  | nil =>
    by_cases hv : v = 0#8
    · simp [Memory.write, hv, Memory.read]
    · simp [Memory.write, hv, Memory.read]
  | cons e m ih =>
    obtain ⟨x, b⟩ := e
    have w' := w
    simp only [Memory.wfFrom, Bool.and_eq_true, decide_eq_true_eq] at w
    obtain ⟨⟨⟨h1, h2⟩, h3⟩, h4⟩ := w
    have h3 : ¬b = 0#8 := h3
    by_cases hx : a < x
    · by_cases hv : v = 0#8
      · have h6 : Memory.write ((x, b) :: m) a v = (x, b) :: m := by simp [Memory.write, hx, hv]
        rw [h6, hv]
        by_cases hc : a = c
        · subst hc
          have h5 : x ≠ a := by omega
          simp only [Memory.read, h5, if_false, if_true]
          exact Memory.read_below m (x + 1) a (by omega) h4
        · simp [hc]
      · simp [Memory.write, hx, hv, Memory.read]
    · by_cases he : a = x
      · subst he
        by_cases hv : v = 0#8
        · simp only [Memory.write, hx, hv, if_false, if_true, Memory.read]
          by_cases hc : a = c
          · subst hc
            simp only [if_true]
            exact Memory.read_below m (a + 1) a (by omega) h4
          · simp [hc]
        · by_cases hc : a = c
          · subst hc; simp [Memory.write, hv, Memory.read]
          · simp [Memory.write, hv, Memory.read, hc]
      · simp only [Memory.write, hx, he, if_false, Memory.read]
        by_cases hxc : x = c
        · subst hxc; simp [he]
        · simp only [hxc, if_false]
          exact ih (x + 1) h4

/-- A read after a write, on a buffer in canonical form. -/
theorem Memory.read_write (m : Memory) (a c : Nat) (v : Byte) (w : Memory.wf m = true) :
    Memory.read (Memory.write m a v) c = if a = c then v else Memory.read m c :=
  Memory.read_writeFrom m 0 a c v w

/-- A read after a run of bytes was written from address a on. -/
theorem Memory.read_writeList (bs : List Byte) (m : Memory) (a c : Nat) (h : a + bs.length ≤ 128)
    (w : Memory.wf m = true) :
    Memory.read (Memory.writeList m a bs) c
      = if a ≤ c ∧ c < a + bs.length then bs.getD (c - a) 0 else Memory.read m c := by
  induction bs generalizing m a with
  | nil =>
    simp [Memory.writeList]
  | cons b bs ih =>
    simp only [List.length_cons] at h ⊢
    simp only [Memory.writeList]
    rw [ih _ _ (by omega) (Memory.wf_write m a b (by omega) w), Memory.read_write m a c b w]
    by_cases h1 : a = c
    · subst h1
      simp
    · by_cases h3 : a + 1 ≤ c ∧ c < a + 1 + bs.length
      · have h4 : a ≤ c ∧ c < a + (bs.length + 1) := by omega
        have h5 : c - a = (c - (a + 1)) + 1 := by omega
        simp only [h3, h4, and_self, if_true, h5, List.getD_cons_succ]
      · have h4 : ¬(a ≤ c ∧ c < a + (bs.length + 1)) := by omega
        simp only [h3, h4, if_false, h1]

end Sys2Proof.Machine
end

