-- ==== Sys2Proof/Laws/PerInstr.lean ====
section
/-! SUPPORT. One law per command, about the command as syntax: where a well-formed command comes from. -/

namespace Sys2Proof.Laws.OneRow

open Sys2Proof

/-- A well-formed command is what the pair spells by a kind code and a payload that fits (R74, 10.3), what the port spells
by a command code and an argument (10.4), one of the two judgements of a transaction that is no frame (R179), or an event
of a pin, a clock or the pair that no bits spell. -/
def Statement (i : Instr) : Prop :=
  WellFormed i = true →
    (∃ k a d p, p.length ≤ 16 ∧ appearance k a d p = i)
    ∨ (∃ c a2 a1 a0, portCommand c a2 a1 a0 = i)
    ∨ (∃ n, n < 40 ∧ Instr.portFrameShort n = i) ∨ Instr.portCrcError = i
    ∨ ((∀ k a d p, appearance k a d p ≠ i) ∧ ∀ c a2 a1 a0, portCommand c a2 a1 a0 ≠ i)

/-- The commands that a frame or the port's frames can be read as. -/
def spelled : Instr → Bool
  | .reset .. | .powerFailWarning | .pfwDeasserted | .retentionWrite | .retentionWriteEnd
  | .dosePulse .. | .ilkOpen .. | .ilkClose .. | .runClockSecond .. | .pauseClockSecond .. | .lampSilent ..
  | .doseShort .. | .gapTimer .. | .stallTimer | .departureTimer .. | .presenceTimer | .joinWait | .snapshotPartGap
  | .backingOff | .answerTimer .. | .bookingLapse .. | .partGap .. | .handOffTimer .. | .locateTimer ..
  | .transmissionStart | .arbitrationLost | .frameVoid .. | .frameErrorListenOnly .. => false
  | _ => true

theorem appearance_spelled (k : BitVec 5) (a : Addr) (d : BitVec 5) (p : List Byte) :
    spelled (appearance k a d p) = true := by
  unfold appearance
  split <;> rfl

theorem portCommand_spelled (c a2 a1 a0 : Byte) : spelled (portCommand c a2 a1 a0) = true := by
  unfold portCommand
  split <;> rfl

/-- An event that no bits spell. -/
theorem of_unspelled (i : Instr) (h : spelled i = false) : Statement i := fun _ =>
  .inr (.inr (.inr (.inr ⟨fun k a d p e => by rw [← e, appearance_spelled] at h; exact Bool.noConfusion h,
    fun c a2 a1 a0 e => by rw [← e, portCommand_spelled] at h; exact Bool.noConfusion h⟩)))

/-- A frame of a defined kind, with any payload that fits. -/
theorem of_frame (k : FrameKind) (a : Addr) (d : BitVec 5) (p : List Byte) (i : Instr)
    (h : appearance (Machine.kindCode k) a d p = i) (f : WellFormed i = true → payloadOk p = true) : Statement i :=
  fun w => .inl ⟨Machine.kindCode k, a, d, p, of_decide_eq_true (f w), h⟩

/-- A port command, spelled by its code and argument. -/
theorem of_port (c a2 a1 a0 : Byte) (i : Instr) (h : portCommand c a2 a1 a0 = i) : Statement i :=
  fun _ => .inr (.inl ⟨c, a2, a1, a0, h⟩)

/-- The two low argument bytes give back a 16-bit value. -/
theorem value_of_bytes (v : BitVec 16) : v.extractLsb' 8 8 ++ v.extractLsb' 0 8 = v := by
  ext i hi
  simp only [BitVec.getElem_append, BitVec.getElem_extractLsb']
  split
  · simp [BitVec.getLsbD_eq_getElem hi]
  · rw [show 8 + (i - 8) = i by omega, BitVec.getLsbD_eq_getElem hi]

/-- A code without a command is read as an unknown command. -/
theorem portCommand_unknown (c : Byte) (h : commandCodes.contains c = false) :
    portCommand c 0 0 0 = .unknownCommand c := by
  revert c
  decide +kernel

theorem reset (address : Addr) (role : Role) (rate : BitVec 2) : Statement (.reset address role rate) :=
  of_unspelled _ rfl
theorem powerFailWarning : Statement .powerFailWarning := of_unspelled _ rfl
theorem pfwDeasserted : Statement .pfwDeasserted := of_unspelled _ rfl
theorem retentionWrite : Statement .retentionWrite := of_unspelled _ rfl
theorem retentionWriteEnd : Statement .retentionWriteEnd := of_unspelled _ rfl
theorem dosePulse (p : PosIx) : Statement (.dosePulse p) := of_unspelled _ rfl
theorem ilkOpen (p : PosIx) : Statement (.ilkOpen p) := of_unspelled _ rfl
theorem ilkClose (p : PosIx) : Statement (.ilkClose p) := of_unspelled _ rfl
theorem runClockSecond (p : PosIx) : Statement (.runClockSecond p) := of_unspelled _ rfl
theorem pauseClockSecond (p : PosIx) : Statement (.pauseClockSecond p) := of_unspelled _ rfl
theorem lampSilent (p : PosIx) : Statement (.lampSilent p) := of_unspelled _ rfl
theorem doseShort (p : PosIx) : Statement (.doseShort p) := of_unspelled _ rfl
theorem gapTimer (h : Handle) : Statement (.gapTimer h) := of_unspelled _ rfl
theorem stallTimer : Statement .stallTimer := of_unspelled _ rfl
theorem departureTimer (a : Addr) : Statement (.departureTimer a) := of_unspelled _ rfl
theorem presenceTimer : Statement .presenceTimer := of_unspelled _ rfl
theorem joinWait : Statement .joinWait := of_unspelled _ rfl
theorem snapshotPartGap : Statement .snapshotPartGap := of_unspelled _ rfl
theorem backingOff : Statement .backingOff := of_unspelled _ rfl
theorem answerTimer (h : Handle) : Statement (.answerTimer h) := of_unspelled _ rfl
theorem bookingLapse (p : PosIx) : Statement (.bookingLapse p) := of_unspelled _ rfl
theorem partGap (p : PosIx) : Statement (.partGap p) := of_unspelled _ rfl
theorem handOffTimer (h : Handle) : Statement (.handOffTimer h) := of_unspelled _ rfl
theorem locateTimer (h : Handle) : Statement (.locateTimer h) := of_unspelled _ rfl
theorem transmissionStart : Statement .transmissionStart := of_unspelled _ rfl
theorem arbitrationLost : Statement .arbitrationLost := of_unspelled _ rfl
theorem frameVoid (sender : Addr) (foundError : Bool) : Statement (.frameVoid sender foundError) := of_unspelled _ rfl
theorem frameErrorListenOnly (sender : Addr) : Statement (.frameErrorListenOnly sender) := of_unspelled _ rfl
theorem departAppears (sender : Addr) (dest : BitVec 5) (payload : List Byte) : Statement (.departAppears sender dest payload) :=
  of_frame .depart sender dest payload _ rfl id
theorem leaveAppears (sender : Addr) (dest : BitVec 5) (payload : List Byte) : Statement (.leaveAppears sender dest payload) :=
  of_frame .leave sender dest payload _ rfl id
theorem releaseAppears (sender : Addr) (dest : BitVec 5) (payload : List Byte) : Statement (.releaseAppears sender dest payload) :=
  of_frame .release sender dest payload _ rfl id
theorem capacityAppears (sender : Addr) (dest : BitVec 5) (payload : List Byte) : Statement (.capacityAppears sender dest payload) :=
  of_frame .capacity sender dest payload _ rfl id
theorem claimAppears (sender : Addr) (dest : BitVec 5) (payload : List Byte) : Statement (.claimAppears sender dest payload) :=
  of_frame .claim sender dest payload _ rfl id
theorem takenAppears (sender : Addr) (dest : BitVec 5) (payload : List Byte) : Statement (.takenAppears sender dest payload) :=
  of_frame .taken sender dest payload _ rfl id
theorem rejectAppears (sender : Addr) (dest : BitVec 5) (payload : List Byte) : Statement (.rejectAppears sender dest payload) :=
  of_frame .reject sender dest payload _ rfl id
theorem bookedAppears (sender : Addr) (dest : BitVec 5) (payload : List Byte) : Statement (.bookedAppears sender dest payload) :=
  of_frame .booked sender dest payload _ rfl id
theorem refusedAppears (sender : Addr) (dest : BitVec 5) (payload : List Byte) : Statement (.refusedAppears sender dest payload) :=
  of_frame .refused sender dest payload _ rfl id
theorem foundAppears (sender : Addr) (dest : BitVec 5) (payload : List Byte) : Statement (.foundAppears sender dest payload) :=
  of_frame .found sender dest payload _ rfl id
theorem bookAppears (sender : Addr) (dest : BitVec 5) (payload : List Byte) : Statement (.bookAppears sender dest payload) :=
  of_frame .book sender dest payload _ rfl id
theorem cancelAppears (sender : Addr) (dest : BitVec 5) (payload : List Byte) : Statement (.cancelAppears sender dest payload) :=
  of_frame .cancel sender dest payload _ rfl id
theorem locateAppears (sender : Addr) (dest : BitVec 5) (payload : List Byte) : Statement (.locateAppears sender dest payload) :=
  of_frame .locate sender dest payload _ rfl id
theorem carryAppears (sender : Addr) (dest : BitVec 5) (payload : List Byte) : Statement (.carryAppears sender dest payload) :=
  of_frame .carry sender dest payload _ rfl id
theorem joinAppears (sender : Addr) (dest : BitVec 5) (payload : List Byte) : Statement (.joinAppears sender dest payload) :=
  of_frame .join sender dest payload _ rfl id
theorem snapHeadAppears (sender : Addr) (dest : BitVec 5) (payload : List Byte) : Statement (.snapHeadAppears sender dest payload) :=
  of_frame .snapHead sender dest payload _ rfl id
theorem snapPartAppears (sender : Addr) (dest : BitVec 5) (payload : List Byte) : Statement (.snapPartAppears sender dest payload) :=
  of_frame .snapPart sender dest payload _ rfl id
theorem presenceAppears (sender : Addr) (dest : BitVec 5) (payload : List Byte) : Statement (.presenceAppears sender dest payload) :=
  of_frame .presence sender dest payload _ rfl id
theorem undefinedFrameAppears (sender : Addr) (dest : BitVec 5) (kind : BitVec 5) (payload : List Byte) : Statement (.undefinedFrameAppears sender dest kind payload) :=
  fun w =>
  .inl ⟨kind, sender, dest, payload, by
    simp only [WellFormed, Bool.and_eq_true, Option.isNone_iff_eq_none] at w
    exact ⟨of_decide_eq_true w.1, by simp [appearance, w.2]⟩⟩
theorem portFrameShort (bits : Nat) : Statement (.portFrameShort bits) :=
  fun w => .inr (.inr (.inl ⟨bits, of_decide_eq_true w, rfl⟩))
theorem portCrcError : Statement .portCrcError := fun _ => .inr (.inr (.inr (.inl rfl)))
theorem unknownCommand (code : Byte) : Statement (.unknownCommand code) := fun w =>
  of_port code 0 0 0 _ (portCommand_unknown code (by simpa [WellFormed] using w)) w
theorem nop : Statement .nop := of_port 0x0 0 0 0 _ rfl
theorem stageWrite (index first second : Byte) : Statement (.stageWrite index first second) :=
  of_port 0x1 index first second _ rfl
theorem stageRead (index : Byte) : Statement (.stageRead index) := of_port 0x2 index 0 0 _ rfl
theorem configWrite (item : Byte) (value : BitVec 16) : Statement (.configWrite item value) :=
  of_port 0x10 item (value.extractLsb' 8 8) (value.extractLsb' 0 8) _
    (congrArg (Instr.configWrite item) (value_of_bytes value))
theorem configClose : Statement .configClose := of_port 0x11 0 0 0 _ rfl
theorem register : Statement .register := of_port 0x20 0 0 0 _ rfl
theorem arrived (position : Byte) (seq : BitVec 16) : Statement (.arrived position seq) :=
  of_port 0x21 position (seq.extractLsb' 8 8) (seq.extractLsb' 0 8) _
    (congrArg (Instr.arrived position) (value_of_bytes seq))
theorem removed (position : Byte) : Statement (.removed position) := of_port 0x22 position 0 0 _ rfl
theorem hold (handle : Byte) : Statement (.hold handle) := of_port 0x23 handle 0 0 _ rfl
theorem concession (handle : Byte) : Statement (.concession handle) := of_port 0x24 handle 0 0 _ rfl
theorem scrap (handle : Byte) : Statement (.scrap handle) := of_port 0x25 handle 0 0 _ rfl
theorem adopt (handle : Byte) : Statement (.adopt handle) := of_port 0x26 handle 0 0 _ rfl
theorem rush (handle : Byte) : Statement (.rush handle) := of_port 0x27 handle 0 0 _ rfl
theorem readRecord (handle : Byte) : Statement (.readRecord handle) := of_port 0x30 handle 0 0 _ rfl
theorem readPosition (position : Byte) : Statement (.readPosition position) := of_port 0x31 position 0 0 _ rfl
theorem readBudget (budget : Byte) : Statement (.readBudget budget) := of_port 0x32 budget 0 0 _ rfl
theorem readPeer (address : Byte) : Statement (.readPeer address) := of_port 0x33 address 0 0 _ rfl
theorem readStation (part : Byte) : Statement (.readStation part) := of_port 0x34 part 0 0 _ rfl
theorem readEvent : Statement .readEvent := of_port 0x35 0 0 0 _ rfl
theorem readAlarms : Statement .readAlarms := of_port 0x36 0 0 0 _ rfl
theorem capacity (budget : Byte) (units : BitVec 16) : Statement (.capacity budget units) :=
  of_port 0x40 budget (units.extractLsb' 8 8) (units.extractLsb' 0 8) _
    (congrArg (Instr.capacity budget) (value_of_bytes units))
theorem leave : Statement .leave := of_port 0x41 0 0 0 _ rfl
theorem join : Statement .join := of_port 0x42 0 0 0 _ rfl

end Sys2Proof.Laws.OneRow
end

