-- ==== Sys2Proof/Laws/Port.lean ====
section
/-! SUPPORT. The judgement of a port frame by line state (R182), the reading of one-byte arguments, and the answer. -/

namespace Sys2Proof.Machine

theorem byte_toNat (n : Nat) (h : n < 256) : (byte n).toNat = n := by
  simp only [byte, BitVec.toNat_ofNat]
  omega

/-- An index below n fits a byte and is read back. -/
theorem finOf_byte {n : Nat} (hn : n ≤ 256) (i : Fin n) : finOf n (byte i.val) = some i := by
  have h : (byte i.val).toNat = i.val := byte_toNat _ (by have := i.isLt; omega)
  simp [finOf, h]

@[simp] theorem finOf_handle (h : Handle) : finOf 32 (byte h.val) = some h := finOf_byte (by decide) h

@[simp] theorem finOf_addr (a : Addr) : finOf 16 (byte a.val) = some a := finOf_byte (by decide) a

@[simp] theorem finOf_pos (p : PosIx) : finOf 8 (byte p.val) = some p := finOf_byte (by decide) p

@[simp] theorem finOf_budget (b : BudgetIx) : finOf 3 (byte b.val) = some b := finOf_byte (by decide) b

theorem finOf_none {n : Nat} (b : Byte) (h : n ≤ b.toNat) : finOf n b = none := by
  have : ¬b.toNat < n := by omega
  simp [finOf, this]

theorem posArg_some (s : State) (p : PosIx) (h : p.val < s.conf.posCount) : s.posArg (byte p.val) = some p := by
  simp [State.posArg, h]

theorem posArg_none (s : State) (b : Byte) (h : s.conf.posCount ≤ b.toNat) : s.posArg b = none := by
  simp only [State.posArg]
  split
  · rename_i p e
    have hp : p.val = b.toNat := by
      simp only [finOf] at e
      split at e
      · simp only [Option.some.injEq] at e
        rw [← e]
      · contradiction
    have : ¬p.val < s.conf.posCount := by omega
    simp [this]
  · rfl

@[simp] theorem respond_deliver (st : Status) (data : BitVec 24) (s : State) : s.deliver.respond st data = s.answered st data := rfl

@[simp] theorem refuse_deliver (r : Reason) (d0 : Byte) (s : State) :
    s.deliver.refuse r d0 = s.answered .refused (word24 (reasonCode r) 0 d0) := rfl

@[simp] theorem ok_deliver (d2 d1 d0 : Byte) (s : State) : s.deliver.ok d2 d1 d0 = s.answered .ok (word24 d2 d1 d0) := rfl

@[simp] theorem badArgument_deliver (code : Byte) (s : State) :
    s.deliver.badArgument code = s.answered .badArgument (word24 code 0 0) := rfl

@[simp] theorem stage_deliver (bs : List Byte) (s : State) : s.deliver.stage bs = (s.stage bs).deliver := rfl

/-- In the active states a command meets its own rule (R182, line 5). -/
theorem judge_active (s : State) (h : s.isActive = true) (inConfig : Bool) (low : Byte) (own : State → State) :
    s.judge inConfig low own = own s.deliver := by
  simp only [State.isActive] at h
  cases e : s.mem.line <;> simp [State.judge, e] <;> simp [e] at h

/-- So does a command that CONFIG takes, outside SAVING and DORMANT. -/
theorem judge_open (s : State) (h : s.mem.line ≠ .saving) (h' : s.mem.line ≠ .dormant) (low : Byte) (own : State → State) :
    s.judge true low own = own s.deliver := by
  cases e : s.mem.line <;> simp [State.judge, e] <;> simp [e] at h h'

theorem judge_saving (s : State) (h : s.mem.line = .saving) (inConfig : Bool) (low : Byte) (own : State → State) :
    s.judge inConfig low own = s.answered .busy 0 := by
  simp [State.judge, h]

theorem judge_dormant (s : State) (h : s.mem.line = .dormant) (inConfig : Bool) (low : Byte) (own : State → State) :
    s.judge inConfig low own = s.answered .dormant 0 := by
  simp [State.judge, h]

theorem judge_config (s : State) (h : s.mem.line = .config) (low : Byte) (own : State → State) :
    s.judge false low own = s.answered .refused (word24 19 0 low) := by
  simp [State.judge, h, reasonCode]

theorem withRecord_some (code d0 : Byte) (h : Handle) (r : Record) (own : Handle → Record → State → State) (s : State)
    (e : s.rec? h = some r) : s.withRecord code (byte h.val) d0 own = own h r s := by
  simp [State.withRecord, e]

theorem withRecord_none (code d0 : Byte) (h : Handle) (own : Handle → Record → State → State) (s : State)
    (e : s.rec? h = none) : s.withRecord code (byte h.val) d0 own = s.refuse .noRecord d0 := by
  simp [State.withRecord, e]

theorem withRecord_out (code d0 x : Byte) (own : Handle → Record → State → State) (s : State) (e : 31 < x.toNat) :
    s.withRecord code x d0 own = s.badArgument code := by
  simp [State.withRecord, finOf_none (n := 32) x e]

/-- A byte is one of the command codes or it is not, and then its frame is an unknown command. -/
theorem portCommand_unknown (c a b d : Byte) (h : c ∉ commandCodes) : portCommand c a b d = .unknownCommand c := by
  have hc : ∀ c : Byte, c ∉ commandCodes → c.toNat ∉ commandCodes.map BitVec.toNat := by decide +kernel
  have := hc c h
  simp only [commandCodes, List.map_cons, List.map_nil, List.mem_cons, List.not_mem_nil, or_false, not_or] at this
  simp only [portCommand]
  split <;> first | rfl | (rename_i e; simp [e] at this)

end Sys2Proof.Machine
end

