-- ==== Sys2Proof/Laws/Sound.lean ====
section
/-! SUPPORT. What `Sound` rests on: a plate on its position read as the working record, and the blocks that `Sound` reads. -/

namespace Sys2Proof.Machine

/-- A record's plate stands on a position exactly where the position works it. -/
theorem working_eq_some {s : State} {p : PosIx} {h : Handle} {r : Record} :
    s.working p = some (h, r) ↔ s.onPosition p h r := by
  simp only [State.working, State.onPosition]
  cases hs : (s.pos p).state <;> cases hl : (s.pos p).link with
  | none => simp
  | some g => cases hr : s.rec? g <;> grind

/-- A position's plate has a record in a state exactly where some record stands there in it. -/
theorem posIn_iff {s : State} {p : PosIx} {st : RecState} :
    s.posIn p st = true ↔ ∃ h r, s.onPosition p h r ∧ r.state = st := by
  simp only [State.posIn]
  cases hw : s.working p with
  | none =>
    refine ⟨fun e => by simp at e, fun ⟨h, r, o, _⟩ => ?_⟩
    rw [working_eq_some.2 o] at hw
    simp at hw
  | some x =>
    obtain ⟨h, r⟩ := x
    refine ⟨fun e => ⟨h, r, working_eq_some.1 hw, by simpa using e⟩, fun ⟨g, q, o, e⟩ => ?_⟩
    rw [working_eq_some.2 o] at hw
    simp at hw
    simpa [← hw.2] using e

/-- `Sound` reads the record store, the positions, the booking list and the line state alone. -/
theorem sound_congr {s t : State} (store : t.store = s.store) (seqr : t.seqr = s.seqr) (bookings : t.bookings = s.bookings)
    (line : t.mem.line = s.mem.line) : Sound t ↔ Sound s := by
  have slot (h : Handle) : t.slot h = s.slot h := by simp [State.slot, store]
  have record (h : Handle) : t.rec? h = s.rec? h := by simp [State.rec?, slot]
  have position (p : PosIx) : t.pos p = s.pos p := by simp [State.pos, seqr]
  simp only [Sound, State.FreeListKept, State.BookingsKept, State.ArrivalsKept, State.LinksKept, State.EnablesKept,
    State.onPosition, store, bookings, line, slot, record, position]

end Sys2Proof.Machine
end

