-- ==== Sys2Proof/Tests/Slice0.lean ====
section
/-! SUPPORT. Tests: what the well-formedness check refuses, frames read from their bits, single steps, and for every
obligation with hypotheses a concrete state that meets them, with what the command answers there. -/

namespace Sys2Proof.Tests

set_option Elab.async false

open Sys2Proof Sys2Proof.Machine

/-! ### Ill-formed commands -/

theorem test_wf_payload_17 : WellFormed (.claimAppears 0 31 (List.replicate 17 0)) = false := by decide
theorem test_wf_payload_16 : WellFormed (.claimAppears 0 31 (List.replicate 16 0)) = true := by decide
theorem test_wf_undefined_payload : WellFormed (.undefinedFrameAppears 0 31 31 (List.replicate 17 0)) = false := by decide
theorem test_wf_undefined_defined : WellFormed (.undefinedFrameAppears 0 31 (kindCode .claim) []) = false := by decide
theorem test_wf_undefined : WellFormed (.undefinedFrameAppears 0 31 31 []) = true := by decide
theorem test_wf_short_40 : WellFormed (.portFrameShort 40) = false := by decide
theorem test_wf_short_39 : WellFormed (.portFrameShort 39) = true := by decide
theorem test_wf_unknown_defined : WellFormed (.unknownCommand 0x42) = false := by decide
theorem test_wf_unknown : WellFormed (.unknownCommand 0x43) = true := by decide

/-! ### States -/

/-- A step entry with no limits. -/
def entry (k : StepKind) (target : BitVec 24) : StepEntry :=
  { kind := k, target := target, timeLimit := none, maxGap := none, minGap := none }

/-- A peer entry of a station on the line. -/
def onLine (st : PeerState) (role : Role) : Peer :=
  { state := st, role := role, epoch := 1, freePositions := 0, freeSlots := 0, seqNo := 0, timer := some 5 }

/-- Station 2, strapped DRY, with eight positions that draw one unit of HEAT, its route to FINISH the stations 3 and 4. -/
def closedConf : Configuration :=
  { Configuration.initial 2 .dry 0 with
    items := { Items.initial with
      positionCount := 8, draws := Vector.replicate 8 #v[0, 0, 1]
      routes := Items.initial.routes.set 3 #v[some 3, some 4, none, none] }
    computed := true, closed := true, posCount := 8 }

/-- Station 2 in CONFIG, after reset with its straps. -/
def fresh : State := { State.reset with conf := Configuration.initial 2 .dry 0 }

/-- Station 2 in a line state, nothing on it and no event queued. -/
def inLine (l : LineState) : State := { State.reset with conf := closedConf, mem := { State.reset.mem with line := l } }

/-- Station 2 JOINED with stations 3 and 4, both FINISH. -/
def joined : State :=
  { inLine .joined with
    mem := { (inLine .joined).mem with
      peers := (((inLine .joined).mem.peers.set 2 { onLine .joined .dry with timer := none }).set 3
        (onLine .joined .finish)).set 4 (onLine .joined .finish)
      lastEpoch := 1, presence := some 0 } }

/-- A record of station 2 with its first step DRY for 10 s and then POST for 5 quanta. -/
def plate (st : RecState) : Record :=
  Record.ofFields { origin := 2, epoch := 1, seq := 7 } 0x11223344 false [entry .dry 10, entry .post 5] st

/-- Slot h taken out of the free list for a record. -/
def hold (h : Handle) (r : Record) (s : State) : State :=
  let t := s.setRec h r
  { t with store := { t.store with freeList := t.store.freeList.filter (· ≠ h) } }

/-- Record r in slot 0, its plate on position 0. -/
def placed (r : Record) (s : State) : State :=
  (hold 0 { r with position := some 0 } s).updPos 0 fun x => { x with state := .occupied, link := some 0, interlock := true }

/-- The record that `placed` puts there. -/
def standing (r : Record) : Record := { r with position := some 0 }

/-- A frame of an origin on the transmit list, not in transmission. -/
def txOf (o : Origin) (f : Frame) : TxEntry := { origin := o, frame := f, voids := 0, held := .none }

/-- Command c in state s answers the next state t. -/
abbrev Gives (c : Instr) (s t : State) : Prop :=
  (match exec c s with | .next u => decide (u = t) | .fault _ => false | .refused _ => false) = true

/-- One step of s answers the next state t. -/
abbrev Steps (s t : State) : Prop :=
  (match step s with | .next u => decide (u = t) | .fault _ => false | .refused _ => false) = true

/-- The state that a command leaves. -/
def after (c : Instr) (s : State) : State :=
  match exec c s with | .next t => t | .fault _ => s | .refused _ => s

/-! ### The block as a whole -/

theorem test_step_front : Steps { joined with pending := [.nop, .join] } (after .nop { joined with pending := [.join] }) := by
  decide +kernel
theorem test_step_idle_config : Steps fresh fresh ∧ Steps (inLine .dormant) (inLine .dormant) := by decide +kernel
theorem test_step_tick : Steps (inLine .out) (inLine .out).tick := by decide +kernel
theorem witness_BoundedKept : Memory.wf joined.staging = true ∧ joined.store.attempts ≤ 5 ∧ joined.lbi.rxErrors ≤ 16
    ∧ joined.port.crcErrors ≤ 255 ∧ joined.port.events.length ≤ 32 ∧ Steps joined joined.tick := by decide +kernel
theorem witness_ConfigurationKept : joined.mem.line ≠ .config ∧ Gives (.configWrite 0 1) joined (joined.answered .closed 0)
    ∧ joined.conf.items.positionCount ≤ 8 := by decide +kernel
theorem witness_BlocksKept : Gives (.reset 1 .wash 0) joined (after (.reset 1 .wash 0) joined)
    ∧ Gives .pfwDeasserted joined { joined with pins := { joined.pins with pfw := false } } := by decide +kernel

/-! ### The machine port -/


theorem test_port_short : portTransaction (List.replicate 39 true) = .portFrameShort 39 := by decide +kernel
theorem test_port_frame : portTransaction (true :: (bitsOf (0x23#32) ++ bitsOf (crc8Bits (bitsOf (0x23#32))))) = .nop := by
  decide +kernel
theorem test_port_hold : portFrame (bitsOf (0x23050000#32) ++ bitsOf (crc8Bits (bitsOf (0x23050000#32)))) = .hold 5 := by
  decide +kernel
theorem witness_PortFramesJudged (n : Nat) (h : n = 7 ∨ n = 255) :
    Gives .portCrcError { joined with port := { joined.port with crcErrors := n } }
      { joined with port := { joined.port with
        prepared := { status := .crcError, data := BitVec.ofNat 24 (min 255 (n + 1)) }, delivered := some joined.port.prepared,
        crcErrors := min 255 (n + 1), alarms := { Alarms.clear with portFault := decide (n = 7) } } } := by
  rcases h with h | h <;> subst h <;> decide +kernel
theorem witness_CommandsJudged_line :
    Gives (portCommand 0x23 0 0 0) (inLine .saving) ((inLine .saving).answered .busy 0)
    ∧ Gives (portCommand 0x99 0 0 0) (inLine .dormant) ((inLine .dormant).answered .dormant 0)
    ∧ (0x43 : Byte) ∉ commandCodes ∧ Gives (portCommand 0x43 0 0 0) fresh (fresh.answered .unknownCommand 0x430000)
    ∧ Gives (portCommand 0x24 0 0 0) fresh (fresh.answered .refused 0x130005)
    ∧ Gives (portCommand 0x20 0 0 0) fresh (fresh.answered .refused 0x130000)
    ∧ Gives (portCommand 0x36 0 0 0) fresh (fresh.answered .ok 0) := by decide +kernel
theorem witness_CommandsJudged_arguments :
    joined.isActive = true ∧ Gives (.hold 32) joined (joined.answered .badArgument 0x230000)
    ∧ Gives (.rush 32) joined (joined.answered .badArgument 0x270000)
    ∧ Gives (.arrived 8 7) joined (joined.answered .badArgument 0x210000)
    ∧ Gives (.readPosition 8) joined (joined.answered .badArgument 0x310000)
    ∧ Gives (.capacity 3 0) joined (joined.answered .badArgument 0x400000)
    ∧ Gives (.capacity 0 1024) joined (joined.answered .badArgument 0x400000)
    ∧ Gives (.readBudget 3) joined (joined.answered .badArgument 0x320000)
    ∧ Gives (.readPeer 16) joined (joined.answered .badArgument 0x330000)
    ∧ Gives (.readStation 7) joined (joined.answered .badArgument 0x340000)
    ∧ joined.rec? 31 = none ∧ Gives (.scrap 31) joined (joined.answered .refused 0x050000)
    ∧ Gives (.adopt 31) joined (joined.answered .refused 0x050005) := by decide +kernel
theorem witness_StagingReadsAndWrites :
    Gives (.stageWrite 126 1 0) joined (({ joined with staging := [(126, 1)] }).answered .ok 0)
    ∧ Gives (.stageRead 126) { joined with staging := [(126, 1), (127, 2)] }
      (({ joined with staging := [(126, 1), (127, 2)] }).answered .ok 0x000102)
    ∧ Gives (.stageWrite 127 1 2) joined (joined.answered .badArgument 0x010000)
    ∧ Gives (.stageRead 127) joined (joined.answered .badArgument 0x020000)
    ∧ (joined.stage (List.replicate 128 9)).staging.length = 128 := by decide +kernel
theorem witness_ReadEventTakesOldest :
    let e := stationEvent .slotsLow 4
    let s : State := { joined with port := { joined.port with events := [e, e] } }
    Gives .readEvent s (({ s with port := { s.port with events := [e] }
                                  staging := Memory.writeList [] 0 e.bytes }).answered .ok 0x0e0001)
    ∧ Gives .readEvent joined (joined.answered .ok 0) := by decide +kernel
theorem witness_ReadingCommandsReport :
    let s := placed (plate .loaded) joined
    let r := standing (plate .loaded)
    s.isActive = true ∧ s.rec? 0 = some r
    ∧ Gives (.readRecord 0) s ((s.stage (recordImage r)).answered .ok (0x0300#16 ++ byte (recordImage r).length))
    ∧ Gives (.readPosition 7) s ((s.stage (s.positionBytes 7)).answered .ok 0x00ff00)
    ∧ Gives (.readPosition 0) s ((s.stage (s.positionBytes 0)).answered .ok 0x030000)
    ∧ Gives (.readBudget 2) (inLine .out) ((inLine .out).answered .refused 0x010000)
    ∧ Gives (.readPeer 15) s ((s.stage (s.peer 15).report10).answered .ok (s.peer 15).data)
    ∧ (s.stationPart 6).isSome = true ∧ (s.stationPart 7).isSome = false
    ∧ Gives .readAlarms { s with port := { s.port with crcErrors := 9 } } (s.answered .ok 9)
    ∧ Gives .nop s (s.answered .ok 0) := by decide +kernel
theorem witness_ReadBudget :
    let s : State := { joined with bud := { joined.bud with
      capacities := #v[0, 0, 9]
      entries := [{ station := 3, position := 1, draws := #v[0, 0, 1], status := .granted, order := 1 },
                  { station := 4, position := 1, draws := #v[0, 0, 9], status := .waiting, order := 2 }] } }
    s.isJoined = true ∧ Gives (.readBudget 2) s ((s.stage (s.bud.report 2)).answered .ok 0x009001) := by decide +kernel
theorem witness_EventsPosted :
    let e := stationEvent .slotsLow 4
    let full : State := { joined with port := { joined.port with events := List.replicate 32 e } }
    let room : State := { joined with port := { joined.port with events := List.replicate 31 e } }
    (inLine .saving).post e = inLine .saving ∧ (inLine .dormant).post e = inLine .dormant
    ∧ room.post e = full ∧ full.post e = { full with port := { full.port with alarms :=
        { Alarms.clear with eventOverflow := true } } } := by decide +kernel
/-! ### Records, positions and holds -/

/-- The staged job and step list of a REGISTER: job 1, no rush, DRY for 10 s, then POST for 5 quanta. -/
def jobBytes : List Byte := [0, 0, 0, 1, 0, 2] ++ [entry .dry 10, entry .post 5].flatMap stepBytes

/-- Station 2 JOINED with a job staged. -/
def ordered : State := joined.stage jobBytes

theorem witness_EventsPosted_low :
    let s (n : Nat) (b : Bool) : State :=
      { joined with store := { joined.store with freeList := handles.take n, lowIndication := b } }
    (s 4 false).judgeSlots = (s 4 true).post (stationEvent .slotsLow 4)
    ∧ (s 5 true).judgeSlots = (s 5 false).post (stationEvent .slotsOk 5)
    ∧ (s 5 false).judgeSlots = s 5 false ∧ (s 4 true).judgeSlots = s 4 true := by decide +kernel
theorem witness_RegisterJudgesAndCreates :
    stagedSteps ordered.staging = some [entry .dry 10, entry .post 5] ∧ stagedJob ordered.staging = 1
    ∧ startsWith ordered.conf.role [entry .dry 10, entry .post 5] = true
    ∧ Gives .register (inLine .out) ((inLine .out).answered .refused 0x010000)
    ∧ Gives .register joined (joined.answered .refused 0x020000)
    ∧ (let s : State := { ordered with conf := { ordered.conf with role := .wash } }
       Gives .register s (s.answered .refused 0x030000))
    ∧ (let s : State := { ordered with store := { ordered.store with freeList := handles.take 4 } }
       Gives .register s (s.answered .refused 0x040000))
    ∧ (after .register ordered).rec? 0 = some { Record.ofFields { origin := 2, epoch := 1, seq := 1 } 1 false
        [entry .dry 10, entry .post 5] .placed with position := some 0 }
    ∧ (after .register ordered).port.prepared = { status := .ok, data := 0x000001 }
    ∧ (after .register ordered).store.seqCounter = 2
    ∧ (after .register { ordered with store := { ordered.store with freeList := handles.take 5 } }).store.lowIndication = true
    ∧ (after .register (hold 9 { plate .loaded with tag := { origin := 2, epoch := 1, seq := 65535 } }
        { ordered with store := { ordered.store with seqCounter := 65535 } })).store.seqCounter = 2 := by decide +kernel
theorem witness_ArrivalsPlacedAndRushed :
    let s := (hold 5 (plate .queued) joined).enqueue 5 false
    s.lowestEmpty = some 0 ∧ s.arrivalQueue = [5] ∧ s.rec? 5 = some (plate .queued)
    ∧ s.placeOne = State.post (recordEvent .place (some 0) 5 (plate .queued).tag 0)
        (((s.unqueue 5).setRec 5 { plate .queued with state := .placed, position := some 0 }).updPos 0 fun x =>
          { x with state := .assigned, link := some 5 })
    ∧ joined.placement = joined ∧ s.placement.arrivalQueue = []
    ∧ (let full := positions.foldl (fun s p => s.updPos p fun x => { x with state := .clearing }) s
       full.lowestEmpty = none ∧ full.placement = full) := by decide +kernel
theorem witness_ArrivalsPlacedAndRushed_rush :
    let s := (hold 5 (plate .queued) joined).enqueue 5 false
    (after (.rush 5) s).store.rushQueue = [5] ∧ (after (.rush 5) s).store.ordinaryQueue = []
    ∧ (after (.rush 5) s).rec? 5 = some { plate .queued with rush := true }
    ∧ (let p := hold 5 (plate .placed) joined
       Gives (.rush 5) p ((p.setRec 5 { plate .placed with rush := true }).answered .ok 0))
    ∧ (let p := hold 5 (plate .ended) joined
       Gives (.rush 5) p (p.answered .refused 0x060000)) := by decide +kernel

/-- A record for position 0, its plate still expected. -/
def expected (r : Record) : State :=
  (hold 0 { r with position := some 0 } joined).updPos 0 fun x => { x with state := .assigned, link := some 0 }

theorem witness_ArrivedLoadsRecord :
    Gives (.arrived 7 7) joined (joined.answered .refused 0x070000)
    ∧ (let s := joined.updPos 7 fun x => { x with state := .clearing }
       Gives (.arrived 7 7) s (s.answered .refused 0x080000))
    ∧ Gives (.arrived 0 8) (expected (plate .placed)) ((expected (plate .placed)).answered .refused 0x090000)
    ∧ (let s := expected (plate .placed)
       (standing (plate .placed)).minGapMet = true ∧ (standing (plate .placed)).needsBefore .dry = false
       ∧ Gives (.arrived 0 7) s (((((s.deliver.updPos 0 fun x => { x with state := .occupied }).setRec 0
          (standing (plate .waiting))).askClaim 0).ok 0 0 0)))
    ∧ (let s := expected (plate .held)
       Gives (.arrived 0 7) s ((s.deliver.updPos 0 fun x => { x with state := .occupied }).ok 0 0 0)) := by decide +kernel
theorem witness_RemovedEmptiesPosition :
    Gives (.removed 7) joined (joined.answered .refused 0x0a0000)
    ∧ (let s := joined.updPos 7 fun x => { x with state := .clearing }
       Gives (.removed 7) s (joined.answered .ok 0))
    ∧ (after (.removed 0) (placed (plate .finished) joined)).rec? 0 = none
    ∧ (after (.removed 0) (placed (plate .finished) joined)).port.events.map (·.kind) = [.plateDone]
    ∧ (after (.removed 0) (placed (plate .ended) joined)).rec? 0 = some (plate .ended)
    ∧ ((after (.removed 0) (placed (plate .running) joined)).rec? 0).map (fun r => (r.state, r.heldFrom, r.position)) =
      some (.held, some .running, none) := by decide +kernel
theorem witness_EntryIntoHeld :
    let d : Deviation := { kind := .operatorHold, stepIndex := 0, value := 0 }
    let s (n : Nat) := placed { plate .running with deviations := List.replicate n d } joined
    ((s 3).enterHeld 0 .lampSilent 9 false).rec? 0 = some { standing (plate .held) with
        heldFrom := some .running, deviations := List.replicate 3 d ++ [{ kind := .lampSilent, stepIndex := 0, value := 9 }] }
    ∧ ((s 4).enterHeld 0 .lampSilent 9 false).rec? 0 = some { standing (plate .held) with
        heldFrom := some .running, deviations := List.replicate 4 d, overflow := true }
    ∧ (placed (plate .held) joined).enterHeld 0 .lampSilent 9 false = placed (plate .held) joined
    ∧ (((s 0).updPos 0 fun x => { x with claim := .granted }).enterHeld 0 .lampSilent 9 true).pos 0 =
      { Position.blank with interlock := true, claim := .releaseQueued } := by decide +kernel
theorem witness_HoldStopsAndCodesCompared :
    Gives (.hold 0) (placed (plate .held) joined) ((placed (plate .held) joined).answered .refused 0x0b0000)
    ∧ Gives (.hold 0) (placed (plate .outbound) joined) ((placed (plate .outbound) joined).answered .refused 0x0c0000)
    ∧ Gives (.hold 0) (placed (plate .finished) joined) ((placed (plate .finished) joined).answered .refused 0x0d0000)
    ∧ ((after (.hold 0) (placed (plate .loaded) joined)).rec? 0).map (·.state) = some .held := by decide +kernel

/-- The concession code of the configuration, eight zeros, stands in an empty staging buffer; this one is wrong. -/
def wrongCode (n : Nat) (r : Record) : State :=
  let s := placed r joined
  { s with staging := [(120, 1)], store := { s.store with attempts := n } }

theorem witness_HoldStopsAndCodesCompared_codes :
    Gives (.concession 0) (wrongCode 5 (plate .loaded)) ((wrongCode 5 (plate .loaded)).answered .refused 0x0e0005)
    ∧ Gives (.concession 0) (wrongCode 5 { plate .held with overflow := true })
      ((wrongCode 5 { plate .held with overflow := true }).answered .refused 0x0f0005)
    ∧ Gives (.concession 0) (wrongCode 0 (plate .held)) ((wrongCode 0 (plate .held)).answered .refused 0x100000)
    ∧ Gives (.concession 0) (wrongCode 1 (plate .held))
      ((wrongCode 1 (plate .held)).wrongCodeEffect.answered .refused 0x110000)
    ∧ (wrongCode 1 (plate .held)).wrongCodeEffect.port.alarms.concessionLocked = true
    ∧ Gives (.adopt 0) (wrongCode 5 (plate .loaded)) ((wrongCode 5 (plate .loaded)).answered .refused 0x120005)
    ∧ Gives (.adopt 0) (wrongCode 0 (plate .uncertain)) ((wrongCode 0 (plate .uncertain)).answered .refused 0x100000)
    ∧ Gives (.adopt 0) (wrongCode 5 (plate .uncertain))
      ((wrongCode 5 (plate .uncertain)).wrongCodeEffect.answered .refused 0x110004)
    ∧ (let s : State := placed (plate .uncertain) (inLine .detached)
       Gives (.adopt 0) s (s.answered .refused 0x010005)) := by decide +kernel
theorem witness_ConcessionReturns :
    let s (f : RecState) := placed { plate .held with heldFrom := some f, gapOpen := true } joined
    Memory.readList joined.staging 120 8 = joined.conf.items.code.toList
    ∧ (after (.concession 0) (s .ended)).port.prepared = { status := .ok, data := 0x070005 }
    ∧ (after (.concession 0) (s .running)).port.prepared = { status := .ok, data := 0x030005 }
    ∧ ((after (.concession 0) (s .running)).rec? 0).map (fun r => (r.state, r.heldFrom, r.gapConceded)) =
      some (.waiting, none, true)
    ∧ (after (.concession 0) (expected { plate .held with heldFrom := some .inbound })).port.prepared =
      { status := .ok, data := 0x020005 }
    ∧ (after (.concession 5) (hold 5 { plate .held with heldFrom := some .queued } joined)).port.prepared =
      { status := .ok, data := 0x000005 }
    ∧ ((after (.concession 5) (hold 5 { plate .held with heldFrom := some .queued } joined)).rec? 5).map (·.state) =
      some .placed := by decide +kernel
theorem witness_ScrapDeletes :
    Gives (.scrap 0) (placed (plate .outbound) joined) ((placed (plate .outbound) joined).answered .refused 0x0c0000)
    ∧ (let t := after (.scrap 0) (placed (plate .running) joined)
       t.rec? 0 = none ∧ t.store.freeList = 0 :: (List.finRange 32).drop 1 ∧ (t.pos 0).state = .clearing)
    ∧ (let t := after (.scrap 0) (expected (plate .placed))
       t.rec? 0 = none ∧ (t.pos 0).state = .empty ∧ t.port.prepared = { status := .ok, data := 0 }) := by decide +kernel
theorem witness_AdoptRetags :
    let s := hold 5 { plate .uncertain with tag := { origin := 4, epoch := 9, seq := 9 }, locateTimer := some 3 } joined
    s.mem.line = .joined ∧ 0 < s.store.attempts ∧ Memory.readList s.staging 120 8 = s.conf.items.code.toList
    ∧ (after (.adopt 5) s).rec? 5 = some { plate .held with
        tag := { origin := 2, epoch := 1, seq := 1 }, adoptedFrom := some { origin := 4, epoch := 9, seq := 9 }
        heldFrom := some .uncertain, deviations := [{ kind := .adopted, stepIndex := 0, value := 0 }] }
    ∧ (after (.adopt 5) s).port.prepared = { status := .ok, data := 0x050001 } := by decide +kernel
/-! ### Reset and power interruption -/

theorem witness_ResetLeaves :
    let s : State := { placed (plate .running) joined with ret := { written := true, valid := false, writing := true, image := [1] } }
    (after (.reset 15 .finish 3) s).ret = { written := true, valid := false, writing := false, image := [1] }
    ∧ (after (.reset 15 .finish 3) s).conf = Configuration.initial 15 .finish 3
    ∧ (after (.reset 15 .finish 3) s).rec? 0 = none := by decide +kernel
theorem witness_WarningSaves :
    let s := placed (plate .running) joined
    let t := after .powerFailWarning s
    Gives .powerFailWarning fresh { fresh with pins := { fresh.pins with pfw := true } }
    ∧ s.isActive = true ∧ t.mem.line = .saving ∧ t.rec? 0 = some (standing (plate .paused))
    ∧ t.lbi.tx = [txOf .upkeep { kind := .leave, dest := 31, payload := [] }]
    ∧ (after .powerFailWarning (inLine .out)).lbi.tx = [] := by decide +kernel

/-- Station 2 in SAVING with an OUTBOUND record on position 0. -/
def saving : State :=
  let s := placed (plate .outbound) joined
  { s with mem := { s.mem with line := .saving } }

/-- The retention store with an image of this station that holds nothing, and a right CRC. -/
def written (valid : Bool) (head : List Byte) : State :=
  let body := head ++ [0, 1, 0, 0] ++ (List.replicate 8 [0, 255]).flatten
  { joined with ret := { written := true, valid := valid, writing := false, image := body ++ bytes16 (crc16 body) } }

theorem witness_RetentionWrittenAndJudged :
    saving.takenInTx = false ∧ (after .retentionWrite saving).ret.writing = true
    ∧ (after .retentionWriteEnd (after .retentionWrite saving)).mem.line = .dormant
    ∧ (after .retentionWriteEnd (after .retentionWrite saving)).ret.valid = true
    ∧ saving.savedRecord 0 = some (plate .uncertain) ∧ saving.savedPosition 0 = [4, 255]
    ∧ saving.savedPosition 7 = [0, 255] ∧ (placed (plate .paused) joined).savedPosition 0 = [3, 0]
    ∧ (expected (plate .placed)).savedPosition 0 = [2, 0]
    ∧ (joined.updPos 1 fun x => { x with state := .booked }).savedPosition 1 = [0, 255]
    ∧ Gives .retentionWrite joined joined ∧ Gives .retentionWriteEnd joined joined
    ∧ (let s : State := { saving with lbi := { saving.lbi with inTx := .orphan { kind := .taken, dest := 3, payload := [] } } }
       Gives .retentionWrite s s)
    ∧ joined.judgeRetention = .nothing ∧ (written false [2, 2, 8]).judgeRetention = .lost
    ∧ (written true [2, 2, 7]).judgeRetention = .mismatch ∧ (written true [2, 2, 8]).judgeRetention = .restored
    ∧ (plate .placed).restore = plate .queued ∧ (standing (plate .uncertain)).restore = plate .uncertain
    ∧ ((plate .ended).restore).heldFrom = some .ended := by decide +kernel

/-! ### Steps -/

/-- A RUNNING record on position 0 that has `n` counted of a step of kind k with target 10, and a step of kind k' next. -/
def running (k k' : StepKind) (n : BitVec 24) : Record :=
  { plate .running with steps := [entry k 10, entry k' 5], accumulated := n }

theorem witness_StepsCount :
    let dose (n : BitVec 24) := placed (running .main .detack n) joined
    let timed (n : BitVec 24) := placed (running .dry .post n) joined
    let r (k k' : StepKind) (n : BitVec 24) := standing (running k k' n)
    (dose 8).rec? 0 = some (r .main .detack 8) ∧ ((dose 8).pos 0).link = some 0 ∧ ((dose 8).pos 0).state = .occupied
    ∧ Gives (.dosePulse 0) (dose 8) ((dose 8).setRec 0 (r .main .detack 9))
    ∧ Gives (.dosePulse 0) (dose 9) (((dose 9).setRec 0 (r .main .detack 10)).endStep 0 0)
    ∧ Gives (.runClockSecond 0) (dose 8) ((dose 8).updPos 0 fun x => { x with runClock := 1000 })
    ∧ Gives (.dosePulse 0) (timed 9) (timed 9)
    ∧ Gives (.runClockSecond 0) (timed 8)
      (((timed 8).setRec 0 (r .dry .post 9)).updPos 0 fun x => { x with runClock := 1000 })
    ∧ Gives (.runClockSecond 0) (timed 9)
      ((((timed 9).setRec 0 (r .dry .post 10)).updPos 0 fun x => { x with runClock := 1000 }).endStep 0 0)
    ∧ Gives (.dosePulse 7) joined joined ∧ Gives (.runClockSecond 0) (placed (plate .paused) joined)
      (placed (plate .paused) joined) := by decide +kernel
theorem witness_StepEndsAndStarts :
    let s (r : Record) := (placed r joined).updPos 0 fun x => { x with claim := .granted, stepEn := true }
    let state (t : State) := (t.rec? 0).map fun r => (r.state, r.current, r.gapOpen)
    state ((s { plate .running with current := 1 }).endStep 0 0) = some (.finished, 1, false)
    ∧ state ((s (plate .running)).endStep 0 0) = some (.ended, 0, true)
    ∧ (((s (plate .running)).endStep 0 0).pos 0).claim = .releaseQueued
    ∧ (let own := { running .wash .dry 0 with steps := [entry .wash 1, entry .dry 5] }
       state ((s own).endStep 0 0) = some (.running, 1, false) ∧ (((s own).endStep 0 0).pos 0).claim = .granted)
    ∧ (let own := { plate .running with steps := [{ entry .wash 1 with minGap := some 1 }, entry .dry 5] }
       state ((s own).endStep 0 0) = some (.loaded, 1, true) ∧ (((s own).endStep 0 0).pos 0).claim = .releaseQueued)
    ∧ ((s (plate .waiting)).tellGrant 0).rec? 0 = some (standing (plate .running))
    ∧ (s (plate .paused)).tellGrant 0 = s (plate .paused) := by decide +kernel
theorem witness_InterlockPausesAndResumes :
    let s (r : Record) := placed r joined
    let low (s : State) : State := { s with pins := { s.pins with ilk := s.pins.ilk.set 0 false } }
    let high (s : State) : State := { s with pins := { s.pins with ilk := s.pins.ilk.set 0 true } }
    Gives (.ilkOpen 0) (s (plate .running)) (low (((s (plate .running)).setRec 0 (standing (plate .paused))).updPos 0
        fun x => { x with interlock := false, stepEn := false }))
    ∧ Gives (.ilkClose 0) (s (plate .paused)) (high (((s (plate .paused)).setRec 0 (standing (plate .running))).updPos 0
        fun x => { x with stepEn := true, silenceClock := 0 }))
    ∧ (let r := { plate .paused with booking := .held 3 1 }
       (s r).txHas (.slot 0) = false ∧ ((s r).slot 0).waits = [] ∧
       (after (.ilkClose 0) (s r)).lbi.tx = [txOf (.slot 0) (bookFrame 3 r.tag .post 70 true)])
    ∧ Gives (.ilkOpen 7) joined (joined.updPos 7 fun x => { x with interlock := false })
    ∧ Gives (.ilkClose 7) joined ({ joined with pins := { joined.pins with ilk := joined.pins.ilk.set 7 true } }.updPos 7
        fun x => { x with interlock := true }) := by decide +kernel
theorem witness_StepFaultsHold :
    let s (r : Record) := placed r joined
    let kind (t : State) := (t.rec? 0).map fun r => (r.state, r.deviations)
    let dose : Record := { running .main .detack 9 with steps := [{ entry .main 10 with timeLimit := some 30 }] }
    Gives (.pauseClockSecond 0) (s { plate .paused with pauseTotal := 119 })
      (((s { plate .paused with pauseTotal := 119 }).updPos 0 fun x => { x with pauseClock := 1000 }).setRec 0
        { standing (plate .paused) with pauseTotal := 120 })
    ∧ kind (after (.pauseClockSecond 0) (s { plate .paused with pauseTotal := 120 })) =
      some (.held, [{ kind := .pauseLimit, stepIndex := 0, value := 121 }])
    ∧ kind (after (.lampSilent 0) (s dose)) = some (.held, [{ kind := .lampSilent, stepIndex := 0, value := 9 }])
    ∧ kind (after (.doseShort 0) (s dose)) = some (.held, [{ kind := .doseShort, stepIndex := 0, value := 9 }])
    ∧ Gives (.doseShort 0) (s { dose with accumulated := 10 }) (s { dose with accumulated := 10 })
    ∧ Gives (.doseShort 0) (s (running .main .detack 9)) (s (running .main .detack 9))
    ∧ Gives (.lampSilent 0) (s (plate .running)) (s (plate .running))
    ∧ Gives (.doseShort 0) (s (plate .running)) (s (plate .running))
    ∧ Gives (.lampSilent 0) (s (plate .paused)) (s (plate .paused)) := by decide +kernel

/-! ### Timers -/

theorem witness_GapTimerCounts :
    let r (st : RecState) (g : BitVec 24) : Record :=
      { plate st with current := 1, gapOpen := true, gapElapsed := some g,
                      steps := [{ entry .dry 10 with maxGap := some 9, minGap := some 4 }, entry .post 5] }
    let s (r : Record) := placed r joined
    Gives (.gapTimer 0) (s (r .loaded 4)) ((s (r .loaded 4)).setRec 0 (standing (r .loaded 5)))
    ∧ Gives (.gapTimer 0) (s (r .loaded 3))
      ((((s (r .loaded 3)).setRec 0 (standing (r .loaded 4))).startRound 0).judgeReady 0)
    ∧ ((after (.gapTimer 0) (s (r .loaded 3))).rec? 0).map (·.state) = some .waiting
    ∧ Gives (.gapTimer 0) (s (r .loaded 8)) (((s (r .loaded 8)).setRec 0 (standing (r .loaded 9))).enterHeld 0 .gapExceeded 9 false)
    ∧ Gives (.gapTimer 0) (s (r .held 16777215)) (s (r .held 16777215))
    ∧ Gives (.gapTimer 0) (s (r .running 3)) (s (r .running 3))
    ∧ Gives (.gapTimer 0) (s { r .ended 3 with gapOpen := false }) (s { r .ended 3 with gapOpen := false }) := by decide +kernel

/-- A frame to one station that carries a tag and one byte. -/
def tagged (k : FrameKind) (a : Addr) (t : Tag) (b : List Byte) : Frame :=
  { kind := k, dest := BitVec.ofNat 5 a.val, payload := tagBytes t ++ b }

theorem witness_BookingBegins :
    joined.candidateFrom .finish 1 = some (1, 3) ∧ joined.candidateFrom .finish 2 = some (2, 4)
    ∧ joined.candidateFrom .finish 3 = none
    ∧ (let r : Record := { plate .ended with booking := .held 3 1 }
       let t := (placed r joined).startTransfer 0
       let image := recordImage { standing r with state := .outbound }
       t.rec? 0 = some { standing r with state := .outbound, carry := some { image := image, next := 0, count := 4 } }
       ∧ image.length = 46 ∧ t.lbi.tx = [txOf (.slot 0) { kind := .carry, dest := 3, payload := [16, 4] ++ image.take 14 }]) := by
  decide +kernel
theorem witness_RecordTimersExpire :
    let asking (k : Nat) (a : Addr) : Record := { plate .ended with booking := .asking k a, answerTimer := some 1 }
    let s (r : Record) := placed r joined
    (after (.answerTimer 0) (s (asking 1 3))).lbi.tx = [txOf (.slot 0) (bookFrame 4 (plate .ended).tag .post 60 false)]
    ∧ ((after (.answerTimer 0) (s (asking 1 3))).rec? 0).map (·.booking) = some (.asking 2 4)
    ∧ Gives (.answerTimer 0) (s (asking 2 4)) ((s (asking 2 4)).setRec 0 { standing (plate .ended) with exhausted := true })
    ∧ (let r : Record := { plate .outbound with booking := .held 3 1, handOffTimer := some 1 }
       (after (.handOffTimer 0) (s r)).rec? 0 = some { plate .uncertain with sentToward := some 3 }
       ∧ ((after (.handOffTimer 0) (s r)).pos 0).state = .clearing
       ∧ (after (.handOffTimer 0) (s r)).lbi.tx = [txOf (.slot 0) { kind := .locate, dest := 31, payload := tagBytes r.tag }])
    ∧ (let r : Record := { plate .uncertain with locateTimer := some 1 }
       Gives (.locateTimer 5) (hold 5 r joined) (State.post (recordEvent .locateResult none 5 r.tag 0)
         ((hold 5 r joined).setRec 5 (plate .uncertain))))
    ∧ Gives (.answerTimer 0) (s (plate .ended)) (s (plate .ended))
    ∧ Gives (.handOffTimer 0) (s (plate .outbound)) (s (plate .outbound))
    ∧ Gives (.locateTimer 0) (s (plate .uncertain)) (s (plate .uncertain)) := by decide +kernel

/-- The tag of a plate of station 3, expected here. -/
def theirTag : Tag := { origin := 3, epoch := 1, seq := 9 }

/-- Station 2 with position 7 and slot 9 booked by station 3. -/
def booked (st : BookingStatus) : State :=
  let s := joined.setSlot 9 { state := .reserved, waits := [] }
  { s with
    store := { s.store with freeList := s.store.freeList.filter (· ≠ 9) }
    bookings := [{ tag := theirTag, booker := 3, position := 7, slot := 9, kind := .dry, hold := 30, timer := 1, status := st }] }.updPos
    7 fun x => { x with state := .booked }

/-- An open assembly of an image in `count` parts. -/
def assembly (count next : Nat) (data : List Byte) : Assembly := { count := count, next := next, data := data, gap := 7 }

theorem witness_BookingTimersExpire :
    (booked .standing).txHas (.slot 9) = false
    ∧ Gives (.bookingLapse 7) (booked .standing) (State.post (recordEvent .bookingLapsed (some 7) 9 theirTag 3)
      (State.queueFrame (.slot 9) (tagged .cancel 3 theirTag []) (State.freeSlot 9
        ({ booked .standing with bookings := [] }.updPos 7 fun x => { x with state := .empty }))))
    ∧ Gives (.bookingLapse 7) (booked .offered) (booked .offered)
    ∧ Gives (.partGap 7) (booked (.assembling (assembly 3 1 []))) (booked .standing)
    ∧ Gives (.partGap 6) (booked (.assembling (assembly 3 1 []))) (booked (.assembling (assembly 3 1 []))) := by decide +kernel

/-- Station 2 JOINING in a phase of the join. -/
def joining (phase : JoinPhase) : State :=
  { inLine .joining with mem := { (inLine .joining).mem with
      phase := phase, presence := some 0, joinWait := some 9, partGap := some 9, lastEpoch := 65535 } }

/-- A snapshot whose head has been taken. -/
def taking (next : Nat) (peers : List SnapPeer) : SnapIn :=
  { provider := 3, sCap := 7, capacities := #v[1, 2, 3], count := 0, nextPart := next, peers := peers, claims := [] }

/-- The JOIN of station 2. -/
def ownJoin : Frame := { kind := .join, dest := 31, payload := [2] }

theorem witness_LineTimersExpire :
    (after (.departureTimer 3) joined).lbi.tx = [txOf (.departure 3) { kind := .depart, dest := 31, payload := [3] }]
    ∧ ((after (.departureTimer 3) joined).peer 3).timer = some 1000
    ∧ joined.presenceFrame = { kind := .presence, dest := 31, payload := [2, 2, 0, 1, 0, 0, 8, 32, 0, 0, 0, 0] }
    ∧ (after .presenceTimer joined).lbi.tx = [txOf .presence joined.presenceFrame]
    ∧ (let s : State := { joined with lbi := { joined.lbi with tx := [{ txOf .presence ownJoin with voids := 3 }] } }
       (after .presenceTimer s).lbi.tx = [txOf .presence joined.presenceFrame])
    ∧ (let s : State := { inLine .detached with mem := { (inLine .detached).mem with backoff := some 9 } }
       (after .backingOff s).lbi.tx = [txOf .upkeep ownJoin]
       ∧ (after .backingOff s).port.events = [stationEvent .lineState 263])
    ∧ (after .joinWait (joining .waiting)).mem.line = .joined
    ∧ (after .joinWait (joining .waiting)).mem.lastEpoch = 1
    ∧ ((after .joinWait (joining .waiting)).peer 2).state = .joined
    ∧ (let s : State := { joining .waiting with mem := { (joining .waiting).mem with barred := true } }
       (after .joinWait s).lbi.tx = [txOf .upkeep ownJoin]
       ∧ (after .joinWait s).port.events = [stationEvent .lineState 269])
    ∧ (after .snapshotPartGap (joining (.receiving (taking 2 [])))).port.events = [stationEvent .lineState 268]
    ∧ Gives .snapshotPartGap (joining .waiting) (joining .waiting)
    ∧ Gives .joinWait (joining .queued) (joining .queued) := by decide +kernel
theorem witness_DetachLosesLine :
    let s (r : Record) := placed r joined
    let t (r : Record) := (s r).detach .departed
    (s (plate .running)).arrivalQueue = [] ∧ (s (plate .running)).bookings = []
    ∧ (t (plate .running)).mem.line = .detached ∧ (t (plate .running)).mem.backoff = some 0
    ∧ ((t (plate .running)).rec? 0).map (fun r => (r.state, r.heldFrom, r.deviations)) =
      some (.held, some .running, [{ kind := .lineLost, stepIndex := 0, value := 0 }])
    ∧ (t (plate .outbound)).rec? 0 = some (plate .uncertain)
    ∧ (t (plate .waiting)).rec? 0 = some (standing (plate .loaded))
    ∧ (t { plate .ended with booking := .held 3 1 }).rec? 0 = some (standing (plate .ended))
    ∧ (∀ a : Addr, ((t (plate .running)).peer a).state = .absent) := by decide +kernel
/-! ### The pair -/

/-- A transmit list, the frame of an origin in transmission. -/
def listed (tx : List TxEntry) (out : InTx) (s : State) : State := { s with lbi := { s.lbi with tx := tx, inTx := out } }

/-- A CLAIM, a PRESENCE and two more frames of the list. -/
def someFrame (k : FrameKind) : Frame := { kind := k, dest := 31, payload := [] }

theorem witness_TransmissionOrder :
    let l := [txOf .presence (someFrame .presence), txOf (.position 1) (someFrame .claim),
              txOf (.position 0) (someFrame .claim)]
    let s := listed l .idle joined
    Gives .transmissionStart s (listed l (.listed (.position 1)) joined)
    ∧ Gives .transmissionStart joined joined
    ∧ (let r : State := { s with conf := { s.conf with rate := 3 } }
       Gives .transmissionStart r r)
    ∧ Gives .arbitrationLost (listed l (.listed .presence) joined) s
    ∧ (let held (h : HeldRequest) := { txOf (.departure 3) (someFrame .depart) with held := h, voids := 2 }
       Gives .arbitrationLost (listed [held .withdraw] (.listed (.departure 3)) joined)
         (joined.setTx [])
       ∧ Gives .arbitrationLost (listed [held (.replace (someFrame .claim))] (.listed (.departure 3)) joined)
         (listed [txOf (.departure 3) (someFrame .claim)] .idle joined)) := by decide +kernel
theorem witness_VoidsCounted :
    let s (l : LineState) (n : Nat) := listed [{ txOf .presence (someFrame .presence) with voids := n }] (.listed .presence) (inLine l)
    Gives (.frameVoid 2 false) (s .joined 6)
      (listed [{ txOf .presence (someFrame .presence) with voids := 7 }] .idle (inLine .joined))
    ∧ Gives (.frameVoid 2 false) (s .joined 7)
      ((listed [{ txOf .presence (someFrame .presence) with voids := 7 }] .idle (inLine .joined)).dropFrame .presence |>.detach .txFault)
    ∧ (after (.frameVoid 2 false) (s .joined 7)).mem.line = .detached
    ∧ (after (.frameVoid 2 false) (s .out 7)).mem.line = .out
    ∧ (after (.frameVoid 2 false) (s .out 7)).port.alarms.lineTxFault = true
    ∧ (let e (n : Nat) (l : LineState) : State := { inLine l with lbi := { Lbi.initial with rxErrors := n } }
       Gives (.frameVoid 3 true) (e 14 .joined) (e 15 .joined)
       ∧ (after (.frameVoid 3 true) (e 15 .joined)).mem.line = .detached
       ∧ (after (.frameVoid 3 true) (e 15 .joined)).lbi.listenOnly = true
       ∧ (after (.frameVoid 3 true) (e 15 .out)).lbi.rxErrors = 16
       ∧ (after (.frameVoid 3 true) (e 15 .out)).mem.line = .out
       ∧ Gives (.frameVoid 3 false) (e 15 .out) (e 15 .out)
       ∧ Gives (.frameVoid 3 true) (e 15 .saving) (e 15 .saving)
       ∧ (let m : State := { e 16 .out with lbi := { (e 16 .out).lbi with listenOnly := true } }
          Gives (.frameVoid 3 true) m m)) := by decide +kernel
theorem witness_StallsAndListenOnlyErrors :
    let l := [txOf .presence (someFrame .presence)]
    let s (line : LineState) : State := { inLine line with lbi := { Lbi.initial with tx := l, stall := some 10000 } }
    (after .stallTimer (s .joined)).mem.line = .detached ∧ (after .stallTimer (s .joined)).port.alarms.lineTxFault = true
    ∧ Gives .stallTimer (s .out) { inLine .out with port := { Port.initial with alarms := { Alarms.clear with lineTxFault := true } } }
    ∧ Gives .stallTimer (inLine .out) (inLine .out)
    ∧ (let j : State := { joining .waiting with lbi := { Lbi.initial with listenOnly := true } }
       (after (.frameErrorListenOnly 3) j).lbi.tx = [txOf .upkeep ownJoin]
       ∧ (after (.frameErrorListenOnly 3) j).port.events = [stationEvent .lineState 270])
    ∧ Gives (.frameErrorListenOnly 3) (inLine .out) (inLine .out)
    ∧ ((s .out).dropFrame .presence).lbi.tx = [] ∧ ((s .out).dropFrame .presence).lbi.stall = none := by decide +kernel
theorem witness_AppearancesShared :
    let e (l : LineState) (n : Nat) : State := { inLine l with lbi := { Lbi.initial with rxErrors := n } }
    Gives (appearance 4 3 31 [1, 0, 0, 1]) (e .config 5) (e .config 5)
    ∧ Gives (appearance 4 3 31 [1, 0, 0, 1]) (e .saving 5) (e .saving 4)
    ∧ Gives (appearance 4 3 31 [1, 0, 0, 1]) (e .dormant 5) (e .dormant 5)
    ∧ frameKindOf 31 = none ∧ Gives (appearance 31 3 31 []) (e .out 5) (e .out 4)
    ∧ frameKindOf (kindCode .found) = some .found ∧ kindReplicated .found = false
    ∧ Gives (appearance (kindCode .found) 3 1 []) (e .joined 0) (e .joined 0)
    ∧ (let s := listed [txOf (.departure 3) (someFrame .depart)] .idle joined
       ((s.heard 3).peer 3).timer = some 0 ∧ (s.heard 3).lbi.tx = []) := by decide +kernel

/-! ### The budget table -/

/-- A claim entry of a station's position 0 that draws HEAT. -/
def claimOf (a : Addr) (n : Nat) (st : ClaimStatus) (order : BitVec 32) : ClaimEntry :=
  { station := a, position := 0, draws := #v[0, 0, n], status := st, order := order }

/-- Station 2 JOINED with a HEAT capacity of 3 and claim entries. -/
def table (l : List ClaimEntry) : State :=
  { joined with bud := { capacities := #v[0, 0, 3], entries := l, seqNo := 5 } }

theorem witness_ReleaseRemovesEntry :
    let l := [claimOf 3 2 .granted 1, claimOf 4 2 .waiting 2]
    (after (.releaseAppears 3 31 [0]) (table l)).bud = { (table [claimOf 4 2 .granted 2]).bud with seqNo := 6 }
    ∧ (after (.releaseAppears 3 31 [7]) (table l)).bud = { (table l).bud with seqNo := 6 }
    ∧ (after (.releaseAppears 3 31 [8]) (table l)).bud = { (table l).bud with seqNo := 6 } := by decide +kernel
theorem witness_ClaimsAndCapacitiesApplied :
    (after (.claimAppears 3 31 [0, 0, 0, 3]) (table [])).bud = { (table [claimOf 3 3 .granted 6]).bud with seqNo := 6 }
    ∧ (after (.claimAppears 3 31 [0, 0, 0, 4]) (table [])).bud = { (table []).bud with seqNo := 6 }
    ∧ (after (.claimAppears 3 31 [0, 0, 0, 0]) (table [])).bud = { (table []).bud with seqNo := 6 }
    ∧ (after (.claimAppears 3 31 [0, 0, 0, 3]) (table [claimOf 3 1 .granted 2])).bud =
      { (table [claimOf 3 1 .granted 2]).bud with seqNo := 6 }
    ∧ (after (.capacityAppears 3 31 [2, 0x03, 0xff]) (table [claimOf 3 4 .waiting 2])).bud =
      { capacities := #v[0, 0, 1023], entries := [claimOf 3 4 .granted 2], seqNo := 6 }
    ∧ (after (.capacityAppears 3 31 [2, 0, 1]) (table [claimOf 3 3 .granted 1, claimOf 4 2 .waiting 2])).bud =
      { capacities := #v[0, 0, 1], entries := [claimOf 3 3 .granted 1], seqNo := 6 } := by decide +kernel
theorem witness_GrantScanFair :
    (grantScan #v[0, 0, 3] [claimOf 3 2 .granted 1, claimOf 4 2 .waiting 2, claimOf 5 1 .waiting 3]) =
      ([claimOf 3 2 .granted 1, claimOf 4 2 .waiting 2, claimOf 5 1 .waiting 3], [])
    ∧ (grantScan #v[0, 0, 3] [claimOf 3 2 .granted 1, claimOf 4 1 .waiting 2, claimOf 5 1 .waiting 3]) =
      ([claimOf 3 2 .granted 1, claimOf 4 1 .granted 2, claimOf 5 1 .waiting 3], [claimOf 4 1 .granted 2]) := by decide +kernel
theorem witness_ReplicasAgree :
    let s : State := table [claimOf 3 2 .granted 1, claimOf 4 2 .waiting 2]
    let t : State := { s with conf := { s.conf with address := 4 } }
    s.bud = t.bud ∧ (after (appearance (kindCode .depart) 5 31 [3]) s).bud = (after (appearance (kindCode .depart) 5 31 [3]) t).bud
    ∧ (after (appearance (kindCode .leave) 3 31 []) s).bud = (after (appearance (kindCode .leave) 3 31 []) t).bud := by decide +kernel
theorem witness_ClaimsAskedAndGivenUp :
    let s (c : ClaimState) := joined.updPos 7 fun x => { x with claim := c }
    (s .none).askClaim 7 = ((s .claimQueued).queueFrame (.position 7) { kind := .claim, dest := 31, payload := [7, 0, 0, 1] })
    ∧ (s .granted).askClaim 7 = s .granted
    ∧ (s .releaseQueued).askClaim 7 = ((s .releaseQueued).updPos 7 fun x => { x with remembered := true })
    ∧ (s .none).giveUpClaim 7 = s .none ∧ (s .claimQueued).giveUpClaim 7 = s .none
    ∧ (s .waiting).giveUpClaim 7 = (s .releaseQueued).queueFrame (.position 7) { kind := .release, dest := 31, payload := [7] }
    ∧ (let q := listed [txOf (.position 7) (someFrame .claim)] (.listed (.position 7)) (s .claimQueued)
       q.giveUpClaim 7 = (q.updTx (.position 7) fun e => { e with held := .withdraw }).updPos 7 fun x =>
         { x with withdrawing := true })
    ∧ (s .releaseQueued).giveUpClaim 7 = s .releaseQueued := by decide +kernel

/-! ### Membership -/

theorem witness_DeparturesAppear :
    let s := table [claimOf 3 2 .granted 1, claimOf 4 2 .waiting 2]
    let t := after (.departAppears 4 31 [3]) s
    let left := after (.leaveAppears 3 31 []) s
    (s.peer 3).state ≠ .absent ∧ s.port.events = []
    ∧ t.peer 3 = { onLine .absent .finish with timer := none } ∧ t.port.events = [stationEvent .peerGone 769]
    ∧ left.peer 3 = t.peer 3 ∧ left.port.events = [stationEvent .peerGone 770]
    ∧ t.bud = { capacities := #v[0, 0, 3], entries := [claimOf 4 2 .granted 2], seqNo := 6 }
    ∧ (after (.departAppears 4 31 [3]) (booked .standing)).bookings = []
    ∧ (after (.departAppears 3 31 [2]) joined).mem.line = .detached
    ∧ (after (.departAppears 3 31 [2]) joined).port.events.head? = some (stationEvent .peerGone 513)
    ∧ (after (.departAppears 3 31 [2]) (joining .waiting)).mem.line = .detached
    ∧ Gives (.departAppears 3 31 [2]) (inLine .out) (inLine .out)
    ∧ (after (.leaveAppears 2 31 []) joined).mem.line = .out
    ∧ (after (.leaveAppears 2 31 []) joined).mem.lastEpoch = 1 := by decide +kernel
theorem witness_JoinsAppear :
    let t := after (.joinAppears 5 31 [3]) (table [claimOf 5 2 .granted 1])
    (t.peer 5) = { onLine .joining .finish with timer := some 0 }
    ∧ t.bud = { capacities := #v[0, 0, 3], entries := [], seqNo := 6 }
    ∧ t.mem.joinQueue = [{ address := 5, sJoin := 6 }]
    ∧ (let low : State := { joined with mem := { joined.mem with peers := (joined.mem.peers.set 0 (onLine .joined .wash)) } }
       (after (.joinAppears 5 31 [3]) low).mem.joinQueue = [])
    ∧ ((after (.joinAppears 5 31 [3]) { joined with
        mem := { joined.mem with peers := (joined.mem.peers.set 5 { Peer.blank with epoch := 65535 }) } }).peer 5).epoch = 1
    ∧ (after (.joinAppears 3 31 [3]) (joining .waiting)).mem.buffer = [{ kind := .join, sender := 3, payload := [3] }]
    ∧ (let s : State := { joining .queued with lbi := { Lbi.initial with rxErrors := 9 } }
       (after (.joinAppears 2 31 [2]) s).mem.phase = .waiting ∧ (after (.joinAppears 2 31 [2]) s).mem.joinWait = some 0
       ∧ (after (.joinAppears 2 31 [2]) s).lbi.rxErrors = 0) := by decide +kernel

/-- A SNAP_HEAD for station 2: sequence number 7, an offset, capacities 1, 2, 3, a digest and no claim entry. -/
def headBytes (offset : Byte) (digest : BitVec 16) : List Byte := [2, 0, 0, 0, 7, offset, 0, 1, 0, 2, 0, 3] ++ bytes16 digest ++ [0]

/-- Five peers, all ABSENT but one: the content of a SNAP_PART with station 2 JOINED at epoch 9. -/
def fivePeers : List SnapPeer :=
  let blank : SnapPeer := { state := .absent, role := .expose, epoch := 0 }
  [blank, blank, { state := .joined, role := .dry, epoch := 9 }, blank, blank]

theorem witness_SnapshotsServedAndTaken :
    snapHeadPayload (headBytes 0 0) = some { joiner := 2, sCap := 7, offset := 0, capacities := #v[1, 2, 3], digest := 0, count := 0 }
    ∧ Gives (.snapHeadAppears 3 31 (headBytes 0 0)) (joining .waiting)
      { joining .waiting with mem := { (joining .waiting).mem with
          phase := .receiving (taking 0 []), barred := true, joinWait := none, partGap := some 0 } }
    ∧ (after (.snapHeadAppears 3 31 (headBytes 1 0)) (joining .waiting)).port.events = [stationEvent .lineState 272]
    ∧ (after (.snapHeadAppears 3 31 (headBytes 0 1)) (joining .waiting)).mem.line = .mismatch
    ∧ (after (.snapHeadAppears 3 31 (headBytes 0 1)) (joining .waiting)).port.alarms.configMismatch = true
    ∧ (taking 0 []).partContent 0 [0, 0xA0, 0, 0, 0, 0, 0, 0, 9, 0, 0, 0, 0] = some (fivePeers, [])
    ∧ (let part (i : Byte) : Instr := .snapPartAppears 3 31 ([2, i, 0, 0xA0, 0, 0, 0, 0, 0, 0, 9, 0, 0, 0, 0])
       (after (part 0) (joining (.receiving (taking 0 [])))).mem.phase = .receiving (taking 1 fivePeers)
       ∧ (after (part 1) (joining (.receiving (taking 0 [])))).port.events = [stationEvent .lineState 268])
    ∧ lastPart 0 = 3
    ∧ (let t := after (.snapPartAppears 3 31 [2, 3, 0, 0, 0]) (joining (.receiving (taking 3 (fivePeers ++ List.replicate 10
        { state := .absent, role := .expose, epoch := 0 }))))
       t.mem.line = .joined ∧ (t.peer 2).state = .joined ∧ (t.peer 2).epoch = 9 ∧ t.mem.lastEpoch = 9
       ∧ t.bud = { capacities := #v[1, 2, 3], entries := [], seqNo := 7 })
    ∧ (let s : State := { table [claimOf 3 2 .granted 1] with mem := { joined.mem with joinQueue := [{ address := 5, sJoin := 4 }] } }
       (s.tryServe).lbi.tx = [txOf .upkeep
         { kind := .snapHead, dest := 31, payload := [5, 0, 0, 0, 5, 1, 0, 0, 0, 0, 0, 3, 0, 0, 1] }]
       ∧ (s.snapParts 5).length = 5
       ∧ (let served : State := { s with mem := { s.mem with serving := some { joiner := 5, rest := [someFrame .snapPart] } } }
          served.snapAppeared.lbi.tx = [txOf .upkeep (someFrame .snapPart)])
       ∧ (let served : State := { s with mem := { s.mem with serving := some { joiner := 5, rest := [] } } }
          served.snapAppeared.mem.joinQueue = [])) := by decide +kernel
theorem witness_PresencesAppear :
    let p (st : Byte) : List Byte := [st, 3, 0, 8, 0, 0, 1, 2, 0, 0, 0, 4]
    (after (.presenceAppears 3 31 (p 2)) joined).peer 3 =
      { state := .joined, role := .finish, epoch := 8, freePositions := 1, freeSlots := 2, seqNo := 4, timer := some 0 }
    ∧ ((after (.presenceAppears 3 31 (p 1)) joined).peer 3).epoch = 1
    ∧ (after (.presenceAppears 5 31 (p 2)) joined).port.events = [stationEvent .peerJoined 327688]
    ∧ ((after (.presenceAppears 5 31 (p 2)) joined).peer 5).timer = some 0
    ∧ Gives (.presenceAppears 5 31 (p 1)) joined joined
    ∧ (after (.presenceAppears 5 31 (p 2)) (joining .waiting)).mem.barred = true
    ∧ Gives (.presenceAppears 5 31 (p 1)) (joining .waiting) (joining .waiting)
    ∧ (after (.presenceAppears 5 31 [1, 3, 0, 8, 0, 1, 1, 2, 0, 0, 0, 4]) (joining .waiting)).mem.barred = true := by decide +kernel
theorem witness_LineCommandsTaken :
    let full (s : State) : State := listed [txOf (.capacity 2) (someFrame .capacity)] .idle s
    Gives (.capacity 2 1023) (inLine .out) ((inLine .out).answered .refused 0x010000)
    ∧ (after (.capacity 2 1023) joined).lbi.tx = [txOf (.capacity 2) { kind := .capacity, dest := 31, payload := [2, 3, 0xff] }]
    ∧ (after (.capacity 2 1023) (full joined)).lbi.tx =
      [txOf (.capacity 2) { kind := .capacity, dest := 31, payload := [2, 3, 0xff] }]
    ∧ Gives .leave (inLine .out) ((inLine .out).answered .refused 0x010000)
    ∧ (let s := listed [txOf .upkeep (someFrame .leave)] .idle joined
       Gives .leave s (s.answered .refused 0x150000))
    ∧ Gives .leave (placed (plate .running) joined) ((placed (plate .running) joined).answered .refused 0x160000)
    ∧ Gives .leave (booked .standing) ((booked .standing).answered .refused 0x160000)
    ∧ Gives .leave joined ((joined.queueFrame .upkeep (someFrame .leave)).answered .ok 0)
    ∧ Gives .join joined (joined.answered .refused 0x170000)
    ∧ (after .join (inLine .out)).lbi.tx = [txOf .upkeep ownJoin]
    ∧ (after .join (inLine .out)).port.events = [stationEvent .lineState 265] := by decide +kernel
/-! ### Bookings and hand-off -/

/-- A BOOK payload: station 3's plate, a step kind, hold 30 s, and the renewal mark. -/
def bookBytes (kind mark : Byte) : List Byte := tagBytes theirTag ++ [kind, 0, 30, mark]

/-- The entry that a BOOK from station 3 gets on position 0 and slot 0. -/
def offered : Booking :=
  { tag := theirTag, booker := 3, position := 0, slot := 0, kind := .dry, hold := 30, timer := 0, status := .offered }

/-- Eight answers pending. -/
def answersFull (s : State) : State :=
  listed ((List.finRange 8).map fun i => txOf (.answer i) (someFrame .found)) .idle s

theorem witness_BookJudged :
    let book (k m : Byte) : Instr := .bookAppears 3 2 (bookBytes k m)
    let answers (c : Instr) (s : State) := (after c s).lbi.tx
    let refused (b : Byte) := [txOf (.answer 0) (tagged .refused 3 theirTag [b])]
    bookPayload (bookBytes 4 1) = some { tag := theirTag, kind := .dry, hold := 30, renewal := true }
    ∧ Gives (book 4 0) (inLine .detached) (inLine .detached) ∧ Gives (book 4 0) (inLine .out) (inLine .out)
    ∧ Gives (book 4 0) (inLine .mismatch) (inLine .mismatch)
    ∧ answers (book 4 0) (joining .waiting) = refused 1 ∧ answers (book 3 0) joined = refused 3
    ∧ answers (book 4 0) (hold 5 { plate .held with tag := theirTag } joined) = refused 24
    ∧ answers (book 4 1) (booked .standing) = [txOf (.answer 0) (tagged .booked 3 theirTag [7])]
    ∧ (after (book 4 1) (booked .standing)).bookings = ((booked .standing).bookings.map fun b => { b with timer := 0 })
    ∧ answers (book 4 1) joined = refused 26
    ∧ answers (book 4 0) { joined with conf := { joined.conf with posCount := 0 } } = refused 25
    ∧ answers (book 4 0) { joined with store := { joined.store with freeList := [] } } = refused 4
    ∧ Gives (book 4 0) (answersFull joined) ((answersFull joined).heard 3)
    ∧ answers (book 4 0) joined = [txOf (.answer 0) (tagged .booked 3 theirTag [0])]
    ∧ (after (book 4 0) joined).bookings = [offered]
    ∧ ((after (book 4 0) joined).pos 0).state = .booked ∧ ((after (book 4 0) joined).slot 0).state = .reserved
    ∧ (after (book 4 0) joined).store.freeList = handles.drop 1 := by decide +kernel
theorem witness_AnswersAtBooker :
    let t := (plate .ended).tag
    let s (r : Record) := placed r joined
    let asking (st : RecState) : Record := { plate st with booking := .asking 1 3, answerTimer := some 1 }
    let held (st : RecState) (p : PosIx) : Record := { plate st with booking := .held 3 p }
    let state (x : State) := (x.rec? 0).map fun r => (r.state, r.booking)
    tagPayload (tagBytes t) = some t ∧ (s (asking .loaded)).resident t = some 0
    ∧ state (after (.bookedAppears 3 2 (tagBytes t ++ [7])) (s (asking .loaded))) = some (.waiting, .held 3 7)
    ∧ state (after (.bookedAppears 3 2 (tagBytes t ++ [7])) (s (asking .ended))) = some (.outbound, .held 3 7)
    ∧ ((after (.bookedAppears 3 2 (tagBytes t ++ [7])) (s (asking .ended))).lbi.tx.map (·.origin)) = [.slot 0]
    ∧ after (.refusedAppears 3 2 (tagBytes t ++ [27])) (s (asking .ended)) =
      after (.answerTimer 0) ((s (asking .ended)).heard 3)
    ∧ state (after (.refusedAppears 3 2 (tagBytes t ++ [27])) (s (asking .ended))) = some (.ended, .asking 2 4)
    ∧ (after (.takenAppears 3 2 (tagBytes t)) (s (held .outbound 1))).rec? 0 = none
    ∧ ((after (.takenAppears 3 2 (tagBytes t)) (s (held .outbound 1))).pos 0).state = .clearing
    ∧ (after (.takenAppears 3 2 (tagBytes t)) (s (held .outbound 1))).port.events =
      [recordEvent .handoffDone (some 0) 0 t 3]
    ∧ (after (.takenAppears 3 2 (tagBytes t)) (hold 5 (plate .uncertain) joined)).rec? 5 = none
    ∧ (after (.rejectAppears 3 2 (tagBytes t ++ [27])) (s (held .outbound 1))).rec? 0 = some { standing (plate .held) with
        heldFrom := some .outbound, deviations := [{ kind := .handoffRejected, stepIndex := 0, value := 27 }] }
    ∧ (after (.foundAppears 3 2 (tagBytes t)) (hold 5 (plate .uncertain) joined)).port.events =
      [recordEvent .locateResult none 5 t 259]
    ∧ joined.resident t = none
    ∧ (after (.bookedAppears 3 2 (tagBytes t ++ [7])) joined).lbi.tx = [txOf (.answer 0) (tagged .cancel 3 t [])]
    ∧ Gives (.refusedAppears 3 2 (tagBytes t ++ [27])) joined (joined.heard 3)
    ∧ Gives (.takenAppears 3 2 (tagBytes t)) joined (joined.heard 3)
    ∧ Gives (.rejectAppears 3 2 (tagBytes t ++ [0])) joined (joined.heard 3)
    ∧ Gives (.foundAppears 3 2 (tagBytes t)) joined (joined.heard 3) := by decide +kernel
theorem witness_CancelAndLocate :
    let cancel : Instr := .cancelAppears 3 2 (tagBytes theirTag)
    let free (s : State) : State := State.freeSlot 9 ({ s with bookings := [] }.updPos 7 fun x => { x with state := .empty })
    (booked .standing).resident theirTag = none
    ∧ Gives cancel (booked .standing) (free ((booked .standing).heard 3))
    ∧ Gives cancel (booked (.assembling (assembly 2 1 []))) (free ((booked .standing).heard 3))
    ∧ Gives cancel (booked (.closing [] false)) ((booked (.closing [] false)).heard 3)
    ∧ (let r (st : RecState) : Record := { plate st with booking := .held 3 1 }
       let c : Instr := .cancelAppears 3 2 (tagBytes (plate .running).tag)
       let state (st : RecState) := ((after c (placed (r st) joined)).rec? 0).map fun r => (r.state, r.booking)
       state .running = some (.running, .none) ∧ state .paused = some (.paused, .none)
       ∧ state .loaded = some (.waiting, .none) ∧ state .waiting = some (.waiting, .none)
       ∧ state .ended = some (.ended, .asking 1 3) ∧ state .outbound = some (.ended, .asking 1 3)
       ∧ state .held = some (.held, .held 3 1))
    ∧ (let l : Instr := .locateAppears 3 31 (tagBytes (plate .running).tag)
       (after l (placed (plate .running) joined)).lbi.tx = [txOf (.answer 0) (tagged .found 3 (plate .running).tag [])]
       ∧ Gives l (hold 5 (plate .uncertain) joined) ((hold 5 (plate .uncertain) joined).heard 3)
       ∧ Gives l joined (joined.heard 3)) := by decide +kernel

/-- The image of station 3's plate, ended its WASH step and bound for DRY: 46 bytes, four parts. -/
def theirImage : List Byte :=
  recordImage { plate .outbound with tag := theirTag, steps := [entry .wash 10, entry .dry 10] }

/-- Part i of that image for position 7, of n parts. -/
def part (i n : Nat) : List Byte := [byte (7 * 16 + i), byte n] ++ (theirImage.drop (14 * i)).take 14

theorem witness_CarryAssembled :
    let carry (i n : Nat) : Instr := .carryAppears 3 2 (part i n)
    let status (c : Instr) (s : State) := (after c s).bookings.map (·.status)
    let answer (k : FrameKind) (bs : List Byte) := [txOf (.answer 0) (tagged k 3 theirTag bs)]
    let open3 := booked (.assembling (assembly 4 3 (theirImage.take 42)))
    theirImage.length = 46 ∧ carryPayload (part 0 4) = some { position := 7, index := 0, count := 4, data := theirImage.take 14 }
    ∧ status (carry 0 4) (booked .standing) = [.assembling { assembly 4 1 (theirImage.take 14) with gap := 0 }]
    ∧ status (carry 0 1) (booked .standing) = [.closing (theirImage.take 14) false]
    ∧ (after (carry 0 1) (booked .standing)).lbi.tx = answer .reject [27]
    ∧ status (carry 3 4) open3 = [.closing theirImage false] ∧ (after (carry 3 4) open3).lbi.tx = answer .taken []
    ∧ open3.imageFault offered theirImage = none
    ∧ status (carry 3 4) (answersFull open3) = [.standing]
    ∧ status (carry 1 4) (booked (.assembling (assembly 4 1 (theirImage.take 14)))) =
      [.assembling { assembly 4 2 (theirImage.take 28) with gap := 0 }]
    ∧ (after (carry 0 4) (booked .offered)).lbi.tx = answer .reject [26] ∧ status (carry 0 4) (booked .offered) = [.offered]
    ∧ Gives (carry 1 4) (booked .standing) ((booked .standing).heard 3)
    ∧ status (carry 2 4) open3 = [.closing [] false] ∧ (after (carry 2 4) open3).lbi.tx = answer .reject [27]
    ∧ status (carry 3 5) open3 = [.closing [] false] := by decide +kernel

/-- One frame of an origin, in transmission. -/
def sends (e : TxEntry) (s : State) : State := listed [e] (.listed e.origin) s

/-- The appearance of this station's frame e. -/
def appears (e : TxEntry) : Instr := appearance (kindCode e.frame.kind) 2 e.frame.dest e.frame.payload

theorem witness_OwnFramesAppear :
    let own (e : TxEntry) (s : State) := after (appears e) (sends e s)
    let t := (plate .ended).tag
    (let e := txOf (.slot 0) { kind := .book, dest := 3, payload := tagBytes t ++ [5, 0, 60, 0] }
     let r : Record := { plate .ended with booking := .asking 1 3 }
     (own e (placed r joined)).rec? 0 = some { standing r with answerTimer := some 0 } ∧ (own e (placed r joined)).lbi.tx = [])
    ∧ (own (txOf (.answer 7) (tagged .booked 3 theirTag [7])) (booked .offered)).bookings =
      ((booked .standing).bookings.map fun b => { b with timer := 0 })
    ∧ (let taken := own (txOf (.answer 7) (tagged .taken 3 theirTag [])) (booked (.closing theirImage false))
       taken.rec? 9 = some { plate .inbound with
         tag := theirTag, steps := [entry .wash 10, entry .dry 10], current := 1, gapOpen := true, gapElapsed := some 0
         position := some 7 }
       ∧ taken.bookings = [] ∧ (taken.pos 7).state = .assigned ∧ (taken.pos 7).link = some 9
       ∧ taken.port.events = [recordEvent .inbound (some 7) 9 theirTag 3])
    ∧ (let rejected := own (txOf (.answer 7) (tagged .reject 3 theirTag [27])) (booked (.closing [] false))
       rejected.bookings = [] ∧ (rejected.pos 7).state = .empty ∧ (rejected.slot 9).state = .free)
    ∧ (own (txOf (.slot 5) { kind := .locate, dest := 31, payload := tagBytes t }) (hold 5 (plate .uncertain) joined)).rec? 5 =
      some { plate .uncertain with locateTimer := some 0 }
    ∧ (let c (i : Nat) : CarryOut := { image := theirImage, next := i, count := 4 }
       let r (i : Nat) : Record := { plate .outbound with booking := .held 3 7, carry := some (c i) }
       let e (i : Nat) := txOf (.slot 0) { kind := .carry, dest := 3, payload := part i 4 }
       (own (e 3) (placed (r 3) joined)).rec? 0 = some { standing (r 4) with handOffTimer := some 0 }
       ∧ (own (e 3) (placed (r 3) joined)).lbi.tx = []
       ∧ (own (e 0) (placed (r 0) joined)).rec? 0 = some (standing (r 1))
       ∧ (own (e 0) (placed (r 0) joined)).lbi.tx = [e 1]) := by decide +kernel

/-! ### Configuration -/

theorem witness_ConfigWriteSetsItem :
    let set (item : Byte) (v : BitVec 16) (it : Items) := Gives (.configWrite item v) fresh
      ({ fresh with conf := { fresh.conf with items := it } }.answered .ok 0)
    let bad (item : Byte) (v : BitVec 16) := Gives (.configWrite item v) fresh (fresh.answered .badArgument 0x100000)
    let it := Items.initial
    set 0 255 { it with lineNumber := 255 } ∧ bad 0 256 ∧ set 1 100 { it with presence := 100 }
    ∧ set 1 1000 { it with presence := 1000 } ∧ bad 1 99 ∧ bad 1 1001 ∧ bad 1 120 ∧ bad 1 50 ∧ bad 1 1050
    ∧ set 2 1023 { it with initialCapacities := #v[1023, 0, 0] } ∧ bad 2 1024
    ∧ set 4 1023 { it with initialCapacities := #v[0, 0, 1023] } ∧ bad 4 1024
    ∧ set 5 8 { it with positionCount := 8 } ∧ bad 5 9 ∧ bad 5 0 ∧ set 6 30 { it with lampSilence := 30 } ∧ bad 6 31 ∧ bad 6 0
    ∧ set 7 3600 { it with pauseLimit := 3600 } ∧ bad 7 3601 ∧ bad 7 0 ∧ set 8 600 { it with bookingMargin := 600 } ∧ bad 8 601
    ∧ set 8 10 { it with bookingMargin := 10 } ∧ bad 8 9
    ∧ set 9 7 it ∧ Gives (.configWrite 9 7) { fresh with staging := [(127, 10)] }
      ({ fresh with staging := [(127, 10)] }.answered .badArgument 0x100000)
    ∧ set 16 255 { it with draws := it.draws.set 0 #v[255, 0, 0] } ∧ set 46 255 { it with draws := it.draws.set 7 #v[0, 0, 255] }
    ∧ bad 16 256 ∧ bad 46 256
    ∧ set 64 15 { it with routes := it.routes.set 0 #v[some 15, none, none, none] }
    ∧ set 79 0 { it with routes := it.routes.set 3 #v[none, none, none, some 0] } ∧ set 79 255 it ∧ bad 64 16 ∧ bad 79 254
    ∧ bad 10 0 ∧ bad 15 0 ∧ bad 19 0 ∧ bad 43 0 ∧ bad 47 0 ∧ bad 63 0 ∧ bad 80 0 ∧ bad 255 0 := by decide +kernel

/-- A closable configuration of station 2 with p positions, routes and a rate. -/
def closable (rate : BitVec 2) (role : Role) (count : Nat) (draws : Vector Triple 8) (route : Vector (Option Addr) 4) :
    Configuration :=
  { Configuration.initial 2 role rate with
    items := { Items.initial with positionCount := count, draws := draws, routes := Items.initial.routes.set 3 route } }

theorem witness_ConfigClosesInOrder :
    let all : Vector Triple 8 := Vector.replicate 8 #v[0, 0, 1]
    let none4 : Vector (Option Addr) 4 := #v[none, none, none, none]
    let s (c : Configuration) : State := { fresh with conf := c }
    let good := closable 0 .dry 8 all #v[some 3, some 4, none, none]
    Gives .configClose joined (joined.answered .closed 0) ∧ Gives (.configWrite 80 0) joined (joined.answered .closed 0)
    ∧ (let w : State := { fresh with pins := { fresh.pins with pfw := true } }
       Gives .configClose w (w.answered .busy 0))
    ∧ Gives .configClose (s (closable 3 .dry 8 all none4)) ((s (closable 3 .dry 8 all none4)).answered .refused 0x14f000)
    ∧ (closable 0 .expose 3 all none4).fault = some (5, 0) ∧ (closable 0 .expose 2 all none4).fault = none
    ∧ (closable 0 .wash 2 all none4).fault = some (5, 0) ∧ (closable 0 .finish 3 all none4).fault = some (5, 0)
    ∧ (closable 0 .dry 8 (all.set 7 #v[0, 0, 0]) none4).fault = some (44, 7)
    ∧ (closable 0 .dry 7 (all.set 7 #v[0, 0, 0]) none4).fault = none
    ∧ (closable 0 .dry 8 all #v[some 2, none, none, none]).fault = some (76, 1)
    ∧ (closable 0 .dry 8 all #v[some 3, none, none, some 4]).fault = some (79, 4)
    ∧ (closable 0 .dry 8 all #v[some 3, some 4, some 3, none]).fault = some (78, 3)
    ∧ good.fault = none
    ∧ (let t := after .configClose (s good)
       t.mem.line = .joining ∧ t.lbi.tx = [txOf .upkeep ownJoin] ∧ t.port.prepared = { status := .ok, data := 0x010000 }
       ∧ t.port.events = [stationEvent .restored 0, stationEvent .lineState 257]
       ∧ t.conf.posCount = 8 ∧ t.conf.digest = lineDigest good.items) := by decide +kernel

/-! ### Bits and bytes -/

/-- A record with every optional item present. -/
def fullRecord : Record :=
  { plate .held with
    rush := true, current := 1, accumulated := 5, gapElapsed := some 16777215, gapConceded := true, gapOpen := true
    pauseTotal := 9, heldFrom := some .running, position := some 7, overflow := true
    steps := [{ entry .main 10 with timeLimit := some 30, maxGap := some 9, minGap := some 4 }, entry .post 5]
    deviations := List.replicate 4 { kind := .adopted, stepIndex := 1, value := 16777215 }
    adoptedFrom := some theirTag }

theorem witness_FormsReadBack :
    validSteps fullRecord.steps = true ∧ imageWellFormed (recordImage fullRecord) = true
    ∧ imageCrcOk (recordImage fullRecord) = true ∧ decodeImage (recordImage fullRecord) = some fullRecord
    ∧ decodeImage (recordImage (plate .queued)) = some (plate .queued) := by decide +kernel
theorem witness_FormsReadBack_frames :
    (match lineFrame ((frameBits .found 3 2 (tagBytes theirTag)).drop 1) with
      | .ok i => decide (i = .foundAppears 3 2 (tagBytes theirTag)) | .error _ => false) = true
    ∧ (match lineFrame ((frameBits .snapHead 15 31 (List.replicate 16 0xff)).drop 1) with
      | .ok i => decide (i = .snapHeadAppears 15 31 (List.replicate 16 0xff)) | .error _ => false) = true
    ∧ (match lineFrame (frameBody .leave 3 31 [] ++ bitsOf (crc16Bits (frameBody .leave 3 31 []) ^^^ 1#16)
        ++ List.replicate 9 true) with
      | .error e => decide (e = .crcError) | .ok _ => false) = true
    ∧ frameKindOf (kindCode .presence) = some .presence := by decide +kernel

/-- A LEAVE of station 3 to all, bit by bit from R74 and 10.3: class, sender, kind, destination, length. -/
theorem test_leave_bits : frameBody .leave 3 31 [] = bitsOf (kindPrio .leave) ++ [false, false, true, true]
    ++ bitsOf (kindCode .leave) ++ [true, true, true, true, true] ++ [false, false, false, false, false] := by decide +kernel

/-- The CRC check values of the ASCII digits 1 to 9 for the two generators of R192. -/
theorem test_crc : crc16 [0x31, 0x32, 0x33, 0x34, 0x35, 0x36, 0x37, 0x38, 0x39] = 0x29B1
    ∧ crc8Bits (bitsOfBytes [0x31, 0x32, 0x33, 0x34, 0x35, 0x36, 0x37, 0x38, 0x39]) = 0xF7 := by decide +kernel
/-! ### The tick, the port's pins, and the records that fit together -/

theorem witness_StepRunsFront_tick :
    let s := placed { plate .running with steps := [entry .main 10, entry .post 5] } joined
    let g (n : Nat) : Record := { plate .ended with gapOpen := true, gapElapsed := some 3, gapFrac := n }
    let h (n : Nat) := hold 5 (g n) joined
    s.isActive = true
    ∧ s.advance.pos 0 = { s.pos 0 with runClock := 1, silenceClock := 1 } ∧ s.advance.pos 7 = s.pos 7
    ∧ (placed (plate .paused) joined).advance.pos 0 = { (placed (plate .paused) joined).pos 0 with pauseClock := 1 }
    ∧ (h 999).advance.rec? 5 = some (g 1000) ∧ (h 999).fireRec 5 = h 999
    ∧ (hold 5 { plate .uncertain with locateTimer := some 1 } joined).advance.rec? 5 =
      some { plate .uncertain with locateTimer := some 2 }
    ∧ Gives (.gapTimer 5) (h 1000) ((h 1000).fireRec 5)
    ∧ (joined.advance.peer 3).timer = some 6 ∧ (joined.advance.peer 2).timer = none
    ∧ joined.fireDeparture 3 = joined
    ∧ (let d := joined.updPeer 3 fun q => { q with timer := some 1000 }
       Gives (.departureTimer 3) d (d.fireDeparture 3))
    ∧ (let v (n : Option Nat) : State := { inLine .saving with lbi := { Lbi.initial with stall := n } }
       Steps (v (some 998)) (v (some 999)) ∧ Steps (v none) (v none)) := by decide +kernel

theorem witness_PortFramesJudged_pins :
    let s (b : Bool) : State := { joined with port := { joined.port with shift := { selected := b, bits := [true] } } }
    State.sckRises false true (s true) = { joined with port := { joined.port with
      shift := { selected := true, bits := [true, true] } } }
    ∧ State.sckRises false true (s false) = s false ∧ State.sckRises true true (s true) = s true
    ∧ (s true).csnFalls = { joined with port := { joined.port with shift := { selected := true, bits := [] } } }
    ∧ (s true).csnRises = .portFrameShort 1 ∧ Gives (.portFrameShort 1) (s true) joined
    ∧ State.sdoPin false 0 (s true) = some false ∧ State.sdoPin false 40 (s true) = some true
    ∧ State.sdoPin false 0 (s false) = none ∧ State.sdoPin true 0 (s true) = none := by decide +kernel

/-- Station 2 with record r on position 0, a rush record queued in slot 5, an UNCERTAIN one in slot 6, and position 7 and
slot 9 booked by station 3. -/
def fittingWith (r : Record) : State :=
  let queued := (hold 5 { plate .queued with rush := true } (placed r (booked .standing))).enqueue 5 true
  (hold 6 { plate .uncertain with sentToward := some 3 } queued).updPos 0 fun x =>
    { x with stepEn := decide (r.state = .running) }

/-- Records whose booking is with station 3 or 4, in each state that its departure changes. -/
def departing : List Record :=
  let timed (st : RecState) : Record :=
    { plate st with steps := [{ entry .dry 10 with maxGap := some 9 }, entry .post 5], booking := .held 3 1 }
  [{ plate .running with booking := .held 3 1 }, { plate .ended with booking := .asking 1 3 },
   { plate .ended with booking := .asking 2 4 }, timed .loaded, timed .waiting, timed .ended,
   { timed .ended with gapOpen := true, gapElapsed := some 9 }, { timed .outbound with handOffTimer := some 1 }]

theorem witness_SoundKept (r : Record) (m : r ∈ departing) : Sound (fittingWith r) := by
  refine ⟨⟨?_, ?_⟩, ⟨?_, ?_, ?_, ?_, ?_⟩, ⟨?_, ?_, ?_, ?_⟩, ⟨?_, ?_, ?_⟩, ⟨fun p => ?_, ?_⟩, ?_, ?_⟩
  · revert r; decide +kernel
  · revert r; decide +kernel
  · revert r; decide +kernel
  · revert r; decide +kernel
  · revert r; decide +kernel
  · revert r; decide +kernel
  · revert r; decide +kernel
  · revert r; decide +kernel
  · revert r; decide +kernel
  · change ∀ h, h ∈ (fittingWith r).store.rushQueue ↔ ∃ q, q ∈ (fittingWith r).rec? h ∧ q.state = .queued ∧ q.rush = true
    revert r; decide +kernel
  · change ∀ h, h ∈ (fittingWith r).store.ordinaryQueue ↔ ∃ q, q ∈ (fittingWith r).rec? h ∧ q.state = .queued ∧ q.rush = false
    revert r; decide +kernel
  · revert r; decide +kernel
  · change ∀ p h, ((fittingWith r).pos p).link = some h ↔ ∃ q, q ∈ (fittingWith r).rec? h ∧ q.position = some p
    revert r; decide +kernel
  · change ∀ h q, q ∈ (fittingWith r).rec? h → _
    revert r; decide +kernel
  · rw [← posIn_iff]
    revert r p; decide +kernel
  · intro h q e f
    have k : ∀ r ∈ departing, ∀ h, ∀ q, q ∈ (fittingWith r).rec? h → q.state = .running →
        ((fittingWith r).pos 0).state = .occupied ∧ ((fittingWith r).pos 0).link = some h := by decide +kernel
    exact ⟨0, (k r m h q e f).1, (k r m h q e f).2, e⟩
  · change ∀ h q, q ∈ (fittingWith r).rec? h → _
    revert r; decide +kernel
  · intro e
    have k : ∀ r ∈ departing, (fittingWith r).mem.line ≠ .config := by decide +kernel
    exact absurd e (k r m)
theorem witness_SoundKept_step : ∀ r ∈ departing,
    Steps { fittingWith r with pending := [.ilkOpen 0] } (after (.ilkOpen 0) (fittingWith r)) := by decide +kernel

/-! ### What the reports hold -/

theorem witness_ReportLayouts :
    let r : Record := { plate .running with accumulated := 3, pauseTotal := 2 }
    let s := (placed r (booked .standing)).updPos 0 fun x => { x with runClock := 3999, stepEn := true }
    (recordEvent .place (some 7) 31 theirTag 258).bytes = [1, 7, 31, 3, 0, 1, 0, 9, 0, 0, 1, 2, 0]
    ∧ (stationEvent .slotsLow 4).bytes = [14, 255, 255, 0, 0, 0, 0, 0, 0, 0, 0, 4, 0]
    ∧ s.positionBytes 0 = [5, 1, 1, 0, 0, 0, 10, 0, 0, 3, 0, 3, 0, 2]
    ∧ s.positionBytes 6 = [0, 0, 0, 0, 0, 0, 0, 0, 0, 0, 0, 0, 0, 0]
    ∧ (let e (n : Nat) (st : ClaimStatus) : ClaimEntry :=
         { station := 3, position := 1, draws := #v[0, 0, n], status := st, order := 8 }
       let t (l : List ClaimEntry) : BudgetTable := { capacities := #v[0, 0, 9], entries := l, seqNo := 258 }
       (t [e 2 .granted, e 3 .waiting]).report 2 = [1, 1, 2, 0, 0, 1, 2, 3, 1, 3, 0, 0, 0, 8]
       ∧ ((t []).report 2).take 9 = [0, 0, 0, 0, 0, 1, 2, 255, 255])
    ∧ (s.peer 3).report10 = [0, 0, 0, 0, 0, 0, 0, 0, 0, 5] ∧ (s.peer 2).report10 = [0, 0, 0, 0, 0, 0, 255, 255, 255, 255]
    ∧ (s.peer 3).data = 0x230001
    ∧ (s.stationPart 5).map (·.length) = some 14 ∧ (s.stationPart 4).map (·.length) = some 128 := by decide +kernel

/-! ### Records: entries, ends of holds, bookings given up -/

theorem witness_NewTag :
    let s := hold 9 { plate .loaded with tag := { origin := 2, epoch := 1, seq := 65535 } }
      (hold 8 { plate .loaded with tag := { origin := 2, epoch := 1, seq := 1 } } joined)
    let t : State := { s with store := { s.store with seqCounter := 65535 } }
    t.newSeq = 2 ∧ joined.newSeq = 1 ∧ t.resident { origin := 2, epoch := 1, seq := 2 } = none
    ∧ t.resident { origin := 2, epoch := 1, seq := 65535 } ≠ none := by decide +kernel
theorem witness_ArrivedLoadsRecord_entry :
    let gap (g : BitVec 24) (c : Bool) : Record :=
      { plate .inbound with current := 1, gapOpen := true, gapElapsed := some g, gapConceded := c,
                            steps := [{ entry .wash 10 with maxGap := some 9, minGap := some 4 }, entry .dry 5] }
    let ahead (b : BookerState) : Record :=
      { plate .inbound with booking := b, steps := [{ entry .dry 10 with maxGap := some 9 }, entry .post 5] }
    let s (r : Record) := placed r joined
    let loaded (r : Record) := (s r).setRec 0 { standing r with state := .loaded }
    (s (gap 9 false)).enterLoaded 0 = (loaded (gap 9 false)).enterHeld 0 .gapExceeded 9 false
    ∧ (s (gap 9 true)).enterLoaded 0 = ((s (gap 9 true)).setRec 0 { standing (gap 9 true) with state := .waiting }).askClaim 0
    ∧ (s (gap 8 false)).enterLoaded 0 = ((s (gap 8 false)).setRec 0 { standing (gap 8 false) with state := .waiting }).askClaim 0
    ∧ (s (gap 3 false)).enterLoaded 0 = loaded (gap 3 false)
    ∧ (s (ahead .none)).enterLoaded 0 = (loaded (ahead .none)).roundFrom 0 1
    ∧ ((loaded (ahead .none)).roundFrom 0 1).lbi.tx = [txOf (.slot 0) (bookFrame 3 (plate .loaded).tag .post 79 false)]
    ∧ (s (ahead (.asking 1 3))).enterLoaded 0 = loaded (ahead (.asking 1 3))
    ∧ (s (ahead (.held 3 1))).enterLoaded 0 =
      ((s (ahead (.held 3 1))).setRec 0 { standing (ahead (.held 3 1)) with state := .waiting }).askClaim 0 := by decide +kernel

/-- The record of `placed` with a BOOK of its round on the transmit list, and its position's claim state. -/
def asking (st : RecState) (c : ClaimState) (out : InTx) : State :=
  let s := placed { plate st with booking := .asking 1 3 } joined
  (listed [txOf (.slot 0) (bookFrame 3 (plate st).tag .post 70 false)] out s).updPos 0 fun x => { x with claim := c }

theorem witness_EntryIntoHeld_bookings :
    let enter (s : State) := s.enterHeld 0 .operatorHold 0 false
    let owned (st : RecState) := placed { plate st with booking := .held 3 1 } joined
    (enter (owned .waiting)).lbi.tx = [txOf (.slot 0) (tagged .cancel 3 (plate .waiting).tag [])]
    ∧ (enter (asking .loaded .none .idle)).lbi.tx = []
    ∧ (enter (asking .loaded .none (.listed (.slot 0)))).lbi.tx.map (·.held) = [.withdraw]
    ∧ ((enter (asking .waiting .claimQueued .idle)).pos 0).claim = .none
    ∧ ((enter (asking .waiting .claimQueued (.listed (.position 0)))).pos 0).withdrawing = true
    ∧ ((enter (asking .waiting .releaseQueued .idle)).pos 0).claim = .releaseQueued
    ∧ (enter ((hold 0 { plate .queued with rush := true } joined).enqueue 0 true)).store.rushQueue = []
    ∧ ((enter (expected (plate .placed))).pos 0).state = .empty
    ∧ ((enter (expected (plate .placed))).rec? 0).map (·.position) = some none := by decide +kernel
theorem witness_ScrapDeletes_bookings :
    let scrap (s : State) := (after (.scrap 0) s)
    (scrap (placed { plate .waiting with booking := .held 3 1 } joined)).lbi.tx =
      [txOf (.slot 0) (tagged .cancel 3 (plate .waiting).tag [])]
    ∧ (scrap (asking .loaded .granted .idle)).lbi.tx.map (·.frame) = [{ kind := .release, dest := 31, payload := [0] }]
    ∧ ((scrap (asking .loaded .granted .idle)).pos 0).claim = .releaseQueued
    ∧ (let u := hold 0 { plate .uncertain with locateTimer := some 3 } joined
       (scrap (listed [txOf (.slot 0) { kind := .locate, dest := 31, payload := tagBytes (plate .uncertain).tag }] .idle u)).lbi.tx = [])
    ∧ (scrap ((hold 0 (plate .queued) joined).enqueue 0 false)).arrivalQueue = [] := by decide +kernel
theorem witness_AdoptRetags_locate :
    let u (n : Nat) := hold 5 { plate .uncertain with
      locateTimer := some 3, deviations := List.replicate n { kind := .lineLost, stepIndex := 0, value := 0 } } joined
    let s (n : Nat) := listed [txOf (.slot 5) { kind := .locate, dest := 31, payload := tagBytes (plate .uncertain).tag }] .idle (u n)
    (after (.adopt 5) (s 0)).lbi.tx = []
    ∧ (after (.adopt 5) (s 0)).port.events = [recordEvent .held none 5 { origin := 2, epoch := 1, seq := 1 } 11]
    ∧ ((after (.adopt 5) (s 4)).rec? 5).map (fun r => (r.deviations.length, r.overflow)) = some (4, true)
    ∧ (after (.adopt 5) (s 4)).port.events = [recordEvent .held none 5 { origin := 2, epoch := 1, seq := 1 } 267] := by
  decide +kernel
theorem witness_BookingBegins_rounds :
    let ended (b : BookerState) (x : Bool) : Record := { plate .ended with booking := b, exhausted := x }
    let s (r : Record) := placed r joined
    let local2 : Record := { plate .ended with steps := [entry .dry 10, entry .dry 5] }
    (s (ended .none false)).startRound 0 = (s (ended .none false)).roundFrom 0 1
    ∧ (s (ended (.asking 1 3) false)).startRound 0 = s (ended (.asking 1 3) false)
    ∧ (s local2).startRound 0 = s local2
    ∧ ((s (ended .none false)).roundFrom 0 2).lbi.tx = [txOf (.slot 0) (bookFrame 4 (plate .ended).tag .post 60 false)]
    ∧ (s (ended .none false)).roundFrom 0 3 = (s (ended .none false)).setRec 0 { standing (ended .none true) with answerTimer := none }
    ∧ (s (ended .none true)).restartRound 4 0 = (s (ended .none true)).roundFrom 0 1
    ∧ (s (ended .none true)).restartRound 5 0 = s (ended .none true)
    ∧ (s (ended .none false)).restartRound 4 0 = s (ended .none false)
    ∧ (s { plate .running with booking := .held 3 1 }).enterEnded 0 =
      ((s { plate .running with booking := .held 3 1 }).setRec 0 (standing { plate .ended with booking := .held 3 1 })).startTransfer 0
    ∧ (s (plate .running)).enterEnded 0 = ((s (plate .running)).setRec 0 (standing (plate .ended))).roundFrom 0 1
    ∧ (s local2).enterEnded 0 = s local2
    ∧ (let late : Record := { plate .running with gapOpen := true, gapElapsed := some 9,
                                                  steps := [{ entry .dry 10 with maxGap := some 9 }, entry .post 5] }
       (s late).enterEnded 0 = ((s late).setRec 0 { standing late with state := .ended }).enterHeld 0 .gapExceeded 9 false) := by
  decide +kernel

/-! ### The pair, once more -/

theorem witness_TransmissionOrder_withdrawn :
    let held (o : Origin) (f : Frame) : TxEntry := { txOf o f with held := .withdraw, voids := 2 }
    let out (e : TxEntry) (s : State) := listed [e] (.listed e.origin) s
    let claim (m : Bool) := (out (held (.position 7) (claimFrame 7 #v[0, 0, 1])) joined).updPos 7 fun x =>
      { x with claim := .claimQueued, withdrawing := true, remembered := m }
    let taken := held (.answer 7) (tagged .taken 3 theirTag [])
    after .arbitrationLost (claim false) = joined.setTx []
    ∧ (after .arbitrationLost (claim true)).lbi.tx = [txOf (.position 7) { kind := .claim, dest := 31, payload := [7, 0, 0, 1] }]
    ∧ ((after .arbitrationLost (claim true)).pos 7).claim = .claimQueued
    ∧ Gives (.frameVoid 2 false) (claim true) (after .arbitrationLost (claim true))
    ∧ (let b := (out (held (.slot 5) (someFrame .book)) (hold 5 (plate .ended) joined)).setWaits 5 [.cancel theirTag 3]
       (after .arbitrationLost b).lbi.tx = [txOf (.slot 5) (tagged .cancel 3 theirTag [])])
    ∧ (let u : State := out (held .upkeep ownJoin) { joined with mem := { joined.mem with upkeepNext := some leaveFrame } }
       (after .arbitrationLost u).lbi.tx = [txOf .upkeep leaveFrame])
    ∧ (after .arbitrationLost (out taken (booked (.closing [] false)))).bookings = []
    ∧ ((after .arbitrationLost (out taken (booked (.closing [] false)))).slot 9).state = .free
    ∧ (after .arbitrationLost (out (held (.answer 7) (tagged .booked 3 theirTag [7])) (booked .offered))).bookings =
      (booked .offered).bookings := by decide +kernel
theorem witness_StallsAndListenOnlyErrors_list :
    let l := [txOf .presence (someFrame .presence), txOf (.position 1) (someFrame .claim), txOf (.answer 0) (someFrame .found)]
    let s (line : LineState) (out : InTx) : State :=
      { inLine line with lbi := { Lbi.initial with tx := l, stall := some 999, inTx := out } }
    (after .stallTimer (s .saving .idle)).lbi.tx = [txOf .presence (someFrame .presence), txOf (.answer 0) (someFrame .found)]
    ∧ (after .stallTimer (s .saving .idle)).lbi.stall = some 0
    ∧ (after .stallTimer (s .mismatch (.listed (.position 1)))).lbi.inTx = .orphan (someFrame .claim)
    ∧ (after .stallTimer (s .out (.listed .presence))).lbi.inTx = .listed .presence := by decide +kernel
theorem witness_AppearancesShared_own :
    let e (l : LineState) : State := sends (txOf .upkeep ownJoin) { inLine l with lbi := { Lbi.initial with rxErrors := 5 } }
    let n (l : LineState) : State := { e l with lbi := { (e l).lbi with rxErrors := 5 } }
    (after (.joinAppears 2 31 [2]) (n .saving)).lbi.rxErrors = 0
    ∧ (after (.joinAppears 2 31 [2]) (n .joining)).lbi.rxErrors = 0
    ∧ (after (.leaveAppears 2 31 []) (n .saving)).lbi.rxErrors = 4 := by decide +kernel

/-! ### Claims and bookings, once more -/

/-- Position 7's frame in transmission, its claim state and marks. -/
def claiming (f : Frame) (c : ClaimState) (w m : Bool) (l : List ClaimEntry) : State :=
  (sends (txOf (.position 7) f) (table l)).updPos 7 fun x => { x with claim := c, withdrawing := w, remembered := m }

theorem witness_ClaimStatesFollow :
    let claim (n : Nat) : Frame := { kind := .claim, dest := 31, payload := [7, 0, 0, byte n] }
    let release : Frame := { kind := .release, dest := 31, payload := [7] }
    let own (n : Nat) (st : ClaimStatus) : ClaimEntry :=
      { station := 2, position := 7, draws := #v[0, 0, n], status := st, order := 1 }
    let appear (n : Nat) : Instr := .claimAppears 2 31 [7, 0, 0, byte n]
    let state (c : Instr) (s : State) := ((after c s).pos 7).claim
    state (appear 1) (claiming (claim 1) .claimQueued false false []) = .granted
    ∧ state (appear 2) (claiming (claim 2) .claimQueued false false [claimOf 3 2 .granted 1]) = .waiting
    ∧ state (appear 1) (claiming (claim 1) .claimQueued false false [own 1 .waiting]) = .waiting
    ∧ state (appear 1) (claiming (claim 1) .claimQueued true false []) = .releaseQueued
    ∧ (after (appear 1) (claiming (claim 1) .claimQueued true false [])).lbi.tx = [txOf (.position 7) release]
    ∧ state (appear 4) (claiming (claim 4) .claimQueued false false []) = .none
    ∧ state (.releaseAppears 2 31 [7]) (claiming release .releaseQueued false false [own 1 .granted]) = .none
    ∧ state (.releaseAppears 2 31 [7]) (claiming release .releaseQueued false true [own 1 .granted]) = .claimQueued
    ∧ (let w := (placed { plate .waiting with position := some 7 } (table [own 3 .waiting])).updPos 7 fun x =>
         { x with state := .occupied, link := some 0, claim := .waiting }
       let r := w.setRec 0 { plate .waiting with position := some 7 }
       ((after (.capacityAppears 3 31 [2, 0, 2]) r).rec? 0).map (fun r => (r.state, r.deviations)) =
         some (.held, [{ kind := .claimOversize, stepIndex := 0, value := 2 }])
       ∧ state (.capacityAppears 3 31 [2, 0, 2]) r = .none
       ∧ ((r.tellEntry (own 3 .granted)).rec? 0).map (·.state) = some .paused
       ∧ r.tellEntry (claimOf 3 1 .granted 1) = r) := by decide +kernel

/-- A second entry of station 3's, for position 6 and slot 8. -/
def otherEntry : Booking :=
  { tag := { origin := 4, epoch := 1, seq := 2 }, booker := 3, position := 6, slot := 8, kind := .dry, hold := 9, timer := 1,
    status := .standing }

/-- `booked` with that entry before it. -/
def bookedTwo (st : BookingStatus) : State := { booked st with bookings := otherEntry :: (booked st).bookings }

theorem witness_Books :
    (bookedTwo .standing).Books [otherEntry] { offered with position := 7, slot := 9, timer := 1, status := .standing } []
    ∧ (after (.bookingLapse 7) (bookedTwo .standing)).bookings = [otherEntry]
    ∧ (after (.cancelAppears 3 2 (tagBytes theirTag)) (bookedTwo .standing)).bookings = [otherEntry]
    ∧ ((after (.carryAppears 3 2 (part 0 4)) (bookedTwo .standing)).bookings.map (·.status)) =
      [.standing, .assembling { assembly 4 1 (theirImage.take 14) with gap := 0 }] := by
  refine ⟨⟨rfl, ?_⟩, ?_⟩ <;> decide +kernel
theorem witness_CarryAssembled_counts :
    let carry (bs : List Byte) : Instr := .carryAppears 3 2 bs
    let status (c : Instr) (s : State) := (after c s).bookings.map (·.status)
    let closed : List BookingStatus := [.closing [] false]
    let first (n : Byte) (k : Nat) : List Byte := [112, n] ++ theirImage.take k
    status (carry (first 0 14)) (booked .standing) = closed ∧ status (carry (first 9 14)) (booked .standing) = closed
    ∧ status (carry (first 8 13)) (booked .standing) = closed ∧ status (carry (first 8 15)) (booked .standing) = closed
    ∧ status (carry (first 1 15)) (booked .standing) = closed
    ∧ status (carry (first 8 14)) (booked .standing) = [.assembling { assembly 8 1 (theirImage.take 14) with gap := 0 }]
    ∧ Gives (carry (first 0 14)) (answersFull (booked .standing)) ((answersFull (booked .standing)).heard 3)
    ∧ (let open2 := booked (.assembling (assembly 4 2 (theirImage.take 28)))
       status (carry [114, 4, 9]) open2 = closed ∧ status (carry [114, 4]) open2 = closed
       ∧ status (carry [114, 4, 9]) (answersFull open2) = [.standing]) := by decide +kernel
theorem witness_OwnFramesAppear_rounds :
    let own (e : TxEntry) (s : State) := after (appears e) (sends e s)
    let t := (plate .ended).tag
    let e (m : Byte) := txOf (.slot 0) { kind := .book, dest := 3, payload := tagBytes t ++ [5, 0, 60, m] }
    let r (b : BookerState) : Record := { plate .ended with booking := b }
    (own (e 0) ((placed (r (.asking 1 3)) joined).setWaits 0 [.book])).rec? 0 = some (standing (r (.asking 1 3)))
    ∧ ((own (e 0) ((placed (r (.asking 1 3)) joined).setWaits 0 [.book])).lbi.tx.map (·.origin)) = [.slot 0]
    ∧ (own (e 0) (placed (r .none) joined)).rec? 0 = some (standing (r .none))
    ∧ (own (e 1) (placed (r (.asking 1 3)) joined)).rec? 0 = some (standing (r (.asking 1 3)))
    ∧ (own (txOf (.answer 7) (tagged .reject 3 theirTag [27])) (bookedTwo (.closing [] false))).bookings = [otherEntry] := by
  decide +kernel

/-! ### The restore -/

/-- A record as it stands in an image of station 2. -/
def saved (st : RecState) (seq : BitVec 16) (p : Option PosIx) : Record :=
  { plate st with tag := { origin := 2, epoch := 1, seq := seq }, position := p }

/-- Station 2 in CONFIG, closable, with an image of stored positions, one record and its place in the arrival list. -/
def keeping (own : Byte) (seq : BitVec 16) (h : Handle) (r : Record) (arrivals : List Byte) : State :=
  let ps : List Byte := [3, 3, 3, 255, 2, 2, 4, 255, 1, 255, 0, 255, 3, 9, 2, 255]
  let body := [own, 2, 8] ++ bytes16 seq ++ [1, byte arrivals.length] ++ ps ++ arrivals
    ++ byte h.val :: byte (recordImage r).length :: recordImage r
  { fresh with
    conf := closable 0 .dry 8 (Vector.replicate 8 #v[0, 0, 1]) #v[some 3, some 4, none, none]
    ret := { written := true, valid := true, writing := false, image := body ++ bytes16 (crc16 body) } }

theorem witness_RestoreAtClose :
    let s := keeping 2 0 3 (saved .paused 1 (some 0)) []
    let t := after .configClose s
    s.conf.fault = none ∧ s.mem.line = .config
    ∧ imageWellFormed (recordImage (saved .paused 1 (some 0))) = true
    ∧ decodeImage (recordImage (saved .paused 1 (some 0))) = some (saved .paused 1 (some 0))
    ∧ t.port.prepared = { status := .ok, data := 0x000001 } ∧ t.ret.valid = false
    ∧ t.store.seqCounter = 1 ∧ t.mem.line = .joining
    ∧ t.rec? 3 = some { saved .held 1 (some 0) with
        heldFrom := some .paused, deviations := [{ kind := .powerInterrupt, stepIndex := 0, value := 0 }] }
    ∧ (positions.map fun p => (t.pos p).state) =
      [.occupied, .clearing, .empty, .clearing, .empty, .empty, .clearing, .empty]
    ∧ (t.pos 0).link = some 3 ∧ t.store.freeList = handles.filter (· ≠ 3)
    ∧ (t.port.events.map (·.kind)) = [.held, .restored, .lineState] := by decide +kernel
theorem witness_RestoreAtClose_arrivals :
    let t := after .configClose (keeping 2 9 2 (saved .placed 3 (some 2)) [2])
    t.rec? 2 = some (saved .placed 3 (some 2)) ∧ t.store.seqCounter = 9
    ∧ (t.port.events.map (·.kind)) = [.restored, .place, .lineState] := by decide +kernel
theorem witness_RestoreAtClose_link :
    (after .configClose (keeping 2 9 9 (saved .finished 4 (some 1)) [])).rec? 9 = some (saved .finished 4 none) := by
  decide +kernel
theorem witness_RestoreAtClose_judged :
    let other := after .configClose (keeping 3 9 9 (saved .finished 4 (some 1)) [])
    let lost := after .configClose
      { keeping 2 9 9 (saved .finished 4 (some 1)) [] with ret := { written := true, valid := false, writing := false, image := [] } }
    other.port.alarms.retentionMismatch = true ∧ other.port.prepared = { status := .ok, data := 0x030000 }
    ∧ lost.port.alarms.retentionLost = true ∧ lost.port.prepared = { status := .ok, data := 0x020000 } := by decide +kernel

/-! ### What a departure, the warning and a held request leave -/

/-- What command c makes of each of those records: its state, its booking, and whether its round is exhausted. -/
def fates (c : Instr) : List (Option (RecState × BookerState × Bool)) :=
  departing.map fun r => ((after c (fittingWith r)).rec? 0).map fun q => (q.state, q.booking, q.exhausted)

/-- What the departure of station 3 makes of them. -/
def fatesAtThree : List (Option (RecState × BookerState × Bool)) :=
  [some (.running, .none, false), some (.ended, .asking 2 4, false), some (.ended, .asking 2 4, false),
   some (.loaded, .asking 2 4, false), some (.loaded, .asking 2 4, false), some (.ended, .asking 2 4, false),
   some (.held, .none, false), some (.ended, .asking 2 4, false)]

theorem witness_DeparturesAppear_records :
    fates (.departAppears 4 31 [3]) = fatesAtThree ∧ fates (.departAppears 2 31 [3]) = fatesAtThree
    ∧ fates (.leaveAppears 3 31 []) = fatesAtThree
    ∧ (fates (.departAppears 3 31 [4])).take 3 =
      [some (.running, .held 3 1, false), some (.ended, .asking 1 3, false), some (.ended, .none, true)] := by decide +kernel
theorem witness_JoinsAppear_records : fates (.joinAppears 3 31 [3]) = fatesAtThree := by decide +kernel
theorem witness_DeparturesAppear_peer :
    let t := after (.departAppears 4 31 [3]) (fittingWith { plate .ended with booking := .asking 1 3 })
    let answer := txOf (.answer 0) (tagged .found 3 theirTag [])
    t.rec? 6 = some { plate .uncertain with sentToward := some 3 } ∧ (t.slot 9).state = .free ∧ (t.pos 7).state = .empty
    ∧ t.lbi.tx = [txOf (.slot 0) (bookFrame 4 (plate .ended).tag .post 60 false)]
    ∧ (after (.departAppears 4 31 [3]) (listed [answer] .idle joined)).lbi.tx = []
    ∧ (after (.departAppears 4 31 [3]) (listed [answer] (.listed (.answer 0)) joined)).lbi.tx =
      [{ answer with held := .withdraw }] := by decide +kernel
theorem witness_WarningSaves_blocks :
    let s := listed [txOf .presence (someFrame .presence)] (.listed .presence) (booked .standing)
    let t := after .powerFailWarning s
    let out := after .powerFailWarning (inLine .out)
    t.lbi.stall = some 0 ∧ t.lbi.inTx = .orphan (someFrame .presence) ∧ out.lbi.stall = none ∧ out.lbi.inTx = .idle
    ∧ t.mem = { Membership.initial with line := .saving, lastEpoch := 1 } ∧ t.bud = s.bud
    ∧ t.bookings = [] ∧ (t.pos 7).state = .empty ∧ (t.slot 9).state = .free ∧ t.pos 6 = s.pos 6 := by decide +kernel
theorem witness_StallsAndListenOnlyErrors_own :
    let s (l : LineState) (e : TxEntry) : State :=
      sends e { inLine l with lbi := { Lbi.initial with listenOnly := decide (l = .out) } }
    let e : TxEntry := { origin := .upkeep, frame := leaveFrame, voids := 3, held := .none }
    let taken := { booked (.closing [] false) with lbi := { Lbi.initial with inTx := .orphan (tagged .taken 3 theirTag []) } }
    let frozen : State := { taken with mem := { taken.mem with line := .saving } }
    (after (.frameErrorListenOnly 2) (s .saving e)).lbi = { (s .saving e).lbi with inTx := .idle }
    ∧ (after (.frameErrorListenOnly 2) (s .out e)).lbi = { (s .out e).lbi with inTx := .idle }
    ∧ Gives (.frameErrorListenOnly 2) (s .mismatch e) (s .mismatch e)
    ∧ (after (.frameErrorListenOnly 2) frozen).bookings = [] ∧ (after (.frameErrorListenOnly 2) frozen).lbi.inTx = .idle := by
  decide +kernel
theorem witness_CancelAndLocate_uncertain :
    let r (b : Option Addr) : Record := { plate .uncertain with locateTimer := some 3, sentToward := b }
    let cancel : Instr := .cancelAppears 3 2 (tagBytes (plate .uncertain).tag)
    let back : Record := { plate .ended with booking := .asking 1 3 }
    let book := bookFrame 3 (plate .ended).tag .post 60 false
    let locate := txOf (.slot 5) { kind := .locate, dest := 31, payload := tagBytes (plate .uncertain).tag }
    let other := txOf (.slot 5) (tagged .cancel 4 theirTag [])
    let s (o : InTx) (l : List TxEntry) (ws : List SlotWait) : State := (listed l o (hold 5 (r (some 3)) joined)).setWaits 5 ws
    Gives cancel (hold 5 (r (some 4)) joined) ((hold 5 (r (some 4)) joined).heard 3)
    ∧ Gives cancel (hold 5 (r none) joined) ((hold 5 (r none) joined).heard 3)
    ∧ ((after cancel (s .idle [] [])).rec? 5) = some back ∧ (after cancel (s .idle [] [])).lbi.tx = [txOf (.slot 5) book]
    ∧ (after cancel (s .idle [locate] [])).lbi.tx = [txOf (.slot 5) book]
    ∧ (after cancel (s (.listed (.slot 5)) [locate] [])).lbi.tx = [{ locate with held := .withdraw }]
    ∧ ((after cancel (s (.listed (.slot 5)) [locate] [])).slot 5).waits = [.book]
    ∧ (after cancel (s .idle [other] [.locate])).lbi.tx = [other]
    ∧ ((after cancel (s .idle [other] [.locate])).slot 5).waits = [.book] := by decide +kernel
theorem witness_OwnFramesAppear_held :
    let own (e : TxEntry) (s : State) := after (appears e) (sends e s)
    let t := (plate .ended).tag
    let hear (e : TxEntry) (h : HeldRequest) : TxEntry := { e with voids := 3, held := h }
    let fresher : Frame := { someFrame .presence with payload := [1] }
    let capacity (n : Byte) : Frame := { kind := .capacity, dest := 31, payload := [2, 0, n] }
    let renewal (n : Byte) : Frame := { kind := .book, dest := 3, payload := tagBytes t ++ [5, 0, n, 1] }
    (own (hear (txOf .presence (someFrame .presence)) (.replace fresher)) joined).lbi.tx = [txOf .presence fresher]
    ∧ (own (hear (txOf (.slot 0) (renewal 60)) (.replace (renewal 9))) joined).lbi.tx = [txOf (.slot 0) (renewal 9)]
    ∧ (own (hear (txOf (.capacity 2) (capacity 4)) (.replace (capacity 9))) joined).lbi.tx = [txOf (.capacity 2) (capacity 9)]
    ∧ (own (hear (txOf (.capacity 2) (capacity 4)) (.replace (capacity 9))) joined).bud.capacities = #v[0, 0, 4]
    ∧ (own (hear (txOf (.answer 7) (tagged .booked 3 theirTag [7])) .withdraw) (booked .offered)).bookings =
      (booked .offered).bookings
    ∧ (own (hear (txOf (.slot 5) { kind := .locate, dest := 31, payload := tagBytes t }) .withdraw)
        (hold 5 (plate .uncertain) joined)).rec? 5 = some (plate .uncertain)
    ∧ (own (hear (txOf (.slot 0) { kind := .book, dest := 3, payload := tagBytes t ++ [5, 0, 60, 0] }) .withdraw)
        (placed { plate .ended with booking := .asking 1 3 } joined)).rec? 0 =
      some (standing { plate .ended with booking := .asking 1 3 })
    ∧ (own (hear (txOf (.answer 7) (tagged .taken 3 theirTag [])) .withdraw) (booked (.closing theirImage false))).bookings = [] :=
  by decide +kernel
theorem test_restore_corners :
    storedPosition (List.replicate 7 0 ++ [9, 32]) 0 = (.empty, none) ∧ storedPosition (List.replicate 7 0 ++ [3, 31]) 0 = (.occupied, some 31)
    ∧ storedArrivals (List.replicate 6 0 ++ [2, 32, 31]) 0 = [31] ∧ storedRecords 2 [5, 1, 7] = [(5, [7])] := by decide +kernel

/-! ### The clauses of the last widening -/

theorem witness_StepRunsFront_bookings :
    ((bookedTwo (.assembling (assembly 2 1 []))).advance.bookings.map fun b => (b.position, b.timer, b.status)) =
      [(6, 2, .standing), (7, 2, .assembling { assembly 2 1 [] with gap := (assembly 2 1 []).gap + 1 })]
    ∧ (booked .offered).advance.bookings = (booked .offered).bookings
    ∧ (booked (.closing [1] false)).advance.bookings = (booked (.closing [1] false)).bookings := by decide +kernel
theorem witness_EventsPosted_attn :
    let s (l : List Event) (a : Alarms) : State := { inLine .dormant with port := { Port.initial with events := l, alarms := a } }
    State.attnPin false (s [] Alarms.clear) = true
    ∧ State.attnPin false (s [stationEvent .restored 0] Alarms.clear) = false
    ∧ State.attnPin false (s [] { Alarms.clear with portFault := true }) = false
    ∧ State.attnPin false (s [] { Alarms.clear with configMismatch := true }) = false := by decide +kernel

/-- Station 2 in SAVING: a QUEUED plate in slot 3, a PLACED one in slot 1, and the bookings of `bookedTwo` at positions 6 and
7 with slots 8 and 9, the second of them as `st`. -/
def writing (st : BookingStatus) : State :=
  let b := bookedTwo st
  let s : State := hold 3 (plate .queued) (hold 1 { plate .placed with position := some 0 } { b with
    mem := { b.mem with line := .saving }, store := { b.store with ordinaryQueue := [3] } })
  let s := s.updPos 0 fun x => { x with state := .assigned, link := some 1 }
  (s.updPos 6 fun x => { x with state := .booked }).updPos 7 fun x => { x with state := .booked }

/-- The record that `theirImage` gives on position 7. -/
def received : Record :=
  { plate .inbound with tag := theirTag, steps := [entry .wash 10, entry .dry 10], current := 1, gapOpen := true,
                        gapElapsed := some 0, position := some 7 }

theorem witness_RetentionWrittenAndJudged_taken :
    (writing (.closing theirImage true)).savedRecord 9 = some received
    ∧ (writing (.closing theirImage true)).savedPosition 7 = [2, 9]
    ∧ (writing (.closing theirImage true)).savedPosition 6 = [0, 255]
    ∧ (writing (.closing theirImage true)).savedRecord 8 = none
    ∧ (writing (.closing theirImage false)).savedRecord 9 = none
    ∧ (writing (.closing theirImage false)).savedPosition 7 = [0, 255] ∧ (writing .standing).savedRecord 0 = none := by
  decide +kernel
theorem witness_RetentionWrittenAndJudged_body :
    let s := writing (.closing theirImage true)
    let image (r : Record) := byte (recordImage r).length :: recordImage r
    let body := [2, 2, 8, 0, 1, 3, 2, 2, 1, 0, 255, 0, 255, 0, 255, 0, 255, 0, 255, 0, 255, 2, 9, 1, 3]
      ++ 1 :: image { plate .placed with position := some 0 } ++ 3 :: image (plate .queued) ++ 9 :: image received
    (after .retentionWrite s).ret.image.take 169 = body ∧ (after .retentionWrite s).ret.image.length = 171
    ∧ (after .retentionWrite s).ret.writing = true ∧ (after .retentionWrite s).ret.valid = false := by
  decide +kernel
theorem witness_RetentionWrittenAndJudged_again :
    let s := after .retentionWrite (listed [txOf .upkeep leaveFrame] (.listed .upkeep) (inLine .saving))
    Gives .retentionWrite s s ∧ (after .retentionWriteEnd s).lbi.inTx = .orphan leaveFrame
    ∧ Gives .retentionWriteEnd (inLine .saving) (inLine .saving)
    ∧ Gives .pfwDeasserted { inLine .saving with pins := { (inLine .saving).pins with pfw := true } } (inLine .saving) := by
  decide +kernel
theorem witness_BookingBegins_hold :
    let r (st : RecState) (k : StepKind) (l g : Option (BitVec 16)) : Record :=
      { plate st with steps := [{ entry k 100 with timeLimit := l, maxGap := g }, entry .post 5], accumulated := 40 }
    (r .loaded .dry none (some 9)).hold 60 = 129 ∧ (r .running .main (some 7) (some 9)).hold 60 = 76
    ∧ (r .running .main none (some 9)).hold 60 = 69 ∧ (r .ended .dry none none).hold 60 = 60
    ∧ (r .ended .dry none (some 65535)).hold 10 = 65535 ∧ (r .ended .dry none (some 65500)).hold 35 = 65535
    ∧ (r .loaded .dry none (some 9)).needsBefore .dry = true ∧ (r .loaded .dry none none).needsBefore .dry = false
    ∧ (r .loaded .dry none (some 9)).needsBefore .finish = false
    ∧ (let m (g : Option (BitVec 24)) (i : Nat) : Record := { plate .loaded with
         steps := [{ entry .wash 1 with minGap := some 4 }, entry .dry 1], current := i, gapElapsed := g }
       (m (some 4) 1).minGapMet = true ∧ (m (some 3) 1).minGapMet = false ∧ (m none 1).minGapMet = false
       ∧ (m none 0).minGapMet = true) := by decide +kernel
theorem witness_VoidsCounted_own :
    let s (h : HeldRequest) (v n : Nat) : State :=
      let b := listed [{ txOf .presence (someFrame .presence) with held := h, voids := v }] (.listed .presence) joined
      { b with lbi := { b.lbi with rxErrors := n } }
    let t (h : HeldRequest) (v n : Nat) := after (.frameVoid 2 true) (s h v n)
    (t .none 6 14).lbi.rxErrors = 15 ∧ (t .none 6 14).lbi.tx.map (·.voids) = [7] ∧ (t .none 6 14).mem.line = .joined
    ∧ (t .none 6 15).mem.line = .detached ∧ (t .none 6 15).lbi.listenOnly = true ∧ (t .none 6 15).lbi.inTx = .idle
    ∧ (t .withdraw 7 16).mem.line = .detached ∧ (t .withdraw 7 16).port.alarms.lineTxFault = false := by decide +kernel
theorem test_void_detaches_once :
    let taken : TxEntry := { txOf (.answer 7) (tagged .taken 3 theirTag []) with held := .withdraw, voids := 3 }
    let b := bookedTwo (.closing [] false)
    let l := listed [taken] (.listed (.answer 7)) { b with store := { b.store with freeList := [0, 1, 2, 3], lowIndication := true } }
    let t := after (.frameVoid 2 true) { l with lbi := { l.lbi with rxErrors := 15 } }
    t.store.freeList = [9, 8, 0, 1, 2, 3] ∧ t.bookings = [] ∧ t.port.events.map (·.kind) = [.slotsOk, .lineState]
    ∧ t.port.events.head? = some (stationEvent .slotsOk 6) := by decide +kernel
theorem witness_ClaimsAskedAndGivenUp_marks :
    let s (c : ClaimState) (w m : Bool) := joined.updPos 7 fun x => { x with claim := c, withdrawing := w, remembered := m }
    let grant : ClaimEntry := { station := 2, position := 7, draws := #v[0, 0, 1], status := .granted, order := 1 }
    (s .claimQueued true false).askClaim 7 = s .claimQueued true true
    ∧ (s .claimQueued true true).giveUpClaim 7 = s .claimQueued true false
    ∧ (s .claimQueued false false).askClaim 7 = s .claimQueued false false
    ∧ (s .releaseQueued false true).giveUpClaim 7 = s .releaseQueued false false
    ∧ ((s .waiting false false).giveUpClaim 7).tellEntry grant = (s .waiting false false).giveUpClaim 7 := by decide +kernel
theorem witness_PresencesAppear_restarts :
    let waiting : Record := { plate .ended with exhausted := true }
    let s : State := hold 5 { waiting with tag := theirTag } (placed waiting joined)
    let p (st fp fs : Byte) : Instr := .presenceAppears 4 31 [st, 3, 0, 1, 0, 0, fp, fs, 0, 0, 0, 4]
    let asked (c : Instr) := ((after c s).lbi.tx.map (·.origin), ((after c s).rec? 0).map (·.booking))
    asked (p 2 1 1) = ([.slot 0, .slot 5], some (.asking 1 3)) ∧ asked (p 2 0 1) = ([], some .none)
    ∧ asked (p 2 1 0) = ([], some .none) ∧ asked (p 1 1 1) = ([], some .none)
    ∧ (after (.presenceAppears 5 31 [2, 3, 0, 1, 0, 0, 1, 1, 0, 0, 0, 4]) s).lbi.tx = [] := by decide +kernel
theorem witness_AnswersAtBooker_other :
    let t := (plate .ended).tag
    let s (b : BookerState) (n : Option Nat) : State := placed { plate .ended with booking := b, answerTimer := n } joined
    let booked : Instr := .bookedAppears 3 2 (tagBytes t ++ [7])
    let refused : Instr := .refusedAppears 3 2 (tagBytes t ++ [27])
    let cancelled (x : State) := (after booked x).lbi.tx = [txOf (.answer 0) (tagged .cancel 3 t [])]
    Gives booked (s (.held 3 1) none) ((s (.held 3 1) none).heard 3)
    ∧ Gives refused (s (.held 3 1) none) (((s (.held 3 1) none).heard 3).dropBooking 0)
    ∧ cancelled (s .none none) ∧ cancelled (s (.asking 1 3) none) ∧ cancelled (s (.asking 1 4) (some 0))
    ∧ cancelled (s (.held 4 1) none) ∧ Gives refused (s (.held 4 1) none) ((s (.held 4 1) none).heard 3)
    ∧ Gives refused (s (.asking 1 3) none) ((s (.asking 1 3) none).heard 3) := by decide +kernel
theorem witness_AnswersAtBooker_left :
    let t := (plate .ended).tag
    let s (st : RecState) (b : BookerState) : State := placed { plate st with booking := b } joined
    let quiet (c : Instr) (x : State) := Gives c x (x.heard 3)
    quiet (.takenAppears 3 2 (tagBytes t)) (s .outbound (.held 4 1))
    ∧ quiet (.takenAppears 3 2 (tagBytes t)) (s .ended (.held 3 1))
    ∧ quiet (.rejectAppears 3 2 (tagBytes t ++ [27])) (s .outbound (.held 4 1))
    ∧ quiet (.rejectAppears 3 2 (tagBytes t ++ [27])) (s .uncertain .none)
    ∧ quiet (.foundAppears 3 2 (tagBytes t)) (s .outbound (.held 3 1)) := by decide +kernel
theorem witness_CancelAndLocate_dropped :
    let s (st : RecState) : State := placed { plate st with booking := .held 3 1 } joined
    let cancel : Instr := .cancelAppears 3 2 (tagBytes (plate .ended).tag)
    ∀ st ∈ [RecState.loaded, .waiting, .ended, .outbound, .running, .held],
      Gives cancel (s st) (((s st).heard 3).dropBooking 0) := by decide +kernel

/-! ### Handles, placement, and the line states in which all stands still -/

theorem witness_ReadingCommandsReport_handles :
    let shows (n : Byte) (s : State) (data : BitVec 24) : Prop :=
      Gives (.readPosition n) s ((s.stage (s.positionBytes (Fin.ofNat 8 n.toNat))).answered .ok data)
    shows 7 (booked .standing) 0x010900 ∧ shows 7 (joined.updPos 7 fun x => { x with state := .booked }) 0x01ff00
    ∧ shows 0 (expected (plate .placed)) 0x020000 ∧ shows 7 (joined.updPos 7 fun x => { x with link := some 31 }) 0x001f00
    ∧ shows 7 (joined.updPos 7 fun x => { x with state := .clearing }) 0x04ff00 := by decide +kernel
theorem witness_ArrivalsPlaced_again :
    let s := (hold 6 (plate .queued) ((hold 5 (plate .queued) joined).enqueue 5 false)).enqueue 6 false
    s.lowestEmpty = some 0 ∧ s.arrivalQueue = [5, 6] ∧ s.placement = s.placeOne.placement
    ∧ (s.placement.pos 1).link = some 6 := by decide +kernel

/-- A record that stands on position 0 with every timer of a record running, in a line state. -/
def stopped (st : RecState) (l : LineState) : State :=
  let r : Record := { plate st with
    answerTimer := some 1, handOffTimer := some 1, locateTimer := some 1, gapOpen := true, booking := .asking 1 3 }
  let s := placed r (booked (.assembling (assembly 3 1 [])))
  { s with mem := { s.mem with line := l } }

theorem witness_standsStill : ∀ l ∈ [LineState.config, .saving, .dormant], ∀ st ∈ [RecState.running, .paused, .loaded, .uncertain],
    let s := stopped st l
    (∀ c ∈ [Instr.dosePulse 0, .runClockSecond 0, .pauseClockSecond 0, .lampSilent 0, .doseShort 0, .gapTimer 0,
        .answerTimer 0, .handOffTimer 0, .locateTimer 0, .bookingLapse 7, .partGap 7], Gives c s s)
    ∧ Gives (.ilkOpen 0) s { s with pins := { s.pins with ilk := s.pins.ilk.set 0 false } }
    ∧ Gives (.ilkClose 0) s { s with pins := { s.pins with ilk := s.pins.ilk.set 0 true } } := by decide +kernel
theorem witness_nothing_there :
    let one : State := { joined with conf := { joined.conf with posCount := 1 } }
    Gives (.ilkOpen 1) one { one with pins := { one.pins with ilk := one.pins.ilk.set 1 false } }
    ∧ Gives (.ilkClose 1) one { one with pins := { one.pins with ilk := one.pins.ilk.set 1 true } }
    ∧ ∀ c ∈ [Instr.pauseClockSecond 7, .lampSilent 7, .doseShort 7, .gapTimer 31, .answerTimer 31, .handOffTimer 31,
        .locateTimer 31], Gives c joined joined := by decide +kernel

/-! ### Requests to withdraw and to replace -/

/-- A record without a booking whose slot has a BOOK on the list, of a round that has ended or a renewal. -/
def bookLeft (st : RecState) (renewal : Bool) (out : InTx) : State :=
  listed [txOf (.slot 0) (bookFrame 3 (plate st).tag .post 70 renewal)] out
    (placed { plate st with exhausted := !renewal } joined)

theorem witness_EntryIntoHeld_left : ∀ renewal ∈ [true, false],
    (((bookLeft .ended renewal .idle).enterHeld 0 .operatorHold 0 false).lbi.tx = [])
    ∧ (((bookLeft .ended renewal (.listed (.slot 0))).enterHeld 0 .operatorHold 0 false).lbi.tx.map (·.held) = [.withdraw])
    ∧ (((((bookLeft .ended renewal .idle).setWaits 0 [.book, .renewal]).enterHeld 0 .operatorHold 0 false).slot 0).waits = [])
    ∧ (after (.scrap 0) (bookLeft .ended renewal .idle)).lbi.tx = []
    ∧ (after (.scrap 0) (bookLeft .ended renewal (.listed (.slot 0)))).lbi.tx.map (·.held) = [.withdraw]
    ∧ (after (.adopt 0) (bookLeft .uncertain renewal .idle)).lbi.tx = [] := by decide +kernel
theorem witness_TransmissionOrder_requests :
    let e (h : HeldRequest) := { txOf .presence (someFrame .presence) with held := h, voids := 3 }
    let f := someFrame .claim
    let s (h : HeldRequest) := sends (e h) joined
    (∀ h ∈ [HeldRequest.none, .withdraw, .replace ownJoin],
      (s h).withdrawTx .presence = s .withdraw ∧ (s h).replaceTx .presence f = s (.replace f))
    ∧ (listed [e .none] .idle joined).withdrawTx .presence = joined.setTx []
    ∧ (listed [e .none] .idle joined).replaceTx .presence f = listed [txOf .presence f] .idle joined := by decide +kernel
theorem witness_held_replacements :
    let presence := sends (txOf .presence (someFrame .presence)) joined
    let capacity := sends (txOf (.capacity 2) (someFrame .capacity)) joined
    (after .presenceTimer presence).lbi.tx = [{ txOf .presence (someFrame .presence) with held := .replace joined.presenceFrame }]
    ∧ (after .presenceTimer presence).mem.presence = some 0
    ∧ (after (.capacity 2 1023) capacity).lbi.tx = [{ txOf (.capacity 2) (someFrame .capacity) with
        held := .replace { kind := .capacity, dest := 31, payload := [2, 3, 0xff] } }] := by decide +kernel
theorem witness_LineCommandsTaken_leave : ∀ k ∈ [FrameKind.join, .snapHead, .snapPart],
    let e := txOf .upkeep (someFrame k)
    let serving (s : State) : State := { s with mem := { s.mem with
      serving := some { joiner := 5, rest := [] }, joinQueue := [{ address := 5, sJoin := 0 }] } }
    Gives .leave (serving (listed [e] .idle joined)) ((joined.queueFrame .upkeep leaveFrame).answered .ok 0)
    ∧ Gives .leave (serving (sends e joined)) ((sends { e with held := .withdraw }
        { joined with mem := { joined.mem with upkeepNext := some leaveFrame } }).answered .ok 0)
    ∧ (let s := placed (plate .running) (sends e joined)
       Gives .leave s (s.answered .refused 0x160000)) := by decide +kernel

/-! ### The detach by its events, and the join by its event -/

theorem witness_DetachLosesLine_records :
    let four : List Deviation := List.replicate 4 { kind := .operatorHold, stepIndex := 0, value := 0 }
    let late : Record := { plate .waiting with
      steps := [{ entry .dry 10 with maxGap := some 9 }, entry .post 5], current := 1, gapOpen := true, gapElapsed := some 9 }
    let t (r : Record) := (placed r joined).detach .txFault
    ((t (plate .outbound)).pos 0).state = .clearing ∧ ((t (plate .outbound)).pos 0).link = none
    ∧ ((t { plate .paused with deviations := four }).rec? 0).map (fun r => (r.state, r.deviations, r.overflow)) =
      some (.held, four, true)
    ∧ ((t late).rec? 0).map (fun r => (r.state, r.heldFrom, r.deviations)) =
      some (.held, some .loaded, [{ kind := .gapExceeded, stepIndex := 1, value := 9 }])
    ∧ ((t { late with deviations := four }).rec? 0).map (fun r => (r.state, r.overflow)) = some (.held, true) := by decide +kernel
theorem witness_DetachLosesLine_order :
    let low := fittingWith { plate .running with booking := .held 3 1 }
    let s : State := { low with store := { low.store with lowIndication := true } }
    let t := s.detach .rxFault
    s.mem.line = .joined ∧ s.arrivalQueue = [5] ∧ s.bookings.map s.takenOut = [false]
    ∧ t.port.events = [recordEvent .held (some 0) 0 (plate .running).tag 6, stationEvent .slotsOk 29,
        recordEvent .place (some 1) 5 (plate .queued).tag 0, stationEvent .lineState (3 * 256 + 5)]
    ∧ (t.slot 9).state = .free ∧ (t.pos 7).state = .empty := by decide +kernel
theorem witness_DetachLosesLine_taken :
    let e := txOf (.answer 0) (tagged .taken 3 theirTag [])
    let s := sends e (booked (.closing theirImage false))
    s.bookings.map s.takenOut = [true] ∧ ((s.detach .txFault).slot 9).state = .reserved
    ∧ ((s.detach .txFault).pos 7).state = .booked ∧ (s.detach .txFault).bookings = s.bookings := by decide +kernel
theorem witness_JoinsAppear_event :
    let s (n : Nat) : State := { joined with
      port := { joined.port with events := List.replicate n (stationEvent .slotsOk 9) } }
    (after (.joinAppears 5 31 [3]) (s 31)).port.events =
      List.replicate 31 (stationEvent .slotsOk 9) ++ [stationEvent .peerJoined (5 * 65536 + 1)]
    ∧ (after (.joinAppears 5 31 [3]) (s 0)).port.events = [stationEvent .peerJoined (5 * 65536 + 1)] := by decide +kernel

/-- Station 2 JOINED as provider, with a join queue and the serving given, and a snapshot frame on its list. -/
def providing (queue : List Joiner) (serving : Option Serving) (tx : List TxEntry) : State :=
  listed tx .idle { joined with mem := { joined.mem with joinQueue := queue, serving := serving } }

theorem witness_JoinsAppear_queue :
    let j (a : Addr) (n : BitVec 32) : Joiner := { address := a, sJoin := n }
    let six : Option Serving := some { joiner := 6, rest := [] }
    let snap := [txOf .upkeep (someFrame .snapPart)]
    let queue (s : State) := (after (.joinAppears 5 31 [3]) s).mem.joinQueue
    queue (providing [j 6 0] six snap) = [j 6 0, j 5 1]
    ∧ queue (providing [j 6 0, j 5 0] six snap) = [j 6 0, j 5 1] ∧ queue (providing [j 5 0, j 6 0] none []) = [j 5 1, j 6 0]
    ∧ (after (.joinAppears 5 31 [3]) (providing [j 6 0] six snap)).mem.serving = six
    ∧ (let t := after (.joinAppears 5 31 [3]) (providing [j 5 0, j 6 0] (some { joiner := 5, rest := [] }) snap)
       t.mem.joinQueue = [j 6 0, j 5 1] ∧ t.mem.serving.map (·.joiner) = some 6
       ∧ t.lbi.tx.map (·.frame.kind) = [.snapHead]) := by decide +kernel

/-- A joiner with n frames in its pending buffer, and an answer to station 3 on its list. -/
def collecting (n : Nat) (phase : JoinPhase) : State :=
  let s := listed [txOf (.answer 0) (tagged .refused 3 theirTag [1])] .idle (joining phase)
  { s with mem := { s.mem with buffer := List.replicate n { kind := .join, sender := 3, payload := [3] } } }

theorem witness_JoinsAppear_joining : ∀ phase ∈ [JoinPhase.waiting, .receiving (taking 2 [])],
    let heard : Instr := .joinAppears 3 31 [3]
    (after heard (collecting 31 phase)) = collecting 32 phase
    ∧ (after heard (collecting 32 phase)).port.events = [stationEvent .lineState (1 * 256 + 11)]
    ∧ (after heard (collecting 32 phase)).mem.phase = .queued ∧ (after heard (collecting 32 phase)).mem.buffer = []
    ∧ Gives heard (collecting 0 .queued) (collecting 0 .queued) := by decide +kernel
theorem witness_DeparturesAppear_full :
    let t := after (.departAppears 3 31 [2]) (collecting 32 .waiting)
    t.mem.line = .detached ∧ t.port.events = [stationEvent .lineState (3 * 256 + 6)] ∧ t.mem.buffer = []
    ∧ t.bud = { capacities := #v[0, 0, 0], entries := [], seqNo := 0 } := by decide +kernel

/-! ### The snapshot by its parts -/

theorem witness_SnapshotsServedAndTaken_parts :
    let s := table [claimOf 3 2 .granted 1, claimOf 4 1 .waiting 2, claimOf 3 1 .waiting 3, claimOf 4 0 .waiting 4]
    let part (bs : List Byte) : Frame := { kind := .snapPart, dest := 31, payload := 5 :: bs }
    s.snapParts 5 =
      [part [0, 0x00, 0xab, 0xb0, 0, 0, 0, 0, 0, 1, 0, 1, 0, 1], part [1, 0, 0, 0, 0, 0, 0, 0, 0, 0, 0, 0, 0, 0],
       part [2, 0, 0, 0, 0, 0, 0, 0, 0, 0, 0, 0, 0, 0], part [3, 0, 0, 0],
       part [4, 0x31, 0, 0, 2, 0x40, 0, 0, 1, 0x30, 0, 0, 1], part [5, 0x40, 0, 0, 0]] := by decide +kernel
theorem witness_SnapshotsServedAndTaken_again :
    let s := joining (.receiving (taking 2 []))
    (after (.snapHeadAppears 3 31 (headBytes 0 0)) s).port.events = [stationEvent .lineState 268]
    ∧ (after (.snapHeadAppears 3 31 (headBytes 0 0)) s).lbi.tx = [txOf .upkeep ownJoin]
    ∧ (after (.snapHeadAppears 3 31 (headBytes 0 0)) s).mem.phase = .queued := by decide +kernel

/-- A joiner whose last snapshot part is to come, the frames given in its buffer. -/
def completing (buffer : List BufferedFrame) : State :=
  let n : SnapIn := { taking 4 (fivePeers ++ List.replicate 11 { state := .absent, role := .expose, epoch := 0 }) with count := 2 }
  let s := joining (.receiving n)
  { s with mem := { s.mem with buffer := buffer } }

theorem witness_SnapshotsServedAndTaken_buffer :
    let last : Instr := .snapPartAppears 3 31 [2, 4, 0x30, 0, 0, 1, 0x32, 0, 0, 2]
    let entryOf (p : PosIx) (d : Nat) (order : BitVec 32) : ClaimEntry :=
      { station := 3, position := p, draws := #v[0, 0, d], status := .waiting, order := order }
    let t := after last (completing [{ kind := .release, sender := 4, payload := [0] },
      { kind := .join, sender := 4, payload := [3] }, { kind := .leave, sender := 4, payload := [] }])
    (after last (completing [])).bud.entries = [entryOf 0 1 6, entryOf 1 2 7]
    ∧ t.bud = { capacities := #v[1, 2, 3], seqNo := 10, entries :=
        [{ entryOf 0 1 6 with status := .granted }, { entryOf 1 2 7 with status := .granted }] }
    ∧ t.port.events = [stationEvent .peerJoined (4 * 65536 + 1), stationEvent .peerGone (4 * 256 + 2),
        stationEvent .lineState (2 * 256 + 2)]
    ∧ (t.peer 4).state = .absent ∧ (t.peer 2).state = .joined ∧ t.mem.lastEpoch = 9 := by decide +kernel
theorem witness_SnapshotsServedAndTaken_own : ∀ k ∈ [FrameKind.snapHead, .snapPart],
    let e := txOf .upkeep (someFrame k)
    let s (rest : List Frame) : State := sends e { joined with mem := { joined.mem with
      joinQueue := [{ address := 5, sJoin := 4 }], serving := some { joiner := 5, rest := rest } } }
    Gives (appears e) (s [someFrame .snapPart]) (({ (s [someFrame .snapPart]).sent e with mem := { (s []).mem with
      serving := some { joiner := 5, rest := [] } } }).queueFrame .upkeep (someFrame .snapPart))
    ∧ (after (appears e) (s [])).mem.joinQueue = [] ∧ (after (appears e) (s [])).mem.serving = none
    ∧ (after (appears e) (s [])).lbi.tx = [] := by decide +kernel

/-! ### The checks of a carried image -/

/-- An image with the CRC its other bytes give. -/
def sealed (body : List Byte) : List Byte := body ++ bytes16 (crc16 body)

theorem witness_CarryAssembled_checks :
    let body := theirImage.take 44
    let s := booked .standing
    let fault (im : List Byte) := s.imageFault offered im
    fault theirImage = none ∧ sealed body = theirImage
    ∧ fault (body ++ [0, 0]) = some .badImage ∧ fault (sealed (body ++ [0])) = some .badImage ∧ fault [] = some .badImage
    ∧ fault (sealed (body.set 13 0)) = some .badImage ∧ fault (sealed (body.set 15 5)) = some .badImage
    ∧ fault (sealed (body.set 4 8)) = some .badImage
    ∧ (hold 0 { plate .held with tag := theirTag } s).imageFault offered theirImage = some .duplicateTag
    ∧ fault (sealed (body.set 14 1)) = some .badImage ∧ fault (sealed (body.set 34 5)) = some .badImage
    ∧ s.imageFault { offered with kind := .post } (sealed (body.set 34 5)) = some .badImage
    ∧ fault (sealed (body.set 9 1)) = some .badImage ∧ fault (sealed (body.set 10 12)) = some .badImage
    ∧ fault (sealed (body.set 31 1)) = none ∧ fault (sealed ((body.set 31 1).set 33 1)) = some .badImage
    ∧ fault (sealed (body.set 24 5)) = some .badImage := by decide +kernel

/-- The record of that image is in the ranges of R1 and R7, as the record with every optional item is. -/
theorem witness_CarryAssembled_range :
    ({ plate .outbound with tag := theirTag, steps := [entry .wash 10, entry .dry 10] } : Record).inRanges := by
  refine ⟨by decide, by decide, by simp [plate, Record.ofFields], ⟨by decide, by decide, ?_, ?_⟩, by decide, by decide,
    by decide, by simp [plate, Record.ofFields]⟩
  · rintro (_ | _ | i) e f he hf <;> simp [entry] at he hf
    subst he hf
    decide
  · rintro (_ | _ | i) e he <;> simp [entry] at he <;> subst he <;> simp

end Sys2Proof.Tests
end

section
/-! SUPPORT. The budget table after an appearance at a JOINED station (R120, R123), and the release of an entry. -/

namespace Sys2Proof.Machine

/-- The table a JOINED station's budget unit leaves is the one the frame makes of it: what follows for positions, claim
states and records touches no entry (R120 to R125). -/
theorem bud_takeReplicated (f : BufferedFrame) (own : Bool) (s : State) :
    (s.takeReplicated f own).bud = (applyFrame s.bud f).table := by
  simp [State.takeReplicated]

/-- The receive filter passes a replicated kind whatever its destination (R81). -/
theorem receives_of_replicated {k : FrameKind} (hk : kindReplicated k = true) (s : State) (a : Addr) (dest : BitVec 5) :
    s.receives k a dest = true := by
  simp [State.receives, hk]

/-- A replicated frame that the budget unit alone acts on, at a JOINED station: what every appearance shares leaves the
table alone, so the frame is applied to the table as it stood (R81, R120). -/
theorem bud_appear_onReplicated {k : FrameKind} {s : State} (hk : kindReplicated k = true) (joined : s.mem.line = .joined)
    (a : Addr) (dest : BitVec 5) (payload : List Byte) :
    (s.appear k a dest payload fun _ s => s.onReplicated k a payload).bud =
      (applyFrame s.bud { kind := k, sender := a, payload := payload }).table := by
  simp [State.appear, State.onReplicated, joined, receives_of_replicated hk, bud_takeReplicated]

theorem applyFrame_release (t : BudgetTable) (a : Addr) (payload : List Byte) :
    applyFrame t { kind := .release, sender := a, payload := payload } =
      applyRelease { t with seqNo := t.seqNo + 1 } a payload := rfl

theorem ClaimEntry.isFor_iff (e : ClaimEntry) (a : Addr) (p : PosIx) :
    e.isFor a p = true ↔ e.station = a ∧ e.position = p := by
  simp [ClaimEntry.isFor]

theorem table_scanned (t : BudgetTable) (c : ClaimOutcome) (removed : List ClaimEntry) :
    (TableStep.scanned t c removed).table = { t with entries := (grantScan t.capacities t.entries).1 } := rfl

/-- A RELEASE whose position is read, with an entry of the sender's there: the entry goes and the scan runs (R123). -/
theorem applyRelease_standing {t : BudgetTable} {a : Addr} {p : PosIx} {payload : List Byte}
    (reads : releasePayload payload = some p) (stands : ∃ e ∈ t.entries, e.station = a ∧ e.position = p) :
    (applyRelease t a payload).table =
      { t with entries := (grantScan t.capacities
          (t.entries.filter fun e => ¬(e.station = a ∧ e.position = p))).1 } := by
  have found : t.entries.any (·.isFor a p) = true := by
    simpa only [List.any_eq_true, ClaimEntry.isFor_iff] using stands
  have keeps : (fun e : ClaimEntry => !e.isFor a p) = fun e => decide ¬(e.station = a ∧ e.position = p) := by
    funext e
    simp [← ClaimEntry.isFor_iff]
  simp only [applyRelease, reads, found, if_true, table_scanned, keeps]

/-- With no such entry the table stands (R123). -/
theorem applyRelease_absent {t : BudgetTable} {a : Addr} {p : PosIx} {payload : List Byte}
    (reads : releasePayload payload = some p) (absent : ∀ e ∈ t.entries, ¬(e.station = a ∧ e.position = p)) :
    (applyRelease t a payload).table = t := by
  have missing : ¬t.entries.any (·.isFor a p) = true := by
    simpa only [List.any_eq_true, ClaimEntry.isFor_iff, not_exists, not_and] using absent
  simp only [applyRelease, reads, if_neg missing, TableStep.still]

/-- A payload that names no position acts no further (R80). -/
theorem applyRelease_unread {payload : List Byte} (unread : releasePayload payload = none) (t : BudgetTable) (a : Addr) :
    (applyRelease t a payload).table = t := by
  simp only [applyRelease, unread, TableStep.still]

theorem releasePayload_byte (p : PosIx) : releasePayload [byte p.val] = some p := finOf_pos p

theorem releasePayload_above (b : Byte) (h : 7 < b.toNat) : releasePayload [b] = none := finOf_none b h

/-- A RELEASE that appears at a JOINED station: its state answers the command, and its table is the released one. -/
theorem exec_releaseAppears_bud {s : State} (joined : s.mem.line = .joined) (a : Addr) (dest : BitVec 5)
    (payload : List Byte) : ∃ t : State, exec (.releaseAppears a dest payload) s = .next t
      ∧ t.bud = (applyRelease { s.bud with seqNo := s.bud.seqNo + 1 } a payload).table :=
  ⟨_, rfl, by rw [bud_appear_onReplicated rfl joined, applyFrame_release]⟩

/-- Settles O41: the table after the appearance is the one R123 makes of it, by what the payload names and whether an
entry stands there. -/
theorem releaseRemovesEntry : Obligations.ReleaseRemovesEntry := by
  intro a dest payload s joined
  obtain ⟨t, runs, released⟩ := exec_releaseAppears_bud joined a dest payload
  refine ⟨t, runs, ?_, ?_, ?_⟩
  · rintro p rfl stands
    exact released.trans (applyRelease_standing (releasePayload_byte p) stands)
  · rintro p rfl absent
    exact released.trans (applyRelease_absent (releasePayload_byte p) absent)
  · rintro b rfl above
    exact released.trans (applyRelease_unread (releasePayload_above b above) _ a)

end Sys2Proof.Machine
end

section
/-! SUPPORT. The claim of a position asked for and given up, one equation per case of its claim state and marks (R131,
R132). -/

namespace Sys2Proof.Machine

/-! ### Asking (R131) -/

section
variable {p : PosIx} {s : State}

theorem askClaim_none (none : (s.pos p).claim = .none) : s.askClaim p = s.queueClaim p := by
  simp only [State.askClaim, none]

theorem askClaim_remembers
    (late : (s.pos p).claim = .claimQueued ∧ (s.pos p).withdrawing = true ∨ (s.pos p).claim = .releaseQueued) :
    s.askClaim p = s.setRemembered p true := by
  obtain ⟨queued, held⟩ | released := late
  · simp only [State.askClaim, queued, held, if_true]
  · simp only [State.askClaim, released]

theorem askClaim_stands (stands : (s.pos p).claim = .claimQueued ∧ (s.pos p).withdrawing = false
    ∨ (s.pos p).claim = .waiting ∨ (s.pos p).claim = .granted) : s.askClaim p = s := by
  obtain ⟨queued, free⟩ | waiting | granted := stands
  · simp [State.askClaim, queued, free]
  · simp only [State.askClaim, waiting]
  · simp only [State.askClaim, granted]

/-! ### Giving up (R132) -/

theorem sending_iff {o : Origin} : s.sending o = true ↔ s.lbi.inTx = .listed o := by
  simp [State.sending]

theorem giveUpClaim_none (none : (s.pos p).claim = .none) : s.giveUpClaim p = s := by
  simp only [State.giveUpClaim, none]

/-- A CLAIM not in transmission is withdrawn at once. -/
theorem giveUpClaim_withdraws (queued : (s.pos p).claim = .claimQueued) (free : (s.pos p).withdrawing = false)
    (still : s.lbi.inTx ≠ .listed (.position p)) :
    s.giveUpClaim p = (s.removeTx (.position p)).setClaim p .none := by
  have idle : ¬s.sending (.position p) = true := fun h => still (sending_iff.mp h)
  simp [State.giveUpClaim, queued, free, idle]

/-- The withdrawal of a CLAIM in transmission is held with its frame, and clears a remembered ask. -/
theorem giveUpClaim_holds (queued : (s.pos p).claim = .claimQueued) (free : (s.pos p).withdrawing = false)
    (out : s.lbi.inTx = .listed (.position p)) :
    s.giveUpClaim p = (s.updTx (.position p) fun e => { e with held := .withdraw }).updPos p fun x =>
      { x with withdrawing := true, remembered := false } := by
  have busy : s.sending (.position p) = true := sending_iff.mpr out
  simp [State.giveUpClaim, State.withdrawTx, queued, free, busy]

theorem giveUpClaim_forgets
    (late : (s.pos p).claim = .claimQueued ∧ (s.pos p).withdrawing = true ∨ (s.pos p).claim = .releaseQueued) :
    s.giveUpClaim p = s.setRemembered p false := by
  obtain ⟨queued, held⟩ | released := late
  · simp only [State.giveUpClaim, queued, held, if_true]
  · simp only [State.giveUpClaim, released]

theorem giveUpClaim_releases (stands : (s.pos p).claim = .waiting ∨ (s.pos p).claim = .granted) :
    s.giveUpClaim p = s.queueRelease p := by
  obtain waiting | granted := stands
  · simp only [State.giveUpClaim, waiting]
  · simp only [State.giveUpClaim, granted]

end

/-! ### A grant after the claim is given up (R128) -/

/-- A position that gives its claim up does not wait for a grant. -/
theorem claimGivenUp_ne_waiting (x : Position) (sending : Bool) : x.claimGivenUp sending ≠ .waiting := by
  cases claim : x.claim with
  | claimQueued =>
    simp only [Position.claimGivenUp, claim]
    split <;> simp
  | none | waiting | granted | releaseQueued => simp [Position.claimGivenUp, claim]

/-- An entry granted for a position that does not wait is not told to it (R128). -/
theorem tellEntry_not_waiting {s : State} {e : ClaimEntry} (h : (s.pos e.position).claim ≠ .waiting) :
    s.tellEntry e = s :=
  if_neg fun ⟨_, waits⟩ => h waits

/-- Settles O45: the cases of R131 and R132 by their equations; a grant made afterwards finds no WAITING position. -/
theorem claimsAskedAndGivenUp : Obligations.ClaimsAskedAndGivenUp := by
  intro p s
  refine ⟨askClaim_none, askClaim_remembers, askClaim_stands, giveUpClaim_none, giveUpClaim_withdraws,
    giveUpClaim_holds, giveUpClaim_forgets, giveUpClaim_releases, bud_giveUpClaim p s, ?_⟩
  rintro e rfl
  obtain ⟨-, givenUp, -⟩ := pos_giveUpClaim e.position e.position s
  exact tellEntry_not_waiting (givenUp ▸ claimGivenUp_ne_waiting _ _)

end Sys2Proof.Machine
end

section
/-! SUPPORT. What answering a port frame keeps, and that every command has a next state and keeps `Small`. -/

namespace Sys2Proof.Machine
open Host

/-- What answering and delivering keep, and the command's own rule, the judged command keeps (R182). -/
theorem judge_keeps {α : Type} (part : State → α) (answers : ∀ st d u, part (State.respond st d u) = part u)
    (delivers : ∀ u : State, part u.deliver = part u) {own : State → State} (keeps : ∀ u, part (own u) = part u)
    (inConfig : Bool) (low : Byte) (s : State) : part (s.judge inConfig low own) = part s := by
  refine judge_cases (fun u => part u = part s) inConfig low own s ?_ ?_ ?_ ?_
  · rw [answers, delivers]
  · rw [answers, delivers]
  · rw [State.refuse, answers, delivers]
  · rw [keeps, delivers]

theorem withRecord_keeps {α : Type} (part : State → α) (answers : ∀ st d u, part (State.respond st d u) = part u)
    {own : Handle → Record → State → State} (keeps : ∀ h r u, part (own h r u) = part u) (code handle d0 : Byte)
    (s : State) : part (s.withRecord code handle d0 own) = part s := by
  refine withRecord_cases (fun u => part u = part s) code handle d0 own s ?_ ?_ fun h r _ => keeps h r s
  · rw [State.badArgument, answers]
  · rw [State.refuse, answers]

theorem exec_completes (c : Instr) (s : State) : ∃ t, exec c s = .next t ∧ t.pending = s.pending := by
  cases c <;> refine ⟨_, rfl, ?_⟩
  case hold | scrap | rush | concession | adopt | readRecord =>
    refine judge_keeps State.pending (fun _ _ _ => rfl) (fun _ => rfl)
      (withRecord_keeps State.pending (fun _ _ _ => rfl) (fun h r u => ?_) _ _ _) _ _ s
    rw [pending_eq, pending_eq]; simp
  case unknownCommand | nop | stageWrite | stageRead | configWrite | configClose | register | arrived | removed
      | readPosition | readBudget | readPeer | readStation | readEvent | readAlarms | capacity | leave | join =>
    refine judge_keeps State.pending (fun _ _ _ => rfl) (fun _ => rfl) (fun u => ?_) _ _ s
    rw [pending_eq, pending_eq]
    repeat' split
    all_goals simp
  case reset | pfwDeasserted | portFrameShort => rfl
  all_goals
    rw [pending_eq, pending_eq]
    try simp

theorem small_answered (st : Status) (data : BitVec 24) {s : State} (hs : s.Small) : (s.answered st data).Small := hs

theorem small_judge (inConfig : Bool) (low : Byte) {own : State → State} (keeps : ∀ u, u.Small → (own u).Small)
    (s : State) (hs : s.Small) : (s.judge inConfig low own).Small :=
  judge_cases State.Small inConfig low own s (small_answered _ _ hs) (small_answered _ _ hs) (small_answered _ _ hs)
    (keeps _ (small_deliver s hs))

theorem small_withRecord (code handle d0 : Byte) {own : Handle → Record → State → State}
    (keeps : ∀ h r u, u.Small → (own h r u).Small) (s : State) (hs : s.Small) :
    (s.withRecord code handle d0 own).Small :=
  withRecord_cases State.Small code handle d0 own s (by simp [hs]) (by simp [hs]) fun h r _ => keeps h r s hs

theorem small_exec (c : Instr) (s : State) (hs : s.Small) : ∃ t, exec c s = .next t ∧ t.Small := by
  cases c <;> refine ⟨_, rfl, ?_⟩
  case hold | scrap | rush | concession | adopt | readRecord =>
    exact small_judge _ _ (small_withRecord _ _ _ fun h r u hu => by simp [hu]) s hs
  case readEvent =>
    refine small_judge _ _ (fun u hu => ?_) s hs
    obtain ⟨events, errors⟩ := hu
    cases queue : u.port.events with
    | nil => exact ⟨events, errors⟩
    | cons e rest =>
      rw [queue, List.length_cons] at events
      exact ⟨by simp only [State.ok, State.respond, State.stage]; omega, errors⟩
  case unknownCommand | nop | stageWrite | stageRead | configWrite | configClose | register | arrived | removed
      | readPosition | readBudget | readPeer | readStation | readAlarms | capacity | leave | join =>
    refine small_judge _ _ (fun u hu => ?_) s hs
    obtain ⟨events, errors⟩ := id hu
    repeat' split
    all_goals simp [hu]
  case portFrameShort => exact hs
  case portCrcError => exact small_respond _ _ _ (small_countCrcError _ (small_deliver s hs))
  case reset => exact ⟨Nat.zero_le 32, Nat.zero_le 16⟩
  case ilkOpen p | ilkClose p => 
    have moved (level : Bool) : (s.setIlk p level).Small := hs
    split <;> simp [moved]
  case runClockSecond | pauseClockSecond => split <;> simp [hs]
  case arbitrationLost => simp (maxDischargeDepth := 10) [hs]
  case departAppears | leaveAppears | releaseAppears | capacityAppears | claimAppears | takenAppears | rejectAppears
      | bookedAppears | refusedAppears | foundAppears | bookAppears | cancelAppears | locateAppears | carryAppears
      | joinAppears | snapHeadAppears | snapPartAppears | presenceAppears =>
    exact small_appear _ _ _ _ _ (fun own u hu => by simp [hu]) s hs
  all_goals simp [hs]
end Sys2Proof.Machine
end

section
/-! SUPPORT. What each command changes of the pins, the configuration, the retention store, the staging buffer and the counts. -/

namespace Sys2Proof.Machine
open Host

/-- What most commands leave alone together. -/
structure Kept where
  pins : Pins
  conf : Configuration
  ret : Retention
  staging : Memory
  attempts : Nat
  crcErrors : Nat

def State.kept (s : State) : Kept := ⟨s.pins, s.conf, s.ret, s.staging, s.store.attempts, s.port.crcErrors⟩

theorem kept_eq_still (s : State) : s.kept = ⟨s.still.2.1, s.still.2.2.1, s.still.2.2.2.1, s.still.2.2.2.2.1,
    s.still.2.2.2.2.2.1, s.still.2.2.2.2.2.2.2.2⟩ := rfl

/-- The commands of the blocks: not the port's, no reset, no edge of a pin and no retention write. -/
def Instr.isBlocks (c : Instr) : Bool :=
  !c.isPort && !c.isPinEdge && !c.isRetention && (match c with | .reset .. => false | _ => true)

theorem still_exec_blocks {c : Instr} (hc : Instr.isBlocks c = true) (s : State) :
    ∃ t, exec c s = .next t ∧ t.still = s.still := by
  cases c <;> first | exact absurd hc Bool.false_ne_true | refine ⟨_, rfl, ?_⟩
  all_goals simp

/-- The port's commands that neither stage a result, nor configure, nor compare the code, nor count or clear CRC errors. -/
def Instr.isPlain (c : Instr) : Bool :=
  c.isPort && !c.isStaging && (match c with
    | .configWrite .. | .configClose | .concession .. | .adopt .. | .portCrcError | .readAlarms => false
    | _ => true)

theorem kept_exec_plain {c : Instr} (hc : Instr.isPlain c = true) (s : State) :
    ∃ t, exec c s = .next t ∧ t.kept = s.kept := by
  cases c <;> first | exact absurd hc Bool.false_ne_true | refine ⟨_, rfl, ?_⟩
  case portFrameShort => rfl
  case hold | scrap | rush =>
    refine judge_keeps State.kept (fun _ _ _ => rfl) (fun _ => rfl)
      (withRecord_keeps State.kept (fun _ _ _ => rfl) (fun h r u => ?_) _ _ _) _ _ s
    simp [kept_eq_still]
  all_goals
    refine judge_keeps State.kept (fun _ _ _ => rfl) (fun _ => rfl) (fun u => ?_) _ _ s
    simp only [kept_eq_still]
    repeat' split
    all_goals simp

/-- The edges of PFW and ILK move the pins alone. -/
theorem kept_exec_pinEdge {c : Instr} (hc : c.isPinEdge = true) (s : State) :
    ∃ t, exec c s = .next t ∧ t.kept = { s.kept with pins := t.pins } := by
  cases c <;> first | exact absurd hc Bool.false_ne_true | refine ⟨_, rfl, ?_⟩
  case pfwDeasserted => rfl
  case powerFailWarning => simp [kept_eq_still, pins_eq]
  case ilkOpen | ilkClose =>
    simp only [kept_eq_still, pins_eq]
    split <;> simp

/-- The retention write and its end change the store alone. -/
theorem kept_exec_write {c : Instr} (hc : c = .retentionWrite ∨ c = .retentionWriteEnd) (s : State) :
    ∃ t, exec c s = .next t ∧ t.kept = { s.kept with ret := t.ret } := by
  obtain rfl | rfl := hc <;> refine ⟨_, rfl, ?_⟩ <;> simp [kept_eq_still, ret_eq]

/-- The staging buffer alone is written, in its canonical form. -/
def State.Stages (s t : State) : Prop :=
  t.kept = { s.kept with staging := t.staging } ∧ (Memory.wf s.staging = true → Memory.wf t.staging = true)

theorem stages_respond (st : Status) (d : BitVec 24) {s t : State} (h : s.Stages t) : s.Stages (t.respond st d) := h

theorem stages_ok (d2 d1 d0 : Byte) {s t : State} (h : s.Stages t) : s.Stages (t.ok d2 d1 d0) := h

theorem stages_of_staging_eq {s t : State} (h : t.kept = s.kept) : s.Stages t := by
  have same : t.staging = s.staging := congrArg Kept.staging h
  exact ⟨by rw [h, same]; rfl, same ▸ id⟩

/-- A result staged from byte 0 stays within the buffer's 128 bytes (R183). -/
theorem stages_stage (bs : List Byte) (s : State) : s.Stages (s.stage bs) :=
  ⟨rfl, Memory.wf_writeList _ _ _ (by simp)⟩

theorem stages_judge {own : State → State} (stages : ∀ u : State, u.Stages (own u)) (inConfig : Bool) (low : Byte) (s : State) :
    s.Stages (s.judge inConfig low own) :=
  judge_cases s.Stages inConfig low own s ⟨rfl, id⟩ ⟨rfl, id⟩ ⟨rfl, id⟩ (stages s.deliver)

/-- A command that stages writes the staging buffer alone, and keeps its canonical form. -/
theorem kept_exec_staging {c : Instr} (hc : c.isStaging = true) (s : State) :
    ∃ t, exec c s = .next t ∧ s.Stages t := by
  cases c <;> first | exact absurd hc Bool.false_ne_true | refine ⟨_, rfl, stages_judge (fun u => ?_) _ _ s⟩
  case stageWrite index first second =>
    split
    case isTrue inside => exact ⟨rfl, Memory.wf_writeList _ _ _ (by simpa using inside)⟩
    case isFalse => exact stages_of_staging_eq rfl
  case readRecord =>
    exact withRecord_cases u.Stages _ _ _ _ u ⟨rfl, id⟩ ⟨rfl, id⟩
      fun _ r _ => stages_ok _ _ _ (stages_stage (recordImage r) u)
  case readPosition | readStation =>
    split
    case h_1 => exact stages_ok _ _ _ (stages_stage _ u)
    case h_2 => exact ⟨rfl, id⟩
  case readPeer =>
    split
    case h_1 => exact stages_respond _ _ (stages_stage _ u)
    case h_2 => exact ⟨rfl, id⟩
  case readBudget =>
    split
    case h_1 =>
      split
      case isTrue => exact stages_respond _ _ (stages_stage _ u)
      case isFalse => exact ⟨rfl, id⟩
    case h_2 => exact ⟨rfl, id⟩
  case readEvent =>
    split
    case h_1 e _ _ => exact stages_ok _ _ _ (stages_stage e.bytes u)
    case h_2 => exact ⟨rfl, id⟩

/-- The attempt count alone changes, by at most one (R63). -/
def State.Compares (s t : State) : Prop :=
  t.kept = { s.kept with attempts := t.store.attempts }
    ∧ (t.store.attempts = s.store.attempts ∨ t.store.attempts + 1 = s.store.attempts)

theorem attempts_failAttempt (s : State) : s.failAttempt.store.attempts = s.store.attempts - 1 := by
  simp only [State.failAttempt]
  split <;> simp

theorem compares_refuse (r : Reason) (d0 : Byte) (s : State) : s.Compares (s.refuse r d0) := ⟨rfl, .inl rfl⟩

theorem compares_wrongCode {s : State} (unlocked : s.store.attempts ≠ 0) : s.Compares s.wrongCode := by
  have lowered : s.wrongCode.store.attempts = s.store.attempts - 1 := attempts_failAttempt s
  exact ⟨by simp [kept_eq_still, attempts_eq], .inr (by omega)⟩

theorem compares_of_still {s t : State} (h : t.kept = s.kept) : s.Compares t := by
  have same : t.store.attempts = s.store.attempts := congrArg Kept.attempts h
  exact ⟨by rw [h, same]; rfl, .inl same⟩

theorem compares_concede (h : Handle) (r : Record) (s : State) : s.Compares (s.concede h r) := by
  simp only [State.concede]
  repeat' split
  case isFalse.isFalse.isFalse.isTrue unlocked _ => exact compares_wrongCode unlocked
  case isFalse.isFalse.isFalse.isFalse => exact compares_of_still (by simp [kept_eq_still])
  all_goals exact compares_refuse _ _ s

theorem compares_adopt (h : Handle) (r : Record) (s : State) : s.Compares (s.adopt h r) := by
  simp only [State.adopt]
  repeat' split
  case isFalse.isFalse.isFalse.isTrue unlocked _ => exact compares_wrongCode unlocked
  case isFalse.isFalse.isFalse.isFalse => exact compares_of_still (by simp [kept_eq_still])
  all_goals exact compares_refuse _ _ s

theorem compares_judge {own : Handle → Record → State → State} (compares : ∀ h r (u : State), u.Compares (own h r u))
    (code handle low : Byte) (s : State) : s.Compares (s.judge false low (State.withRecord code handle low own)) :=
  judge_cases s.Compares false low _ s ⟨rfl, .inl rfl⟩ ⟨rfl, .inl rfl⟩ ⟨rfl, .inl rfl⟩
    (withRecord_cases s.Compares code handle low own s.deliver ⟨rfl, .inl rfl⟩ ⟨rfl, .inl rfl⟩
      fun h r _ => compares h r s.deliver)

/-- CONCESSION and ADOPT. -/
theorem kept_exec_code {c : Instr} (hc : ∃ h, c = .concession h ∨ c = .adopt h) (s : State) :
    ∃ t, exec c s = .next t ∧ s.Compares t := by
  obtain ⟨h, rfl | rfl⟩ := hc
  · exact ⟨_, rfl, compares_judge compares_concede _ _ _ s⟩
  · exact ⟨_, rfl, compares_judge compares_adopt _ _ _ s⟩

theorem crcErrors_countCrcError (s : State) : s.countCrcError.port.crcErrors = min 255 (s.port.crcErrors + 1) := by
  simp only [State.countCrcError]
  split <;> rfl

/-- The count of port CRC errors alone changes, and stays to 255 (R179). -/
theorem kept_exec_count {c : Instr} (hc : c = .portCrcError ∨ c = .readAlarms) (s : State) :
    ∃ t, exec c s = .next t ∧ t.kept = { s.kept with crcErrors := t.port.crcErrors }
      ∧ (s.port.crcErrors ≤ 255 → t.port.crcErrors ≤ 255) := by
  obtain rfl | rfl := hc <;> refine ⟨_, rfl, ?_⟩
  · refine ⟨by simp [kept_eq_still, crcErrors_eq], fun _ => ?_⟩
    have counted := crcErrors_countCrcError s.deliver
    exact (le_of_eq counted).trans (Nat.min_le_left _ _)
  · exact judge_cases (fun t => t.kept = { s.kept with crcErrors := t.port.crcErrors }
      ∧ (s.port.crcErrors ≤ 255 → t.port.crcErrors ≤ 255)) _ _ _ s
      ⟨rfl, id⟩ ⟨rfl, id⟩ ⟨rfl, id⟩ ⟨rfl, fun _ => Nat.zero_le 255⟩

/-- CONFIG_CLOSE changes the configuration in CONFIG alone, and with it the retention store. -/
theorem kept_exec_configClose (s : State) :
    ∃ t, exec .configClose s = .next t ∧ t.kept = { s.kept with conf := t.conf, ret := t.ret }
      ∧ (s.mem.line ≠ .config → t.conf = s.conf) := by
  refine ⟨_, rfl, judge_cases (fun t => t.kept = { s.kept with conf := t.conf, ret := t.ret }
      ∧ (s.mem.line ≠ .config → t.conf = s.conf)) _ _ _ s ⟨rfl, fun _ => rfl⟩ ⟨rfl, fun _ => rfl⟩ ⟨rfl, fun _ => rfl⟩ ?_⟩
  split
  case isTrue config => exact ⟨by simp [kept_eq_still, conf_eq, ret_eq], fun open_ => absurd config open_⟩
  case isFalse => exact ⟨rfl, fun _ => rfl⟩

/-- CONFIG_WRITE changes the configuration in CONFIG alone. -/
theorem kept_exec_configWrite (item : Byte) (v : BitVec 16) (s : State) :
    ∃ t, exec (.configWrite item v) s = .next t ∧ t.kept = { s.kept with conf := t.conf }
      ∧ (s.mem.line ≠ .config → t.conf = s.conf) := by
  refine ⟨_, rfl, judge_cases (fun t => t.kept = { s.kept with conf := t.conf }
      ∧ (s.mem.line ≠ .config → t.conf = s.conf)) _ _ _ s ⟨rfl, fun _ => rfl⟩ ⟨rfl, fun _ => rfl⟩ ⟨rfl, fun _ => rfl⟩ ?_⟩
  split
  case isTrue config => exact ⟨by simp [kept_eq_still, conf_eq], fun open_ => absurd config open_⟩
  case isFalse => exact ⟨rfl, fun _ => rfl⟩

/-- What each command but RESET changes of `Kept`. -/
inductive State.Changes (s t : State) : Instr → Prop where
  | nothing {c} (kept : t.kept = s.kept) : s.Changes t c
  | pins {c} (edge : c.isPinEdge = true) (kept : t.kept = { s.kept with pins := t.pins }) : s.Changes t c
  | write {c} (write : c = .retentionWrite ∨ c = .retentionWriteEnd) (kept : t.kept = { s.kept with ret := t.ret }) :
    s.Changes t c
  | stages {c} (staging : c.isStaging = true) (stages : s.Stages t) : s.Changes t c
  | code {c} (code : ∃ h, c = .concession h ∨ c = .adopt h) (compares : s.Compares t) : s.Changes t c
  | counts {c} (port : c.isPort = true) (kept : t.kept = { s.kept with crcErrors := t.port.crcErrors })
    (bound : s.port.crcErrors ≤ 255 → t.port.crcErrors ≤ 255) : s.Changes t c
  | close (kept : t.kept = { s.kept with conf := t.conf, ret := t.ret })
    (closed : s.mem.line ≠ .config → t.conf = s.conf) : s.Changes t .configClose
  | config (item : Byte) (v : BitVec 16) (kept : t.kept = { s.kept with conf := t.conf })
    (closed : s.mem.line ≠ .config → t.conf = s.conf) : s.Changes t (.configWrite item v)

theorem exec_changes (c : Instr) (hc : ∀ a r b, c ≠ .reset a r b) (s : State) :
    ∃ t, exec c s = .next t ∧ s.Changes t c := by
  by_cases blocks : Instr.isBlocks c = true
  · obtain ⟨t, runs, still⟩ := still_exec_blocks blocks s
    exact ⟨t, runs, .nothing (by rw [kept_eq_still, still]; rfl)⟩
  by_cases plain : Instr.isPlain c = true
  · obtain ⟨t, runs, kept⟩ := kept_exec_plain plain s
    exact ⟨t, runs, .nothing kept⟩
  by_cases edge : c.isPinEdge = true
  · obtain ⟨t, runs, kept⟩ := kept_exec_pinEdge edge s
    exact ⟨t, runs, .pins edge kept⟩
  by_cases staging : c.isStaging = true
  · obtain ⟨t, runs, stages⟩ := kept_exec_staging staging s
    exact ⟨t, runs, .stages staging stages⟩
  cases c
  case retentionWrite =>
    obtain ⟨t, runs, kept⟩ := kept_exec_write (.inl rfl) s
    exact ⟨t, runs, .write (.inl rfl) kept⟩
  case retentionWriteEnd =>
    obtain ⟨t, runs, kept⟩ := kept_exec_write (.inr rfl) s
    exact ⟨t, runs, .write (.inr rfl) kept⟩
  case concession h =>
    obtain ⟨t, runs, compares⟩ := kept_exec_code ⟨h, .inl rfl⟩ s
    exact ⟨t, runs, .code ⟨h, .inl rfl⟩ compares⟩
  case adopt h =>
    obtain ⟨t, runs, compares⟩ := kept_exec_code ⟨h, .inr rfl⟩ s
    exact ⟨t, runs, .code ⟨h, .inr rfl⟩ compares⟩
  case portCrcError =>
    obtain ⟨t, runs, kept, bound⟩ := kept_exec_count (.inl rfl) s
    exact ⟨t, runs, .counts rfl kept bound⟩
  case readAlarms =>
    obtain ⟨t, runs, kept, bound⟩ := kept_exec_count (.inr rfl) s
    exact ⟨t, runs, .counts rfl kept bound⟩
  case configClose =>
    obtain ⟨t, runs, kept, closed⟩ := kept_exec_configClose s
    exact ⟨t, runs, .close kept closed⟩
  case configWrite item v =>
    obtain ⟨t, runs, kept, closed⟩ := kept_exec_configWrite item v s
    exact ⟨t, runs, .config item v kept closed⟩
  case reset a r b => exact absurd rfl (hc a r b)
  all_goals tauto

/-- The membership unit, the budget table and the booking list. -/
def State.lineSide (s : State) : Membership × BudgetTable × List Booking := (s.mem, s.bud, s.bookings)

/-- The slot taken is the head of the free list, and nothing but the list changes. -/
theorem takeSlot_eq_some {s t : State} {h : Handle} : s.takeSlot = some (h, t) ↔
    ∃ rest, s.store.freeList = h :: rest ∧ t = { s with store := { s.store with freeList := rest } } := by
  simp only [State.takeSlot]
  split <;> simp_all [eq_comm]

theorem lineSide_createRecord (steps : List StepEntry) (s : State) : (s.createRecord steps).lineSide = s.lineSide := by
  simp only [State.createRecord]
  split
  case h_1 => rfl
  case h_2 h t taken =>
    obtain ⟨rest, -, rfl⟩ := takeSlot_eq_some.mp taken
    simp [State.lineSide]

theorem lineSide_register (s : State) : s.register.lineSide = s.lineSide := by
  simp only [State.register]
  repeat' split
  case h_2.isFalse.isFalse => exact lineSide_createRecord _ _
  all_goals simp [State.lineSide]

theorem lineSide_exec_local {c : Instr} (hc : c.isLocal = true) (s : State) :
    ∃ t, exec c s = .next t ∧ t.lineSide = s.lineSide := by
  cases c <;> first | exact absurd hc Bool.false_ne_true | refine ⟨_, rfl, ?_⟩
  case portFrameShort => rfl
  case portCrcError => simp [State.lineSide]
  case register =>
    exact judge_keeps State.lineSide (fun _ _ _ => rfl) (fun _ => rfl) lineSide_register _ _ s
  case hold | scrap | rush | concession | adopt | readRecord =>
    refine judge_keeps State.lineSide (fun _ _ _ => rfl) (fun _ => rfl)
      (withRecord_keeps State.lineSide (fun _ _ _ => rfl) (fun h r u => ?_) _ _ _) _ _ s
    simp [State.lineSide]
  case unknownCommand | nop | stageWrite | stageRead | configWrite | arrived | removed
      | readPosition | readBudget | readPeer | readStation | readEvent | readAlarms | capacity =>
    refine judge_keeps State.lineSide (fun _ _ _ => rfl) (fun _ => rfl) (fun u => ?_) _ _ s
    simp only [State.lineSide]
    repeat' split
    all_goals simp
  all_goals
    simp only [State.lineSide]
    repeat' split
    all_goals simp

end Sys2Proof.Machine
end

section
/-! SUPPORT. Every step keeps the ranges; the configuration changes in CONFIG alone. -/

namespace Sys2Proof.Machine
open Host

/-- Settles O2. -/
theorem everyCommandCompletes : Obligations.EveryCommandCompletes := exec_completes

/-! ### The counters and buffers -/

/-- `Bounded` is `Small` together with three bounds on what `Kept` lists. -/
theorem bounded_iff (s : State) : Bounded s ↔
    s.Small ∧ Memory.wf s.staging = true ∧ s.store.attempts ≤ 5 ∧ s.port.crcErrors ≤ 255 := by
  simp only [Bounded, State.Small]
  tauto

theorem bounded_of_kept {s t : State} (h : t.kept = s.kept) (hs : Bounded s) (small : t.Small) : Bounded t := by
  obtain ⟨wf, attempts, -, crc, -⟩ := hs
  rw [State.kept, State.kept, Kept.mk.injEq] at h
  obtain ⟨-, -, -, staging, sameAttempts, sameCrc⟩ := h
  exact (bounded_iff t).mpr ⟨small, by rw [staging]; exact wf, by omega, by omega⟩

/-- A command other than RESET that keeps `Small` keeps `Bounded`. -/
theorem State.Changes.bounded {c : Instr} {s t : State} (h : s.Changes t c) (hs : Bounded s) (small : t.Small) :
    Bounded t := by
  obtain ⟨-, wf, attempts, crc⟩ := (bounded_iff s).mp hs
  rw [bounded_iff]
  refine ⟨small, ?_⟩
  cases h with
  | stages _ stages =>
    obtain ⟨kept, wfKept⟩ := stages
    simp only [State.kept, Kept.mk.injEq] at kept
    exact ⟨wfKept wf, by omega, by omega⟩
  | code _ compares =>
    obtain ⟨kept, lowered⟩ := compares
    simp only [State.kept, Kept.mk.injEq] at kept
    obtain ⟨-, -, -, staging, -, _⟩ := kept
    exact ⟨by rw [staging]; exact wf, by omega, by omega⟩
  | counts _ kept bound =>
    simp only [State.kept, Kept.mk.injEq] at kept
    obtain ⟨-, -, -, staging, _, -⟩ := kept
    exact ⟨by rw [staging]; exact wf, by omega, bound crc⟩
  | nothing kept | pins _ kept | write _ kept | close kept | config _ _ kept =>
    simp only [State.kept, Kept.mk.injEq] at kept
    obtain ⟨-, -, -, staging, _, _⟩ := kept
    exact ⟨by rw [staging]; exact wf, by omega, by omega⟩

theorem bounded_reset_exec (a : Addr) (r : Role) (b : BitVec 2) (s : State) :
    ∃ t, exec (.reset a r b) s = .next t ∧ Bounded t :=
  ⟨_, rfl, rfl, le_rfl, Nat.zero_le 16, Nat.zero_le 255, Nat.zero_le 32⟩

theorem bounded_exec (c : Instr) {s : State} (hs : Bounded s) : ∃ t, exec c s = .next t ∧ Bounded t := by
  by_cases reset : ∃ a r b, c = .reset a r b
  · obtain ⟨a, r, b, rfl⟩ := reset
    exact bounded_reset_exec a r b s
  · obtain ⟨t, runs, changes⟩ := exec_changes c (fun a r b e => reset ⟨a, r, b, e⟩) s
    obtain ⟨u, runs', small⟩ := small_exec c s ((bounded_iff s).mp hs).1
    obtain rfl : t = u := by simpa using runs.symm.trans runs'
    exact ⟨t, runs, changes.bounded hs small⟩

theorem bounded_tick {s : State} (hs : Bounded s) : Bounded s.tick :=
  bounded_of_kept (by rw [kept_eq_still, still_tick]; rfl) hs (small_tick s ((bounded_iff s).mp hs).1)

/-- Settles O4: a step is a command on the rest of the queue, or a tick. -/
theorem boundedKept : Obligations.BoundedKept := by
  intro s t hs runs
  rw [step] at runs
  split at runs
  case h_1 c rest _ =>
    have hs' : Bounded { s with pending := rest } := hs
    obtain ⟨u, runs', bounded⟩ := bounded_exec c hs'
    obtain rfl : t = u := by simpa using runs.symm.trans runs'
    exact bounded
  case h_2 =>
    obtain rfl : s.tick = t := by simpa using runs
    exact bounded_tick hs

/-! ### The configuration -/

theorem inRange_iff {lo hi : Nat} {v : BitVec 16} : inRange lo hi v = true ↔ lo ≤ v.toNat ∧ v.toNat ≤ hi := by
  simp [inRange]

theorem conf_restore (s : State) : s.restore.2.2.conf = s.conf := by
  obtain still | still := still_restore s <;> rw [conf_eq, still] <;> rfl

/-- The close leaves the configuration as its first step leaves it. -/
theorem conf_close (s : State) : s.close.conf = s.openPositions.conf := by
  simp only [State.close, State.ok, State.respond]
  rw [conf_eq]
  simp [conf_restore, ← conf_eq]

theorem items_tryClose (s : State) : s.tryClose.conf.items = s.conf.items := by
  simp only [State.tryClose]
  repeat' split
  case h_2 => rw [conf_close]; rfl
  all_goals rfl

theorem items_exec_configClose (s : State) : ∃ t, exec .configClose s = .next t ∧ t.conf.items = s.conf.items := by
  refine ⟨_, rfl, judge_keeps (fun u : State => u.conf.items) (fun _ _ _ => rfl) (fun _ => rfl) (fun u => ?_) _ _ s⟩
  split
  case isTrue => exact items_tryClose u
  case isFalse => rfl

section
variable {it new : Items}

theorem inRanges_writeCapacity {b : BudgetIx} {v : BitVec 16} (ranges : it.inRanges)
    (written : it.writeCapacity b v = some new) : new.inRanges := by
  simp only [Items.writeCapacity, inRange_iff] at written
  split at written
  case isFalse => cases written
  case isTrue low =>
    cases written
    obtain ⟨line, presence, capacities, rest⟩ := ranges
    refine ⟨line, presence, fun c => ?_, rest⟩
    have old := capacities c
    simp only [Fin.getElem_fin, Vector.getElem_set] at old ⊢
    split <;> omega

theorem inRanges_writeDraw {n : Nat} {v : BitVec 16} (ranges : it.inRanges)
    (written : it.writeDraw n v = some new) : new.inRanges := by
  simp only [Items.writeDraw, inRange_iff] at written
  split at written
  case h_2 => cases written
  case h_1 p b _ _ =>
    split at written
    case isFalse => cases written
    case isTrue low =>
      cases written
      obtain ⟨line, presence, capacities, count, draws, rest⟩ := ranges
      refine ⟨line, presence, capacities, count, fun q c => ?_, rest⟩
      have old := draws q c
      have other := draws p c
      by_cases samePosition : p = q
      · subst samePosition
        by_cases sameBudget : b = c
        · subst sameBudget
          simpa using low.2
        · have differs : b.val ≠ c.val := fun e => sameBudget (Fin.ext e)
          simpa [differs] using other
      · have differs : p.val ≠ q.val := fun e => samePosition (Fin.ext e)
        simpa [differs] using old

theorem inRanges_writeRoute {n : Nat} {v : BitVec 16} (ranges : it.inRanges)
    (written : it.writeRoute n v = some new) : new.inRanges := by
  simp only [Items.writeRoute] at written
  split at written
  case h_2 => cases written
  case h_1 => cases written; exact ranges

theorem inRanges_writeCode {digits : List Byte} (ranges : it.inRanges)
    (written : it.writeCode digits = some new) : new.inRanges := by
  simp only [Items.writeCode, List.all_eq_true, decide_eq_true_eq] at written
  split at written
  case isFalse => cases written
  case isTrue decimal =>
    cases written
    obtain ⟨line, presence, capacities, count, draws, lamp, pause, margin, -⟩ := ranges
    refine ⟨line, presence, capacities, count, draws, lamp, pause, margin, fun i => ?_⟩
    simp only [Fin.getElem_fin, Vector.getElem_ofFn, List.getD_eq_getElem?_getD]
    cases digit : digits[i.val]? with
    | none => exact Nat.zero_le 9
    | some d => exact decimal d (List.mem_of_getElem? digit)

/-- An item written is written in its range (R164). -/
theorem inRanges_write {item : Byte} {v : BitVec 16} {digits : List Byte} (ranges : it.inRanges)
    (written : it.write item v digits = some new) : new.inRanges := by
  simp only [Items.write, inRange_iff, Bool.and_eq_true, decide_eq_true_eq] at written
  obtain ⟨line, presence, capacities, count, draws, lamp, pause, margin, code⟩ := id ranges
  split at written
  case h_3 | h_4 | h_5 => exact inRanges_writeCapacity ranges written
  case h_10 => exact inRanges_writeCode ranges written
  case h_11 =>
    split at written
    case isTrue => exact inRanges_writeDraw ranges written
    case isFalse =>
      split at written
      case isTrue => exact inRanges_writeRoute ranges written
      case isFalse => cases written
  all_goals
    split at written
    case isFalse => cases written
    case isTrue low =>
      cases written
      simp only [Items.inRanges]
      tauto

end

theorem inRanges_initial : Items.initial.inRanges := by
  simp [Items.inRanges, Items.initial]

theorem inRanges_exec_configWrite (item : Byte) (v : BitVec 16) {s : State} (ranges : s.conf.items.inRanges) :
    ∃ t, exec (.configWrite item v) s = .next t ∧ t.conf.items.inRanges := by
  refine ⟨_, rfl, judge_cases (fun t => t.conf.items.inRanges) _ _ _ s ranges ranges ranges ?_⟩
  split
  case isFalse => exact ranges
  case isTrue =>
    simp only [State.configWrite]
    split
    case h_1 it written => exact inRanges_write ranges written
    case h_2 => exact ranges

theorem inRanges_exec (c : Instr) {s : State} (ranges : s.conf.items.inRanges) :
    ∃ t, exec c s = .next t ∧ t.conf.items.inRanges := by
  by_cases reset : ∃ a r b, c = .reset a r b
  · obtain ⟨a, r, b, rfl⟩ := reset
    exact ⟨_, rfl, inRanges_initial⟩
  obtain ⟨t, runs, changes⟩ := exec_changes c (fun a r b e => reset ⟨a, r, b, e⟩) s
  have of_conf (same : t.conf = s.conf) : ∃ t, exec c s = .next t ∧ t.conf.items.inRanges :=
    ⟨t, runs, by rw [same]; exact ranges⟩
  cases changes with
  | close =>
    obtain ⟨u, runs, items⟩ := items_exec_configClose s
    exact ⟨u, runs, by rw [items]; exact ranges⟩
  | config item v => exact inRanges_exec_configWrite item v ranges
  | nothing kept | pins _ kept | write _ kept | counts _ kept => exact of_conf (congrArg Kept.conf kept)
  | stages _ stages => exact of_conf (congrArg Kept.conf stages.1)
  | code _ compares => exact of_conf (congrArg Kept.conf compares.1)

/-- The configuration changes in CONFIG alone. -/
theorem State.Changes.conf {c : Instr} {s t : State} (h : s.Changes t c) (closed : s.mem.line ≠ .config) :
    t.conf = s.conf := by
  cases h with
  | close _ same | config _ _ _ same => exact same closed
  | nothing kept | pins _ kept | write _ kept | counts _ kept => exact congrArg Kept.conf kept
  | stages _ stages => exact congrArg Kept.conf stages.1
  | code _ compares => exact congrArg Kept.conf compares.1

/-- Settles O6. -/
theorem configurationKept : Obligations.ConfigurationKept := by
  refine ⟨fun c s t closed noReset runs => ?_, inRanges_initial, fun c s t ranges runs => ?_⟩
  · obtain ⟨u, runs', changes⟩ := exec_changes c noReset s
    obtain rfl : t = u := by simpa using runs.symm.trans runs'
    exact changes.conf closed
  · obtain ⟨u, runs', kept⟩ := inRanges_exec c ranges
    obtain rfl : t = u := by simpa using runs.symm.trans runs'
    exact kept
end Sys2Proof.Machine
end

section
/-! SUPPORT. What each kind of command leaves alone. -/

namespace Sys2Proof.Machine
open Host

/-! ### What each kind of command leaves alone -/

/-- The responses of the port and its count of CRC errors, which only the port's commands touch. -/
def State.responses (s : State) : Response × Option Response × Nat :=
  (s.port.prepared, s.port.delivered, s.port.crcErrors)

theorem responses_eq_still (s : State) :
    s.responses = (s.still.2.2.2.2.2.2.1, s.still.2.2.2.2.2.2.2.1, s.still.2.2.2.2.2.2.2.2) := rfl

theorem responses_enterSaving (s : State) : s.enterSaving.responses = s.responses := by
  simp [responses_eq_still]

theorem responses_exec {c : Instr} (hc : c.isPort = false) (noReset : ∀ a r b, c ≠ .reset a r b) (s : State) :
    ∃ t, exec c s = .next t ∧ t.responses = s.responses := by
  by_cases blocks : Instr.isBlocks c = true
  · obtain ⟨t, runs, still⟩ := still_exec_blocks blocks s
    exact ⟨t, runs, by rw [responses_eq_still, still]; rfl⟩
  cases c <;> first | exact absurd rfl blocks | exact absurd hc.symm Bool.false_ne_true | refine ⟨_, rfl, ?_⟩
  case reset a r b => exact absurd rfl (noReset a r b)
  case powerFailWarning =>
    simp only [State.powerFail]
    split
    case isTrue => exact responses_enterSaving _
    case isFalse => rfl
  case pfwDeasserted => rfl
  case retentionWrite =>
    simp only [State.beginWrite]
    split <;> rfl
  case retentionWriteEnd =>
    simp only [State.endWrite]
    split
    case isTrue =>
      simp only [responses_eq_still, still_setLine, still_clearTx]
      rfl
    case isFalse => rfl
  case ilkOpen | ilkClose =>
    split
    case isTrue => simp [responses_eq_still]
    case isFalse => rfl

theorem State.Changes.staging {c : Instr} {s t : State} (h : s.Changes t c) (hc : c.isStaging = false) :
    t.staging = s.staging := by
  cases h with
  | stages staging => exact absurd (hc.symm.trans staging) Bool.false_ne_true
  | nothing kept | pins _ kept | write _ kept | counts _ kept | close kept | config _ _ kept =>
    exact congrArg Kept.staging kept
  | code _ compares => exact congrArg Kept.staging compares.1

theorem State.Changes.ret {c : Instr} {s t : State} (h : s.Changes t c) (hc : c.isRetention = false) :
    t.ret = s.ret := by
  cases h with
  | write write => obtain rfl | rfl := write <;> cases hc
  | close => cases hc
  | nothing kept | pins _ kept | counts _ kept | config _ _ kept => exact congrArg Kept.ret kept
  | stages _ stages => exact congrArg Kept.ret stages.1
  | code _ compares => exact congrArg Kept.ret compares.1

theorem State.Changes.pins_eq {c : Instr} {s t : State} (h : s.Changes t c) (hc : c.isPinEdge = false) :
    t.pins = s.pins := by
  cases h with
  | pins edge => exact absurd (hc.symm.trans edge) Bool.false_ne_true
  | nothing kept | write _ kept | counts _ kept | close kept | config _ _ kept => exact congrArg Kept.pins kept
  | stages _ stages => exact congrArg Kept.pins stages.1
  | code _ compares => exact congrArg Kept.pins compares.1

theorem State.Changes.attempts {c : Instr} {s t : State} (h : s.Changes t c) :
    t.store.attempts = s.store.attempts
      ∨ (∃ h, c = .concession h ∨ c = .adopt h) ∧ t.store.attempts + 1 = s.store.attempts := by
  cases h with
  | code code compares => exact compares.2.imp_right fun lowered => ⟨code, lowered⟩
  | nothing kept | pins _ kept | write _ kept | counts _ kept | close kept | config _ _ kept =>
    exact .inl (congrArg Kept.attempts kept)
  | stages _ stages => exact .inl (congrArg Kept.attempts stages.1)

/-- Settles O7, clause by clause. -/
theorem blocksKept : Obligations.BlocksKept := by
  intro c s t runs
  split
  case h_1 =>
    cases runs
    rfl
  case h_2 _ noReset =>
    obtain ⟨u, runs', changes⟩ := exec_changes c noReset s
    obtain rfl : t = u := by simpa using runs.symm.trans runs'
    refine ⟨fun notPort => ?_, changes.staging, changes.ret, changes.pins_eq, fun isLocal => ?_, changes.attempts⟩
    · obtain ⟨u, runs', responses⟩ := responses_exec notPort noReset s
      obtain rfl : t = u := by simpa using runs.symm.trans runs'
      simpa [State.responses] using responses
    · obtain ⟨u, runs', lineSide⟩ := lineSide_exec_local isLocal s
      obtain rfl : t = u := by simpa using runs.symm.trans runs'
      simpa [State.lineSide] using lineSide
end Sys2Proof.Machine
end

section
/-! SUPPORT. The port's frames and the judgement of a command (R178 to R182). -/

namespace Sys2Proof.Machine
open Host

/-! ### The port's frames -/

theorem portTransaction_short {bits : List Bool} (short : bits.length < 40) :
    portTransaction bits = .portFrameShort bits.length := by
  simp [portTransaction, short]

theorem portTransaction_last_forty (early : List Bool) {frame : List Bool} (forty : frame.length = 40) :
    portTransaction (early ++ frame) = portFrame frame := by
  simp [portTransaction, forty]

theorem exec_portCrcError (s : State) : exec .portCrcError s = .next
    { s.answered .crcError (BitVec.ofNat 24 (min 255 (s.port.crcErrors + 1))) with
      port := { (s.answered .crcError (BitVec.ofNat 24 (min 255 (s.port.crcErrors + 1)))).port with
        crcErrors := min 255 (s.port.crcErrors + 1)
        alarms := { s.port.alarms with portFault := s.port.alarms.portFault || decide (s.port.crcErrors = 7) } } } := by
  change Outcome.next (State.respond .crcError _ s.deliver.countCrcError) = _
  rw [crcErrors_countCrcError]
  by_cases eighth : s.port.crcErrors = 7
  · simp [State.countCrcError, State.deliver, State.alarm, State.respond, State.answered, eighth]
  · simp [State.countCrcError, State.deliver, State.respond, State.answered, eighth]

/-- Settles O8. -/
theorem portFramesJudged : Obligations.PortFramesJudged := by
  refine ⟨fun _ => portTransaction_short, fun early _ => portTransaction_last_forty early,
    fun s => ⟨rfl, rfl, fun sdi selected => ?_, fun rst sdi idle => ?_, fun n selected => ?_, fun rst n idle => ?_⟩,
    fun _ _ => rfl, exec_portCrcError, rfl, rfl⟩
  · simp [State.sckRises, selected]
  · obtain rfl | high := idle
    · simp [State.sckRises]
    · simp [State.sckRises, high]
  · simp [State.sdoPin, selected, responseBits]
  · obtain rfl | high := idle
    · simp [State.sdoPin]
    · simp [State.sdoPin, high]

/-! ### The judgement of a command (R182) -/

theorem word24_zeros (code : Byte) : word24 code 0 0 = code ++ (0 : BitVec 16) := by
  apply BitVec.eq_of_toNat_eq
  change (code ++ 0#8 ++ 0#8).toNat = (code ++ 0#16).toNat
  simp only [BitVec.toNat_append, Nat.shiftLeft_eq, BitVec.toNat_ofNat, Nat.zero_mod, Nat.or_zero]
  omega

theorem stationPart_none {s : State} {part : Byte} (out : 6 < part.toNat) : s.stationPart part = none := by
  simp only [State.stationPart]
  split
  case h_8 => rfl
  all_goals omega

/-- In SAVING and DORMANT every port command is answered alike (R182, lines 1 and 2). -/
theorem exec_portCommand_saving {s : State} (saving : s.mem.line = .saving) (code a2 a1 a0 : Byte) :
    exec (portCommand code a2 a1 a0) s = .next (s.answered .busy 0) := by
  unfold portCommand
  split
  all_goals exact congrArg Outcome.next (judge_saving s saving _ _ _)

theorem exec_portCommand_dormant {s : State} (dormant : s.mem.line = .dormant) (code a2 a1 a0 : Byte) :
    exec (portCommand code a2 a1 a0) s = .next (s.answered .dormant 0) := by
  unfold portCommand
  split
  all_goals exact congrArg Outcome.next (judge_dormant s dormant _ _ _)

theorem exec_portCommand_unknown {s : State} (awake : s.mem.line ≠ .saving) (live : s.mem.line ≠ .dormant)
    {code : Byte} (unknown : code ∉ commandCodes) (a2 a1 a0 : Byte) :
    exec (portCommand code a2 a1 a0) s = .next (s.answered .unknownCommand (code ++ (0 : BitVec 16))) := by
  rw [portCommand_unknown code a2 a1 a0 unknown]
  refine (congrArg Outcome.next (judge_open s awake live _ _)).trans ?_
  rw [respond_deliver]
  rw [word24_zeros]

/-- In CONFIG every command but eight is NOT_OPEN, with the attempt count where it compares the code (R182, line 4). -/
theorem exec_portCommand_config {s : State} (config : s.mem.line = .config) {code : Byte} (known : code ∈ commandCodes)
    (closed : code ∉ ([0x00, 0x01, 0x02, 0x10, 0x11, 0x34, 0x35, 0x36] : List Byte)) (a2 a1 a0 : Byte) :
    exec (portCommand code a2 a1 a0) s = .next (s.answered .refused
      ((19 : Byte) ++ (0 : Byte) ++ (if code = 0x24 ∨ code = 0x26 then byte s.store.attempts else 0))) := by
  have refused (low : Byte) (own : State → State) : Outcome.next (s.judge false low own) =
      (.next (s.answered .refused ((19 : Byte) ++ (0 : Byte) ++ low)) : Result) :=
    congrArg Outcome.next (judge_config s config low own)
  simp only [commandCodes, List.mem_cons, List.not_mem_nil, or_false] at known closed
  obtain rfl | rfl | rfl | rfl | rfl | rfl | rfl | rfl | rfl | rfl | rfl | rfl | rfl | rfl | rfl | rfl | rfl | rfl | rfl
    | rfl | rfl | rfl | rfl := known
  all_goals first
    | exact absurd (by decide) closed
    | exact refused _ _

/-- An argument out of range is answered BAD_ARGUMENT with the command's code (R181). -/
theorem judge_withRecord_out {s : State} (active : s.isActive = true) {x : Byte} (out : 31 < x.toNat) (low code : Byte)
    (own : Handle → Record → State → State) :
    s.judge false low (State.withRecord code x low own) = s.answered .badArgument (word24 code 0 0) := by
  rw [judge_active s active, withRecord_out _ _ _ _ _ out]
  rfl

theorem judge_withRecord_none {s : State} (active : s.isActive = true) {h : Handle} (free : s.rec? h = none)
    (low code : Byte) (own : Handle → Record → State → State) :
    s.judge false low (State.withRecord code (byte h.val) low own) = s.answered .refused (word24 5 0 low) := by
  rw [judge_active s active, withRecord_none _ _ _ _ _ (by simpa using free)]
  rfl

theorem judge_withRecord_some {s : State} (active : s.isActive = true) {h : Handle} {r : Record}
    (stands : s.rec? h = some r) (low code : Byte) (own : Handle → Record → State → State) :
    s.judge false low (State.withRecord code (byte h.val) low own) = own h r s.deliver := by
  rw [judge_active s active, withRecord_some _ _ _ _ _ _ (by simpa using stands)]

/-- Settles O9. -/
theorem commandsJudged : Obligations.CommandsJudged := by
  refine ⟨fun code a2 a1 a0 s => ⟨fun saving => exec_portCommand_saving saving code a2 a1 a0,
      fun dormant => exec_portCommand_dormant dormant code a2 a1 a0,
      fun awake live unknown => exec_portCommand_unknown awake live unknown a2 a1 a0,
      fun config known closed => exec_portCommand_config config known closed a2 a1 a0⟩,
    fun x w s active => ⟨fun out => ?_, fun out => ?_, fun out => ?_, fun out => ?_, fun out => ?_, fun out => ?_⟩,
    fun h s active free => ?_⟩
  · refine ⟨?_, ?_, ?_, ?_, ?_, ?_⟩
    all_goals exact congrArg Outcome.next (judge_withRecord_out active out _ _ _)
  · refine ⟨?_, ?_, ?_⟩
    all_goals
      refine congrArg Outcome.next ((judge_active s active _ _ _).trans ?_)
      rw [posArg_none _ _ (by simpa using out)]
      rfl
  · refine congrArg Outcome.next ((judge_active s active _ _ _).trans ?_)
    split
    case h_1 b inRange =>
      split
      case isTrue => rfl
      case isFalse low =>
        obtain high | high := out
        · cases (finOf_none (n := 3) x high).symm.trans inRange
        · exact absurd high low
    case h_2 => rfl
  · refine congrArg Outcome.next ((judge_active s active _ _ _).trans ?_)
    rw [finOf_none (n := 3) x out]
    rfl
  · refine congrArg Outcome.next ((judge_active s active _ _ _).trans ?_)
    rw [finOf_none (n := 16) x out]
    rfl
  · refine congrArg Outcome.next ((judge_active s active _ _ _).trans ?_)
    rw [stationPart_none out]
    rfl
  · refine ⟨?_, ?_, ?_, ?_, ?_, ?_⟩
    all_goals
      exact congrArg Outcome.next (judge_withRecord_none active free _ _ _)
end Sys2Proof.Machine
end

section
/-! SUPPORT. The staging buffer, the event queue, ATTN and the low-water mark (R13, R183 to R189). -/

namespace Sys2Proof.Machine
open Host

/-! ### The staging buffer (R183) -/

theorem exec_open {s : State} (awake : s.mem.line ≠ .saving) (live : s.mem.line ≠ .dormant) {low : Byte}
    {own : State → State} {t : State} (runs : own s.deliver = t) :
    (.next (s.judge true low own) : Result) = .next t :=
  congrArg Outcome.next ((judge_open s awake live low own).trans runs)

theorem exec_active {s : State} (active : s.isActive = true) {inConfig : Bool} {low : Byte}
    {own : State → State} {t : State} (runs : own s.deliver = t) :
    (.next (s.judge inConfig low own) : Result) = .next t :=
  congrArg Outcome.next ((judge_active s active inConfig low own).trans runs)

/-- Two bytes written one behind the other. -/
theorem read_stageWrite {m : Memory} (wf : Memory.wf m = true) {index : Nat} (inside : index ≤ 126) (first second : Byte)
    (a : Nat) : Memory.read (Memory.writeList m index [first, second]) a =
      if a = index then first else if a = index + 1 then second else Memory.read m a := by
  rw [Memory.read_writeList _ _ _ _ (by simpa using inside) wf]
  by_cases here : a = index
  · subst here; simp
  · by_cases next : a = index + 1
    · subst next; simp
    · have outside : ¬(index ≤ a ∧ a < index + [first, second].length) := by simp; omega
      rw [if_neg outside, if_neg here, if_neg next]

/-- Settles O10. -/
theorem stagingReadsAndWrites : Obligations.StagingReadsAndWrites := by
  refine ⟨fun index first second s awake live wf => ⟨fun inside => ⟨?_, ?_⟩, fun outside => ⟨?_, ?_⟩⟩,
    fun bs s fits wf a => ?_⟩
  · exact ⟨Memory.writeList s.staging index.toNat [first, second], exec_open awake live (if_pos inside),
      Memory.wf_writeList _ _ _ (by simpa using inside) wf, read_stageWrite wf inside first second⟩
  · exact exec_open awake live (if_pos inside)
  · refine exec_open awake live ((if_neg (by omega)).trans ?_)
    rw [← word24_zeros]; rfl
  · refine exec_open awake live ((if_neg (by omega)).trans ?_)
    rw [← word24_zeros]; rfl
  · simp only [State.stage]
    rw [Memory.read_writeList _ _ _ _ (by simp) wf, List.take_of_length_le fits]
    simp

/-! ### Events (R186, R187, R189) -/

theorem length_eventBytes (e : Event) : e.bytes.length = 13 := by
  cases tag : e.tag <;> simp [Event.bytes, tagBytes?, tag, tagBytes, bytes16, bytes32]

theorem stage_fits {bs : List Byte} (fits : bs.length ≤ 128) (s : State) :
    s.stage bs = { s with staging := Memory.writeList s.staging 0 bs } := by
  rw [State.stage, List.take_of_length_le fits]

/-- Settles O11. -/
theorem readEventTakesOldest : Obligations.ReadEventTakesOldest := by
  refine ⟨fun e rest s awake live queue => ?_, fun s awake live queue => ?_, length_eventBytes⟩
  · refine exec_open awake live ?_
    change (match s.port.events with | e :: rest => _ | [] => _) = _
    rw [queue]
    have fits : e.bytes.length ≤ 128 := by rw [length_eventBytes]; decide
    simp only [stage_fits fits]
    rfl
  · refine exec_open awake live ?_
    change (match s.port.events with | e :: rest => _ | [] => _) = _
    rw [queue]
    rfl

theorem attn_iff (s : State) : State.attnPin false s = false ↔ s.port.events ≠ [] ∨ s.port.alarms.portFault = true
    ∨ s.port.alarms.eventOverflow = true ∨ s.port.alarms.lineTxFault = true ∨ s.port.alarms.lineRxFault = true
    ∨ s.port.alarms.retentionLost = true ∨ s.port.alarms.retentionMismatch = true
    ∨ s.port.alarms.concessionLocked = true ∨ s.port.alarms.configMismatch = true := by
  simp only [State.attnPin, State.attn, alarmAny, Bool.false_or, Bool.not_eq_false', Bool.or_eq_true,
    Bool.not_eq_true', List.isEmpty_eq_false_iff, or_assoc, ne_eq]

theorem post_silent {s : State} (still : s.mem.line = .saving ∨ s.mem.line = .dormant) (e : Event) : s.post e = s := by
  obtain line | line := still <;> simp [State.post, line]

theorem post_awake {s : State} (awake : s.mem.line ≠ .saving) (live : s.mem.line ≠ .dormant) (e : Event) :
    s.post e = if s.port.events.length < 32 then { s with port := { s.port with events := s.port.events ++ [e] } }
      else s.alarm fun a => { a with eventOverflow := true } := by
  cases line : s.mem.line <;> simp_all [State.post]

theorem judgeSlots_low {s : State} (low : s.freeCount ≤ 4) (unmarked : s.store.lowIndication = false) : s.judgeSlots =
    State.post (stationEvent .slotsLow s.freeCount) { s with store := { s.store with lowIndication := true } } := by
  simp [State.judgeSlots, low, unmarked]

theorem judgeSlots_ok {s : State} (enough : 4 < s.freeCount) (marked : s.store.lowIndication = true) : s.judgeSlots =
    State.post (stationEvent .slotsOk s.freeCount) { s with store := { s.store with lowIndication := false } } := by
  simp [State.judgeSlots, Nat.not_le.mpr enough, marked]

theorem judgeSlots_same {s : State} (same : s.freeCount ≤ 4 ↔ s.store.lowIndication = true) : s.judgeSlots = s := by
  by_cases low : s.freeCount ≤ 4
  · simp [State.judgeSlots, low, same.mp low]
  · simp [State.judgeSlots, low, mt same.mpr low]

/-- Settles O14. -/
theorem eventsPosted : Obligations.EventsPosted :=
  ⟨fun e s => ⟨attn_iff s, fun still => post_silent still e,
      fun awake live room => (post_awake awake live e).trans (if_pos room),
      fun awake live full => (post_awake awake live e).trans (if_neg (by omega))⟩,
    fun _ => ⟨judgeSlots_low, judgeSlots_ok, judgeSlots_same⟩⟩
end Sys2Proof.Machine
end

section
/-! SUPPORT. The reading commands (R19, R50, R116, R137, R180, R185, R188). -/

namespace Sys2Proof.Machine
open Host

/-! ### The reading commands (R19, R50, R116, R137, R180, R185, R188) -/

theorem exec_withRecord {s : State} (active : s.isActive = true) {h : Handle} {r : Record} (stands : s.rec? h = some r)
    {low code : Byte} {own : Handle → Record → State → State} {t : State} (runs : own h r s.deliver = t) :
    (.next (s.judge false low (State.withRecord code (byte h.val) low own)) : Result) = .next t :=
  congrArg Outcome.next ((judge_withRecord_some active stands low code own).trans runs)

theorem exec_readRecord {s : State} (active : s.isActive = true) {h : Handle} {r : Record} (stands : s.rec? h = some r) :
    exec (.readRecord (byte h.val)) s = .next ((s.stage (recordImage r)).answered .ok
      (recStateCode r.state ++ (0 : Byte) ++ byte (recordImage r).length)) := by
  refine (exec_withRecord (low := 0) (code := 0x30) (own := fun _ r s =>
    (s.stage (recordImage r)).ok (recStateCode r.state) 0 (byte (recordImage r).length)) active stands rfl).trans ?_
  simp only [stage_deliver, ok_deliver, word24]

theorem books_mem {s : State} {before after : List Booking} {b : Booking} (books : s.Books before b after) :
    b ∈ s.bookings := by
  rw [books.1]; simp

/-- Entry b is the first for its position, as the only one (R146). -/
theorem find_position {s : State} {before after : List Booking} {b : Booking} (books : s.Books before b after) :
    s.bookings.find? (fun x => decide (x.position = b.position)) = some b := by
  obtain ⟨list, only⟩ := books
  rw [list, List.find?_append, List.find?_eq_none.mpr fun x m => by
    simpa using (only x (List.mem_append_left _ m)).1]
  simp

theorem positionHandle_booked {s : State} {p : PosIx} (booked : (s.pos p).state = .booked) {before after : List Booking}
    {b : Booking} (books : s.Books before b after) (here : b.position = p) : s.positionHandle p = some b.slot := by
  subst here
  simp [State.positionHandle, booked, find_position books]

theorem positionHandle_unbooked {s : State} {p : PosIx} (booked : (s.pos p).state = .booked)
    (absent : ∀ b ∈ s.bookings, b.position ≠ p) : s.positionHandle p = none := by
  simpa [State.positionHandle, booked] using absent

theorem positionHandle_link {s : State} {p : PosIx} (other : (s.pos p).state ≠ .booked) :
    s.positionHandle p = (s.pos p).link := by
  simp [State.positionHandle, other]

theorem exec_readPosition {s : State} (active : s.isActive = true) {p : PosIx} (live : p.val < s.conf.posCount)
    {handle : Option Handle} (gives : s.positionHandle p = handle) :
    exec (.readPosition (byte p.val)) s = .next ((s.stage (s.positionBytes p)).answered .ok
      (posStateCode (s.pos p).state ++ fin255 handle ++ claimStateCode (s.pos p).claim)) := by
  subst gives
  refine exec_active active ?_
  rw [posArg_some _ _ (by simpa using live)]
  rfl

theorem exec_readStation {s : State} (awake : s.mem.line ≠ .saving) (live : s.mem.line ≠ .dormant) {part : Byte}
    {bs : List Byte} (bytes : s.stationPart part = some bs) :
    exec (.readStation part) s = .next ((s.stage bs).answered .ok
      (lineStateCode s.mem.line ++ byte s.freeCount ++ byte s.port.events.length)) := by
  refine exec_open awake live ?_
  have delivered : s.deliver.stationPart part = some bs := bytes
  rw [delivered]
  rfl

/-- Settles O13. -/
theorem readingCommandsReport : Obligations.ReadingCommandsReport := by
  refine ⟨fun s active => ⟨fun h r stands => ?_, fun p live => ⟨fun booked => ⟨fun before b after books here => ?_,
      fun absent => ?_⟩, fun other => ⟨fun h link => ?_, fun link => ?_⟩⟩, fun b joined => ?_, fun b away => ?_,
      fun a => ?_⟩, fun part bs s awake live bytes => exec_readStation awake live bytes, fun s awake live => ?_,
    fun s awake live => ?_⟩
  · exact exec_readRecord active stands
  · exact exec_readPosition (handle := some b.slot) active live (positionHandle_booked booked books here)
  · exact exec_readPosition (handle := none) active live (positionHandle_unbooked booked absent)
  · exact exec_readPosition (handle := some h) active live ((positionHandle_link other).trans link)
  · exact exec_readPosition (handle := none) active live ((positionHandle_link other).trans link)
  · refine exec_active active ?_
    rw [finOf_budget]
    exact if_pos joined
  · refine exec_active active ?_
    rw [finOf_budget]
    exact if_neg (by simp [away])
  · refine exec_active active ?_
    rw [finOf_addr]
    rfl
  · exact exec_open awake live rfl
  · exact exec_open awake live rfl
end Sys2Proof.Machine
end

section
/-! SUPPORT. The bytes of each report (R194, 10.5, 10.6): blocks of one width behind each other, and the parts made of them. -/

namespace Sys2Proof.Machine

/-! ### Blocks of one width -/

section
variable {α β : Type}

theorem length_flatMap_width {w : Nat} {f : α → List β} (width : ∀ x, (f x).length = w) (l : List α) :
    (l.flatMap f).length = w * l.length := by
  induction l with
  | nil => rfl
  | cons x l ih => simp [width, ih, Nat.mul_succ, Nat.add_comm]

/-- The i-th block of a run of blocks of one width. -/
theorem take_drop_flatMap {w : Nat} {f : α → List β} (width : ∀ x, (f x).length = w) {l : List α} {i : Nat} {x : α}
    (at_i : l[i]? = some x) : ((l.flatMap f).drop (w * i)).take w = f x := by
  induction l generalizing i with
  | nil => simp at at_i
  | cons y l ih =>
    cases i with
    | zero =>
      obtain rfl : y = x := by simpa using at_i
      simp [← width y]
    | succ i =>
      have later : l[i]? = some x := by simpa using at_i
      rw [List.flatMap_cons, Nat.mul_succ, Nat.add_comm, ← List.drop_drop, ← width y, List.drop_left, width y]
      exact ih later

theorem getElem?_flatMap {w : Nat} {f : α → List β} (width : ∀ x, (f x).length = w) {l : List α} {i j : Nat} {x : α}
    (at_i : l[i]? = some x) (inside : j < w) : (l.flatMap f)[w * i + j]? = (f x)[j]? := by
  rw [← take_drop_flatMap width at_i, List.getElem?_take_of_lt inside, List.getElem?_drop]

end

theorem handles_getElem? (h : Handle) : handles[h.val]? = some h := by simp [handles]

/-- The configured positions are the first ones. -/
theorem livePositions_eq_take (s : State) : s.livePositions = positions.take s.conf.posCount := by
  simp only [State.livePositions]
  generalize s.conf.posCount = n
  obtain few | many := Nat.lt_or_ge n 8
  · interval_cases n <;> rfl
  · rw [List.take_of_length_le (by simpa [positions] using many), List.filter_eq_self]
    exact fun p _ => decide_eq_true (p.isLt.trans_le many)

theorem livePositions_getElem? {s : State} {p : PosIx} (live : p.val < s.conf.posCount) :
    s.livePositions[p.val]? = some p := by
  rw [livePositions_eq_take, List.getElem?_take_of_lt live]
  simp [positions]

theorem vector3_toList {α : Type} (v : Vector α 3) : v.toList = [v[0], v[1], v[2]] := by
  apply List.ext_getElem (by simp)
  intro i h1 h2
  have : i < 3 := by simpa using h2
  interval_cases i <;> simp

/-! ### The parts of READ_STATION -/

section
variable (s : State) (h : Handle)

theorem part0_slot : s.part0[h.val]? = some (match (s.slot h).state with | .free => 0 | .reserved => 1 | .inUse _ => 2) := by
  simp only [State.part0, List.append_assoc]
  rw [List.getElem?_append_left (by simp [handles]), List.getElem?_map, handles_getElem?, Option.map_some]
  cases (s.slot h).state <;> rfl

theorem part0_record : s.part0[32 + h.val]? = some (match s.rec? h with | some r => recStateCode r.state | none => 255) := by
  simp only [State.part0, List.append_assoc]
  rw [List.getElem?_append_right (by simp [handles])]
  have offset : 32 + h.val - (handles.map fun g => slotStateCode (s.slot g).state).length = h.val := by simp [handles]
  rw [offset, List.getElem?_append_left (by simp [handles]), List.getElem?_map, handles_getElem?, Option.map_some]
  cases s.rec? h <;> rfl

theorem part0_arrivals :
    s.part0.drop 64 = byte s.arrivalQueue.length :: s.arrivalQueue.map fun h => byte h.val := by
  rw [State.part0]
  exact List.drop_left' (by simp [handles])

theorem part1_position {p : PosIx} (live : p.val < s.conf.posCount) :
    (s.part1.drop (2 * p.val)).take 2 = [posStateCode (s.pos p).state, claimStateCode (s.pos p).claim] :=
  take_drop_flatMap (f := fun p => [posStateCode (s.pos p).state, claimStateCode (s.pos p).claim]) (fun _ => rfl)
    (livePositions_getElem? live)

theorem length_part1 : s.part1.length = 2 * min 8 s.conf.posCount := by
  rw [State.part1, length_flatMap_width (w := 2) (fun _ => rfl), livePositions_eq_take]
  simp [positions, Nat.min_comm]

theorem part2_eq : s.part2 = [byte s.lbi.rxErrors, if s.lbi.listenOnly then 1 else 0, byte s.lbi.tx.length,
    match s.txNext with | some e => byte e.voids | none => 255] := by
  simp only [State.part2, byteOfBool]
  cases s.txNext <;> rfl

theorem backoffLeft_eq : s.backoffLeft = if s.mem.line = .detached then
    (match s.mem.backoff with | some n => 2 * s.conf.items.presence - n | none => 0) else 0 := by
  cases line : s.mem.line <;> cases timer : s.mem.backoff <;> simp [State.backoffLeft, line, timer, State.timesP]

theorem part3_eq : s.part3 = [byte s.conf.address.val, roleCode s.conf.role]
    ++ bytes16 (if s.mem.line = .joined then (s.peer s.conf.address).epoch else 0) ++ bytes16 s.mem.lastEpoch
    ++ [byte s.mem.buffer.length, byte s.mem.joinQueue.length,
        match s.mem.serving with | some v => byte v.joiner.val | none => 255]
    ++ bytes32 (BitVec.ofNat 32 (if s.mem.line = .detached then
        (match s.mem.backoff with | some n => 2 * s.conf.items.presence - n | none => 0) else 0)) := by
  rw [State.part3, backoffLeft_eq]
  simp only [State.isJoined, decide_eq_true_eq, State.ownEpoch]
  cases s.mem.serving <;> rfl

theorem length_bookerBytes (b : BookerState) : (bookerBytes b).length = 4 := by cases b <;> rfl

theorem part4_record : (s.part4.drop (4 * h.val)).take 4 = (match s.rec? h with
    | some r => match r.booking with
      | .none => [0, 0, 255, 255]
      | .asking k a => [1, byte k, byte a.val, 255]
      | .held a q => [2, 0, byte a.val, byte q.val]
    | none => [0, 0, 255, 255]) := by
  rw [State.part4, take_drop_flatMap (fun _ => length_bookerBytes _) (handles_getElem? h)]
  cases s.rec? h with
  | none => rfl
  | some r => cases booking : r.booking <;> simp [booking, bookerBytes]

theorem length_part4 : s.part4.length = 128 := by
  rw [State.part4, length_flatMap_width fun _ => length_bookerBytes _]
  simp [handles]

theorem answerCount_eq : s.answerCount = (s.lbi.tx.filter fun e => ∃ i, e.origin = .answer i).length := by
  rw [State.answerCount]
  congr 2
  funext e
  cases e.origin <;> simp

theorem length_bookingReport (b : Booking) : b.report.length = 11 := by
  simp [Booking.report, tagBytes, bytes16]

theorem bookingReport_eq (b : Booking) : b.report = tagBytes b.tag ++ [byte b.booker.val, byte b.position.val,
    byte b.slot.val, match b.status with | .offered => 0 | .standing => 1 | .assembling _ => 2 | .closing _ _ => 3]
    ++ bytes16 (BitVec.ofNat 16 (b.hold - b.timer / 1000)) := by
  rw [Booking.report]
  cases b.status <;> rfl

theorem part5_counts : s.part5.take 3 = [byte (s.lbi.tx.filter fun e => ∃ i, e.origin = .answer i).length,
    byte (s.bookings.filter fun b => b.isAssembling).length, byte s.bookings.length] := by
  rw [State.part5, answerCount_eq]
  exact List.take_left' rfl

theorem part5_booking {i : Nat} {b : Booking} (at_i : s.bookings[i]? = some b) :
    (s.part5.drop (3 + 11 * i)).take 11 = b.report := by
  have behind : s.part5.drop 3 = s.bookings.flatMap Booking.report := List.drop_left' rfl
  rw [← List.drop_drop, behind]
  exact take_drop_flatMap length_bookingReport at_i

theorem length_part5 : s.part5.length = 3 + 11 * s.bookings.length := by
  rw [State.part5, List.length_append, length_flatMap_width length_bookingReport]
  rfl


/-! ### Part 6, the configuration -/

/-- The thirteen bytes before the draws. -/
def State.part6Front (s : State) : List Byte :=
  [byte s.conf.address.val, roleCode s.conf.role, s.conf.rate.setWidth 8, byte s.conf.items.lineNumber]
    ++ bytes16 (BitVec.ofNat 16 s.conf.items.presence) ++ bytes16 (BitVec.ofNat 16 s.conf.items.initialCapacities[0])
    ++ bytes16 (BitVec.ofNat 16 s.conf.items.initialCapacities[1])
    ++ bytes16 (BitVec.ofNat 16 s.conf.items.initialCapacities[2]) ++ [byte s.conf.items.positionCount]

/-- The draws, three bytes to a position. -/
def State.part6Draws (s : State) : List Byte := s.conf.items.draws.toList.flatMap fun d => d.toList.map byte

/-- The routes, four bytes to a role. -/
def State.part6Routes (s : State) : List Byte := s.conf.items.routes.toList.flatMap fun r => r.toList.map fin255

/-- The bytes behind the routes. -/
def State.part6Rest (s : State) : List Byte :=
  [byte s.conf.items.lampSilence] ++ bytes16 (BitVec.ofNat 16 s.conf.items.pauseLimit)
    ++ bytes16 (BitVec.ofNat 16 s.conf.items.bookingMargin) ++ bytes16 s.conf.digest
    ++ [if s.conf.computed then 1 else 0, if s.conf.closed then 1 else 0]

theorem part6_eq : s.part6 = s.part6Front ++ (s.part6Draws ++ (s.part6Routes ++ s.part6Rest)) := by
  simp only [State.part6, vector3_toList s.conf.items.initialCapacities, State.part6Front, State.part6Draws,
    State.part6Routes, State.part6Rest, byteOfBool, List.append_assoc, List.flatMap_cons, List.flatMap_nil,
    List.append_nil, List.cons_append, List.nil_append]

theorem length_part6Front : s.part6Front.length = 13 := rfl

theorem length_part6Draws : s.part6Draws.length = 24 := by
  rw [State.part6Draws, length_flatMap_width (w := 3) (by simp)]
  simp

theorem length_part6Routes : s.part6Routes.length = 16 := by
  rw [State.part6Routes, length_flatMap_width (w := 4) (by simp)]
  simp

theorem part6_front : s.part6.take 13 = s.part6Front := by
  rw [part6_eq]
  exact List.take_left' (length_part6Front s)

theorem part6_draw (p : PosIx) (b : BudgetIx) : s.part6[13 + 3 * p.val + b.val]? = some (byte s.conf.items.draws[p][b]) := by
  rw [part6_eq, Nat.add_assoc, List.getElem?_append_right (by rw [length_part6Front]; omega), length_part6Front,
    Nat.add_sub_cancel_left, List.getElem?_append_left (by rw [length_part6Draws]; omega), State.part6Draws,
    getElem?_flatMap (w := 3) (x := s.conf.items.draws[p]) (by simp) (by simp) b.isLt]
  simp

theorem part6_route (r k : Fin 4) : s.part6[37 + 4 * r.val + k.val]? =
    some (match s.conf.items.routes[r][k] with | some a => byte a.val | none => 255) := by
  rw [part6_eq, List.getElem?_append_right (by rw [length_part6Front]; omega), length_part6Front,
    List.getElem?_append_right (by rw [length_part6Draws]; omega), length_part6Draws,
    show 37 + 4 * r.val + k.val - 13 - 24 = 4 * r.val + k.val by omega,
    List.getElem?_append_left (by rw [length_part6Routes]; omega), State.part6Routes,
    getElem?_flatMap (w := 4) (x := s.conf.items.routes[r]) (by simp) (by simp) k.isLt]
  cases route : s.conf.items.routes[r][k] <;> simp_all [fin255, byte]

theorem part6_rest : s.part6.drop 53 = s.part6Rest := by
  rw [part6_eq, ← List.append_assoc, ← List.append_assoc]
  exact List.drop_left' (by simp [length_part6Front, length_part6Draws, length_part6Routes])

end

/-! ### The other reports -/

theorem eventBytes_eq (e : Event) : e.bytes =
    [eventKindCode e.kind, (e.position.map fun p => byte p.val).getD 255, (e.handle.map fun h => byte h.val).getD 255]
      ++ (match e.tag with
          | some t => byte t.origin.val :: bytes16 t.epoch ++ bytes16 t.seq
          | none => [0, 0, 0, 0, 0])
      ++ bytes32 e.value ++ [e.detail] := by
  cases tag : e.tag <;> cases place : e.position <;> cases handle : e.handle <;>
    simp [Event.bytes, tag, place, handle, tagBytes?, tagBytes, fin255, byte]

theorem positionBytes_linked {s : State} {p : PosIx} {h : Handle} {r : Record} {e : StepEntry}
    (link : (s.pos p).link = some h) (stands : s.rec? h = some r) (current : r.steps[r.current]? = some e)
    (narrow : (s.pos p).runClock < 65536000) : s.positionBytes p =
      [recStateCode r.state, if (s.pos p).interlock then 1 else 0, if (s.pos p).stepEn then 1 else 0, byte r.current]
        ++ bytes24 e.target ++ bytes24 r.accumulated ++ bytes16 (BitVec.ofNat 16 ((s.pos p).runClock / 1000))
        ++ bytes16 r.pauseTotal := by
  have seconds : runSeconds (s.pos p).runClock = BitVec.ofNat 16 ((s.pos p).runClock / 1000) :=
    if_pos (by omega)
  simp [State.positionBytes, link, stands, Record.step?, current, seconds, byteOfBool]

theorem positionBytes_unlinked {s : State} {p : PosIx} (link : (s.pos p).link = none) : s.positionBytes p =
    [0, if (s.pos p).interlock then 1 else 0, if (s.pos p).stepEn then 1 else 0] ++ List.replicate 11 0 := by
  simp [State.positionBytes, link, byteOfBool]

theorem drawing_eq (t : BudgetTable) (b : BudgetIx) (st : ClaimStatus) :
    t.drawing b st = t.entries.filter fun e => e.status = st ∧ 0 < e.draws[b] := by
  simp [BudgetTable.drawing, ClaimEntry.drawsFrom]

/-- The seven bytes of READ_BUDGET before the oldest waiting entry. -/
theorem budgetReport_take (t : BudgetTable) (b : BudgetIx) : (t.report b).take 7 =
    [byte (t.drawing b .waiting).length, byte (t.drawing b .granted).length, byte t.entries.length]
      ++ bytes32 t.seqNo := by
  rw [BudgetTable.report]
  exact List.take_left' rfl

theorem budgetReport_drop (t : BudgetTable) (b : BudgetIx) : (t.report b).drop 7 =
    match t.drawing b .waiting with
    | e :: _ => [byte e.station.val, byte e.position.val, byte e.draws[b]] ++ bytes32 e.order
    | [] => [255, 255] ++ [9, 10, 11, 12, 13].map Config.noWaitingByte := by
  rw [BudgetTable.report]
  exact List.drop_left' rfl

theorem length_budgetReport (t : BudgetTable) (b : BudgetIx) : (t.report b).length = 14 := by
  have front : ((t.report b).take 7).length = 7 := by rw [budgetReport_take]; rfl
  have back : ((t.report b).drop 7).length = 7 := by
    rw [budgetReport_drop]
    split <;> rfl
  simp only [List.length_take, List.length_drop] at front back
  omega

theorem peerReport_running {p : Peer} {n : Nat} (runs : p.timer = some n) (narrow : n < 4294967295) :
    p.report10 = [byte p.freePositions, byte p.freeSlots] ++ bytes32 p.seqNo ++ bytes32 (BitVec.ofNat 32 n) := by
  have word : timerWord (some n) = BitVec.ofNat 32 n := if_pos narrow
  rw [Peer.report10, runs, word]

/-- Settles O12, report by report. -/
theorem reportLayouts : Obligations.ReportLayouts := by
  refine ⟨eventBytes_eq, fun p s => ⟨fun h r e link stands current narrow =>
      positionBytes_linked link stands current narrow, positionBytes_unlinked⟩, fun b t => ⟨?_, ?_, ?_, ?_⟩,
    fun p => ⟨fun stopped => ?_, fun n runs narrow => peerReport_running runs narrow, rfl⟩,
    fun s => ⟨s.part0, s.part1, s.part2, s.part3, s.part4, s.part5, s.part6, rfl, rfl, rfl, rfl, rfl, rfl, rfl,
      fun h => ⟨part0_slot s h, part0_record s h⟩, part0_arrivals s, fun p live => part1_position s live,
      length_part1 s, part2_eq s, part3_eq s, part4_record s, length_part4 s, part5_counts s,
      fun i b at_i => (part5_booking s at_i).trans (bookingReport_eq b), length_part5 s, part6_front s, part6_draw s,
      part6_route s, part6_rest s⟩⟩
  · simp only [budgetReport_take, drawing_eq]
  · intro e rest first
    rw [budgetReport_drop, (drawing_eq t b .waiting).trans first]
  · intro none
    rw [budgetReport_drop, (drawing_eq t b .waiting).trans none]
    rfl
  · exact length_budgetReport t b
  · rw [Peer.report10, stopped]
    rfl
end Sys2Proof.Machine
end

section
/-! SUPPORT. The state after reset (O3, O24) and one millisecond without a command (O1). -/

namespace Sys2Proof.Machine
open Host

/-! ### Reset -/

theorem slot_reset (h : Handle) : State.reset.slot h = { state := .free, waits := [] } := by
  simp [State.slot, State.reset, Store.initial]

theorem recOpt_reset (h : Handle) : State.reset.rec? h = none := by
  simp [State.rec?, slot_reset]

theorem pos_reset (p : PosIx) : State.reset.pos p = Position.blank := by
  simp [State.pos, State.reset]

theorem sound_reset : Sound State.reset := by
  have noBooking : State.reset.bookings = [] := rfl
  refine ⟨⟨List.nodup_finRange 32, fun h => ?_⟩, ⟨fun h => ?_, fun p => ?_, ?_, ?_, ?_⟩, ⟨?_, ?_, fun h => ?_, fun h => ?_⟩,
    ⟨fun p => ?_, fun p h => ?_, fun h r stands => ?_⟩, ⟨fun p => ?_, fun h r stands => ?_⟩, fun h r stands => ?_,
    fun _ => ⟨rfl, recOpt_reset⟩⟩
  · exact ⟨fun _ => by rw [slot_reset], fun _ => List.mem_finRange h⟩
  · simp [slot_reset, noBooking]
  · simp [pos_reset, Position.blank, noBooking]
  · exact List.nodup_nil
  · exact List.nodup_nil
  · exact List.nodup_nil
  · exact List.nodup_nil
  · exact List.nodup_nil
  · simp only [recOpt_reset]
    exact ⟨fun m => absurd m List.not_mem_nil, fun ⟨_, stands, _⟩ => nomatch stands⟩
  · simp only [recOpt_reset]
    exact ⟨fun m => absurd m List.not_mem_nil, fun ⟨_, stands, _⟩ => nomatch stands⟩
  · simp [pos_reset, Position.blank]
  · simp [pos_reset, recOpt_reset, Position.blank]
  · simp [recOpt_reset] at stands
  · simp [pos_reset, Position.blank, State.onPosition]
  · simp [recOpt_reset] at stands
  · simp [recOpt_reset] at stands

/-- Settles O3. -/
theorem boundedAtReset : Obligations.BoundedAtReset :=
  ⟨⟨rfl, le_rfl, Nat.zero_le 16, Nat.zero_le 255, Nat.zero_le 32⟩, sound_reset⟩

/-- Settles O24. -/
theorem resetLeaves : Obligations.ResetLeaves := by
  intro address role rate s
  refine ⟨_, rfl, rfl, rfl, rfl, rfl, rfl, rfl, rfl, rfl, fun _ => rfl, rfl, rfl, fun _ => rfl, fun _ => rfl, rfl, rfl,
    fun _ => ?_⟩
  simp [State.sckRises]

/-! ### The clocks of the positions advance -/

/-- Position p's clocks a millisecond on (R34). -/
def State.advanced (s : State) (p : PosIx) : Position :=
  match s.working p with
  | some (_, r) => (s.pos p).advance r.state (r.step?.any fun e => isDose e.kind)
  | none => s.pos p

theorem recOpt_advancePos (s : State) (p : PosIx) (h : Handle) : (s.advancePos p).rec? h = s.rec? h :=
  recOpt_of_states (by simp) h

theorem pos_advancePos (s : State) (p q : PosIx) : (s.advancePos p).pos q = if p = q then s.advanced q else s.pos q := by
  simp only [State.advancePos, State.advanced]
  by_cases same : p = q
  · subst same
    cases s.working p with
    | none => simp
    | some x => simp
  · cases s.working p with
    | none => simp [same]
    | some x => simp [same, pos_updPos]

theorem advanced_congr {s t : State} {p : PosIx} (pos : t.pos p = s.pos p) (record : ∀ h, t.rec? h = s.rec? h) :
    t.advanced p = s.advanced p := by
  simp only [State.advanced, State.working, pos, record]

/-- Positions advance each by itself. -/
theorem pos_foldl_advancePos {l : List PosIx} (distinct : l.Nodup) (s : State) (q : PosIx) :
    (l.foldl State.advancePos s).pos q = if q ∈ l then s.advanced q else s.pos q := by
  induction l generalizing s with
  | nil => simp
  | cons p l ih =>
    obtain ⟨fresh, distinct⟩ := List.nodup_cons.mp distinct
    rw [List.foldl_cons, ih distinct]
    by_cases same : q = p
    · subst same
      simp [fresh, pos_advancePos]
    · have other : (s.advancePos p).pos q = s.pos q := by rw [pos_advancePos, if_neg (Ne.symm same)]
      rw [advanced_congr other (recOpt_advancePos s p), other]
      simp [same]

theorem mem_positions (p : PosIx) : p ∈ positions := List.mem_finRange p

theorem nodup_positions : positions.Nodup := List.nodup_finRange 8

theorem seqr_advance (s : State) : s.advance.seqr = (positions.foldl State.advancePos s).seqr := by
  simp only [State.advance]

theorem pos_advance (s : State) (p : PosIx) : s.advance.pos p = s.advanced p := by
  rw [pos_of_seqr (seqr_advance s), pos_foldl_advancePos nodup_positions, if_pos (mem_positions p)]

theorem store_foldl_advancePos (l : List PosIx) (s : State) : (l.foldl State.advancePos s).store = s.store := by
  induction l generalizing s with
  | nil => rfl
  | cons p l ih => rw [List.foldl_cons, ih, store_advancePos]

theorem slots_advance (s : State) :
    s.advance.store.slots = s.store.slots.map fun x => { x with state := x.state.mapRec Record.advance } := by
  simp only [State.advance, store_foldl_advancePos]

/-- A record's timers a millisecond on. -/
theorem recOpt_advance (s : State) (h : Handle) : s.advance.rec? h = (s.rec? h).map Record.advance := by
  have slot : s.advance.slot h = { s.slot h with state := (s.slot h).state.mapRec Record.advance } := by
    rw [State.slot, slots_advance]
    simp only [State.slot, Fin.getElem_fin, Vector.getElem_map]
  simp only [State.rec?, slot]
  cases (s.slot h).state with
  | free => rfl
  | reserved => rfl
  | inUse r => rfl

theorem advanced_on {s : State} {p : PosIx} {h : Handle} {r : Record} (on : s.onPosition p h r) :
    s.advanced p = { s.pos p with
      runClock := (s.pos p).runClock + (if r.state = .running then 1 else 0)
      pauseClock := (s.pos p).pauseClock + (if r.state = .paused then 1 else 0)
      silenceClock := (s.pos p).silenceClock +
        (if r.state = .running ∧ (r.steps[r.current]?.any fun e => isDose e.kind) = true then 1 else 0) } := by
  simp only [State.advanced, working_eq_some.mpr on, Record.step?, Position.advance]
  cases state : r.state <;> simp
  split <;> simp_all

theorem advanced_off {s : State} {p : PosIx} (off : (s.pos p).state ≠ .occupied) : s.advanced p = s.pos p := by
  simp [State.advanced, State.working, off]

theorem gapRuns_iff {r : Record} : r.gapRuns = true ↔ r.gapOpen = true ∧ (r.state = .ended ∨ r.state = .inbound
    ∨ r.state = .loaded ∨ r.state = .waiting ∨ r.state = .held) := by
  rw [Record.gapRuns, Bool.and_eq_true]
  cases r.state <;> simp [gapCounts]

theorem recordAdvance_eq (r : Record) : r.advance = { r with
    gapFrac := r.gapFrac + (if r.gapOpen = true ∧ (r.state = .ended ∨ r.state = .inbound ∨ r.state = .loaded
      ∨ r.state = .waiting ∨ r.state = .held) then 1 else 0)
    answerTimer := r.answerTimer.map (· + 1), handOffTimer := r.handOffTimer.map (· + 1),
    locateTimer := r.locateTimer.map (· + 1) } := by
  by_cases runs : r.gapRuns = true
  · simp only [Record.advance, runs, if_true, gapRuns_iff.mp runs, and_self]
  · simp only [Record.advance, runs, if_false, mt gapRuns_iff.mpr runs, Nat.add_zero, Bool.false_eq_true]

theorem bookingAdvance_eq (b : Booking) : b.advance = { b with
    timer := b.timer + (if b.status = .standing ∨ b.isAssembling = true then 1 else 0)
    status := match b.status with
      | .assembling x => .assembling { x with gap := x.gap + 1 }
      | .offered => .offered
      | .standing => .standing
      | .closing image taken => .closing image taken } := by
  obtain ⟨tag, booker, position, slot, kind, hold, timer, status⟩ := b
  cases status <;> simp [Booking.advance, Booking.isAssembling]

theorem still_foldl_advancePos (l : List PosIx) (s : State) : (l.foldl State.advancePos s).mem = s.mem
    ∧ (l.foldl State.advancePos s).lbi = s.lbi ∧ (l.foldl State.advancePos s).bookings = s.bookings := by
  induction l generalizing s with
  | nil => exact ⟨rfl, rfl, rfl⟩
  | cons p l ih =>
    obtain ⟨mem, lbi, bookings⟩ := ih (s.advancePos p)
    exact ⟨mem.trans (by simp), lbi.trans (by simp), bookings.trans (by simp)⟩

theorem mem_advance (s : State) : s.advance.mem = s.mem.advance := by
  simp only [State.advance, still_foldl_advancePos]

theorem lbi_advance (s : State) : s.advance.lbi = s.lbi.advance := by
  simp only [State.advance, still_foldl_advancePos]

theorem bookings_advance (s : State) : s.advance.bookings = s.bookings.map fun b => { b with
    timer := b.timer + (if b.status = .standing ∨ b.isAssembling = true then 1 else 0)
    status := match b.status with
      | .assembling x => .assembling { x with gap := x.gap + 1 }
      | .offered => .offered
      | .standing => .standing
      | .closing image taken => .closing image taken } := by
  simp only [State.advance, still_foldl_advancePos]
  exact List.map_congr_left fun b _ => bookingAdvance_eq b

theorem peer_advance (s : State) (c : Addr) :
    s.advance.peer c = { s.peer c with timer := (s.peer c).timer.map (· + 1) } := by
  rw [State.peer, mem_advance]
  simp only [Membership.advance, Fin.getElem_fin, Vector.getElem_map, State.peer]

/-! ### Expiries -/

/-- No timer of the hand-off unit runs for the record of slot h. -/
def State.Untimed (s : State) (h : Handle) : Prop :=
  ∀ r, s.rec? h = some r → r.answerTimer = none ∧ r.handOffTimer = none ∧ r.locateTimer = none

theorem untimed_of_recOpt {s t : State} {h : Handle} (same : t.rec? h = s.rec? h) : t.Untimed h ↔ s.Untimed h := by
  simp only [State.Untimed, same]

theorem untimed_setRec {s : State} {h : Handle} {r : Record} : (s.setRec h r).Untimed h ↔
    r.answerTimer = none ∧ r.handOffTimer = none ∧ r.locateTimer = none := by
  simp [State.Untimed]

theorem untimed_enterHeld {s : State} {h : Handle} (k : DevKind) (v : BitVec 24) (leaves : Bool) (idle : s.Untimed h) :
    (s.enterHeld h k v leaves).Untimed h := by
  cases stands : s.rec? h with
  | none => simpa [State.enterHeld, stands] using idle
  | some r =>
    by_cases held : r.state = .held
    · simpa [State.enterHeld, stands, held] using idle
    · obtain ⟨-, handOff, locate⟩ := idle r stands
      intro q now
      obtain rfl := Option.some.inj ((recOpt_enterHeld_same h k v leaves r s stands held).symm.trans now)
      refine ⟨rfl, ?_, ?_⟩
      · simp only [Record.deviate]
        split <;> exact handOff
      · simp only [Record.deviate]
        split <;> exact locate

theorem untimed_checkGap {s : State} {h : Handle} (idle : s.Untimed h) : (s.checkGap h).Untimed h := by
  simp only [State.checkGap]
  split
  case h_1 => exact idle
  case h_2 r stands =>
    split
    case h_1 => exact untimed_enterHeld _ _ _ idle
    case h_2 => exact idle

theorem untimed_roundFrom {s : State} {h : Handle} (k : Nat) (idle : s.Untimed h) : (s.roundFrom h k).Untimed h := by
  simp only [State.roundFrom]
  split
  case h_1 => exact idle
  case h_2 r stands =>
    obtain ⟨-, handOff, locate⟩ := idle r stands
    split
    case h_1 => exact (untimed_of_recOpt (recOpt_sendSlot _ _ _ _)).mpr (untimed_setRec.mpr ⟨rfl, handOff, locate⟩)
    case h_2 => exact untimed_setRec.mpr ⟨rfl, handOff, locate⟩

theorem untimed_startRound {s : State} {h : Handle} (idle : s.Untimed h) : (s.startRound h).Untimed h := by
  simp only [State.startRound]
  repeat' split
  case h_2.isTrue => exact untimed_roundFrom 1 idle
  all_goals exact idle

theorem untimed_judgeReady {s : State} {h : Handle} (idle : s.Untimed h) : (s.judgeReady h).Untimed h := by
  simp only [State.judgeReady]
  split
  case h_1 => exact idle
  case h_2 r stands =>
    repeat' split
    case h_1.isTrue => exact (untimed_of_recOpt (recOpt_askClaim _ _ _)).mpr (untimed_setRec.mpr (idle r stands))
    all_goals exact idle

theorem untimed_gapSecond {s : State} {h : Handle} (idle : s.Untimed h) : (s.gapSecond h).Untimed h := by
  simp only [State.gapSecond]
  split
  case h_1 => exact idle
  case h_2 r stands =>
    have set : (s.setRec h r.gapSecond).Untimed h := untimed_setRec.mpr (idle r stands)
    repeat' split
    case isTrue.isTrue => exact untimed_judgeReady (untimed_startRound (untimed_checkGap set))
    case isTrue.isFalse => exact untimed_checkGap set
    case isFalse => exact idle

theorem not_due {s : State} {h : Handle} (idle : s.Untimed h) (n : Nat) :
    (s.rec? h).any (fun r => reached r.answerTimer n) = false
      ∧ (s.rec? h).any (fun r => reached r.handOffTimer n) = false
      ∧ (s.rec? h).any (fun r => reached r.locateTimer n) = false := by
  cases stands : s.rec? h with
  | none => exact ⟨rfl, rfl, rfl⟩
  | some r =>
    obtain ⟨answer, handOff, locate⟩ := idle r stands
    simp [answer, handOff, locate, reached]

/-- With no timer of the hand-off unit running, only a gap second can fall due. -/
theorem fireRec_untimed {s : State} {h : Handle} (idle : s.Untimed h) :
    s.fireRec h = if (s.rec? h).any fun r => decide (1000 ≤ r.gapFrac) then s.gapSecond h else s := by
  have after : (if (s.rec? h).any fun r => decide (1000 ≤ r.gapFrac) then s.gapSecond h else s).Untimed h := by
    split
    · exact untimed_gapSecond idle
    · exact idle
  simp only [State.fireRec]
  generalize (if (s.rec? h).any fun r => decide (1000 ≤ r.gapFrac) then s.gapSecond h else s) = t at after
  obtain ⟨answer, handOff, locate⟩ := And.intro (not_due after (t.timesP 2)).1 (not_due after (t.timesP 4)).2
  simp only [answer, handOff, locate, Bool.false_eq_true, if_false]

theorem updPeer_eq_self {s : State} {c : Addr} {f : Peer → Peer} (same : f (s.peer c) = s.peer c) : s.updPeer c f = s := by
  have peers : s.mem.peers.set c.val (f (s.peer c)) = s.mem.peers := by
    rw [same]
    exact Vector.set_getElem_self c.isLt
  change { s with mem := { s.mem with peers := s.mem.peers.set c.val (f (s.peer c)) } } = s
  rw [peers]

theorem fireDeparture_due {s : State} {c : Addr} (due : (s.peer c).timer = some (4 * s.conf.items.presence)) :
    exec (.departureTimer c) s = .next (s.fireDeparture c) := by
  have timer : { s.peer c with timer := (s.peer c).timer.map fun _ => s.timesP 4 } = s.peer c := by
    rw [due, Option.map_some, State.timesP, ← due]
  have same : s.departureDue c = s := by
    exact updPeer_eq_self (f := fun p => { p with timer := p.timer.map fun _ => s.timesP 4 }) timer
  change Outcome.next (State.departureExpired c (s.departureDue c)) = _
  rw [same, State.fireDeparture, State.timesP, if_pos due]

theorem tick_active {s : State} (active : s.isActive = true) :
    s.tick = (addresses.foldl State.fireDeparture (positions.foldl State.fireBooking
      (handles.foldl State.fireRec (positions.foldl State.firePos s.advance)))).fireLine := by
  simp only [State.isActive] at active
  cases line : s.mem.line <;> simp_all [State.tick]

theorem step_idle {s : State} (idle : s.pending = []) : step s = .next s.tick := by simp [step, idle]

/-- Settles O1. -/
theorem stepRunsFront : Obligations.StepRunsFront := by
  refine ⟨⟨fun c rest s front => by simp [step, front], fun s => step_idle, fun s idle still => ?_⟩, fun s idle =>
    ⟨fun saving => ⟨fun n runs soon => ?_, fun stopped => ?_⟩, fun active => ⟨?_, ?_, ?_, ?_, ?_, ?_, ?_, ?_, ?_, ?_, ?_, ?_, ?_⟩⟩⟩
  · rw [step_idle idle]
    obtain line | line := still <;> simp [State.tick, line]
  · rw [step_idle idle]
    have late : ¬4 * s.conf.items.presence ≤ n + 1 := by omega
    simp [State.tick, saving, Lbi.advance, runs, reached, State.timesP, late]
  · rw [step_idle idle]
    have lbi : s.lbi.advance = s.lbi := by
      rw [Lbi.advance, stopped, Option.map_none, ← stopped]
    simp [State.tick, saving, lbi, stopped, reached]
  · rw [step_idle idle, tick_active active]
  · exact fun p h r on => (pos_advance s p).trans (advanced_on on)
  · exact fun p off => (pos_advance s p).trans (advanced_off off)
  · intro h r stands
    rw [recOpt_advance, stands, Option.map_some, recordAdvance_eq]
  · exact peer_advance s
  · rw [mem_advance, Membership.advance]
  · rw [mem_advance, Membership.advance]
  · rw [mem_advance, Membership.advance]
  · rw [mem_advance, Membership.advance]
  · exact lbi_advance s
  · exact bookings_advance s
  · intro h r stands answer handOff locate
    have idle : s.Untimed h := fun q other => by
      obtain rfl := Option.some.inj (stands.symm.trans other)
      exact ⟨answer, handOff, locate⟩
    rw [fireRec_untimed idle, stands]
    refine ⟨fun early => ?_, fun due => ?_⟩
    · simp [early]
    · simp only [Option.any_some, due, decide_true, if_true]
      rfl
  · exact fun c => ⟨fireDeparture_due, fun other => if_neg other⟩
end Sys2Proof.Machine
end

section
/-! SUPPORT. Registration, placement, arrival and removal (O15 to O18). -/

namespace Sys2Proof.Machine
open Host

/-! ### Tags (R4) -/

theorem freeSeq_spec (s : State) (n : Nat) (q : BitVec 16) : ∃ m ≤ n, s.freeSeq n q = seqAfter^[m] q
    ∧ (∀ i < m, s.resident (s.ownTag (seqAfter^[i] q)) ≠ none)
    ∧ (m < n → s.resident (s.ownTag (seqAfter^[m] q)) = none) := by
  induction n generalizing q with
  | zero => exact ⟨0, le_rfl, rfl, fun _ h => absurd h (Nat.not_lt_zero _), fun h => absurd h (Nat.not_lt_zero _)⟩
  | succ n ih =>
    by_cases taken : (s.resident (s.ownTag q)).isSome = true
    · obtain ⟨m, small, value, before, free⟩ := ih (seqAfter q)
      refine ⟨m + 1, by omega, by rw [State.freeSeq, if_pos taken, value, Function.iterate_succ_apply], fun i lt => ?_, fun lt => ?_⟩
      · cases i with
        | zero => exact Option.isSome_iff_ne_none.mp taken
        | succ i => exact before i (by omega)
      · exact free (by omega)
    · refine ⟨0, by omega, by rw [State.freeSeq, if_neg taken, Function.iterate_zero_apply], fun _ h => absurd h (Nat.not_lt_zero _), fun _ => ?_⟩
      exact Option.not_isSome_iff_eq_none.mp taken

/-- The counter runs through 65535 values before one comes again. -/
theorem toNat_iterate_seqAfter (q : BitVec 16) {n : Nat} (few : n ≤ 65534) : (seqAfter^[n] q).toNat =
    if q.toNat + n ≤ 65535 then q.toNat + n else q.toNat + n - 65535 := by
  induction n with
  | zero => have := q.isLt; simp; omega
  | succ n ih =>
    have last := ih (by omega)
    have bound := q.isLt
    rw [Function.iterate_succ_apply', seqAfter]
    split
    case isTrue at_end =>
      rw [at_end] at last
      change 65535 = _ at last
      change 1 = _
      split_ifs at last ⊢ <;> omega
    case isFalse inside =>
      have inside : (seqAfter^[n] q).toNat ≠ 65535 := fun e => inside (BitVec.eq_of_toNat_eq e)
      rw [BitVec.toNat_add, last]
      rw [last] at inside
      change (_ + 1) % 65536 = _
      split_ifs at inside ⊢ <;> omega

theorem resident_rec {s : State} {t : Tag} {h : Handle} (resides : s.resident t = some h) :
    ∃ r, s.rec? h = some r ∧ r.tag = t := by
  have bears := List.find?_some resides
  cases stands : s.rec? h with
  | none => simp [stands] at bears
  | some r => exact ⟨r, rfl, by simpa [stands] using bears⟩

/-- 33 values of the counter cannot all stand in the tags of 32 records. -/
theorem some_seq_free (s : State) (q : BitVec 16) : ∃ m ≤ 32, s.resident (s.ownTag (seqAfter^[m] q)) = none := by
  by_contra all
  push Not at all
  choose holder holds using fun m : Fin 33 => Option.ne_none_iff_exists'.mp (all m.val (by omega))
  obtain ⟨i, j, differ, same⟩ := Fintype.exists_ne_map_eq_of_card_lt holder (by simp)
  obtain ⟨r, stands, tag⟩ := resident_rec (holds i)
  obtain ⟨r', stands', tag'⟩ := resident_rec (holds j)
  rw [same, stands'] at stands
  obtain rfl := Option.some.inj stands
  have seq : seqAfter^[i.val] q = seqAfter^[j.val] q := congrArg Tag.seq (tag.symm.trans tag')
  have value := congrArg BitVec.toNat seq
  rw [toNat_iterate_seqAfter q (by omega), toNat_iterate_seqAfter q (by omega)] at value
  have bound := q.isLt
  refine differ (Fin.ext ?_)
  split at value <;> split at value <;> omega

theorem newSeq_spec (s : State) : ∃ n ≤ 32, s.newSeq = seqAfter^[n] s.store.seqCounter
    ∧ s.resident (s.ownTag s.newSeq) = none ∧ ∀ m < n, s.resident (s.ownTag (seqAfter^[m] s.store.seqCounter)) ≠ none := by
  obtain ⟨n, small, value, before, free⟩ := freeSeq_spec s 32 s.store.seqCounter
  refine ⟨n, small, value, ?_, before⟩
  rw [State.newSeq, value]
  by_cases last : n = 32
  · obtain ⟨m, bound, none⟩ := some_seq_free s s.store.seqCounter
    obtain lt | rfl : m < n ∨ m = n := by omega
    · exact absurd none (before m lt)
    · exact none
  · exact free (by omega)

/-- The next tag depends on the tags that records bear, the own epoch and the counter. -/
theorem newSeq_congr {s t : State} (resident : ∀ x, t.resident x = s.resident x) (own : t.ownTag = s.ownTag)
    (counter : t.store.seqCounter = s.store.seqCounter) : t.newSeq = s.newSeq := by
  have same (n : Nat) (q : BitVec 16) : t.freeSeq n q = s.freeSeq n q := by
    induction n generalizing q with
    | zero => rfl
    | succ n ih => simp only [State.freeSeq, resident, own, ih]
  rw [State.newSeq, State.newSeq, same, counter]

/-! ### REGISTER (R14, R15) -/

theorem isJoined_iff {s : State} : s.isJoined = true ↔ s.mem.line = .joined := by simp [State.isJoined]

theorem isActive_of_joined {s : State} (joined : s.mem.line = .joined) : s.isActive = true := by simp [State.isActive, joined]

theorem register_joined {s : State} (joined : s.mem.line = .joined) {steps : List StepEntry}
    (staged : stagedSteps s.staging = some steps) : s.deliver.register =
      if startsWith s.conf.role steps = false then s.answered .refused 0x030000
      else if s.freeCount ≤ 4 then s.answered .refused 0x040000 else s.deliver.createRecord steps := by
  have staged' : stagedSteps s.deliver.staging = some steps := staged
  have joined' : s.deliver.isJoined = true := isJoined_iff.mpr joined
  simp only [State.register, joined', staged']
  cases first : startsWith s.conf.role steps with
  | false => simp [first, refuse_deliver]; rfl
  | true => simp [first, refuse_deliver]; rfl

/-- Settles O15. -/
theorem registerJudgesAndCreates : Obligations.RegisterJudgesAndCreates := by
  refine ⟨fun s active => ⟨fun apart => ?_, fun joined staged => ?_, fun steps joined staged => ⟨fun other => ?_, fun first few => ?_⟩⟩,
    fun h rest steps s joined staged first free enough => ?_, newSeq_spec⟩
  · refine exec_active active ?_
    have apart : s.deliver.isJoined = false := by
      rw [isJoined_deliver, ← Bool.not_eq_true, isJoined_iff]; exact apart
    simp only [State.register, apart]
    rfl
  · refine exec_active active ?_
    have joined' : s.deliver.isJoined = true := isJoined_iff.mpr joined
    have staged' : stagedSteps s.deliver.staging = none := staged
    simp only [State.register, joined', staged']
    rfl
  · exact exec_active active ((register_joined joined staged).trans (if_pos other))
  · refine exec_active active ((register_joined joined staged).trans ?_)
    rw [if_neg (by simp [first])]
    exact if_pos few
  · refine exec_active (isActive_of_joined joined) ((register_joined joined staged).trans ?_)
    have count : ¬s.freeCount ≤ 4 := by rw [State.freeCount, free]; simp; omega
    rw [if_neg (by simp [first]), if_neg count, State.createRecord,
      (takeSlot_eq_some (s := s.deliver)).mpr ⟨rest, free, rfl⟩]
    have seq : ({ s.deliver with store := { s.deliver.store with freeList := rest } } : State).newSeq = s.newSeq :=
      newSeq_congr (fun _ => rfl) rfl rfl
    dsimp only
    simp only [seq]
    refine congrArg (fun u => State.respond .ok (byte h.val ++ s.newSeq) (State.placement (State.judgeSlots u))) ?_
    cases rush : decide (Memory.read s.staging 4 ≠ 0) with
    | true =>
      have rush' : decide (Memory.read s.deliver.staging 4 ≠ 0) = true := rush
      rw [rush']; rfl
    | false =>
      have rush' : decide (Memory.read s.deliver.staging 4 ≠ 0) = false := rush
      rw [rush']; rfl

/-! ### Placement (R23) -/

theorem mem_livePositions {s : State} {p : PosIx} : p ∈ s.livePositions ↔ p.val < s.conf.posCount := by
  simp [State.livePositions, mem_positions]

theorem sorted_livePositions (s : State) : s.livePositions.Pairwise (· < ·) :=
  (List.pairwise_lt_finRange 8).filter _

theorem lowestEmpty_eq_none {s : State} : s.lowestEmpty = none ↔
    ∀ p : PosIx, p.val < s.conf.posCount → (s.pos p).state ≠ .empty := by
  simp [State.lowestEmpty, mem_livePositions]

theorem lowestEmpty_eq_some {s : State} {p : PosIx} (lowest : s.lowestEmpty = some p) : p.val < s.conf.posCount
    ∧ (s.pos p).state = .empty ∧ ∀ q : PosIx, q < p → (s.pos q).state ≠ .empty := by
  obtain ⟨empty, front, back, split, before⟩ := List.find?_eq_some_iff_append.mp lowest
  have live : p ∈ s.livePositions := by rw [split]; simp
  refine ⟨mem_livePositions.mp live, by simpa using empty, fun q less => ?_⟩
  have sorted := sorted_livePositions s
  have member : q ∈ s.livePositions := mem_livePositions.mpr (lt_trans less (mem_livePositions.mp live))
  rw [split] at member sorted
  obtain m | m := List.mem_append.mp member
  · simpa using before q m
  · obtain rfl | m := List.mem_cons.mp m
    · exact absurd less (lt_irrefl _)
    · have later := (List.pairwise_cons.mp (List.pairwise_append.mp sorted).2.1).1 q m
      exact absurd less (lt_asymm later)

/-- Nothing can be placed: no position is EMPTY or nothing is queued. -/
def State.Settled (s : State) : Prop := s.lowestEmpty = none ∨ s.arrivalQueue = []

theorem placeOne_settled {s : State} (settled : s.Settled) : s.placeOne = s := by
  obtain none | empty := settled
  · simp [State.placeOne, none]
  · simp only [State.placeOne, empty]
    cases s.lowestEmpty <;> rfl

theorem placeOne_some {s : State} {p : PosIx} {h : Handle} {rest : List Handle} {r : Record} (lowest : s.lowestEmpty = some p)
    (queue : s.arrivalQueue = h :: rest) (stands : s.rec? h = some r) : s.placeOne =
      State.post (recordEvent .place (some p) h r.tag r.current)
        (((s.unqueue h).setRec h { r with state := .placed, position := some p }).updPos p fun x =>
          { x with state := .assigned, link := some h }) := by
  simp only [State.placeOne, lowest, queue, stands]

theorem placement_eq_iterate (s : State) : s.placement = State.placeOne^[8] s := List.foldl_const _ _ _

theorem placement_settled {s : State} (settled : s.Settled) : s.placement = s := by
  rw [placement_eq_iterate, Function.iterate_fixed (placeOne_settled settled)]

/-- Every queued handle names a record. -/
def State.QueueStands (s : State) : Prop := ∀ h ∈ s.arrivalQueue, s.rec? h ≠ none

theorem arrivalQueue_unqueue (h : Handle) (s : State) : (s.unqueue h).arrivalQueue = s.arrivalQueue.filter (· ≠ h) := by
  simp [State.unqueue, State.arrivalQueue]

theorem arrivalQueue_of_queues {s t : State} (rush : t.store.rushQueue = s.store.rushQueue)
    (ordinary : t.store.ordinaryQueue = s.store.ordinaryQueue) : t.arrivalQueue = s.arrivalQueue := by
  simp only [State.arrivalQueue, rush, ordinary]

theorem arrivalQueue_placeOne {s : State} {p : PosIx} {h : Handle} {rest : List Handle} {r : Record}
    (lowest : s.lowestEmpty = some p) (queue : s.arrivalQueue = h :: rest) (stands : s.rec? h = some r) :
    s.placeOne.arrivalQueue = s.arrivalQueue.filter (· ≠ h) := by
  rw [placeOne_some lowest queue stands, ← arrivalQueue_unqueue]
  exact arrivalQueue_of_queues (by simp) (by simp)

theorem recOpt_placeOne {s : State} {p : PosIx} {h : Handle} {rest : List Handle} {r : Record}
    (lowest : s.lowestEmpty = some p) (queue : s.arrivalQueue = h :: rest) (stands : s.rec? h = some r) (g : Handle) :
    s.placeOne.rec? g = if h = g then some { r with state := .placed, position := some p } else s.rec? g := by
  rw [placeOne_some lowest queue stands, recOpt_post, recOpt_updPos, recOpt_setRec, recOpt_unqueue]

theorem pos_placeOne {s : State} {p : PosIx} {h : Handle} {rest : List Handle} {r : Record}
    (lowest : s.lowestEmpty = some p) (queue : s.arrivalQueue = h :: rest) (stands : s.rec? h = some r) (q : PosIx) :
    s.placeOne.pos q = if p = q then { s.pos p with state := .assigned, link := some h } else s.pos q := by
  rw [placeOne_some lowest queue stands, pos_post, pos_updPos, pos_setRec, pos_setRec, pos_unqueue, pos_unqueue]

theorem queueStands_placeOne {s : State} (stands : s.QueueStands) : s.placeOne.QueueStands := by
  by_cases settled : s.Settled
  · rwa [placeOne_settled settled]
  · simp only [State.Settled, not_or] at settled
    obtain ⟨p, lowest⟩ := Option.ne_none_iff_exists'.mp settled.1
    obtain ⟨h, rest, queue⟩ := List.exists_cons_of_ne_nil settled.2
    obtain ⟨r, bears⟩ := Option.ne_none_iff_exists'.mp (stands h (by rw [queue]; simp))
    intro g member
    rw [arrivalQueue_placeOne lowest queue bears] at member
    rw [recOpt_placeOne lowest queue bears]
    split
    case isTrue => simp
    case isFalse => exact stands g (List.mem_filter.mp member).1

theorem livePositions_placeOne (s : State) : s.placeOne.livePositions = s.livePositions := by
  have conf : s.placeOne.conf = s.conf := by rw [conf_eq, still_placeOne, ← conf_eq]
  simp only [State.livePositions, conf]

/-- Each placing leaves one EMPTY position fewer. -/
theorem emptyCount_placeOne {s : State} (stands : s.QueueStands) (open_ : ¬s.Settled) :
    s.placeOne.emptyCount < s.emptyCount := by
  simp only [State.Settled, not_or] at open_
  obtain ⟨p, lowest⟩ := Option.ne_none_iff_exists'.mp open_.1
  obtain ⟨h, rest, queue⟩ := List.exists_cons_of_ne_nil open_.2
  obtain ⟨r, bears⟩ := Option.ne_none_iff_exists'.mp (stands h (by rw [queue]; simp))
  obtain ⟨live, empty, -⟩ := lowestEmpty_eq_some lowest
  have fewer : s.placeOne.livePositions.filter (fun q => decide ((s.placeOne.pos q).state = .empty)) =
      (s.livePositions.filter fun q => decide ((s.pos q).state = .empty)).filter (· ≠ p) := by
    rw [livePositions_placeOne, List.filter_filter]
    refine List.filter_congr fun q _ => ?_
    rw [pos_placeOne lowest queue bears]
    by_cases same : p = q
    · simp [same]
    · simp [same, Ne.symm same]
  rw [State.emptyCount, State.emptyCount, fewer]
  refine List.length_filter_lt_length_iff_exists.mpr ⟨p, List.mem_filter.mpr ⟨mem_livePositions.mpr live, by simpa using empty⟩, by simp⟩

theorem settled_of_no_empty {s : State} (zero : s.emptyCount = 0) : s.Settled := by
  refine .inl (lowestEmpty_eq_none.mpr fun p live empty => ?_)
  have none : s.livePositions.filter (fun q => decide ((s.pos q).state = .empty)) = [] := List.length_eq_zero_iff.mp zero
  exact List.filter_eq_nil_iff.mp none p (mem_livePositions.mpr live) (by simpa using empty)

theorem settled_iterate {n : Nat} {s : State} (stands : s.QueueStands) (few : s.emptyCount ≤ n) :
    (State.placeOne^[n] s).Settled := by
  induction n generalizing s with
  | zero => exact settled_of_no_empty (Nat.le_zero.mp few)
  | succ n ih =>
    rw [Function.iterate_succ_apply]
    by_cases settled : s.Settled
    · rwa [placeOne_settled settled, Function.iterate_fixed (placeOne_settled settled)]
    · have less := emptyCount_placeOne stands settled
      exact ih (queueStands_placeOne stands) (by omega)

theorem emptyCount_le (s : State) : s.emptyCount ≤ 8 :=
  (List.length_filter_le _ _).trans ((List.length_filter_le _ _).trans (by simp [positions]))

theorem placement_settles {s : State} (stands : s.QueueStands) : s.placement.Settled := by
  rw [placement_eq_iterate]
  exact settled_iterate stands (emptyCount_le s)

theorem placement_placeOne {s : State} (stands : s.QueueStands) : s.placement = s.placeOne.placement := by
  rw [placement_eq_iterate s.placeOne, ← Function.iterate_succ_apply, Function.iterate_succ_apply',
    ← placement_eq_iterate, placeOne_settled (placement_settles stands)]

/-! ### RUSH (R16) -/

theorem exec_rush {h : Handle} {r : Record} {s : State} (active : s.isActive = true) (stands : s.rec? h = some r) {t : State}
    (runs : s.deliver.rushRecord h r = t) : exec (.rush (byte h.val)) s = .next t := exec_withRecord active stands runs

/-- Settles O16. -/
theorem arrivalsPlacedAndRushed : Obligations.ArrivalsPlacedAndRushed := by
  refine ⟨fun s => ⟨fun p h rest r lowest queue stands => placeOne_some lowest queue stands, placement_settled,
    fun p => lowestEmpty_eq_some, lowestEmpty_eq_none⟩,
    fun s stands => ⟨fun _ _ _ => placement_placeOne stands, placement_settles stands⟩,
    fun h r s active stands => ⟨fun queued => exec_rush active stands ?_, fun placed => exec_rush active stands ?_,
      fun notQueued notPlaced => exec_rush active stands ?_⟩⟩
  · simp only [State.rushRecord, queued]
    rfl
  · simp only [State.rushRecord, placed]
    rfl
  · cases state : r.state <;> first | exact absurd state notQueued | exact absurd state notPlaced | skip
    all_goals simp only [State.rushRecord, state]; rfl

end Sys2Proof.Machine
end

section
/-! SUPPORT. Rounds, readiness and the entry into LOADED; ARRIVED and REMOVED (O17, O18). -/

namespace Sys2Proof.Machine
open Host

/-! ### Rounds and readiness -/

/-- The candidate of record r's round from index k on (R138). -/
def State.candidateOf (s : State) (r : Record) (k : Nat) : Option (Nat × Addr) :=
  match r.next? with
  | some e => s.candidateFrom (stepRole e.kind) k
  | none => none

/-- Record r with the candidate of its round, or with its round exhausted (R140, R141). -/
def Record.asks (r : Record) : Option (Nat × Addr) → Record
  | some (i, a) => { r with booking := .asking i a, answerTimer := none, exhausted := false }
  | none => { r with booking := .none, answerTimer := none, exhausted := true }

section
variable {s : State} {h : Handle} {r : Record}

theorem roundFrom_some {k i : Nat} {a : Addr} (stands : s.rec? h = some r) (asks : s.candidateOf r k = some (i, a)) :
    s.roundFrom h k = (s.setRec h (r.asks (some (i, a)))).sendSlot h .book := by
  simp only [State.roundFrom, stands]
  change (match s.candidateOf r k with | some (i, a) => _ | none => _) = _
  rw [asks]
  rfl

theorem roundFrom_none {k : Nat} (stands : s.rec? h = some r) (asks : s.candidateOf r k = none) :
    s.roundFrom h k = s.setRec h (r.asks none) := by
  simp only [State.roundFrom, stands]
  change (match s.candidateOf r k with | some (i, a) => _ | none => _) = _
  rw [asks]
  rfl

theorem recOpt_roundFrom (k : Nat) (stands : s.rec? h = some r) (g : Handle) :
    (s.roundFrom h k).rec? g = if h = g then some (r.asks (s.candidateOf r k)) else s.rec? g := by
  cases asks : s.candidateOf r k with
  | none => rw [roundFrom_none stands asks, recOpt_setRec]
  | some x => rw [roundFrom_some stands asks, recOpt_sendSlot, recOpt_setRec]

theorem startRound_eq (stands : s.rec? h = some r) : s.startRound h =
    if s.isJoined = true ∧ r.needsBooking s.conf.role = true ∧ r.booking = .none then s.roundFrom h 1 else s := by
  simp only [State.startRound, stands, Bool.and_eq_true, decide_eq_true_eq, and_assoc]

theorem ready_iff : s.ready r = true ↔ r.state = .loaded ∧ r.minGapMet = true ∧ s.isJoined = true
    ∧ (r.needsBefore s.conf.role = false ∨ ∃ d q, r.booking = .held d q) := by
  simp only [State.ready]
  cases r.booking <;> simp [and_assoc]

theorem judgeReady_unready (stands : s.rec? h = some r) (unready : s.ready r ≠ true) : s.judgeReady h = s := by
  simp only [State.judgeReady, stands, unready, Bool.false_eq_true, if_false]
  split <;> rfl

theorem judgeReady_ready {p : PosIx} (stands : s.rec? h = some r) (position : r.position = some p) (ready : s.ready r = true) :
    s.judgeReady h = (s.setRec h { r with state := .waiting }).askClaim p := by
  simp only [State.judgeReady, stands, position, ready, if_true]

theorem judgeReady_placeless (stands : s.rec? h = some r) (position : r.position = none) : s.judgeReady h = s := by
  simp only [State.judgeReady, stands, position]

theorem not_held_asks (c : Option (Nat × Addr)) : ¬∃ d q, (r.asks c).booking = .held d q := by
  cases c <;> simp [Record.asks]

theorem conf_roundFrom (k : Nat) : (s.roundFrom h k).conf = s.conf := by rw [conf_eq, conf_eq]; simp

/-! ### Entry into LOADED (R53, R29, R30, R139) -/

theorem checkGap_some {g : BitVec 24} (stands : s.rec? h = some r) (exceeded : r.gapExceeded = some g) :
    s.checkGap h = s.enterHeld h .gapExceeded g false := by
  simp only [State.checkGap, stands, exceeded]

theorem checkGap_none (stands : s.rec? h = some r) (inside : r.gapExceeded = none) : s.checkGap h = s := by
  simp only [State.checkGap, stands, inside]

theorem enterChecked_eq (stands : s.rec? h = some r) (st : RecState) :
    s.enterChecked h st = (s.setRec h { r with state := st }).checkGap h := by
  rw [State.enterChecked, updRec_some h _ r s stands]

theorem needsBooking_held (held : r.state = .held) (role : Role) : r.needsBooking role = false := by
  simp [Record.needsBooking, held]

/-- A HELD record starts no round and asks for no claim. -/
theorem startRound_judgeReady_held (stands : s.rec? h = some r) (held : r.state = .held) :
    (s.startRound h).judgeReady h = s := by
  rw [startRound_eq stands, if_neg (by simp [needsBooking_held held])]
  exact judgeReady_unready stands (by simp [ready_iff, held])

theorem enterLoaded_late {g : BitVec 24} (stands : s.rec? h = some r)
    (late : ({ r with state := .loaded } : Record).gapExceeded = some g) :
    s.enterLoaded h = (s.setRec h { r with state := .loaded }).enterHeld h .gapExceeded g false := by
  have loaded := recOpt_setRec_same h { r with state := .loaded } s
  have entered := recOpt_enterHeld_same h .gapExceeded g false _ _ loaded (by simp)
  rw [State.enterLoaded, enterChecked_eq stands, checkGap_some loaded late]
  exact startRound_judgeReady_held entered rfl

theorem enterLoaded_inside (stands : s.rec? h = some r) (inside : ({ r with state := .loaded } : Record).gapExceeded = none) :
    s.enterLoaded h = ((s.setRec h { r with state := .loaded }).startRound h).judgeReady h := by
  rw [State.enterLoaded, enterChecked_eq stands, checkGap_none (recOpt_setRec_same _ _ _) inside]

/-- The gap of record r in LOADED has reached g seconds, at or beyond the max gap of the entry before, without concession
(R53). -/
def Record.late (r : Record) (g : BitVec 24) : Prop :=
  r.gapOpen = true ∧ r.gapConceded = false ∧ r.current ≠ 0 ∧ r.gapElapsed = some g
    ∧ ∃ (e : StepEntry) (m : BitVec 16), r.steps[r.current - 1]? = some e ∧ e.maxGap = some m ∧ m.toNat ≤ g.toNat

theorem gapExceeded_loaded {g : BitVec 24} : ({ r with state := .loaded } : Record).gapExceeded = some g ↔ r.late g := by
  simp only [Record.gapExceeded, gapChecked, Record.governing?, Record.before?, Record.late]
  cases r.gapOpen <;> cases r.gapConceded <;> simp
  by_cases first : r.current = 0
  · simp [first]
  · simp only [first, if_false]
    cases r.steps[r.current - 1]? with
    | none => simp
    | some e =>
      cases r.gapElapsed with
      | none => simp
      | some x =>
        cases gap : e.maxGap with
        | none => simp [gap]
        | some m => simp [gap]; grind

theorem needsBooking_loaded (role : Role) : ({ r with state := .loaded } : Record).needsBooking role =
    (r.needsBefore role && r.minGapMet) := rfl

theorem enterLoaded_round (stands : s.rec? h = some r) (inside : ∀ g, ¬r.late g) (joined : s.isJoined = true)
    (met : r.minGapMet = true) (needs : r.needsBefore s.conf.role = true) (unbooked : r.booking = .none) :
    s.enterLoaded h = (s.setRec h { r with state := .loaded }).roundFrom h 1 := by
  have loaded := recOpt_setRec_same h { r with state := .loaded } s
  rw [enterLoaded_inside stands (Option.eq_none_iff_forall_ne_some.mpr fun g e => inside g (gapExceeded_loaded.mp e)),
    startRound_eq loaded, if_pos ⟨by simpa using joined, (needsBooking_loaded _).trans (by simp [needs, met]), unbooked⟩]
  refine judgeReady_unready ((recOpt_roundFrom 1 loaded h).trans (if_pos rfl)) fun ready => ?_
  obtain ⟨-, -, -, free | held⟩ := ready_iff.mp ready
  · rw [conf_roundFrom] at free
    have same (c : Option (Nat × Addr)) : (Record.asks { r with state := .loaded } c).needsBefore s.conf.role = true := by
      cases c <;> exact needs
    exact Bool.false_ne_true (free.symm.trans (same _))
  · exact not_held_asks _ held

theorem enterLoaded_noRound (stands : s.rec? h = some r) (inside : ∀ g, ¬r.late g)
    (none : ¬(s.isJoined = true ∧ r.minGapMet = true ∧ r.needsBefore s.conf.role = true ∧ r.booking = .none)) :
    s.enterLoaded h = (s.setRec h { r with state := .loaded }).judgeReady h := by
  have loaded := recOpt_setRec_same h { r with state := .loaded } s
  rw [enterLoaded_inside stands (Option.eq_none_iff_forall_ne_some.mpr fun g e => inside g (gapExceeded_loaded.mp e)),
    startRound_eq loaded, if_neg]
  rintro ⟨joined, needs, unbooked⟩
  obtain ⟨needs, met⟩ := Bool.and_eq_true_iff.mp needs
  exact none ⟨by simpa using joined, met, needs, unbooked⟩

end

/-! ### ARRIVED and REMOVED (R25 to R27) -/

theorem exec_arrived {p : PosIx} {seq : BitVec 16} {s t : State} (active : s.isActive = true) (live : p.val < s.conf.posCount)
    (runs : s.deliver.arrived p seq = t) : exec (.arrived (byte p.val) seq) s = .next t := by
  refine exec_active active ?_
  have here : s.deliver.posArg (byte p.val) = some p := posArg_some _ _ live
  rw [here]
  exact runs

theorem exec_removed {p : PosIx} {s t : State} (active : s.isActive = true) (live : p.val < s.conf.posCount)
    (runs : s.deliver.removed p = t) : exec (.removed (byte p.val)) s = .next t := by
  refine exec_active active ?_
  have here : s.deliver.posArg (byte p.val) = some p := posArg_some _ _ live
  rw [here]
  exact runs

theorem arrived_assigned {p : PosIx} {seq : BitVec 16} {s : State} {h : Handle} {r : Record}
    (assigned : (s.pos p).state = .assigned) (link : (s.pos p).link = some h) (stands : s.rec? h = some r) :
    s.arrived p seq = if r.tag.seq = seq then (s.plateArrives p h r).ok 0 0 0 else s.refuse .wrongPlate 0 := by
  simp only [State.arrived, assigned, link, stands]

/-- Settles O17. -/
theorem arrivedLoadsRecord : Obligations.ArrivedLoadsRecord := by
  refine ⟨fun p seq s active live => ⟨fun absent => exec_arrived active live ?_, fun present => exec_arrived active live ?_,
      fun h r assigned link stands other => exec_arrived active live ?_⟩,
    fun p h r s active live assigned link stands => ⟨fun state => exec_arrived active live ?_,
      fun state => exec_arrived active live ?_⟩,
    fun h r s stands => ⟨fun g late => enterLoaded_late stands (gapExceeded_loaded.mpr late),
      fun inside => ⟨fun due needs unbooked => enterLoaded_round stands inside due.1 due.2 needs unbooked,
        fun p due position ready => ?_, fun unready => ?_⟩⟩⟩
  · obtain state | state := absent <;> simp only [State.arrived, pos_deliver, state] <;> rfl
  · obtain state | state := present <;> simp only [State.arrived, pos_deliver, state] <;> rfl
  · rw [arrived_assigned (by simpa using assigned) (by simpa using link) (by simpa using stands), if_neg other]
    rfl
  · rw [arrived_assigned (by simpa using assigned) (by simpa using link) (by simpa using stands), if_pos rfl]
    obtain state | state := state <;> simp only [State.plateArrives, state]
  · rw [arrived_assigned (by simpa using assigned) (by simpa using link) (by simpa using stands), if_pos rfl]
    simp only [State.plateArrives, state]
  · have none : ¬(s.isJoined = true ∧ r.minGapMet = true ∧ r.needsBefore s.conf.role = true ∧ r.booking = .none) := by
      rintro ⟨-, -, needs, unbooked⟩
      obtain free | ⟨d, q, held⟩ := ready
      · exact Bool.false_ne_true (free.symm.trans needs)
      · exact nomatch held.symm.trans unbooked
    rw [enterLoaded_noRound stands inside none, judgeReady_ready (r := { r with state := .loaded }) (recOpt_setRec_same _ _ _) position
      (ready_iff.mpr ⟨rfl, due.2, by simpa using due.1, ready⟩)]
  · have none : ¬(s.isJoined = true ∧ r.minGapMet = true ∧ r.needsBefore s.conf.role = true ∧ r.booking = .none) := by
      rintro ⟨joined, met, needs, unbooked⟩
      obtain early | ⟨-, k, c, asking⟩ | ⟨-, free | ⟨d, q, held⟩⟩ := unready
      · exact early ⟨joined, met⟩
      · exact nomatch asking.symm.trans unbooked
      · exact Bool.false_ne_true (free.symm.trans needs)
      · exact nomatch held.symm.trans unbooked
    rw [enterLoaded_noRound stands inside none]
    obtain early | ⟨needs, k, c, asking⟩ | ⟨placeless, -⟩ := unready
    · exact judgeReady_unready (recOpt_setRec_same _ _ _) fun ready => by
        obtain ⟨-, met, joined, -⟩ := ready_iff.mp ready
        exact early ⟨by simpa using joined, met⟩
    · exact judgeReady_unready (recOpt_setRec_same _ _ _) fun ready => by
        obtain ⟨-, -, -, free | ⟨d, q, held⟩⟩ := ready_iff.mp ready
        · exact Bool.false_ne_true (free.symm.trans needs)
        · exact nomatch asking.symm.trans held
    · exact judgeReady_placeless (r := { r with state := .loaded }) (recOpt_setRec_same _ _ _) placeless

theorem removed_working {p : PosIx} {s : State} {h : Handle} {r : Record} (on : s.onPosition p h r) :
    s.removed p = (s.plateTaken p h r).placement.ok 0 0 0 := by
  simp only [State.removed, on.1, working_eq_some.mpr on]

/-- Settles O18. -/
theorem removedEmptiesPosition : Obligations.RemovedEmptiesPosition := by
  intro p s active live
  refine ⟨fun absent => exec_removed active live ?_, fun clearing => exec_removed active live ?_,
    fun h r occupied link stands => ?_⟩
  · obtain state | state | state := absent <;> simp only [State.removed, pos_deliver, state] <;> rfl
  · simp only [State.removed, pos_deliver, clearing]
  · have on : s.deliver.onPosition p h r := ⟨by simpa using occupied, by simpa using link, by simpa using stands⟩
    refine ⟨fun finished => exec_removed active live ((removed_working on).trans ?_),
      fun state => exec_removed active live ((removed_working on).trans ?_),
      fun state => exec_removed active live ((removed_working on).trans ?_)⟩
    · simp only [State.plateTaken, finished]
      rfl
    · obtain state | state | state := state <;> simp only [State.plateTaken, state]
    · obtain state | state | state | state := state <;> simp only [State.plateTaken, state]

end Sys2Proof.Machine
end

section
/-! SUPPORT. The frames an origin holds on the transmit list and the frames that wait for a slot's origin (R86, R88). -/

namespace Sys2Proof.Machine
open Host

/-! ### The frames of an origin -/

/-- The frames an origin holds on the transmit list, in order. -/
def State.framesOf (s : State) (o : Origin) : List TxEntry := s.lbi.tx.filter fun e => decide (e.origin = o)

/-- A frame that has just joined the list. -/
def TxEntry.fresh (o : Origin) (f : Frame) : TxEntry := { origin := o, frame := f, voids := 0, held := .none }

section
variable {s t : State} {o u : Origin}

theorem framesOf_of_tx (tx : t.lbi.tx = s.lbi.tx) : t.framesOf o = s.framesOf o := by simp only [State.framesOf, tx]

theorem mem_framesOf {e : TxEntry} : e ∈ s.framesOf o ↔ e ∈ s.lbi.tx ∧ e.origin = o := by simp [State.framesOf]

theorem txEntry_eq_head : s.txEntry o = (s.framesOf o).head? := by
  rw [State.txEntry, State.framesOf, List.head?_filter]

theorem txHas_iff : s.txHas o = true ↔ s.framesOf o ≠ [] := by
  simp [State.txHas, State.framesOf, List.filter_eq_nil_iff]

theorem txHas_false_iff : s.txHas o = false ↔ s.framesOf o = [] := by
  rw [← Bool.not_eq_true, txHas_iff, not_not]

theorem framesOf_queueFrame (f : Frame) : (s.queueFrame o f).framesOf u =
    if o = u ∧ s.txHas o = false then [TxEntry.fresh o f] else s.framesOf u := by
  rw [State.queueFrame]
  cases has : s.txHas o with
  | true => simp
  | false =>
    by_cases same : o = u
    · subst same
      have empty : s.framesOf o = [] := txHas_false_iff.mp has
      simp only [State.framesOf] at empty ⊢
      simp [empty, List.filter_append, TxEntry.fresh]
    · simp [State.framesOf, List.filter_append, same]

theorem framesOf_queueFrame_ne (f : Frame) (other : o ≠ u) : (s.queueFrame o f).framesOf u = s.framesOf u := by
  rw [framesOf_queueFrame, if_neg fun same => other same.1]

theorem framesOf_removeTx : (s.removeTx o).framesOf u = if o = u then [] else s.framesOf u := by
  simp only [State.framesOf, State.removeTx, State.setTx, List.filter_filter]
  split
  case isTrue same => subst same; simp
  case isFalse other =>
    refine List.filter_congr fun e _ => ?_
    by_cases here : e.origin = u
    · simp [here, Ne.symm other]
    · simp [here]

theorem framesOf_updTx {f : TxEntry → TxEntry} (keeps : ∀ e, (f e).origin = e.origin) : (s.updTx o f).framesOf u =
    if o = u then (s.framesOf u).map f else s.framesOf u := by
  have same (e : TxEntry) : (if e.origin = o then f e else e).origin = e.origin := by split <;> simp [keeps]
  simp only [State.framesOf, State.updTx, List.filter_map, Function.comp_def, same]
  split
  case isTrue here =>
    subst here
    exact List.map_congr_left fun e m => if_pos (by simpa using (List.mem_filter.mp m).2)
  case isFalse other =>
    refine (List.map_congr_left fun e m => if_neg ?_).trans (List.map_id _)
    have at_u : e.origin = u := by simpa using (List.mem_filter.mp m).2
    exact at_u ▸ Ne.symm other

theorem framesOf_withdrawTx : (s.withdrawTx o).framesOf u = if o = u then
    (if s.sending o = true then (s.framesOf u).map fun e => { e with held := .withdraw } else []) else s.framesOf u := by
  rw [State.withdrawTx]
  cases s.sending o with
  | true => simp [framesOf_updTx]
  | false => simp [framesOf_removeTx]

theorem framesOf_giveUpClaim {p : PosIx} (other : u ≠ .position p) : (s.giveUpClaim p).framesOf u = s.framesOf u := by
  simp only [State.giveUpClaim]
  have remembered (x : Bool) : (s.setRemembered p x).framesOf u = s.framesOf u := framesOf_of_tx (by simp)
  have released : (s.queueRelease p).framesOf u = s.framesOf u :=
    (framesOf_of_tx (tx_setClaim _ _ _)).trans (framesOf_queueFrame_ne _ other.symm)
  repeat' split
  all_goals first | exact remembered _ | exact released | rfl | skip
  · exact (framesOf_of_tx (by simp)).trans (framesOf_withdrawTx.trans (if_neg other.symm))
  · exact (framesOf_of_tx (by simp)).trans (framesOf_removeTx.trans (if_neg other.symm))

theorem framesOf_askClaim {p : PosIx} (other : u ≠ .position p) : (s.askClaim p).framesOf u = s.framesOf u := by
  simp only [State.askClaim]
  have remembered (x : Bool) : (s.setRemembered p x).framesOf u = s.framesOf u := framesOf_of_tx (by simp)
  have queued : (s.queueClaim p).framesOf u = s.framesOf u :=
    (framesOf_of_tx (tx_setClaim _ _ _)).trans (framesOf_queueFrame_ne _ other.symm)
  repeat' split
  all_goals first | exact remembered _ | exact queued | rfl

end

/-! ### What waits for a slot's origin -/

/-- The kind of frame that a waiting frame becomes. -/
def SlotWait.kind : SlotWait → FrameKind
  | .book => .book
  | .renewal => .book
  | .cancel _ _ => .cancel
  | .part => .carry
  | .locate => .locate

section
variable {s t : State} {h : Handle} {k : FrameKind}

theorem kind_composeWait {w : SlotWait} {f : Frame} (composed : s.composeWait h w = some f) : f.kind = w.kind := by
  simp only [State.composeWait] at composed
  repeat' split at composed
  all_goals cases composed <;> rfl

theorem composeWait_setWaits (ws : List SlotWait) (w : SlotWait) : (s.setWaits h ws).composeWait h w = s.composeWait h w := by
  simp only [State.composeWait, recOpt_setWaits, conf_setWaits]

/-- What waits with nothing left to send is forgotten. -/
theorem pumpWaits_none {ws : List SlotWait} (none : ∀ w ∈ ws, s.composeWait h w = none) :
    State.pumpWaits h ws s = s.setWaits h [] := by
  induction ws with
  | nil => rfl
  | cons w ws ih =>
    simp only [State.pumpWaits, none w List.mem_cons_self]
    exact ih fun x m => none x (List.mem_cons_of_mem _ m)

/-- The first waiting frame with something to send is queued. -/
theorem pumpWaits_append {front rest : List SlotWait} {w : SlotWait} {f : Frame}
    (none : ∀ w ∈ front, s.composeWait h w = none) (composed : s.composeWait h w = some f) :
    State.pumpWaits h (front ++ w :: rest) s = (s.setWaits h rest).queueFrame (.slot h) f := by
  induction front with
  | nil => simp only [List.nil_append, State.pumpWaits, composed]
  | cons x front ih =>
    simp only [List.cons_append, State.pumpWaits, none x List.mem_cons_self]
    exact ih fun x m => none x (List.mem_cons_of_mem _ m)

theorem waits_split (s : State) (h : Handle) (ws : List SlotWait) : (∀ w ∈ ws, s.composeWait h w = none)
    ∨ ∃ front w rest f, ws = front ++ w :: rest ∧ (∀ x ∈ front, s.composeWait h x = none) ∧ s.composeWait h w = some f := by
  induction ws with
  | nil => exact .inl fun w m => absurd m List.not_mem_nil
  | cons x ws ih =>
    cases composed : s.composeWait h x with
    | some f => exact .inr ⟨[], x, ws, f, rfl, fun y m => absurd m List.not_mem_nil, composed⟩
    | none =>
      obtain none | ⟨front, w, rest, f, split, none, composes⟩ := ih
      · exact .inl (List.forall_mem_cons.mpr ⟨composed, none⟩)
      · exact .inr ⟨x :: front, w, rest, f, congrArg (x :: ·) split, List.forall_mem_cons.mpr ⟨composed, none⟩, composes⟩

theorem slot_queueFrame (o : Origin) (f : Frame) (g : Handle) : (s.queueFrame o f).slot g = s.slot g := by
  simp only [State.slot, store_queueFrame]

theorem slot_withdrawTx (o : Origin) (g : Handle) : (s.withdrawTx o).slot g = s.slot g := by
  simp only [State.slot, store_withdrawTx]

theorem waits_setWaits (ws : List SlotWait) : ((s.setWaits h ws).slot h).waits = ws := by simp [State.setWaits]

/-- What slot h's origin holds and what waits for it. -/
def State.slotSide (s : State) (h : Handle) : List TxEntry × InTx × List SlotWait :=
  (s.framesOf (.slot h), s.lbi.inTx, (s.slot h).waits)

theorem slotSide_of (tx : t.lbi.tx = s.lbi.tx) (inTx : t.lbi.inTx = s.lbi.inTx) (waits : (t.slot h).waits = (s.slot h).waits) :
    t.slotSide h = s.slotSide h := by
  simp only [State.slotSide, framesOf_of_tx tx, inTx, waits]

/-- The pump leaves an origin that holds a frame as it is, and gives a free one the first waiting frame that still has
something to send. -/
theorem pumpSlot_cases (h : Handle) (s : State) : (s.txHas (.slot h) = true ∧ s.pumpSlot h = s)
    ∨ (s.txHas (.slot h) = false ∧ (s.pumpSlot h).slotSide h = ([], s.lbi.inTx, []))
    ∨ ∃ front w rest f, s.txHas (.slot h) = false ∧ (s.slot h).waits = front ++ w :: rest
      ∧ (∀ x ∈ front, s.composeWait h x = none) ∧ s.composeWait h w = some f
      ∧ (s.pumpSlot h).slotSide h = ([TxEntry.fresh (.slot h) f], s.lbi.inTx, rest) := by
  cases has : s.txHas (.slot h) with
  | true => exact .inl ⟨rfl, by rw [State.pumpSlot, if_pos has]⟩
  | false =>
    have pumped : s.pumpSlot h = State.pumpWaits h (s.slot h).waits s := by
      rw [State.pumpSlot, if_neg (by simp [has])]
    obtain none | ⟨front, w, rest, f, split, none, composed⟩ := waits_split s h (s.slot h).waits
    · refine .inr (.inl ⟨rfl, ?_⟩)
      rw [pumped, pumpWaits_none none, State.slotSide, waits_setWaits, framesOf_of_tx (tx_setWaits _ _ _),
        txHas_false_iff.mp has, inTx_setWaits]
    · refine .inr (.inr ⟨front, w, rest, f, rfl, split, none, composed, ?_⟩)
      rw [pumped, split, pumpWaits_append none composed, State.slotSide, framesOf_queueFrame, inTx_queueFrame,
        slot_queueFrame, waits_setWaits, inTx_setWaits, if_pos ⟨rfl, by simpa using has⟩]

/-! ### At most one frame of a slot, and the kinds that are stopped -/

theorem oneFrame_iff : s.OneFrame h ↔ ∀ e ∈ s.framesOf (.slot h), (s.framesOf (.slot h)).head? = some e := by
  simp only [State.OneFrame, mem_framesOf, and_imp, txEntry_eq_head]

theorem stopped_iff : s.Stopped h k ↔
    ∀ e ∈ s.framesOf (.slot h), e.frame.kind = k → s.lbi.inTx = .listed (.slot h) ∧ e.held = .withdraw := by
  simp only [State.Stopped, mem_framesOf, and_imp]

theorem oneFrame_congr (side : t.slotSide h = s.slotSide h) : t.OneFrame h ↔ s.OneFrame h := by
  obtain ⟨frames, -, -⟩ : _ ∧ _ ∧ _ := by simpa [State.slotSide] using side
  rw [oneFrame_iff, oneFrame_iff, frames]

theorem stopped_congr (side : t.slotSide h = s.slotSide h) : t.Stopped h k ↔ s.Stopped h k := by
  obtain ⟨frames, inTx, -⟩ : _ ∧ _ ∧ _ := by simpa [State.slotSide] using side
  rw [stopped_iff, stopped_iff, frames, inTx]

/-- No frame of kind k waits for slot h's origin. -/
def State.NoneWaits (s : State) (h : Handle) (k : FrameKind) : Prop := ∀ w ∈ (s.slot h).waits, w.kind ≠ k

theorem noneWaits_congr (side : t.slotSide h = s.slotSide h) : t.NoneWaits h k ↔ s.NoneWaits h k := by
  obtain ⟨-, -, waits⟩ : _ ∧ _ ∧ _ := by simpa [State.slotSide] using side
  rw [State.NoneWaits, State.NoneWaits, waits]

theorem oneFrame_single {e : TxEntry} (frames : s.framesOf (.slot h) = [e]) : s.OneFrame h := by
  rw [oneFrame_iff, frames]; simp

theorem oneFrame_none (frames : s.framesOf (.slot h) = []) : s.OneFrame h := by
  rw [oneFrame_iff, frames]; simp

theorem oneFrame_pumpSlot (one : s.OneFrame h) : (s.pumpSlot h).OneFrame h := by
  obtain ⟨-, same⟩ | ⟨-, side⟩ | ⟨_, _, _, _, -, -, -, -, side⟩ := pumpSlot_cases h s
  · rwa [same]
  · exact oneFrame_none (congrArg Prod.fst side)
  · exact oneFrame_single (congrArg Prod.fst side)

theorem noneWaits_pumpSlot (none : s.NoneWaits h k) : (s.pumpSlot h).NoneWaits h k :=
  fun w m => none w (waits_pumpSlot h w s m)

theorem stopped_pumpSlot (none : s.NoneWaits h k) (stopped : s.Stopped h k) : (s.pumpSlot h).Stopped h k := by
  obtain ⟨-, same⟩ | ⟨-, side⟩ | ⟨front, w, rest, f, -, waits, -, composed, side⟩ := pumpSlot_cases h s
  · rwa [same]
  · rw [stopped_iff, show (s.pumpSlot h).framesOf (.slot h) = [] from congrArg Prod.fst side]
    exact fun e m => absurd m List.not_mem_nil
  · rw [stopped_iff, show (s.pumpSlot h).framesOf (.slot h) = [_] from congrArg Prod.fst side]
    intro e m kind
    obtain rfl := List.mem_singleton.mp m
    exact absurd ((kind_composeWait composed).symm.trans kind) (none w (by rw [waits]; simp))

theorem oneFrame_map {f : TxEntry → TxEntry} {l : List TxEntry} (one : ∀ e ∈ l, l.head? = some e) :
    ∀ e ∈ l.map f, (l.map f).head? = some e := by
  intro e m
  obtain ⟨x, inside, rfl⟩ := List.mem_map.mp m
  rw [List.head?_map, one x inside]
  rfl

theorem oneFrame_withdrawTx (one : s.OneFrame h) : (s.withdrawTx (.slot h)).OneFrame h := by
  rw [oneFrame_iff] at one ⊢
  rw [framesOf_withdrawTx, if_pos rfl]
  split
  · exact oneFrame_map one
  · exact fun e m => absurd m List.not_mem_nil

theorem noneWaits_withdrawTx (none : s.NoneWaits h k) : (s.withdrawTx (.slot h)).NoneWaits h k := by
  intro w m
  rw [slot_withdrawTx] at m
  exact none w m

/-- A slot's frame of one kind withdrawn stops that kind and starts no other. -/
theorem stopped_withdrawSlot {k' : FrameKind} (one : s.OneFrame h) (none : s.NoneWaits h k) (stopped : k = k' ∨ s.Stopped h k) :
    (s.withdrawSlot h k').Stopped h k := by
  have only := oneFrame_iff.mp one
  simp only [State.withdrawSlot, txEntry_eq_head]
  split
  case h_1 e head =>
    split
    case isTrue kind =>
      refine stopped_pumpSlot (noneWaits_withdrawTx none) (stopped_iff.mpr ?_)
      rw [framesOf_withdrawTx, if_pos rfl, inTx_withdrawTx]
      split
      case isTrue sending =>
        intro x m _
        obtain ⟨y, inside, rfl⟩ := List.mem_map.mp m
        exact ⟨sending_iff.mp sending, rfl⟩
      case isFalse => exact fun x m => absurd m List.not_mem_nil
    case isFalse other =>
      obtain rfl | stopped := stopped
      · refine stopped_iff.mpr fun x m kind => absurd kind ?_
        obtain rfl := Option.some.inj (head.symm.trans (only x m))
        exact other
      · exact stopped
  case h_2 empty =>
    refine stopped_iff.mpr fun x m => ?_
    rw [List.head?_eq_none_iff.mp empty] at m
    exact absurd m List.not_mem_nil

theorem oneFrame_withdrawSlot {k' : FrameKind} (one : s.OneFrame h) : (s.withdrawSlot h k').OneFrame h := by
  simp only [State.withdrawSlot]
  split
  case h_1 =>
    split
    case isTrue => exact oneFrame_pumpSlot (oneFrame_withdrawTx one)
    case isFalse => exact one
  case h_2 => exact one

theorem noneWaits_withdrawSlot {k' : FrameKind} (none : s.NoneWaits h k) : (s.withdrawSlot h k').NoneWaits h k :=
  fun w m => none w (waits_withdrawSlot h k' w s m)

theorem waits_dropWaits (w : SlotWait) : ((s.dropWaits h w).slot h).waits = (s.slot h).waits.filter (· ≠ w) := by
  rw [State.dropWaits, waits_setWaits]

theorem framesOf_dropWaits (w : SlotWait) (o : Origin) : (s.dropWaits h w).framesOf o = s.framesOf o :=
  framesOf_of_tx (by simp)

theorem noneWaits_dropWaits (w : SlotWait) (none : ∀ x ∈ (s.slot h).waits, x ≠ w → x.kind ≠ k) :
    (s.dropWaits h w).NoneWaits h k := by
  intro x m
  rw [waits_dropWaits] at m
  obtain ⟨inside, other⟩ := List.mem_filter.mp m
  exact none x inside (by simpa using other)

theorem oneFrame_dropWaits (w : SlotWait) : (s.dropWaits h w).OneFrame h ↔ s.OneFrame h := by
  rw [oneFrame_iff, oneFrame_iff, framesOf_dropWaits]

theorem stopped_dropWaits (w : SlotWait) : (s.dropWaits h w).Stopped h k ↔ s.Stopped h k := by
  rw [stopped_iff, stopped_iff, framesOf_dropWaits, State.dropWaits, inTx_setWaits]

theorem waits_sendSlot {w x : SlotWait} (m : x ∈ ((s.sendSlot h w).slot h).waits) : x ∈ (s.slot h).waits ∨ x = w := by
  rw [State.sendSlot] at m
  have m := waits_pumpSlot h x _ m
  rw [waits_setWaits] at m
  simpa using m

theorem noneWaits_sendSlot {w : SlotWait} (none : s.NoneWaits h k) (other : w.kind ≠ k) : (s.sendSlot h w).NoneWaits h k := by
  intro x m
  obtain m | rfl := waits_sendSlot m
  · exact none x m
  · exact other

theorem noneWaits_setWaits {ws : List SlotWait} (none : ∀ w ∈ ws, w.kind ≠ k) : (s.setWaits h ws).NoneWaits h k := by
  intro x m
  rw [waits_setWaits] at m
  exact none x m

theorem stopped_setWaits (ws : List SlotWait) : (s.setWaits h ws).Stopped h k ↔ s.Stopped h k := by
  rw [stopped_iff, stopped_iff, framesOf_of_tx (tx_setWaits _ _ _), inTx_setWaits]

theorem oneFrame_setWaits (ws : List SlotWait) : (s.setWaits h ws).OneFrame h ↔ s.OneFrame h := by
  rw [oneFrame_iff, oneFrame_iff, framesOf_of_tx (tx_setWaits _ _ _)]

theorem stopped_sendSlot {w : SlotWait} (none : s.NoneWaits h k) (other : w.kind ≠ k) (stopped : s.Stopped h k) :
    (s.sendSlot h w).Stopped h k := by
  refine stopped_pumpSlot (noneWaits_setWaits fun x m => ?_) ((stopped_setWaits _).mpr stopped)
  obtain m | m := List.mem_append.mp m
  · exact none x m
  · exact List.mem_singleton.mp m ▸ other

theorem oneFrame_sendSlot (w : SlotWait) (one : s.OneFrame h) : (s.sendSlot h w).OneFrame h :=
  oneFrame_pumpSlot ((oneFrame_setWaits _).mpr one)

/-! ### The CANCEL of a booking that ends -/

/-- A CANCEL for tag t at station a is the frame slot h's origin holds, or waits for it. -/
def State.CancelNext (s : State) (h : Handle) (t : Tag) (a : Addr) : Prop :=
  (∃ e, s.txEntry (.slot h) = some e ∧ e.frame = tagFrame .cancel a t) ∨ SlotWait.cancel t a ∈ (s.slot h).waits

theorem State.CancelNext.cancels {x : Tag} {a : Addr} (next : s.CancelNext h x a) : s.Cancels h x a := by
  obtain ⟨e, entry, frame⟩ | waits := next
  · have member := List.mem_of_find?_eq_some entry
    have origin := List.find?_some entry
    exact .inl ⟨e, member, by simpa using origin, frame⟩
  · exact .inr waits

theorem cancelNext_congr (side : t.slotSide h = s.slotSide h) (x : Tag) (a : Addr) : t.CancelNext h x a ↔ s.CancelNext h x a := by
  obtain ⟨frames, -, waits⟩ : _ ∧ _ ∧ _ := by simpa [State.slotSide] using side
  simp only [State.CancelNext, txEntry_eq_head, frames, waits]

theorem cancelNext_pumpSlot {x : Tag} {a : Addr} (next : s.CancelNext h x a) : (s.pumpSlot h).CancelNext h x a := by
  obtain ⟨-, same⟩ | ⟨free, side⟩ | ⟨front, w, rest, f, free, waits, none, composed, side⟩ := pumpSlot_cases h s
  · rwa [same]
  · obtain ⟨e, entry, -⟩ | waits := next
    · rw [txEntry_eq_head, txHas_false_iff.mp free] at entry
      exact nomatch entry
    · have kept : (s.pumpSlot h).slotSide h = ([], s.lbi.inTx, []) := side
      obtain none | ⟨front, w, rest, f, split, none, composed⟩ := waits_split s h (s.slot h).waits
      · exact nomatch none _ waits
      · have pumped : s.pumpSlot h = (s.setWaits h rest).queueFrame (.slot h) f := by
          rw [State.pumpSlot, if_neg (by simp [free]), split, pumpWaits_append none composed]
        have frames : (s.pumpSlot h).framesOf (.slot h) = [TxEntry.fresh (.slot h) f] := by
          rw [pumped, framesOf_queueFrame, if_pos ⟨rfl, by simpa using free⟩]
        exact nomatch frames.symm.trans (congrArg Prod.fst kept)
  · obtain ⟨e, entry, -⟩ | inside := next
    · rw [txEntry_eq_head, txHas_false_iff.mp free] at entry
      exact nomatch entry
    · rw [waits] at inside
      obtain early | here := List.mem_append.mp inside
      · exact nomatch none _ early
      · obtain rfl | later := List.mem_cons.mp here
        · refine .inl ⟨_, by rw [txEntry_eq_head, show (s.pumpSlot h).framesOf (.slot h) = [_] from congrArg Prod.fst side]; rfl, ?_⟩
          exact (Option.some.inj composed).symm
        · exact .inr (by rw [show ((s.pumpSlot h).slot h).waits = rest from congrArg (·.2.2) side]; exact later)

theorem cancelNext_sendSlot (x : Tag) (a : Addr) : (s.sendSlot h (.cancel x a)).CancelNext h x a :=
  cancelNext_pumpSlot (.inr (by rw [waits_setWaits]; simp))

theorem cancelNext_withdrawSlot {x : Tag} {a : Addr} {k' : FrameKind} (other : k' ≠ .cancel) (next : s.CancelNext h x a) :
    (s.withdrawSlot h k').CancelNext h x a := by
  simp only [State.withdrawSlot]
  split
  case h_1 e entry =>
    split
    case isTrue kind =>
      refine cancelNext_pumpSlot ?_
      obtain ⟨y, first, frame⟩ | waits := next
      · obtain rfl := Option.some.inj (entry.symm.trans first)
        exact absurd (kind.symm.trans (congrArg Frame.kind frame)) other
      · exact .inr (by rwa [slot_withdrawTx])
    case isFalse => exact next
  case h_2 => exact next

theorem cancelNext_dropWaits {x : Tag} {a : Addr} {w : SlotWait} (other : w.kind ≠ .cancel) (next : s.CancelNext h x a) :
    (s.dropWaits h w).CancelNext h x a := by
  obtain ⟨e, entry, frame⟩ | waits := next
  · exact .inl ⟨e, by rwa [txEntry_eq_head, framesOf_dropWaits, ← txEntry_eq_head], frame⟩
  · refine .inr ?_
    rw [waits_dropWaits]
    refine List.mem_filter.mpr ⟨waits, ?_⟩
    have differ : SlotWait.cancel x a ≠ w := fun same => other (same ▸ rfl)
    simpa using differ

end

end Sys2Proof.Machine
end

section
/-! SUPPORT. Entry into HELD (O19). -/

namespace Sys2Proof.Machine
open Host

/-! ### The end of a booking (R58 step 4, R148) -/

section
variable {s t : State} {h : Handle} {r : Record} {k : FrameKind}

theorem slotSide_setRec (g : Handle) (r : Record) : (s.setRec g r).slotSide h = s.slotSide h :=
  slotSide_of (by simp) (by simp) (waits_setRec _ _ _ _)

theorem slotSide_updRec (g : Handle) (f : Record → Record) : (s.updRec g f).slotSide h = s.slotSide h := by
  rw [State.updRec]
  split
  case h_1 => exact slotSide_setRec _ _
  case h_2 => rfl

theorem endBooking_eq (stands : s.rec? h = some r) : s.endBooking h = match r.booking with
    | .none => (s.setRec h r.unbooked).withdrawBooks h
    | .asking _ _ => (s.setRec h r.unbooked).withdrawBooks h
    | .held a _ => ((s.setRec h r.unbooked).withdrawBooks h).sendSlot h (.cancel r.tag a) := by
  simp only [State.endBooking, stands, updRec_some _ _ _ _ stands]
  rfl

theorem noneWaits_withdrawBooks : (s.withdrawBooks h).NoneWaits h .book := by
  intro w m
  obtain ⟨book, renewal⟩ := waits_withdrawBooks h s
  cases w with
  | book => exact absurd m book
  | renewal => exact absurd m renewal
  | cancel => exact nofun
  | part => exact nofun
  | locate => exact nofun

theorem noneWaits_dropBooks : ((s.dropWaits h .book).dropWaits h .renewal).NoneWaits h .book := by
  refine noneWaits_dropWaits _ fun w m other => ?_
  rw [waits_dropWaits] at m
  have notBook : w ≠ .book := by simpa using (List.mem_filter.mp m).2
  cases w with
  | book => exact absurd rfl notBook
  | renewal => exact absurd rfl other
  | cancel => exact nofun
  | part => exact nofun
  | locate => exact nofun

theorem oneFrame_dropBooks : ((s.dropWaits h .book).dropWaits h .renewal).OneFrame h ↔ s.OneFrame h :=
  (oneFrame_dropWaits _).trans (oneFrame_dropWaits _)

theorem stopped_withdrawBooks (one : s.OneFrame h) : (s.withdrawBooks h).Stopped h .book :=
  stopped_withdrawSlot (oneFrame_dropBooks.mpr one) noneWaits_dropBooks (.inl rfl)

theorem oneFrame_withdrawBooks (one : s.OneFrame h) : (s.withdrawBooks h).OneFrame h :=
  oneFrame_withdrawSlot (oneFrame_dropBooks.mpr one)

theorem noneWaits_withdrawBooks_of (none : s.NoneWaits h k) : (s.withdrawBooks h).NoneWaits h k :=
  noneWaits_withdrawSlot (noneWaits_dropWaits _ fun w m _ =>
    noneWaits_dropWaits (s := s) .book (fun x inside _ => none x inside) w m)

theorem stopped_withdrawBooks_of (one : s.OneFrame h) (none : s.NoneWaits h k) (stopped : s.Stopped h k) :
    (s.withdrawBooks h).Stopped h k :=
  stopped_withdrawSlot (oneFrame_dropBooks.mpr one)
    (noneWaits_dropWaits _ fun w m _ => noneWaits_dropWaits (s := s) .book (fun x inside _ => none x inside) w m)
    (.inr ((stopped_dropWaits _).mpr ((stopped_dropWaits _).mpr stopped)))

/-- After the end of a booking no BOOK of the slot is left to be sent (R88, R148). -/
theorem endBooking_books (stands : s.rec? h = some r) : (s.endBooking h).NoneWaits h .book
    ∧ (s.OneFrame h → (s.endBooking h).Stopped h .book) := by
  have side : (s.setRec h r.unbooked).slotSide h = s.slotSide h := slotSide_setRec _ _
  rw [endBooking_eq stands]
  cases r.booking with
  | none => exact ⟨noneWaits_withdrawBooks, fun one => stopped_withdrawBooks ((oneFrame_congr side).mpr one)⟩
  | asking => exact ⟨noneWaits_withdrawBooks, fun one => stopped_withdrawBooks ((oneFrame_congr side).mpr one)⟩
  | held => exact ⟨noneWaits_sendSlot noneWaits_withdrawBooks nofun, fun one => stopped_sendSlot noneWaits_withdrawBooks nofun
      (stopped_withdrawBooks ((oneFrame_congr side).mpr one))⟩

theorem oneFrame_endBooking (one : s.OneFrame h) : (s.endBooking h).OneFrame h := by
  cases stands : s.rec? h with
  | none => simpa [State.endBooking, stands] using one
  | some r =>
    have kept := oneFrame_withdrawBooks ((oneFrame_congr (slotSide_setRec (h := h) h r.unbooked)).mpr one)
    rw [endBooking_eq stands]
    cases r.booking with
    | none => exact kept
    | asking => exact kept
    | held => exact oneFrame_sendSlot _ kept

/-- The end of a booking leaves a stopped kind stopped. -/
theorem stopped_endBooking (other : FrameKind.cancel ≠ k) (none : s.NoneWaits h k) : (s.endBooking h).NoneWaits h k
    ∧ (s.OneFrame h → s.Stopped h k → (s.endBooking h).Stopped h k) := by
  cases stands : s.rec? h with
  | none => simpa [State.endBooking, stands] using none
  | some r =>
    have side : (s.setRec h r.unbooked).slotSide h = s.slotSide h := slotSide_setRec _ _
    have waits := noneWaits_withdrawBooks_of ((noneWaits_congr side).mpr none)
    have frames (one : s.OneFrame h) (stopped : s.Stopped h k) : ((s.setRec h r.unbooked).withdrawBooks h).Stopped h k :=
      stopped_withdrawBooks_of ((oneFrame_congr side).mpr one) ((noneWaits_congr side).mpr none) ((stopped_congr side).mpr stopped)
    rw [endBooking_eq stands]
    cases r.booking with
    | none => exact ⟨waits, frames⟩
    | asking => exact ⟨waits, frames⟩
    | held => exact ⟨noneWaits_sendSlot waits other, fun one stopped => stopped_sendSlot waits other (frames one stopped)⟩

/-- A booking held at d is cancelled there. -/
theorem cancelNext_endBooking {d : Addr} {q : PosIx} (stands : s.rec? h = some r) (held : r.booking = .held d q) :
    (s.endBooking h).CancelNext h r.tag d := by
  rw [endBooking_eq stands, held]
  exact cancelNext_sendSlot _ _

theorem noneWaits_book_iff : s.NoneWaits h .book ↔ SlotWait.book ∉ (s.slot h).waits ∧ SlotWait.renewal ∉ (s.slot h).waits := by
  refine ⟨fun none => ⟨fun m => none _ m rfl, fun m => none _ m rfl⟩, fun ⟨book, renewal⟩ w m => ?_⟩
  cases w with
  | book => exact absurd m book
  | renewal => exact absurd m renewal
  | cancel => exact nofun
  | part => exact nofun
  | locate => exact nofun

/-! ### What an entry into HELD does, in parts -/

/-- A deviation touches the list and the overflow mark alone (R55). -/
theorem deviate_eq (r : Record) (k : DevKind) (v : BitVec 24) : r.deviate k v = { r with
    deviations := if r.deviations.length < 4 then r.deviations ++ [{ kind := k, stepIndex := r.current, value := v }]
      else r.deviations
    overflow := if r.deviations.length < 4 then r.overflow else true } := by
  rw [Record.deviate]
  split <;> rfl

/-- The record marked HELD and its position stopped (R58 steps 1 to 3). -/
def State.heldHere (s : State) (h : Handle) (k : DevKind) (v : BitVec 24) (r : Record) : State :=
  ((s.setRec h { r.deviate k v with heldFrom := some r.state, state := .held }).giveUpClaim? r.position).stopPosition? r.position

/-- The record out of the arrival queue, and off its position where it leaves it (R58 steps 5 and 6). -/
def State.heldAway (s : State) (h : Handle) (r : Record) (gone : Bool) : State :=
  let s := if r.state = .queued then s.unqueue h else s
  if gone then (s.vacate? r.position .empty).updRec h fun r => { r with position := none } else s

theorem enterHeld_eq (k : DevKind) (v : BitVec 24) (leaves : Bool) (stands : s.rec? h = some r) (active : r.state ≠ .held) :
    s.enterHeld h k v leaves = (((s.heldHere h k v r).endBooking h).heldAway h r (leaves || decide (r.state = .placed))).post
      (recordEvent .held (if leaves || decide (r.state = .placed) then none else r.position) h r.tag (heldValue r k)) := by
  rw [enterHeld_some h k v leaves r s stands active]
  rfl

theorem slotSide_giveUpClaimOpt (p : Option PosIx) : (s.giveUpClaim? p).slotSide h = s.slotSide h := by
  cases p with
  | none => rfl
  | some p =>
    simp only [State.slotSide, State.giveUpClaim?, framesOf_giveUpClaim (Origin.noConfusion : Origin.slot h ≠ .position p),
      inTx_giveUpClaim, State.slot, store_giveUpClaim]

theorem slotSide_store (tx : t.lbi.tx = s.lbi.tx) (inTx : t.lbi.inTx = s.lbi.inTx) (slots : t.store.slots = s.store.slots) :
    t.slotSide h = s.slotSide h :=
  slotSide_of tx inTx (by simp only [State.slot, slots])

theorem slotSide_heldHere (k : DevKind) (v : BitVec 24) : (s.heldHere h k v r).slotSide h = s.slotSide h := by
  rw [State.heldHere, slotSide_store (tx_stopPositionOpt _ _) (inTx_stopPositionOpt _ _) (by simp), slotSide_giveUpClaimOpt,
    slotSide_setRec]

theorem recOpt_heldHere (k : DevKind) (v : BitVec 24) :
    (s.heldHere h k v r).rec? h = some { r.deviate k v with heldFrom := some r.state, state := .held } := by
  simp [State.heldHere]

theorem slotSide_heldAway (gone : Bool) : (s.heldAway h r gone).slotSide h = s.slotSide h := by
  have queue : (if r.state = .queued then s.unqueue h else s).slotSide h = s.slotSide h := by
    split
    · exact slotSide_store (by simp) (by simp) rfl
    · rfl
  cases gone with
  | false => exact queue
  | true =>
    rw [State.heldAway]
    simp only [if_true]
    rw [slotSide_updRec, slotSide_store (tx_vacateOpt _ _ _) (inTx_vacateOpt _ _ _) (by simp), queue]

theorem slotSide_enterHeld (k : DevKind) (v : BitVec 24) (leaves : Bool) (stands : s.rec? h = some r) (active : r.state ≠ .held) :
    (s.enterHeld h k v leaves).slotSide h = ((s.heldHere h k v r).endBooking h).slotSide h := by
  rw [enterHeld_eq k v leaves stands active, slotSide_store (tx_post _ _) (inTx_post _ _) (by simp), slotSide_heldAway]

/-- The marks of a position that gives up its claim (R132). -/
theorem marks_giveUpClaim (p : PosIx) (s : State) :
    ((s.pos p).claim = .claimQueued → (s.pos p).withdrawing = true ∨ s.sending (.position p) = true →
      ((s.giveUpClaim p).pos p).withdrawing = true ∧ ((s.giveUpClaim p).pos p).remembered = false)
    ∧ ((s.pos p).claim = .releaseQueued → ((s.giveUpClaim p).pos p).remembered = false) := by
  refine ⟨fun queued out => ?_, fun queued => ?_⟩
  · simp only [State.giveUpClaim, queued]
    split
    case isTrue withdrawing => simp [State.setRemembered, withdrawing]
    case isFalse free =>
      have sending := out.resolve_left free
      simp [sending]
  · simp [State.giveUpClaim, queued, State.setRemembered]

/-- A position whose record has given up its claim and stopped. -/
def State.stoppedAt (s : State) (p : PosIx) : Position := { (s.giveUpClaim p).pos p with stepEn := false }

theorem stoppedAt_spec (p : PosIx) (s : State) : (s.stoppedAt p).state = (s.pos p).state ∧ (s.stoppedAt p).link = (s.pos p).link
    ∧ ((s.pos p).claim = .waiting ∨ (s.pos p).claim = .granted → (s.stoppedAt p).claim = .releaseQueued)
    ∧ ((s.pos p).claim = .none → (s.stoppedAt p).claim = .none)
    ∧ ((s.pos p).claim = .claimQueued → (s.pos p).withdrawing = false → s.lbi.inTx ≠ .listed (.position p) →
      (s.stoppedAt p).claim = .none)
    ∧ ((s.pos p).claim = .claimQueued → (s.pos p).withdrawing = true ∨ s.lbi.inTx = .listed (.position p) →
      (s.stoppedAt p).claim = .claimQueued ∧ (s.stoppedAt p).withdrawing = true ∧ (s.stoppedAt p).remembered = false)
    ∧ ((s.pos p).claim = .releaseQueued → (s.stoppedAt p).claim = .releaseQueued ∧ (s.stoppedAt p).remembered = false) := by
  obtain ⟨-, claim, state, link, -, -⟩ := pos_giveUpClaim p p s
  obtain ⟨queued, released⟩ := marks_giveUpClaim p s
  have claim : (s.stoppedAt p).claim = (s.pos p).claimGivenUp (s.sending (.position p)) := claim
  refine ⟨state, link, fun stands => ?_, fun none => ?_, fun waits free idle => ?_, fun waits out => ?_, fun waits => ?_⟩
  · obtain stands | stands := stands <;> rw [claim, Position.claimGivenUp, stands]
  · rw [claim, Position.claimGivenUp, none]
  · have still : s.sending (.position p) = false := Bool.not_eq_true _ ▸ mt sending_iff.mp idle
    rw [claim, Position.claimGivenUp, waits, free, still]
    rfl
  · rw [← sending_iff] at out
    refine ⟨?_, queued waits out⟩
    rw [claim, Position.claimGivenUp, waits]
    exact if_pos (by simpa using out)
  · exact ⟨by rw [claim, Position.claimGivenUp, waits], released waits⟩

theorem pos_stopPositionOpt (p : Option PosIx) (q : PosIx) : (s.stopPosition? p).pos q =
    if p = some q then { s.pos q with stepEn := false } else s.pos q := by
  cases p with
  | none => simp [State.stopPosition?]
  | some p =>
    by_cases same : p = q
    · subst same; simp [State.stopPosition?]
    · simp [State.stopPosition?, pos_updPos, same]

theorem pos_giveUpClaimOpt (p : Option PosIx) (q : PosIx) : (s.giveUpClaim? p).pos q =
    if p = some q then (s.giveUpClaim q).pos q else s.pos q := by
  cases p with
  | none => simp [State.giveUpClaim?]
  | some p =>
    by_cases same : p = q
    · subst same; simp [State.giveUpClaim?]
    · simp [State.giveUpClaim?, pos_giveUpClaim_ne p q s (Ne.symm same), same]

theorem pos_giveUpClaim_congr {p : PosIx} (pos : t.pos p = s.pos p) (sending : t.sending (.position p) = s.sending (.position p)) :
    (t.giveUpClaim p).pos p = (s.giveUpClaim p).pos p := by
  simp only [State.giveUpClaim, pos, sending]
  repeat' split
  all_goals simp [State.setRemembered, State.queueRelease, State.setClaim, pos]

theorem pos_heldHere (k : DevKind) (v : BitVec 24) (q : PosIx) : (s.heldHere h k v r).pos q =
    if r.position = some q then s.stoppedAt q else s.pos q := by
  rw [State.heldHere, pos_stopPositionOpt, pos_giveUpClaimOpt]
  split
  · rw [pos_giveUpClaim_congr (pos_setRec _ _ _ _) (sending_setRec _ _ _ _)]
    rfl
  · rw [pos_setRec]

theorem pos_vacateOpt (p : Option PosIx) (st : PosState) (q : PosIx) : (s.vacate? p st).pos q =
    if p = some q then { s.pos q with state := st, link := none, stepEn := false } else s.pos q := by
  cases p with
  | none => simp [State.vacate?]
  | some p =>
    by_cases same : p = q
    · subst same; simp [State.vacate?, State.vacate]
    · simp [State.vacate?, State.vacate, pos_updPos, same]

theorem pos_heldAway (gone : Bool) (q : PosIx) : (s.heldAway h r gone).pos q =
    if gone = true ∧ r.position = some q then { s.pos q with state := .empty, link := none, stepEn := false } else s.pos q := by
  have queue : (if r.state = .queued then s.unqueue h else s).pos q = s.pos q := by split <;> simp
  cases gone with
  | false => simpa [State.heldAway] using queue
  | true =>
    simp only [State.heldAway, if_true, pos_updRec, pos_vacateOpt, queue, true_and]

theorem pos_enterHeld (k : DevKind) (v : BitVec 24) (leaves : Bool) (stands : s.rec? h = some r) (active : r.state ≠ .held)
    (q : PosIx) : (s.enterHeld h k v leaves).pos q = if r.position = some q then
      (if leaves || decide (r.state = .placed) then { s.stoppedAt q with state := .empty, link := none } else s.stoppedAt q)
      else s.pos q := by
  rw [enterHeld_eq k v leaves stands active, pos_post, pos_heldAway, pos_endBooking, pos_heldHere]
  cases leaves || decide (r.state = .placed) with
  | false => simp
  | true =>
    simp only [true_and, if_true]
    split
    · rfl
    · rfl

theorem queues_heldAway (gone : Bool) :
    (s.heldAway h r gone).store.rushQueue = (if r.state = .queued then s.store.rushQueue.filter (· ≠ h) else s.store.rushQueue)
    ∧ (s.heldAway h r gone).store.ordinaryQueue =
      (if r.state = .queued then s.store.ordinaryQueue.filter (· ≠ h) else s.store.ordinaryQueue) := by
  cases gone <;> simp only [State.heldAway, Bool.false_eq_true, if_true, if_false, rushQueue_updRec, rushQueue_vacateOpt,
    ordinaryQueue_updRec, ordinaryQueue_vacateOpt] <;> split <;> exact ⟨rfl, rfl⟩

theorem port_post_congr (port : t.port = s.port) (line : t.mem.line = s.mem.line) (e : Event) : (t.post e).port = (s.post e).port := by
  simp only [State.post, line, port]
  repeat' split
  all_goals first | exact port | simp [State.alarm, port]

theorem port_enterHeld (k : DevKind) (v : BitVec 24) (leaves : Bool) (stands : s.rec? h = some r) (active : r.state ≠ .held) :
    (s.enterHeld h k v leaves).port = (s.post
      (recordEvent .held (if leaves || decide (r.state = .placed) then none else r.position) h r.tag (heldValue r k))).port := by
  rw [enterHeld_eq k v leaves stands active]
  refine port_post_congr ?_ ?_ _
  · simp only [State.heldAway]
    repeat' split
    all_goals simp [State.heldHere]
  · simp only [State.heldAway]
    repeat' split
    all_goals simp [State.heldHere]

end

/-- Settles O19. -/
theorem entryIntoHeld : Obligations.EntryIntoHeld := by
  refine ⟨fun h k v leaves r s stands active => ?_, fun h k v leaves r s stands held => by simp [State.enterHeld, stands, held]⟩
  have here := recOpt_heldHere (s := s) (h := h) (r := r) k v
  have side := slotSide_enterHeld k v leaves stands active
  obtain ⟨waits, stopped⟩ := endBooking_books here
  have before : (s.heldHere h k v r).slotSide h = s.slotSide h := slotSide_heldHere k v
  refine ⟨⟨_, recOpt_enterHeld_same h k v leaves r s stands active, rfl, rfl, rfl, ?_, ?_, ?_, ?_⟩,
    fun g other => recOpt_enterHeld_ne g h k v leaves s (Ne.symm other), fun p other => ?_, fun p position => ?_, ?_, ?_, ?_, ?_, ?_, ?_,
    freeList_enterHeld _ _ _ _ _, port_enterHeld k v leaves stands active, bookings_enterHeld _ _ _ _ _, bud_enterHeld _ _ _ _ _,
    mem_enterHeld _ _ _ _ _⟩
  · rw [deviate_eq]
  · intro few
    simp [Record.deviate, few, Record.unbooked]
  · intro many
    simp [Record.deviate, Nat.not_lt.mpr many, Record.unbooked]
  · rw [deviate_eq]
    exact ⟨rfl, rfl, rfl, rfl, rfl, rfl, rfl, rfl, rfl, rfl, rfl⟩
  · rw [pos_enterHeld k v leaves stands active, if_neg other]
  · rw [pos_enterHeld k v leaves stands active, if_pos position]
    obtain ⟨state, link, claims⟩ := stoppedAt_spec p s
    cases leaves || decide (r.state = .placed) with
    | true => exact ⟨rfl, fun _ => ⟨rfl, rfl⟩, nofun, claims⟩
    | false => exact ⟨rfl, nofun, fun _ => ⟨state, link⟩, claims⟩
  · intro d q held
    have next : ((s.heldHere h k v r).endBooking h).CancelNext h _ d := cancelNext_endBooking (q := q) here (by rw [deviate_eq]; exact held)
    have tag : ({ r.deviate k v with heldFrom := some r.state, state := .held } : Record).tag = r.tag := by
      rw [deviate_eq]
    rw [tag] at next
    exact ((cancelNext_congr side _ _).mpr next).cancels
  · exact fun one => (stopped_congr side).mpr (stopped ((oneFrame_congr before).mpr one))
  · exact (noneWaits_book_iff.mp ((noneWaits_congr side).mpr waits)).1
  · exact (noneWaits_book_iff.mp ((noneWaits_congr side).mpr waits)).2
  · rw [enterHeld_eq k v leaves stands active, rushQueue_post, (queues_heldAway _).1]
    simp [State.heldHere]
  · rw [enterHeld_eq k v leaves stands active, ordinaryQueue_post, (queues_heldAway _).2]
    simp [State.heldHere]

end Sys2Proof.Machine
end

section
/-! SUPPORT. HOLD, CONCESSION, SCRAP and ADOPT (O20 to O23). -/

namespace Sys2Proof.Machine
open Host

/-! ### HOLD and the checks of the codes (R62 to R64, R69) -/

section
variable {s t : State} {h : Handle} {r : Record}

theorem exec_hold (active : s.isActive = true) (stands : s.rec? h = some r) (runs : s.deliver.holdRecord h r = t) :
    exec (.hold (byte h.val)) s = .next t := exec_withRecord active stands runs

theorem exec_concession (active : s.isActive = true) (stands : s.rec? h = some r) (runs : s.deliver.concede h r = t) :
    exec (.concession (byte h.val)) s = .next t := exec_withRecord active stands runs

theorem exec_adopt (active : s.isActive = true) (stands : s.rec? h = some r) (runs : s.deliver.adopt h r = t) :
    exec (.adopt (byte h.val)) s = .next t := exec_withRecord active stands runs

theorem codeMatches_iff : s.deliver.codeMatches = true ↔ Memory.readList s.staging 120 8 = s.conf.items.code.toList := by
  simp only [State.codeMatches, decide_eq_true_eq]
  rfl

theorem wrongCode_deliver (left : 0 < s.store.attempts) : s.deliver.wrongCode =
    s.wrongCodeEffect.answered .refused (0x1100#16 ++ byte (s.store.attempts - 1)) := by
  have count : s.deliver.failAttempt.attemptByte = byte (s.store.attempts - 1) := congrArg byte (attempts_failAttempt s.deliver)
  rw [State.wrongCode, count]
  by_cases last : s.store.attempts = 1
  · simp [State.failAttempt, State.wrongCodeEffect, State.refuse, State.respond, State.answered, State.deliver, State.alarm, last,
      word24, reasonCode]
  · have more : ¬s.store.attempts - 1 = 0 := by omega
    simp [State.failAttempt, State.wrongCodeEffect, State.refuse, State.respond, State.answered, State.deliver, last, more,
      word24, reasonCode]

theorem concede_overflowed (held : r.state = .held) (full : r.overflow = true) :
    s.concede h r = s.refuse .overflowed s.attemptByte := by
  simp [State.concede, held, full]

theorem concede_locked (held : r.state = .held) (fits : r.overflow = false) (locked : s.store.attempts = 0) :
    s.concede h r = s.refuse .locked s.attemptByte := by
  simp [State.concede, held, fits, locked]

theorem concede_wrong (held : r.state = .held) (fits : r.overflow = false) (left : 0 < s.store.attempts)
    (wrong : ¬s.codeMatches = true) : s.concede h r = s.wrongCode := by
  simp [State.concede, held, fits, left.ne', wrong]

theorem concede_accepted (held : r.state = .held) (fits : r.overflow = false) (left : 0 < s.store.attempts)
    (right : s.codeMatches = true) :
    s.concede h r = (s.returnRecord h r (s.returnState r)).ok (recStateCode (s.returnState r)) 0 s.attemptByte := by
  simp [State.concede, held, fits, left.ne', right]

theorem adopt_apart (state : r.state = .uncertain) (apart : s.mem.line ≠ .joined) :
    s.adopt h r = s.refuse .notJoined s.attemptByte := by
  simp [State.adopt, state, State.isJoined, apart]

theorem adopt_locked (state : r.state = .uncertain) (joined : s.mem.line = .joined) (locked : s.store.attempts = 0) :
    s.adopt h r = s.refuse .locked s.attemptByte := by
  simp [State.adopt, state, State.isJoined, joined, locked]

theorem adopt_wrong (state : r.state = .uncertain) (joined : s.mem.line = .joined) (left : 0 < s.store.attempts)
    (wrong : ¬s.codeMatches = true) : s.adopt h r = s.wrongCode := by
  simp [State.adopt, state, State.isJoined, joined, left.ne', wrong]

theorem adopt_accepted (state : r.state = .uncertain) (joined : s.mem.line = .joined) (left : 0 < s.store.attempts)
    (right : s.codeMatches = true) : s.adopt h r = s.adoptRecord h r := by
  simp [State.adopt, state, State.isJoined, joined, left.ne', right]

end

/-- Settles O20. -/
theorem holdStopsAndCodesCompared : Obligations.HoldStopsAndCodesCompared := by
  refine ⟨fun h r s active stands => ⟨fun held => ?_, fun outbound => ?_, fun inactive => ?_, fun a b c d => ?_⟩,
    fun h r s active stands => ⟨fun state => ?_, fun state => ⟨fun full => ?_, fun fits locked => ?_, fun fits left wrong => ?_⟩⟩,
    fun h r s active stands => ⟨fun state => ?_, fun state => ⟨fun line => ?_, fun line locked => ?_, fun line left wrong => ?_⟩⟩⟩
  · exact exec_hold active stands (by simp only [State.holdRecord, held]; rfl)
  · exact exec_hold active stands (by simp only [State.holdRecord, outbound]; rfl)
  · obtain state | state := inactive <;> exact exec_hold active stands (by simp only [State.holdRecord, state]; rfl)
  · refine exec_hold active stands ?_
    cases state : r.state <;> first | exact absurd state a | exact absurd state b | exact absurd state c | exact absurd state d | skip
    all_goals simp only [State.holdRecord, state]
  · exact exec_concession active stands (if_pos state)
  · exact exec_concession active stands (concede_overflowed state full)
  · exact exec_concession active stands (concede_locked (s := s.deliver) state fits locked)
  · exact exec_concession active stands ((concede_wrong (s := s.deliver) state fits left (mt codeMatches_iff.mp wrong)).trans (wrongCode_deliver left))
  · exact exec_adopt active stands (if_pos state)
  · exact exec_adopt active stands (adopt_apart (s := s.deliver) state line)
  · exact exec_adopt active stands (adopt_locked (s := s.deliver) state line locked)
  · exact exec_adopt active stands ((adopt_wrong (s := s.deliver) state line left (mt codeMatches_iff.mp wrong)).trans (wrongCode_deliver left))

/-! ### CONCESSION accepted (R65, R66) -/

theorem returnState_other {s : State} {r : Record}
    (notLate : ¬(r.heldFrom = some .ended ∨ r.heldFrom = some .outbound ∨ r.heldFrom = some .uncertain)) :
    s.returnState r = match r.position with
      | some p =>
        match (s.pos p).state with
        | .occupied => .loaded
        | .assigned => .inbound
        | .empty => .queued
        | .booked => .queued
        | .clearing => .queued
      | none => .queued := by
  rw [State.returnState]
  cases before : r.heldFrom with
  | none => rfl
  | some st => cases st <;> first | rfl | exact absurd (by simp [before]) notLate

/-- Settles O21. -/
theorem concessionReturns : Obligations.ConcessionReturns := by
  intro h r s active stands held fits left right
  have accepted := concede_accepted (s := s.deliver) (h := h) held fits left (codeMatches_iff.mpr right)
  refine ⟨fun late => ?_, fun notLate => ⟨fun p position occupied => ?_, fun p position assigned => ?_, fun placeless => ?_⟩⟩
  · have state : s.deliver.returnState r = .ended := by
      obtain from_ | from_ | from_ := late <;> simp only [State.returnState, from_]
    exact exec_concession active stands (accepted.trans (by rw [state]; rfl))
  · have state : s.deliver.returnState r = .loaded := by
      rw [returnState_other notLate, position]
      simp only [pos_deliver, occupied]
    exact exec_concession active stands (accepted.trans (by rw [state]; rfl))
  · have state : s.deliver.returnState r = .inbound := by
      rw [returnState_other notLate, position]
      simp only [pos_deliver, assigned]
    exact exec_concession active stands (accepted.trans (by rw [state]; rfl))
  · have state : s.deliver.returnState r = .queued := by
      rw [returnState_other notLate, placeless]
    exact exec_concession active stands (accepted.trans (by rw [state]; rfl))

/-! ### The LOCATE of an UNCERTAIN record stopped (R67, R70) -/

section
variable {s t : State} {h : Handle} {r : Record} {k : FrameKind}

theorem slotSide_stopLocate : (s.stopLocate h).slotSide h = ((s.dropWaits h .locate).withdrawSlot h .locate).slotSide h :=
  slotSide_updRec _ _

theorem noneWaits_dropLocate : (s.dropWaits h .locate).NoneWaits h .locate := by
  refine noneWaits_dropWaits _ fun w _ other => ?_
  cases w with
  | locate => exact absurd rfl other
  | book => exact nofun
  | renewal => exact nofun
  | cancel => exact nofun
  | part => exact nofun

theorem stopLocate_locates : (s.stopLocate h).NoneWaits h .locate ∧ (s.OneFrame h → (s.stopLocate h).Stopped h .locate) :=
  ⟨(noneWaits_congr slotSide_stopLocate).mpr (noneWaits_withdrawSlot noneWaits_dropLocate),
    fun one => (stopped_congr slotSide_stopLocate).mpr
      (stopped_withdrawSlot ((oneFrame_dropWaits _).mpr one) noneWaits_dropLocate (.inl rfl))⟩

theorem stopped_stopLocate (none : s.NoneWaits h k) : (s.stopLocate h).NoneWaits h k
    ∧ (s.OneFrame h → s.Stopped h k → (s.stopLocate h).Stopped h k) := by
  have dropped : (s.dropWaits h .locate).NoneWaits h k := noneWaits_dropWaits _ fun w m _ => none w m
  exact ⟨(noneWaits_congr slotSide_stopLocate).mpr (noneWaits_withdrawSlot dropped),
    fun one stopped => (stopped_congr slotSide_stopLocate).mpr
      (stopped_withdrawSlot ((oneFrame_dropWaits _).mpr one) dropped (.inr ((stopped_dropWaits _).mpr stopped)))⟩

theorem oneFrame_stopLocate (one : s.OneFrame h) : (s.stopLocate h).OneFrame h :=
  (oneFrame_congr slotSide_stopLocate).mpr (oneFrame_withdrawSlot ((oneFrame_dropWaits _).mpr one))

theorem cancelNext_stopLocate {x : Tag} {a : Addr} (next : s.CancelNext h x a) : (s.stopLocate h).CancelNext h x a :=
  (cancelNext_congr slotSide_stopLocate x a).mpr (cancelNext_withdrawSlot nofun (cancelNext_dropWaits nofun next))

/-! ### SCRAP (R67) -/

/-- A scrapped record's position stopped, its booking ended and its frames withdrawn (R67 steps 1 to 3). -/
def State.scrapHere (s : State) (h : Handle) (r : Record) : State :=
  let s := ((s.giveUpClaim? r.position).stopPosition? r.position).endBooking h
  if r.state = .uncertain then s.stopLocate h else s

/-- The record out of the arrival queue and off its position (R67 step 4). -/
def State.scrapAway (s : State) (r : Record) (h : Handle) : State :=
  (if r.state = .queued then s.unqueue h else s).scrapPosition r.position

theorem scrapRecord_eq (stays : r.state ≠ .outbound) : s.scrapRecord h r =
    ((((s.scrapHere h r).scrapAway r h).freeSlot h).judgeSlots.placement).ok 0 0 0 := by
  rw [State.scrapRecord, if_neg stays]
  rfl

theorem slotSide_scrapAway : (s.scrapAway r h).slotSide h = s.slotSide h := by
  have queue : (if r.state = .queued then s.unqueue h else s).slotSide h = s.slotSide h := by
    split
    · exact slotSide_store (by simp) (by simp) rfl
    · rfl
  rw [State.scrapAway, slotSide_store (tx_scrapPosition _ _) (inTx_scrapPosition _ _) (by simp), queue]

theorem slotSide_stop (p : Option PosIx) : ((s.giveUpClaim? p).stopPosition? p).slotSide h = s.slotSide h := by
  rw [slotSide_store (tx_stopPositionOpt _ _) (inTx_stopPositionOpt _ _) (by simp), slotSide_giveUpClaimOpt]

/-- After SCRAP no BOOK of the slot is left to be sent, a held booking is cancelled, and an UNCERTAIN record's LOCATE is
stopped (R67, R88, R148). -/
theorem scrapHere_frames (stands : s.rec? h = some r) : (s.scrapHere h r).NoneWaits h .book
    ∧ (s.OneFrame h → (s.scrapHere h r).Stopped h .book)
    ∧ (∀ d q, r.booking = .held d q → (s.scrapHere h r).CancelNext h r.tag d)
    ∧ (r.state = .uncertain → (s.scrapHere h r).NoneWaits h .locate
      ∧ (s.OneFrame h → (s.scrapHere h r).Stopped h .locate)) := by
  have here : ((s.giveUpClaim? r.position).stopPosition? r.position).rec? h = some r := by simpa using stands
  have one (first : s.OneFrame h) : ((s.giveUpClaim? r.position).stopPosition? r.position).OneFrame h :=
    (oneFrame_congr (slotSide_stop _)).mpr first
  obtain ⟨waits, stopped⟩ := endBooking_books here
  rw [State.scrapHere]
  split
  case isTrue uncertain =>
    obtain ⟨waits', stopped'⟩ := stopped_stopLocate waits
    exact ⟨waits', fun first => stopped' (oneFrame_endBooking (one first)) (stopped (one first)),
      fun d q held => cancelNext_stopLocate (cancelNext_endBooking here held),
      fun _ => ⟨stopLocate_locates.1, fun first => stopLocate_locates.2 (oneFrame_endBooking (one first))⟩⟩
  case isFalse other =>
    exact ⟨waits, fun first => stopped (one first), fun d q held => cancelNext_endBooking here held, fun state => absurd state other⟩

theorem pos_scrapHere (q : PosIx) : (s.scrapHere h r).pos q = if r.position = some q then s.stoppedAt q else s.pos q := by
  have located (u : State) : (u.stopLocate h).pos q = u.pos q := pos_of_seqr (by simp) q
  have same : (s.scrapHere h r).pos q = ((s.giveUpClaim? r.position).stopPosition? r.position).pos q := by
    rw [State.scrapHere]
    split
    · rw [located, pos_endBooking]
    · rw [pos_endBooking]
  rw [same, pos_stopPositionOpt, pos_giveUpClaimOpt]
  split <;> rfl

theorem pos_scrapPosition (p : Option PosIx) (q : PosIx) : (s.scrapPosition p).pos q = if p = some q then
      (match (s.pos q).state with
        | .occupied => { s.pos q with state := .clearing, link := none, stepEn := false }
        | .assigned => { s.pos q with state := .empty, link := none, stepEn := false }
        | .empty => s.pos q
        | .booked => s.pos q
        | .clearing => s.pos q)
      else s.pos q := by
  cases p with
  | none => simp [State.scrapPosition]
  | some p =>
    by_cases same : p = q
    · subst same
      cases state : (s.pos p).state <;> simp [State.scrapPosition, state, State.vacate]
    · cases state : (s.pos p).state <;> simp [State.scrapPosition, state, State.vacate, pos_updPos, same]

theorem pos_scrapAway (q : PosIx) : (s.scrapAway r h).pos q = (s.scrapPosition r.position).pos q := by
  have queue : (if r.state = .queued then s.unqueue h else s).pos q = s.pos q := by split <;> simp
  rw [State.scrapAway, pos_scrapPosition, pos_scrapPosition, queue]

theorem recOpt_scrapAway (g : Handle) : (s.scrapAway r h).rec? g = s.rec? g := by
  rw [State.scrapAway, recOpt_scrapPosition]
  split
  · exact recOpt_unqueue _ _ _
  · rfl

theorem recOpt_scrapHere_ne {g : Handle} (other : g ≠ h) : (s.scrapHere h r).rec? g = s.rec? g := by
  rw [State.scrapHere]
  split <;> simp [recOpt_stopLocate, recOpt_endBooking, Ne.symm other]

theorem arrivalQueue_scrapAway (queued : r.state = .queued) : h ∉ (s.scrapAway r h).arrivalQueue := by
  have queues : (s.scrapAway r h).arrivalQueue = (s.unqueue h).arrivalQueue := by
    rw [State.scrapAway, if_pos queued]
    exact arrivalQueue_of_queues (by simp) (by simp)
  rw [queues, arrivalQueue_unqueue]
  simp

theorem scrap_keeps : ((s.scrapHere h r).scrapAway r h).store.freeList = s.store.freeList
    ∧ ((s.scrapHere h r).scrapAway r h).port = s.port ∧ ((s.scrapHere h r).scrapAway r h).bookings = s.bookings
    ∧ ((s.scrapHere h r).scrapAway r h).bud = s.bud ∧ ((s.scrapHere h r).scrapAway r h).mem = s.mem := by
  simp only [State.scrapAway, State.scrapHere]
  split
  case isTrue queued => split <;> simp
  case isFalse ordinary => split <;> simp

theorem exec_scrap (active : s.isActive = true) (stands : s.rec? h = some r) (runs : s.deliver.scrapRecord h r = t) :
    exec (.scrap (byte h.val)) s = .next t := exec_withRecord active stands runs

theorem freeSlot_spec (h : Handle) (s : State) : (s.freeSlot h).store.freeList = h :: s.store.freeList
    ∧ ((s.freeSlot h).slot h).state = .free ∧ (s.freeSlot h).rec? h = none ∧ (∀ g, g ≠ h → (s.freeSlot h).slot g = s.slot g)
    ∧ ∃ t : State, (s.freeSlot h).takeSlot = some (h, t) ∧ t.store.freeList = s.store.freeList := by
  refine ⟨rfl, ?_, ?_, fun g other => ?_, _, takeSlot_eq_some.mpr ⟨s.store.freeList, rfl, rfl⟩, rfl⟩
  · simp [State.freeSlot, State.slot, State.setSlot]
  · rw [recOpt_freeSlot, if_pos rfl]
  · have differ : h.val ≠ g.val := fun e => other (Fin.ext e.symm)
    simp [State.freeSlot, State.slot, State.setSlot, differ]

end

/-- Settles O22. -/
theorem scrapDeletes : Obligations.ScrapDeletes := by
  refine ⟨fun h r s active stands => ⟨fun outbound => exec_scrap active stands (if_pos outbound), fun stays =>
    ⟨(s.deliver.scrapHere h r).scrapAway r h, exec_scrap active stands (scrapRecord_eq stays), ?_⟩⟩, freeSlot_spec⟩
  have here : s.deliver.rec? h = some r := by simpa using stands
  obtain ⟨waits, stopped, cancels, locates⟩ := scrapHere_frames here
  have side : ((s.deliver.scrapHere h r).scrapAway r h).slotSide h = (s.deliver.scrapHere h r).slotSide h := slotSide_scrapAway
  obtain ⟨freeList, port, bookings, bud, mem⟩ := scrap_keeps (s := s.deliver) (h := h) (r := r)
  refine ⟨freeList, (congrArg Port.events port :), bookings, bud, mem, fun d q held => ((cancelNext_congr side _ _).mpr (cancels d q held)).cancels,
    fun one => (stopped_congr side).mpr (stopped one), ?_, ?_, fun uncertain one => ⟨?_, ?_⟩, fun g other => ?_,
    fun p other => ?_, fun p position => ?_, arrivalQueue_scrapAway⟩
  · exact (noneWaits_book_iff.mp ((noneWaits_congr side).mpr waits)).1
  · exact (noneWaits_book_iff.mp ((noneWaits_congr side).mpr waits)).2
  · exact (stopped_congr side).mpr ((locates uncertain).2 one)
  · exact fun m => (noneWaits_congr side).mpr (locates uncertain).1 _ m rfl
  · rw [recOpt_scrapAway, recOpt_scrapHere_ne other, recOpt_deliver]
  · rw [pos_scrapAway, pos_scrapPosition, if_neg other, pos_scrapHere, if_neg other, pos_deliver]
  · obtain ⟨state, -, claims, -⟩ := stoppedAt_spec p s.deliver
    rw [pos_scrapAway, pos_scrapPosition, if_pos position, pos_scrapHere, if_pos position]
    cases before : (s.pos p).state <;> rw [pos_deliver, before] at state <;> simp only [state] <;>
      refine ⟨?_, ?_, ?_, claims⟩ <;> simp [State.stoppedAt]

/-! ### ADOPT (R70) -/

section
variable {s t : State} {h : Handle} {r : Record}

/-- The record retagged, with its LOCATE stopped (R70). -/
def State.retagged (s : State) (h : Handle) (r : Record) : State :=
  ((s.useSeq s.newSeq).setRec h { r with adoptedFrom := some r.tag, tag := s.ownTag s.newSeq, sentToward := none }).stopLocate h

theorem adoptRecord_eq : s.adoptRecord h r =
    ((s.retagged h r).enterHeld h .adopted 0 false).respond .ok (s.attemptByte ++ s.newSeq) := rfl

theorem recOpt_retagged : (s.retagged h r).rec? h =
    some { r with adoptedFrom := some r.tag, tag := s.ownTag s.newSeq, sentToward := none, locateTimer := none } := by
  simp [State.retagged, recOpt_stopLocate]

theorem recOpt_retagged_ne {g : Handle} (other : g ≠ h) : (s.retagged h r).rec? g = s.rec? g := by
  simp [State.retagged, recOpt_stopLocate, recOpt_setRec, Ne.symm other]

theorem retagged_slot : (s.retagged h r).NoneWaits h .locate
    ∧ (s.OneFrame h → (s.retagged h r).OneFrame h ∧ (s.retagged h r).Stopped h .locate) := by
  have side : ((s.useSeq s.newSeq).setRec h
      { r with adoptedFrom := some r.tag, tag := s.ownTag s.newSeq, sentToward := none }).slotSide h = s.slotSide h :=
    (slotSide_setRec _ _).trans rfl
  exact ⟨stopLocate_locates.1, fun one => ⟨oneFrame_stopLocate ((oneFrame_congr side).mpr one),
    stopLocate_locates.2 ((oneFrame_congr side).mpr one)⟩⟩

theorem slotSide_enterHeld_keeps {k : FrameKind} (d : DevKind) (v : BitVec 24) (leaves : Bool) (stands : s.rec? h = some r)
    (active : r.state ≠ .held) (other : FrameKind.cancel ≠ k) (none : s.NoneWaits h k) :
    (s.enterHeld h d v leaves).NoneWaits h k ∧ (s.OneFrame h → s.Stopped h k → (s.enterHeld h d v leaves).Stopped h k) := by
  have side := slotSide_enterHeld d v leaves stands active
  have before : (s.heldHere h d v r).slotSide h = s.slotSide h := slotSide_heldHere d v
  obtain ⟨waits, stopped⟩ := stopped_endBooking other ((noneWaits_congr before).mpr none)
  exact ⟨(noneWaits_congr side).mpr waits, fun one stop =>
    (stopped_congr side).mpr (stopped ((oneFrame_congr before).mpr one) ((stopped_congr before).mpr stop))⟩

theorem events_post_congr (events : t.port.events = s.port.events) (alarms : t.port.alarms = s.port.alarms)
    (line : t.mem.line = s.mem.line) (e : Event) : (t.post e).port.events = (s.post e).port.events
      ∧ (t.post e).port.alarms = (s.post e).port.alarms := by
  simp only [State.post, line, events]
  repeat' split
  all_goals simp [State.alarm, events, alarms]

theorem newSeq_deliver (s : State) : s.deliver.newSeq = s.newSeq := newSeq_congr (fun _ => rfl) rfl rfl

end

/-- Settles O23. -/
theorem adoptRetags : Obligations.AdoptRetags := by
  intro h r s joined stands state left right
  have here : (s.deliver.retagged h r).rec? h = _ := recOpt_retagged
  have active : ({ r with
      adoptedFrom := some r.tag, tag := s.deliver.ownTag s.deliver.newSeq, sentToward := none, locateTimer := none } : Record).state
        ≠ .held := by simp [state]
  have accepted := adopt_accepted (s := s.deliver) (h := h) state joined left (codeMatches_iff.mpr right)
  obtain ⟨waits, frames⟩ := retagged_slot (s := s.deliver) (h := h) (r := r)
  obtain ⟨locates, stopped⟩ := slotSide_enterHeld_keeps (k := .locate) .adopted 0 false here active nofun waits
  obtain ⟨-, -, -, -, -, books, book, renewal, -⟩ := entryIntoHeld.1 h .adopted 0 false _ _ here active
  have held := recOpt_enterHeld_same h .adopted 0 false _ _ here active
  have unplaced : (false || decide (r.state = .placed)) = false := by simp [state]
  have frame : s.deliver.ownTag s.deliver.newSeq = s.ownTag s.newSeq := congrArg s.ownTag (newSeq_deliver s)
  have port := port_enterHeld .adopted 0 false here active
  have posted := events_post_congr (s := s) (t := s.deliver.retagged h r) (by simp [State.retagged]) (by simp [State.retagged])
    (by simp [State.retagged]) (recordEvent .held r.position h (s.ownTag s.newSeq) (heldValue r .adopted))
  rw [unplaced, frame] at port
  refine ⟨_, _, exec_adopt (isActive_of_joined joined) stands (accepted.trans adoptRecord_eq), (recOpt_respond _ _ _ _).trans held,
    rfl, congrArg some state, ?_, ?_, ?_, rfl, ?_, ?_, fun few => ⟨?_, ?_⟩, fun many => ⟨?_, ?_⟩, ⟨?_, ?_⟩,
    fun one => ⟨stopped (frames one).1 (frames one).2, books (frames one).1⟩, fun m => locates _ m rfl, book, renewal,
    ?_, ?_, ?_, fun g other => ?_, ?_, ?_, ?_⟩
  · rw [deviate_eq]
    rfl
  · rw [deviate_eq]
    exact frame
  · rw [deviate_eq]
    rfl
  · rw [deviate_eq]
    rfl
  · rw [deviate_eq]
    rfl
  · rw [deviate_eq]
    exact if_pos few
  · rw [deviate_eq]
    exact if_pos few
  · rw [deviate_eq]
    exact if_neg (Nat.not_lt.mpr many)
  · rw [deviate_eq]
    exact if_neg (Nat.not_lt.mpr many)
  · exact (congrArg Port.events port).trans (posted.1.trans (congrArg
      (fun x => (s.post (recordEvent .held r.position h x (heldValue r .adopted))).port.events) (by rw [deviate_eq]; exact frame.symm)))
  · exact (congrArg Port.alarms port).trans (posted.2.trans (congrArg
      (fun x => (s.post (recordEvent .held r.position h x (heldValue r .adopted))).port.alarms) (by rw [deviate_eq]; exact frame.symm)))
  · rw [seqCounter_respond, seqCounter_enterHeld, ← newSeq_deliver s]
    simp only [State.retagged, seqCounter_stopLocate, seqCounter_setRec]
    rfl
  · rw [freeList_respond, freeList_enterHeld]
    simp [State.retagged]
  · exact congrArg (fun q => ({ status := .ok, data := byte s.store.attempts ++ q } : Response)) (newSeq_deliver s)
  · rw [recOpt_respond, recOpt_enterHeld_ne _ _ _ _ _ _ (Ne.symm other), recOpt_retagged_ne other, recOpt_deliver]
  · rw [bookings_respond, bookings_enterHeld]
    simp [State.retagged]
  · rw [bud_respond, bud_enterHeld]
    simp [State.retagged]
  · rw [mem_respond, mem_enterHeld]
    simp [State.retagged]

end Sys2Proof.Machine
end

section
/-! SUPPORT. The steps of a position and its clocks (O27 to O31). -/

namespace Sys2Proof.Machine
open Host

/-! ### The record that a position works on -/

section
variable {s t : State} {p : PosIx} {h : Handle} {r : Record} {e : StepEntry}

theorem isActive_false_iff : s.isActive = false ↔ s.standsStill := by
  simp only [State.isActive, State.standsStill]
  cases s.mem.line <;> simp

theorem runningStep_some (active : s.isActive = true) (on : s.onPosition p h r) (running : r.state = .running)
    (step : r.steps[r.current]? = some e) : s.runningStep p = some (h, r, e) := by
  simp [State.runningStep, working_eq_some.mpr on, active, running, Record.step?, step]

theorem pausedStep_some (active : s.isActive = true) (on : s.onPosition p h r) (paused : r.state = .paused) :
    s.pausedStep p = some (h, r) := by
  simp [State.pausedStep, working_eq_some.mpr on, active, paused]

theorem runningStep_none (idle : s.isActive = false ∨ ∀ h r, s.onPosition p h r → r.state ≠ .running) : s.runningStep p = none := by
  rw [State.runningStep]
  cases works : s.working p with
  | none => rfl
  | some x =>
    obtain ⟨h, r⟩ := x
    obtain still | other := idle
    · simp [still]
    · simp [other h r (working_eq_some.mp works)]

theorem pausedStep_none (idle : s.isActive = false ∨ ∀ h r, s.onPosition p h r → r.state ≠ .paused) : s.pausedStep p = none := by
  rw [State.pausedStep]
  cases works : s.working p with
  | none => rfl
  | some x =>
    obtain ⟨h, r⟩ := x
    obtain still | other := idle
    · simp [still]
    · simp [other h r (working_eq_some.mp works)]

/-- Clocks and edges of a position change nothing of the record on it. -/
theorem onPosition_updPos {f : Position → Position} (state : (f (s.pos p)).state = (s.pos p).state)
    (link : (f (s.pos p)).link = (s.pos p).link) : (s.updPos p f).onPosition p h r ↔ s.onPosition p h r := by
  simp only [State.onPosition, pos_updPos_same, state, link, recOpt_updPos]

/-! ### Pulses and seconds (R34 to R36) -/

theorem dosePulse_none (idle : s.runningStep p = none) : exec (.dosePulse p) s = .next s := by
  change Outcome.next (s.dosePulse p) = _
  simp only [State.dosePulse, idle]

theorem dosePulse_some (step : s.runningStep p = some (h, r, e)) : exec (.dosePulse p) s =
    .next (if isDose e.kind then (s.updPos p fun x => { x with silenceClock := 0 }).countOne p h r e else s) := by
  change Outcome.next (s.dosePulse p) = _
  simp only [State.dosePulse, step]

theorem runClockSecond_none (idle : s.runningStep p = none) : exec (.runClockSecond p) s = .next s := by
  change Outcome.next (if (s.runningStep p).isSome then _ else _) = _
  simp [idle]

theorem runClockSecond_some (step : s.runningStep p = some (h, r, e)) {u : State}
    (clocked : u = s.updPos p fun x => { x with runClock := (x.runClock / 1000 + 1) * 1000 })
    (again : u.runningStep p = some (h, r, e)) : exec (.runClockSecond p) s =
    .next (if isDose e.kind then u else u.countOne p h r e) := by
  change Outcome.next (if (s.runningStep p).isSome then State.runSecond p _ else _) = _
  rw [step]
  subst clocked
  refine (congrArg Outcome.next (if_pos rfl)).trans ?_
  change Outcome.next (match (State.updPos p (fun x => { x with runClock := (x.runClock / 1000 + 1) * 1000 }) s).runningStep p with
    | some (h, r, e) => _ | none => _) = _
  rw [again]
  rfl

theorem countOne_ends (ends : e.target.toNat ≤ (r.accumulated + 1).toNat) :
    s.countOne p h r e = (s.setRec h { r with accumulated := r.accumulated + 1 }).endStep p h := if_pos ends

theorem countOne_on (short : ¬e.target.toNat ≤ (r.accumulated + 1).toNat) :
    s.countOne p h r e = s.setRec h { r with accumulated := r.accumulated + 1 } := if_neg short

end

/-- Settles O27. -/
theorem stepsCount : Obligations.StepsCount := by
  refine ⟨fun p s still => ?_, fun p s active => ⟨fun h r e on running step => ⟨fun dose => ⟨fun ends => ?_, fun short => ?_, ?_⟩,
    fun timed => ⟨fun ends => ?_, fun short => ?_, ?_⟩⟩, fun idle => ?_⟩⟩
  · have idle := runningStep_none (p := p) (.inl (isActive_false_iff.mpr still))
    exact ⟨dosePulse_none idle, runClockSecond_none idle⟩
  · rw [dosePulse_some (runningStep_some active on running step), if_pos dose, countOne_ends ends]
  · rw [dosePulse_some (runningStep_some active on running step), if_pos dose, countOne_on short]
  · rw [runClockSecond_some (runningStep_some active on running step) rfl
      (runningStep_some active ((onPosition_updPos rfl rfl).mpr on) running step), if_pos dose]
  · rw [runClockSecond_some (runningStep_some active on running step) rfl
      (runningStep_some active ((onPosition_updPos rfl rfl).mpr on) running step), if_neg (by simp [timed]), countOne_ends ends]
  · rw [runClockSecond_some (runningStep_some active on running step) rfl
      (runningStep_some active ((onPosition_updPos rfl rfl).mpr on) running step), if_neg (by simp [timed]), countOne_on short]
  · rw [dosePulse_some (runningStep_some active on running step), if_neg (by simp [timed])]
  · have idle := runningStep_none (p := p) (.inr idle)
    exact ⟨dosePulse_none idle, runClockSecond_none idle⟩

/-! ### Step ends and step starts (R32, R43 to R46) -/

section
variable {s t : State} {p : PosIx} {h : Handle} {r : Record} {e : StepEntry}

theorem startStep_eq (stands : s.rec? h = some r) : s.startStep p h = State.post (recordEvent .stepStarted (some p) h r.tag r.current)
    ((s.updPos p fun x => { x with runClock := 0, pauseClock := 0, silenceClock := 0, stepEn := x.interlock }).setRec h
      { r with state := if (s.pos p).interlock then .running else .paused, pauseTotal := 0, gapOpen := false,
               gapConceded := false }) := by
  simp only [State.startStep, stands]
  rfl

theorem startStep_setRec : (s.setRec h r).startStep p h = State.post (recordEvent .stepStarted (some p) h r.tag r.current)
    ((s.updPos p fun x => { x with runClock := 0, pauseClock := 0, silenceClock := 0, stepEn := x.interlock }).setRec h
      { r with state := if (s.pos p).interlock then .running else .paused, pauseTotal := 0, gapOpen := false,
               gapConceded := false }) := by
  rw [startStep_eq (recOpt_setRec_same h r s), pos_setRec]
  have order (f : Position → Position) : (s.setRec h r).updPos p f = (s.updPos p f).setRec h r := rfl
  rw [order, setRec_setRec]

/-- The station's state at a step end, behind STEP_ENDED (R43). -/
def State.stepEnded (s : State) (p : PosIx) (h : Handle) (r : Record) : State :=
  State.post (recordEvent .stepEnded (some p) h r.tag r.accumulated.toNat) (s.updPos p fun x => { x with stepEn := false })

/-- The record with its gap at 0 (R43). -/
def Record.gapStarts (r : Record) : Record := { r with gapElapsed := some 0, gapFrac := 0 }

/-- The record on its next step (R44). -/
def Record.nextStep (r : Record) : Record := { r.gapStarts with current := r.current + 1, accumulated := 0 }

theorem endStep_eq (stands : s.rec? h = some r) (step : r.steps[r.current]? = some e) : s.endStep p h =
    match r.steps[r.current + 1]? with
    | none => ((s.stepEnded p h r).setRec h { r.gapStarts with state := .finished, gapOpen := false }).giveUpClaim p
    | some n =>
      if stepRole n.kind = s.conf.role then
        if ({ r.nextStep with gapOpen := true } : Record).carriesOver e s.conf.role then
          ((s.stepEnded p h r).setRec h { r.nextStep with gapOpen := true }).startStep p h
        else (((s.stepEnded p h r).setRec h { r.nextStep with state := .loaded, gapOpen := true }).giveUpClaim p).enterLoaded h
      else (((s.stepEnded p h r).setRec h { r.gapStarts with state := .ended, gapOpen := true }).giveUpClaim p).enterEnded h := by
  have conf : (s.stepEnded p h r).conf = s.conf := by rw [conf_eq, conf_eq]; simp [State.stepEnded]
  simp only [State.endStep, stands, Record.step?, step, Record.next?]
  change (match r.steps[r.current + 1]? with | none => _ | some n => _) = _
  cases r.steps[r.current + 1]? with
  | none => rfl
  | some n =>
    dsimp only
    rw [← conf]
    rfl

end

/-- Settles O28. -/
theorem stepEndsAndStarts : Obligations.StepEndsAndStarts := by
  refine ⟨fun p h r e s stands step => ⟨fun last => ?_, fun n next => ⟨fun remote => ?_, fun local_ carried ready => ?_,
    fun local_ stops => ?_⟩⟩, fun p h r s on => ⟨fun waiting => ?_, fun other => ?_⟩⟩
  · rw [endStep_eq stands step, last]
    rfl
  · rw [endStep_eq stands step, next]
    exact if_neg remote
  · rw [endStep_eq stands step, next]
    have carries : ({ r.nextStep with gapOpen := true } : Record).carriesOver e s.conf.role = true := by
      simp only [Record.carriesOver, carried, Option.isNone_none, Bool.true_and, Bool.not_eq_true']
      exact ready
    have interlock : ((s.stepEnded p h r).pos p).interlock = (s.pos p).interlock := by simp [State.stepEnded]
    refine (if_pos local_).trans ((if_pos carries).trans ?_)
    rw [startStep_setRec, interlock]
    rfl
  · rw [endStep_eq stands step, next]
    refine (if_pos local_).trans (if_neg fun carries => ?_)
    obtain ⟨unlimited, ready⟩ := Bool.and_eq_true_iff.mp carries
    obtain gap | needs := stops
    · exact gap (Option.isNone_iff_eq_none.mp unlimited)
    · exact Bool.false_ne_true ((Bool.not_eq_true' _).mp ready |>.symm.trans needs)
  · simp only [State.tellGrant, working_eq_some.mpr on, waiting, if_true]
    exact startStep_eq on.2.2
  · simp only [State.tellGrant, working_eq_some.mpr on, other, if_false]

end Sys2Proof.Machine
end

section
/-! SUPPORT. The interlock, the step faults and the gap timer (O29 to O31). -/

namespace Sys2Proof.Machine
open Host

/-! ### The interlock (R37, R38) -/

section
variable {s t : State} {p : PosIx} {h : Handle} {r : Record} {e : StepEntry}

theorem reads_iff : s.reads p = true ↔ s.isActive = true ∧ p.val < s.conf.posCount := by
  simp [State.reads]

theorem exec_ilkOpen_unread (unread : s.reads p = false) : exec (.ilkOpen p) s = .next (s.setIlk p false) := by
  have same : (s.setIlk p false).reads p = false := unread
  change Outcome.next (if (s.setIlk p false).reads p then _ else _) = _
  rw [same]
  rfl

theorem exec_ilkClose_unread (unread : s.reads p = false) : exec (.ilkClose p) s = .next (s.setIlk p true) := by
  have same : (s.setIlk p true).reads p = false := unread
  change Outcome.next (if (s.setIlk p true).reads p then _ else _) = _
  rw [same]
  rfl

/-- The interlock of position p at a level, its input at that level too. -/
def State.interlocked (s : State) (p : PosIx) (level : Bool) : State :=
  (s.setIlk p level).updPos p fun x => { x with interlock := level }

theorem exec_ilkOpen_read (read : s.reads p = true) : exec (.ilkOpen p) s = .next ((s.interlocked p false).pauseStep p) := by
  have same : (s.setIlk p false).reads p = true := read
  change Outcome.next (if (s.setIlk p false).reads p then _ else _) = _
  rw [same]
  rfl

theorem exec_ilkClose_read (read : s.reads p = true) : exec (.ilkClose p) s = .next ((s.interlocked p true).resumeStep p) := by
  have same : (s.setIlk p true).reads p = true := read
  change Outcome.next (if (s.setIlk p true).reads p then _ else _) = _
  rw [same]
  rfl

theorem onPosition_interlocked (level : Bool) : (s.interlocked p level).onPosition p h r ↔ s.onPosition p h r :=
  onPosition_updPos rfl rfl

theorem isActive_interlocked (level : Bool) : (s.interlocked p level).isActive = s.isActive := rfl

theorem sendRenewal_unheld (stands : s.rec? h = some r) (unheld : r.booking.receiver = none) : s.sendRenewal h = s := by
  cases booking : r.booking with
  | none => simp [State.sendRenewal, stands, booking]
  | asking => simp [State.sendRenewal, stands, booking]
  | held => simp [booking, BookerState.receiver] at unheld

theorem sendRenewal_held {d : Addr} {q : PosIx} {n : StepEntry} (stands : s.rec? h = some r) (held : r.booking = .held d q)
    (next : r.steps[r.current + 1]? = some n) (free : s.txHas (.slot h) = false) (idle : (s.slot h).waits = []) :
    s.sendRenewal h = s.queueFrame (.slot h) (bookFrame d r.tag n.kind (r.hold s.conf.items.bookingMargin) true) := by
  have none : s.txEntry (.slot h) = none := by rw [txEntry_eq_head, txHas_false_iff.mp free]; rfl
  have pending : s.renewalPending h r.tag d = false := by simp [State.renewalPending, none]
  have dropped : s.dropWaits h .renewal = s := setWaits_eq _ _ _ (by rw [idle]; rfl)
  have composed : s.composeWait h .renewal = some (bookFrame d r.tag n.kind (r.hold s.conf.items.bookingMargin) true) := by
    simp only [State.composeWait, stands, held, Record.next?, next]
  simp only [State.sendRenewal, stands, held, pending, Bool.false_eq_true, if_false, dropped]
  exact sendSlot_free h .renewal _ s free idle composed

end

/-- Settles O29. -/
theorem interlockPausesAndResumes : Obligations.InterlockPausesAndResumes := by
  refine ⟨fun p s still => ?_, fun p s active live => ⟨fun h r e on step running => ?_,
    fun h r on paused => ⟨fun unheld => ?_, fun d q n held next free idle => ?_⟩, fun other => ?_, fun other => ?_⟩⟩
  · have unread : s.reads p = false := by
      rw [← Bool.not_eq_true, reads_iff, not_and_or, Bool.not_eq_true, isActive_false_iff, Nat.not_lt]
      exact still
    exact ⟨exec_ilkOpen_unread unread, exec_ilkClose_unread unread⟩
  · rw [exec_ilkOpen_read (reads_iff.mpr ⟨active, live⟩), State.pauseStep,
      runningStep_some (s := s.interlocked p false) active ((onPosition_interlocked _).mpr on) running step]
    rfl
  · rw [exec_ilkClose_read (reads_iff.mpr ⟨active, live⟩), State.resumeStep,
      pausedStep_some (s := s.interlocked p true) active ((onPosition_interlocked _).mpr on) paused]
    exact congrArg Outcome.next (sendRenewal_unheld ((recOpt_updPos _ _ _ _).trans (recOpt_setRec_same _ _ _)) unheld)
  · rw [exec_ilkClose_read (reads_iff.mpr ⟨active, live⟩), State.resumeStep,
      pausedStep_some (s := s.interlocked p true) active ((onPosition_interlocked _).mpr on) paused]
    refine congrArg Outcome.next (sendRenewal_held ((recOpt_updPos _ _ _ _).trans (recOpt_setRec_same _ _ _)) held next ?_ ?_)
    · exact free
    · rw [slot_updPos, waits_setRec]
      exact idle
  · rw [exec_ilkOpen_read (reads_iff.mpr ⟨active, live⟩), State.pauseStep,
      runningStep_none (s := s.interlocked p false) (.inr fun h r on => other h r ((onPosition_interlocked _).mp on))]
    rfl
  · rw [exec_ilkClose_read (reads_iff.mpr ⟨active, live⟩), State.resumeStep,
      pausedStep_none (s := s.interlocked p true) (.inr fun h r on => other h r ((onPosition_interlocked _).mp on))]
    rfl

/-! ### Step faults (R39 to R42) -/

section
variable {s t : State} {p : PosIx} {h : Handle} {r : Record} {e : StepEntry}

theorem pauseClockSecond_none (idle : s.pausedStep p = none) : exec (.pauseClockSecond p) s = .next s := by
  change Outcome.next (if (s.pausedStep p).isSome then _ else _) = _
  rw [idle]
  rfl

theorem lampSilent_none (idle : s.runningStep p = none) : exec (.lampSilent p) s = .next s := by
  change Outcome.next (s.lampSilent p) = _
  rw [State.lampSilent, idle]

theorem doseShort_none (idle : s.runningStep p = none) : exec (.doseShort p) s = .next s := by
  change Outcome.next (s.doseShort p) = _
  rw [State.doseShort, idle]

theorem lampSilent_some (step : s.runningStep p = some (h, r, e)) : exec (.lampSilent p) s =
    .next (if isDose e.kind then s.stepFault p h .lampSilent r.accumulated else s) := by
  change Outcome.next (s.lampSilent p) = _
  rw [State.lampSilent, step]

theorem doseShort_some (step : s.runningStep p = some (h, r, e)) : exec (.doseShort p) s =
    .next (if isDose e.kind && e.timeLimit.isSome && decide (r.accumulated.toNat < e.target.toNat) then
      s.stepFault p h .doseShort r.accumulated else s) := by
  change Outcome.next (s.doseShort p) = _
  rw [State.doseShort, step]

/-- The pause clock of position p at its next second (R34, R41). -/
def State.pauseClocked (s : State) (p : PosIx) : State :=
  s.updPos p fun x => { x with pauseClock := (x.pauseClock / 1000 + 1) * 1000 }

theorem pauseClockSecond_some (active : s.isActive = true) (on : s.onPosition p h r) (paused : r.state = .paused) :
    exec (.pauseClockSecond p) s = .next (if s.conf.items.pauseLimit < (r.pauseTotal + 1).toNat then
      ((s.pauseClocked p).setRec h { r with pauseTotal := r.pauseTotal + 1 }).stepFault p h .pauseLimit
        ((r.pauseTotal + 1).setWidth 24)
      else (s.pauseClocked p).setRec h { r with pauseTotal := r.pauseTotal + 1 }) := by
  change Outcome.next (if (s.pausedStep p).isSome then (s.pauseClocked p).pauseSecond p else _) = _
  rw [pausedStep_some active on paused]
  refine (congrArg Outcome.next (if_pos rfl)).trans ?_
  rw [State.pauseSecond, pausedStep_some (s := s.pauseClocked p) active ((onPosition_updPos rfl rfl).mpr on) paused]
  rfl

theorem onPosition_unique {g : Handle} {q : Record} (on : s.onPosition p h r) (also : s.onPosition p g q) : q = r := by
  obtain rfl := Option.some.inj (on.2.1.symm.trans also.2.1)
  exact Option.some.inj (also.2.2.symm.trans on.2.2)

theorem runningStep_other (on : s.onPosition p h r) (other : r.state ≠ .running) : s.runningStep p = none :=
  runningStep_none (.inr fun _ _ also => onPosition_unique on also ▸ other)

theorem pausedStep_other (on : s.onPosition p h r) (other : r.state ≠ .paused) : s.pausedStep p = none :=
  pausedStep_none (.inr fun _ _ also => onPosition_unique on also ▸ other)

end

/-- Settles O30. -/
theorem stepFaultsHold : Obligations.StepFaultsHold := by
  refine ⟨fun p s still => ?_, fun p h r s active on => ⟨fun paused => ⟨fun inside => ?_, fun beyond => ?_⟩, fun other => ?_,
    fun e running step dose => ⟨?_, fun limited short => ?_, fun none => ?_⟩, fun e running step timed => ⟨?_, ?_⟩, fun other => ?_⟩⟩
  · have running : s.runningStep p = none :=
      runningStep_none (still.imp isActive_false_iff.mpr fun empty h r on => absurd on (empty h r))
    have paused : s.pausedStep p = none :=
      pausedStep_none (still.imp isActive_false_iff.mpr fun empty h r on => absurd on (empty h r))
    exact ⟨pauseClockSecond_none paused, lampSilent_none running, doseShort_none running⟩
  · rw [pauseClockSecond_some active on paused, if_neg (Nat.not_lt.mpr inside)]
    rfl
  · rw [pauseClockSecond_some active on paused, if_pos beyond]
    rfl
  · exact pauseClockSecond_none (pausedStep_other on other)
  · rw [lampSilent_some (runningStep_some active on running step), if_pos dose]
    rfl
  · have short' : (isDose e.kind && e.timeLimit.isSome && decide (r.accumulated.toNat < e.target.toNat)) = true := by
      simp [dose, Option.isSome_iff_ne_none.mpr limited, short]
    rw [doseShort_some (runningStep_some active on running step), if_pos short']
    rfl
  · have full : ¬(isDose e.kind && e.timeLimit.isSome && decide (r.accumulated.toNat < e.target.toNat)) = true := by
      obtain unlimited | full := none
      · simp [unlimited]
      · simp [Nat.not_lt.mpr full]
    rw [doseShort_some (runningStep_some active on running step), if_neg full]
  · rw [lampSilent_some (runningStep_some active on running step), if_neg (by simp [timed])]
  · rw [doseShort_some (runningStep_some active on running step), if_neg (by simp [timed])]
  · exact ⟨lampSilent_none (runningStep_other on other), doseShort_none (runningStep_other on other)⟩

/-! ### The gap timer (R52 to R54) -/

section
variable {s : State} {h : Handle} {r : Record}

/-- The gap of record r a second further (R52). -/
def Record.gapNext (r : Record) : BitVec 24 := if r.gapElapsed.getD 0 = 16777215 then r.gapElapsed.getD 0 else r.gapElapsed.getD 0 + 1

theorem gapSecond_eq (r : Record) : r.gapSecond = { r with gapElapsed := some r.gapNext, gapFrac := 0 } := rfl

/-- Entry e bounds the gap of record r, in a state where the bound is checked (R51, R53). -/
def Record.Governs (r : Record) (e : StepEntry) : Prop :=
  r.state = .ended ∧ r.steps[r.current]? = some e
    ∨ (r.state = .inbound ∨ r.state = .loaded ∨ r.state = .waiting) ∧ r.current ≠ 0 ∧ r.steps[r.current - 1]? = some e

theorem before_eq_some {e : StepEntry} : r.before? = some e ↔ r.current ≠ 0 ∧ r.steps[r.current - 1]? = some e := by
  rw [Record.before?]
  by_cases first : r.current = 0 <;> simp [first]

theorem governs_iff {e : StepEntry} : r.Governs e ↔ gapChecked r.state = true ∧ r.governing? = some e := by
  rw [Record.Governs, ← before_eq_some, Record.governing?, Record.step?]
  cases r.state <;> simp [gapChecked]

theorem gapExceeded_iff {g : BitVec 24} : r.gapExceeded = some g ↔ r.gapOpen = true ∧ r.gapConceded = false
    ∧ r.gapElapsed = some g ∧ ∃ (e : StepEntry) (m : BitVec 16), e.maxGap = some m ∧ m.toNat ≤ g.toNat ∧ r.Governs e := by
  simp only [governs_iff, Record.gapExceeded]
  by_cases checked : (r.gapOpen && !r.gapConceded && gapChecked r.state) = true
  · obtain ⟨⟨opened, free⟩, checks⟩ := by simpa using checked
    rw [if_pos checked]
    simp only [opened, free, checks, true_and]
    cases r.governing? with
    | none => simp
    | some e =>
      cases elapsed : r.gapElapsed with
      | none => simp
      | some x =>
        cases gap : e.maxGap with
        | none => simp [gap]
        | some m =>
          simp only [Option.some.injEq, gap]
          constructor
          · intro long
            split at long
            case isTrue reached =>
              obtain rfl := Option.some.inj long
              exact ⟨rfl, e, m, gap, reached, rfl⟩
            case isFalse => exact nomatch long
          · rintro ⟨rfl, e', m', gap', reached, rfl⟩
            obtain rfl := Option.some.inj (gap.symm.trans gap')
            exact if_pos reached
  · rw [if_neg checked]
    refine ⟨nofun, fun ⟨opened, free, _, _, _, _, _, checks, _⟩ => absurd ?_ checked⟩
    simp [opened, free, checks]

theorem atMinGap_iff {g : BitVec 24} (elapsed : r.gapElapsed = some g) : r.atMinGap = true ↔
    r.current ≠ 0 ∧ ∃ (e : StepEntry) (m : BitVec 16), r.steps[r.current - 1]? = some e ∧ e.minGap = some m ∧ m.toNat = g.toNat := by
  rw [Record.atMinGap, elapsed]
  cases before : r.before? with
  | none =>
    refine ⟨nofun, fun ⟨later, e, _, stands, _⟩ => ?_⟩
    exact nomatch before.symm.trans (before_eq_some.mpr ⟨later, stands⟩)
  | some e =>
    obtain ⟨later, stands⟩ := before_eq_some.mp before
    cases gap : e.minGap with
    | none => simp [later, stands, gap]
    | some m => simp [later, stands, gap]

theorem gapSecond_still (still : s.isActive = false ∨ r.gapRuns = false) (stands : s.rec? h = some r) : s.gapSecond h = s := by
  have off : (s.isActive && r.gapRuns) = false := by obtain off | off := still <;> simp [off]
  simp only [State.gapSecond, stands, off, Bool.false_eq_true, if_false]

theorem gapSecond_runs (active : s.isActive = true) (runs : r.gapRuns = true) (stands : s.rec? h = some r) : s.gapSecond h =
    if ((s.setRec h r.gapSecond).checkGap h).recIn h .loaded && r.gapSecond.atMinGap then
      (((s.setRec h r.gapSecond).checkGap h).startRound h).judgeReady h
    else (s.setRec h r.gapSecond).checkGap h := by
  simp only [State.gapSecond, stands, active, runs, Bool.and_self, if_true]

theorem recIn_iff {st : RecState} (stands : s.rec? h = some r) : s.recIn h st = true ↔ r.state = st := by
  simp [State.recIn, stands]

end

/-- Settles O31. -/
theorem gapTimerCounts : Obligations.GapTimerCounts := by
  refine ⟨fun h s still => congrArg Outcome.next ?_, fun h r s active stands => ?_⟩
  · cases stands : s.rec? h with
    | none => simp only [State.gapSecond, stands]
    | some r =>
      exact gapSecond_still (.inl (isActive_false_iff.mpr (still.resolve_right (by simp [stands])))) stands
  have elapsed : r.gapSecond.gapElapsed = some r.gapNext := rfl
  have here := recOpt_setRec_same h r.gapSecond s
  have inside (opened : r.gapOpen = true) (early : ¬(r.gapConceded = false ∧ ∃ (e : StepEntry) (m : BitVec 16),
      e.maxGap = some m ∧ m.toNat ≤ r.gapNext.toNat ∧ r.Governs e)) : (s.setRec h r.gapSecond).checkGap h = s.setRec h r.gapSecond :=
    checkGap_none here (Option.eq_none_iff_forall_ne_some.mpr fun x long => early (by
      obtain ⟨-, free, reach, bound⟩ := gapExceeded_iff.mp long
      obtain rfl := Option.some.inj (elapsed.symm.trans reach)
      exact ⟨free, bound⟩))
  refine ⟨fun counts late => congrArg Outcome.next ?_, fun counts early due => congrArg Outcome.next ?_,
    fun counts early notDue => congrArg Outcome.next ?_, fun still => congrArg Outcome.next ?_⟩
  · have long : r.gapSecond.gapExceeded = some r.gapNext := gapExceeded_iff.mpr ⟨counts.1, late.1, elapsed, late.2⟩
    have active' : r.gapSecond.state ≠ .held := by
      obtain ⟨-, _, _, -, -, governs⟩ := late
      obtain ⟨state, -⟩ | ⟨state | state | state, -⟩ := governs <;> simp [gapSecond_eq, state]
    rw [gapSecond_runs active (gapRuns_iff.mpr counts) stands, checkGap_some here long, if_neg]
    · rfl
    · rw [Bool.and_eq_true, recIn_iff (recOpt_enterHeld_same h _ _ _ _ _ here active')]
      exact fun loaded => nomatch loaded.1
  · rw [gapSecond_runs active (gapRuns_iff.mpr counts) stands, inside counts.1 early, if_pos]
    · rfl
    · rw [Bool.and_eq_true, recIn_iff here]
      exact ⟨due.1, (atMinGap_iff elapsed).mpr due.2⟩
  · rw [gapSecond_runs active (gapRuns_iff.mpr counts) stands, inside counts.1 early, if_neg]
    · rfl
    · rw [Bool.and_eq_true, recIn_iff here]
      exact fun ⟨loaded, gap⟩ => notDue ⟨loaded, (atMinGap_iff elapsed).mp gap⟩
  · exact gapSecond_still (.inr (Bool.not_eq_true _ ▸ mt gapRuns_iff.mp still)) stands

end Sys2Proof.Machine
end

section
/-! SUPPORT. Rounds, the entry into ENDED and the start of a transfer (O32). -/

namespace Sys2Proof.Machine
open Host

/-! ### Candidates (R138) -/

section
variable {s : State} {role : Role} {k : Nat}

/-- The peer list does not pass over a in a round for the role (R138). -/
def State.Fits (s : State) (role : Role) (a : Addr) : Prop := (s.peer a).state = .joined ∧ (s.peer a).role = role

theorem candidateFrom_some {i : Nat} {a : Addr} (first : 1 ≤ k) (found : s.candidateFrom role k = some (i, a)) :
    k ≤ i ∧ (s.route role)[i - 1]? = some a ∧ s.Fits role a
      ∧ ∀ j b, k ≤ j → j < i → (s.route role)[j - 1]? = some b → ¬s.Fits role b := by
  obtain ⟨front, ⟨c, n⟩, back, split, here, before⟩ := List.findSome?_eq_some_iff.mp found
  obtain ⟨⟨late, fits⟩, same⟩ := by simpa using here
  obtain ⟨rfl, rfl⟩ := same
  have at_ (j : Nat) (low : 1 ≤ j) (b : Addr) : (s.route role)[j - 1]? = some b ↔ ((s.route role).zipIdx 1)[j - 1]? = some (b, j) := by
    rw [List.getElem?_zipIdx]
    cases (s.route role)[j - 1]? with
    | none => simp
    | some x => simp; omega
  have index : front.length = n - 1 := by
    have entry : ((s.route role).zipIdx 1)[front.length]? = some (c, n) := by rw [split]; simp
    rw [List.getElem?_zipIdx] at entry
    obtain ⟨x, -, pair⟩ := Option.map_eq_some_iff.mp entry
    have := congrArg Prod.snd pair
    simp at this
    omega
  refine ⟨late, (at_ n (first.trans late) c).mpr (by rw [split, ← index]; simp), fits, fun j b from_ less stands fits => ?_⟩
  have entry := (at_ j (first.trans from_) b).mp stands
  rw [split, List.getElem?_append_left (by omega)] at entry
  have passed := before _ (List.mem_of_getElem? entry)
  simp [from_] at passed
  exact passed fits.1 fits.2

theorem candidateFrom_none (first : 1 ≤ k) (none : s.candidateFrom role k = none) {j : Nat} {b : Addr} (from_ : k ≤ j)
    (stands : (s.route role)[j - 1]? = some b) : ¬s.Fits role b := by
  intro fits
  have entry : ((s.route role).zipIdx 1)[j - 1]? = some (b, j) := by
    rw [List.getElem?_zipIdx, stands]
    simp
    omega
  have passed := List.findSome?_eq_none_iff.mp none _ (List.mem_of_getElem? entry)
  simp [from_] at passed
  exact passed fits.1 fits.2

end

/-! ### What a round needs (R29, R139, R141) -/

section
variable {s : State} {h : Handle} {r : Record}

theorem needsBefore_iff {role : Role} : r.needsBefore role = true ↔ ∃ e n : StepEntry, r.steps[r.current]? = some e
    ∧ e.maxGap ≠ none ∧ r.steps[r.current + 1]? = some n ∧ stepRole n.kind ≠ role := by
  rw [Record.needsBefore, Record.nextRemote, Record.step?, Record.next?]
  cases r.steps[r.current]? with
  | none => simp
  | some e => cases r.steps[r.current + 1]? <;> simp [Option.isSome_iff_ne_none]

theorem minGapMet_iff : r.minGapMet = true ↔ ∀ (e : StepEntry) (m : BitVec 16), r.current ≠ 0 →
    r.steps[r.current - 1]? = some e → e.minGap = some m → ∃ g, r.gapElapsed = some g ∧ m.toNat ≤ g.toNat := by
  rw [Record.minGapMet]
  cases before : r.before? with
  | none =>
    refine ⟨fun _ e m later stands => ?_, fun _ => rfl⟩
    exact nomatch before.symm.trans (before_eq_some.mpr ⟨later, stands⟩)
  | some e =>
    obtain ⟨later, stands⟩ := before_eq_some.mp before
    cases gap : e.minGap with
    | none =>
      refine ⟨fun _ e' m' _ stands' gap' => ?_, fun _ => by simp [gap]⟩
      obtain rfl := Option.some.inj (stands.symm.trans stands')
      exact nomatch gap.symm.trans gap'
    | some m =>
      constructor
      · intro met e' m' _ stands' gap'
        obtain rfl := Option.some.inj (stands.symm.trans stands')
        obtain rfl := Option.some.inj (gap.symm.trans gap')
        cases elapsed : r.gapElapsed with
        | none => simp [elapsed, gap] at met
        | some g => exact ⟨g, rfl, by simpa [elapsed, gap] using met⟩
      · intro bound
        obtain ⟨g, elapsed, reached⟩ := bound e m later stands gap
        simpa [elapsed, gap] using reached

/-- Record r needs a booking (R139). -/
def Record.Needs (r : Record) (role : Role) : Prop := r.state = .loaded ∧ r.needsBefore role = true ∧ r.minGapMet = true
  ∨ r.state = .ended ∧ ∃ e, r.steps[r.current + 1]? = some e ∧ stepRole e.kind ≠ role

theorem nextRemote_iff {role : Role} : r.nextRemote role = true ↔ ∃ e, r.steps[r.current + 1]? = some e ∧ stepRole e.kind ≠ role := by
  rw [Record.nextRemote, Record.next?]
  cases r.steps[r.current + 1]? <;> simp

theorem needsBooking_iff {role : Role} : r.needsBooking role = true ↔ r.Needs role := by
  rw [Record.needsBooking, Record.Needs, ← nextRemote_iff]
  cases r.state <;> simp

theorem opt16_toNat (x : Option (BitVec 16)) : (opt16 x).toNat = (x.map BitVec.toNat).getD 0 := by cases x <;> rfl

theorem hold_working {e : StepEntry} (margin : Nat) (step : r.steps[r.current]? = some e)
    (works : r.state = .loaded ∨ r.state = .running) : r.hold margin = min 65535
      ((if isDose e.kind then (e.timeLimit.map BitVec.toNat).getD 0 else e.target.toNat - r.accumulated.toNat)
        + (e.maxGap.map BitVec.toNat).getD 0 + margin) := by
  obtain state | state := works <;> simp only [Record.hold, Record.step?, step, state, opt16_toNat]

theorem hold_ended {e : StepEntry} (margin : Nat) (step : r.steps[r.current]? = some e) (ended : r.state = .ended) :
    r.hold margin = min 65535 ((e.maxGap.map BitVec.toNat).getD 0 + margin) := by
  simp only [Record.hold, Record.step?, step, ended, opt16_toNat, Nat.zero_add]

/-! ### A round goes on (R140, R141, R143) -/

theorem candidateOf_eq {e : StepEntry} (next : r.steps[r.current + 1]? = some e) (k : Nat) :
    s.candidateOf r k = s.candidateFrom (stepRole e.kind) k := by
  simp only [State.candidateOf, Record.next?, next]

theorem roundFrom_asks {k i : Nat} {c : Addr} {e : StepEntry} (stands : s.rec? h = some r)
    (next : r.steps[r.current + 1]? = some e) (found : s.candidateFrom (stepRole e.kind) k = some (i, c))
    (free : s.txHas (.slot h) = false) (idle : (s.slot h).waits = []) :
    s.roundFrom h k = (s.setRec h { r with booking := .asking i c, answerTimer := none, exhausted := false }).queueFrame
      (.slot h) (bookFrame c r.tag e.kind (r.hold s.conf.items.bookingMargin) false) := by
  rw [roundFrom_some stands ((candidateOf_eq next k).trans found)]
  refine sendSlot_free h .book _ _ (by simpa using free) (by rw [waits_setRec]; exact idle) ?_
  simp only [State.composeWait, recOpt_setRec_same, Record.asks, Record.next?, next]
  rfl

theorem roundFrom_exhausted {k : Nat} (stands : s.rec? h = some r)
    (out : ∀ e, r.steps[r.current + 1]? = some e → s.candidateFrom (stepRole e.kind) k = none) :
    s.roundFrom h k = s.setRec h { r with booking := .none, answerTimer := none, exhausted := true } := by
  refine roundFrom_none stands ?_
  rw [State.candidateOf, Record.next?]
  cases next : r.steps[r.current + 1]? with
  | none => rfl
  | some e => exact out e next

theorem restartRound_eq (a : Addr) {e : StepEntry} (stands : s.rec? h = some r) (next : r.steps[r.current + 1]? = some e) :
    s.restartRound a h = if r.exhausted = true ∧ r.booking = .none ∧ r.needsBooking s.conf.role = true
      ∧ a ∈ s.route (stepRole e.kind) then s.roundFrom h 1 else s := by
  simp only [State.restartRound, stands, Record.next?, next, Bool.and_eq_true, decide_eq_true_eq,
    List.contains_iff_mem, and_assoc]

/-! ### Entry into ENDED (R45, R53, R139, R150) -/

theorem enterEnded_late {g : BitVec 24} (stands : s.rec? h = some r)
    (late : ({ r with state := .ended } : Record).gapExceeded = some g) :
    s.enterEnded h = (s.setRec h { r with state := .ended }).enterHeld h .gapExceeded g false := by
  have ended := recOpt_setRec_same h { r with state := .ended } s
  have entered := recOpt_enterHeld_same h .gapExceeded g false _ _ ended (by simp)
  simp only [State.enterEnded, enterChecked_eq stands, checkGap_some ended late, entered]
  rfl

theorem enterEnded_inside (stands : s.rec? h = some r) (inside : ({ r with state := .ended } : Record).gapExceeded = none) :
    s.enterEnded h = match r.booking with
      | .held _ _ => (s.setRec h { r with state := .ended }).startTransfer h
      | .none => (s.setRec h { r with state := .ended }).startRound h
      | .asking _ _ => s.setRec h { r with state := .ended } := by
  have ended := recOpt_setRec_same h { r with state := .ended } s
  simp only [State.enterEnded, enterChecked_eq stands, checkGap_none ended inside, ended, if_true]
    <;> cases r.booking <;> rfl

theorem enterEnded_unbooked (stands : s.rec? h = some r) (inside : ({ r with state := .ended } : Record).gapExceeded = none)
    (unbooked : r.booking = .none) : s.enterEnded h = (s.setRec h { r with state := .ended }).startRound h := by
  refine (enterEnded_inside stands inside).trans ?_
  split
  case h_1 held => exact nomatch held.symm.trans unbooked
  case h_2 => rfl
  case h_3 asking => exact nomatch asking.symm.trans unbooked

theorem gapExceeded_ended {g : BitVec 24} : ({ r with state := .ended } : Record).gapExceeded = some g ↔ r.gapOpen = true
    ∧ r.gapConceded = false ∧ r.gapElapsed = some g
    ∧ ∃ (e : StepEntry) (m : BitVec 16), r.steps[r.current]? = some e ∧ e.maxGap = some m ∧ m.toNat ≤ g.toNat := by
  rw [gapExceeded_iff]
  simp only [Record.Governs, true_and, reduceCtorEq, or_self, false_and, or_false]
  refine and_congr_right fun _ => and_congr_right fun _ => and_congr_right fun _ => ?_
  exact exists_congr fun e => exists_congr fun m => by tauto

/-! ### The start of a transfer (R150) -/

theorem startTransfer_free {d : Addr} {p : PosIx} (stands : s.rec? h = some r) (held : r.booking = .held d p)
    (free : s.txHas (.slot h) = false) (idle : (s.slot h).waits = []) : s.startTransfer h =
      (s.setRec h { r with
        state := .outbound, carry := some { image := recordImage { r with state := .outbound }, next := 0,
                                            count := partCount (recordImage { r with state := .outbound }).length } }).queueFrame
        (.slot h) { kind := .carry, dest := destOf d,
                    payload := [byte (p.val * 16), byte (partCount (recordImage { r with state := .outbound }).length)]
                      ++ (recordImage { r with state := .outbound }).take 14 } := by
  simp only [State.startTransfer, stands]
  refine sendSlot_free h .part _ _ (by simpa using free) (by rw [waits_setRec]; exact idle) ?_
  simp only [State.composeWait, recOpt_setRec_same, held]
  rfl

end

/-- Settles O32. -/
theorem bookingBegins : Obligations.BookingBegins := by
  refine ⟨fun role k s first => ⟨fun i a => candidateFrom_some first, fun none j b from_ => candidateFrom_none first none from_⟩,
    fun h r s stands => ⟨fun role => needsBefore_iff, minGapMet_iff, fun e margin step => ⟨hold_working margin step, hold_ended margin step⟩,
      fun starts => ?_, fun stays => ?_, fun k i c e next found free idle => roundFrom_asks stands next found free idle,
      fun k => roundFrom_exhausted stands, fun a e next => ⟨fun out unbooked needs inRoute => ?_, fun stays => ?_⟩, ?_⟩,
    fun h r d p s stands held free idle => startTransfer_free stands held free idle⟩
  · rw [startRound_eq stands, if_pos ⟨starts.1, needsBooking_iff.mpr starts.2.1, starts.2.2⟩]
  · rw [startRound_eq stands, if_neg fun ⟨joined, needs, unbooked⟩ => stays ⟨joined, needsBooking_iff.mp needs, unbooked⟩]
  · rw [restartRound_eq a stands next, if_pos ⟨out, unbooked, needsBooking_iff.mpr needs, inRoute⟩]
  · refine (restartRound_eq a stands next).trans (if_neg fun ⟨out, unbooked, needs, inRoute⟩ => ?_)
    obtain fresh | booked | idle | away := stays
    · exact Bool.false_ne_true (fresh.symm.trans out)
    · exact booked unbooked
    · exact idle (needsBooking_iff.mp needs)
    · exact away inRoute
  · have ended := recOpt_setRec_same h { r with state := .ended } s
    have remote_iff : ({ r with state := .ended } : Record).Needs s.conf.role ↔
        ∃ e, r.steps[r.current + 1]? = some e ∧ stepRole e.kind ≠ s.conf.role := by simp [Record.Needs]
    refine ⟨fun g late => enterEnded_late stands (gapExceeded_ended.mpr late), fun early => ?_⟩
    have free : ({ r with state := .ended } : Record).gapExceeded = none :=
      Option.eq_none_iff_forall_ne_some.mpr fun g late => early g (gapExceeded_ended.mp late)
    have inside := enterEnded_inside stands free
    refine ⟨fun d q held => ?_, fun unbooked joined remote => ?_, fun unbooked stays => ?_, fun k c asking => ?_⟩
    · rw [inside, held]
    · refine (enterEnded_unbooked stands free unbooked).trans ?_
      refine (startRound_eq ended).trans (if_pos ⟨by simpa using joined, ?_, unbooked⟩)
      exact needsBooking_iff.mpr (remote_iff.mpr remote)
    · refine (enterEnded_unbooked stands free unbooked).trans ?_
      refine (startRound_eq ended).trans (if_neg fun ⟨joined, needs, _⟩ => ?_)
      obtain apart | last := stays
      · exact Bool.false_ne_true (apart.symm.trans (by simpa using joined))
      · exact last (remote_iff.mp (needsBooking_iff.mp needs))
    · rw [inside, asking]

end Sys2Proof.Machine
end

section
/-! SUPPORT. The timers of a record and of a booking (O33, O34). -/

namespace Sys2Proof.Machine
open Host

/-! ### The timers of a record (R141, R156, R158) -/

section
variable {s : State} {h : Handle} {r : Record}

theorem dropWaits_idle (w : SlotWait) (idle : (s.slot h).waits = []) : s.dropWaits h w = s :=
  setWaits_eq _ _ _ (by rw [idle]; rfl)

theorem failCandidate_asking {k : Nat} {a : Addr} (stands : s.rec? h = some r) (asking : r.booking = .asking k a) :
    s.failCandidate h = (s.dropWaits h .book).roundFrom h (k + 1) := by
  simp only [State.failCandidate, stands, asking]

theorem exec_answerTimer_still (still : s.isActive = false ∨ s.rec? h = none ∨ ∃ r, s.rec? h = some r ∧ r.answerTimer = none) :
    exec (.answerTimer h) s = .next s := by
  refine congrArg Outcome.next ?_
  obtain idle | none | ⟨r, stands, stopped⟩ := still
  · simp only [State.answerExpired, idle, Bool.false_and, Bool.false_eq_true, if_false]
    split <;> rfl
  · simp only [State.answerExpired, none]
  · simp [State.answerExpired, stands, stopped]

theorem exec_handOffTimer_still (still : s.isActive = false ∨ s.rec? h = none ∨ ∃ r, s.rec? h = some r ∧ r.handOffTimer = none) :
    exec (.handOffTimer h) s = .next s := by
  refine congrArg Outcome.next ?_
  obtain idle | none | ⟨r, stands, stopped⟩ := still
  · simp only [State.handOffExpired, idle, Bool.false_and, Bool.false_eq_true, if_false]
    split
    · rfl
    · split <;> rfl
  · simp only [State.handOffExpired, none]
  · simp only [State.handOffExpired, stands, stopped, Option.isSome_none, Bool.and_false, Bool.false_eq_true, if_false]
    split <;> rfl

theorem exec_locateTimer_still (still : s.isActive = false ∨ s.rec? h = none ∨ ∃ r, s.rec? h = some r ∧ r.locateTimer = none) :
    exec (.locateTimer h) s = .next s := by
  refine congrArg Outcome.next ?_
  obtain idle | none | ⟨r, stands, stopped⟩ := still
  · simp only [State.locateExpired, idle, Bool.false_and, Bool.false_eq_true, if_false]
    split <;> rfl
  · simp only [State.locateExpired, none]
  · simp [State.locateExpired, stands, stopped]

theorem exec_answerTimer_asking {k : Nat} {a : Addr} (active : s.isActive = true) (stands : s.rec? h = some r)
    (asking : r.booking = .asking k a) (runs : r.answerTimer ≠ none) (idle : (s.slot h).waits = []) :
    exec (.answerTimer h) s = .next (s.roundFrom h (k + 1)) := by
  refine congrArg Outcome.next ?_
  have due : (s.isActive && r.answerTimer.isSome) = true := by simp [active, Option.isSome_iff_ne_none, runs]
  simp only [State.answerExpired, stands, due, if_true, failCandidate_asking stands asking, dropWaits_idle _ idle]

/-- An OUTBOUND record UNCERTAIN toward its receiver (R156). -/
def Record.lost (r : Record) (d : Addr) : Record :=
  { r with state := .uncertain, sentToward := some d, booking := .none, position := none, handOffTimer := none, carry := none }

theorem exec_handOffTimer_runs {d : Addr} {q : PosIx} (active : s.isActive = true) (stands : s.rec? h = some r)
    (outbound : r.state = .outbound) (held : r.booking = .held d q) (runs : r.handOffTimer ≠ none) :
    exec (.handOffTimer h) s = .next ((((s.setRec h (r.lost d)).vacate? r.position .clearing).post
      (recordEvent .handoffFailed r.position h r.tag d.val)).sendSlot h .locate) := by
  refine congrArg Outcome.next ?_
  have due : (s.isActive && decide (r.state = .outbound) && r.handOffTimer.isSome) = true := by
    simp [active, outbound, Option.isSome_iff_ne_none, runs]
  simp only [State.handOffExpired, stands, held, BookerState.receiver, due, if_true]
  rfl

/-- The LOCATE of an UNCERTAIN record goes out at once where nothing of its slot is pending. -/
theorem sendSlot_locate (stands : s.rec? h = some r) (uncertain : r.state = .uncertain) (free : s.txHas (.slot h) = false)
    (idle : (s.slot h).waits = []) : s.sendSlot h .locate =
      s.queueFrame (.slot h) { kind := .locate, dest := 31, payload := tagBytes r.tag } := by
  refine sendSlot_free h .locate _ _ free idle ?_
  simp only [State.composeWait, stands, uncertain, if_true]
  rfl

theorem txHas_post (e : Event) (o : Origin) : (s.post e).txHas o = s.txHas o := by
  simp only [State.txHas, tx_post]

theorem waits_post (e : Event) : ((s.post e).slot h).waits = (s.slot h).waits := by
  simp only [State.slot, store_post]

end

/-- Settles O33. -/
theorem recordTimersExpire : Obligations.RecordTimersExpire := by
  refine ⟨fun h s still => ?_, fun h r s active stands free idle => ⟨fun k a e asking runs next => ⟨fun i c found => ?_, fun none => ?_⟩,
    fun d q p outbound held runs position => ?_, fun d q outbound held runs placeless => ?_, fun uncertain runs => ?_,
    fun stopped => exec_answerTimer_still (.inr (.inr ⟨r, stands, stopped⟩)),
    fun stopped => exec_handOffTimer_still (.inr (.inr ⟨r, stands, stopped⟩)),
    fun stopped => exec_locateTimer_still (.inr (.inr ⟨r, stands, stopped⟩))⟩⟩
  · have still : s.isActive = false ∨ s.rec? h = none := still.imp isActive_false_iff.mpr id
    exact ⟨exec_answerTimer_still (still.imp id .inl), exec_handOffTimer_still (still.imp id .inl),
      exec_locateTimer_still (still.imp id .inl)⟩
  · rw [exec_answerTimer_asking active stands asking runs idle, roundFrom_asks stands next found free idle]
  · rw [exec_answerTimer_asking active stands asking runs idle, roundFrom_exhausted stands fun e' next' => by
      obtain rfl := Option.some.inj (next.symm.trans next')
      exact none]
  · rw [exec_handOffTimer_runs active stands outbound held runs, position]
    refine congrArg Outcome.next (sendSlot_locate (r := r.lost d) ?_ rfl ?_ ?_)
    · simp [State.vacate?]
    · rw [txHas_post]
      simpa [State.vacate?] using free
    · rw [waits_post]
      simpa [State.vacate?] using idle
  · rw [exec_handOffTimer_runs active stands outbound held runs, placeless]
    refine congrArg Outcome.next (sendSlot_locate (r := r.lost d) ?_ rfl ?_ ?_)
    · simp [State.vacate?]
    · rw [txHas_post]
      simpa [State.vacate?] using free
    · rw [waits_post]
      simpa [State.vacate?] using idle
  · refine congrArg Outcome.next ?_
    simp [State.locateExpired, stands, active, uncertain, Option.isSome_iff_ne_none, runs]

/-! ### The timers of a booking (R146, R151) -/

section
variable {s : State} {before after : List Booking} {b : Booking}

/-- The frames that stay for a slot that becomes FREE: its CANCELs (R11, R86). -/
def SlotWait.stays : SlotWait → Bool
  | .cancel _ _ => true
  | .book => false
  | .renewal => false
  | .part => false
  | .locate => false

theorem waits_freeSlot (h : Handle) : ((s.freeSlot h).slot h).waits = (s.slot h).waits.filter SlotWait.stays := by
  simp only [State.freeSlot, State.slot, State.setSlot, Fin.getElem_fin, Vector.getElem_set_self]
  exact List.filter_congr fun w _ => by cases w <;> rfl

theorem same_iff {x : Booking} : b.same x = true ↔ x.tag = b.tag ∧ x.booker = b.booker := by simp [Booking.same]

theorem mem_handles (h : Handle) : h ∈ handles := List.mem_finRange h

theorem nodup_handles : handles.Nodup := List.nodup_finRange 32

theorem filter_books {cond : Booking → Bool} (books : s.Books before b after) (here : cond b = true)
    (others : ∀ x ∈ before ++ after, cond x = false) :
    s.bookings.filter cond = [b] ∧ s.bookings.filter (fun x => !cond x) = before ++ after := by
  obtain ⟨list, -⟩ := books
  have front (x : Booking) (m : x ∈ before) : cond x = false := others x (List.mem_append_left _ m)
  have back (x : Booking) (m : x ∈ after) : cond x = false := others x (List.mem_append_right _ m)
  rw [list]
  refine ⟨?_, ?_⟩
  · rw [List.filter_append, List.filter_cons_of_pos here, List.filter_eq_nil_iff.mpr fun x m => by simp [front x m],
      List.filter_eq_nil_iff.mpr fun x m => by simp [back x m]]
    rfl
  · rw [List.filter_append, List.filter_cons_of_neg (by simp [here]), List.filter_eq_self.mpr fun x m => by simp [front x m],
      List.filter_eq_self.mpr fun x m => by simp [back x m]]

/-- One entry leaves the booking list: its position EMPTY and its slot FREE (R11, R146). -/
theorem dropEntries_one {cond : Booking → Bool} (books : s.Books before b after) (here : cond b = true)
    (others : ∀ x ∈ before ++ after, cond x = false) : s.dropEntries cond =
      ({ s with bookings := before ++ after }.vacate b.position .empty).freeSlot b.slot := by
  obtain ⟨gone, rest⟩ := filter_books books here others
  have slots : (handles.filter fun h => [b].any fun b => decide (b.slot = h)) = [b.slot] := by
    simp only [List.any_cons, List.any_nil, Bool.or_false]
    simp only [eq_comm (a := b.slot)]
    rw [List.filter_eq, List.count_eq_one_of_mem nodup_handles (mem_handles _)]
    rfl
  simp only [State.dropEntries, gone, rest, slots, List.foldl_cons, List.foldl_nil]

theorem same_only (books : s.Books before b after) (x : Booking) (m : x ∈ before ++ after) : b.same x = false := by
  rw [← Bool.not_eq_true, same_iff]
  exact (books.2 x m).2

theorem dropEntries_same (books : s.Books before b after) : s.dropEntries b.same =
    ({ s with bookings := before ++ after }.vacate b.position .empty).freeSlot b.slot :=
  dropEntries_one books (same_iff.mpr ⟨rfl, rfl⟩) (same_only books)

/-- The entry of a position that satisfies a condition is found, where it is the only one for the position. -/
theorem find_at_position {cond : Booking → Bool} (books : s.Books before b after) (here : cond b = true) :
    s.bookings.find? (fun x => decide (x.position = b.position) && cond x) = some b := by
  obtain ⟨list, only⟩ := books
  rw [list, List.find?_append, List.find?_eq_none.mpr fun x m => by
    simp [(only x (List.mem_append_left _ m)).1]]
  simp [here]

end

/-- Settles O34. -/
theorem bookingTimersExpire : Obligations.BookingTimersExpire := by
  refine ⟨fun p s still => ?_, fun p s active => ⟨fun before after b books position counts free idle => ?_, fun none => ?_, ?_⟩⟩
  · have off : s.isActive = false := isActive_false_iff.mpr still
    refine ⟨congrArg Outcome.next ?_, congrArg Outcome.next ?_⟩
    · simp only [State.bookingLapse, off, Bool.false_eq_true, if_false]
      split <;> rfl
    · simp only [State.partGapExpired, off, Bool.false_eq_true, if_false]
  · subst position
    refine congrArg Outcome.next ?_
    simp only [State.bookingLapse, find_at_position books counts, active, if_true, dropEntries_same books]
    rw [sendSlot_free b.slot (.cancel b.tag b.booker) (tagFrame .cancel b.booker b.tag)]
    · rfl
    · exact free
    · rw [waits_freeSlot, slot_vacate]
      exact List.filter_eq_nil_iff.mpr fun w m => absurd (idle ▸ m) List.not_mem_nil
    · rfl
  · refine congrArg Outcome.next ?_
    have nothing : (s.bookings.find? fun b => decide (b.position = p) && b.counting) = Option.none :=
      List.find?_eq_none.mpr fun b m => by
        by_cases here : b.position = p
        · simp [here, none b m here]
        · simp [here]
    simp only [State.bookingLapse, nothing]
  · refine congrArg Outcome.next ?_
    simp only [State.partGapExpired, active, if_true, State.setStatus, Bool.and_eq_true, decide_eq_true_eq]

end Sys2Proof.Machine
end

section
/-! SUPPORT. The timers of the membership unit (O35). -/

namespace Sys2Proof.Machine
open Host

section
variable {s t : State}

/-! ### Departure and presence timers (R95, R97) -/

theorem exec_departureTimer {a : Addr} (joined : s.mem.line = .joined) (other : a ≠ s.conf.address)
    (listed : (s.peer a).state ≠ .absent) (runs : (s.peer a).timer ≠ none) {due : State}
    (timed : due = s.updPeer a fun q => { q with timer := some (4 * s.conf.items.presence) }) :
    exec (.departureTimer a) s = .next (if s.txHas (.departure a) then due else
      due.queueFrame (.departure a) { kind := .depart, dest := 31, payload := [byte a.val] }) := by
  obtain ⟨n, timer⟩ := Option.ne_none_iff_exists'.mp runs
  have same : s.departureDue a = due := by
    have entry : (s.mem.peers[a]).timer = some n := timer
    rw [timed]
    simp only [State.departureDue, State.updPeer, entry]
    rfl
  have peer : (due.peer a).state = (s.peer a).state ∧ (due.peer a).timer = some (4 * s.conf.items.presence) := by
    rw [timed]
    simp [State.peer, State.updPeer]
  have acts : (due.isJoined && decide (a ≠ due.conf.address) && decide ((due.peer a).state ≠ .absent)
      && (due.peer a).timer.isSome) = true := by
    have line : due.isJoined = true := isJoined_iff.mpr (by rw [timed]; exact joined)
    have own : due.conf.address = s.conf.address := by rw [timed]; rfl
    simp [line, own, other, peer, listed]
  have has : due.txHas (.departure a) = s.txHas (.departure a) := by rw [timed]; rfl
  change Outcome.next ((s.departureDue a).departureExpired a) = _
  rw [same]
  simp only [State.departureExpired, acts, if_true, State.queueFrame, has]
  cases s.txHas (.departure a) <;> rfl

theorem isOnLine_iff : s.isOnLine = true ↔ s.mem.line = .joining ∨ s.mem.line = .joined := by
  simp only [State.isOnLine]
  cases s.mem.line <;> simp

theorem exec_presenceTimer (line : s.mem.line = .joining ∨ s.mem.line = .joined) (runs : s.mem.presence ≠ none) :
    exec .presenceTimer s =
      .next ({ s with mem := { s.mem with presence := some 0 } }.queueOrReplace .presence s.presenceFrame) := by
  have acts : (s.isOnLine && s.mem.presence.isSome) = true := by
    simp [isOnLine_iff.mpr line, Option.isSome_iff_ne_none, runs]
  exact congrArg Outcome.next (if_pos acts)

theorem queueOrReplace_free {o : Origin} (f : Frame) (free : s.txHas o = false) : s.queueOrReplace o f = s.queueFrame o f := by
  simp [State.queueOrReplace, free]

theorem queueOrReplace_listed {o : Origin} (f : Frame) (has : s.txHas o = true) (still : s.lbi.inTx ≠ .listed o) :
    s.queueOrReplace o f = s.updTx o fun e => { e with frame := f, voids := 0, held := .none } := by
  have idle : s.sending o = false := Bool.not_eq_true _ ▸ mt sending_iff.mp still
  simp [State.queueOrReplace, has, State.replaceTx, idle]

theorem queueOrReplace_sending {o : Origin} (f : Frame) (has : s.txHas o = true) (out : s.lbi.inTx = .listed o) :
    s.queueOrReplace o f = s.updTx o fun e => { e with held := .replace f } := by
  simp [State.queueOrReplace, has, State.replaceTx, sending_iff.mpr out]

/-! ### Joining again (R107, R112) -/

theorem sendUpkeep_free (f : Frame) (free : s.txHas .upkeep = false) : s.sendUpkeep f = s.queueFrame .upkeep f := by
  simp [State.sendUpkeep, free]

theorem txEntry_none {o : Origin} (free : s.txHas o = false) : s.txEntry o = none := by
  rw [txEntry_eq_head, txHas_false_iff.mp free]
  rfl

theorem withdrawUpkeep_free (kinds : List FrameKind) (free : s.txHas .upkeep = false) : s.withdrawUpkeep kinds = s := by
  simp [State.withdrawUpkeep, txEntry_none free]

theorem postLineState_eq {l : LineState} (line : s.mem.line = l) (c : Cause) :
    s.postLineState c = s.post (stationEvent .lineState ((lineStateCode l).toNat * 256 + causeCode c)) := by
  rw [State.postLineState, line]

/-- The join begun again, JOIN queued and LINE_STATE posted with a cause (R107). -/
def State.joinsAgain (s : State) (cause : Nat) : State := State.post (stationEvent .lineState (1 * 256 + cause))
  ({ s with mem := { s.mem with phase := .queued, buffer := [], barred := false, joinWait := none, partGap := none } }.queueFrame
    .upkeep { kind := .join, dest := 31, payload := [roleCode s.conf.role] })

theorem rejoin_free {c : Cause} (collecting : s.collecting = true) (line : s.mem.line = .joining) (free : s.txHas .upkeep = false) :
    s.rejoin c = s.joinsAgain (causeCode c) := by
  have free' : ({ s with mem := s.mem.restartJoin .queued none } : State).txHas .upkeep = false := free
  rw [State.rejoin, if_pos collecting, withdrawUpkeep_free _ free', sendUpkeep_free _ free']
  refine (postLineState_eq (l := .joining) ?_ c).trans ?_
  · rw [mem_queueFrame]
    exact line
  · unfold State.joinsAgain
    congr 1

theorem collecting_waiting (line : s.mem.line = .joining) (phase : s.mem.phase = .waiting) : s.collecting = true := by
  simp [State.collecting, line, phase]

theorem collecting_receiving {n : SnapIn} (line : s.mem.line = .joining) (phase : s.mem.phase = .receiving n) :
    s.collecting = true := by
  simp [State.collecting, line, phase]

theorem exec_backingOff (detached : s.mem.line = .detached) (runs : s.mem.backoff ≠ none) (free : s.txHas .upkeep = false) :
    exec .backingOff s = .next (State.post (stationEvent .lineState (1 * 256 + 7))
      ({ s with mem := { s.mem with line := .joining, presence := some 0, backoff := none, phase := .queued,
                                    buffer := [], barred := false, joinWait := none, partGap := none } }.queueFrame
        .upkeep { kind := .join, dest := 31, payload := [roleCode s.conf.role] })) := by
  have acts : (decide (s.mem.line = .detached) && s.mem.backoff.isSome) = true := by
    simp [detached, Option.isSome_iff_ne_none, runs]
  refine congrArg Outcome.next ((if_pos acts).trans ?_)
  have free' : ({ s with mem := { s.mem.restartJoin .queued none with
      line := .joining, presence := some 0, backoff := none } } : State).txHas .upkeep = false := free
  rw [State.enterJoining, sendUpkeep_free _ free', postLineState_eq (congrArg Membership.line (mem_queueFrame _ _ _))]
  rfl

theorem presenceFrame_joined (joined : s.mem.line = .joined) : s.presenceFrame =
    { kind := .presence, dest := 31,
      payload := [2, roleCode s.conf.role] ++ bytes16 (s.peer s.conf.address).epoch ++ bytes16 s.conf.digest
        ++ [byte s.emptyCount, byte s.store.freeList.length] ++ bytes32 s.bud.seqNo } := by
  simp only [State.presenceFrame, isJoined_iff.mpr joined, if_true]
  rfl

/-! ### The line's first station (R108) -/

theorem exec_joinWait (line : s.mem.line = .joining) (phase : s.mem.phase = .waiting) (runs : s.mem.joinWait ≠ none) :
    exec .joinWait s = .next (if s.mem.barred then s.rejoin .rejoinTimeout else s.firstStation) := by
  have acts : (decide (s.mem.line = .joining) && decide (s.mem.phase = .waiting) && s.mem.joinWait.isSome) = true := by
    simp [line, phase, Option.isSome_iff_ne_none, runs]
  exact congrArg Outcome.next (if_pos acts)

/-- The station as the line's first, its table and list in place (R108 steps 1 and 2). -/
def State.firstStanding (s : State) : State :=
  let own := s.conf.address
  let peers := s.mem.buffer.foldl firstListFrame (Vector.replicate 16 Peer.blank)
  let self : Peer := { peers[own] with state := .joined, role := s.conf.role, epoch := nextEpoch s.mem.lastEpoch }
  { s with
    bud := { capacities := s.conf.items.initialCapacities, entries := [], seqNo := 0 },
    mem := { s.mem with peers := peers.set own self } }

/-- The membership unit behind the completion of a join (R106 steps 4 and 5). -/
def Membership.joinDone (m : Membership) (own : Addr) : Membership :=
  { m.restartJoin .none none with line := .joined, lastEpoch := m.peers[own].epoch, peers := startTimers own m.peers }

theorem startTimers_get (own : Addr) (ps : Vector Peer 16) (a : Addr) :
    (startTimers own ps)[a].state = ps[a].state ∧ (startTimers own ps)[a].epoch = ps[a].epoch := by
  simp [startTimers]

theorem listenOnly_completeJoin (c : Cause) (s : State) : (s.completeJoin c).lbi.listenOnly = false := by
  simp [State.completeJoin, listenOnly_foldl]

theorem mem_completeJoin (c : Cause) (s : State) : (s.completeJoin c).mem = s.mem.joinDone s.conf.address := by
  simp [State.completeJoin, mem_foldl]
  rfl

end

/-- Settles O35. -/
theorem lineTimersExpire : Obligations.LineTimersExpire := by
  refine ⟨fun s => ⟨fun a joined other listed runs => exec_departureTimer joined other listed runs rfl,
      fun line runs free => ?_, fun line runs has still => ?_, fun line runs has out => ?_, exec_backingOff, presenceFrame_joined⟩,
    fun s line => ⟨fun phase runs => ⟨fun open_ => ?_, fun barred free => ?_⟩, fun n phase free => ?_, fun idle => ?_, fun idle => ?_⟩⟩
  · exact (exec_presenceTimer line runs).trans (congrArg Outcome.next (queueOrReplace_free _ free))
  · exact (exec_presenceTimer line runs).trans (congrArg Outcome.next (queueOrReplace_listed _ has still))
  · exact (exec_presenceTimer line runs).trans (congrArg Outcome.next (queueOrReplace_sending _ has out))
  · refine ⟨_, (exec_joinWait line phase runs).trans (congrArg Outcome.next (if_neg (by simp [open_]))), ?_⟩
    have mem : s.firstStation.mem = s.firstStanding.mem.joinDone s.conf.address := mem_completeJoin .first s.firstStanding
    have own : s.firstStanding.mem.peers[s.conf.address].state = .joined
        ∧ s.firstStanding.mem.peers[s.conf.address].epoch = nextEpoch s.mem.lastEpoch := by
      simp [State.firstStanding]
    refine ⟨congrArg Membership.line mem, ?_, ?_, (congrArg Membership.lastEpoch mem).trans own.2, ?_,
      congrArg Membership.phase mem, congrArg Membership.buffer mem, ?_⟩
    · rw [State.peer, mem]
      exact (startTimers_get _ _ _).1.trans own.1
    · rw [State.peer, mem]
      exact (startTimers_get _ _ _).2.trans own.2
    · exact bud_completeJoin .first s.firstStanding
    · rw [show s.firstStation = s.firstStanding.completeJoin .first from rfl, listenOnly_completeJoin]
  · refine (exec_joinWait line phase runs).trans (congrArg Outcome.next ((if_pos barred).trans ?_))
    exact rejoin_free (collecting_waiting line phase) line free
  · refine congrArg Outcome.next ?_
    simp only [State.snapGapExpired, phase]
    exact rejoin_free (collecting_receiving line phase) line free
  · refine congrArg Outcome.next ?_
    cases phase : s.mem.phase with
    | receiving n => exact absurd phase (idle n)
    | none => simp only [State.snapGapExpired, phase]
    | queued => simp only [State.snapGapExpired, phase]
    | waiting => simp only [State.snapGapExpired, phase]
  · refine congrArg Outcome.next ?_
    simp [State.joinWaitExpired, idle]

end Sys2Proof.Machine
end

section
/-! SUPPORT. How the byte fields of a frame and of an image are read back: the fields of two to four bytes, the index
bytes, the tags. -/

namespace Sys2Proof.Machine
open Host

theorem word16_bytes16 (x : BitVec 16) : word16 (x.extractLsb' 8 8) (x.extractLsb' 0 8) = x := by
  rw [word16, BitVec.extractLsb'_append_extractLsb'_eq_extractLsb' (by rfl)]
  exact BitVec.extractLsb'_eq_self

theorem word24_bytes24 (x : BitVec 24) : word24 (x.extractLsb' 16 8) (x.extractLsb' 8 8) (x.extractLsb' 0 8) = x := by
  rw [word24, BitVec.extractLsb'_append_extractLsb'_eq_extractLsb' (by rfl),
    BitVec.extractLsb'_append_extractLsb'_eq_extractLsb' (by rfl)]
  exact BitVec.extractLsb'_eq_self

theorem word32_bytes32 (x : BitVec 32) :
    word32 (x.extractLsb' 24 8) (x.extractLsb' 16 8) (x.extractLsb' 8 8) (x.extractLsb' 0 8) = x := by
  rw [word32, BitVec.extractLsb'_append_extractLsb'_eq_extractLsb' (by rfl),
    BitVec.extractLsb'_append_extractLsb'_eq_extractLsb' (by rfl),
    BitVec.extractLsb'_append_extractLsb'_eq_extractLsb' (by rfl)]
  exact BitVec.extractLsb'_eq_self

theorem tagOf_tagBytes {t : Tag} (epoch : t.epoch ≠ 0) (seq : t.seq ≠ 0) :
    tagOf (byte t.origin.val) (t.epoch.extractLsb' 8 8) (t.epoch.extractLsb' 0 8)
      (t.seq.extractLsb' 8 8) (t.seq.extractLsb' 0 8) = some t := by
  rw [tagOf, finOf_addr]
  simp only [word16_bytes16, epoch, seq, or_self, if_false]

theorem tagBytes_inj {t u : Tag} (same : tagBytes t = tagBytes u) : t = u := by
  simp only [tagBytes, bytes16, List.cons_append, List.nil_append, List.cons.injEq, and_true] at same
  obtain ⟨origin, e1, e0, s1, s0⟩ := same
  have o : some t.origin = some u.origin := by
    rw [← finOf_addr t.origin, origin, finOf_addr]
  have e : t.epoch = u.epoch := by rw [← word16_bytes16 t.epoch, ← word16_bytes16 u.epoch, e1, e0]
  have s : t.seq = u.seq := by rw [← word16_bytes16 t.seq, ← word16_bytes16 u.seq, s1, s0]
  cases t; cases u
  simp_all

theorem destOf_inj {a b : Addr} (same : destOf a = destOf b) : a = b := by
  have value := congrArg BitVec.toNat same
  simp only [destOf, BitVec.toNat_ofNat] at value
  have lowA : a.val < 16 := a.isLt
  have lowB : b.val < 16 := b.isLt
  exact Fin.ext (by omega)

theorem takenFrame_inj {b c : Booking} : b.takenFrame = c.takenFrame ↔ b.booker = c.booker ∧ b.tag = c.tag := by
  constructor
  · intro same
    simp only [Booking.takenFrame, tagFrame, Frame.mk.injEq] at same
    exact ⟨destOf_inj same.2.1, tagBytes_inj same.2.2⟩
  · rintro ⟨booker, tag⟩
    rw [Booking.takenFrame, booker, tag, Booking.takenFrame]

end Sys2Proof.Machine
end

section
/-! SUPPORT. Which frame the line bus interface offers, and what a lost arbitration does with a held request (R76, R77,
R87, R88). -/

namespace Sys2Proof.Machine
open Host

section
variable {s t : State} {o : Origin} {e : TxEntry}

/-! ### The frame offered next -/

theorem nextOf_mem {l : List TxEntry} {e : TxEntry} (next : nextOf l = some e) : e ∈ l := by
  induction l generalizing e with
  | nil => cases next
  | cons x rest ih =>
    unfold nextOf at next
    cases later : nextOf rest with
    | none => simp_all
    | some f =>
      rw [later] at next
      have m := ih later
      dsimp only at next
      split at next <;> simp_all

/-- The frame offered has the lowest class and is the first of it, given as a place on the list. -/
theorem nextOf_of_place {before after : List TxEntry} (first : ∀ f ∈ before, kindPrio e.frame.kind < kindPrio f.frame.kind)
    (low : ∀ f ∈ after, kindPrio e.frame.kind ≤ kindPrio f.frame.kind) : nextOf (before ++ e :: after) = some e := by
  induction before with
  | nil =>
    rw [List.nil_append, nextOf]
    cases later : nextOf after with
    | none => rfl
    | some f => exact if_neg (Nat.not_lt.mpr (BitVec.le_def.mp (low f (nextOf_mem later))))
  | cons x rest ih =>
    rw [List.cons_append, nextOf, ih fun f m => first f (List.mem_cons_of_mem x m)]
    exact if_pos (BitVec.lt_def.mp (first x List.mem_cons_self))

theorem exists_place {l : List TxEntry} (some : l ≠ []) : ∃ (before after : List TxEntry) (e : TxEntry),
    l = before ++ e :: after ∧ (∀ f ∈ before, kindPrio e.frame.kind < kindPrio f.frame.kind)
      ∧ ∀ f ∈ after, kindPrio e.frame.kind ≤ kindPrio f.frame.kind := by
  induction l with
  | nil => exact absurd rfl some
  | cons x rest ih =>
    by_cases last : rest = []
    · exact ⟨[], [], x, by rw [last]; rfl, by simp, by simp⟩
    · obtain ⟨before, after, e, list, first, low⟩ := ih last
      by_cases under : kindPrio e.frame.kind < kindPrio x.frame.kind
      · exact ⟨x :: before, after, e, by rw [list]; rfl, List.forall_mem_cons.mpr ⟨under, first⟩, low⟩
      · have head : kindPrio x.frame.kind ≤ kindPrio e.frame.kind := BitVec.not_lt.mp under
        refine ⟨[], rest, x, rfl, by simp, fun f m => ?_⟩
        rw [list, List.mem_append, List.mem_cons] at m
        rcases m with early | rfl | late
        · exact BitVec.le_trans head (BitVec.le_of_lt (first f early))
        · exact head
        · exact BitVec.le_trans head (low f late)

theorem beginTx_sending (sends : s.lbi.inTx ≠ .idle) : s.beginTx = s := by simp [State.beginTx, sends]

theorem beginTx_silent (silent : s.mem.line = .config ∨ s.mem.line = .dormant ∨ s.conf.rate = 3 ∨ s.lbi.tx = []) :
    s.beginTx = s := by
  rcases silent with config | dormant | rate | empty
  · simp [State.beginTx, State.drives, State.isActive, config]
  · simp [State.beginTx, State.drives, State.isActive, dormant]
  · simp [State.beginTx, rate]
  · simp [State.beginTx, State.txNext, nextOf, empty]

/-! ### Withdrawals and replacements -/

theorem sending_false (other : s.lbi.inTx ≠ .listed o) : s.sending o = false := by simp [State.sending, other]

theorem txEntry_updTx {f : TxEntry → TxEntry} (keeps : ∀ x, (f x).origin = x.origin) (entry : s.txEntry o = some e) :
    (s.updTx o f).txEntry o = some (f e) := by
  rw [txEntry_eq_head] at entry ⊢
  rw [framesOf_updTx keeps, if_pos rfl, List.head?_map, entry]
  rfl

/-! ### Serving a joiner (R103) -/

theorem tryServe_idle (empty : s.mem.joinQueue = []) : s.tryServe = s := by simp [State.tryServe, empty]

theorem joinQueue_pumpUpkeep : s.pumpUpkeep.mem.joinQueue = s.mem.joinQueue := by
  unfold State.pumpUpkeep
  split <;> [split <;> simp; rfl]

theorem pumpUpkeep_none (empty : s.mem.upkeepNext = none) : s.pumpUpkeep = s := by simp [State.pumpUpkeep, empty]

theorem pumpUpkeep_some {f : Frame} (next : s.mem.upkeepNext = some f) (free : s.txHas .upkeep = false) :
    s.pumpUpkeep = { s with mem := { s.mem with upkeepNext := none } }.queueFrame .upkeep f := by
  simp [State.pumpUpkeep, next, free]

/-! ### A position's withdrawn CLAIM (R133) -/

theorem claimWithdrawn_forgotten {p : PosIx} (none : (s.pos p).remembered = false) : s.claimWithdrawn p =
    s.updPos p fun x => { x with claim := .none, withdrawing := false, remembered := false } := by
  simp [State.claimWithdrawn, none]

theorem claimWithdrawn_asked {p : PosIx} (asked : (s.pos p).remembered = true) : s.claimWithdrawn p =
    (s.updPos p fun x => { x with claim := .none, withdrawing := false, remembered := false }).queueClaim p := by
  simp [State.claimWithdrawn, asked]

/-! ### The end of a transmission without an appearance (R77, R88) -/

theorem loseArbitration_listed (listed : s.lbi.inTx = .listed o) (entry : s.txEntry o = some e) :
    s.loseArbitration = (s.setInTx .idle).applyHeld e := by
  have entry' : (s.setInTx .idle).txEntry o = some e := entry
  rw [State.loseArbitration, listed]
  dsimp only
  rw [entry']

theorem applyHeld_none (none : e.held = .none) : s.applyHeld e = s := by rw [State.applyHeld, none]

theorem applyHeld_replace {f : Frame} (replace : e.held = .replace f) :
    s.applyHeld e = s.updTx e.origin fun x => { x with frame := f, voids := 0, held := .none } := by
  rw [State.applyHeld, replace]

theorem applyHeld_withdraw (withdraw : e.held = .withdraw) : s.applyHeld e = (s.removeTx e.origin).toldWithdrawn e := by
  rw [State.applyHeld, withdraw]

theorem voidOwn_held (listed : s.lbi.inTx = .listed o) (entry : s.txEntry o = some e) (asked : e.held ≠ .none) :
    s.voidOwn = (s.setInTx .idle).applyHeld e := by
  have entry' : (s.setInTx .idle).txEntry o = some e := entry
  rw [State.voidOwn, listed]
  dsimp only
  rw [entry']
  exact if_neg asked

theorem eighthVoid_listed (listed : s.lbi.inTx = .listed o) (entry : s.txEntry o = some e) :
    s.eighthVoid = (decide (e.held = .none) && decide (7 ≤ e.voids)) := by
  rw [State.eighthVoid, listed]
  dsimp only
  rw [entry]

/-- A lost arbitration in a station that serves no joiner. -/
theorem exec_arbitrationLost (listed : s.lbi.inTx = .listed o) (entry : s.txEntry o = some e)
    (ends : (s.setInTx .idle).applyHeld e = t) (free : t.mem.joinQueue = []) : exec .arbitrationLost s = .next t := by
  refine congrArg Outcome.next ?_
  have sends : s.lbi.inTx ≠ .idle := by rw [listed]; exact fun same => nomatch same
  rw [beginTx_sending sends, loseArbitration_listed listed entry, ends, tryServe_idle free]

/-- A void of a frame with a held request acts as a lost arbitration. -/
theorem exec_frameVoid_held (listed : s.lbi.inTx = .listed o) (entry : s.txEntry o = some e) (asked : e.held ≠ .none) :
    exec (.frameVoid s.conf.address false) s = exec .arbitrationLost s := by
  have sends : s.lbi.inTx ≠ .idle := by rw [listed]; exact fun same => nomatch same
  refine congrArg Outcome.next ?_
  simp [State.takeVoid, beginTx_sending sends, eighthVoid_listed listed entry, asked, voidCause,
    voidOwn_held listed entry asked, loseArbitration_listed listed entry]

/-- A TAKEN that has left the list takes its CLOSING entry with it (R159). -/
theorem takenFailed_one {before after : List Booking} {b : Booking} {f : Frame} (books : s.Books before b after)
    (closes : b.isClosing = true) (frame : f = b.takenFrame) (active : s.isActive = true) : s.takenFailed f =
      (({ s with bookings := before ++ after }.vacate b.position .empty).freeSlot b.slot).judgeSlots.placement := by
  have others : ∀ x ∈ before ++ after, (x.isClosing && decide (x.takenFrame = f)) = false := by
    intro x m
    rw [frame, Bool.and_eq_false_iff]
    refine .inr (decide_eq_false fun same => (books.2 x m).2 ?_)
    exact (takenFrame_inj.mp same).symm
  have still : ∀ u : State, u.mem = s.mem → u.isActive = true := fun u same => by
    rw [← active, State.isActive, same, ← State.isActive]
  rw [State.takenFailed, dropEntries_one books (by simp [closes, frame]) others]
  exact if_pos (still _ (by simp))

end

/-- Settles O37. -/
theorem transmissionOrder : Obligations.TransmissionOrder := by
  refine ⟨?_, ?_, ?_, ?_⟩
  · intro s sends rate idle some
    obtain ⟨before, after, e, list, first, low⟩ := exists_place some
    refine ⟨before, after, e, list, first, low, congrArg Outcome.next ?_⟩
    have drives : s.drives = true := by simpa [State.drives] using sends
    have next : s.txNext = Option.some e := by rw [State.txNext, list, nextOf_of_place first low]
    have drives3 : (s.drives && decide (s.conf.rate ≠ 3) && decide (s.lbi.inTx = .idle)) = true := by
      simp only [drives, idle, Bool.true_and, decide_eq_true_eq, Bool.and_true, decide_true]
      exact rate
    rw [State.beginTx, if_pos drives3, next]
    rfl
  · intro s silent
    exact congrArg Outcome.next (beginTx_silent silent)
  · intro o f s
    refine ⟨fun other => ?_, fun listed e entry => ?_⟩
    · simp [State.withdrawTx, State.replaceTx, sending_false other]
    · have sends : s.sending o = true := sending_iff.mpr listed
      have asked : s.withdrawTx o = s.updTx o fun x => { x with held := .withdraw } := by
        simp [State.withdrawTx, sends]
      have replaced : s.replaceTx o f = s.updTx o fun x => { x with held := .replace f } := by
        simp [State.replaceTx, sends]
      exact ⟨by rw [asked]; exact txEntry_updTx (fun _ => rfl) entry,
        by rw [replaced]; exact txEntry_updTx (fun _ => rfl) entry, asked, replaced⟩
  · intro e s listed entry empty
    refine ⟨fun none => ?_, fun f replace => ?_, exec_frameVoid_held listed entry, fun withdraw => ?_⟩
    · exact exec_arbitrationLost listed entry (applyHeld_none none) empty
    · exact exec_arbitrationLost listed entry (applyHeld_replace replace) empty
    · have told {t : State} (tells : ((s.setInTx .idle).removeTx e.origin).toldWithdrawn e = t)
          (free : t.mem.joinQueue = []) : exec .arbitrationLost s = .next t :=
        exec_arbitrationLost listed entry ((applyHeld_withdraw withdraw).trans tells) free
      have origin {u v : State} {o : Origin} (same : e.origin = o) (tells : u.toldWithdrawn { e with origin := o } = v) :
          u.toldWithdrawn e = v := by
        subst same
        exact tells
      refine ⟨fun quiet => ?_, fun h slot => ?_, fun upkeep => ⟨fun none => ?_, fun f next => ?_⟩, fun p position => ⟨?_, ?_⟩,
        fun i answer => ⟨fun other => ?_, fun before after b books closes frame active => ?_⟩⟩
      · refine told ?_ empty
        rcases quiet with presence | ⟨a, departure⟩ | ⟨b, capacity⟩
        · exact origin presence rfl
        · exact origin departure rfl
        · exact origin capacity rfl
      · exact told (origin slot rfl) (by rw [mem_pumpSlot]; exact empty)
      · exact told (origin upkeep (pumpUpkeep_none none)) empty
      · have gone : ((s.setInTx .idle).removeTx e.origin).txHas .upkeep = false := by
          rw [txHas_false_iff, framesOf_removeTx, if_pos upkeep]
        exact told (origin upkeep (pumpUpkeep_some next gone)) (by rw [mem_queueFrame]; exact empty)
      · exact fun none => told (origin position (claimWithdrawn_forgotten none)) empty
      · exact fun asked => told (origin position (claimWithdrawn_asked asked)) (by simp [empty])
      · refine told (origin answer (if_neg other)) empty
      · refine told (origin answer ?_) ?_
        · rw [frame]
          exact takenFailed_one books closes rfl active
        · simp [empty]

end Sys2Proof.Machine
end

section
/-! SUPPORT. What a void counts, where it drops a frame and where it detaches the station (R79, R82 to R84). -/

namespace Sys2Proof.Machine
open Host

section
variable {s : State} {o : Origin} {e : TxEntry} {a : Addr} {c : Cause}

theorem joinQueue_pumpOrigin (o : Origin) : (s.pumpOrigin o).mem.joinQueue = s.mem.joinQueue := by
  cases o
  case slot h => exact congrArg Membership.joinQueue (mem_pumpSlot h s)
  case upkeep => exact joinQueue_pumpUpkeep
  all_goals rfl

theorem joinQueue_dropFrame (o : Origin) : (s.dropFrame o).mem.joinQueue = s.mem.joinQueue := joinQueue_pumpOrigin o

theorem mem_dropEntries (cond : Booking → Bool) : (s.dropEntries cond).mem = s.mem := by
  unfold State.dropEntries
  dsimp only
  rw [mem_foldl _ fun t h => mem_freeSlot h t, mem_foldl _ fun t (b : Booking) => mem_vacate b.position .empty t]

theorem mem_loseHandoff : s.loseHandoff.mem = s.mem := by
  unfold State.loseHandoff
  rw [mem_dropEntries]
  dsimp only
  exact mem_foldl State.clearOutbound mem_clearOutbound positions s

/-- The membership unit at the loss of the line: everything but the last epoch is as after reset (R110, R111, R114). -/
theorem mem_loseLine (l : LineState) : (s.loseLine l).mem = s.mem.offLine l := by
  unfold State.loseLine
  rw [mem_placement, mem_judgeSlots, mem_foldl State.lostPosition fun t p => mem_lostPosition t p, mem_loseHandoff,
    mem_dropClaims, mem_dropTable]
  rfl

theorem mem_detach (onLine : s.isOnLine = true) : (s.detach c).mem = { s.mem.offLine .detached with backoff := some 0 } := by
  rw [State.detach, if_pos onLine, mem_postLineState, mem_loseLine]

theorem detach_offline (off : s.isOnLine = false) : s.detach c = s := by simp [State.detach, off]

/-- A station that has just detached serves no joiner. -/
theorem tryServe_detached (onLine : s.isOnLine = true) : (s.detach c).tryServe = s.detach c :=
  tryServe_idle (by rw [mem_detach onLine]; rfl)

/-- A station that serves no joiner serves none after a detach either. -/
theorem tryServe_detach (empty : s.mem.joinQueue = []) : (s.detach c).tryServe = s.detach c := by
  cases onLine : s.isOnLine with
  | false => rw [detach_offline onLine, tryServe_idle empty]
  | true => exact tryServe_detached onLine

theorem voiding_iff : s.voiding = true ↔ s.mem.line = .joined ∨ s.isActive = true ∧ s.lbi.listenOnly = false := by
  have joined : s.isJoined = true → s.isActive = true := fun on => isActive_of_joined (isJoined_iff.mp on)
  rw [← isJoined_iff]
  cases on : s.isJoined <;> cases active : s.isActive <;> cases only : s.lbi.listenOnly <;> simp_all [State.voiding]

/-! ### A void of another station's frame -/

theorem takeVoid_foreign (other : a ≠ s.conf.address) (found : Bool) : s.takeVoid a found =
    if found && s.voiding then
      if 15 ≤ s.lbi.rxErrors then (s.countVoid.detach .rxFault).tryServe else s.countVoid.tryServe
    else s.tryServe := by
  cases counted : found && s.voiding <;> by_cases many : 15 ≤ s.lbi.rxErrors <;>
    simp [State.takeVoid, other, counted, many, voidCause]

theorem countVoid_below (few : s.lbi.rxErrors < 15) :
    s.countVoid = { s with lbi := { s.lbi with rxErrors := s.lbi.rxErrors + 1 } } := by
  have least : min 16 (s.lbi.rxErrors + 1) = s.lbi.rxErrors + 1 := by omega
  have below : s.lbi.rxErrors + 1 ≠ 16 := by omega
  simp only [State.countVoid, least, below, if_false]

theorem countVoid_last (many : 15 ≤ s.lbi.rxErrors) : s.countVoid = { s with
    lbi := { s.lbi with rxErrors := 16, listenOnly := true }
    port := { s.port with alarms := { s.port.alarms with lineRxFault := true } } } := by
  have least : min 16 (s.lbi.rxErrors + 1) = 16 := by omega
  simp only [State.countVoid, least, if_true]
  rfl

/-! ### A void of the station's own frame -/

theorem takeVoid_own (sends : s.lbi.inTx ≠ .idle) (found : Bool) (seventh : s.eighthVoid = false) :
    s.takeVoid s.conf.address found =
      if found && s.voiding then
        if 15 ≤ s.lbi.rxErrors then
          ((if s.isOnLine then s.setInTx .idle else s.voidOwn).countVoid.detach .rxFault).tryServe
        else s.voidOwn.countVoid.tryServe
      else s.voidOwn.tryServe := by
  cases counted : found && s.voiding <;> by_cases many : 15 ≤ s.lbi.rxErrors <;>
    simp [State.takeVoid, beginTx_sending sends, counted, many, seventh, voidCause]

theorem takeVoid_eighth (sends : s.lbi.inTx ≠ .idle) (eighth : s.eighthVoid = true) :
    s.takeVoid s.conf.address false = (s.voidOwn.detach .txFault).tryServe := by
  simp [State.takeVoid, beginTx_sending sends, eighth, voidCause]

theorem voidOwn_plain (listed : s.lbi.inTx = .listed o) (entry : s.txEntry o = some e) (none : e.held = .none) :
    s.voidOwn = if 7 ≤ e.voids then (s.setInTx .idle).dropFrame o
      else (s.setInTx .idle).updTx o fun x => { x with voids := x.voids + 1 } := by
  have entry' : (s.setInTx .idle).txEntry o = some e := entry
  rw [State.voidOwn, listed]
  dsimp only
  rw [entry']
  exact if_pos none

end

/-- Settles O38. -/
theorem voidsCounted : Obligations.VoidsCounted := by
  refine ⟨?_, ?_, ?_, ?_⟩
  · intro e s _ empty listed entry none idle
    have ended : idle = s.setInTx .idle := rfl
    clear_value idle
    subst ended
    have freed : ((s.setInTx .idle).dropFrame e.origin).mem.joinQueue = [] := (joinQueue_dropFrame _).trans empty
    have sends : s.lbi.inTx ≠ .idle := by rw [listed]; exact fun same => nomatch same
    have voided := voidOwn_plain listed entry none
    refine ⟨fun few => congrArg Outcome.next ?_, fun many onLine => congrArg Outcome.next ?_,
      fun many offLine => congrArg Outcome.next ?_⟩
    · have seventh : s.eighthVoid = false := by
        simp [eighthVoid_listed listed entry, few]
      rw [takeVoid_own sends false seventh, voided, if_neg (Nat.not_le.mpr few)]
      exact tryServe_idle empty
    · have eighth : s.eighthVoid = true := by simp [eighthVoid_listed listed entry, none, many]
      rw [takeVoid_eighth sends eighth, voided, if_pos many]
      exact tryServe_detach freed
    · have eighth : s.eighthVoid = true := by simp [eighthVoid_listed listed entry, none, many]
      rw [takeVoid_eighth sends eighth, voided, if_pos many]
      have off : ((s.setInTx .idle).dropFrame e.origin).isOnLine = false := by
        rw [State.isOnLine, line_dropFrame, ← State.isOnLine, isOnLine_setInTx, offLine]
      rw [tryServe_detach freed, detach_offline off]
  · intro a s active empty other clear
    have voids : (true && s.voiding) = true := voiding_iff.mpr (clear.imp_right fun only => ⟨active, only⟩)
    have runs := takeVoid_foreign other true
    rw [if_pos voids] at runs
    refine ⟨fun few => congrArg Outcome.next ?_, fun many => ?_⟩
    · rw [runs, if_neg (Nat.not_le.mpr few), countVoid_below few]
      exact tryServe_idle empty
    · intro marked
      have last : marked = s.countVoid := (countVoid_last many).symm
      have free : marked.mem.joinQueue = [] := empty
      have on : marked.isOnLine = s.isOnLine := rfl
      clear_value marked
      rw [if_pos many, ← last, tryServe_detach free] at runs
      refine ⟨fun _ => congrArg Outcome.next runs, fun offLine => congrArg Outcome.next ?_⟩
      rw [runs, detach_offline (on.trans offLine)]
  · intro e s listed entry clear below
    have sends : s.lbi.inTx ≠ .idle := by rw [listed]; exact fun same => nomatch same
    have seventh : s.eighthVoid = false := by
      rw [eighthVoid_listed listed entry, Bool.and_eq_false_iff]
      exact below.symm.imp decide_eq_false fun few => decide_eq_false (Nat.not_le.mpr few)
    have voids : (true && s.voiding) = true := voiding_iff.mpr clear
    have runs := takeVoid_own sends true seventh
    rw [if_pos voids] at runs
    refine ⟨fun few empty none => congrArg Outcome.next ?_, fun many onLine => congrArg Outcome.next ?_⟩
    · have fewVoids : ¬7 ≤ e.voids := Nat.not_le.mpr (below.resolve_right fun asked => asked none)
      rw [runs, if_neg (Nat.not_le.mpr few), voidOwn_plain listed entry none, if_neg fewVoids]
      refine (congrArg State.tryServe (countVoid_below ?_)).trans (tryServe_idle empty)
      exact few
    · have last := countVoid_last (s := s.setInTx .idle) many
      have on : (s.setInTx .idle).countVoid.isOnLine = true := by
        rw [last]
        exact onLine
      rw [runs, if_pos many, if_pos onLine, tryServe_detached on, last]
      rfl
  · intro a found s empty other clear
    have silent : (found && s.voiding) = false := by
      rw [Bool.and_eq_false_iff]
      refine clear.imp_right fun quiet => Bool.eq_false_iff.mpr fun voids => ?_
      rcases voiding_iff.mp voids with joined | ⟨active, only⟩
      · rcases quiet with quiet | ⟨off, _⟩
        · exact absurd (isActive_of_joined joined) (Bool.eq_false_iff.mp quiet)
        · exact off joined
      · rcases quiet with quiet | ⟨_, only'⟩
        · exact absurd active (Bool.eq_false_iff.mp quiet)
        · exact absurd only' (Bool.eq_false_iff.mp only)
    have runs := takeVoid_foreign other found
    rw [if_neg (Bool.eq_false_iff.mp silent)] at runs
    exact congrArg Outcome.next (runs.trans (tryServe_idle empty))

end Sys2Proof.Machine
end

section
/-! SUPPORT. What a stall drops and what an error found while listen-only abandons (R84, R85). -/

namespace Sys2Proof.Machine
open Host

section
variable {s : State} {o : Origin} {e : TxEntry} {a : Addr} {h : Handle}

theorem pumpSlot_idle (idle : (s.slot h).waits = []) : s.pumpSlot h = s := by
  have same : State.pumpWaits h [] s = s := setWaits_eq _ _ _ idle
  rw [State.pumpSlot, idle, same, ite_self]

/-- An origin for which nothing waits. -/
def State.Quiet (s : State) (o : Origin) : Prop := (∀ h, o = .slot h → (s.slot h).waits = []) ∧ s.mem.upkeepNext = none

theorem pumpOrigin_quiet (quiet : s.Quiet o) : s.pumpOrigin o = s := by
  cases o
  case slot h => exact pumpSlot_idle (quiet.1 h rfl)
  case upkeep => exact pumpUpkeep_none quiet.2
  all_goals rfl

theorem dropFrame_quiet (quiet : s.Quiet o) :
    s.dropFrame o = (s.removeTx o).alarm fun a => { a with lineTxFault := true } := pumpOrigin_quiet quiet

/-! ### Stalls -/

theorem takeStall_still (still : s.lbi.stall = none ∨ s.lbi.tx = []) : s.takeStall = s := by
  rcases still with stopped | empty
  · simp [State.takeStall, stopped]
  · simp [State.takeStall, empty]

theorem takeStall_runs (drives : s.drives = true) (runs : s.lbi.stall ≠ none) (some : s.lbi.tx ≠ []) :
    s.takeStall = if s.isOnLine then ((s.alarm fun a => { a with lineTxFault := true }).detach .txFault).tryServe
      else s.dropHead := by
  have acts : (s.drives && s.lbi.stall.isSome && !s.lbi.tx.isEmpty) = true := by
    simp [drives, Option.isSome_iff_ne_none, runs, some]
  rw [State.takeStall, if_pos acts]

theorem filter_origin {before after : List TxEntry} (only : ∀ f ∈ before ++ after, f.origin ≠ e.origin) :
    (before ++ e :: after).filter (fun f => decide (f.origin ≠ e.origin)) = before ++ after := by
  rw [List.filter_append, List.filter_cons_of_neg (by simp), ← List.filter_append,
    List.filter_eq_self.mpr fun f m => by simpa using only f m]

/-- The head frame dropped, where nothing waits for its origin. -/
theorem dropHead_quiet {before after : List TxEntry} (list : s.lbi.tx = before ++ e :: after)
    (only : ∀ f ∈ before ++ after, f.origin ≠ e.origin) (next : s.txNext = some e) (quiet : s.Quiet e.origin) :
    s.dropHead = { s with
      lbi := { s.lbi with
        tx := before ++ after, stall := if before ++ after = [] then none else some 0,
        inTx := if s.lbi.inTx = .listed e.origin then .orphan e.frame else s.lbi.inTx }
      port := { s.port with alarms := { s.port.alarms with lineTxFault := true } } } := by
  have dropped {x : InTx} : ((s.setInTx x).dropFrame e.origin).restartStall = { s with
      lbi := { s.lbi with tx := before ++ after, stall := if before ++ after = [] then none else some 0, inTx := x }
      port := { s.port with alarms := { s.port.alarms with lineTxFault := true } } } := by
    have quiet' : (s.setInTx x).Quiet e.origin := quiet
    rw [dropFrame_quiet quiet']
    simp only [State.removeTx, State.setTx, State.alarm, State.restartStall, State.setInTx, list, filter_origin only,
      List.isEmpty_iff]
  rw [State.dropHead, next]
  dsimp only
  by_cases sends : s.lbi.inTx = .listed e.origin
  · rw [if_pos (sending_iff.mpr sends), if_pos sends]
    exact dropped
  · rw [if_neg (by simp [State.sending, sends]), if_neg sends]
    exact dropped (x := s.lbi.inTx)

theorem tryServe_unjoined (off : s.mem.line ≠ .joined) : s.tryServe = s := by simp [State.tryServe, State.isJoined, off]

theorem mem_takenFailed (f : Frame) : (s.takenFailed f).mem = s.mem := by
  have judged : (s.dropEntries fun b => b.isClosing && decide (b.takenFrame = f)).judgeSlots.mem = s.mem := by
    rw [mem_judgeSlots, mem_dropEntries]
  unfold State.takenFailed
  dsimp only
  split
  · rw [mem_placement, judged]
  · exact judged

theorem line_toldWithdrawn : (s.toldWithdrawn e).mem.line = s.mem.line := by
  unfold State.toldWithdrawn
  split
  · rw [mem_claimWithdrawn]
  · split
    · rw [mem_takenFailed]
    · rfl
  · exact congrArg Membership.line (mem_pumpSlot _ s)
  · exact line_pumpUpkeep s
  all_goals rfl

theorem line_applyHeld : (s.applyHeld e).mem.line = s.mem.line := by
  unfold State.applyHeld
  split
  · rfl
  · exact line_toldWithdrawn
  · rfl

theorem line_loseArbitration : s.loseArbitration.mem.line = s.mem.line := by
  unfold State.loseArbitration
  split
  · rfl
  · unfold State.orphanFailed
    dsimp only
    split
    · rw [mem_takenFailed]
      rfl
    · rfl
  · dsimp only
    split
    · exact line_applyHeld
    · rfl

/-! ### Errors found while listen-only -/

theorem rejoin_offline (line : s.mem.line ≠ .joining) (c : Cause) : s.rejoin c = s := by
  simp [State.rejoin, State.collecting, line]

theorem takeListenOnlyError_silent (silent : s.voiding = true ∨ s.mem.line = .config) : s.takeListenOnlyError a = s := by
  rcases silent with voids | config
  · simp [State.takeListenOnlyError, voids]
  · simp [State.takeListenOnlyError, config]

theorem takeListenOnlyError_quiet (quiet : s.voiding = false) (up : s.mem.line ≠ .config) :
    s.takeListenOnlyError a = (if a = s.conf.address then s.loseArbitration else s).rejoin .rejoinError := by
  simp [State.takeListenOnlyError, quiet, up]

end

/-- Settles O39. -/
theorem stallsAndListenOnlyErrors : Obligations.StallsAndListenOnlyErrors := by
  refine ⟨⟨?_, ?_, ?_, ?_, ?_, ?_, ?_⟩, ?_⟩
  · intro s onLine runs some
    have drives : s.drives = true := by
      rcases isOnLine_iff.mp onLine with line | line <;> simp [State.drives, State.isActive, line]
    refine congrArg Outcome.next ((takeStall_runs drives runs some).trans ((if_pos onLine).trans ?_))
    exact tryServe_detached onLine
  · intro before after e s line runs list only first low slot upkeep
    have next : s.txNext = some e := by rw [State.txNext, list, nextOf_of_place first low]
    have drives : s.drives = true := by
      rcases line with line | line | line | line <;> simp [State.drives, State.isActive, line]
    have off : s.isOnLine = false := by
      rcases line with line | line | line | line <;> simp [State.isOnLine, line]
    refine congrArg Outcome.next ((takeStall_runs drives runs (by simp [list])).trans ?_)
    rw [off]
    exact dropHead_quiet list only next ⟨slot, upkeep⟩
  · intro s still
    exact congrArg Outcome.next (takeStall_still still)
  · intro a s line only other phase free
    have quiet : s.voiding = false := by simp [State.voiding, State.isJoined, line, only]
    refine congrArg Outcome.next ((takeListenOnlyError_quiet quiet (by simp [line])).trans ?_)
    rw [if_neg other]
    exact rejoin_free (collecting_waiting line phase) line free
  · intro a s other line
    refine congrArg Outcome.next ?_
    by_cases silent : s.voiding = true ∨ s.mem.line = .config
    · exact takeListenOnlyError_silent silent
    · obtain ⟨quiet, up⟩ := not_or.mp silent
      rw [takeListenOnlyError_quiet (Bool.eq_false_iff.mpr quiet) up, if_neg other, rejoin_offline line]
  · intro a s silent
    refine congrArg Outcome.next (takeListenOnlyError_silent ?_)
    rw [voiding_iff]
    tauto
  · intro s sends line
    have off : s.mem.line ≠ .joined ∧ s.mem.line ≠ .joining ∧ s.mem.line ≠ .config := by
      rcases line with line | line | ⟨_, line | line | line⟩ <;> simp [line]
    have quiet : s.voiding = false := by
      rw [Bool.eq_false_iff, ne_eq, voiding_iff]
      rcases line with line | line | ⟨only, line | line | line⟩ <;> simp [State.isActive, *]
    refine congrArg Outcome.next ((takeListenOnlyError_quiet quiet off.2.2).trans ?_)
    rw [if_pos rfl, beginTx_sending sends, rejoin_offline (by rw [line_loseArbitration]; exact off.2.1)]
    exact (tryServe_unjoined (by rw [line_loseArbitration]; exact off.1)).symm
  · intro o s slot upkeep t
    have dropped : t = (s.removeTx o).alarm fun a => { a with lineTxFault := true } := dropFrame_quiet ⟨slot, upkeep⟩
    clear_value t
    subst dropped
    refine ⟨rfl, rfl, ?_, rfl, rfl, rfl, rfl, rfl⟩
    simp only [State.alarm, State.removeTx, State.setTx, List.isEmpty_iff, ite_eq_left_iff]
    tauto

end Sys2Proof.Machine
end

section
/-! SUPPORT. What every appearance shares, whatever the kind of its frame (R80, R81, R83, R97). -/

namespace Sys2Proof.Machine
open Host

section
variable {s : State} {a : Addr} {k : BitVec 5} {kind : FrameKind} {dest : BitVec 5} {payload : List Byte}

theorem exec_appearance (code : frameKindOf k = some kind) : ∃ blocks : OwnTx → State → State,
    exec (appearance k a dest payload) s = .next (s.appear kind a dest payload blocks) := by
  cases kind <;> exact ⟨_, by rw [appearance, code]; rfl⟩

theorem exec_appearance_undefined (code : frameKindOf k = none) :
    exec (appearance k a dest payload) s = .next (s.appearUndefined a) := by rw [appearance, code]; rfl

theorem ownTx_foreign (other : a ≠ s.conf.address) (f : Frame) : s.ownTx a f = .foreign := if_pos other

theorem countAppeared_clean (other : kind ≠ .join ∨ a ≠ s.conf.address) : s.countAppeared kind a = s.countClean := by
  rw [State.countAppeared, if_neg (by tauto)]

theorem countAppeared_ownJoin : s.countAppeared .join s.conf.address = { s with lbi := { s.lbi with rxErrors := 0 } } :=
  if_pos ⟨rfl, rfl⟩

theorem appear_config (config : s.mem.line = .config) (blocks : OwnTx → State → State) :
    s.appear kind a dest payload blocks = s := by rw [State.appear, config]

theorem appear_dormant (dormant : s.mem.line = .dormant) (other : a ≠ s.conf.address) (blocks : OwnTx → State → State) :
    s.appear kind a dest payload blocks = s := by
  rw [State.appear, dormant, ownTx_foreign other]
  rfl

theorem appear_saving (saving : s.mem.line = .saving) (blocks : OwnTx → State → State) :
    s.appear kind a dest payload blocks =
      let own := s.ownTx a { kind := kind, dest := dest, payload := payload }
      ((s.countAppeared kind a).finishOwn own).takenSaved own := by
  rw [State.appear, saving]

theorem appear_active (active : s.isActive = true) (blocks : OwnTx → State → State) :
    s.appear kind a dest payload blocks =
      let own := s.ownTx a { kind := kind, dest := dest, payload := payload }
      let t := (((s.countAppeared kind a).finishOwn own).noteSender a).noteBar kind payload
      (if t.receives kind a dest then blocks own t else t).tryServe := by
  have lines : s.mem.line = .joining ∨ s.mem.line = .joined ∨ s.mem.line = .detached ∨ s.mem.line = .out
      ∨ s.mem.line = .mismatch := by
    unfold State.isActive at active
    cases line : s.mem.line <;> simp_all
  rcases lines with line | line | line | line | line <;> simp only [State.appear, line]

theorem noteBar_settled (line : s.mem.line ≠ .joining) : s.noteBar kind payload = s := by simp [State.noteBar, line]

/-- Another station's frame is noted before any block sees it. -/
theorem appear_foreign (active : s.isActive = true) (other : a ≠ s.conf.address) (line : s.mem.line ≠ .joining)
    (blocks : OwnTx → State → State) : s.appear kind a dest payload blocks =
      (if (s.heard a).receives kind a dest then blocks .foreign (s.heard a) else s.heard a).tryServe := by
  have noted : (s.countClean.noteSender a).mem.line ≠ .joining := by simp [line]
  rw [appear_active active, ownTx_foreign other, countAppeared_clean (.inr other)]
  dsimp only [State.finishOwn]
  rw [noteBar_settled noted]
  rfl

/-! ### The sender of a frame (R97, R98) -/

theorem noteSender_joined (joined : s.mem.line = .joined) (other : a ≠ s.conf.address) : s.noteSender a =
    (s.updPeer a fun p => { p with timer := p.timer.map fun _ => 0 }).withdrawTx (.departure a) := by
  simp [State.noteSender, State.isJoined, joined, other]

theorem noteSender_still (still : s.mem.line ≠ .joined ∨ a = s.conf.address) : s.noteSender a = s := by
  rcases still with line | own
  · simp [State.noteSender, State.isJoined, line]
  · simp [State.noteSender, own]

theorem joinQueue_noteSender : (s.noteSender a).mem.joinQueue = s.mem.joinQueue := by
  unfold State.noteSender
  split
  · rw [mem_withdrawTx]
    rfl
  · rfl

theorem conf_of_still {t : State} (same : t.still = s.still) : t.conf = s.conf := by rw [conf_eq t, same, ← conf_eq]

theorem conf_noteSender : (s.noteSender a).conf = s.conf := conf_of_still (still_noteSender a s)

theorem conf_noted (own : OwnTx) : (((s.finishOwn own).noteSender a).noteBar kind payload).conf = s.conf :=
  conf_of_still (by rw [still_noteBar, still_noteSender, still_finishOwn])

theorem heard_still (still : s.mem.line ≠ .joined ∨ a = s.conf.address) :
    s.heard a = { s with lbi := { s.lbi with rxErrors := s.lbi.rxErrors - 1 } } := noteSender_still still

/-! ### The station's own JOIN (R83) -/

theorem rxErrors_onJoin_own (own : a = s.conf.address) : (s.onJoin a payload).lbi.rxErrors = s.lbi.rxErrors := by
  have mine : s.isOwn a = true := decide_eq_true own
  unfold State.onJoin
  split
  · simp only [State.joinJoined, mine, if_true]
    split <;> exact rxErrors_takeReplicated _ _ _
  · rw [if_pos mine]
    split <;> rfl
  all_goals rfl

end

/-- Settles O40. -/
theorem appearancesShared : Obligations.AppearancesShared := by
  intro k a dest payload s c
  refine ⟨?_, ?_, ?_, ?_, ?_, ?_, ?_, ?_, ?_, ?_⟩
  · intro config
    cases code : frameKindOf k with
    | none =>
      refine (exec_appearance_undefined code).trans (congrArg Outcome.next ?_)
      simp [State.appearUndefined, State.isActive, config]
    | some kind =>
      obtain ⟨blocks, runs⟩ := exec_appearance (a := a) (dest := dest) (payload := payload) (s := s) code
      exact runs.trans (congrArg Outcome.next (appear_config config blocks))
  · intro saving other
    cases code : frameKindOf k with
    | none =>
      refine (exec_appearance_undefined code).trans (congrArg Outcome.next ?_)
      simp [State.appearUndefined, State.isActive, saving, State.countClean]
    | some kind =>
      obtain ⟨blocks, runs⟩ := exec_appearance (a := a) (dest := dest) (payload := payload) (s := s) code
      refine runs.trans (congrArg Outcome.next ?_)
      rw [appear_saving saving, ownTx_foreign other, countAppeared_clean (.inr other)]
      rfl
  · intro dormant other
    cases code : frameKindOf k with
    | none =>
      refine (exec_appearance_undefined code).trans (congrArg Outcome.next ?_)
      simp [State.appearUndefined, State.isActive, dormant]
    | some kind =>
      obtain ⟨blocks, runs⟩ := exec_appearance (a := a) (dest := dest) (payload := payload) (s := s) code
      exact runs.trans (congrArg Outcome.next (appear_dormant dormant other blocks))
  · intro active code
    refine (exec_appearance_undefined code).trans (congrArg Outcome.next (if_pos active))
  · intro active other notOwn notAll empty kind code plain line
    obtain ⟨blocks, runs⟩ := exec_appearance (a := a) (dest := dest) (payload := payload) (s := s) code
    refine runs.trans (congrArg Outcome.next ?_)
    have filtered : (s.heard a).receives kind a dest = false := by
      have same : (s.heard a).conf = s.conf := by simp only [State.heard, conf_noteSender, conf_countClean]
      have away : dest ≠ destOf s.conf.address := notOwn
      have notAll' : dest ≠ destAll := notAll
      simp [State.receives, same, other, plain, away, notAll']
    rw [appear_foreign active other line, filtered]
    exact tryServe_idle (joinQueue_noteSender.trans empty)
  · exact rxErrors_noteSender a s.countClean
  · exact heard_still
  · intro joined other
    have noted : s.heard a = _ := noteSender_joined (s := s.countClean) joined other
    rw [noted]
    refine ⟨?_, fun free => ?_⟩
    · rw [State.peer, mem_withdrawTx, ← State.peer, peer_updPeer_same]
      rfl
    · have silent : (s.countClean.updPeer a fun p => { p with timer := p.timer.map fun _ => 0 }).sending (.departure a) = false :=
        sending_false free
      rw [State.withdrawTx, silent]
      rfl
  · intro line
    rcases line with active | saving
    · refine ⟨_, congrArg Outcome.next (appear_active active _), ?_⟩
      dsimp only
      rw [rxErrors_tryServe, countAppeared_ownJoin]
      split
      · rw [rxErrors_onJoin_own, rxErrors_noteBar, rxErrors_noteSender, rxErrors_finishOwn]
        rw [conf_noted]
      · rw [rxErrors_noteBar, rxErrors_noteSender, rxErrors_finishOwn]
    · refine ⟨_, congrArg Outcome.next (appear_saving saving _), ?_⟩
      dsimp only
      rw [rxErrors_takenSaved, rxErrors_finishOwn, countAppeared_ownJoin]
  · intro saving other
    cases code : frameKindOf k with
    | none =>
      refine ⟨_, exec_appearance_undefined code, ?_⟩
      simp [State.appearUndefined, State.isActive, saving, State.countClean]
    | some kind =>
      obtain ⟨blocks, runs⟩ := exec_appearance (a := s.conf.address) (dest := dest) (payload := payload) (s := s) code
      refine ⟨_, runs.trans (congrArg Outcome.next (appear_saving saving blocks)), ?_⟩
      have plain : kind ≠ .join := fun same => other (code.trans (congrArg some same))
      dsimp only
      rw [rxErrors_takenSaved, rxErrors_finishOwn, countAppeared_clean (.inl plain)]
      rfl

end Sys2Proof.Machine
end

section
/-! SUPPORT. What CLAIM and CAPACITY frames make of the budget table, and what the grant scan does with the entries (R120
to R127). -/

namespace Sys2Proof.Machine
open Host

/-! ### CLAIM and CAPACITY (R122, R124) -/

section
variable {t : BudgetTable} {a : Addr} {p : PosIx} {d0 d1 d2 : Byte} {s : State}

theorem claimPayload_bytes (p : PosIx) (d0 d1 d2 : Byte) : claimPayload [byte p.val, d0, d1, d2] =
    if d0 = 0 ∧ d1 = 0 ∧ d2 = 0 then none else some (p, #v[d0.toNat, d1.toNat, d2.toNat]) := by
  simp only [claimPayload, finOf_pos, triple]

theorem applyFrame_claim (t : BudgetTable) (a : Addr) (payload : List Byte) :
    applyFrame t { kind := .claim, sender := a, payload := payload } =
      applyClaim { t with seqNo := t.seqNo + 1 } a payload := rfl

theorem applyFrame_capacity (t : BudgetTable) (a : Addr) (payload : List Byte) :
    applyFrame t { kind := .capacity, sender := a, payload := payload } =
      applyCapacity { t with seqNo := t.seqNo + 1 } payload := rfl

theorem applyClaim_zero (zero : d0 = 0 ∧ d1 = 0 ∧ d2 = 0) : applyClaim t a [byte p.val, d0, d1, d2] = .still t .ignored := by
  rw [applyClaim, claimPayload_bytes, if_pos zero]

theorem applyClaim_standing {e : ClaimEntry} (real : ¬(d0 = 0 ∧ d1 = 0 ∧ d2 = 0))
    (stands : t.entries.find? (·.isFor a p) = some e) :
    applyClaim t a [byte p.val, d0, d1, d2] = .still t (.duplicate e.status) := by
  rw [applyClaim, claimPayload_bytes, if_neg real]
  simp only [stands]

theorem applyClaim_oversize {b : BudgetIx} (real : ¬(d0 = 0 ∧ d1 = 0 ∧ d2 = 0))
    (absent : t.entries.find? (·.isFor a p) = none)
    (above : oversizeBudget t.capacities #v[d0.toNat, d1.toNat, d2.toNat] = some b) :
    applyClaim t a [byte p.val, d0, d1, d2] = .still t (.oversize b) := by
  rw [applyClaim, claimPayload_bytes, if_neg real]
  simp only [absent, above]

theorem applyClaim_appended (real : ¬(d0 = 0 ∧ d1 = 0 ∧ d2 = 0)) (absent : t.entries.find? (·.isFor a p) = none)
    (fits : oversizeBudget t.capacities #v[d0.toNat, d1.toNat, d2.toNat] = none) :
    applyClaim t a [byte p.val, d0, d1, d2] = .scanned { t with entries := t.entries ++
      [{ station := a, position := p, draws := #v[d0.toNat, d1.toNat, d2.toNat], status := .waiting, order := t.seqNo }] }
      .appended [] := by
  rw [applyClaim, claimPayload_bytes, if_neg real]
  simp only [absent, fits]

theorem oversizeBudget_eq_none {caps draws : Triple} : oversizeBudget caps draws = none ↔ ∀ b : BudgetIx, draws[b] ≤ caps[b] := by
  simp only [oversizeBudget, List.find?_eq_none, decide_eq_true_eq, Nat.not_lt]
  exact ⟨fun fits b => fits b (List.mem_finRange b), fun fits b _ => fits b⟩

theorem find_isFor_eq_none {l : List ClaimEntry} : l.find? (·.isFor a p) = none ↔ ∀ e ∈ l, ¬(e.station = a ∧ e.position = p) := by
  simp only [List.find?_eq_none, ClaimEntry.isFor_iff]

theorem capacityPayload_bytes (b : BudgetIx) (units : BitVec 16) (small : units.toNat ≤ 1023) :
    capacityPayload (byte b.val :: bytes16 units) = some (b, units.toNat) := by
  simp only [bytes16, capacityPayload, finOf_budget, word16_bytes16, small, if_true]

end

/-- Settles O42. -/
theorem claimsAndCapacitiesApplied : Obligations.ClaimsAndCapacitiesApplied := by
  refine ⟨?_, ?_⟩
  · intro a dest p d0 d1 d2 s joined draws stands oversize
    have table := bud_appear_onReplicated (k := .claim) rfl joined a dest [byte p.val, d0, d1, d2]
    rw [applyFrame_claim] at table
    refine ⟨_, rfl, fun still => table.trans ?_, fun absent fits real => table.trans ?_⟩
    · by_cases zero : d0 = 0 ∧ d1 = 0 ∧ d2 = 0
      · rw [applyClaim_zero zero]
        rfl
      · cases found : s.bud.entries.find? (·.isFor a p) with
        | some e =>
          have applied := applyClaim_standing (t := { s.bud with seqNo := s.bud.seqNo + 1 }) zero found
          rw [applied]
          rfl
        | none =>
          have absent := find_isFor_eq_none.mp found
          cases above : oversizeBudget s.bud.capacities #v[d0.toNat, d1.toNat, d2.toNat] with
          | some b =>
            have applied := applyClaim_oversize (t := { s.bud with seqNo := s.bud.seqNo + 1 }) zero found above
            rw [applied]
            rfl
          | none =>
            have fits := oversizeBudget_eq_none.mp above
            rcases still with ⟨e, m, standing⟩ | ⟨b, big⟩ | zero'
            · exact absurd standing (absent e m)
            · exact absurd big (Nat.not_lt.mpr (fits b))
            · exact absurd zero' zero
    · have found : s.bud.entries.find? (·.isFor a p) = none :=
        find_isFor_eq_none.mpr fun e m standing => absent ⟨e, m, standing⟩
      have inside : oversizeBudget s.bud.capacities #v[d0.toNat, d1.toNat, d2.toNat] = none :=
        oversizeBudget_eq_none.mpr fun b => Nat.not_lt.mp fun big => fits ⟨b, big⟩
      have applied := applyClaim_appended (t := { s.bud with seqNo := s.bud.seqNo + 1 }) real found inside
      rw [applied]
      rfl
  · intro a dest b units s joined small
    have table := bud_appear_onReplicated (k := .capacity) rfl joined a dest (byte b.val :: bytes16 units)
    rw [applyFrame_capacity] at table
    refine ⟨_, rfl, table.trans ?_⟩
    have keeps : (fun e : ClaimEntry => !(decide (e.status = .waiting) && decide (units.toNat < e.draws[b]))) =
        fun e => decide ¬(e.status = .waiting ∧ units.toNat < e.draws[b]) := by
      funext e
      rw [← Bool.decide_and, decide_not]
    simp only [applyCapacity, capacityPayload_bytes b units small, table_scanned, keeps]

/-! ### The grant scan (R126, R127) -/

section
variable {caps : Triple} {sums : BudgetIx → Nat} {blocked : BudgetIx → Bool} {e : ClaimEntry} {rest l : List ClaimEntry}

/-- A WAITING entry that the scan passes over: a budget it draws from is blocked, or its draw does not fit. -/
def ClaimEntry.Stuck (e : ClaimEntry) (caps : Triple) (sums : BudgetIx → Nat) (blocked : BudgetIx → Bool) : Prop :=
  ∃ b : BudgetIx, 0 < e.draws[b] ∧ (blocked b = true ∨ caps[b] < sums b + e.draws[b])

/-- The budgets blocked after a WAITING entry has been passed over. -/
def ClaimEntry.blocks (e : ClaimEntry) (blocked : BudgetIx → Bool) (b : BudgetIx) : Bool := blocked b || e.drawsFrom b

/-- The granted sums after an entry has been granted. -/
def ClaimEntry.adds (e : ClaimEntry) (sums : BudgetIx → Nat) (b : BudgetIx) : Nat := sums b + e.draws[b]

theorem drawsFrom_iff {b : BudgetIx} : e.drawsFrom b = true ↔ 0 < e.draws[b] := decide_eq_true_iff

/-- One step of the walk, by what it does with the entry. -/
theorem scanFrom_cons (caps : Triple) (sums : BudgetIx → Nat) (blocked : BudgetIx → Bool) (e : ClaimEntry) (rest : List ClaimEntry) :
    (e.status = .granted ∧ scanFrom caps sums blocked (e :: rest) =
      (e :: (scanFrom caps sums blocked rest).1, (scanFrom caps sums blocked rest).2))
    ∨ (e.status = .waiting ∧ e.Stuck caps sums blocked ∧ scanFrom caps sums blocked (e :: rest) =
      (e :: (scanFrom caps sums (e.blocks blocked) rest).1, (scanFrom caps sums (e.blocks blocked) rest).2))
    ∨ (e.status = .waiting ∧ ¬e.Stuck caps sums blocked ∧ scanFrom caps sums blocked (e :: rest) =
      ({ e with status := .granted } :: (scanFrom caps (e.adds sums) blocked rest).1,
        { e with status := .granted } :: (scanFrom caps (e.adds sums) blocked rest).2)) := by
  cases status : e.status with
  | granted =>
    refine .inl ⟨rfl, ?_⟩
    rw [scanFrom, if_pos status]
  | waiting =>
    have waits : ¬e.status = .granted := by simp [status]
    refine .inr ?_
    by_cases shut : budgets.any (fun b => e.drawsFrom b && blocked b) = true
    · refine .inl ⟨rfl, ?_, ?_⟩
      · obtain ⟨b, _, both⟩ := List.any_eq_true.mp shut
        obtain ⟨draws, closed⟩ := Bool.and_eq_true_iff.mp both
        exact ⟨b, of_decide_eq_true draws, .inl closed⟩
      · rw [scanFrom, if_neg waits, if_pos shut]
        rfl
    · by_cases fits : budgets.all (fun b => !e.drawsFrom b || decide (sums b + e.draws[b] ≤ caps[b])) = true
      · refine .inr ⟨rfl, ?_, ?_⟩
        · rintro ⟨b, draws, closed | above⟩
          · exact shut (List.any_eq_true.mpr ⟨b, List.mem_finRange b, Bool.and_eq_true_iff.mpr ⟨drawsFrom_iff.mpr draws, closed⟩⟩)
          · have inside := List.all_eq_true.mp fits b (List.mem_finRange b)
            simp only [drawsFrom_iff.mpr draws, Bool.not_true, Bool.false_or, decide_eq_true_eq] at inside
            exact Nat.not_lt.mpr inside above
        · rw [scanFrom, if_neg waits, if_neg shut, if_pos fits]
          rfl
      · refine .inl ⟨rfl, ?_, ?_⟩
        · obtain ⟨b, _, out⟩ : ∃ b ∈ budgets, ¬(!e.drawsFrom b || decide (sums b + e.draws[b] ≤ caps[b])) = true := by
            simpa only [List.all_eq_true, not_forall, exists_prop] using fits
          simp only [Bool.or_eq_true, Bool.not_eq_true', decide_eq_true_eq, not_or, Bool.not_eq_false, drawsFrom_iff,
            Nat.not_le] at out
          exact ⟨b, out.1, .inr out.2⟩
        · rw [scanFrom, if_neg waits, if_neg shut, if_neg fits]
          rfl

/-- The walk changes statuses alone. -/
theorem scanFrom_erased (caps : Triple) (l : List ClaimEntry) (sums : BudgetIx → Nat) (blocked : BudgetIx → Bool) :
    (scanFrom caps sums blocked l).1.map (fun e => { e with status := .waiting })
      = l.map fun e => { e with status := .waiting } := by
  induction l generalizing sums blocked with
  | nil => rfl
  | cons e rest ih =>
    obtain ⟨_, walk⟩ | ⟨_, _, walk⟩ | ⟨_, _, walk⟩ := scanFrom_cons caps sums blocked e rest <;>
      rw [walk, List.map_cons, List.map_cons, ih]

/-- A GRANTED entry stays so. -/
theorem scanFrom_granted (caps : Triple) (l : List ClaimEntry) (sums : BudgetIx → Nat) (blocked : BudgetIx → Bool) (i : Nat)
    (e : ClaimEntry) (here : l[i]? = some e) (granted : e.status = .granted) :
    (scanFrom caps sums blocked l).1[i]? = some e := by
  induction l generalizing sums blocked i with
  | nil => cases here
  | cons x rest ih =>
    cases i with
    | zero =>
      obtain rfl : x = e := Option.some.inj here
      obtain ⟨_, walk⟩ | ⟨waits, _⟩ | ⟨waits, _⟩ := scanFrom_cons caps sums blocked x rest
      · rw [walk]
        rfl
      · rw [granted] at waits; cases waits
      · rw [granted] at waits; cases waits
    | succ i =>
      obtain ⟨_, walk⟩ | ⟨_, _, walk⟩ | ⟨_, _, walk⟩ := scanFrom_cons caps sums blocked x rest <;>
        rw [walk] <;> exact ih _ _ i here

/-- The entries granted, in the order of the list. -/
theorem scanFrom_changed (caps : Triple) (l : List ClaimEntry) (sums : BudgetIx → Nat) (blocked : BudgetIx → Bool) :
    (scanFrom caps sums blocked l).2
      = ((l.zip (scanFrom caps sums blocked l).1).filter fun x => x.1.status ≠ x.2.status).map (·.2) := by
  induction l generalizing sums blocked with
  | nil => rfl
  | cons e rest ih =>
    obtain ⟨status, walk⟩ | ⟨status, _, walk⟩ | ⟨status, _, walk⟩ := scanFrom_cons caps sums blocked e rest
    · rw [walk, List.zip_cons_cons, List.filter_cons_of_neg (by simp), ← ih]
    · rw [walk, List.zip_cons_cons, List.filter_cons_of_neg (by simp), ← ih]
    · rw [walk, List.zip_cons_cons, List.filter_cons_of_pos (by simp [status]), List.map_cons, ← ih]

/-- An entry that the walk grants draws from no budget that was blocked. -/
theorem scanFrom_unblocked (caps : Triple) (l : List ClaimEntry) (sums : BudgetIx → Nat) (blocked : BudgetIx → Bool) (j : Nat)
    (was new : ClaimEntry) (before : l[j]? = some was) (after : (scanFrom caps sums blocked l).1[j]? = some new)
    (waits : was.status = .waiting) (granted : new.status = .granted) (b : BudgetIx) (draws : new.drawsFrom b = true) :
    blocked b = false := by
  induction l generalizing sums blocked j with
  | nil => cases before
  | cons x rest ih =>
    obtain ⟨status, walk⟩ | ⟨status, _, walk⟩ | ⟨status, free, walk⟩ := scanFrom_cons caps sums blocked x rest <;>
      rw [walk] at after <;> cases j
    case inl.zero =>
      obtain rfl : x = was := Option.some.inj before
      rw [waits] at status; cases status
    case inl.succ j => exact ih _ _ j before after
    case inr.inl.zero =>
      obtain rfl : x = new := Option.some.inj after
      rw [granted] at status; cases status
    case inr.inl.succ j => exact (Bool.or_eq_false_iff.mp (ih _ _ j before after)).1
    case inr.inr.zero =>
      obtain rfl : _ = new := Option.some.inj after
      exact Bool.eq_false_iff.mpr fun shut => free ⟨b, drawsFrom_iff.mp draws, .inl shut⟩
    case inr.inr.succ j => exact ih _ _ j before after

theorem scanFrom_noneOvertaken (caps : Triple) (l : List ClaimEntry) (sums : BudgetIx → Nat) (blocked : BudgetIx → Bool) :
    NoneOvertaken l (scanFrom caps sums blocked l).1 := by
  induction l generalizing sums blocked with
  | nil => exact fun i j old new was _ _ _ before => nomatch before
  | cons x rest ih =>
    intro i j old new was first older newer before waits granted still b both
    obtain ⟨j, rfl⟩ := Nat.exists_eq_succ_of_ne_zero (Nat.ne_zero_of_lt first)
    obtain ⟨status, walk⟩ | ⟨status, _, walk⟩ | ⟨status, free, walk⟩ := scanFrom_cons caps sums blocked x rest <;>
      rw [walk] at older newer <;> cases i
    case inl.zero =>
      obtain rfl : x = old := Option.some.inj older
      rw [still] at status; cases status
    case inl.succ i => exact ih _ _ i j old new was (Nat.lt_of_succ_lt_succ first) older newer before waits granted still b both
    case inr.inl.zero =>
      obtain rfl : x = old := Option.some.inj older
      have open_ := scanFrom_unblocked _ _ _ _ j was new before newer waits granted b both.2
      exact absurd both.1 (Bool.eq_false_iff.mp (Bool.or_eq_false_iff.mp open_).2)
    case inr.inl.succ i => exact ih _ _ i j old new was (Nat.lt_of_succ_lt_succ first) older newer before waits granted still b both
    case inr.inr.zero =>
      obtain rfl : _ = old := Option.some.inj older
      cases still
    case inr.inr.succ i => exact ih _ _ i j old new was (Nat.lt_of_succ_lt_succ first) older newer before waits granted still b both

theorem grantedSum_cons (e : ClaimEntry) (l : List ClaimEntry) (b : BudgetIx) : grantedSum (e :: l) b =
    (if e.status = .granted then e.draws[b] else 0) + grantedSum l b := by
  rw [grantedSum, List.map_cons, List.sum_cons, ← grantedSum]

theorem grantedSum_waiting (waits : e.status = .waiting) (l : List ClaimEntry) (b : BudgetIx) :
    grantedSum (e :: l) b = grantedSum l b := by
  rw [grantedSum_cons, if_neg (by simp [waits]), Nat.zero_add]

theorem grantedSum_granted (e : ClaimEntry) (l : List ClaimEntry) (b : BudgetIx) :
    grantedSum ({ e with status := .granted } :: l) b = e.draws[b] + grantedSum l b := by
  rw [grantedSum_cons, if_pos rfl]

/-- The walk lowers no granted sum. -/
theorem scanFrom_grows (caps : Triple) (l : List ClaimEntry) (sums : BudgetIx → Nat) (blocked : BudgetIx → Bool) (b : BudgetIx) :
    grantedSum l b ≤ grantedSum (scanFrom caps sums blocked l).1 b := by
  induction l generalizing sums blocked with
  | nil => exact Nat.le_refl _
  | cons e rest ih =>
    obtain ⟨status, walk⟩ | ⟨status, _, walk⟩ | ⟨status, _, walk⟩ := scanFrom_cons caps sums blocked e rest <;> rw [walk]
    · rw [grantedSum_cons, grantedSum_cons]
      exact Nat.add_le_add_left (ih _ _) _
    · rw [grantedSum_cons, grantedSum_cons]
      exact Nat.add_le_add_left (ih _ _) _
    · rw [grantedSum_waiting status, grantedSum_granted]
      exact Nat.le_add_left_of_le (ih _ _)

/-- The walk keeps a sum that is within its capacity within it. -/
theorem scanFrom_within (caps : Triple) (l : List ClaimEntry) (sums : BudgetIx → Nat) (blocked : BudgetIx → Bool) (b : BudgetIx)
    (within : sums b ≤ caps[b]) :
    sums b + grantedSum (scanFrom caps sums blocked l).1 b ≤ caps[b] + grantedSum l b := by
  induction l generalizing sums blocked with
  | nil => exact Nat.add_le_add_right within _
  | cons e rest ih =>
    obtain ⟨status, walk⟩ | ⟨status, _, walk⟩ | ⟨status, free, walk⟩ := scanFrom_cons caps sums blocked e rest <;>
      rw [walk]
    · have later := ih sums blocked within
      rw [grantedSum_cons, grantedSum_cons]
      omega
    · rw [grantedSum_cons, grantedSum_cons]
      have later := ih sums (e.blocks blocked) within
      omega
    · have fits : e.adds sums b ≤ caps[b] := by
        by_cases draws : 0 < e.draws[b]
        · exact Nat.not_lt.mp fun above => free ⟨b, draws, .inr above⟩
        · rw [ClaimEntry.adds, Nat.eq_zero_of_not_pos draws]
          exact within
      have later := ih (e.adds sums) blocked fits
      rw [grantedSum_waiting status, grantedSum_granted]
      simp only [ClaimEntry.adds] at later
      omega

/-- An entry left waiting is stuck on a blocked budget, on an older waiting entry, or on a capacity. -/
theorem scanFrom_stuck (caps : Triple) (l : List ClaimEntry) (sums : BudgetIx → Nat) (blocked : BudgetIx → Bool) (i : Nat)
    (e : ClaimEntry) (here : (scanFrom caps sums blocked l).1[i]? = some e) (waits : e.status = .waiting) :
    ∃ b : BudgetIx, 0 < e.draws[b] ∧ (blocked b = true
      ∨ (∃ (j : Nat) (f : ClaimEntry), j < i ∧ (scanFrom caps sums blocked l).1[j]? = some f ∧ f.status = .waiting
        ∧ 0 < f.draws[b])
      ∨ caps[b] + grantedSum l b < sums b + grantedSum (scanFrom caps sums blocked l).1 b + e.draws[b]) := by
  induction l generalizing sums blocked i with
  | nil => cases here
  | cons x rest ih =>
    obtain ⟨status, walk⟩ | ⟨status, stuck, walk⟩ | ⟨status, free, walk⟩ := scanFrom_cons caps sums blocked x rest <;>
      rw [walk] at here ⊢ <;> cases i
    case inl.zero =>
      obtain rfl : x = e := Option.some.inj here
      rw [waits] at status; cases status
    case inl.succ i =>
      obtain ⟨b, draws, shut | ⟨j, f, first, older, still, shares⟩ | above⟩ := ih _ _ i here
      · exact ⟨b, draws, .inl shut⟩
      · exact ⟨b, draws, .inr (.inl ⟨j + 1, f, Nat.succ_lt_succ first, older, still, shares⟩)⟩
      · refine ⟨b, draws, .inr (.inr ?_)⟩
        rw [grantedSum_cons, grantedSum_cons]
        omega
    case inr.inl.zero =>
      obtain rfl : x = e := Option.some.inj here
      obtain ⟨b, draws, shut | above⟩ := stuck
      · exact ⟨b, draws, .inl shut⟩
      · refine ⟨b, draws, .inr (.inr ?_)⟩
        have grows := scanFrom_grows caps rest sums (x.blocks blocked) b
        rw [grantedSum_cons, grantedSum_cons]
        omega
    case inr.inl.succ i =>
      obtain ⟨b, draws, shut | ⟨j, f, first, older, still, shares⟩ | above⟩ := ih _ _ i here
      · rcases Bool.or_eq_true_iff.mp shut with shut | shares
        · exact ⟨b, draws, .inl shut⟩
        · exact ⟨b, draws, .inr (.inl ⟨0, x, Nat.succ_pos i, rfl, status, drawsFrom_iff.mp shares⟩)⟩
      · exact ⟨b, draws, .inr (.inl ⟨j + 1, f, Nat.succ_lt_succ first, older, still, shares⟩)⟩
      · refine ⟨b, draws, .inr (.inr ?_)⟩
        rw [grantedSum_cons, grantedSum_cons]
        omega
    case inr.inr.zero =>
      obtain rfl : _ = e := Option.some.inj here
      cases waits
    case inr.inr.succ i =>
      obtain ⟨b, draws, shut | ⟨j, f, first, older, still, shares⟩ | above⟩ := ih _ _ i here
      · exact ⟨b, draws, .inl shut⟩
      · exact ⟨b, draws, .inr (.inl ⟨j + 1, f, Nat.succ_lt_succ first, older, still, shares⟩)⟩
      · refine ⟨b, draws, .inr (.inr ?_)⟩
        rw [grantedSum_waiting status, grantedSum_granted]
        simp only [ClaimEntry.adds] at above
        omega

end

/-- Settles O43. -/
theorem grantScanFair : Obligations.GrantScanFair := by
  intro caps l after
  refine ⟨scanFrom_erased caps l _ _, scanFrom_granted caps l _ _, scanFrom_noneOvertaken caps l _ _, fun b within => ?_,
    scanFrom_changed caps l _ _, fun i e here waits => ?_⟩
  · have kept := scanFrom_within caps l (grantedSum l) (fun _ => false) b within
    exact Nat.le_of_add_le_add_left (Nat.add_comm (caps[b]) _ ▸ kept)
  · obtain ⟨b, draws, shut | older | above⟩ := scanFrom_stuck caps l _ _ i e here waits
    · cases shut
    · exact ⟨b, draws, .inl older⟩
    · refine ⟨b, draws, .inr ?_⟩
      rw [Nat.add_comm (grantedSum l b), Nat.add_right_comm] at above
      exact Nat.lt_of_add_lt_add_right above

end Sys2Proof.Machine
end

section
/-! SUPPORT. The budget table of a JOINED station is a function of the table it had and the frame that appears (R121). -/

namespace Sys2Proof.Machine
open Host

section
variable {s : State} {a : Addr} {kind : FrameKind} {dest : BitVec 5} {payload : List Byte}

theorem bud_dropEntries (cond : Booking → Bool) : (s.dropEntries cond).bud = s.bud := by
  unfold State.dropEntries
  dsimp only
  rw [bud_foldl _ fun t h => bud_freeSlot h t, bud_foldl _ fun t (b : Booking) => bud_vacate b.position .empty t]

theorem bud_departHandoff : (s.departHandoff a).bud = s.bud := by
  unfold State.departHandoff
  dsimp only
  rw [bud_withdrawAnswers, bud_dropEntries, bud_foldl _ fun t h => bud_departRecord a t h]

theorem bud_dropPeerWork (f : BufferedFrame) : (s.dropPeerWork a f).bud = (applyFrame s.bud f).table := by
  rw [State.dropPeerWork, bud_placement, bud_judgeSlots, bud_departHandoff, bud_takeReplicated]

/-- A frame of another station at a JOINED station, given what the blocks make of the table. -/
theorem bud_appear_foreign {blocks : OwnTx → State → State} (joined : s.mem.line = .joined) (other : a ≠ s.conf.address)
    (step : ∀ t : State, t.mem.line = .joined → t.conf = s.conf → t.bud = s.bud →
      (blocks .foreign t).bud = (applyFrame s.bud { kind := kind, sender := a, payload := payload }).table)
    (replicated : kindReplicated kind = false →
      (applyFrame s.bud { kind := kind, sender := a, payload := payload }).table = s.bud) :
    (s.appear kind a dest payload blocks).bud
      = (applyFrame s.bud { kind := kind, sender := a, payload := payload }).table := by
  have heard : (s.heard a).bud = s.bud := by simp [State.heard]
  have line : (s.heard a).mem.line = .joined := by simp [State.heard, joined]
  have conf : (s.heard a).conf = s.conf := by rw [State.heard, conf_noteSender, conf_countClean]
  rw [appear_foreign (isActive_of_joined joined) other (by simp [joined]), bud_tryServe]
  split
  · exact step _ line conf heard
  · next unheard =>
    have plain : kindReplicated kind = false := by
      rw [Bool.eq_false_iff]
      exact fun passes => unheard (receives_of_replicated passes _ a dest)
    rw [heard, replicated plain]

theorem isOwn_foreign (other : a ≠ s.conf.address) : s.isOwn a = false := decide_eq_false other

theorem bud_onReject_foreign (other : a ≠ s.conf.address) : (s.onReject a dest payload).bud = s.bud := by
  unfold State.onReject
  split
  · rfl
  · next t reason _ =>
    rw [isOwn_foreign other]
    simp only [Bool.false_eq_true, if_false]
    split
    · exact bud_rejected _ _ _ s
    · rfl

theorem bud_onCancel : (s.onCancel a dest payload).bud = s.bud := by
  have entry (t : Tag) : (s.cancelEntry a t).bud = s.bud := by
    unfold State.cancelEntry
    split
    · rfl
    · split
      · rfl
      · dsimp only
        rw [bud_placement, bud_judgeSlots, bud_dropEntries]
        split
        · exact bud_withdrawAnswers _ s
        · rfl
  unfold State.onCancel
  split
  · split
    · rw [bud_cancelBooking, entry]
    · rfl
  · rfl

theorem bud_onSnapPart_joined (joined : s.mem.line = .joined) (own : OwnTx) : (s.onSnapPart own payload).bud = s.bud := by
  have pumped : ∀ u : State, u = (if own.isUpkeep && s.isJoined then s.snapAppeared else s) → u.bud = s.bud ∧ u.mem.line = .joined := by
    rintro u rfl
    split
    · exact ⟨bud_snapAppeared s, (line_snapAppeared s).trans joined⟩
    · exact ⟨rfl, joined⟩
  obtain ⟨bud, line⟩ := pumped _ rfl
  unfold State.onSnapPart
  generalize (if own.isUpkeep && s.isJoined then s.snapAppeared else s) = u at *
  dsimp only
  split
  · split
    · simp only [State.takeSnapPart, line]
      exact bud
    · exact bud
  · exact bud

theorem bud_onJoin_foreign (joined : s.mem.line = .joined) (other : a ≠ s.conf.address) :
    (s.onJoin a payload).bud = (applyFrame s.bud { kind := .join, sender := a, payload := payload }).table := by
  have foreign := isOwn_foreign other
  simp only [State.onJoin, joined, State.joinJoined]
  cases joinPayload payload with
  | none => exact bud_takeReplicated _ _ s
  | some role =>
    simp only [foreign, Bool.false_eq_true, if_false]
    rw [bud_judgeProvider, bud_dropPeerWork, bud_peerJoins]

theorem bud_onLeave_foreign (joined : s.mem.line = .joined) (other : a ≠ s.conf.address) :
    (s.onLeave a payload).bud = (applyFrame s.bud { kind := .leave, sender := a, payload := payload }).table := by
  have foreign := isOwn_foreign other
  simp only [State.onLeave, joined, foreign, Bool.false_eq_true, if_false]
  split
  · exact bud_takeReplicated _ _ s
  · rw [bud_dropPeerWork, bud_leaveQueue, bud_peerGone]

theorem departPayload_eq_some {gone : Addr} (named : departPayload payload = some gone) : payload = [byte gone.val] := by
  unfold departPayload at named
  split at named
  · next b =>
    unfold finOf at named
    split at named
    · obtain rfl := Option.some.inj named
      rw [byte, BitVec.ofNat_toNat, BitVec.setWidth_eq]
    · cases named
  · cases named

theorem bud_onDepart_foreign (joined : s.mem.line = .joined) (other : a ≠ s.conf.address)
    (stays : payload ≠ [byte s.conf.address.val]) :
    (s.onDepart a payload).bud = (applyFrame s.bud { kind := .depart, sender := a, payload := payload }).table := by
  have foreign := isOwn_foreign other
  simp only [State.onDepart, joined, State.departJoined]
  cases named : departPayload payload with
  | none => exact bud_takeReplicated _ _ s
  | some gone =>
    have away : gone ≠ s.conf.address := fun same => stays ((departPayload_eq_some named).trans (by rw [same]))
    simp only [foreign, away, Bool.false_eq_true, if_false]
    rw [bud_dropPeerWork, bud_leaveQueue, bud_peerGone, bud_withdrawTx]

/-- The table after a frame of another station's. -/
theorem bud_exec_foreign {t : State} (joined : s.mem.line = .joined) (other : a ≠ s.conf.address)
    (stays : kind = .depart → payload ≠ [byte s.conf.address.val])
    (runs : exec (appearance (kindCode kind) a dest payload) s = .next t) :
    t.bud = (applyFrame s.bud { kind := kind, sender := a, payload := payload }).table := by
  cases kind <;> obtain rfl := Outcome.next.inj runs.symm
  case depart =>
    exact bud_appear_foreign joined other (fun u line conf bud => bud ▸ bud_onDepart_foreign line (conf ▸ other) (conf ▸ stays rfl))
      (fun plain => nomatch plain)
  case leave =>
    exact bud_appear_foreign joined other (fun u line conf bud => bud ▸ bud_onLeave_foreign line (conf ▸ other))
      (fun plain => nomatch plain)
  case join =>
    exact bud_appear_foreign joined other (fun u line conf bud => bud ▸ bud_onJoin_foreign line (conf ▸ other))
      (fun plain => nomatch plain)
  case release => exact bud_appear_onReplicated rfl joined a dest payload
  case capacity => exact bud_appear_onReplicated rfl joined a dest payload
  case claim => exact bud_appear_onReplicated rfl joined a dest payload
  case taken => exact bud_appear_foreign joined other (fun u _ _ bud => (bud_onTaken _ _ _ u).trans bud) fun _ => rfl
  case reject =>
    exact bud_appear_foreign joined other (fun u _ conf bud => (bud_onReject_foreign (conf ▸ other)).trans bud) fun _ => rfl
  case booked => exact bud_appear_foreign joined other (fun u _ _ bud => (bud_onBooked _ _ _ _ u).trans bud) fun _ => rfl
  case refused => exact bud_appear_foreign joined other (fun u _ _ bud => (bud_onRefused _ _ _ u).trans bud) fun _ => rfl
  case found => exact bud_appear_foreign joined other (fun u _ _ bud => (bud_onFound _ _ _ u).trans bud) fun _ => rfl
  case book => exact bud_appear_foreign joined other (fun u _ _ bud => (bud_onBook _ _ _ _ u).trans bud) fun _ => rfl
  case cancel => exact bud_appear_foreign joined other (fun u _ _ bud => bud_onCancel.trans bud) fun _ => rfl
  case locate => exact bud_appear_foreign joined other (fun u _ _ bud => (bud_onLocate _ _ _ u).trans bud) fun _ => rfl
  case carry => exact bud_appear_foreign joined other (fun u _ _ bud => (bud_onCarry _ _ _ _ u).trans bud) fun _ => rfl
  case snapHead => exact bud_appear_foreign joined other (fun u _ _ bud => (bud_onSnapHead _ _ _ u).trans bud) fun _ => rfl
  case snapPart =>
    exact bud_appear_foreign joined other (fun u line _ bud => (bud_onSnapPart_joined line _).trans bud) fun _ => rfl
  case presence => exact bud_appear_foreign joined other (fun u _ _ bud => (bud_onPresence _ _ u).trans bud) fun _ => rfl

end

/-- Settles O44. -/
theorem replicasAgree : Obligations.ReplicasAgree := by
  intro k a dest payload s₁ s₂ t₁ t₂ joined₁ joined₂ other₁ other₂ tables stays runs₁ runs₂
  rw [bud_exec_foreign joined₁ other₁ (fun depart => (stays depart).1) runs₁,
    bud_exec_foreign joined₂ other₂ (fun depart => (stays depart).2) runs₂, tables]

end Sys2Proof.Machine
end

section
/-! SUPPORT. What becomes of a position's claim state at the appearances that concern it (R128, R129, R133), and a frame
of the station's own that appears. -/

namespace Sys2Proof.Machine
open Host

section
variable {s u : State} {a : Addr} {kind : FrameKind} {dest : BitVec 5} {payload : List Byte} {e : TxEntry} {o : Origin}
variable {p q : PosIx} {h : Handle} {r : Record}

/-! ### A frame of the station's own -/

theorem ownTx_listed (listed : s.lbi.inTx = .listed o) (entry : s.txEntry o = some e) :
    s.ownTx s.conf.address e.frame = .listed e := by
  simp [State.ownTx, listed, entry]

theorem joinQueue_finishOwn (own : OwnTx) : (s.finishOwn own).mem.joinQueue = s.mem.joinQueue := by
  cases own with
  | foreign => rfl
  | orphan f => rfl
  | listed e =>
    refine (joinQueue_pumpOrigin e.origin).trans ?_
    cases e.held with
    | none => rfl
    | withdraw => rfl
    | replace f => exact congrArg Membership.joinQueue (mem_queueFrame _ _ _)

theorem joinQueue_sent : (s.sent e).mem.joinQueue = s.mem.joinQueue := joinQueue_finishOwn _

theorem line_sent : (s.sent e).mem.line = s.mem.line := by rw [State.sent, line_finishOwn]; rfl

theorem conf_sent : (s.sent e).conf = s.conf := conf_of_still ((still_finishOwn _ _).trans rfl)

theorem bud_sent : (s.sent e).bud = s.bud := by rw [State.sent, bud_finishOwn]; rfl

theorem pos_sent (q : PosIx) : (s.sent e).pos q = s.pos q := by rw [State.pos, State.sent, seqr_finishOwn]; rfl

/-- The station's own frame, off its list, is presented to the blocks. -/
theorem appear_own (active : s.isActive = true) (line : s.mem.line ≠ .joining) (plain : kind ≠ .join)
    (listed : s.lbi.inTx = .listed o) (entry : s.txEntry o = some e)
    (frame : e.frame = { kind := kind, dest := dest, payload := payload }) (blocks : OwnTx → State → State) :
    s.appear kind s.conf.address dest payload blocks = (blocks (.listed e) (s.sent e)).tryServe := by
  have own : s.ownTx s.conf.address { kind := kind, dest := dest, payload := payload } = .listed e :=
    frame ▸ ownTx_listed listed entry
  have noted : (s.sent e).noteSender s.conf.address = s.sent e := noteSender_still (.inr (by rw [conf_sent]))
  have bar : (s.sent e).noteBar kind payload = s.sent e := noteBar_settled (by rw [line_sent]; exact line)
  have passes : (s.sent e).receives kind s.conf.address dest = true := by simp [State.receives, conf_sent]
  rw [appear_active active, own, countAppeared_clean (.inl plain)]
  dsimp only
  rw [← State.sent, noted, bar, if_pos passes]

/-! ### A replicated frame at a JOINED station -/

theorem onReplicated_joined (joined : s.mem.line = .joined) : s.onReplicated kind a payload =
    s.takeReplicated { kind := kind, sender := a, payload := payload } (s.isOwn a) := by
  simp only [State.onReplicated, joined]

/-- The station's own replicated frame, in a station that serves no joiner. -/
theorem appear_own_replicated (joined : s.mem.line = .joined) (empty : s.mem.joinQueue = []) (plain : kind ≠ .join)
    (listed : s.lbi.inTx = .listed o) (entry : s.txEntry o = some e)
    (frame : e.frame = { kind := kind, dest := dest, payload := payload }) :
    (s.appear kind s.conf.address dest payload fun _ t => t.onReplicated kind s.conf.address payload)
      = (s.sent e).takeReplicated { kind := kind, sender := s.conf.address, payload := payload } true := by
  have line : (s.sent e).mem.line = .joined := line_sent.trans joined
  have own : (s.sent e).isOwn s.conf.address = true := decide_eq_true (congrArg Configuration.address conf_sent).symm
  rw [appear_own (isActive_of_joined joined) (by simp [joined]) plain listed entry frame, onReplicated_joined line, own]
  exact tryServe_idle (by rw [mem_takeReplicated]; exact joinQueue_sent.trans empty)

/-- Another station's replicated frame, in a station that serves no joiner. -/
theorem appear_foreign_replicated (joined : s.mem.line = .joined) (empty : s.mem.joinQueue = []) (other : a ≠ s.conf.address)
    (replicated : kindReplicated kind = true) :
    (s.appear kind a dest payload fun _ t => t.onReplicated kind a payload)
      = (s.heard a).takeReplicated { kind := kind, sender := a, payload := payload } false := by
  have line : (s.heard a).mem.line = .joined := by rw [State.heard, line_noteSender]; exact joined
  have foreign : (s.heard a).isOwn a = false := isOwn_foreign (by rw [State.heard, conf_noteSender]; exact other)
  rw [appear_foreign (isActive_of_joined joined) other (by simp [joined]), if_pos (receives_of_replicated replicated _ _ _),
    onReplicated_joined line, foreign]
  exact tryServe_idle (by rw [mem_takeReplicated]; exact joinQueue_noteSender.trans empty)

/-! ### What a position is told (R128, R129) -/

theorem tellEntry_waiting {x : ClaimEntry} (mine : x.station = s.conf.address) (waits : (s.pos x.position).claim = .waiting) :
    s.tellEntry x = (s.updPos x.position fun y => { y with claim := .granted }).tellGrant x.position := if_pos ⟨mine, waits⟩

theorem tellEntry_other {x : ClaimEntry} (other : x.station ≠ s.conf.address ∨ (s.pos x.position).claim ≠ .waiting) :
    s.tellEntry x = s := if_neg fun ⟨mine, waits⟩ => other.elim (· mine) (· waits)

theorem reportOversize_waiting (b : BudgetIx) (on : s.onPosition p h r) (waits : r.state = .waiting) :
    s.reportOversize p b = s.enterHeld h .claimOversize (BitVec.ofNat 24 b.val) false := by
  simp only [State.reportOversize, working_eq_some.mpr on, waits, if_true]

theorem reportOversize_other (b : BudgetIx) (on : s.onPosition p h r) (other : r.state ≠ .waiting) : s.reportOversize p b = s := by
  simp only [State.reportOversize, working_eq_some.mpr on, other, if_false]

theorem reportOversize_empty (b : BudgetIx) (empty : ∀ h r, ¬s.onPosition p h r) : s.reportOversize p b = s := by
  rw [State.reportOversize]
  split
  · next h r found => exact absurd (working_eq_some.mp found) (empty h r)
  · rfl

/-- The first of an ascending list that satisfies a condition, given as the least. -/
theorem find_of_least {n : Nat} {l : List (Fin n)} {cond : Fin n → Bool} {b : Fin n} (sorted : l.Pairwise (· < ·)) (m : b ∈ l)
    (here : cond b = true) (least : ∀ c, c < b → cond c = false) : l.find? cond = some b := by
  obtain ⟨front, back, rfl⟩ := List.append_of_mem m
  rw [List.find?_eq_some_iff_append]
  refine ⟨here, front, back, rfl, fun c inFront => ?_⟩
  simp [least c ((List.pairwise_append.mp sorted).2.2 c inFront b List.mem_cons_self)]

theorem oversizeBudget_lowest {caps draws : Triple} {b : BudgetIx} (above : caps[b] < draws[b])
    (lowest : ∀ c, c < b → draws[c] ≤ caps[c]) : oversizeBudget caps draws = some b :=
  find_of_least (List.pairwise_lt_finRange 3) (List.mem_finRange b) (decide_eq_true above)
    fun c less => decide_eq_false (Nat.not_lt.mpr (lowest c less))

/-- A grant touches the position it is told to alone. -/
theorem pos_tellGrant_ne (other : p ≠ q) : (s.tellGrant p).pos q = s.pos q := by
  rw [State.tellGrant]
  split
  · next h r found =>
    split
    · rw [startStep_eq (working_eq_some.mp found).2.2, pos_post, pos_setRec, pos_updPos_ne _ _ _ _ other]
    · rfl
  · rfl

theorem pos_tellEntry_unwaiting (x : ClaimEntry) (still : (s.pos p).claim ≠ .waiting) : (s.tellEntry x).pos p = s.pos p := by
  by_cases told : x.station = s.conf.address ∧ (s.pos x.position).claim = .waiting
  · have other : x.position ≠ p := fun same => still (same ▸ told.2)
    rw [tellEntry_waiting told.1 told.2, pos_tellGrant_ne other, pos_updPos_ne _ _ _ _ other]
  · rw [tellEntry_other (not_and_or.mp told)]

theorem pos_tellGrants_unwaiting {l : List ClaimEntry} (p : PosIx) (s : State) (still : (s.pos p).claim ≠ .waiting) :
    (s.tellGrants l).pos p = s.pos p := by
  induction l generalizing s with
  | nil => rfl
  | cons x l ih =>
    have kept := pos_tellEntry_unwaiting x still
    exact (ih (s.tellEntry x) (by rw [kept]; exact still)).trans kept

/-! ### The claim state after the station's own CLAIM and RELEASE (R133) -/

theorem claimStands_eq (st : ClaimState) : s.claimStands p st =
    if (s.pos p).withdrawing = true ∧ (s.pos p).remembered = false then
      (s.updPos p fun x => { x with withdrawing := false }).queueRelease p
    else s.updPos p fun x => { x with claim := st, withdrawing := false, remembered := false } := by
  simp only [State.claimStands, Bool.and_eq_true, Bool.not_eq_true']

theorem ownClaim_appended {d0 d1 d2 : Byte} (real : ¬(d0 = 0 ∧ d1 = 0 ∧ d2 = 0)) (queued : (s.pos p).claim = .claimQueued) :
    s.ownClaim [byte p.val, d0, d1, d2] .appended = s.claimStands p .waiting := by
  rw [State.ownClaim, claimPayload_bytes, if_neg real]
  exact if_pos queued

theorem ownClaim_duplicate {d0 d1 d2 : Byte} (st : ClaimStatus) (real : ¬(d0 = 0 ∧ d1 = 0 ∧ d2 = 0))
    (queued : (s.pos p).claim = .claimQueued) :
    s.ownClaim [byte p.val, d0, d1, d2] (.duplicate st) = s.claimStands p (claimOfStatus st) := by
  rw [State.ownClaim, claimPayload_bytes, if_neg real]
  exact if_pos queued

theorem ownClaim_oversize {d0 d1 d2 : Byte} (b : BudgetIx) (real : ¬(d0 = 0 ∧ d1 = 0 ∧ d2 = 0))
    (queued : (s.pos p).claim = .claimQueued) : s.ownClaim [byte p.val, d0, d1, d2] (.oversize b) =
      (s.updPos p fun x => { x with claim := .none, withdrawing := false, remembered := false }).reportOversize p b := by
  rw [State.ownClaim, claimPayload_bytes, if_neg real]
  exact if_pos queued

theorem ownRelease_released (released : (s.pos p).claim = .releaseQueued) : s.ownRelease [byte p.val] =
    if (s.pos p).remembered then (s.updPos p fun x => { x with claim := .none, remembered := false }).queueClaim p
    else s.updPos p fun x => { x with claim := .none, remembered := false } := by
  rw [State.ownRelease, releasePayload_byte]
  exact if_pos released

theorem takeReplicated_claim {step : TableStep} (applied : applyFrame s.bud { kind := .claim, sender := a, payload := payload } = step)
    (none : step.removed = []) : s.takeReplicated { kind := .claim, sender := a, payload := payload } true =
      State.tellGrants step.granted (({ s with bud := step.table } : State).ownClaim payload step.claim) := by
  subst applied
  simp only [State.takeReplicated, none]
  rfl

theorem removed_applyRelease (t : BudgetTable) : (applyRelease t a payload).removed = [] := by
  unfold applyRelease
  split
  · rfl
  · split <;> rfl

theorem takeReplicated_release {step : TableStep}
    (applied : applyFrame s.bud { kind := .release, sender := a, payload := payload } = step) :
    s.takeReplicated { kind := .release, sender := a, payload := payload } true =
      (State.tellGrants step.granted { s with bud := step.table }).ownRelease payload := by
  have none : step.removed = [] := applied ▸ removed_applyRelease _
  simp only [State.takeReplicated, applied, none]
  rfl

theorem takeReplicated_foreign {f : BufferedFrame} {step : TableStep} (applied : applyFrame s.bud f = step) :
    s.takeReplicated f false = State.tellGrants step.granted
      (step.removed.foldl (State.ownRemoved step.table.capacities) { s with bud := step.table }) := by
  subst applied
  rfl

end

/-- Settles O46. -/
theorem claimStatesFollow : Obligations.ClaimStatesFollow := by
  refine ⟨?_, ?_, ?_, ?_⟩
  · intro e p d0 d1 d2 s joined empty listed entry origin frame real queued judged draws heard raised follow
    have runs := appear_own_replicated joined empty (by decide) listed entry frame
    have queued' (t : BudgetTable) : (({ s.sent e with bud := t } : State).pos p).claim = .claimQueued :=
      (congrArg Position.claim (pos_sent p)).trans queued
    have table : (s.sent e).bud = s.bud := bud_sent
    have step {st : TableStep} {t : State} (applied : applyClaim raised s.conf.address [byte p.val, d0, d1, d2] = st)
        (none : st.removed = [])
        (ends : State.tellGrants st.granted ((heard st.table).ownClaim [byte p.val, d0, d1, d2] st.claim) = t) : judged t := by
      refine congrArg Outcome.next (runs.trans ((takeReplicated_claim ?_ none).trans ends))
      rw [table]
      exact applied
    have followed (t : BudgetTable) (c : ClaimState) : (heard t).claimStands p c = follow (heard t) c := by
      rw [claimStands_eq, show (heard t).pos p = s.pos p from pos_sent p]
      rfl
    refine ⟨fun x found => ?_, fun absent => ⟨fun b above lowest => ?_, fun fits => ?_⟩⟩
    · refine step (applyClaim_standing real found) rfl ((ownClaim_duplicate x.status real (queued' _)).trans ?_)
      refine (followed _ _).trans (congrArg (follow (heard raised)) ?_)
      cases x.status <;> rfl
    · have free := find_isFor_eq_none.mpr absent
      exact step (applyClaim_oversize (b := b) real free (oversizeBudget_lowest above lowest)) rfl
        (ownClaim_oversize b real (queued' _))
    · have free := find_isFor_eq_none.mpr absent
      refine step (applyClaim_appended real free (oversizeBudget_eq_none.mpr fits)) rfl ?_
      exact congrArg (State.tellGrants _) ((ownClaim_appended real (queued' _)).trans (followed _ _))
  · intro e p s joined empty listed entry origin frame released d applied free
    have runs := appear_own_replicated joined empty (by decide) listed entry frame
    have table : (s.sent e).bud = s.bud := bud_sent
    have heard : applyFrame (s.sent e).bud { kind := .release, sender := s.conf.address, payload := [byte p.val] } = applied := by
      rw [table]
    let told : State := State.tellGrants applied.granted { s.sent e with bud := applied.table }
    have taken : (s.sent e).takeReplicated { kind := .release, sender := s.conf.address, payload := [byte p.val] } true
        = told.ownRelease [byte p.val] := takeReplicated_release heard
    have start : ({ s.sent e with bud := applied.table } : State).pos p = s.pos p := pos_sent p
    have there : told.pos p = s.pos p :=
      (pos_tellGrants_unwaiting p _ (by rw [start, released]; decide)).trans start
    have conf : told.conf = s.conf := (conf_of_still (still_tellGrants _ _)).trans conf_sent
    have ends := ownRelease_released (s := told) (p := p) (by rw [there, released])
    rw [there] at ends
    refine ⟨fun none => congrArg Outcome.next ?_, fun asked => congrArg Outcome.next ?_⟩
    · rw [runs, taken, ends, if_neg (by simp [none])]
    · rw [runs, taken, ends, if_pos asked, State.queueClaim, conf_updPos, conf]
      rfl
  · intro a dest b units s joined empty other small caps tooBig scan
    have runs := appear_foreign_replicated (dest := dest) (payload := byte b.val :: bytes16 units) joined empty other
      (kind := .capacity) rfl
    refine congrArg Outcome.next (runs.trans ?_)
    have table : (s.heard a).bud = s.bud := by simp [State.heard]
    have applied : applyFrame (s.heard a).bud { kind := .capacity, sender := a, payload := byte b.val :: bytes16 units } =
        .scanned { s.bud with seqNo := s.bud.seqNo + 1, capacities := caps, entries := s.bud.entries.filter fun x => !tooBig x }
          .ignored (s.bud.entries.filter tooBig) := by
      rw [table, applyFrame_capacity]
      simp only [applyCapacity, capacityPayload_bytes b units small]
      rfl
    exact takeReplicated_foreign applied
  · intro x s p
    refine ⟨tellEntry_waiting, tellEntry_other, fun l => rfl, rfl, fun caps b mine above lowest => ?_, fun caps other => if_neg other,
      fun b => ⟨fun h r on => ⟨reportOversize_waiting b on, reportOversize_other b on⟩, reportOversize_empty b⟩⟩
    have exceeded := oversizeBudget_lowest above lowest
    refine ⟨fun waits => ?_, fun settled => ?_⟩
    · simp only [State.ownRemoved, mine, if_true, exceeded]
      rw [if_pos waits]
      rfl
    · simp only [State.ownRemoved, mine, if_true, exceeded]
      rw [if_neg settled]

end Sys2Proof.Machine
end

section
/-! SUPPORT. What a PRESENCE of another station makes of the peer list and of the rounds (R96, R108, R143). -/

namespace Sys2Proof.Machine
open Host

section
variable {s : State} {a b : Addr} {q : PresenceReport} {payload : List Byte}

theorem peer_heard (joined : s.mem.line = .joined) (other : a ≠ s.conf.address) :
    (s.heard a).peer b = if a = b then { s.peer a with timer := (s.peer a).timer.map fun _ => 0 } else s.peer b := by
  rw [State.heard, noteSender_joined (s := s.countClean) joined other, State.peer, mem_withdrawTx, ← State.peer, peer_updPeer]
  rfl

theorem line_heard : (s.heard a).mem.line = s.mem.line := by rw [State.heard, line_noteSender]; rfl

theorem conf_heard : (s.heard a).conf = s.conf := by rw [State.heard, conf_noteSender, conf_countClean]

theorem joinQueue_heard : (s.heard a).mem.joinQueue = s.mem.joinQueue := joinQueue_noteSender

theorem bud_heard : (s.heard a).bud = s.bud := by simp [State.heard]

theorem events_heard : (s.heard a).port.events = s.port.events := by simp [State.heard]

theorem receives_all (s : State) (k : FrameKind) (a : Addr) : s.receives k a 31 = true := by simp [State.receives, destAll]

/-- Another station's frame, noted and, at a JOINING station, judged for the first-station rule. -/
theorem appear_foreign_noted {kind : FrameKind} {dest : BitVec 5} (active : s.isActive = true) (other : a ≠ s.conf.address)
    (blocks : OwnTx → State → State) : s.appear kind a dest payload blocks =
      (if ((s.heard a).noteBar kind payload).receives kind a dest then blocks .foreign ((s.heard a).noteBar kind payload)
        else (s.heard a).noteBar kind payload).tryServe := by
  rw [appear_active active, ownTx_foreign other, countAppeared_clean (.inr other)]
  rfl

/-- Another station's frame to all, at a station that is not JOINING. -/
theorem appear_foreign_all {kind : FrameKind} {blocks : OwnTx → State → State} (active : s.isActive = true)
    (other : a ≠ s.conf.address) (line : s.mem.line ≠ .joining) :
    s.appear kind a 31 payload blocks = (blocks .foreign (s.heard a)).tryServe := by
  rw [appear_foreign active other line, if_pos (receives_all _ _ _)]

theorem onPresence_ignored (ignored : s.mem.line ≠ .joined) : s.onPresence a payload = s := by
  simp [State.onPresence, State.isJoined, ignored]

theorem onPresence_unlisted (reads : presencePayload payload = some q) (absent : (s.peer a).state = .absent)
    (joining : q.joined = false) : s.onPresence a payload = s := by
  simp [State.onPresence, reads, absent, joining]

theorem onPresence_listed (joined : s.mem.line = .joined) (other : a ≠ s.conf.address) (reads : presencePayload payload = some q)
    (listed : (s.peer a).state ≠ .absent ∨ q.joined = true) : s.onPresence a payload = (s.applyPresence a q).restartRounds a q := by
  have here : (s.isJoined && !s.isOwn a) = true := by simp [isJoined_iff.mpr joined, isOwn_foreign other]
  have stays : ¬((s.peer a).state = .absent ∧ q.joined = false) := by
    rintro ⟨absent, joining⟩
    exact listed.elim (· absent) fun on => by simp [on] at joining
  simp only [State.onPresence, if_pos here, reads]
  rw [if_neg stays]

theorem applyPresence_standing (stands : (s.peer a).state ≠ .absent) : s.applyPresence a q = s.updPeer a (Peer.report q) := by
  rw [State.applyPresence, if_neg stands]

theorem applyPresence_entering (absent : (s.peer a).state = .absent) (joined : q.joined = true) :
    s.applyPresence a q = (s.updPeer a fun p => { p.report q with timer := some 0 }).post
      (stationEvent .peerJoined (a.val * 65536 + q.epoch.toNat)) := by
  rw [State.applyPresence, if_pos absent, if_pos joined, State.postPeerJoined, peer_updPeer_same, Peer.report, joined]
  rfl

theorem restartRounds_eq : s.restartRounds a q = if q.joined = true ∧ 1 ≤ q.freePositions ∧ 1 ≤ q.freeSlots then
    handles.foldl (State.restartRound a) s else s := by
  simp only [State.restartRounds, Bool.and_eq_true, decide_eq_true_eq, and_assoc]

/-- A PRESENCE taken into the list of a JOINED station. -/
theorem exec_presence_listed (joined : s.mem.line = .joined) (other : a ≠ s.conf.address)
    (reads : presencePayload payload = some q) (listed : (s.peer a).state ≠ .absent ∨ q.joined = true) :
    exec (.presenceAppears a 31 payload) s = .next (((s.heard a).applyPresence a q).restartRounds a q).tryServe := by
  refine congrArg Outcome.next ((appear_foreign_all (isActive_of_joined joined) other (by simp [joined])).trans ?_)
  have stays : ((s.heard a).peer a).state ≠ .absent ∨ q.joined = true := by
    rw [peer_heard joined other, if_pos rfl]
    exact listed
  rw [onPresence_listed (line_heard.trans joined) (by rw [conf_heard]; exact other) reads stays]

theorem events_post_active {e : Event} (active : s.isActive = true) (room : s.port.events.length < 32) :
    (s.post e).port.events = s.port.events ++ [e] := by
  rw [post_awake (fun line => by simp [State.isActive, line] at active) (fun line => by simp [State.isActive, line] at active),
    if_pos room]

theorem peer_listed : (((s.applyPresence a q).restartRounds a q).tryServe).peer b = (s.applyPresence a q).peer b := by
  simp only [State.peer, peers_tryServe, peers_restartRounds]

end

/-- Settles O50. -/
theorem presencesAppear : Obligations.PresencesAppear := by
  intro a dest payload q s other all reads
  subst all
  refine ⟨fun joined stands => ?_, fun joined absent shows => ?_, fun joined absent shows empty => ?_,
    fun joined empty stands => ?_, ?_⟩
  · have here : (s.heard a).peer a = { s.peer a with timer := (s.peer a).timer.map fun _ => 0 } := by
      rw [peer_heard joined other, if_pos rfl]
    have stands' : ((s.heard a).peer a).state ≠ .absent := by rw [here]; exact stands
    have taken : ((((s.heard a).applyPresence a q).restartRounds a q).tryServe).peer a =
        Peer.report q { s.peer a with timer := (s.peer a).timer.map fun _ => 0 } := by
      rw [peer_listed, applyPresence_standing stands', peer_updPeer_same, here]
    refine ⟨_, exec_presence_listed joined other reads (.inl stands), ?_⟩
    rw [taken]
    refine ⟨rfl, rfl, rfl, rfl, rfl, rfl, ?_, fun b apart => ?_⟩
    · rw [bud_tryServe, bud_restartRounds, bud_applyPresence, bud_heard]
    · rw [peer_listed, applyPresence_standing stands', peer_updPeer, if_neg apart.symm, peer_heard joined other, if_neg apart.symm]
  · have here : (s.heard a).peer a = { s.peer a with timer := (s.peer a).timer.map fun _ => 0 } := by
      rw [peer_heard joined other, if_pos rfl]
    have absent' : ((s.heard a).peer a).state = .absent := by rw [here]; exact absent
    refine ⟨_, exec_presence_listed joined other reads (.inr shows), ?_⟩
    rw [peer_listed, applyPresence_entering absent' shows]
    have taken : ((State.post (stationEvent .peerJoined (a.val * 65536 + q.epoch.toNat))
        ((s.heard a).updPeer a fun p => { p.report q with timer := some 0 })).peer a) =
          { Peer.report q ((s.heard a).peer a) with timer := some 0 } := by
      rw [State.peer, mem_post, ← State.peer, peer_updPeer_same]
    rw [taken]
    refine ⟨?_, rfl, ?_, rfl, fun quiet => ?_⟩
    · rw [Peer.report, shows]
      rfl
    · rw [Peer.report, shows]
      rfl
    · have none : ((s.heard a).updPeer a fun p => { p.report q with timer := some 0 }).port.events = [] := by
        rw [show ((s.heard a).updPeer a fun p => { p.report q with timer := some 0 }).port = (s.heard a).port from rfl,
          events_heard, quiet]
      have active : ((s.heard a).updPeer a fun p => { p.report q with timer := some 0 }).isActive = true :=
        isActive_of_joined (line_heard.trans joined)
      rw [port_tryServe, port_restartRounds, events_post_active active (by rw [none]; decide), none]
      rfl
  · refine congrArg Outcome.next ((appear_foreign_all (isActive_of_joined joined) other (by simp [joined])).trans ?_)
    have absent' : ((s.heard a).peer a).state = .absent := by
      rw [peer_heard joined other, if_pos rfl]
      exact absent
    rw [onPresence_unlisted reads absent' shows]
    exact tryServe_idle (joinQueue_heard.trans empty)
  · intro listed told
    refine (exec_presence_listed joined other reads stands).trans (congrArg Outcome.next ?_)
    have here : ((s.heard a).peer a).state = (s.peer a).state := by rw [peer_heard joined other, if_pos rfl]
    have applied : (s.heard a).applyPresence a q = told ∧ told.mem.joinQueue = [] := by
      by_cases absent : (s.peer a).state = .absent
      · have shows : q.joined = true := stands.resolve_left (· absent)
        have entry : (fun p : Peer => { p.report q with timer := some 0 }) = fun p => { p with
            role := q.role, freePositions := q.freePositions, freeSlots := q.freeSlots, seqNo := q.seqNo
            state := if q.joined then .joined else p.state, epoch := if q.joined then q.epoch else p.epoch
            timer := if (s.peer a).state = .absent then some 0 else p.timer } := by
          funext p
          simp only [Peer.report, if_pos absent]
        have posted : told = listed.post (stationEvent .peerJoined (a.val * 65536 + q.epoch.toNat)) := if_pos absent
        refine ⟨?_, ?_⟩
        · rw [posted, applyPresence_entering (here.trans absent) shows]
          exact congrArg (fun f => State.post _ ((s.heard a).updPeer a f)) entry
        · rw [posted, mem_post]
          exact joinQueue_heard.trans empty
      · have entry : Peer.report q = fun p => { p with
            role := q.role, freePositions := q.freePositions, freeSlots := q.freeSlots, seqNo := q.seqNo
            state := if q.joined then .joined else p.state, epoch := if q.joined then q.epoch else p.epoch
            timer := if (s.peer a).state = .absent then some 0 else p.timer } := by
          funext p
          simp only [Peer.report, if_neg absent]
        have silent : told = listed := if_neg absent
        refine ⟨?_, ?_⟩
        · rw [silent, applyPresence_standing (by rw [here]; exact absent)]
          exact congrArg (fun f => (s.heard a).updPeer a f) entry
        · rw [silent]
          exact joinQueue_heard.trans empty
    rw [applied.1, restartRounds_eq]
    refine tryServe_idle ?_
    rw [← restartRounds_eq, mem_restartRounds]
    exact applied.2
  · intro joining
    have still : (s.heard a).mem = s.mem := by rw [heard_still (.inl (by simp [joining]))]
    have bar : (s.heard a).noteBar .presence payload = if q.joined = true ∨ q.digest ≠ s.conf.digest then
        { s.heard a with mem := { s.mem with barred := true } } else s.heard a := by
      simp only [State.noteBar, barsFirst, reads, still, joining, conf_heard, decide_true, Bool.true_and, Bool.or_eq_true,
        decide_eq_true_eq]
    have line : ((s.heard a).noteBar .presence payload).mem.line ≠ .joined := by rw [line_noteBar, line_heard, joining]; decide
    refine congrArg Outcome.next ((appear_foreign_noted (by simp [State.isActive, joining]) other _).trans ?_)
    rw [if_pos (receives_all _ _ _), onPresence_ignored line, tryServe_unjoined line, bar]

end Sys2Proof.Machine
end

section
/-! SUPPORT. The commands that act on the line: CAPACITY, LEAVE and JOIN (R113, R115, R135). -/

namespace Sys2Proof.Machine
open Host

section
variable {s : State} {o : Origin} {f : Frame} {e : TxEntry} {kinds : List FrameKind}

/-! ### The port's answer beside the operations of the line -/

theorem queueFrame_deliver : s.deliver.queueFrame o f = (s.queueFrame o f).deliver := by
  rw [State.queueFrame, State.queueFrame, show s.deliver.txHas o = s.txHas o from rfl]
  split <;> rfl

theorem post_deliver (event : Event) : s.deliver.post event = (s.post event).deliver := by
  rw [State.post, State.post, show s.deliver.mem = s.mem from rfl, show s.deliver.port.events = s.port.events from rfl]
  split
  all_goals first
    | rfl
    | (split <;> rfl)

theorem updTx_deliver (g : TxEntry → TxEntry) : s.deliver.updTx o g = (s.updTx o g).deliver := rfl

theorem deliver_ok : s.deliver.ok 0 0 0 = s.answered .ok 0 := rfl

/-! ### Withdrawing the upkeep origin's frame (R88) -/

theorem withdrawUpkeep_listed (entry : s.txEntry .upkeep = some e) (m : e.frame.kind ∈ kinds) :
    s.withdrawUpkeep kinds = s.withdrawTx .upkeep := by
  simp only [State.withdrawUpkeep, entry, if_pos m]

theorem withdrawUpkeep_other (other : ∀ e, s.txEntry .upkeep = some e → e.frame.kind ∉ kinds) : s.withdrawUpkeep kinds = s := by
  rw [State.withdrawUpkeep]
  split
  · next e entry => exact if_neg (other e entry)
  · rfl

theorem withdrawTx_idle (idle : s.lbi.inTx ≠ .listed o) : s.withdrawTx o = s.removeTx o := by
  simp [State.withdrawTx, sending_false idle]

theorem withdrawTx_sending (sends : s.lbi.inTx = .listed o) :
    s.withdrawTx o = s.updTx o fun x => { x with held := .withdraw } := by
  simp [State.withdrawTx, sending_iff.mpr sends]

theorem txHas_removeTx : (s.removeTx o).txHas o = false := by
  rw [txHas_false_iff, framesOf_removeTx, if_pos rfl]

theorem txHas_of_entry (entry : s.txEntry o = some e) : s.txHas o = true := by
  rw [txHas_iff]
  rintro none
  rw [txEntry_eq_head, none] at entry
  cases entry

/-! ### JOIN (R115) -/

/-- The station JOINING, before its JOIN is queued (R95, R112, R115, R168). -/
def State.joinStarted (s : State) : State := { s with mem := { s.mem with
  line := .joining, presence := some 0, backoff := none, phase := .queued, buffer := [], barred := false, joinWait := none,
  partGap := none } }

theorem enterJoining_free (c : Cause) (free : s.txHas .upkeep = false) : s.enterJoining c =
    State.post (stationEvent .lineState (1 * 256 + causeCode c)) (s.joinStarted.queueFrame .upkeep
      { kind := .join, dest := 31, payload := [roleCode s.conf.role] }) := by
  have free' : s.joinStarted.txHas .upkeep = false := free
  have entered : s.enterJoining c = (s.joinStarted.sendUpkeep s.joinFrame).postLineState c := rfl
  rw [entered, sendUpkeep_free _ free']
  exact postLineState_eq (l := .joining) (by rw [mem_queueFrame]; rfl) c

/-! ### LEAVE (R113) -/

/-- The station with no joiner to serve. -/
def State.unserving (s : State) : State := { s with mem := { s.mem with serving := none, joinQueue := [] } }

theorem sendLeave_free (free : s.txHas .upkeep = false) : s.sendLeave = s.unserving.queueFrame .upkeep leaveFrame := by
  have alone : s.stopServing.setJoinQueue [] = s.unserving := by
    have free' : ({ s with mem := { s.mem with serving := none } } : State).txHas .upkeep = false := free
    rw [State.stopServing, withdrawUpkeep_free [.snapHead, .snapPart] free']
    rfl
  have free' : s.unserving.txHas .upkeep = false := free
  rw [State.sendLeave, alone, withdrawUpkeep_free [.join] free', sendUpkeep_free leaveFrame free']

theorem sendLeave_listed (entry : s.txEntry .upkeep = some e)
    (own : e.frame.kind = .join ∨ e.frame.kind = .snapHead ∨ e.frame.kind = .snapPart) :
    s.sendLeave = (s.unserving.withdrawTx .upkeep).sendUpkeep leaveFrame := by
  have entry' : s.unserving.txEntry .upkeep = some e := entry
  have queue (t : State) : (t.withdrawTx .upkeep).setJoinQueue [] = (t.setJoinQueue []).withdrawTx .upkeep := by
    rw [State.withdrawTx, State.withdrawTx, show (t.setJoinQueue []).sending .upkeep = t.sending .upkeep from rfl]
    split <;> rfl
  have withdrawn : ((s.stopServing.setJoinQueue []).withdrawUpkeep [.join]) = s.unserving.withdrawTx .upkeep := by
    rcases own with join | snap
    · have stops : s.stopServing.setJoinQueue [] = s.unserving := by
        rw [State.stopServing, withdrawUpkeep_other fun x m => by
          obtain rfl := Option.some.inj (entry.symm.trans m)
          simp [join]]
        rfl
      rw [stops, withdrawUpkeep_listed entry' (by simp [join])]
    · have stops : s.stopServing.setJoinQueue [] = s.unserving.withdrawTx .upkeep := by
        have listed : ({ s with mem := { s.mem with serving := none } } : State).txEntry .upkeep = some e := entry
        rw [State.stopServing, withdrawUpkeep_listed listed (by simpa using snap), queue]
        rfl
      rw [stops, withdrawUpkeep_other]
      intro x m
      have kind : x.frame.kind = e.frame.kind := by
        by_cases sends : s.lbi.inTx = .listed .upkeep
        · have sends' : s.unserving.lbi.inTx = .listed .upkeep := sends
          have kept := txEntry_updTx (f := fun x => { x with held := .withdraw }) (fun _ => rfl) entry'
          rw [withdrawTx_sending sends', kept] at m
          rw [← Option.some.inj m]
        · have idle : s.unserving.lbi.inTx ≠ .listed .upkeep := sends
          rw [withdrawTx_idle idle, txEntry_none txHas_removeTx] at m
          cases m
      rw [kind]
      rcases snap with head | part <;> simp [*]
  rw [State.sendLeave, withdrawn]

theorem leavePending_free (free : s.txHas .upkeep = false) (next : s.mem.upkeepNext = none) : s.leavePending = false := by
  simp [State.leavePending, txEntry_none free, next]

theorem leavePending_listed (entry : s.txEntry .upkeep = some e) (next : s.mem.upkeepNext = none) :
    s.leavePending = decide (e.frame.kind = .leave) := by
  simp [State.leavePending, entry, next]

/-- The work that keeps a station on the line, as R113 lists it. -/
theorem hasLineWork_iff : s.hasLineWork = true ↔ s.bookings ≠ [] ∨ ∃ (h : Handle) (r : Record), s.rec? h = some r
    ∧ (r.state = .running ∨ r.state = .paused ∨ r.state = .waiting ∨ r.state = .outbound ∨ ∃ d p, r.booking = .held d p) := by
  have stays (r : Record) : r.staysFor = true ↔ r.state = .running ∨ r.state = .paused ∨ r.state = .waiting ∨ r.state = .outbound
      ∨ ∃ d p, r.booking = .held d p := by
    have receiver : r.booking.receiver.isSome = true ↔ ∃ d p, r.booking = .held d p := by
      cases r.booking <;> simp [BookerState.receiver]
    rw [Record.staysFor, Bool.or_eq_true, receiver]
    cases r.state <;> simp
  have works : s.hasLineWork = true ↔ s.bookings ≠ [] ∨ ∃ (h : Handle) (r : Record), s.rec? h = some r ∧ r.staysFor = true := by
    simp only [State.hasLineWork, Bool.or_eq_true, List.any_eq_true, Option.any_eq_true, Bool.not_eq_true', List.isEmpty_eq_false_iff,
      mem_handles, true_and]
    exact Or.comm
  simp only [works, stays]

end

/-- Settles O51. -/
theorem lineCommandsTaken : Obligations.LineCommandsTaken := by
  intro s active
  refine ⟨fun b units small => ?_, fun line => ?_, fun e joined entry leave => ?_, fun joined next => ?_,
    fun line => ?_, fun out free => ?_⟩
  · have units' : ¬1023 < units.toNat := Nat.not_lt.mpr small
    have judged {t : State} (runs : (if s.deliver.isJoined then
        (s.deliver.queueOrReplace (.capacity b) (capacityFrame b units)).ok 0 0 0 else s.deliver.refuse .notJoined 0) = t) :
        exec (.capacity (byte b.val) units) s = .next t := by
      refine exec_active active ?_
      simp only [finOf_budget, if_neg units']
      exact runs
    have taken {t : State} (joined : s.mem.line = .joined)
        (runs : s.deliver.queueOrReplace (.capacity b) (capacityFrame b units) = t.deliver) :
        exec (.capacity (byte b.val) units) s = .next (t.answered .ok 0) :=
      judged ((if_pos (isJoined_iff.mpr joined)).trans (congrArg (State.ok 0 0 0) runs))
    refine ⟨fun line => judged (if_neg (mt isJoined_iff.mp line)), fun joined free => ?_, fun joined has idle => ?_,
      fun joined has sends => ?_⟩
    · exact taken joined ((queueOrReplace_free (s := s.deliver) _ free).trans queueFrame_deliver)
    · exact taken joined (queueOrReplace_listed (s := s.deliver) _ has idle)
    · exact taken joined (queueOrReplace_sending (s := s.deliver) _ has sends)
  · refine exec_active active (if_pos ?_)
    simp [State.isJoined, line]
  · refine exec_active active ((if_neg ?_).trans (if_pos ?_))
    · simp [State.isJoined, joined]
    · have entry' : s.deliver.txEntry .upkeep = some e := entry
      simp [State.leavePending, entry', leave]
  · intro busy alone leave
    have on : ¬(!s.deliver.isJoined) = true := by simp [State.isJoined, joined]
    have works : s.deliver.hasLineWork = true ↔ busy := hasLineWork_iff
    have judged (quiet : s.deliver.leavePending = false) : (busy → exec .leave s = .next (s.answered .refused 0x160000))
        ∧ (¬busy → exec .leave s = .next (s.deliver.sendLeave.ok 0 0 0)) := by
      have heard : ¬s.deliver.leavePending = true := by simp [quiet]
      exact ⟨fun work => exec_active active ((if_neg on).trans ((if_neg heard).trans (if_pos (works.mpr work)))),
        fun idle => exec_active active ((if_neg on).trans ((if_neg heard).trans (if_neg (mt works.mp idle))))⟩
    refine ⟨fun free => ?_, fun e entry own => ?_⟩
    · obtain ⟨refused, sent⟩ := judged (leavePending_free free next)
      refine ⟨refused, fun idle => (sent idle).trans (congrArg Outcome.next ?_)⟩
      rw [sendLeave_free (s := s.deliver) free]
      exact congrArg (State.ok 0 0 0) (queueFrame_deliver (s := alone))
    · have other : s.deliver.leavePending = false := by
        rw [leavePending_listed (s := s.deliver) entry next]
        rcases own with kind | kind | kind <;> simp [kind]
      obtain ⟨refused, sent⟩ := judged other
      have leaves := sendLeave_listed (s := s.deliver) entry own
      refine ⟨refused, fun quiet idle => (sent quiet).trans (congrArg Outcome.next ?_),
        fun quiet sends => (sent quiet).trans (congrArg Outcome.next ?_)⟩
      · have idle' : s.deliver.unserving.lbi.inTx ≠ .listed .upkeep := idle
        rw [leaves, withdrawTx_idle idle', sendUpkeep_free _ txHas_removeTx]
        exact congrArg (State.ok 0 0 0) (queueFrame_deliver (s := alone.removeTx .upkeep))
      · have sends' : s.deliver.unserving.lbi.inTx = .listed .upkeep := sends
        have entry' : s.deliver.unserving.txEntry .upkeep = some e := entry
        have kept := txEntry_updTx (f := fun x => { x with held := .withdraw }) (fun _ => rfl) entry'
        rw [leaves, withdrawTx_sending sends', State.sendUpkeep, if_pos (txHas_of_entry kept)]
        rfl
  · exact exec_active active (if_neg line)
  · have entered : s.deliver.enterJoining .joinCommand = State.deliver (State.post (stationEvent .lineState (1 * 256 + 9))
        (s.joinStarted.queueFrame .upkeep { kind := .join, dest := 31, payload := [roleCode s.conf.role] })) := by
      have started : s.deliver.joinStarted = s.joinStarted.deliver := rfl
      rw [enterJoining_free (s := s.deliver) .joinCommand free, started, queueFrame_deliver, post_deliver]
      rfl
    refine exec_active active ((if_pos out).trans ?_)
    rw [entered]
    rfl

end Sys2Proof.Machine
end

section
/-! SUPPORT. What CONFIG_WRITE makes of each configuration item (R164, R165). -/

namespace Sys2Proof.Machine
open Host

section
variable {s : State} {it : Items} {item : Byte} {v : BitVec 16} {d : List Byte} {new : Items}

theorem exec_configWrite_set (config : s.mem.line = .config)
    (written : s.conf.items.write item v (Memory.readList s.staging 120 8) = some new) : exec (.configWrite item v) s =
      .next ({ s with conf := { s.conf with items := new } }.answered .ok 0) := by
  refine exec_open (by simp [config]) (by simp [config]) ?_
  have line : s.deliver.mem.line = .config := config
  have written' : s.deliver.conf.items.write item v (Memory.readList s.deliver.staging codePlace 8) = some new := written
  rw [if_pos line, State.configWrite, written']
  rfl

theorem exec_configWrite_bad (config : s.mem.line = .config)
    (refused : s.conf.items.write item v (Memory.readList s.staging 120 8) = none) : exec (.configWrite item v) s =
      .next (s.answered .badArgument 0x100000) := by
  refine exec_open (by simp [config]) (by simp [config]) ?_
  have line : s.deliver.mem.line = .config := config
  have refused' : s.deliver.conf.items.write item v (Memory.readList s.deliver.staging codePlace 8) = none := refused
  rw [if_pos line, State.configWrite, refused']
  rfl

/-- The items numbered from 16 on: the draws, the routes, and none. -/
theorem write_above (above : 10 ≤ item.toNat) : it.write item v d =
    if 16 ≤ item.toNat ∧ item.toNat ≤ 46 then it.writeDraw (item.toNat - 16) v
    else if 64 ≤ item.toNat ∧ item.toNat ≤ 79 then it.writeRoute (item.toNat - 64) v
    else none := by
  unfold Items.write
  split
  case h_11 => rfl
  all_goals omega

theorem write_capacity (b : BudgetIx) : it.write (byte (2 + b.val)) v d = it.writeCapacity b v := by
  match b with
  | 0 => rfl
  | 1 => rfl
  | 2 => rfl

theorem write_draw (p : PosIx) (b : BudgetIx) : it.write (byte (16 + 4 * p.val + b.val)) v d =
    if inRange 0 255 v then some { it with draws := it.draws.set p (it.draws[p].set b v.toNat) } else none := by
  have number : (byte (16 + 4 * p.val + b.val)).toNat = 16 + 4 * p.val + b.val := byte_toNat _ (by omega)
  have position : (16 + 4 * p.val + b.val - 16) / 4 = p.val := by omega
  have budget : (16 + 4 * p.val + b.val - 16) % 4 = b.val := by omega
  rw [write_above (by omega), number, if_pos (by omega), Items.writeDraw, position, budget, finOf_pos, finOf_budget]

theorem write_undrawn (draw : 16 ≤ item.toNat ∧ item.toNat < 47) (third : item.toNat % 4 = 3) : it.write item v d = none := by
  have budget : (item.toNat - 16) % 4 = 3 := by omega
  have none : finOf 3 (byte 3) = none := finOf_none _ (by decide)
  rw [write_above (by omega), if_pos (by omega), Items.writeDraw, budget, none]
  split
  · next h => cases h
  · rfl

theorem write_route (r k : Fin 4) : it.write (byte (64 + 4 * r.val + k.val)) v d =
    (candidateOf v).map fun c => { it with routes := it.routes.set r (it.routes[r].set k c) } := by
  have number : (byte (64 + 4 * r.val + k.val)).toNat = 64 + 4 * r.val + k.val := byte_toNat _ (by omega)
  have role : (64 + 4 * r.val + k.val - 64) / 4 = r.val := by omega
  have candidate : (64 + 4 * r.val + k.val - 64) % 4 = k.val := by omega
  rw [write_above (by omega), number, if_neg (by omega), if_pos (by omega), Items.writeRoute, role, candidate,
    finOf_byte (by decide) r, finOf_byte (by decide) k]
  cases candidateOf v <;> rfl

theorem candidateOf_address (a : Addr) (here : v.toNat = a.val) : candidateOf v = some (some a) := by
  have present : v ≠ 255 := by
    rintro rfl
    have small : a.val < 16 := a.isLt
    have big : (255 : BitVec 16).toNat = 255 := rfl
    omega
  have small : v.toNat < 16 := by omega
  rw [candidateOf, if_neg present, dif_pos small]
  exact congrArg (fun x => some (some x)) (Fin.ext here)

theorem candidateOf_absent (absent : v.toNat = 255) : candidateOf v = some none := if_pos (BitVec.eq_of_toNat_eq absent)

theorem candidateOf_none (above : 16 ≤ v.toNat) (present : v.toNat ≠ 255) : candidateOf v = none := by
  have present' : v ≠ 255 := fun same => present (congrArg BitVec.toNat same)
  rw [candidateOf, if_neg present', dif_neg (Nat.not_lt.mpr above)]

end

/-- Settles O57. -/
theorem configWriteSetsItem : Obligations.ConfigWriteSetsItem := by
  intro v s config it n set bad digits
  have sets {item : Byte} {new : Items} (written : it.write item v digits = some new) : set item new :=
    exec_configWrite_set config written
  have refuses {item : Byte} (refused : it.write item v digits = none) : bad item := exec_configWrite_bad config refused
  have ranged {item : Byte} {lo hi : Nat} {new : Items}
      (judged : it.write item v digits = if inRange lo hi v then some new else none) :
      (lo ≤ n ∧ n ≤ hi → set item new) ∧ (¬(lo ≤ n ∧ n ≤ hi) → bad item) :=
    ⟨fun inside => sets (judged.trans (if_pos (inRange_iff.mpr inside))),
      fun outside => refuses (judged.trans (if_neg (mt inRange_iff.mp outside)))⟩
  have upto {item : Byte} {hi : Nat} {new : Items} (judged : it.write item v digits = if inRange 0 hi v then some new else none) :
      (n ≤ hi → set item new) ∧ (hi < n → bad item) :=
    ⟨fun inside => (ranged judged).1 ⟨Nat.zero_le _, inside⟩, fun above => (ranged judged).2 fun inside => by omega⟩
  have number := upto (item := 0) (hi := 255) rfl
  have count := ranged (item := 5) (lo := 1) (hi := 8) rfl
  have silence := ranged (item := 6) (lo := 1) (hi := 30) rfl
  have pause := ranged (item := 7) (lo := 1) (hi := 3600) rfl
  have margin := ranged (item := 8) (lo := 10) (hi := 600) rfl
  refine ⟨number.1, number.2, ?_, ?_, fun b => upto (write_capacity b), count.1, count.2, silence.1, silence.2, pause.1, pause.2,
    margin.1, margin.2, ?_, ?_, fun p b => upto (write_draw p b), fun r k => ⟨?_, ?_, ?_⟩, ?_⟩
  · rintro ⟨low, high, whole⟩
    exact sets (if_pos (by rw [Bool.and_eq_true, inRange_iff, decide_eq_true_eq]; exact ⟨⟨low, high⟩, whole⟩))
  · intro outside
    exact refuses (if_neg (by
      rw [Bool.and_eq_true, inRange_iff, decide_eq_true_eq]
      exact fun inside => outside ⟨inside.1.1, inside.1.2, inside.2⟩))
  · intro small
    have all : (digits.all fun d => decide (d.toNat ≤ 9)) = true := List.all_eq_true.mpr fun d m => decide_eq_true (small d m)
    refine ⟨Vector.ofFn fun i => digits.getD i.val 0, ?_, sets (if_pos all)⟩
    rfl
  · rintro ⟨d, m, big⟩
    refine refuses (if_neg ?_)
    rw [List.all_eq_true]
    exact fun small => Nat.not_le.mpr big (of_decide_eq_true (small d m))
  · intro a here
    exact sets ((write_route r k).trans (by rw [candidateOf_address a here]; rfl))
  · intro absent
    exact sets ((write_route r k).trans (by rw [candidateOf_absent absent]; rfl))
  · intro above present
    exact refuses ((write_route r k).trans (by rw [candidateOf_none above present]; rfl))
  · intro item unknown
    by_cases draw : 16 ≤ item.toNat ∧ item.toNat < 47
    · exact refuses (write_undrawn draw (by omega))
    · exact refuses ((write_above (by omega)).trans (by rw [if_neg (by omega), if_neg (by omega)]))

end Sys2Proof.Machine
end

section
/-! SUPPORT. CONFIG_CLOSE: its checks in their order, and a close with nothing to restore (R167 to R169). -/

namespace Sys2Proof.Machine
open Host

section
variable {s : State} {c : Configuration} {r k : Fin 4} {p : PosIx}

/-! ### The command by line state -/

theorem exec_configClose_config (config : s.mem.line = .config) : exec .configClose s = .next s.deliver.tryClose := by
  refine exec_open (by simp [config]) (by simp [config]) ?_
  have line : s.deliver.mem.line = .config := config
  rw [if_pos line]

theorem tryClose_accepted (power : s.pins.pfw = false) (sound : s.conf.fault = none) : s.tryClose = s.close := by
  simp [State.tryClose, power, sound]

/-! ### The checks (R167) -/

/-- A configured position that draws from no budget. -/
def Items.Idle (it : Items) (p : PosIx) : Prop := p.val < it.positionCount ∧ ∀ b : BudgetIx, it.draws[p][b] = 0

theorem undrawn_some (idle : c.items.Idle p) (first : ∀ q, q < p → ¬c.items.Idle q) : c.items.undrawn = some p := by
  have iff (q : PosIx) : (decide (q.val < c.items.positionCount) && budgets.all fun b => decide (c.items.draws[q][b] = 0)) = true
      ↔ c.items.Idle q := by
    rw [Bool.and_eq_true, decide_eq_true_eq, List.all_eq_true, Items.Idle]
    simp only [decide_eq_true_eq]
    exact and_congr_right' ⟨fun all b => all b (List.mem_finRange b), fun all b _ => all b⟩
  exact find_of_least (List.pairwise_lt_finRange 8) (List.mem_finRange p) ((iff p).mpr idle)
    fun q less => Bool.eq_false_iff.mpr fun here => first q less ((iff q).mp here)

theorem undrawn_none (drawn : ∀ p, ¬c.items.Idle p) : c.items.undrawn = none := by
  refine List.find?_eq_none.mpr fun p _ here => drawn p ?_
  rw [Bool.and_eq_true, decide_eq_true_eq, List.all_eq_true] at here
  exact ⟨here.1, fun b => of_decide_eq_true (here.2 b (List.mem_finRange b))⟩

/-- A candidate that breaks check 4 of its route. -/
def Broken (own : Addr) (route : Vector (Option Addr) 4) (k : Fin 4) : Prop :=
  ∃ a : Addr, route[k] = some a ∧ (a = own ∨ ∃ j : Fin 4, j < k ∧ (route[j] = none ∨ route[j] = some a))

theorem brokenCandidate_iff {own : Addr} {route : Vector (Option Addr) 4} :
    brokenCandidate own route k = true ↔ Broken own route k := by
  unfold brokenCandidate Broken
  cases here : route[k] with
  | none => simp
  | some a => simp

theorem brokenRoute_some {own : Addr} (broken : Broken own c.items.routes[r] k)
    (first : ∀ j, j < k → ¬Broken own c.items.routes[r] j) (earlier : ∀ q j, q < r → ¬Broken own c.items.routes[q] j) :
    c.items.brokenRoute own = some (r, k) := by
  have kept (route : Vector (Option Addr) 4) (j : Fin 4) (sound : ¬Broken own route j) : brokenCandidate own route j = false :=
    Bool.eq_false_iff.mpr (mt brokenCandidate_iff.mp sound)
  obtain ⟨front, back, split⟩ := List.append_of_mem (List.mem_finRange r)
  have sorted := List.pairwise_lt_finRange 4
  rw [split] at sorted
  refine List.findSome?_eq_some_iff.mpr ⟨front, r, back, split, ?_, fun q inFront => ?_⟩
  · rw [find_of_least (List.pairwise_lt_finRange 4) (List.mem_finRange k) (brokenCandidate_iff.mpr broken)
      fun j less => kept _ j (first j less)]
    rfl
  · have less := (List.pairwise_append.mp sorted).2.2 q inFront r List.mem_cons_self
    rw [List.find?_eq_none.mpr fun j _ here => earlier q j less (brokenCandidate_iff.mp here)]
    rfl

theorem brokenRoute_none {own : Addr} (kept : ∀ r k : Fin 4, ¬Broken own c.items.routes[r] k) :
    c.items.brokenRoute own = none := by
  refine List.findSome?_eq_none_iff.mpr fun r _ => ?_
  rw [List.find?_eq_none.mpr fun k _ here => kept r k (brokenCandidate_iff.mp here)]
  rfl

theorem fault_checked (rate : c.rate ≠ 3) (count : ¬roleMaxPositions c.role < c.items.positionCount) : c.fault =
    match c.items.undrawn with
    | some p => some (byte (16 + 4 * p.val), byte p.val)
    | none => (c.items.brokenRoute c.address).map fun (r, k) => (byte (64 + 4 * r.val + k.val), byte (k.val + 1)) := by
  rw [Configuration.fault, if_neg rate, if_neg count] <;> rfl

/-! ### A close with nothing to restore (R168, R174) -/

theorem queueFrame_empty {o : Origin} {f : Frame} (silent : s.lbi.tx = []) : s.queueFrame o f =
    { s with lbi := { s.lbi with tx := [{ origin := o, frame := f, voids := 0, held := .none }], stall := some 0 } } := by
  simp [State.queueFrame, State.txHas, silent]

/-- The positions opened and RESTORED reported with no record (R168, R174). -/
def State.openedFresh (s : State) : State :=
  { s.openPositions with port := { s.port with events := [stationEvent .restored 0] } }

theorem pos_openPositions (live : p.val < s.conf.items.positionCount) :
    s.openPositions.pos p = { Position.blank with interlock := s.pins.ilk[p] } := by
  simp [State.pos, State.openPositions, live]

/-- The station then JOINING, its JOIN queued (R168). -/
def State.closedFresh (s : State) : State :=
  { s.openedFresh.joinStarted with
    port := { s.port with events := [stationEvent .restored 0, stationEvent .lineState (1 * 256 + 1)] }
    lbi := { s.lbi with
      tx := [{ origin := .upkeep, frame := { kind := .join, dest := 31, payload := [roleCode s.conf.role] }, voids := 0,
               held := .none }]
      stall := some 0 } }

theorem close_nothing (fresh : s.ret.written = false) :
    s.close = ((s.openPositions.postRestored 0).placement.enterJoining .closed).ok 1 0 0 := by
  have judged : s.openPositions.judgeRetention = .nothing := by
    simp [State.judgeRetention, State.openPositions, fresh]
  simp only [State.close, State.restore, judged]
  rfl

theorem close_fresh (config : s.mem.line = .config) (fresh : s.ret.written = false) (silent : s.lbi.tx = [])
    (empty : s.arrivalQueue = []) (quiet : s.port.events = []) : s.close = s.closedFresh.ok 1 0 0 := by
  have restored : s.openPositions.postRestored 0 = s.openedFresh := by
    have room : s.openPositions.port.events.length < 32 := by
      rw [show s.openPositions.port = s.port from rfl, quiet]
      decide
    refine (post_awake ?_ ?_ _).trans ((if_pos room).trans ?_)
    · exact fun line => absurd (config.symm.trans line) (by decide)
    · exact fun line => absurd (config.symm.trans line) (by decide)
    · rw [show s.openPositions.port = s.port from rfl, quiet]
      rfl
  have settled : s.openedFresh.placement = s.openedFresh := placement_settled (.inr empty)
  have free : s.openedFresh.txHas .upkeep = false := by
    rw [State.txHas, show s.openedFresh.lbi = s.lbi from rfl, silent]
    rfl
  have silent' : s.openedFresh.joinStarted.lbi.tx = [] := silent
  rw [close_nothing fresh, restored, settled, enterJoining_free _ free, queueFrame_empty silent']
  refine congrArg (State.ok 1 0 0) ((post_awake ?_ ?_ _).trans (if_pos ?_))
  · exact show LineState.joining ≠ .saving by decide
  · exact show LineState.joining ≠ .dormant by decide
  · exact show 1 < 32 by decide

end

/-- Settles O58. -/
theorem configClosesInOrder : Obligations.ConfigClosesInOrder := by
  refine ⟨fun s => ⟨?_, ?_, ?_, ?_⟩, ?_⟩
  · intro active
    have line : ¬s.deliver.mem.line = .config := fun config => by simp [State.isActive, show s.mem.line = .config from config] at active
    exact ⟨exec_active active (if_neg line), fun item v => exec_active active (if_neg line)⟩
  · intro config busy
    refine (exec_configClose_config config).trans (congrArg Outcome.next (if_pos ?_))
    exact busy
  · intro item index config power fault
    refine (exec_configClose_config config).trans (congrArg Outcome.next ?_)
    have power' : s.deliver.pins.pfw = false := power
    have fault' : s.deliver.conf.fault = some (item, index) := fault
    simp only [State.tryClose, power', fault', Bool.false_eq_true, if_false]
    rfl
  · intro config power sound fresh silent empty quiet
    have accepted : s.deliver.tryClose = s.deliver.close := tryClose_accepted power sound
    refine ⟨_, (exec_configClose_config config).trans (congrArg Outcome.next (accepted.trans
      (close_fresh (s := s.deliver) config fresh silent empty quiet))), rfl, fun p live => ?_, rfl, rfl, rfl, rfl, rfl, rfl, rfl, rfl⟩
    have there : (s.deliver.closedFresh.ok 1 0 0).pos p = { Position.blank with interlock := s.pins.ilk[p] } :=
      pos_openPositions live
    rw [there]
    exact ⟨rfl, rfl, rfl, rfl, rfl, rfl⟩
  · intro c most idle broken
    have max : roleMaxPositions c.role = most := by cases role : c.role <;> simp [most, role] <;> rfl
    refine ⟨fun rate => if_pos rate, fun rate => ⟨fun above => ?_, fun inside => ?_⟩⟩
    · rw [Configuration.fault, if_neg rate, max, if_pos above]
    · have checked := fault_checked rate (by rw [max]; exact Nat.not_lt.mpr inside)
      refine ⟨fun p here first => ?_, fun drawn => ⟨fun r k here first earlier => ?_, fun kept => ?_⟩⟩
      · rw [checked, undrawn_some here first]
      · rw [checked, undrawn_none drawn, brokenRoute_some here first earlier]
        rfl
      · rw [checked, undrawn_none drawn, brokenRoute_none kept]
        rfl

end Sys2Proof.Machine
end

section
/-! SUPPORT. A frame of another station addressed to this one, and the judgement of a BOOK at its receiver (R81, R145,
R147). -/

namespace Sys2Proof.Machine
open Host

section
variable {s : State} {a : Addr} {kind : FrameKind} {payload : List Byte} {q : BookRequest} {p : PosIx} {h : Handle}

/-! ### What another station's frame leaves (R83, R97) -/

theorem store_heard : (s.heard a).store = s.store := by simp [State.heard]

theorem seqr_heard : (s.heard a).seqr = s.seqr := by simp [State.heard]

theorem bookings_heard : (s.heard a).bookings = s.bookings := by simp [State.heard]

theorem recOpt_heard (h : Handle) : (s.heard a).rec? h = s.rec? h := by simp only [State.rec?, State.slot, store_heard]

theorem resident_heard (t : Tag) : (s.heard a).resident t = s.resident t := by simp only [State.resident, recOpt_heard]

theorem lowestEmpty_heard : (s.heard a).lowestEmpty = s.lowestEmpty := by
  simp only [State.lowestEmpty, State.livePositions, State.pos, conf_heard, seqr_heard] <;> rfl

theorem framesOf_heard {o : Origin} (other : ∀ b, o ≠ .departure b) : (s.heard a).framesOf o = s.framesOf o := by
  unfold State.heard State.noteSender
  split
  · rw [framesOf_withdrawTx, if_neg (other a).symm]
    rfl
  · rfl

theorem txHas_heard {o : Origin} (other : ∀ b, o ≠ .departure b) : (s.heard a).txHas o = s.txHas o := by
  rw [Bool.eq_iff_iff, txHas_iff, txHas_iff, framesOf_heard other]

theorem freeAnswer_heard : (s.heard a).freeAnswer = s.freeAnswer := by
  have same (i : Fin 8) : (s.heard a).txHas (.answer i) = s.txHas (.answer i) := txHas_heard fun b => by simp
  simp only [State.freeAnswer, same]

/-! ### A frame addressed to this station (R81) -/

theorem addressed_heard : (s.heard a).addressed (destOf s.conf.address) = true := by
  simp [State.addressed, conf_heard]

/-- Another station's frame to this one, of a kind that bars no first station. -/
theorem appear_addressed {blocks : OwnTx → State → State} (active : s.isActive = true) (other : a ≠ s.conf.address)
    (free : ∀ digest, barsFirst digest kind payload = false) :
    s.appear kind a (destOf s.conf.address) payload blocks = (blocks .foreign (s.heard a)).tryServe := by
  have bar : (s.heard a).noteBar kind payload = s.heard a := by simp [State.noteBar, free]
  have passes : (s.heard a).receives kind a (destOf s.conf.address) = true := by simp [State.receives, conf_heard]
  rw [appear_foreign_noted active other, bar, if_pos passes]

/-- A BOOK is judged where the station that it is addressed to serves no joiner. -/
theorem exec_book (active : s.isActive = true) (other : a ≠ s.conf.address) (reads : bookPayload payload = some q)
    (empty : s.mem.joinQueue = []) :
    exec (.bookAppears a (destOf s.conf.address) payload) s = .next ((s.heard a).takeBook a q) := by
  refine congrArg Outcome.next ((appear_addressed active other fun _ => rfl).trans ?_)
  have taken : (s.heard a).onBook .foreign a (destOf s.conf.address) payload = (s.heard a).takeBook a q := by
    simp only [State.onBook, reads]
    exact if_pos addressed_heard
  rw [taken]
  exact tryServe_idle (by rw [mem_takeBook]; exact joinQueue_heard.trans empty)

/-! ### The judgement of a BOOK (R145) -/

theorem takeBook_off (off : s.mem.line = .detached ∨ s.mem.line = .out ∨ s.mem.line = .mismatch) : s.takeBook a q = s := by
  rcases off with line | line | line <;> simp only [State.takeBook, line]

theorem takeBook_joining (joining : s.mem.line = .joining) : s.takeBook a q = s.answerRefused a q.tag .notJoined := by
  simp only [State.takeBook, joining]

theorem takeBook_role (joined : s.mem.line = .joined) (other : stepRole q.kind ≠ s.conf.role) :
    s.takeBook a q = s.answerRefused a q.tag .wrongRole := by
  simp only [State.takeBook, joined, if_pos other]

theorem takeBook_resident (joined : s.mem.line = .joined) (role : stepRole q.kind = s.conf.role) (here : s.resident q.tag ≠ none) :
    s.takeBook a q = s.answerRefused a q.tag .duplicateTag := by
  simp only [State.takeBook, joined, if_neg (not_not.mpr role), Option.isSome_iff_ne_none]
  exact if_pos here

theorem takeBook_entry {b : Booking} (joined : s.mem.line = .joined) (role : stepRole q.kind = s.conf.role)
    (away : s.resident q.tag = none)
    (stands : s.bookings.find? (fun b => decide (b.tag = q.tag) && decide (b.booker = a)) = some b) :
    s.takeBook a q = s.renewEntry a q b := by
  simp only [State.takeBook, joined, if_neg (not_not.mpr role), away, stands, Option.isSome_none, Bool.false_eq_true, if_false]

/-- A BOOK of a new tag: the last lines of R145. -/
theorem takeBook_new (joined : s.mem.line = .joined) (role : stepRole q.kind = s.conf.role) (away : s.resident q.tag = none)
    (new : ∀ b ∈ s.bookings, ¬(b.tag = q.tag ∧ b.booker = a)) : s.takeBook a q =
      if q.renewal then s.answerRefused a q.tag .notBooked
      else
        match s.lowestEmpty with
        | none => s.answerRefused a q.tag .noPosition
        | some p =>
          if s.freeCount = 0 then s.answerRefused a q.tag .noSlot
          else if s.freeAnswer.isNone then s
          else s.reserve a q p := by
  have absent : s.bookings.find? (fun b => decide (b.tag = q.tag) && decide (b.booker = a)) = none :=
    List.find?_eq_none.mpr fun b m => by simpa using new b m
  simp only [State.takeBook, joined, if_neg (not_not.mpr role), away, absent, Option.isSome_none, Bool.false_eq_true, if_false]
    <;> rfl

theorem reserve_eq {rest : List Handle} (free : s.store.freeList = h :: rest) : s.reserve a q p =
    (State.queueAnswer (tagByteFrame .booked a q.tag (byte p.val)) (({ s with
      store := { s.store with freeList := rest, slots := s.store.slots.set h { s.store.slots[h] with state := .reserved } }
      bookings := s.bookings ++ [{ tag := q.tag, booker := a, position := p, slot := h, kind := q.kind, hold := q.hold,
                                   timer := 0, status := .offered }] } : State).updPos p fun x =>
        { x with state := .booked, link := none })).judgeSlots := by
  have taken := takeSlot_eq_some.mpr ⟨rest, free, rfl⟩
  simp only [State.reserve, taken]
  rfl

end

/-- Settles O52. -/
theorem bookJudged : Obligations.BookJudged := by
  intro a payload q s other reads empty u judged answer
  have line : u.mem.line = s.mem.line := line_heard
  have runs (active : s.isActive = true) {o : State} (taken : u.takeBook a q = o) : judged o :=
    (exec_book active other reads empty).trans (congrArg Outcome.next taken)
  refine ⟨fun off => ?_, fun joining => ?_, fun joined role => ?_, fun joined role => ⟨fun here => ?_, fun away => ⟨fun b stands => ?_, fun new => ?_⟩⟩⟩
  · refine runs ?_ (takeBook_off (by rw [line]; exact off))
    rcases off with off | off | off <;> simp [State.isActive, off]
  · exact runs (by simp [State.isActive, joining]) (takeBook_joining (line.trans joining))
  · exact runs (isActive_of_joined joined) (takeBook_role (line.trans joined) (by rw [conf_heard]; exact role))
  · exact runs (isActive_of_joined joined) (takeBook_resident (line.trans joined) (by rw [conf_heard]; exact role)
      (by rw [resident_heard]; exact here))
  · refine runs (isActive_of_joined joined) ((takeBook_entry (b := b) (line.trans joined) (by rw [conf_heard]; exact role)
      (by rw [resident_heard]; exact away) (by rw [bookings_heard]; exact stands)).trans ?_)
    have same : u.bookings = s.bookings := bookings_heard
    rw [State.renewEntry, same]
    rfl
  · have judging := takeBook_new (a := a) (line.trans joined) (by rw [conf_heard]; exact role) (by rw [resident_heard]; exact away)
      (by rw [bookings_heard]; exact new)
    have active := isActive_of_joined joined
    refine ⟨fun renewal => runs active (judging.trans (if_pos renewal)), fun first => ?_⟩
    rw [if_neg (by simp [first]), lowestEmpty_heard] at judging
    refine ⟨fun full => runs active (judging.trans (by rw [full]; rfl)), fun p lowest => ?_⟩
    rw [lowest] at judging
    have same : u.store = s.store := store_heard
    refine ⟨fun none => runs active (judging.trans (if_pos ?_)), fun h rest free => ?_⟩
    · rw [State.freeCount, same, none]
      rfl
    · have some : ¬u.freeCount = 0 := by
        rw [State.freeCount, same, free]
        exact Nat.succ_ne_zero _
      have judging := judging.trans (if_neg some)
      rw [freeAnswer_heard] at judging
      refine ⟨fun full => runs active (judging.trans (by rw [full]; rfl)), fun room => runs active (judging.trans ?_)⟩
      have open_ : ¬s.freeAnswer.isNone = true := by simpa using room
      rw [if_neg open_]
      refine (reserve_eq (s := u) (by rw [same]; exact free)).trans ?_
      rw [same, show u.bookings = s.bookings from bookings_heard]
      rfl

end Sys2Proof.Machine
end

section
/-! SUPPORT. The answers that reach a booker: BOOKED, REFUSED, TAKEN, REJECT and FOUND (R141, R142, R154, R155, R158). -/

namespace Sys2Proof.Machine
open Host

section
variable {s : State} {a : Addr} {t : Tag} {h : Handle} {r : Record} {p q : PosIx} {k : Nat} {reason b : Byte}

/-! ### The payloads read -/

theorem tagBytePayload_append (reads : tagPayload (tagBytes t) = some t) : tagBytePayload (tagBytes t ++ [b]) = some (t, b) :=
  congrArg (Option.map fun x => (x, b)) reads

theorem bookedPayload_append (reads : tagPayload (tagBytes t) = some t) :
    bookedPayload (tagBytes t ++ [byte p.val]) = some (t, p) := by
  simp [bookedPayload, tagBytePayload_append reads]

theorem bookedPayload_above (reads : tagPayload (tagBytes t) = some t) : bookedPayload (tagBytes t ++ [b]) =
    (finOf 8 b).map fun p => (t, p) := by
  simp [bookedPayload, tagBytePayload_append reads]

theorem reasonPayload_append (reads : tagPayload (tagBytes t) = some t) : reasonPayload (tagBytes t ++ [b]) =
    if reasonDefined b then some (t, b) else none := by
  simp only [reasonPayload, tagBytePayload_append reads]

/-! ### The record that an answer is for -/

theorem tag_of_resident (here : s.resident t = some h) (stands : s.rec? h = some r) : r.tag = t := by
  obtain ⟨x, found, tag⟩ := resident_rec here
  rw [← Option.some.inj (found.symm.trans stands)]
  exact tag

theorem matched_asking (here : s.resident t = some h) (stands : s.rec? h = some r) (asks : r.booking = .asking k a)
    (runs : r.answerTimer ≠ none) : s.matched a t = some (h, r) := by
  simp [State.matched, here, stands, asks, Option.isSome_iff_ne_none, runs]

theorem matched_other (here : s.resident t = some h) (stands : s.rec? h = some r)
    (other : ∀ k, r.booking = .asking k a → r.answerTimer = none) : s.matched a t = none := by
  cases booking : r.booking with
  | none => simp [State.matched, here, stands, booking]
  | held d q => simp [State.matched, here, stands, booking]
  | asking j c =>
    have stopped : ¬(c = a ∧ r.answerTimer.isSome = true) := by
      rintro ⟨rfl, runs⟩
      rw [other j booking] at runs
      cases runs
    simp only [State.matched, here, stands, booking, if_neg stopped]

theorem matched_away (away : s.resident t = none) : s.matched a t = none := by simp [State.matched, away]

theorem bookedAt_held (here : s.resident t = some h) (stands : s.rec? h = some r) (held : r.booking = .held a q) :
    s.bookedAt a t = some h := by
  simp [State.bookedAt, here, stands, held]

theorem bookedAt_other (here : s.resident t = some h) (stands : s.rec? h = some r) (other : ∀ q, r.booking ≠ .held a q) :
    s.bookedAt a t = none := by
  cases booking : r.booking with
  | none => simp [State.bookedAt, here, stands, booking]
  | asking j c => simp [State.bookedAt, here, stands, booking]
  | held d q =>
    have apart : d ≠ a := by
      rintro rfl
      exact other q booking
    simp [State.bookedAt, here, stands, booking, apart]

theorem bookedAt_away (away : s.resident t = none) : s.bookedAt a t = none := by simp [State.bookedAt, away]

/-! ### BOOKED and REFUSED (R141, R142, R147) -/

theorem takeBooked_matched (here : s.resident t = some h) (stands : s.rec? h = some r) (asks : r.booking = .asking k a)
    (runs : r.answerTimer ≠ none) : s.takeBooked a t p = match r.state with
      | .loaded => (s.setRec h { r with booking := .held a p, answerTimer := none, exhausted := false }).judgeReady h
      | .ended => (s.setRec h { r with booking := .held a p, answerTimer := none, exhausted := false }).startTransfer h
      | .queued | .placed | .inbound | .waiting | .running | .paused | .outbound | .uncertain | .finished | .held =>
        s.setRec h { r with booking := .held a p, answerTimer := none, exhausted := false } := by
  simp only [State.takeBooked, matched_asking here stands asks runs] <;> rfl

theorem takeBooked_held (here : s.resident t = some h) (stands : s.rec? h = some r) (held : r.booking = .held a q) :
    s.takeBooked a t p = s := by
  have other : s.matched a t = none := matched_other here stands fun k asks => by rw [held] at asks; cases asks
  simp only [State.takeBooked, other, bookedAt_held here stands held]

theorem takeBooked_unmatched (joined : s.mem.line = .joined) (other : s.matched a t = none) (unbooked : s.bookedAt a t = none) :
    s.takeBooked a t p = s.queueAnswer (tagFrame .cancel a t) := by
  simp [State.takeBooked, other, unbooked, State.silent, joined]

theorem takeRefused_matched (here : s.resident t = some h) (stands : s.rec? h = some r) (asks : r.booking = .asking k a)
    (runs : r.answerTimer ≠ none) : s.takeRefused a t = s.failCandidate h := by
  simp only [State.takeRefused, matched_asking here stands asks runs]

theorem takeRefused_held (here : s.resident t = some h) (stands : s.rec? h = some r) (held : r.booking = .held a q) :
    s.takeRefused a t = s.dropBooking h := by
  have other : s.matched a t = none := matched_other here stands fun k asks => by rw [held] at asks; cases asks
  simp only [State.takeRefused, other, bookedAt_held here stands held]

theorem takeRefused_unmatched (other : s.matched a t = none) (unbooked : s.bookedAt a t = none) : s.takeRefused a t = s := by
  simp only [State.takeRefused, other, unbooked]

/-! ### TAKEN, REJECT and FOUND (R154, R155, R158) -/

theorem withdrawSlot_free (free : s.txHas (.slot h) = false) (kind : FrameKind) : s.withdrawSlot h kind = s := by
  simp [State.withdrawSlot, txEntry_none free]

theorem takenBy_iff : r.takenBy a = true ↔ (∃ p, r.state = .outbound ∧ r.booking = .held a p) ∨ r.state = .uncertain := by
  cases state : r.state <;> cases booking : r.booking <;> simp [Record.takenBy, state, booking]

theorem handOver_taken (joined : s.mem.line = .joined) (here : s.resident t = some h) (stands : s.rec? h = some r)
    (taken : r.takenBy a = true) (free : s.txHas (.slot h) = false) (idle : (s.slot h).waits = []) : s.handOver a t =
      (((s.post (recordEvent .handoffDone r.position h t a.val)).vacate? r.position .clearing).freeSlot h).judgeSlots := by
  have tag := tag_of_resident here stands
  have idle' : (((s.post (recordEvent .handoffDone r.position h r.tag a.val)).vacate? r.position .clearing).slot h).waits = [] := by
    rw [State.slot, store_vacateOpt, store_post]
    exact idle
  have free' : ((s.post (recordEvent .handoffDone r.position h r.tag a.val)).vacate? r.position .clearing).txHas (.slot h) = false := by
    rw [State.txHas, tx_vacateOpt, tx_post]
    exact free
  have on : ¬(!s.isJoined) = true := by simp [State.isJoined, joined]
  simp only [State.handOver, if_neg on, here, stands, if_pos taken, State.deleteRecord]
  rw [dropWaits_idle _ idle', withdrawSlot_free free', tag]

theorem handOver_other (here : s.resident t = some h) (stands : s.rec? h = some r) (other : ¬r.takenBy a = true) :
    s.handOver a t = s := by
  simp [State.handOver, here, stands, other]

theorem handOver_away (away : s.resident t = none) : s.handOver a t = s := by simp [State.handOver, away]

theorem rejected_outbound (here : s.resident t = some h) (stands : s.rec? h = some r) (held : r.booking = .held a q)
    (out : r.state = .outbound) (free : s.txHas (.slot h) = false) (idle : (s.slot h).waits = []) : s.rejected a t reason =
      (s.setRec h { r with booking := .none, carry := none, handOffTimer := none }).enterHeld h .handoffRejected
        (reason.setWidth 24) false := by
  have stopped : s.stopTransfer h = s.setRec h { r with carry := none, handOffTimer := none } := by
    rw [State.stopTransfer, dropWaits_idle _ idle, withdrawSlot_free free, updRec_some h _ r s stands]
  have there : s.recIn h .outbound = true := by simp [State.recIn, stands, out]
  simp only [State.rejected, bookedAt_held here stands held, if_pos there, stopped]
  rw [updRec_some h _ _ _ (recOpt_setRec_same h _ s), setRec_setRec]

theorem rejected_other (here : s.resident t = some h) (stands : s.rec? h = some r)
    (other : ∀ p, r.state = .outbound → r.booking ≠ .held a p) : s.rejected a t reason = s := by
  by_cases held : ∃ q, r.booking = .held a q
  · obtain ⟨q, held⟩ := held
    have kept : ¬s.recIn h .outbound = true := by
      simp only [State.recIn, stands]
      exact fun out => other q (by simpa using out) held
    simp only [State.rejected, bookedAt_held here stands held, if_neg kept]
  · simp only [State.rejected, bookedAt_other here stands fun q same => held ⟨q, same⟩]

theorem rejected_away (away : s.resident t = none) : s.rejected a t reason = s := by simp [State.rejected, bookedAt_away away]

theorem found_uncertain (here : s.resident t = some h) (stands : s.rec? h = some r) (lost : r.state = .uncertain) : s.found a t =
    ((s.post (recordEvent .locateResult none h t (256 + a.val))).freeSlot h).judgeSlots := by
  simp [State.found, here, State.recIn, stands, lost, State.deleteRecord]

theorem found_other (here : s.resident t = some h) (stands : s.rec? h = some r) (kept : r.state ≠ .uncertain) : s.found a t = s := by
  simp [State.found, here, State.recIn, stands, kept]

theorem found_away (away : s.resident t = none) : s.found a t = s := by simp [State.found, away]

/-! ### The appearances -/

/-- Another station's frame to this JOINED one, which serves no joiner: what the block leaves. -/
theorem appear_addressed_joined {kind : FrameKind} {payload : List Byte} {blocks : OwnTx → State → State} {o : State}
    (joined : s.mem.line = .joined) (other : a ≠ s.conf.address) (empty : s.mem.joinQueue = [])
    (free : ∀ digest, barsFirst digest kind payload = false) (runs : blocks .foreign (s.heard a) = o)
    (mem : (blocks .foreign (s.heard a)).mem = (s.heard a).mem) :
    (.next (s.appear kind a (destOf s.conf.address) payload blocks) : Result) = .next o := by
  rw [appear_addressed (isActive_of_joined joined) other free, ← runs]
  exact congrArg Outcome.next (tryServe_idle (by rw [mem]; exact joinQueue_heard.trans empty))

theorem exec_bookedAppears {o : State} (joined : s.mem.line = .joined) (other : a ≠ s.conf.address) (empty : s.mem.joinQueue = [])
    (reads : tagPayload (tagBytes t) = some t) (runs : (s.heard a).takeBooked a t p = o) :
    exec (.bookedAppears a (destOf s.conf.address) (tagBytes t ++ [byte p.val])) s = .next o := by
  have block : (s.heard a).onBooked .foreign a (destOf s.conf.address) (tagBytes t ++ [byte p.val]) = (s.heard a).takeBooked a t p := by
    simp only [State.onBooked, bookedPayload_append reads, OwnTx.wanted, Bool.false_eq_true, if_false]
    exact if_pos addressed_heard
  exact appear_addressed_joined joined other empty (fun _ => rfl) (block.trans runs) (by rw [block, mem_takeBooked])

theorem exec_refusedAppears {o : State} (joined : s.mem.line = .joined) (other : a ≠ s.conf.address) (empty : s.mem.joinQueue = [])
    (reads : tagPayload (tagBytes t) = some t) (runs : (if reasonDefined b then (s.heard a).takeRefused a t else s.heard a) = o) :
    exec (.refusedAppears a (destOf s.conf.address) (tagBytes t ++ [b])) s = .next o := by
  have block : (s.heard a).onRefused a (destOf s.conf.address) (tagBytes t ++ [b]) =
      if reasonDefined b then (s.heard a).takeRefused a t else s.heard a := by
    simp only [State.onRefused, reasonPayload_append reads]
    cases reasonDefined b
    · rfl
    · exact if_pos addressed_heard
  refine appear_addressed_joined joined other empty (fun _ => rfl) (block.trans runs) (block ▸ ?_)
  split
  · exact mem_takeRefused a t _
  · rfl

theorem exec_takenAppears {o : State} (joined : s.mem.line = .joined) (other : a ≠ s.conf.address) (empty : s.mem.joinQueue = [])
    (reads : tagPayload (tagBytes t) = some t) (runs : (s.heard a).handOver a t = o) :
    exec (.takenAppears a (destOf s.conf.address) (tagBytes t)) s = .next o := by
  have foreign : (s.heard a).isOwn a = false := isOwn_foreign (by rw [conf_heard]; exact other)
  have block : (s.heard a).onTaken a (destOf s.conf.address) (tagBytes t) = (s.heard a).handOver a t := by
    simp only [State.onTaken, reads, foreign, Bool.false_eq_true, if_false]
    exact if_pos addressed_heard
  exact appear_addressed_joined joined other empty (fun _ => rfl) (block.trans runs) (by rw [block, mem_handOver])

theorem exec_rejectAppears {o : State} (joined : s.mem.line = .joined) (other : a ≠ s.conf.address) (empty : s.mem.joinQueue = [])
    (reads : tagPayload (tagBytes t) = some t)
    (runs : (if reasonDefined b then (s.heard a).rejected a t b else s.heard a) = o) :
    exec (.rejectAppears a (destOf s.conf.address) (tagBytes t ++ [b])) s = .next o := by
  have foreign : (s.heard a).isOwn a = false := isOwn_foreign (by rw [conf_heard]; exact other)
  have block : (s.heard a).onReject a (destOf s.conf.address) (tagBytes t ++ [b]) =
      if reasonDefined b then (s.heard a).rejected a t b else s.heard a := by
    simp only [State.onReject, reasonPayload_append reads]
    cases reasonDefined b
    · rfl
    · simp only [if_true, foreign, Bool.false_eq_true, if_false]
      exact if_pos addressed_heard
  refine appear_addressed_joined joined other empty (fun _ => rfl) (block.trans runs) (block ▸ ?_)
  split
  · exact mem_rejected a t b _
  · rfl

theorem exec_foundAppears {o : State} (joined : s.mem.line = .joined) (other : a ≠ s.conf.address) (empty : s.mem.joinQueue = [])
    (reads : tagPayload (tagBytes t) = some t) (runs : (s.heard a).found a t = o) :
    exec (.foundAppears a (destOf s.conf.address) (tagBytes t)) s = .next o := by
  have block : (s.heard a).onFound a (destOf s.conf.address) (tagBytes t) = (s.heard a).found a t := by
    simp only [State.onFound, reads]
    exact if_pos addressed_heard
  exact appear_addressed_joined joined other empty (fun _ => rfl) (block.trans runs) (by rw [block, mem_found])

end

/-- Settles O53. -/
theorem answersAtBooker : Obligations.AnswersAtBooker := by
  refine ⟨?_, ?_⟩
  · intro a t h r s joined other empty reads here stands u dest
    have line : u.mem.line = .joined := line_heard.trans joined
    have here' : u.resident t = some h := (resident_heard t).trans here
    have stands' : u.rec? h = some r := (recOpt_heard h).trans stands
    have free' : s.txHas (.slot h) = false → u.txHas (.slot h) = false := fun free => (txHas_heard fun b => by simp).trans free
    have idle' : (s.slot h).waits = [] → (u.slot h).waits = [] := fun idle => by
      rw [State.slot, store_heard]
      exact idle
    refine ⟨fun k p asks runs => ⟨fun loaded => ?_, fun ended => ?_⟩, fun k reason asks runs defined => ?_, fun p q held => ?_,
      fun q reason held defined => ?_, fun unasked unheld => ⟨fun p => ?_, fun reason => ?_⟩, fun taken free idle => ?_,
      fun p reason out held defined free idle => ?_, fun unheld kept => ?_, fun unheld reason => ?_, fun kept => ?_, fun lost => ?_⟩
    · refine exec_bookedAppears joined other empty reads ((takeBooked_matched here' stands' asks runs).trans ?_)
      rw [loaded]
    · refine exec_bookedAppears joined other empty reads ((takeBooked_matched here' stands' asks runs).trans ?_)
      rw [ended]
    · have expired : exec (.answerTimer h) u = .next (u.failCandidate h) := by
        refine congrArg Outcome.next ?_
        simp [State.answerExpired, stands', isActive_of_joined line, Option.isSome_iff_ne_none, runs]
      rw [expired]
      exact exec_refusedAppears joined other empty reads ((if_pos defined).trans (takeRefused_matched here' stands' asks runs))
    · exact exec_bookedAppears joined other empty reads (takeBooked_held here' stands' held)
    · exact exec_refusedAppears joined other empty reads ((if_pos defined).trans (takeRefused_held here' stands' held))
    · exact exec_bookedAppears joined other empty reads (takeBooked_unmatched line (matched_other here' stands' unasked)
        (bookedAt_other here' stands' unheld))
    · refine exec_refusedAppears joined other empty reads ?_
      rw [takeRefused_unmatched (matched_other here' stands' unasked) (bookedAt_other here' stands' unheld), ite_self]
    · exact exec_takenAppears joined other empty reads (handOver_taken line here' stands' (takenBy_iff.mpr taken) (free' free) (idle' idle))
    · exact exec_rejectAppears joined other empty reads ((if_pos defined).trans
        (rejected_outbound here' stands' held out (free' free) (idle' idle)))
    · refine exec_takenAppears joined other empty reads (handOver_other here' stands' ?_)
      rw [takenBy_iff]
      rintro (⟨p, out, held⟩ | lost)
      · exact unheld p out held
      · exact kept lost
    · refine exec_rejectAppears joined other empty reads ?_
      rw [rejected_other here' stands' unheld, ite_self]
    · exact exec_foundAppears joined other empty reads (found_other here' stands' kept)
    · exact exec_foundAppears joined other empty reads (found_uncertain here' stands' lost)
  · intro a t b s joined other empty reads away u dest
    have line : u.mem.line = .joined := line_heard.trans joined
    have away' : u.resident t = none := (resident_heard t).trans away
    refine ⟨fun inside => ?_, ?_, ?_, ?_, ?_⟩
    · have position : byte (⟨b.toNat, inside⟩ : PosIx).val = b := by simp [byte]
      rw [← position]
      exact exec_bookedAppears joined other empty reads (takeBooked_unmatched line (matched_away away') (bookedAt_away away'))
    · refine exec_refusedAppears joined other empty reads ?_
      rw [takeRefused_unmatched (matched_away away') (bookedAt_away away'), ite_self]
    · exact exec_takenAppears joined other empty reads (handOver_away away')
    · refine exec_rejectAppears joined other empty reads ?_
      rw [rejected_away away', ite_self]
    · exact exec_foundAppears joined other empty reads (found_away away')

end Sys2Proof.Machine
end

section
/-! SUPPORT. CANCEL at the receiver and at the booker, LOCATE, and a booking that its receiver drops (R148, R149, R157). -/

namespace Sys2Proof.Machine
open Host

section
variable {s : State} {a : Addr} {t : Tag} {h : Handle} {r : Record} {p : PosIx} {b : Booking} {before after : List Booking}

/-! ### Which tags are resident -/

theorem resident_eq_none : s.resident t = none ↔ ∀ h r, s.rec? h = some r → r.tag ≠ t := by
  rw [State.resident, List.find?_eq_none]
  refine ⟨fun none h r stands same => none h (mem_handles h) (by simp [stands, same]), fun free h _ here => ?_⟩
  cases stands : s.rec? h with
  | none => simp [stands] at here
  | some r => exact free h r stands (by simpa [stands] using here)

/-- Placement keeps every record's tag. -/
theorem tag_placeOne (h : Handle) : (s.placeOne.rec? h).map (·.tag) = (s.rec? h).map (·.tag) := by
  unfold State.placeOne
  split
  · split
    · next g _ _ _ r stands =>
      rw [recOpt_post, recOpt_updPos, recOpt_setRec, recOpt_unqueue]
      split
      · next same => rw [← same, stands]; rfl
      · rfl
    · rw [recOpt_unqueue]
  · rfl

theorem tag_placement (h : Handle) : (s.placement.rec? h).map (·.tag) = (s.rec? h).map (·.tag) := by
  rw [placement_eq_iterate]
  induction 8 with
  | zero => rfl
  | succ n ih => rw [Function.iterate_succ_apply', tag_placeOne, ih]

/-- A tag stays away where no record takes it. -/
theorem resident_none_of_tags {u : State} (away : s.resident t = none)
    (tags : ∀ h x, u.rec? h = some x → ∃ y, s.rec? h = some y ∧ y.tag = x.tag) : u.resident t = none := by
  rw [resident_eq_none] at away ⊢
  intro h x stands same
  obtain ⟨y, stood, tag⟩ := tags h x stands
  exact away h y stood (tag.trans same)

theorem resident_freed (away : s.resident t = none) (h : Handle) : (s.freeSlot h).judgeSlots.placement.resident t = none := by
  refine resident_none_of_tags away fun g x stands => ?_
  have tag := tag_placement (s := (s.freeSlot h).judgeSlots) g
  rw [stands, recOpt_judgeSlots, recOpt_freeSlot] at tag
  split at tag
  · cases tag
  · cases stood : s.rec? g with
    | none => rw [stood] at tag; cases tag
    | some y => exact ⟨y, rfl, by rw [stood] at tag; exact (Option.some.inj tag).symm⟩

/-! ### CANCEL at the receiver (R148) -/

theorem find_books {tag : Tag} (books : s.Books before b after) (here : b.tag = tag) (booker : b.booker = a) :
    s.bookings.find? (fun b => decide (b.tag = tag) && decide (b.booker = a)) = some b := by
  subst here booker
  obtain ⟨list, only⟩ := books
  rw [list, List.find?_append, List.find?_eq_none.mpr fun x m => by
    simpa using (only x (List.mem_append_left _ m)).2]
  simp

theorem books_of_bookings {u : State} (same : u.bookings = s.bookings) (books : s.Books before b after) : u.Books before b after :=
  ⟨same.trans books.1, books.2⟩

/-- An entry freed: its position EMPTY, its slot FREE, the slots judged and placement run (R11, R13, R148). -/
def State.unbooked (s : State) (before : List Booking) (b : Booking) (after : List Booking) : State :=
  State.placement (State.judgeSlots (State.freeSlot b.slot
    ({ s with bookings := before ++ after }.updPos b.position fun x => { x with state := .empty, link := none, stepEn := false })))

theorem resident_of_recOpt {u : State} (same : ∀ h, u.rec? h = s.rec? h) : u.resident t = s.resident t := by
  simp only [State.resident, same]

theorem resident_unbooked (away : s.resident t = none) : (s.unbooked before b after).resident t = none := by
  rw [State.unbooked]
  refine resident_freed ((resident_of_recOpt fun g => ?_).trans away) b.slot
  rw [recOpt_updPos]
  rfl

theorem resident_withdrawAnswers (cond : Frame → Bool) : (s.withdrawAnswers cond).resident t = s.resident t := by
  simp only [State.resident, recOpt_withdrawAnswers]

theorem dropEntries_unbooked (books : s.Books before b after) :
    (s.dropEntries b.same).judgeSlots.placement = s.unbooked before b after := by
  rw [dropEntries_same books]
  rfl

theorem cancelEntry_none (none : ∀ b ∈ s.bookings, ¬(b.tag = t ∧ b.booker = a)) : s.cancelEntry a t = s := by
  have absent : s.bookings.find? (fun b => decide (b.tag = t) && decide (b.booker = a)) = .none :=
    List.find?_eq_none.mpr fun b m => by simpa using none b m
  simp only [State.cancelEntry, absent]

theorem cancelEntry_closing (books : s.Books before b after) (here : b.tag = t) (booker : b.booker = a)
    (closes : b.isClosing = true) : s.cancelEntry a t = s := by
  simp only [State.cancelEntry, find_books books here booker, if_pos closes]

theorem cancelEntry_standing (books : s.Books before b after) (here : b.tag = t) (booker : b.booker = a)
    (stands : b.status = .standing ∨ b.isAssembling = true) : s.cancelEntry a t = s.unbooked before b after := by
  have kept : ¬b.isClosing = true ∧ ¬b.status = .offered := by
    rw [Booking.isClosing]
    rw [Booking.isAssembling] at stands
    cases status : b.status <;> simp_all
  simp only [State.cancelEntry, find_books books here booker, if_neg kept.1, if_neg kept.2]
  exact dropEntries_unbooked books

theorem cancelEntry_offered (books : s.Books before b after) (here : b.tag = t) (booker : b.booker = a)
    (offered : b.status = .offered) : s.cancelEntry a t =
      (s.withdrawAnswers fun f => decide (f = tagByteFrame .booked a t (byte b.position.val))).unbooked before b after := by
  have kept : ¬b.isClosing = true := by simp [Booking.isClosing, offered]
  simp only [State.cancelEntry, find_books books here booker, if_neg kept, if_pos offered]
  exact dropEntries_unbooked (books_of_bookings (bookings_withdrawAnswers _ s) books)

theorem mem_cancelEntry : (s.cancelEntry a t).mem = s.mem := by
  unfold State.cancelEntry
  split
  · rfl
  · split
    · rfl
    · dsimp only
      rw [mem_placement, mem_judgeSlots, mem_dropEntries]
      split
      · exact mem_withdrawAnswers _ s
      · rfl

/-! ### CANCEL at the booker (R149) -/

theorem cancelBooking_away (away : s.resident t = none) : s.cancelBooking a t = s := by
  simp [State.cancelBooking, bookedAt_away away, away]

theorem cancelBooking_held (here : s.resident t = some h) (stands : s.rec? h = some r) (held : r.booking = .held a p) :
    s.cancelBooking a t = s.dropBooking h := by
  simp only [State.cancelBooking, bookedAt_held here stands held]

theorem cancelBooking_kept (here : s.resident t = some h) (stands : s.rec? h = some r) (unbooked : r.booking = .none)
    (kept : r.sentToward ≠ some a) : s.cancelBooking a t = s := by
  have none : s.bookedAt a t = .none := bookedAt_other here stands fun q held => by rw [unbooked] at held; cases held
  simp [State.cancelBooking, none, here, stands, kept]

theorem cancelBooking_uncertain {u : State} (here : s.resident t = some h) (stands : s.rec? h = some r) (unbooked : r.booking = .none)
    (lost : r.state = .uncertain) (toward : r.sentToward = some a)
    (withdrawn : (s.dropWaits h .locate).withdrawSlot h .locate = u) : s.cancelBooking a t =
      (u.setRec h { r with booking := .none, locateTimer := none, sentToward := none }).enterEnded h := by
  have none : s.bookedAt a t = .none := bookedAt_other here stands fun q held => by rw [unbooked] at held; cases held
  have stands' : u.rec? h = some r := by
    rw [← withdrawn, recOpt_withdrawSlot, recOpt_dropWaits]
    exact stands
  have late : r.state = .uncertain ∧ r.sentToward = some a := ⟨lost, toward⟩
  simp only [State.cancelBooking, none, here, stands, if_pos late, withdrawn]
  rw [updRec_some h _ r u stands']

/-! ### The LOCATE that is no longer wanted -/

theorem withdrawSlot_other {e : TxEntry} {k : FrameKind} (entry : s.txEntry (.slot h) = some e) (other : e.frame.kind ≠ k) :
    s.withdrawSlot h k = s := by
  simp only [State.withdrawSlot, entry, if_neg other]

theorem withdrawSlot_idle {e : TxEntry} {k : FrameKind} (entry : s.txEntry (.slot h) = some e) (kind : e.frame.kind = k)
    (idle : (s.slot h).waits = []) : s.withdrawSlot h k = s.withdrawTx (.slot h) := by
  simp only [State.withdrawSlot, entry, if_pos kind]
  exact pumpSlot_idle (by rw [slot_withdrawTx]; exact idle)

theorem dropWaits_locate (waits : (s.slot h).waits = [.locate]) : s.dropWaits h .locate = s.setWaits h [] := by
  simp [State.dropWaits, waits]

theorem waits_heard (h : Handle) : ((s.heard a).slot h).waits = (s.slot h).waits := by simp only [State.slot, store_heard]

theorem txEntry_heard (h : Handle) : (s.heard a).txEntry (.slot h) = s.txEntry (.slot h) := by
  rw [txEntry_eq_head, txEntry_eq_head, framesOf_heard (by simp)]

theorem inTx_heard : (s.heard a).lbi.inTx = s.lbi.inTx := by
  rw [State.heard, State.noteSender]
  split
  · rw [inTx_withdrawTx]
    rfl
  · rfl

/-! ### LOCATE (R157) -/

theorem answerLocate_away (away : s.resident t = none) : s.answerLocate a t = s := by simp [State.answerLocate, away]

theorem answerLocate_held (joined : s.mem.line = .joined) (here : s.resident t = some h) (stands : s.rec? h = some r)
    (kept : r.state ≠ .uncertain) : s.answerLocate a t = s.queueAnswer (tagFrame .found a t) := by
  simp [State.answerLocate, State.isJoined, joined, here, State.recIn, stands, kept]

theorem answerLocate_lost (here : s.resident t = some h) (stands : s.rec? h = some r) (lost : r.state = .uncertain) :
    s.answerLocate a t = s := by
  simp [State.answerLocate, here, State.recIn, stands, lost]

theorem exec_locateAppears {o : State} (joined : s.mem.line = .joined) (other : a ≠ s.conf.address) (empty : s.mem.joinQueue = [])
    (reads : tagPayload (tagBytes t) = some t) (runs : (s.heard a).answerLocate a t = o) :
    exec (.locateAppears a 31 (tagBytes t)) s = .next o := by
  have foreign : (s.heard a).isOwn a = false := isOwn_foreign (by rw [conf_heard]; exact other)
  have block : (s.heard a).onLocate .foreign a (tagBytes t) = (s.heard a).answerLocate a t := by
    simp only [State.onLocate, reads, foreign, Bool.false_eq_true, if_false]
  refine congrArg Outcome.next ((appear_foreign_all (isActive_of_joined joined) other (by simp [joined])).trans ?_)
  rw [block, tryServe_idle (by rw [mem_answerLocate]; exact joinQueue_heard.trans empty), runs]

theorem exec_cancelAppears {o : State} (joined : s.mem.line = .joined) (other : a ≠ s.conf.address) (empty : s.mem.joinQueue = [])
    (reads : tagPayload (tagBytes t) = some t) (runs : ((s.heard a).cancelEntry a t).cancelBooking a t = o) :
    exec (.cancelAppears a (destOf s.conf.address) (tagBytes t)) s = .next o := by
  have block : (s.heard a).onCancel a (destOf s.conf.address) (tagBytes t) = ((s.heard a).cancelEntry a t).cancelBooking a t := by
    simp only [State.onCancel, reads]
    exact if_pos addressed_heard
  exact appear_addressed_joined joined other empty (fun _ => rfl) (block.trans runs) (by rw [block, mem_cancelBooking, mem_cancelEntry])

/-! ### A booking that is dropped (R149) -/

theorem dropBooking_of {st : RecState} (stands : s.rec? h = some r) (state : r.state = st) : s.dropBooking h =
    match (generalizing := false) st with
    | .running | .paused => s.setRec h { r with booking := .none, exhausted := false }
    | .loaded => (s.setRec h { r with booking := .none, exhausted := false }).enterLoaded h
    | .waiting => ((s.setRec h { r with booking := .none, exhausted := false }).giveUpClaim? r.position).enterLoaded h
    | .ended => (s.setRec h { r with booking := .none, exhausted := false }).enterEnded h
    | .outbound => ((s.setRec h { r with booking := .none, exhausted := false }).stopTransfer h).enterEnded h
    | .queued | .placed | .inbound | .uncertain | .finished | .held => s := by
  cases st <;> simp only [State.dropBooking, stands, state]

theorem dropBooking_running (stands : s.rec? h = some r) (running : r.state = .running ∨ r.state = .paused) :
    s.dropBooking h = s.setRec h { r with booking := .none, exhausted := false } := by
  rcases running with state | state <;> exact dropBooking_of stands state

theorem dropBooking_waiting (stands : s.rec? h = some r) (waits : r.state = .waiting) (here : r.position = some p) : s.dropBooking h =
    ((s.setRec h { r with booking := .none, exhausted := false }).giveUpClaim p).enterLoaded h := by
  rw [dropBooking_of stands waits, here]
  rfl

theorem dropBooking_other (stands : s.rec? h = some r) (others : r.state = .queued ∨ r.state = .placed ∨ r.state = .inbound
    ∨ r.state = .uncertain ∨ r.state = .finished ∨ r.state = .held) : s.dropBooking h = s := by
  rcases others with state | state | state | state | state | state <;> exact dropBooking_of stands state

theorem dropBooking_outbound (stands : s.rec? h = some r) (out : r.state = .outbound) (free : s.txHas (.slot h) = false)
    (idle : (s.slot h).waits = []) : s.dropBooking h =
      (s.setRec h { r with booking := .none, exhausted := false, carry := none, handOffTimer := none }).enterEnded h := by
  have idle' : ((s.setRec h { r with booking := .none, exhausted := false }).slot h).waits = [] := by rw [waits_setRec]; exact idle
  have free' : (s.setRec h { r with booking := .none, exhausted := false }).txHas (.slot h) = false := free
  refine (dropBooking_of stands out).trans ?_
  simp only [State.stopTransfer]
  rw [dropWaits_idle _ idle', withdrawSlot_free free', updRec_some h _ _ _ (recOpt_setRec_same h _ s), setRec_setRec]

end

/-- Settles O54. -/
theorem cancelAndLocate : Obligations.CancelAndLocate := by
  refine ⟨?_, ?_⟩
  · intro a t s joined other empty reads u cancel locate
    have line : u.mem.line = .joined := line_heard.trans joined
    have resides {h : Handle} (here : s.resident t = some h) : u.resident t = some h := (resident_heard t).trans here
    have stands' {h : Handle} {r : Record} (stands : s.rec? h = some r) : u.rec? h = some r := (recOpt_heard h).trans stands
    have cancels {o : State} (runs : (u.cancelEntry a t).cancelBooking a t = o) : exec cancel s = .next o :=
      exec_cancelAppears joined other empty reads runs
    have locates {o : State} (runs : u.answerLocate a t = o) : exec locate s = .next o :=
      exec_locateAppears joined other empty reads runs
    refine ⟨fun before after b away books here booker => ?_, fun h r p here stands held none => ?_,
      fun h r here stands lost unbooked unlisted => ?_, fun away => locates (answerLocate_away ((resident_heard t).trans away)),
      fun h r here stands => ⟨fun kept => locates (answerLocate_held line (resides here) (stands' stands) kept),
        fun lost => locates (answerLocate_lost (resides here) (stands' stands) lost)⟩⟩
    · have books' : u.Books before b after := books_of_bookings bookings_heard books
      have away' : u.resident t = none := (resident_heard t).trans away
      intro dropped
      refine ⟨fun closes => cancels ?_, fun standing => cancels ?_, fun offered => cancels ?_⟩
      · rw [cancelEntry_closing books' here booker closes, cancelBooking_away away']
      · rw [cancelEntry_standing books' here booker standing]
        exact cancelBooking_away (resident_unbooked away')
      · rw [cancelEntry_offered books' here booker offered]
        exact cancelBooking_away (resident_unbooked (by rw [resident_withdrawAnswers]; exact away'))
    · have entry := cancelEntry_none (s := u) (by rw [bookings_heard]; exact none)
      have drops := cancels ((congrArg (State.cancelBooking a t) entry).trans (cancelBooking_held (resides here) (stands' stands) held))
      refine ⟨drops, fun running => drops.trans (congrArg Outcome.next ?_)⟩
      exact dropBooking_running (stands' stands) running
    · have entry := cancelEntry_none (s := u) (by rw [bookings_heard]; exact unlisted)
      have ends {w : State} (toward : r.sentToward = some a) (withdrawn : (u.dropWaits h .locate).withdrawSlot h .locate = w) :
          exec cancel s = .next ((w.setRec h { r with booking := .none, locateTimer := none, sentToward := none }).enterEnded h) :=
        cancels ((congrArg (State.cancelBooking a t) entry).trans
          (cancelBooking_uncertain (resides here) (stands' stands) unbooked lost toward withdrawn))
      refine ⟨fun kept => cancels ?_, fun toward idle free => ends toward ?_, fun e entry toward =>
        ⟨fun other waits => ends toward ?_, fun kind idle => ⟨fun rests => ends toward ?_, fun sends => ends toward ?_⟩⟩⟩
      · rw [entry, cancelBooking_kept (resides here) (stands' stands) unbooked kept]
      · rw [dropWaits_idle _ ((waits_heard h).trans idle)]
        exact withdrawSlot_free ((txHas_heard fun _ => by simp).trans free) _
      · rw [dropWaits_locate ((waits_heard h).trans waits)]
        exact withdrawSlot_other ((txEntry_heard _).trans entry) other
      · rw [dropWaits_idle _ ((waits_heard h).trans idle),
          withdrawSlot_idle ((txEntry_heard _).trans entry) kind ((waits_heard h).trans idle)]
        exact withdrawTx_idle (inTx_heard.trans_ne rests)
      · rw [dropWaits_idle _ ((waits_heard h).trans idle),
          withdrawSlot_idle ((txEntry_heard _).trans entry) kind ((waits_heard h).trans idle)]
        exact withdrawTx_sending (s := u) (inTx_heard.trans sends)
  · intro h r s stands
    exact ⟨dropBooking_running stands, dropBooking_of stands, fun _ => dropBooking_waiting stands, dropBooking_of stands,
      dropBooking_outbound stands, dropBooking_other stands⟩

end Sys2Proof.Machine
end

section
/-! SUPPORT. The record image is read back: from a record with its fields in range to its image and back, and from a well
formed image to a record and back (R2, R152, 10.2). -/

namespace Sys2Proof.Machine
open Host

section
variable {im bs : List Byte} {r : Record} {l : List StepEntry} {ds : List Deviation}

/-! ### The codes -/

theorem recStateOf_code (st : RecState) : recStateOf (recStateCode st) = some st := by cases st <;> rfl

theorem stepKindOf_code (k : StepKind) : stepKindOf (stepKindCode k) = some k := by cases k <;> rfl

theorem devKindOf_code (k : DevKind) : devKindOf (devKindCode k) = some k := by cases k <;> rfl

theorem code_of_recState {b : Byte} {st : RecState} (reads : recStateOf b = some st) : recStateCode st = b := by
  revert b st
  decide

theorem code_of_stepKind {b : Byte} {k : StepKind} (reads : stepKindOf b = some k) : stepKindCode k = b := by
  revert b k
  decide

theorem code_of_devKind {b : Byte} {k : DevKind} (reads : devKindOf b = some k) : devKindCode k = b := by
  revert b k
  decide

theorem bytes16_word16 (a b : Byte) : bytes16 (word16 a b) = [a, b] := by
  simp only [bytes16, word16, List.cons.injEq, and_true]
  constructor <;> · ext i hi; simp [BitVec.getLsbD_append, BitVec.getElem_append]; grind

theorem bytes24_word24 (a b c : Byte) : bytes24 (word24 a b c) = [a, b, c] := by
  simp only [bytes24, word24, List.cons.injEq, and_true]
  refine ⟨?_, ?_, ?_⟩ <;> · ext i hi; simp [BitVec.getLsbD_append, BitVec.getElem_append]; grind

theorem bytes32_word32 (a b c d : Byte) : bytes32 (word32 a b c d) = [a, b, c, d] := by
  simp only [bytes32, word32, List.cons.injEq, and_true]
  refine ⟨?_, ?_, ?_, ?_⟩ <;> · ext i hi; simp [BitVec.getLsbD_append, BitVec.getElem_append]; grind

theorem opt16Of_opt16 {x : Option (BitVec 16)} (some_ne : x ≠ some 0) : opt16Of (opt16 x) = x := by
  cases x with
  | none => rfl
  | some v =>
    have other : v ≠ 0 := fun zero => some_ne (congrArg some zero)
    exact if_neg other

theorem opt16_opt16Of (v : BitVec 16) : opt16 (opt16Of v) = v := by
  unfold opt16Of
  split
  · next zero => exact zero.symm
  · rfl

theorem opt16Of_ne (v : BitVec 16) : opt16Of v ≠ some 0 := by
  unfold opt16Of
  split
  · simp
  · next other => exact fun same => other (Option.some.inj same)

theorem byte_of_toNat (b : Byte) : byte b.toNat = b := by simp [byte]

theorem byte_of_finOf {n : Nat} {b : Byte} {i : Fin n} (reads : finOf n b = some i) : byte i.val = b := by
  unfold finOf at reads
  split at reads
  · rw [← Option.some.inj reads]
    exact byte_of_toNat b
  · cases reads

theorem tagBytes_of_tagOf {o e1 e0 s1 s0 : Byte} {t : Tag} (reads : tagOf o e1 e0 s1 s0 = some t) :
    tagBytes t = [o, e1, e0, s1, s0] ∧ t.epoch ≠ 0 ∧ t.seq ≠ 0 := by
  unfold tagOf at reads
  split at reads
  · next a origin =>
    split at reads
    · cases reads
    · next parts =>
      obtain ⟨epoch, seq⟩ := not_or.mp parts
      obtain rfl := Option.some.inj reads
      refine ⟨?_, epoch, seq⟩
      simp only [tagBytes, bytes16_word16, byte_of_finOf origin, List.cons_append, List.nil_append]
  · cases reads

/-- The six flags stand in their bits, and the two low bits are reserved (10.2). -/
theorem bits_of_flags (a b c d e f : Bool) :
    let x := byte (a.toNat * 128 + b.toNat * 64 + c.toNat * 32 + d.toNat * 16 + e.toNat * 8 + f.toNat * 4)
    x.getLsbD 7 = a ∧ x.getLsbD 6 = b ∧ x.getLsbD 5 = c ∧ x.getLsbD 4 = d ∧ x.getLsbD 3 = e ∧ x.getLsbD 2 = f
      ∧ x.getLsbD 1 = false ∧ x.getLsbD 0 = false := by
  revert a b c d e f
  decide

theorem flags_of_bits (x : Byte) (one : x.getLsbD 1 = false) (zero : x.getLsbD 0 = false) :
    byte ((x.getLsbD 7).toNat * 128 + (x.getLsbD 6).toNat * 64 + (x.getLsbD 5).toNat * 32 + (x.getLsbD 4).toNat * 16
      + (x.getLsbD 3).toNat * 8 + (x.getLsbD 2).toNat * 4) = x := by
  revert x
  decide

/-! ### The step list -/

/-- A step entry no option of which is the 0 that the image reads as absent (R193). -/
def StepEntry.Plain (e : StepEntry) : Prop := e.timeLimit ≠ some 0 ∧ e.maxGap ≠ some 0 ∧ e.minGap ≠ some 0

theorem plain_of_validEntry {e : StepEntry} {last : Bool} (valid : validEntry e last = true) : e.Plain := by
  simp only [validEntry, Bool.and_eq_true, decide_eq_true_eq] at valid
  exact ⟨valid.1.1.2, valid.1.2, valid.2⟩

theorem plain_of_validEntries {e : StepEntry} (valid : validEntries l = true) (m : e ∈ l) : e.Plain := by
  fun_induction validEntries l with
  | case1 => cases m
  | case2 e' => exact List.mem_singleton.mp m ▸ plain_of_validEntry valid
  | case3 e' f rest ih =>
    simp only [Bool.and_eq_true] at valid
    obtain here | later := List.mem_cons.mp m
    · exact here ▸ plain_of_validEntry valid.1.1
    · exact ih valid.2 later

theorem plain_of_validSteps {e : StepEntry} (valid : validSteps l = true) (m : e ∈ l) : e.Plain := by
  simp only [validSteps, Bool.and_eq_true] at valid
  exact plain_of_validEntries valid.2 m

theorem stepsOf_flatMap (plain : ∀ e ∈ l, e.Plain) (bs : List Byte) :
    stepsOf l.length (l.flatMap stepBytes ++ bs) = some l := by
  induction l with
  | nil => rfl
  | cons e l ih =>
    obtain ⟨limit, most, least⟩ := plain e List.mem_cons_self
    have rest := ih fun x m => plain x (List.mem_cons_of_mem _ m)
    simp only [List.flatMap_cons, List.length_cons, List.append_assoc, stepBytes, bytes24, bytes16, List.cons_append,
      List.nil_append, stepsOf, stepKindOf_code, rest, word24_bytes24, word16_bytes16, opt16Of_opt16 limit, opt16Of_opt16 most,
      opt16Of_opt16 least]

theorem flatMap_of_stepsOf {n : Nat} (reads : stepsOf n bs = some l) : l.length = n ∧ bs = l.flatMap stepBytes ++ bs.drop (10 * n) := by
  fun_induction stepsOf n bs generalizing l with
  | case1 => cases reads; exact ⟨rfl, rfl⟩
  | case2 n k t2 t1 t0 l1 l0 x1 x0 m1 m0 rest kind es later code ih =>
    obtain rfl := Option.some.inj reads
    obtain ⟨length, split⟩ := ih later
    refine ⟨by simp [length], ?_⟩
    have code' := code_of_stepKind code
    simp only [List.flatMap_cons, stepBytes, code', bytes24_word24, opt16_opt16Of, bytes16_word16, List.cons_append, List.nil_append,
      show 10 * (n + 1) = 10 * n + 10 by ring, List.drop_succ_cons, ← split]
  | case3 => cases reads
  | case4 => cases reads

/-! ### The deviations -/

theorem deviationsOf_flatMap {steps : Nat} (few : steps ≤ 255) (inside : ∀ d ∈ ds, d.stepIndex < steps) (bs : List Byte) :
    deviationsOf steps ds.length (ds.flatMap deviationBytes ++ bs) = some ds := by
  induction ds with
  | nil => rfl
  | cons d ds ih =>
    have low := inside d List.mem_cons_self
    have index : (byte d.stepIndex).toNat = d.stepIndex := byte_toNat _ (by omega)
    have rest := ih fun x m => inside x (List.mem_cons_of_mem _ m)
    simp only [List.flatMap_cons, List.length_cons, List.append_assoc, deviationBytes, bytes24, List.cons_append,
      List.nil_append, deviationsOf, devKindOf_code, rest, word24_bytes24, index, if_pos low]

theorem flatMap_of_deviationsOf {steps n : Nat} (reads : deviationsOf steps n bs = some ds) :
    ds.length = n ∧ bs = ds.flatMap deviationBytes ++ bs.drop (5 * n) ∧ ∀ d ∈ ds, d.stepIndex < steps := by
  fun_induction deviationsOf steps n bs generalizing ds with
  | case1 => cases reads; exact ⟨rfl, rfl, by simp⟩
  | case2 n k i v2 v1 v0 rest kind es later code low ih =>
    obtain rfl := Option.some.inj reads
    obtain ⟨length, split, inside⟩ := ih later
    refine ⟨by simp [length], ?_, ?_⟩
    · have code' := code_of_devKind code
      simp only [List.flatMap_cons, deviationBytes, code', bytes24_word24, byte_of_toNat, List.cons_append, List.nil_append,
        show 5 * (n + 1) = 5 * n + 5 by ring, List.drop_succ_cons, ← split]
    · simpa using ⟨low, inside⟩
  | case3 => cases reads
  | case4 => cases reads
  | case5 => cases reads

/-! ### The other fields -/

theorem heldFromOf_code {hf : Option RecState} (other : hf ≠ some .held) : heldFromOf ((hf.map recStateCode).getD 255) = some hf := by
  cases hf with
  | none => rfl
  | some st =>
    cases st with
    | held => exact absurd rfl other
    | _ => rfl

theorem code_of_heldFrom {b : Byte} {hf : Option RecState} (reads : heldFromOf b = some hf) :
    (hf.map recStateCode).getD 255 = b ∧ hf ≠ some .held := by
  revert b hf
  decide

theorem positionOf_fin255 (p : Option PosIx) : positionOf (fin255 p) = some p := by
  revert p
  decide

theorem fin255_of_position {b : Byte} {p : Option PosIx} (reads : positionOf b = some p) : fin255 p = b := by
  revert b p
  decide

/-- The adopted-from tag at the end of an image, present or not (R193). -/
def adoptedBytes : Option Tag → List Byte
  | some t => tagBytes t
  | none => []

theorem adoptedOf_bytes {ad : Option Tag} (parts : ∀ t, ad = some t → t.epoch ≠ 0 ∧ t.seq ≠ 0) (bs : List Byte) :
    adoptedOf ad.isSome (adoptedBytes ad ++ bs) = some ad := by
  cases ad with
  | none => rfl
  | some t =>
    obtain ⟨epoch, seq⟩ := parts t rfl
    simp only [adoptedOf, adoptedBytes, tagBytes, bytes16, Option.isSome_some, if_true, List.cons_append, List.nil_append,
      tagOf_tagBytes epoch seq, Option.map_some]

theorem bytes_of_adopted {present : Bool} {ad : Option Tag} (reads : adoptedOf present bs = some ad) :
    ad.isSome = present ∧ bs = adoptedBytes ad ++ bs.drop (if present then 5 else 0)
      ∧ ∀ t, ad = some t → t.epoch ≠ 0 ∧ t.seq ≠ 0 := by
  cases present with
  | false =>
    cases reads
    exact ⟨rfl, rfl, by simp⟩
  | true =>
    simp only [adoptedOf, if_true] at reads
    split at reads
    · next o e1 e0 s1 s0 rest =>
      obtain ⟨t, tag, rfl⟩ := Option.map_eq_some_iff.mp reads
      obtain ⟨bytes, epoch, seq⟩ := tagBytes_of_tagOf tag
      refine ⟨rfl, by rw [adoptedBytes, bytes]; rfl, fun u same => ?_⟩
      rw [← Option.some.inj same]
      exact ⟨epoch, seq⟩
    · cases reads

/-! ### The image -/

/-- The 24 bytes of fixed place at the front of an image (10.2). -/
def imageHead (r : Record) : List Byte :=
  tagBytes r.tag ++ bytes32 r.jobRef
    ++ [imageFlags r, recStateCode r.state, (r.heldFrom.map recStateCode).getD 255, fin255 r.position,
        byte r.steps.length, byte r.current, byte r.deviations.length]
    ++ bytes24 r.accumulated ++ bytes24 (r.gapElapsed.getD 0) ++ bytes16 r.pauseTotal

theorem imageBody_eq : imageBody r =
    imageHead r ++ (r.steps.flatMap stepBytes ++ (r.deviations.flatMap deviationBytes ++ adoptedBytes r.adoptedFrom)) := by
  simp only [imageBody, imageHead, List.append_assoc]
  rfl

theorem recordImage_eq : recordImage r = imageHead r ++ (r.steps.flatMap stepBytes ++ (r.deviations.flatMap deviationBytes
    ++ (adoptedBytes r.adoptedFrom ++ bytes16 (crc16 (imageBody r))))) := by
  rw [recordImage, imageBody_eq]
  simp only [List.append_assoc]

/-- The record with the items that no image carries at their starting values. -/
def Record.imaged (r : Record) : Record :=
  { r with gapFrac := 0, booking := .none, exhausted := false, answerTimer := none, handOffTimer := none, locateTimer := none,
           carry := none, sentToward := none }

/-- An image is read as a record: each of its fields gives the record's, and stands in its range (R152, 10.2). -/
structure ImageReads (im : List Byte) (r : Record) : Prop where
  tag : imageTag im = some r.tag
  jobRef : r.jobRef = word32 (imageByte im 5) (imageByte im 6) (imageByte im 7) (imageByte im 8)
  rush : r.rush = (imageByte im 9).getLsbD 7
  open_ : r.gapOpen = (imageByte im 9).getLsbD 5
  conceded : r.gapConceded = (imageByte im 9).getLsbD 4
  overflow : r.overflow = (imageByte im 9).getLsbD 3
  reserved : (imageByte im 9).getLsbD 1 = false ∧ (imageByte im 9).getLsbD 0 = false
  state : recStateOf (imageByte im 10) = some r.state
  heldFrom : heldFromOf (imageByte im 11) = some r.heldFrom
  position : positionOf (imageByte im 12) = some r.position
  current : r.current = (imageByte im 14).toNat
  inside : (imageByte im 14).toNat < (imageByte im 13).toNat
  few : (imageByte im 15).toNat ≤ 4
  accumulated : r.accumulated = word24 (imageByte im 16) (imageByte im 17) (imageByte im 18)
  gap : r.gapElapsed = if (imageByte im 9).getLsbD 6 then some (word24 (imageByte im 19) (imageByte im 20) (imageByte im 21)) else none
  absent : (imageByte im 9).getLsbD 6 = true ∨ word24 (imageByte im 19) (imageByte im 20) (imageByte im 21) = 0
  pauseTotal : r.pauseTotal = word16 (imageByte im 22) (imageByte im 23)
  steps : stepsOf (imageByte im 13).toNat (im.drop 24) = some r.steps
  valid : validSteps r.steps = true
  deviations : deviationsOf (imageByte im 13).toNat (imageByte im 15).toNat (im.drop (24 + 10 * (imageByte im 13).toNat))
    = some r.deviations
  adopted : adoptedOf ((imageByte im 9).getLsbD 2)
    (im.drop (24 + 10 * (imageByte im 13).toNat + 5 * (imageByte im 15).toNat)) = some r.adoptedFrom
  beside : r.imaged = r

theorem decodeImage_iff : decodeImage im = some r ↔ ImageReads im r := by
  constructor
  · intro reads
    simp only [decodeImage] at reads
    split at reads
    · next tag st hf pos steps devs ad isTag isState isHeld isPos isSteps isDevs isAd =>
      split at reads
      · next holds =>
        obtain ⟨valid, inside, few, one, zero, absent⟩ := holds
        obtain rfl := Option.some.inj reads
        exact ⟨isTag, rfl, rfl, rfl, rfl, rfl, ⟨one, zero⟩, isState, isHeld, isPos, rfl, inside, few, rfl, rfl, absent, rfl,
          isSteps, valid, isDevs, isAd, rfl⟩
      · cases reads
    · cases reads
  · intro reads
    simp only [decodeImage, reads.tag, reads.state, reads.heldFrom, reads.position, reads.steps, reads.deviations, reads.adopted]
    rw [if_pos ⟨reads.valid, reads.inside, reads.few, reads.reserved.1, reads.reserved.2, reads.absent⟩, ← reads.beside]
    simp only [Record.ofFields, Record.imaged, reads.jobRef, reads.rush, reads.open_, reads.conceded, reads.overflow, reads.current,
      reads.accumulated, reads.gap, reads.pauseTotal]

theorem length_of_validSteps (valid : validSteps l = true) : 1 ≤ l.length ∧ l.length ≤ 6 := by
  simp only [validSteps, Bool.and_eq_true, decide_eq_true_eq] at valid
  exact valid.1

theorem length_imageHead : (imageHead r).length = 24 := rfl

theorem length_stepBytes : (l.flatMap stepBytes).length = 10 * l.length := by
  simp [List.length_flatMap, stepBytes, bytes24, bytes16, Nat.mul_comm]

theorem length_deviationBytes : (ds.flatMap deviationBytes).length = 5 * ds.length := by
  simp [List.length_flatMap, deviationBytes, bytes24, Nat.mul_comm]

theorem length_adoptedBytes (ad : Option Tag) : (adoptedBytes ad).length = if ad.isSome then 5 else 0 := by
  cases ad <;> rfl

theorem imageByte_head {i : Nat} (low : i < 24) : imageByte (recordImage r) i = imageByte (imageHead r) i := by
  rw [recordImage_eq, imageByte, List.getD_append _ _ _ _ (by rw [length_imageHead]; exact low)]
  rfl

theorem flags_recordImage : imageByte (recordImage r) 9 = imageFlags r := imageByte_head (by decide)

theorem stepCount_recordImage (few : r.steps.length < 256) : (imageByte (recordImage r) 13).toNat = r.steps.length := by
  rw [imageByte_head (by decide)]
  exact byte_toNat _ few

theorem current_recordImage (low : r.current < 256) : (imageByte (recordImage r) 14).toNat = r.current := by
  rw [imageByte_head (by decide)]
  exact byte_toNat _ low

theorem deviationCount_recordImage (few : r.deviations.length < 256) :
    (imageByte (recordImage r) 15).toNat = r.deviations.length := by
  rw [imageByte_head (by decide)]
  exact byte_toNat _ few

theorem imageWellFormed_recordImage (least : 1 ≤ r.steps.length) (most : r.steps.length ≤ 6) (few : r.deviations.length ≤ 4) :
    imageWellFormed (recordImage r) = true := by
  have length : (recordImage r).length = imageLength (recordImage r) := by
    obtain ⟨-, -, -, -, -, here, -⟩ := bits_of_flags r.rush r.gapElapsed.isSome r.gapOpen r.gapConceded r.overflow
      r.adoptedFrom.isSome
    rw [← imageFlags, ← flags_recordImage] at here
    rw [imageLength, stepCount_recordImage (by omega), deviationCount_recordImage (by omega), here, recordImage_eq]
    simp only [List.length_append, length_imageHead, length_stepBytes, length_deviationBytes, length_adoptedBytes, bytes16,
      List.length_cons, List.length_nil]
    omega
  simp only [imageWellFormed, stepCount_recordImage (r := r) (by omega), deviationCount_recordImage (r := r) (by omega), Bool.and_eq_true,
    decide_eq_true_eq]
  exact ⟨⟨⟨least, most⟩, few⟩, length⟩

theorem imageCrcOk_recordImage : imageCrcOk (recordImage r) = true := by
  have split : (recordImage r).length - 2 = (imageBody r).length := by simp [recordImage, bytes16]
  rw [imageCrcOk, split, recordImage, List.take_left, List.drop_left]
  simp

/-- A record with its fields in range is read back from its image (R2, R152). -/
theorem imageReads_recordImage (epoch : r.tag.epoch ≠ 0) (seq : r.tag.seq ≠ 0)
    (adopted : ∀ t, r.adoptedFrom = some t → t.epoch ≠ 0 ∧ t.seq ≠ 0) (valid : validSteps r.steps = true)
    (inside : r.current < r.steps.length) (free : r.heldFrom ≠ some .held) (few : r.deviations.length ≤ 4)
    (named : ∀ d ∈ r.deviations, d.stepIndex < r.steps.length) : ImageReads (recordImage r) r.imaged := by
  obtain ⟨least, most⟩ := length_of_validSteps valid
  have steps := stepCount_recordImage (r := r) (by omega)
  have current := current_recordImage (r := r) (by omega)
  have deviations := deviationCount_recordImage (r := r) (by omega)
  obtain ⟨rush, elapsed, opened, conceded, overflow, here, one, zero⟩ := bits_of_flags r.rush r.gapElapsed.isSome r.gapOpen
    r.gapConceded r.overflow r.adoptedFrom.isSome
  have flags := flags_recordImage (r := r)
  rw [← imageFlags] at rush elapsed opened conceded overflow here one zero
  have tailSteps : (recordImage r).drop 24 = r.steps.flatMap stepBytes ++ (r.deviations.flatMap deviationBytes
      ++ (adoptedBytes r.adoptedFrom ++ bytes16 (crc16 (imageBody r)))) := by
    rw [recordImage_eq]
    exact List.drop_left' length_imageHead
  have tailDevs : (recordImage r).drop (24 + 10 * r.steps.length) = r.deviations.flatMap deviationBytes
      ++ (adoptedBytes r.adoptedFrom ++ bytes16 (crc16 (imageBody r))) := by
    rw [← List.drop_drop, tailSteps]
    exact List.drop_left' length_stepBytes
  have tailAdopted : (recordImage r).drop (24 + 10 * r.steps.length + 5 * r.deviations.length)
      = adoptedBytes r.adoptedFrom ++ bytes16 (crc16 (imageBody r)) := by
    rw [← List.drop_drop, tailDevs]
    exact List.drop_left' length_deviationBytes
  have gap : word24 (imageByte (recordImage r) 19) (imageByte (recordImage r) 20) (imageByte (recordImage r) 21)
      = r.gapElapsed.getD 0 := by
    rw [imageByte_head (by decide), imageByte_head (by decide), imageByte_head (by decide)]
    exact word24_bytes24 _
  exact
    { tag := by
        rw [imageTag, imageByte_head (by decide), imageByte_head (by decide), imageByte_head (by decide), imageByte_head (by decide), imageByte_head (by decide)]
        exact tagOf_tagBytes epoch seq
      jobRef := by
        rw [imageByte_head (by decide), imageByte_head (by decide), imageByte_head (by decide), imageByte_head (by decide)]
        exact (word32_bytes32 _).symm
      rush := by rw [flags]; exact rush.symm
      open_ := by rw [flags]; exact opened.symm
      conceded := by rw [flags]; exact conceded.symm
      overflow := by rw [flags]; exact overflow.symm
      reserved := by rw [flags]; exact ⟨one, zero⟩
      state := by rw [imageByte_head (by decide)]; exact recStateOf_code _
      heldFrom := by rw [imageByte_head (by decide)]; exact heldFromOf_code free
      position := by rw [imageByte_head (by decide)]; exact positionOf_fin255 _
      current := current.symm
      inside := by rw [current, steps]; exact inside
      few := by rw [deviations]; exact few
      accumulated := by
        rw [imageByte_head (by decide), imageByte_head (by decide), imageByte_head (by decide)]
        exact (word24_bytes24 _).symm
      gap := by
        rw [gap, flags, elapsed]
        change r.gapElapsed = _
        cases r.gapElapsed <;> rfl
      absent := by
        rw [gap, flags, elapsed]
        cases r.gapElapsed with
        | none => exact .inr rfl
        | some v => exact .inl rfl
      pauseTotal := by
        rw [imageByte_head (by decide), imageByte_head (by decide)]
        exact (word16_bytes16 _).symm
      steps := by
        rw [steps, tailSteps]
        exact stepsOf_flatMap (fun e m => plain_of_validSteps valid m) _
      valid := valid
      deviations := by
        rw [steps, deviations, tailDevs]
        exact deviationsOf_flatMap (by omega) named _
      adopted := by
        rw [steps, deviations, tailAdopted, flags, here]
        exact adoptedOf_bytes adopted _
      beside := rfl }

theorem take_eq_bytes {k : Nat} (long : k ≤ im.length) : im.take k = (List.range k).map (imageByte im) := by
  refine List.ext_getElem (by simpa using long) fun i low _ => ?_
  simp only [List.length_take] at low
  rw [List.getElem_take, List.getElem_map, List.getElem_range, imageByte, List.getD_eq_getElem _ _ (by omega)]

theorem imageFlags_of_reads (reads : ImageReads im r) : imageFlags r = imageByte im 9 := by
  obtain ⟨adopted, -, -⟩ := bytes_of_adopted reads.adopted
  have elapsed : r.gapElapsed.isSome = (imageByte im 9).getLsbD 6 := by
    rw [reads.gap]
    cases (imageByte im 9).getLsbD 6 <;> rfl
  rw [imageFlags, reads.rush, elapsed, reads.open_, reads.conceded, reads.overflow, adopted]
  exact flags_of_bits _ reads.reserved.1 reads.reserved.2

theorem imageHead_of_reads (reads : ImageReads im r) (long : 24 ≤ im.length) : imageHead r = im.take 24 := by
  have gap : r.gapElapsed.getD 0 = word24 (imageByte im 19) (imageByte im 20) (imageByte im 21) := by
    rw [reads.gap]
    obtain present | zero := reads.absent
    · rw [if_pos present]; rfl
    · rw [zero]; cases (imageByte im 9).getLsbD 6 <;> rfl
  obtain ⟨steps, -⟩ := flatMap_of_stepsOf reads.steps
  obtain ⟨deviations, -, -⟩ := flatMap_of_deviationsOf reads.deviations
  obtain ⟨tag, -, -⟩ := tagBytes_of_tagOf reads.tag
  rw [take_eq_bytes long, imageHead, imageFlags_of_reads reads, gap, tag, reads.jobRef, reads.accumulated, reads.pauseTotal,
    bytes32_word32, bytes24_word24, bytes24_word24, bytes16_word16, code_of_recState reads.state,
    (code_of_heldFrom reads.heldFrom).1, fin255_of_position reads.position, steps, deviations, reads.current, byte_of_toNat,
    byte_of_toNat, byte_of_toNat]
  rfl

/-- A well formed image with a right CRC that is read as a record is that record's image (R152). -/
theorem recordImage_of_reads (reads : ImageReads im r) (formed : imageWellFormed im = true) (crc : imageCrcOk im = true) :
    recordImage r = im := by
  simp only [imageWellFormed, Bool.and_eq_true, decide_eq_true_eq] at formed
  obtain ⟨-, length⟩ := formed
  rw [imageLength] at length
  obtain ⟨-, steps⟩ := flatMap_of_stepsOf reads.steps
  obtain ⟨-, deviations, -⟩ := flatMap_of_deviationsOf reads.deviations
  obtain ⟨-, adopted, -⟩ := bytes_of_adopted reads.adopted
  rw [List.drop_drop] at steps deviations adopted
  have last : 24 + 10 * (imageByte im 13).toNat + 5 * (imageByte im 15).toNat + (if (imageByte im 9).getLsbD 2 then 5 else 0)
      = im.length - 2 := by omega
  rw [last] at adopted
  have split : im = imageBody r ++ im.drop (im.length - 2) := by
    calc im = im.take 24 ++ im.drop 24 := (List.take_append_drop 24 im).symm
      _ = _ := by
        rw [← imageHead_of_reads reads (by omega), steps, deviations, adopted, imageBody_eq]
        simp only [List.append_assoc]
  have body : im.take (im.length - 2) = imageBody r :=
    List.append_cancel_right ((List.take_append_drop _ im).trans split)
  have check : bytes16 (crc16 (imageBody r)) = im.drop (im.length - 2) := by
    rw [← body]
    simpa [imageCrcOk] using crc
  rw [recordImage, check, ← split]

/-! ### The conditions of R7 and of R1 -/

theorem validEntry_iff {e : StepEntry} {last : Bool} : validEntry e last = true ↔
    e.target ≠ 0 ∧ e.timeLimit ≠ some 0 ∧ e.maxGap ≠ some 0 ∧ e.minGap ≠ some 0
      ∧ (e.timeLimit ≠ none → isDose e.kind = true) ∧ (last = true → e.maxGap = none ∧ e.minGap = none)
      ∧ ∀ lo hi, e.minGap = some lo → e.maxGap = some hi → lo.toNat < hi.toNat := by
  obtain ⟨kind, target, limit, most, least⟩ := e
  cases limit <;> cases most <;> cases least <;> cases last <;> simp [validEntry, and_assoc] <;> tauto

theorem validEntries_iff : validEntries l = true ↔
    (∀ (i : Nat) (e f : StepEntry), l[i]? = some e → l[i + 1]? = some f → (stepKindCode e.kind).toNat < (stepKindCode f.kind).toNat)
      ∧ ∀ (i : Nat) (e : StepEntry), l[i]? = some e → validEntry e (decide (i + 1 = l.length)) = true := by
  fun_induction validEntries l with
  | case1 => simp
  | case2 e =>
    refine ⟨fun valid => ⟨fun i x y _ second => by simp at second, fun i x here => ?_⟩, fun ⟨_, entry⟩ => entry 0 e rfl⟩
    cases i with
    | zero => exact Option.some.inj here ▸ valid
    | succ i => cases here
  | case3 e f rest ih =>
    simp only [Bool.and_eq_true, decide_eq_true_eq, ih]
    constructor
    · rintro ⟨⟨first, rises⟩, pairs, entries⟩
      refine ⟨fun i x y here next => ?_, fun i x here => ?_⟩
      · cases i with
        | zero => exact Option.some.inj here ▸ Option.some.inj next ▸ rises
        | succ i => exact pairs i x y here next
      · cases i with
        | zero => exact Option.some.inj here ▸ first
        | succ i => simpa using entries i x here
    · rintro ⟨pairs, entries⟩
      exact ⟨⟨entries 0 e rfl, pairs 0 e f rfl rfl⟩, fun i x y here next => pairs (i + 1) x y here next,
        fun i x here => by simpa using entries (i + 1) x here⟩

theorem validSteps_iff : validSteps l = true ↔ StepsValid l := by
  simp only [validSteps, Bool.and_eq_true, decide_eq_true_eq, validEntries_iff, validEntry_iff, StepsValid, and_assoc]

theorem inRanges_of_reads (reads : ImageReads im r) : r.inRanges := by
  obtain ⟨-, epoch, seq⟩ := tagBytes_of_tagOf reads.tag
  obtain ⟨steps, -⟩ := flatMap_of_stepsOf reads.steps
  obtain ⟨deviations, -, named⟩ := flatMap_of_deviationsOf reads.deviations
  obtain ⟨-, -, adopted⟩ := bytes_of_adopted reads.adopted
  refine ⟨epoch, seq, adopted, validSteps_iff.mp reads.valid, ?_, (code_of_heldFrom reads.heldFrom).2, ?_, ?_⟩
  · rw [reads.current, steps]; exact reads.inside
  · rw [deviations]; exact reads.few
  · rw [steps]; exact named

theorem decodeImage_recordImage (ranges : r.inRanges) : decodeImage (recordImage r) = some r.imaged := by
  obtain ⟨epoch, seq, adopted, valid, inside, free, few, named⟩ := ranges
  exact decodeImage_iff.mpr (imageReads_recordImage epoch seq adopted (validSteps_iff.mpr valid) inside free few named)

/-- The images that check 5 of R152 passes are those of the records with their fields in range. -/
theorem decodeImage_ne_none (formed : imageWellFormed im = true) (crc : imageCrcOk im = true) :
    decodeImage im ≠ none ↔ ∃ r : Record, r.inRanges ∧ recordImage r = im := by
  constructor
  · intro reads
    obtain ⟨r, reads⟩ := Option.ne_none_iff_exists'.mp reads
    rw [decodeImage_iff] at reads
    exact ⟨r, inRanges_of_reads reads, recordImage_of_reads reads formed crc⟩
  · rintro ⟨r, ranges, rfl⟩
    simp [decodeImage_recordImage ranges]

end

end Sys2Proof.Machine
end

section
/-! SUPPORT. CARRY at the receiver: the parts of an assembly and the checks of a complete image (R151, R152). -/

namespace Sys2Proof.Machine
open Host

section
variable {s : State} {a : Addr} {c : CarryPart} {b : Booking} {before after : List Booking} {im payload : List Byte}

/-! ### The checks of a complete image (R152) -/

/-- An image is whole: its counts are in range, its length is what they give, and its CRC is right (R152, R193). -/
def WholeImage (im : List Byte) : Prop := imageWellFormed im = true ∧ imageCrcOk im = true

theorem wholeImage_iff : WholeImage im ↔ 1 ≤ (im.getD 13 0).toNat ∧ (im.getD 13 0).toNat ≤ 6 ∧ (im.getD 15 0).toNat ≤ 4
    ∧ im.length = 26 + 10 * (im.getD 13 0).toNat + 5 * (im.getD 15 0).toNat + (if (im.getD 9 0).getLsbD 2 then 5 else 0)
    ∧ im.drop (im.length - 2) = bytes16 (crc16 (im.take (im.length - 2))) := by
  simp only [WholeImage, imageWellFormed, imageCrcOk, Bool.and_eq_true, decide_eq_true_eq, and_assoc]
  refine and_congr Iff.rfl (and_congr Iff.rfl (and_congr Iff.rfl (and_congr Iff.rfl eq_comm)))

theorem imageFault_broken (broken : ¬WholeImage im) : s.imageFault b im = some .badImage := by
  have fails : (!(imageWellFormed im && imageCrcOk im)) = true := by
    rw [WholeImage, ← Bool.and_eq_true] at broken
    rw [Bool.not_eq_true']
    exact Bool.eq_false_iff.mpr broken
  exact if_pos fails

theorem imageFault_whole (whole : WholeImage im) : s.imageFault b im =
    if im.take 5 ≠ tagBytes b.tag then some .badImage
    else if (s.resident b.tag).isSome then some .duplicateTag
    else if ¬((imageByte im 14).toNat + 1 < (imageByte im 13).toNat
        ∧ imageByte im (24 + 10 * ((imageByte im 14).toNat + 1)) = stepKindCode b.kind
        ∧ stepRole b.kind = s.conf.role) then some .badImage
    else if (decodeImage im).isNone then some .badImage
    else none := by
  obtain ⟨formed, crc⟩ := whole
  refine if_neg ?_
  simp [formed, crc]

theorem imageFault_heard : (s.heard a).imageFault b im = s.imageFault b im := by
  simp only [State.imageFault, resident_heard, conf_heard]

/-! ### The entry's status -/

theorem setStatus_same (books : s.Books before b after) (st : BookingStatus) :
    s.setStatus b.same st = { s with bookings := before ++ { b with status := st } :: after } := by
  have kept {l : List Booking} (others : ∀ x ∈ l, b.same x = false) :
      (l.map fun x => if b.same x then { x with status := st } else x) = l :=
    (List.map_congr_left fun x m => by simp [others x m]).trans (List.map_id l)
  have only := same_only books
  have here : b.same b = true := same_iff.mpr ⟨rfl, rfl⟩
  rw [State.setStatus, books.1, List.map_append, List.map_cons, kept fun x m => only x (List.mem_append_left _ m),
    kept fun x m => only x (List.mem_append_right _ m), if_pos here]

theorem lengthOk_iff : c.lengthOk = true ↔
    if c.index + 1 < c.count then c.data.length = 14 else 1 ≤ c.data.length ∧ c.data.length ≤ 14 := by
  rw [CarryPart.lengthOk]
  split <;> simp

/-! ### The parts (R151) -/

/-- The entry with another status, the others as they stand. -/
def State.become (s : State) (before : List Booking) (b : Booking) (after : List Booking) (st : BookingStatus) : State :=
  { s with bookings := before ++ { b with status := st } :: after }

theorem completeImage_full (books : s.Books before b after) (full : s.freeAnswer = none) (im : List Byte) :
    s.completeImage b im = s.become before b after .standing := by
  rw [State.completeImage, if_pos (by rw [full]; rfl), setStatus_same books]
  rfl

theorem completeImage_passes (books : s.Books before b after) (room : s.freeAnswer ≠ none) (passes : s.imageFault b im = none) :
    s.completeImage b im = (s.become before b after (.closing im false)).queueAnswer (tagFrame .taken b.booker b.tag) := by
  rw [State.completeImage, if_neg (by simpa using room), setStatus_same books, passes]
  rfl

theorem completeImage_fails {reason : Reason} (books : s.Books before b after) (room : s.freeAnswer ≠ none)
    (fails : s.imageFault b im = some reason) : s.completeImage b im =
      (s.become before b after (.closing im false)).queueAnswer (rejectFrame b.booker (tagBytes b.tag) reason) := by
  rw [State.completeImage, if_neg (by simpa using room), setStatus_same books, fails]
  rfl

theorem takePart_last {x : Assembly} (last : x.next = x.count) : s.takePart b x = s.completeImage b x.data := if_pos last

theorem takePart_more {x : Assembly} (books : s.Books before b after) (more : x.next ≠ x.count) :
    s.takePart b x = s.become before b after (.assembling x) :=
  (if_neg more).trans (setStatus_same books _)

theorem silent_joined (joined : s.mem.line = .joined) : s.silent = false := by simp [State.silent, joined]

theorem partTag_long {data : List Byte} (long : 5 ≤ data.length) : partTag data = data.take 5 := by
  simp [partTag, List.drop_eq_nil_of_le, long]

/-- The entry at a part's position that another station made, found where its status is asked for too. -/
theorem find_carried {cond : Booking → Bool} (books : s.Books before b after) (booker : b.booker = a) :
    s.bookings.find? (fun x => decide (x.position = b.position) && decide (x.booker = a) && cond x) =
      if cond b then some b else none := by
  obtain ⟨list, only⟩ := books
  have away {l : List Booking} (others : ∀ x ∈ l, x.position ≠ b.position) :
      l.find? (fun x => decide (x.position = b.position) && decide (x.booker = a) && cond x) = none :=
    List.find?_eq_none.mpr fun x m => by simp [others x m]
  rw [list, List.find?_append, away fun x m => (only x (List.mem_append_left _ m)).1, List.find?_cons,
    away fun x m => (only x (List.mem_append_right _ m)).1]
  cases cond b <;> simp [booker]

theorem takeFirstPart_fits (joined : s.mem.line = .joined) (books : s.Books before b after) (position : b.position = c.position)
    (booker : b.booker = a) (standing : b.status = .standing) (least : 1 ≤ c.count) (most : c.count ≤ 8) (fits : c.lengthOk = true) :
    s.takeFirstPart a c = s.takePart b { count := c.count, next := 1, data := c.data, gap := 0 } := by
  rw [State.takeFirstPart, if_neg (by simp [silent_joined joined]), ← position,
    find_carried (cond := fun x => decide (x.status = .standing)) books booker, if_pos (by simp [standing])]
  exact if_pos ⟨least, most, fits⟩

theorem takeFirstPart_wrong (joined : s.mem.line = .joined) (books : s.Books before b after) (position : b.position = c.position)
    (booker : b.booker = a) (standing : b.status = .standing) (wrong : ¬(1 ≤ c.count ∧ c.count ≤ 8 ∧ c.lengthOk = true)) :
    s.takeFirstPart a c = if s.freeAnswer.isNone then s
      else (s.become before b after (.closing [] false)).queueAnswer (rejectFrame a (partTag c.data) .badImage) := by
  rw [State.takeFirstPart, if_neg (by simp [silent_joined joined]), ← position,
    find_carried (cond := fun x => decide (x.status = .standing)) books booker, if_pos (by simp [standing])]
  refine (if_neg wrong).trans ?_
  rw [setStatus_same books]
  rfl

theorem takeFirstPart_unbooked (joined : s.mem.line = .joined) (books : s.Books before b after) (position : b.position = c.position)
    (booker : b.booker = a) (other : b.status ≠ .standing) :
    s.takeFirstPart a c = s.queueAnswer (rejectFrame a (partTag c.data) .notBooked) := by
  rw [State.takeFirstPart, if_neg (by simp [silent_joined joined]), ← position,
    find_carried (cond := fun x => decide (x.status = .standing)) books booker, if_neg (by simp [other])]

theorem find_later (books : s.Books before b after) (position : b.position = c.position) (booker : b.booker = a) :
    s.bookings.find? (fun x => decide (x.position = c.position) && decide (x.booker = a)) = some b := by
  have found := find_carried (cond := fun _ => true) books booker
  simp only [Bool.and_true, if_true, position] at found
  exact found

theorem takeLaterPart_other (books : s.Books before b after) (position : b.position = c.position) (booker : b.booker = a)
    (other : b.isAssembling = false) : s.takeLaterPart a c = s := by
  rw [Booking.isAssembling] at other
  cases status : b.status <;> simp_all [State.takeLaterPart, find_later books position booker]

theorem takeLaterPart_next {x : Assembly} (books : s.Books before b after) (position : b.position = c.position) (booker : b.booker = a)
    (opened : b.status = .assembling x) (index : c.index = x.next) (count : c.count = x.count) (fits : c.lengthOk = true) :
    s.takeLaterPart a c = s.takePart b { x with next := x.next + 1, data := x.data ++ c.data, gap := 0 } := by
  simp only [State.takeLaterPart, find_later books position booker, opened]
  exact if_pos ⟨index, count, fits⟩

theorem takeLaterPart_wrong {x : Assembly} (books : s.Books before b after) (position : b.position = c.position) (booker : b.booker = a)
    (opened : b.status = .assembling x) (wrong : ¬(c.index = x.next ∧ c.count = x.count ∧ c.lengthOk = true)) :
    s.takeLaterPart a c = if s.freeAnswer.isNone then s.become before b after .standing
      else (s.become before b after (.closing [] false)).queueAnswer (rejectFrame b.booker (tagBytes b.tag) .badImage) := by
  simp only [State.takeLaterPart, find_later books position booker, opened]
  refine (if_neg wrong).trans ?_
  rw [State.rejectOpen, setStatus_same books, setStatus_same books]
  rfl

theorem exec_carryAppears {o : State} (joined : s.mem.line = .joined) (other : a ≠ s.conf.address) (empty : s.mem.joinQueue = [])
    (reads : carryPayload payload = some c) (runs : (s.heard a).takeCarry a c = o) :
    exec (.carryAppears a (destOf s.conf.address) payload) s = .next o := by
  have block : (s.heard a).onCarry .foreign a (destOf s.conf.address) payload = (s.heard a).takeCarry a c := by
    simp only [State.onCarry, reads]
    exact if_pos addressed_heard
  exact appear_addressed_joined joined other empty (fun _ => rfl) (block.trans runs) (by rw [block, mem_takeCarry])

end

/-- Settles O55. -/
theorem carryAssembled : Obligations.CarryAssembled := by
  refine ⟨fun b im s => ?_, fun a c payload before after b s joined other empty reads books position booker => ?_⟩
  · intro byteAt n next whole goesOn inRange
    have isWhole : whole ↔ WholeImage im := wholeImage_iff.symm
    refine ⟨fun broken => imageFault_broken (mt isWhole.mpr broken), fun holds foreign => ?_, fun holds tag =>
      ⟨fun here => ?_, fun away => ⟨fun stops => ?_, fun goes bad => ?_, fun goes good => ?_⟩⟩⟩
    · rw [imageFault_whole (isWhole.mp holds), if_pos foreign]
    · rw [imageFault_whole (isWhole.mp holds), if_neg (not_not_intro tag), if_pos (Option.isSome_iff_ne_none.mpr here)]
    · rw [imageFault_whole (isWhole.mp holds), if_neg (not_not_intro tag), if_neg (by simp [away])]
      exact if_pos stops
    · obtain ⟨formed, crc⟩ := isWhole.mp holds
      have unread : (decodeImage im).isNone = true := by
        rw [Option.isNone_iff_eq_none]
        exact not_not.mp (mt (decodeImage_ne_none formed crc).mp bad)
      rw [imageFault_whole ⟨formed, crc⟩, if_neg (not_not_intro tag), if_neg (by simp [away])]
      exact (if_neg (not_not_intro goes)).trans (if_pos unread)
    · obtain ⟨formed, crc⟩ := isWhole.mp holds
      have read : ¬(decodeImage im).isNone = true := by
        rw [Option.isNone_iff_eq_none]
        exact (decodeImage_ne_none formed crc).mpr good
      rw [imageFault_whole ⟨formed, crc⟩, if_neg (not_not_intro tag), if_neg (by simp [away])]
      exact (if_neg (not_not_intro goes)).trans (if_neg read)
  · intro u judged become reject fits whole
    have line : u.mem.line = .joined := line_heard.trans joined
    have books' : u.Books before b after := books_of_bookings bookings_heard books
    have free : u.freeAnswer = s.freeAnswer := freeAnswer_heard
    have judges {o : State} (runs : u.takeCarry a c = o) : judged o := exec_carryAppears joined other empty reads runs
    have first {o : State} (zero : c.index = 0) (runs : u.takeFirstPart a c = o) : judged o :=
      judges ((if_pos zero).trans runs)
    have later {o : State} (next : c.index ≠ 0) (runs : u.takeLaterPart a c = o) : judged o :=
      judges ((if_neg next).trans runs)
    have fitting : fits ↔ c.lengthOk = true := lengthOk_iff.symm
    have completes (data : List Byte) (complete : ∀ o, u.completeImage b data = o → judged o) : whole data := by
      refine ⟨fun full => complete _ (completeImage_full books' (free.trans full) data), fun room passes => complete _ ?_,
        fun reason room fails => complete _ ?_⟩
      · rw [completeImage_passes books' (free.trans_ne room) (imageFault_heard.trans passes), booker]
        rfl
      · rw [completeImage_fails books' (free.trans_ne room) (imageFault_heard.trans fails), booker]
        rfl
    refine ⟨fun zero standing => ⟨fun least most fit => ?_, fun wrong => ?_⟩, fun zero unbooked long => first zero ?_,
      fun next closed => later next (takeLaterPart_other books' position booker closed), fun x next opened => ⟨fun index count fit => ?_, fun wrong => ?_⟩⟩
    · have opens := takeFirstPart_fits line books' position booker standing least most (fitting.mp fit)
      refine ⟨fun more => first zero (opens.trans (takePart_more books' (by simp; omega))), fun single => completes _ fun o runs =>
        first zero (opens.trans ((takePart_last single.symm).trans runs))⟩
    · have closes := takeFirstPart_wrong line books' position booker standing
        fun ⟨least, most, fit⟩ => wrong.elim (by omega) (Or.elim · (by omega) (· (fitting.mpr fit)))
      rw [free] at closes
      refine ⟨fun full => first zero (closes.trans (if_pos (by rw [full]; rfl))), fun room long => first zero ?_⟩
      rw [closes, if_neg (by simpa using room), partTag_long long]
      rfl
    · rw [takeFirstPart_unbooked line books' position booker unbooked, partTag_long long]
      rfl
    · have goes := takeLaterPart_next books' position booker opened index count (fitting.mp fit)
      exact ⟨fun more => later next (goes.trans (takePart_more books' more)), fun last => completes _ fun o runs =>
        later next (goes.trans ((takePart_last last).trans runs))⟩
    · have closes := takeLaterPart_wrong books' position booker opened
        fun ⟨index, count, fit⟩ => wrong.elim (· index) (Or.elim · (· count) (· (fitting.mpr fit)))
      rw [free] at closes
      refine ⟨fun full => later next (closes.trans (if_pos (by rw [full]; rfl))), fun room => later next ?_⟩
      rw [closes, if_neg (by simpa using room), booker]
      rfl

end Sys2Proof.Machine
end

section
/-! SUPPORT. The bits of a line frame and of a port frame are read back as what they spell (R74, R78, R179). -/

namespace Sys2Proof.Machine
open Host

section
variable {w : Nat}

/-! ### A word and its bits -/

theorem length_bitsOf (x : BitVec w) : (bitsOf x).length = w := by simp [bitsOf]

theorem foldl_bits (x : BitVec w) (k : Nat) (low : k ≤ w) :
    ((List.range k).map fun i => x.getMsbD i).foldl (fun n b => 2 * n + b.toNat) 0 = x.toNat / 2 ^ (w - k) := by
  induction k with
  | zero => exact (Nat.div_eq_of_lt x.isLt).symm
  | succ k ih =>
    have bit : x.getMsbD k = x.toNat.testBit (w - 1 - k) := by
      rw [BitVec.getMsbD, BitVec.testBit_toNat]
      simp [show k < w by omega]
    have halves : x.toNat / 2 ^ (w - k) = x.toNat / 2 ^ (w - 1 - k) / 2 := by
      rw [Nat.div_div_eq_div_mul, ← Nat.pow_succ, show (w - 1 - k).succ = w - k by omega]
    rw [List.range_succ, List.map_append, List.foldl_append, ih (by omega), halves, show w - (k + 1) = w - 1 - k by omega]
    simp only [List.map_cons, List.map_nil, List.foldl_cons, List.foldl_nil, bit, Nat.toNat_testBit]
    omega

theorem wordOfBits_bitsOf (x : BitVec w) : wordOfBits w (bitsOf x) = x := by
  rw [wordOfBits, bitsOf, foldl_bits x w (Nat.le_refl w), Nat.sub_self, Nat.pow_zero, Nat.div_one]
  simp

/-- A field of a bit string is read as the word it was written from. -/
theorem field_eq {front back bits : List Bool} {n : Nat} (x : BitVec w) (split : bits = front ++ (bitsOf x ++ back))
    (place : front.length = n) : wordOfBits w ((bits.drop n).take w) = x := by
  rw [split, List.drop_left' place, List.take_left' (length_bitsOf x), wordOfBits_bitsOf]

theorem length_bitsOfBytes (bs : List Byte) : (bitsOfBytes bs).length = 8 * bs.length := by
  simp [bitsOfBytes, List.length_flatMap, length_bitsOf, Nat.mul_comm]

theorem payloadOf_bits (bs : List Byte) (rest : List Bool) : payloadOf bs.length (bitsOfBytes bs ++ rest) = bs := by
  induction bs with
  | nil => rfl
  | cons b bs ih =>
    have split : bitsOfBytes (b :: bs) ++ rest = bitsOf b ++ (bitsOfBytes bs ++ rest) := by simp [bitsOfBytes]
    rw [split, List.length_cons, payloadOf, List.take_left' (length_bitsOf b), List.drop_left' (length_bitsOf b), ih, wordOfBits_bitsOf]

/-! ### A line frame (R74, R78) -/

theorem frameKindOf_code (k : FrameKind) : frameKindOf (kindCode k) = some k := by cases k <;> rfl

theorem frameBits_eq (k : FrameKind) (a : Addr) (dest : BitVec 5) (payload : List Byte) : frameBits k a dest payload =
    false :: frameBody k a dest payload ++ bitsOf (crc16Bits (frameBody k a dest payload)) ++ List.replicate 9 true := by
  simp [frameBits, List.replicate_succ]

theorem length_frameBody (k : FrameKind) (a : Addr) (dest : BitVec 5) (payload : List Byte) :
    (frameBody k a dest payload).length = 22 + 8 * payload.length := by
  simp only [frameBody, List.length_append, length_bitsOf, length_bitsOfBytes]

/-- A frame with a given CRC as it is read: judged by that CRC, and its fields are those it was written from. -/
theorem lineFrame_frameBody (k : FrameKind) (a : Addr) (dest : BitVec 5) (payload : List Byte) (short : payload.length ≤ 16)
    (crc : BitVec 16) : lineFrame (frameBody k a dest payload ++ bitsOf crc ++ List.replicate 9 true) =
      if crc16Bits (frameBody k a dest payload) ≠ crc then .error .crcError else .ok (appearance (kindCode k) a dest payload) := by
  have body := length_frameBody k a dest payload
  generalize bitsAre : frameBody k a dest payload ++ bitsOf crc ++ List.replicate 9 true = bits
  have fields : bits = bitsOf (kindPrio k) ++ (bitsOf (BitVec.ofNat 4 a.val) ++ (bitsOf (kindCode k) ++ (bitsOf dest
      ++ (bitsOf (BitVec.ofNat 5 payload.length) ++ (bitsOfBytes payload ++ (bitsOf crc ++ List.replicate 9 true)))))) := by
    rw [← bitsAre, frameBody]
    simp only [List.append_assoc]
  have sender : wordOfBits 4 ((bits.drop 3).take 4) = BitVec.ofNat 4 a.val := field_eq _ fields (length_bitsOf _)
  have code : wordOfBits 5 ((bits.drop 7).take 5) = kindCode k :=
    field_eq (front := bitsOf (kindPrio k) ++ bitsOf (BitVec.ofNat 4 a.val)) _
      (by rw [fields]; simp only [List.append_assoc]; rfl) (by simp [length_bitsOf])
  have dests : wordOfBits 5 ((bits.drop 12).take 5) = dest :=
    field_eq (front := bitsOf (kindPrio k) ++ bitsOf (BitVec.ofNat 4 a.val) ++ bitsOf (kindCode k)) _
      (by rw [fields]; simp only [List.append_assoc]; rfl) (by simp [length_bitsOf])
  have length : (wordOfBits 5 ((bits.drop 17).take 5)).toNat = payload.length := by
    rw [field_eq (front := bitsOf (kindPrio k) ++ bitsOf (BitVec.ofNat 4 a.val) ++ bitsOf (kindCode k) ++ bitsOf dest) _
      (by rw [fields]; simp only [List.append_assoc]; rfl) (by simp [length_bitsOf]), BitVec.toNat_ofNat]
    omega
  have covered : bits.take (22 + 8 * payload.length) = frameBody k a dest payload := by
    rw [← bitsAre, List.append_assoc]
    exact List.take_left' body
  have check : wordOfBits 16 ((bits.drop (22 + 8 * payload.length)).take 16) = crc :=
    field_eq _ (by rw [← bitsAre, List.append_assoc]) body
  have mark : (bits.drop (39 + 8 * payload.length)).take 8 = List.replicate 8 true := by
    have front : (frameBody k a dest payload ++ bitsOf crc ++ [true]).length = 39 + 8 * payload.length := by
      simp only [List.length_append, body, length_bitsOf, List.length_cons, List.length_nil]
      omega
    have split : bits = (frameBody k a dest payload ++ bitsOf crc ++ [true]) ++ List.replicate 8 true := by
      rw [← bitsAre]
      simp [List.replicate_succ]
    rw [split, List.drop_left' front]
    rfl
  have bytes : payloadOf payload.length (bits.drop 22) = payload := by
    have front : (bitsOf (kindPrio k) ++ bitsOf (BitVec.ofNat 4 a.val) ++ bitsOf (kindCode k) ++ bitsOf dest
        ++ bitsOf (BitVec.ofNat 5 payload.length)).length = 22 := by simp [length_bitsOf]
    have split : bits = (bitsOf (kindPrio k) ++ bitsOf (BitVec.ofNat 4 a.val) ++ bitsOf (kindCode k) ++ bitsOf dest
        ++ bitsOf (BitVec.ofNat 5 payload.length)) ++ (bitsOfBytes payload ++ (bitsOf crc ++ List.replicate 9 true)) := by
      rw [fields]
      simp only [List.append_assoc]
    rw [split, List.drop_left' front, payloadOf_bits]
  have address : (BitVec.ofNat 4 a.val).toFin = a := by
    ext
    simpa using Nat.mod_eq_of_lt a.isLt
  rw [lineFrame]
  simp only [length, sender, covered, check, code, dests, bytes, address]
  rw [if_neg (by omega), if_neg (not_not_intro mark)]

/-! ### A port frame (R179) -/

theorem portFrame_eq (code a2 a1 a0 crc : Byte) :
    portFrame (bitsOf code ++ bitsOf a2 ++ bitsOf a1 ++ bitsOf a0 ++ bitsOf crc) =
      if crc8Bits (bitsOf code ++ bitsOf a2 ++ bitsOf a1 ++ bitsOf a0) = crc then portCommand code a2 a1 a0 else .portCrcError := by
  generalize bitsAre : bitsOf code ++ bitsOf a2 ++ bitsOf a1 ++ bitsOf a0 ++ bitsOf crc = bits
  have covered : bits.take 32 = bitsOf code ++ bitsOf a2 ++ bitsOf a1 ++ bitsOf a0 := by
    rw [← bitsAre]
    exact List.take_left' (by simp [length_bitsOf])
  have read0 : wordOfBits 8 ((bits.drop 0).take 8) = code := field_eq (front := []) _ (by rw [← bitsAre]; simp only [List.append_assoc]; rfl) rfl
  have read8 : wordOfBits 8 ((bits.drop 8).take 8) = a2 :=
    field_eq _ (by rw [← bitsAre]; simp only [List.append_assoc]; rfl) (length_bitsOf code)
  have read16 : wordOfBits 8 ((bits.drop 16).take 8) = a1 := field_eq (front := bitsOf code ++ bitsOf a2) _
    (by rw [← bitsAre]; simp only [List.append_assoc]; rfl) (by simp [length_bitsOf])
  have read24 : wordOfBits 8 ((bits.drop 24).take 8) = a0 := field_eq (front := bitsOf code ++ bitsOf a2 ++ bitsOf a1) _
    (by rw [← bitsAre]; simp only [List.append_assoc]; rfl) (by simp [length_bitsOf])
  have read32 : wordOfBits 8 ((bits.drop 32).take 8) = crc :=
    field_eq (front := bitsOf code ++ bitsOf a2 ++ bitsOf a1 ++ bitsOf a0) (back := []) _
      (by rw [← bitsAre, List.append_nil]) (by simp [length_bitsOf])
  rw [portFrame]
  simp only [covered, read0, read8, read16, read24, read32]

end

/-- Settles O60. -/
theorem formsReadBack : Obligations.FormsReadBack := by
  refine ⟨fun r epoch seq adopted valid inside free few named => ?_, fun k a dest payload short => ?_, fun code a2 a1 a0 => ?_⟩
  · obtain ⟨least, most⟩ := length_of_validSteps valid
    exact ⟨imageWellFormed_recordImage least most few, imageCrcOk_recordImage,
      decodeImage_iff.mpr (imageReads_recordImage epoch seq adopted valid inside free few named)⟩
  · have judged := lineFrame_frameBody k a dest payload short
    refine ⟨frameBits_eq k a dest payload, ?_, fun crc other => (judged crc).trans (if_pos other.symm), frameKindOf_code k⟩
    rw [frameBits_eq, List.cons_append, List.cons_append, List.drop_one, List.tail_cons]
    exact (judged _).trans (if_neg (not_not_intro rfl))
  · have judged := portFrame_eq code a2 a1 a0
    exact ⟨(judged _).trans (if_pos rfl), fun crc other => (judged crc).trans (if_neg other.symm)⟩

end Sys2Proof.Machine
end

section
/-! SUPPORT. A state in which the appearance of a CAPACITY takes the replacement off the list again (R88, R124, R129). -/

namespace Sys2Proof.Machine
open Host

/-- The frame that is queued in place of the CAPACITY. -/
def heldBook : Frame := { kind := .book, dest := 1, payload := [] }

/-- A CAPACITY of 0 units for budget 0 on the list from slot 0's origin, in transmission, with a BOOK held to replace it. -/
def capacityOfSlot : TxEntry :=
  { origin := .slot 0, frame := { kind := .capacity, dest := 31, payload := [0, 0, 0] }, voids := 0, held := .replace heldBook }

/-- A WAITING record on position 0. -/
def waitingPlate : Record :=
  { Record.ofFields ⟨0, 1, 1⟩ 0 false [{ kind := .back, target := 1, timeLimit := none, maxGap := none, minGap := none }] .waiting with
    position := some 0 }

/-- A JOINED station whose one record waits for budget 0, with the frame above in transmission. -/
def oversizeStation : State :=
  { State.reset with
    mem := { Membership.initial with line := .joined }
    lbi := { Lbi.initial with tx := [capacityOfSlot], inTx := .listed (.slot 0), stall := some 0 }
    bud := { BudgetTable.empty with
      entries := [{ station := 0, position := 0, draws := triple 1 0 0, status := .waiting, order := 0 }] }
    store := { Store.initial with
      slots := Store.initial.slots.set 0 { state := .inUse waitingPlate, waits := [] }
      freeList := handles.tail }
    seqr := (Vector.replicate 8 Position.blank).set 0
      { Position.blank with state := .occupied, link := some 0, claim := .waiting } }

/-- The CAPACITY appears, the record is HELD with CLAIM_OVERSIZE, and the BOOK of its slot leaves the list. -/
theorem tx_capacityOfSlot : (match exec (appearance (kindCode .capacity) 0 31 [0, 0, 0]) oversizeStation with
    | .next o => o.lbi.tx
    | .refused _ => [capacityOfSlot]
    | .fault _ => [capacityOfSlot]) = [] := by decide +kernel

/-- Refutes O56: the last clause asks nothing of the origin of a CAPACITY whose replacement is held. Where it is the slot of a
WAITING record whose claim the CAPACITY removes, the record is HELD and a BOOK queued as the replacement is withdrawn. -/
theorem not_ownFramesAppear : ¬ Obligations.OwnFramesAppear := by
  intro holds
  have frames := holds capacityOfSlot 1 ⟨0, 1, 1⟩ oversizeStation rfl rfl rfl rfl (by decide) rfl
  obtain ⟨-, -, -, -, -, replaced⟩ := frames
  obtain ⟨-, -, -, -, -, capacity⟩ := replaced heldBook rfl
  obtain ⟨o, runs, stays⟩ := capacity rfl
  have gone := tx_capacityOfSlot
  have runs' : exec (appearance (kindCode .capacity) 0 31 [0, 0, 0]) oversizeStation = .next o := runs
  rw [runs'] at gone
  simp [show o.lbi.tx = [] from gone] at stays

end Sys2Proof.Machine
end

section
/-! SUPPORT. The snapshot at the joiner and at its provider (R102, R103, R105 to R109). -/

namespace Sys2Proof.Machine
open Host

section
variable {s : State} {a : Addr} {q : SnapHead} {n : SnapIn} {payload content : List Byte} {index : Nat} {e : TxEntry}
variable {ps : List SnapPeer} {es : List ClaimEntry}

/-! ### Snapshot frames at a JOINING station -/

/-- A snapshot frame of another station noted at a JOINING one: it bars the first-station rule (R108). -/
def State.barredBy (s : State) (a : Addr) : State := { s.heard a with mem := { s.mem with barred := true } }

theorem mem_heard_joining (joining : s.mem.line = .joining) : (s.heard a).mem = s.mem := by
  rw [heard_still (.inl (by simp [joining]))]

theorem conf_barred : (s.barredBy a).conf = s.conf := conf_heard

/-- Another station's frame to all that bars the first-station rule, at a JOINING station. -/
theorem appear_foreign_barring {kind : FrameKind} {blocks : OwnTx → State → State} (joining : s.mem.line = .joining)
    (other : a ≠ s.conf.address) (bars : ∀ digest, barsFirst digest kind payload = true) :
    s.appear kind a 31 payload blocks = (blocks .foreign (s.barredBy a)).tryServe := by
  have noted : (s.heard a).noteBar kind payload = s.barredBy a := by
    have judged : (decide ((s.heard a).mem.line = .joining) && barsFirst (s.heard a).conf.digest kind payload) = true := by
      simp [bars, line_heard, joining]
    rw [State.noteBar, if_pos judged, mem_heard_joining joining]
    rfl
  have active : s.isActive = true := by simp [State.isActive, joining]
  rw [appear_foreign_noted active other, noted, if_pos (receives_all _ _ _)]

theorem onSnapHead_mine (reads : snapHeadPayload payload = some q) (mine : q.joiner = s.conf.address) :
    s.onSnapHead .foreign a payload = s.takeHead a q := by
  simp [State.onSnapHead, OwnTx.isUpkeep, reads, mine]

theorem exec_snapHead {o : State} (joining : s.mem.line = .joining) (other : a ≠ s.conf.address)
    (reads : snapHeadPayload payload = some q) (mine : q.joiner = s.conf.address) (takes : (s.barredBy a).takeHead a q = o)
    (still : o.mem.line ≠ .joined) : exec (.snapHeadAppears a 31 payload) s = .next o := by
  refine congrArg Outcome.next ((appear_foreign_barring joining other fun _ => rfl).trans ?_)
  have block : (s.barredBy a).onSnapHead .foreign a payload = o :=
    (onSnapHead_mine reads (by rw [conf_barred]; exact mine)).trans takes
  rw [block]
  exact tryServe_unjoined still

theorem joinsAgain_barred (s : State) (a : Addr) (cause : Nat) : (s.barredBy a).joinsAgain cause =
    State.post (stationEvent .lineState (1 * 256 + cause))
      ({ s.heard a with mem := { s.mem with phase := .queued, buffer := [], barred := false, joinWait := none,
                                            partGap := none } }.queueFrame .upkeep
        { kind := .join, dest := 31, payload := [roleCode s.conf.role] }) := by
  have role : (s.barredBy a).conf.role = s.conf.role := congrArg Configuration.role conf_barred
  rw [State.joinsAgain, role]
  rfl

theorem line_joinsAgain (cause : Nat) : (s.joinsAgain cause).mem.line = s.mem.line := by
  rw [State.joinsAgain, mem_post, mem_queueFrame]

theorem txHas_barred (o : Origin) (other : ∀ b, o ≠ .departure b) : (s.barredBy a).txHas o = s.txHas o := txHas_heard other

theorem snapPartHead_bytes (own : Addr) (low : index < 256) :
    snapPartHead (byte own.val :: byte index :: content) = some (own, index, content) := by
  simp [snapPartHead, byte_toNat index low]

theorem exec_snapPart {o : State} (joining : s.mem.line = .joining) (other : a ≠ s.conf.address) (low : index < 256)
    (takes : (s.barredBy a).takeSnapPart index content = o) :
    exec (.snapPartAppears a 31 (byte s.conf.address.val :: byte index :: content)) s = .next o.tryServe := by
  refine congrArg Outcome.next ((appear_foreign_barring joining other fun _ => rfl).trans ?_)
  have block : (s.barredBy a).onSnapPart .foreign (byte s.conf.address.val :: byte index :: content)
      = (s.barredBy a).takeSnapPart index content := by
    have mine : s.conf.address = (s.barredBy a).conf.address := (congrArg Configuration.address conf_barred).symm
    simp only [State.onSnapPart, OwnTx.isUpkeep, Bool.false_and, Bool.false_eq_true, if_false, snapPartHead_bytes _ low]
    exact if_pos mine
  rw [block, takes]

theorem takeHead_waiting (joining : s.mem.line = .joining) (phase : s.mem.phase = .waiting) : s.takeHead a q =
    if q.digest ≠ s.conf.digest then s.enterMismatch
    else if s.mem.buffer.length < q.offset then s.rejoin .rejoinOffset
    else { s with mem := { s.mem with
      phase := .receiving { provider := a, sCap := q.sCap, capacities := q.capacities, count := q.count,
                            nextPart := 0, peers := [], claims := [] },
      buffer := s.mem.buffer.drop q.offset, joinWait := none, partGap := some 0 } } := by
  simp only [State.takeHead, joining, phase]

theorem takeHead_receiving (joining : s.mem.line = .joining) (phase : s.mem.phase = .receiving n) :
    s.takeHead a q = s.rejoin .rejoinGap := by
  simp only [State.takeHead, joining, phase]

/-- The snapshot with one more part taken. -/
def SnapIn.withPart (n : SnapIn) (index : Nat) (ps : List SnapPeer) (es : List ClaimEntry) : SnapIn :=
  { n with nextPart := index + 1, peers := n.peers ++ ps, claims := n.claims ++ es }

theorem takeSnapPart_receiving (joining : s.mem.line = .joining) (phase : s.mem.phase = .receiving n)
    (holds : n.partContent index content = some (ps, es)) : s.takeSnapPart index content =
      if index ≠ n.nextPart then s.rejoin .rejoinGap
      else if index = lastPart n.count then s.finishSnapshot (n.withPart index ps es)
      else { s with mem := { s.mem with phase := .receiving (n.withPart index ps es), partGap := some 0 } } := by
  simp only [State.takeSnapPart, joining, phase, holds]
  rfl

/-! ### The entry into MISMATCH (R109) -/

theorem txHas_clearTx (o : Origin) : s.clearTx.txHas o = false := rfl

/-- The list cleared and the line's items discarded, LEAVE queued. -/
def State.mismatched (s : State) : State := { s.clearTx with mem := s.mem.offLine .mismatch }.queueFrame .upkeep leaveFrame

theorem enterMismatch_eq : s.enterMismatch = State.post (stationEvent .lineState (5 * 256 + 10))
    (s.mismatched.alarm fun a => { a with configMismatch := true }) := by
  have free : ({ s.clearTx with mem := s.mem.offLine .mismatch } : State).txHas .upkeep = false := rfl
  have sends : s.enterMismatch = (s.mismatched.alarm fun a => { a with configMismatch := true }).postLineState .mismatch := by
    rw [State.enterMismatch, State.mismatched, ← sendUpkeep_free _ free]
    rfl
  rw [sends]
  refine postLineState_eq (l := .mismatch) ?_ _
  rw [mem_alarm, State.mismatched, mem_queueFrame]
  rfl

theorem mem_enterMismatch : s.enterMismatch.mem = s.mem.offLine .mismatch := by
  rw [enterMismatch_eq, mem_post, mem_alarm, State.mismatched, mem_queueFrame]

theorem configMismatch_post (e : Event) : (s.post e).port.alarms.configMismatch = s.port.alarms.configMismatch := by
  by_cases silent : s.mem.line = .saving ∨ s.mem.line = .dormant
  · rw [post_silent silent]
  · rw [post_awake (fun line => silent (.inl line)) fun line => silent (.inr line)]
    split <;> rfl

theorem configMismatch_enterMismatch : s.enterMismatch.port.alarms.configMismatch = true := by
  rw [enterMismatch_eq, configMismatch_post]
  rfl

theorem tx_enterMismatch : s.enterMismatch.lbi.tx = [{ origin := .upkeep, frame := leaveFrame, voids := 0, held := .none }] := by
  rw [enterMismatch_eq, tx_post]
  rfl

/-! ### The snapshot loaded, the buffer replayed, the join completed (R106) -/

theorem events_completeJoin (active : s.isActive = true) (room : s.port.events.length < 32) :
    (s.completeJoin .snapshot).port.events = s.port.events ++ [stationEvent .lineState (2 * 256 + 2)] := by
  simp only [State.completeJoin, events_foldl _ events_joinedPosition, events_foldl _ events_joinedRecord]
  rw [postLineState_eq (l := .joined) rfl]
  exact events_post_active (isActive_of_joined rfl) room

/-- The peer list that a snapshot gives, the station's own entry JOINED (R106 step 2). -/
theorem set_snapPeers (own : Addr) (l : List SnapPeer) :
    (let peers : Vector Peer 16 := Vector.ofFn fun a => (l[a.val]?.map Peer.ofSnap).getD Peer.blank;
      peers.set own { peers[own] with state := .joined }) = Vector.ofFn fun c : Addr =>
        if c = own then { (l[c.val]?.map Peer.ofSnap).getD Peer.blank with state := .joined }
        else (l[c.val]?.map Peer.ofSnap).getD Peer.blank := by
  refine Vector.ext fun i low => ?_
  simp only [Fin.getElem_fin, Vector.getElem_set, Vector.getElem_ofFn, Fin.ext_iff, eq_comm (a := own.val)]
  split
  · next here => subst here; rfl
  · rfl

theorem loadSnapshot_eq (s : State) (n : SnapIn) : s.loadSnapshot n = { s with
    bud := { capacities := n.capacities, entries := numberEntries n.sCap n.claims, seqNo := n.sCap }
    mem := { s.mem with
      peers := Vector.ofFn fun c : Addr =>
        if c = s.conf.address then { (n.peers[c.val]?.map Peer.ofSnap).getD Peer.blank with state := .joined }
        else (n.peers[c.val]?.map Peer.ofSnap).getD Peer.blank } } := by
  rw [← set_snapPeers]
  rfl

theorem seqNo_applyClaim (t : BudgetTable) (a : Addr) (payload : List Byte) : (applyClaim t a payload).table.seqNo = t.seqNo := by
  unfold applyClaim
  repeat' split
  all_goals rfl

theorem seqNo_applyRelease (t : BudgetTable) (a : Addr) (payload : List Byte) : (applyRelease t a payload).table.seqNo = t.seqNo := by
  unfold applyRelease
  repeat' split
  all_goals rfl

theorem seqNo_applyCapacity (t : BudgetTable) (payload : List Byte) : (applyCapacity t payload).table.seqNo = t.seqNo := by
  unfold applyCapacity
  split <;> rfl

/-- A replicated frame raises the sequence number by one, whatever else it does (R120). -/
theorem seqNo_applyFrame (t : BudgetTable) (f : BufferedFrame) (replicated : kindReplicated f.kind = true) :
    (applyFrame t f).table.seqNo = t.seqNo + 1 := by
  obtain ⟨kind, sender, payload⟩ := f
  cases kind with
  | claim => exact seqNo_applyClaim _ _ _
  | release => exact seqNo_applyRelease _ _ _
  | capacity => exact seqNo_applyCapacity _ _
  | depart =>
    simp only [applyFrame]
    split <;> rfl
  | leave =>
    simp only [applyFrame]
    split <;> rfl
  | join =>
    simp only [applyFrame]
    split <;> rfl
  | _ => cases replicated

theorem seqNo_replayed (l : List BufferedFrame) (s : State) (replicated : ∀ f ∈ l, kindReplicated f.kind = true) :
    (l.foldl State.replayFrame s).bud.seqNo = s.bud.seqNo + BitVec.ofNat 32 l.length := by
  induction l generalizing s with
  | nil => simp
  | cons f l ih =>
    have raised : (s.replayFrame f).bud.seqNo = s.bud.seqNo + 1 := by
      rw [State.replayFrame, bud_listFrame]
      exact seqNo_applyFrame _ _ (replicated f List.mem_cons_self)
    rw [List.foldl_cons, ih _ fun g m => replicated g (List.mem_cons_of_mem _ m), raised, List.length_cons, BitVec.add_assoc]
    congr 1
    rw [Nat.add_comm, BitVec.ofNat_add]
    rfl

theorem still_replayed (l : List BufferedFrame) (s : State) : (l.foldl State.replayFrame s).still = s.still := by
  induction l generalizing s with
  | nil => rfl
  | cons f l ih => rw [List.foldl_cons, ih, still_replayFrame]

theorem line_replayed (l : List BufferedFrame) (s : State) : (l.foldl State.replayFrame s).mem.line = s.mem.line := by
  induction l generalizing s with
  | nil => rfl
  | cons f l ih => rw [List.foldl_cons, ih, line_replayFrame]

theorem joinPayload_role (role : Role) : joinPayload [roleCode role] = some role := by cases role <;> rfl

theorem departPayload_byte (a : Addr) : departPayload [byte a.val] = some a := finOf_addr a

/-! ### Serving (R102, R103) -/

theorem tryServe_front {j : Joiner} {rest : List Joiner} (joined : s.mem.line = .joined) (queue : s.mem.joinQueue = j :: rest)
    (idle : s.mem.serving = none) (free : s.txHas .upkeep = false) (next : s.mem.upkeepNext = none) : s.tryServe =
      { s with mem := { s.mem with serving := some { joiner := j.address, rest := s.snapParts j.address } } }.queueFrame
        .upkeep (s.snapHeadFrame j) := by
  simp [State.tryServe, State.isJoined, joined, idle, free, next, queue]

theorem tryServe_serving (serves : s.mem.serving ≠ none) : s.tryServe = s := by
  simp [State.tryServe, serves]

theorem snapAppeared_more {v : Serving} {f : Frame} {more : List Frame} (serves : s.mem.serving = some v) (rest : v.rest = f :: more) :
    s.snapAppeared = { s with mem := { s.mem with serving := some { v with rest := more } } }.queueFrame .upkeep f := by
  simp only [State.snapAppeared, serves, rest]

theorem snapAppeared_last {v : Serving} (serves : s.mem.serving = some v) (rest : v.rest = []) : s.snapAppeared =
    { s with mem := { s.mem with serving := none, joinQueue := s.mem.joinQueue.filter fun j => decide (j.address ≠ v.joiner) } } := by
  simp only [State.snapAppeared, serves, rest]
  rfl

theorem takeHead_joined (joined : s.mem.line = .joined) : s.takeHead a q = s := by simp only [State.takeHead, joined]

theorem takeSnapPart_joined (joined : s.mem.line = .joined) : s.takeSnapPart index content = s := by
  simp only [State.takeSnapPart, joined]

theorem isUpkeep_plain (joined : s.mem.line = .joined) (origin : e.origin = .upkeep) (plain : e.held = .none) :
    (OwnTx.isUpkeep (.listed e) && s.isJoined) = true := by
  simp [OwnTx.isUpkeep, origin, plain, isJoined_iff.mpr joined]

theorem onSnapHead_own (joined : s.mem.line = .joined) (origin : e.origin = .upkeep) (plain : e.held = .none) :
    s.onSnapHead (.listed e) a payload = s.snapAppeared := by
  have still : s.snapAppeared.mem.line = .joined := (line_snapAppeared s).trans joined
  simp only [State.onSnapHead, if_pos (isUpkeep_plain joined origin plain), takeHead_joined still, ite_self]
  split <;> rfl

theorem onSnapPart_own (joined : s.mem.line = .joined) (origin : e.origin = .upkeep) (plain : e.held = .none) :
    s.onSnapPart (.listed e) payload = s.snapAppeared := by
  have still : s.snapAppeared.mem.line = .joined := (line_snapAppeared s).trans joined
  simp only [State.onSnapPart, if_pos (isUpkeep_plain joined origin plain), takeSnapPart_joined still, ite_self]
  split <;> rfl

theorem origin_of_txEntry {o : Origin} (entry : s.txEntry o = some e) : e.origin = o := by
  simpa using List.find?_some entry

/-- The own snapshot frame has appeared: what follows for the joiner served. -/
theorem exec_ownSnap (joined : s.mem.line = .joined) (sends : s.lbi.inTx = .listed .upkeep) (entry : s.txEntry .upkeep = some e)
    (plain : e.held = .none) (snap : e.frame.kind = .snapHead ∨ e.frame.kind = .snapPart) :
    exec (appearance (kindCode e.frame.kind) s.conf.address e.frame.dest e.frame.payload) s = .next (s.sent e).snapAppeared.tryServe := by
  have origin := origin_of_txEntry entry
  have line : (s.sent e).mem.line = .joined := line_sent.trans joined
  have settled : s.mem.line ≠ .joining := by simp [joined]
  obtain ⟨frameOrigin, ⟨kind, dest, payload⟩, voids, held⟩ := e
  obtain head | part := snap
  · subst head
    refine congrArg Outcome.next ((appear_own (isActive_of_joined joined) settled (by decide) sends entry rfl _).trans ?_)
    rw [onSnapHead_own line origin plain]
  · subst part
    refine congrArg Outcome.next ((appear_own (isActive_of_joined joined) settled (by decide) sends entry rfl _).trans ?_)
    rw [onSnapPart_own line origin plain]

theorem mem_sent_upkeep (origin : e.origin = .upkeep) (plain : e.held = .none) (next : s.mem.upkeepNext = none) :
    (s.sent e).mem = s.mem := by
  have none : ((s.countClean.removeTx .upkeep).setInTx .idle).pumpUpkeep = (s.countClean.removeTx .upkeep).setInTx .idle :=
    pumpUpkeep_none next
  simp only [State.sent, State.finishOwn, origin, plain, State.pumpOrigin, none]
  rfl

/-- Serving changes of the membership unit what is being served alone. -/
theorem mem_tryServe (s : State) : ∃ v, s.tryServe.mem = { s.mem with serving := v } := by
  unfold State.tryServe
  split
  · split
    · exact ⟨_, mem_queueFrame _ _ _⟩
    · exact ⟨s.mem.serving, rfl⟩
  · exact ⟨s.mem.serving, rfl⟩

/-! ### The parts (R103, 10.3) -/

theorem length_groupsOfThree (l : List ClaimEntry) : (groupsOfThree l).length = (l.length + 2) / 3 := by
  fun_induction groupsOfThree l with
  | case1 x y z rest ih =>
    simp only [List.length_cons, ih]
    omega
  | case2 => rfl
  | case3 => simp
  | case4 => simp

theorem groupsOfThree_get (l : List ClaimEntry) (i : Nat) (inside : 3 * i < l.length) :
    (groupsOfThree l)[i]? = some ((l.drop (3 * i)).take 3) := by
  fun_induction groupsOfThree l generalizing i with
  | case1 x y z rest ih =>
    cases i with
    | zero => rfl
    | succ i =>
      rw [List.getElem?_cons_succ, ih i (by simp only [List.length_cons] at inside; omega), show 3 * (i + 1) = 3 * i + 3 by omega,
        List.drop_succ_cons, List.drop_succ_cons, List.drop_succ_cons]
  | case2 => cases inside
  | case3 x =>
    obtain rfl : i = 0 := by simp only [List.length_cons, List.length_nil] at inside; omega
    rfl
  | case4 x y =>
    obtain rfl : i = 0 := by simp only [List.length_cons, List.length_nil] at inside; omega
    rfl

theorem peers_toList (s : State) : s.mem.peers.toList = [s.peer 0, s.peer 1, s.peer 2, s.peer 3, s.peer 4, s.peer 5, s.peer 6,
    s.peer 7, s.peer 8, s.peer 9, s.peer 10, s.peer 11, s.peer 12, s.peer 13, s.peer 14, s.peer 15] := by
  have each : s.mem.peers.toList = (List.finRange 16).map s.peer :=
    List.ext_getElem (by simp) fun i _ _ => by simp [State.peer]
  exact each

theorem peerPartBytes_five (v w x y z : Peer) : peerPartBytes [v, w, x, y, z] =
    [byte (peerGroup v * 16 + peerGroup w), byte (peerGroup x * 16 + peerGroup y), byte (peerGroup z * 16)]
      ++ bytes16 v.epoch ++ bytes16 w.epoch ++ bytes16 x.epoch ++ bytes16 y.epoch ++ bytes16 z.epoch := by
  simp [peerPartBytes, List.range_succ]

theorem peerPartBytes_one (z : Peer) : peerPartBytes [z] = byte (peerGroup z * 16) :: bytes16 z.epoch := by
  simp [peerPartBytes, List.range_succ]

theorem take_snapParts (s : State) (a : Addr) : (s.snapParts a).take 4 =
    [snapPartFrame a 0 (peerPartBytes [s.peer 0, s.peer 1, s.peer 2, s.peer 3, s.peer 4]),
      snapPartFrame a 1 (peerPartBytes [s.peer 5, s.peer 6, s.peer 7, s.peer 8, s.peer 9]),
      snapPartFrame a 2 (peerPartBytes [s.peer 10, s.peer 11, s.peer 12, s.peer 13, s.peer 14]),
      snapPartFrame a 3 (peerPartBytes [s.peer 15])] := by
  simp only [State.snapParts, State.snapContents, peers_toList]
  rfl

theorem length_snapParts (s : State) (a : Addr) : (s.snapParts a).length = 4 + (s.bud.entries.length + 2) / 3 := by
  simp only [State.snapParts, State.snapContents, List.length_map, List.length_zipIdx, List.length_append, length_groupsOfThree,
    List.length_cons, List.length_nil]

theorem claimPart_snapParts (s : State) (a : Addr) (i : Nat) (inside : 3 * i < s.bud.entries.length) :
    (s.snapParts a)[4 + i]? = some (snapPartFrame a (4 + i) (((s.bud.entries.drop (3 * i)).take 3).flatMap claimEntryBytes)) := by
  have content : s.snapContents[4 + i]? = some (((s.bud.entries.drop (3 * i)).take 3).flatMap claimEntryBytes) := by
    rw [State.snapContents, List.getElem?_append_right (by simp), List.getElem?_map]
    simp only [List.length_cons, List.length_nil, Nat.add_sub_cancel_left, groupsOfThree_get _ _ inside, Option.map_some]
  rw [State.snapParts, List.getElem?_map, List.getElem?_zipIdx, content]
  simp

/-! ### A buffered frame applied (R106) -/

theorem replayFrame_table {f : BufferedFrame} (kind : f.kind = .claim ∨ f.kind = .release ∨ f.kind = .capacity) :
    s.replayFrame f = { s with bud := (applyFrame s.bud f).table } := by
  rcases kind with kind | kind | kind <;> simp only [State.replayFrame, State.listFrame, kind]

theorem replayFrame_join {f : BufferedFrame} (role : Role) (kind : f.kind = .join) (payload : f.payload = [roleCode role]) :
    s.replayFrame f = ({ s with bud := (applyFrame s.bud f).table } : State).peerJoins f.sender role := by
  simp only [State.replayFrame, State.listFrame, kind, payload, joinPayload_role]

theorem replayFrame_depart {f : BufferedFrame} (kind : f.kind = .depart) (payload : f.payload = [byte a.val]) :
    s.replayFrame f = ({ s with bud := (applyFrame s.bud f).table } : State).peerGone a .depart := by
  simp only [State.replayFrame, State.listFrame, kind, payload, departPayload_byte]

theorem replayFrame_leave {f : BufferedFrame} (kind : f.kind = .leave) (payload : f.payload = []) :
    s.replayFrame f = ({ s with bud := (applyFrame s.bud f).table } : State).peerGone f.sender .leave := by
  simp only [State.replayFrame, State.listFrame, kind, payload, if_true]

theorem peerJoins_eq (role : Role) : s.peerJoins a role =
    (s.updPeer a (Peer.joins role)).post (stationEvent .peerJoined (a.val * 65536 + (nextEpoch (s.peer a).epoch).toNat)) := by
  rw [State.peerJoins, State.postPeerJoined, peer_updPeer_same]
  rfl

end

/-- Settles O49. -/
theorem snapshotsServedAndTaken : Obligations.SnapshotsServedAndTaken := by
  refine ⟨fun a dest payload q s joining other all reads mine => ?_, fun a dest index content n ps es s joining phase other all low holds => ?_,
    fun f s => ?_, fun j rest s joined queue => ?_, fun a s => ?_⟩
  · subst all
    have line : (s.barredBy a).mem.line = .joining := joining
    have still {o : State} (same : o.mem.line = .joining) : o.mem.line ≠ .joined := by rw [same]; decide
    have again (c : Cause) (collecting : (s.barredBy a).collecting = true) (free : s.txHas .upkeep = false) :
        (s.barredBy a).rejoin c = (s.barredBy a).joinsAgain (causeCode c) :=
      rejoin_free collecting line ((txHas_barred .upkeep (by simp)).trans free)
    have rejoins {c : Cause} (collecting : (s.barredBy a).collecting = true) (free : s.txHas .upkeep = false)
        (takes : (s.barredBy a).takeHead a q = (s.barredBy a).rejoin c) :=
      exec_snapHead joining other reads mine (takes.trans ((again c collecting free).trans (joinsAgain_barred s a _)))
        (still (by rw [← joinsAgain_barred, line_joinsAgain]; exact joining))
    refine ⟨fun phase same fits => ?_, fun phase same short free => ?_, fun n phase free => ?_, fun phase differs => ?_⟩
    · refine exec_snapHead joining other reads mine ?_ (still joining)
      rw [takeHead_waiting line phase, if_neg (by rw [conf_barred]; exact not_not_intro same)]
      exact if_neg (Nat.not_lt.mpr fits)
    · refine rejoins (c := .rejoinOffset) (collecting_waiting line phase) free ?_
      rw [takeHead_waiting line phase, if_neg (by rw [conf_barred]; exact not_not_intro same)]
      exact if_pos short
    · exact rejoins (c := .rejoinGap) (collecting_receiving line phase) free (takeHead_receiving line phase)
    · have takes : (s.barredBy a).takeHead a q = (s.barredBy a).enterMismatch := by
        rw [takeHead_waiting line phase, if_pos (by rw [conf_barred]; exact differs)]
      have left := mem_enterMismatch (s := s.barredBy a)
      exact ⟨_, exec_snapHead joining other reads mine takes (by rw [left]; exact nofun), congrArg Membership.line left,
        configMismatch_enterMismatch, congrArg Membership.buffer left, congrArg Membership.presence left, tx_enterMismatch⟩
  · subst all
    have line : (s.barredBy a).mem.line = .joining := joining
    have takes := takeSnapPart_receiving (s := s.barredBy a) line phase holds
    have off {o : State} (same : o.mem.line = .joining) : o.tryServe = o := tryServe_unjoined (by rw [same]; decide)
    intro part taken loaded u
    have takesPart {o : State} (runs : (s.barredBy a).takeSnapPart index content = o) : exec part s = .next o.tryServe :=
      exec_snapPart joining other low runs
    refine ⟨fun gap free => ?_, fun next more => ?_, fun next last => ?_⟩
    · have again : (s.barredBy a).rejoin .rejoinGap = (s.barredBy a).joinsAgain 12 :=
        rejoin_free (collecting_receiving line phase) line ((txHas_barred .upkeep (by simp)).trans free)
      refine (takesPart (takes.trans (if_pos gap))).trans (congrArg Outcome.next ?_)
      rw [again, off ((line_joinsAgain 12).trans line), joinsAgain_barred]
    · exact (takesPart (takes.trans ((if_neg (not_not_intro next)).trans (if_neg more)))).trans (congrArg Outcome.next (off line))
    · have standing : (s.barredBy a).loadSnapshot (n.withPart index ps es) = loaded := by
        have listed (c : Addr) : (taken.peers[c.val]?.map Peer.ofSnap).getD Peer.blank =
            match taken.peers[c.val]? with
            | some q => { Peer.blank with state := q.state, role := q.role, epoch := q.epoch }
            | none => Peer.blank := by cases taken.peers[c.val]? <;> rfl
        have own : (s.barredBy a).conf.address = s.conf.address := congrArg Configuration.address conf_barred
        rw [loadSnapshot_eq, own]
        simp only [show n.withPart index ps es = taken from rfl, listed]
        rfl
      have done : (s.barredBy a).takeSnapPart index content = u.completeJoin .snapshot := by
        rw [takes, if_neg (not_not_intro next), if_pos last, State.finishSnapshot, standing]
        rfl
      have own : u.conf.address = s.conf.address := by
        have still : u.still = s.still := (still_replayed _ _).trans (still_noteSender a s.countClean)
        exact congrArg Configuration.address (conf_of_still still)
      have lineU : u.mem.line = .joining := (line_replayed _ _).trans joining
      have active : u.isActive = true := by simp [State.isActive, lineU]
      have left := mem_completeJoin .snapshot u
      obtain ⟨v, served⟩ := mem_tryServe (u.completeJoin .snapshot)
      have peers : (u.completeJoin .snapshot).tryServe.mem.peers = startTimers s.conf.address u.mem.peers := by
        rw [peers_tryServe, left, own]
        rfl
      refine ⟨_, takesPart done, ?_, ?_, fun c => ?_, ?_, fun room => ?_, ?_, ?_, ?_, ?_, ?_, fun replicated => ?_⟩
      · rw [line_tryServe, left]; rfl
      · rw [bud_tryServe, bud_completeJoin]
      · simp only [State.peer, peers, startTimers, Fin.getElem_fin, Vector.getElem_ofFn, true_and]
        rfl
      · rw [served, left, own]; rfl
      · rw [events_tryServe, events_completeJoin active room]
      · rw [served, left]; rfl
      · rw [served, left]; rfl
      · rw [served, left]; rfl
      · rw [served, left]; rfl
      · rw [listenOnly_tryServe, listenOnly_completeJoin]
      · rw [bud_tryServe, bud_completeJoin]
        exact seqNo_replayed _ _ replicated
  · intro w gone
    have peers (a : Addr) : w.peer a = s.peer a := rfl
    have departs (a : Addr) (c : GoneCause) : w.peerGone a c = gone a (goneCode c) := rfl
    refine ⟨fun kind => replayFrame_table kind, fun role kind payload => ?_, fun a kind payload => ?_, fun kind payload => ?_⟩
    · exact (replayFrame_join role kind payload).trans (peerJoins_eq role)
    · exact (replayFrame_depart kind payload).trans (departs a .depart)
    · exact (replayFrame_leave kind payload).trans (departs f.sender .leave)
  · refine ⟨fun idle free next => tryServe_front joined queue idle free next, fun e sends entry plain snap next => ?_⟩
    have runs := exec_ownSnap joined sends entry plain snap
    have mem : (s.sent e).mem = s.mem := mem_sent_upkeep (origin_of_txEntry entry) plain next
    refine ⟨fun f more serves => runs.trans (congrArg Outcome.next ?_), fun serves => runs.trans (congrArg Outcome.next ?_)⟩
    · rw [snapAppeared_more (by rw [mem]; exact serves) rfl, mem]
      exact tryServe_serving (by rw [mem_queueFrame]; exact nofun)
    · rw [snapAppeared_last (by rw [mem]; exact serves) rfl, mem, queue]
  · refine ⟨?_, fun i inside => claimPart_snapParts s a i inside, length_snapParts s a⟩
    rw [take_snapParts]
    simp only [peerPartBytes_five, peerPartBytes_one]
    rfl

end Sys2Proof.Machine
end

section
/-! SUPPORT. What leaves the booking list takes its positions and slots with it (R11, R146). -/

namespace Sys2Proof.Machine
open Host

section
variable {s : State} {h : Handle} {p : PosIx} {cond : Booking → Bool}

/-- Entries that leave the booking list name position p. -/
def State.leavesAt (s : State) (cond : Booking → Bool) (p : PosIx) : Bool := s.bookings.any fun b => cond b && decide (b.position = p)

/-- Entries that leave the booking list name slot h. -/
def State.leavesSlot (s : State) (cond : Booking → Bool) (h : Handle) : Bool := s.bookings.any fun b => cond b && decide (b.slot = h)

/-- A position that becomes EMPTY. -/
def Position.emptied (x : Position) : Position := { x with state := .empty, link := none, stepEn := false }

theorem vacate_all (l : List Booking) (s : State) :
    l.foldl (fun (s : State) b => s.vacate b.position .empty) s =
      { s with seqr := (l.foldl (fun (s : State) b => s.vacate b.position .empty) s).seqr } := by
  induction l generalizing s with
  | nil => rfl
  | cons b l ih => rw [List.foldl_cons, ih]; rfl

theorem pos_vacate_all (l : List Booking) (s : State) (p : PosIx) : (l.foldl (fun (s : State) b => s.vacate b.position .empty) s).pos p =
    if l.any fun b => decide (b.position = p) then (s.pos p).emptied else s.pos p := by
  induction l generalizing s with
  | nil => rfl
  | cons b l ih =>
    rw [List.foldl_cons, ih, List.any_cons, State.vacate, pos_updPos]
    by_cases here : b.position = p
    · subst here
      simp only [decide_true, Bool.true_or, if_true, Position.emptied, ite_self]
    · simp only [here, decide_false, Bool.false_or, if_false]

theorem freeSlot_all (l : List Handle) (s : State) : l.foldl (fun (s : State) h => s.freeSlot h) s =
    { s with store := { s.store with
        slots := (l.foldl (fun (s : State) h => s.freeSlot h) s).store.slots, freeList := l.reverse ++ s.store.freeList } } := by
  induction l generalizing s with
  | nil => rfl
  | cons g l ih =>
    rw [List.foldl_cons, ih, List.reverse_cons, List.append_assoc]
    rfl

theorem state_freeSlot (g h : Handle) (s : State) :
    ((s.freeSlot g).slot h).state = if g = h then .free else (s.slot h).state := by
  split
  · next here => subst here; exact (freeSlot_spec g s).2.1
  · next other => rw [(freeSlot_spec g s).2.2.2.1 h fun same => other same.symm]

theorem state_freeSlot_all (l : List Handle) (s : State) (h : Handle) :
    ((l.foldl (fun (s : State) h => s.freeSlot h) s).slot h).state = if h ∈ l then .free else (s.slot h).state := by
  induction l generalizing s with
  | nil => simp
  | cons g l ih =>
    rw [List.foldl_cons, ih, state_freeSlot]
    by_cases here : g = h <;> simp [here, eq_comm (a := h)]

theorem waits_freeSlot_other (g h : Handle) (s : State) (none : (s.slot h).waits = []) : ((s.freeSlot g).slot h).waits = [] := by
  by_cases here : g = h
  · subst here
    rw [waits_freeSlot, none]
    rfl
  · rw [(freeSlot_spec g s).2.2.2.1 h fun same => here same.symm, none]

theorem waits_freeSlot_all (l : List Handle) (s : State) (h : Handle) (none : (s.slot h).waits = []) :
    ((l.foldl (fun (s : State) h => s.freeSlot h) s).slot h).waits = [] := by
  induction l generalizing s with
  | nil => exact none
  | cons g l ih => exact ih _ (waits_freeSlot_other g h s none)

theorem any_filter_position (l : List Booking) (cond : Booking → Bool) (f : Booking → Bool) :
    (l.filter cond).any f = l.any fun b => cond b && f b := by
  rw [List.any_filter]

/-- The slots that the entries leaving free, in the order in which they are freed. -/
def State.slotsLeft (s : State) (cond : Booking → Bool) : List Handle := handles.filter (s.leavesSlot cond)

theorem mem_slotsLeft : h ∈ s.slotsLeft cond ↔ s.leavesSlot cond h = true := by
  simp [State.slotsLeft, mem_handles]

theorem dropEntries_eq : s.dropEntries cond = (s.slotsLeft cond).foldl (fun (s : State) h => s.freeSlot h)
    ((s.bookings.filter cond).foldl (fun (s : State) b => s.vacate b.position .empty)
      { s with bookings := s.bookings.filter fun b => !cond b }) := by
  have same : (fun h : Handle => (s.bookings.filter cond).any fun b => decide (b.slot = h)) = s.leavesSlot cond :=
    funext fun h => any_filter_position _ _ _
  rw [State.dropEntries, State.slotsLeft, ← same]

/-- What entries leaving the list change: the list, the positions, the slots and the free list. -/
theorem dropEntries_shape : s.dropEntries cond = { s with
    bookings := s.bookings.filter fun b => !cond b
    seqr := (s.dropEntries cond).seqr
    store := { s.store with
      slots := (s.dropEntries cond).store.slots, freeList := (s.slotsLeft cond).reverse ++ s.store.freeList } } := by
  rw [dropEntries_eq, freeSlot_all, vacate_all]

theorem pos_dropEntries (p : PosIx) : (s.dropEntries cond).pos p =
    if s.leavesAt cond p then (s.pos p).emptied else s.pos p := by
  have seqr : (s.dropEntries cond).pos p = ((s.bookings.filter cond).foldl (fun (s : State) b => s.vacate b.position .empty)
      { s with bookings := s.bookings.filter fun b => !cond b }).pos p := by
    rw [dropEntries_eq, freeSlot_all]
    rfl
  rw [seqr, pos_vacate_all, any_filter_position]
  rfl

theorem state_dropEntries (h : Handle) : ((s.dropEntries cond).slot h).state =
    if s.leavesSlot cond h then .free else (s.slot h).state := by
  rw [dropEntries_eq, state_freeSlot_all, vacate_all]
  simp only [mem_slotsLeft]
  rfl

theorem recOpt_dropEntries (h : Handle) : (s.dropEntries cond).rec? h = if s.leavesSlot cond h then none else s.rec? h := by
  simp only [State.rec?, state_dropEntries]
  by_cases leaves : s.leavesSlot cond h = true <;> simp [leaves]

theorem waits_dropEntries (h : Handle) (none : (s.slot h).waits = []) : ((s.dropEntries cond).slot h).waits = [] := by
  rw [dropEntries_eq]
  refine waits_freeSlot_all _ _ h ?_
  rw [vacate_all]
  exact none

end
end Sys2Proof.Machine
end

section
/-! SUPPORT. The entry into SAVING (R48, R90, R134, R161, R171). -/

namespace Sys2Proof.Machine
open Host

section
variable {s : State} {h : Handle} {p : PosIx} {r : Record}

theorem recOpt_iff : s.rec? h = some r ↔ (s.slot h).state = .inUse r := by
  unfold State.rec?
  cases (s.slot h).state <;> simp

/-! ### The positions at the warning -/

theorem pauseForPower_shape : s.pauseForPower p = { s with
    seqr := (s.updPos p fun x => { x with stepEn := false }).seqr
    store := { s.store with slots := (s.pauseForPower p).store.slots } } := by
  unfold State.pauseForPower
  dsimp only
  split
  · split <;> rfl
  · rfl

theorem pause_all_shape (l : List PosIx) (s : State) : l.foldl State.pauseForPower s = { s with
    seqr := (l.foldl State.pauseForPower s).seqr
    store := { s.store with slots := (l.foldl State.pauseForPower s).store.slots } } := by
  induction l generalizing s with
  | nil => rfl
  | cons p l ih =>
    rw [List.foldl_cons, ih, pauseForPower_shape]

theorem pos_pauseForPower (q : PosIx) : (s.pauseForPower p).pos q =
    if p = q then { s.pos q with stepEn := false } else s.pos q := by
  have lowered : (s.updPos p fun x => { x with stepEn := false }).pos q =
      if p = q then { s.pos q with stepEn := false } else s.pos q := by
    rw [pos_updPos]
    split
    · next here => rw [here]
    · rfl
  unfold State.pauseForPower
  dsimp only
  split
  · split
    · exact (pos_setRec _ _ _ _).trans lowered
    · exact lowered
  · exact lowered

theorem pos_pause_all (l : List PosIx) (s : State) (q : PosIx) : (l.foldl State.pauseForPower s).pos q =
    if q ∈ l then { s.pos q with stepEn := false } else s.pos q := by
  induction l generalizing s with
  | nil => rfl
  | cons p l ih =>
    rw [List.foldl_cons, ih, pos_pauseForPower]
    by_cases here : p = q
    · subst here; simp
    · simp [here, eq_comm (a := q)]

theorem waits_pauseForPower (h : Handle) : ((s.pauseForPower p).slot h).waits = (s.slot h).waits := by
  unfold State.pauseForPower
  dsimp only
  split
  · split
    · rw [waits_setRec]; rfl
    · rfl
  · rfl

/-- A record at the warning of power loss: PAUSED where it ran on the position, else as it stands. -/
theorem recOpt_pauseForPower (stands : s.rec? h = some r) : ∃ st, (s.pauseForPower p).rec? h = some { r with state := st }
    ∧ (st = r.state ∨ r.state = .running ∧ st = .paused) ∧ (r.state = .running → s.onPosition p h r → st = .paused) := by
  have kept (q : PosIx) (g : Handle) (x : Record) :
      (s.updPos p fun x => { x with stepEn := false }).onPosition p g x ↔ s.onPosition p g x := by
    simp [State.onPosition]
  unfold State.pauseForPower
  dsimp only
  split
  · next g x found =>
    have on : s.onPosition p g x := (kept p g x).mp (working_eq_some.mp found)
    split
    · next runs =>
      by_cases same : g = h
      · subst same
        obtain rfl : x = r := Option.some.inj (on.2.2.symm.trans stands)
        exact ⟨.paused, recOpt_setRec_same _ _ _, .inr ⟨runs, rfl⟩, fun _ _ => rfl⟩
      · refine ⟨r.state, ?_, .inl rfl, fun _ here => absurd (Option.some.inj (on.2.1.symm.trans here.2.1)) same⟩
        rw [recOpt_setRec_ne _ _ _ _ same]
        exact stands
    · next rests =>
      refine ⟨r.state, stands, .inl rfl, fun runs here => ?_⟩
      obtain rfl : g = h := Option.some.inj (on.2.1.symm.trans here.2.1)
      obtain rfl : x = r := Option.some.inj (on.2.2.symm.trans stands)
      exact absurd runs rests
  · next none =>
    refine ⟨r.state, stands, .inl rfl, fun _ here => ?_⟩
    rw [working_eq_some.mpr ((kept p h r).mpr here)] at none
    cases none

theorem recOpt_pause_all (l : List PosIx) (s : State) (stands : s.rec? h = some r) : ∃ st,
    (l.foldl State.pauseForPower s).rec? h = some { r with state := st }
      ∧ (st = r.state ∨ r.state = .running ∧ st = .paused) ∧ (∀ p ∈ l, r.state = .running → s.onPosition p h r → st = .paused) := by
  induction l generalizing s r with
  | nil => exact ⟨r.state, stands, .inl rfl, by simp⟩
  | cons p l ih =>
    obtain ⟨st, rec', kept, paused⟩ := recOpt_pauseForPower (p := p) stands
    obtain ⟨last, final, keptLast, pausedLast⟩ := ih (s.pauseForPower p) rec'
    refine ⟨last, final, ?_, fun q m runs on => ?_⟩
    · obtain same | ⟨runs, same⟩ := keptLast
      · exact kept.imp same.trans fun ⟨runs, paused⟩ => ⟨runs, same.trans paused⟩
      · obtain before | ⟨-, paused⟩ := kept
        · exact .inr ⟨before.symm.trans runs, same⟩
        · exact absurd (paused.symm.trans runs) (by decide)
    · have after : st = .paused → last = .paused := fun first => by
        obtain same | ⟨runs', -⟩ := keptLast
        · exact same.trans first
        · exact absurd (first.symm.trans runs') (by decide)
      obtain here | later := List.mem_cons.mp m
      · exact after (paused runs (here ▸ on))
      · by_cases moved : st = .paused
        · exact after moved
        · obtain same | ⟨-, now⟩ := kept
          · obtain ⟨state, link, -⟩ := on
            refine pausedLast q later (same.trans runs) ⟨?_, ?_, rec'⟩
            · rw [pos_pauseForPower]; split <;> exact state
            · rw [pos_pauseForPower]; split <;> exact link
          · exact absurd now moved

/-! ### The transmit list cleared (R89, R90) -/

theorem inTx_clearTx : s.clearTx.lbi.inTx = match s.frameOut with
    | some f => .orphan f
    | none => .idle := by
  simp only [State.clearTx, State.frameOut]
  cases s.lbi.inTx with
  | idle => rfl
  | orphan f => rfl
  | listed o =>
    dsimp only
    cases s.txEntry o <;> rfl

theorem frameOut_clearTx : s.clearTx.frameOut = s.frameOut := by
  have orphaned : s.clearTx.frameOut = match s.clearTx.lbi.inTx with
      | .listed _ => none
      | .orphan f => some f
      | .idle => none := by
    unfold State.frameOut
    cases s.clearTx.lbi.inTx <;> rfl
  rw [orphaned, inTx_clearTx]
  cases s.frameOut <;> rfl

theorem clearTx_eq : s.clearTx = { s with
    lbi := { s.lbi with
      tx := []
      inTx := match s.frameOut with
        | some f => .orphan f
        | none => .idle
      stall := none }
    mem := { s.mem with upkeepNext := none }
    store := { s.store with slots := s.store.slots.map fun x => { x with waits := [] } } } := by
  rw [← inTx_clearTx]
  rfl

theorem waits_clearTx (h : Handle) : (s.clearTx.slot h).waits = [] := by
  simp [State.clearTx, State.slot]

theorem recOpt_clearTx (h : Handle) : s.clearTx.rec? h = s.rec? h := by
  simp [State.clearTx, State.rec?, State.slot]

theorem takenOut_of_frameOut {u : State} (same : u.frameOut = s.frameOut) : u.takenOut = s.takenOut := by
  funext b
  rw [State.takenOut, State.takenOut, same]

/-! ### The hand-off unit at the warning (R161) -/

/-- The records with their hand-off timers and transfers ended. -/
def State.handoffStopped (s : State) : State :=
  { s with store := { s.store with slots := s.store.slots.map fun (x : Slot) => { x with state := x.state.mapRec Record.powerFail } } }

theorem powerFailHandoff_eq : s.powerFailHandoff = s.handoffStopped.dropEntries fun b => !s.takenOut b := rfl

theorem recOpt_handoffStopped (h : Handle) : s.handoffStopped.rec? h = (s.rec? h).map Record.powerFail := by
  have state : (s.handoffStopped.slot h).state = (s.slot h).state.mapRec Record.powerFail := by
    simp [State.handoffStopped, State.slot]
  simp only [State.rec?, state]
  cases (s.slot h).state <;> rfl

theorem waits_handoffStopped (h : Handle) : (s.handoffStopped.slot h).waits = (s.slot h).waits := by
  simp [State.handoffStopped, State.slot]

theorem judgeSlots_saving (saving : s.mem.line = .saving) :
    s.judgeSlots = { s with store := { s.store with lowIndication := decide (s.store.freeList.length ≤ 4) } } := by
  have silent (b : Bool) (e : Event) : ({ s with store := { s.store with lowIndication := b } } : State).post e =
      { s with store := { s.store with lowIndication := b } } :=
    post_silent (s := { s with store := { s.store with lowIndication := b } }) (.inl saving) e
  have count : s.freeCount = s.store.freeList.length := rfl
  have kept {b : Bool} (mark : s.store.lowIndication = b) : s = { s with store := { s.store with lowIndication := b } } := by
    subst mark
    rfl
  by_cases low : s.freeCount ≤ 4 <;> cases mark : s.store.lowIndication
  · rw [judgeSlots_low low mark, silent, decide_eq_true (count ▸ low)]
  · rw [judgeSlots_same (by simp [low, mark]), decide_eq_true (count ▸ low)]
    exact kept mark
  · rw [judgeSlots_same (by simp [low, mark]), decide_eq_false (count ▸ low)]
    exact kept mark
  · rw [judgeSlots_ok (Nat.not_le.mp low) mark, silent, decide_eq_false (count ▸ low)]

/-! ### The entry into SAVING (R171) -/

/-- The positions at the warning: what becomes of them, of the slots, and of nothing else (R48). -/
theorem pause_all_spec (s : State) : ∃ (seqr : Vector Position 8) (slots : Vector Slot 32),
    positions.foldl State.pauseForPower s = { s with seqr := seqr, store := { s.store with slots := slots } }
      ∧ (∀ p : PosIx, seqr[p] = { s.pos p with stepEn := false })
      ∧ ∀ (h : Handle) (r : Record), s.rec? h = some r → ∃ st, slots[h].state = .inUse { r with state := st }
        ∧ (st = r.state ∨ r.state = .running ∧ st = .paused) ∧ (∀ p, r.state = .running → s.onPosition p h r → st = .paused) := by
  have posAll (p : PosIx) : (positions.foldl State.pauseForPower s).pos p = { s.pos p with stepEn := false } := by
    rw [pos_pause_all, if_pos (mem_positions p)]
  have recAll (h : Handle) (r : Record) := recOpt_pause_all (h := h) (r := r) positions s
  have shape := pause_all_shape positions s
  generalize positions.foldl State.pauseForPower s = paused at posAll recAll shape
  refine ⟨paused.seqr, paused.store.slots, shape, posAll, fun h r stands => ?_⟩
  obtain ⟨st, rec', kept, moved⟩ := recAll h r stands
  refine ⟨st, ?_, kept, fun p => moved p (mem_positions p)⟩
  exact recOpt_iff.mp rec'

theorem dropEntries_spec (s : State) (cond : Booking → Bool) : ∃ (seqr : Vector Position 8) (slots : Vector Slot 32),
    s.dropEntries cond = { s with
        bookings := s.bookings.filter fun b => !cond b
        seqr := seqr
        store := { s.store with slots := slots, freeList := (s.slotsLeft cond).reverse ++ s.store.freeList } }
      ∧ (∀ p : PosIx, seqr[p] = if s.leavesAt cond p then (s.pos p).emptied else s.pos p)
      ∧ (∀ h : Handle, slots[h].state = if s.leavesSlot cond h then .free else (s.slot h).state)
      ∧ ∀ h : Handle, (s.slot h).waits = [] → slots[h].waits = [] :=
  ⟨_, _, dropEntries_shape, pos_dropEntries, state_dropEntries, waits_dropEntries⟩

/-- A position at the warning that no entry given up names. -/
def Position.stopped (x : Position) : Position := { x with stepEn := false, claim := .none, withdrawing := false, remembered := false }

/-- The frames left on the transmit list at the warning: the LEAVE of a station on the line (R90). -/
def State.leaveOnly (s : State) : List TxEntry :=
  if s.isOnLine then [{ origin := .upkeep, frame := leaveFrame, voids := 0, held := .none }] else []

/-- The entries that the warning takes off the booking list (R161). -/
def State.givenUp (s : State) (b : Booking) : Bool := !s.takenOut b

theorem handoffStopped_state (h : Handle) : (s.handoffStopped.slot h).state = (s.slot h).state.mapRec Record.powerFail := by
  simp [State.handoffStopped, State.slot]

theorem inTx_of_frameOut {u : State} (lbi : u.lbi = s.lbi) : u.frameOut = s.frameOut := by
  simp only [State.frameOut, State.txEntry, lbi]

/-- SAVING entered by the membership unit, the slots judged and LEAVE queued where the station was on the line (R90). -/
def State.goSaving (s : State) (online : Bool) : State :=
  if online then State.sendUpkeep leaveFrame ({ s with mem := s.mem.offLine .saving } : State).judgeSlots
  else ({ s with mem := s.mem.offLine .saving } : State).judgeSlots

theorem goSaving_eq (online : Bool) (empty : s.lbi.tx = []) (stopped : s.lbi.stall = none) : s.goSaving online = { s with
    mem := s.mem.offLine .saving
    store := { s.store with lowIndication := decide (s.store.freeList.length ≤ 4) }
    lbi := { s.lbi with
      tx := if online then [{ origin := .upkeep, frame := leaveFrame, voids := 0, held := .none }] else []
      stall := if online then some 0 else none } } := by
  have judged := judgeSlots_saving (s := { s with mem := s.mem.offLine .saving }) rfl
  have free : ({ s with mem := s.mem.offLine .saving, store := { s.store with
      lowIndication := decide (s.store.freeList.length ≤ 4) } } : State).txHas .upkeep = false :=
    txHas_false_iff.mpr (by simp [State.framesOf, empty])
  rw [State.goSaving, judged]
  cases online with
  | false =>
    simp only [Bool.false_eq_true, if_false]
    rw [← empty, ← stopped]
  | true =>
    rw [if_pos rfl, sendUpkeep_free _ free, State.queueFrame, if_neg (by rw [free]; decide)]
    simp only [empty]
    rfl

theorem enterSaving_eq : s.enterSaving =
    ((positions.foldl State.pauseForPower s).clearTx.dropClaims.powerFailHandoff).goSaving s.isOnLine := rfl

theorem pos_dropClaims : s.dropClaims.pos p = { s.pos p with claim := .none, withdrawing := false, remembered := false } := by
  simp [State.dropClaims, State.pos]

theorem leavesSlot_congr {u : State} (lists : u.bookings = s.bookings) : u.leavesSlot = s.leavesSlot := by
  funext cond h
  rw [State.leavesSlot, State.leavesSlot, lists]

theorem leavesAt_congr {u : State} (lists : u.bookings = s.bookings) : u.leavesAt = s.leavesAt := by
  funext cond p
  rw [State.leavesAt, State.leavesAt, lists]

theorem slotsLeft_congr {u : State} (lists : u.bookings = s.bookings) : u.slotsLeft = s.slotsLeft := by
  funext cond
  rw [State.slotsLeft, State.slotsLeft, leavesSlot_congr lists]

/-- The state in which SAVING is entered (R171). -/
theorem enterSaving_spec (s : State) : ∃ (seqr : Vector Position 8) (slots : Vector Slot 32),
    s.enterSaving = { s with
        mem := s.mem.offLine .saving
        lbi := { s.lbi with
          tx := s.leaveOnly
          inTx := match s.frameOut with
            | some f => .orphan f
            | none => .idle
          stall := if s.isOnLine then some 0 else none }
        seqr := seqr
        bookings := s.bookings.filter fun b => !s.givenUp b
        store := { s.store with
          slots := slots
          freeList := (s.slotsLeft s.givenUp).reverse ++ s.store.freeList
          lowIndication := decide (((s.slotsLeft s.givenUp).reverse ++ s.store.freeList).length ≤ 4) } }
      ∧ (∀ p : PosIx, seqr[p] = if s.leavesAt s.givenUp p then (s.pos p).stopped.emptied else (s.pos p).stopped)
      ∧ (∀ h : Handle, s.leavesSlot s.givenUp h = true → slots[h].state = .free)
      ∧ (∀ (h : Handle) (r : Record), s.rec? h = some r → s.leavesSlot s.givenUp h = false →
        ∃ st, slots[h].state = .inUse
            { r with state := st, answerTimer := none, handOffTimer := none, locateTimer := none, carry := none }
          ∧ (st = r.state ∨ r.state = .running ∧ st = .paused) ∧ (∀ p, r.state = .running → s.onPosition p h r → st = .paused))
      ∧ ∀ h : Handle, slots[h].waits = [] := by
  obtain ⟨seqr, slots, shape, pos, recs⟩ := pause_all_spec s
  rw [enterSaving_eq, shape]
  generalize paused : ({ s with seqr := seqr, store := { s.store with slots := slots } } : State) = u
  have taken : u.clearTx.dropClaims.takenOut = s.takenOut := by
    refine takenOut_of_frameOut ?_
    have cleared : u.clearTx.dropClaims.frameOut = u.clearTx.frameOut := rfl
    rw [cleared, frameOut_clearTx, ← paused]
    rfl
  rw [powerFailHandoff_eq, taken]
  change ∃ _ _, ((u.clearTx.dropClaims.handoffStopped).dropEntries s.givenUp).goSaving s.isOnLine = _ ∧ _
  obtain ⟨seqr', slots', dropped, pos', states', waits'⟩ := dropEntries_spec u.clearTx.dropClaims.handoffStopped s.givenUp
  rw [dropped, goSaving_eq _ rfl rfl]
  have lists : u.clearTx.dropClaims.handoffStopped.bookings = s.bookings := by rw [← paused]; rfl
  refine ⟨seqr', slots', ?_, fun p => ?_, fun h leaves => ?_, fun h r stands stays => ?_, fun h => waits' h ?_⟩
  · rw [slotsLeft_congr lists, lists]
    subst paused
    rw [clearTx_eq]
    rfl
  · have stopped : u.clearTx.dropClaims.handoffStopped.pos p = (s.pos p).stopped := by
      have same : u.clearTx.dropClaims.handoffStopped.pos p = u.clearTx.dropClaims.pos p := rfl
      have lowered : u.pos p = { s.pos p with stepEn := false } := by rw [← paused]; exact pos p
      rw [same, pos_dropClaims, show u.clearTx.pos p = u.pos p from rfl, lowered]
      rfl
    rw [pos' p, stopped, leavesAt_congr lists]
  · rw [states' h, leavesSlot_congr lists, if_pos leaves]
  · obtain ⟨st, here, kept, moved⟩ := recs h r stands
    refine ⟨st, ?_, kept, moved⟩
    rw [states' h, leavesSlot_congr lists, if_neg (Bool.eq_false_iff.mp stays), handoffStopped_state]
    have same : (u.clearTx.dropClaims.slot h).state = slots[h].state := by
      rw [← paused]
      simp [State.clearTx, State.dropClaims, State.slot]
    rw [same, here]
    rfl
  · rw [waits_handoffStopped]
    exact waits_clearTx h

end

/-- Settles O25. -/
theorem warningSaves : Obligations.WarningSaves := by
  intro s
  refine ⟨fun off => ?_, fun active => ?_⟩
  · have idle : ¬({ s with pins := { s.pins with pfw := true } } : State).isActive = true := by
      rw [Bool.not_eq_true]
      exact off
    exact congrArg Outcome.next (if_neg idle)
  obtain ⟨seqr, slots, reached, pos, freed, recs, waits⟩ := enterSaving_spec { s with pins := { s.pins with pfw := true } }
  have runs : exec .powerFailWarning s = .next (State.enterSaving { s with pins := { s.pins with pfw := true } }) :=
    congrArg Outcome.next (if_pos active)
  have keeps : (s.bookings.filter fun b => !s.givenUp b) = s.bookings.filter s.takenOut :=
    congrArg (fun cond => s.bookings.filter cond) (funext fun b => Bool.not_not _)
  have still (p : PosIx) : seqr[p].stepEn = false ∧ seqr[p].claim = .none ∧ seqr[p].withdrawing = false
      ∧ seqr[p].remembered = false := by
    rw [pos p]
    split <;> exact ⟨rfl, rfl, rfl, rfl⟩
  have leaves {f : Booking → Bool} : s.bookings.any (fun b => s.givenUp b && f b) = true ↔
      ∃ b ∈ s.bookings, s.takenOut b = false ∧ f b = true := by simp [State.givenUp]
  rw [reached] at runs
  refine ⟨_, runs, rfl, rfl, rfl, still, ?_, ?_, rfl, rfl, rfl, waits, keeps, fun b m out => ?_, fun p others => ?_, rfl, ?_, rfl, rfl, rfl,
    rfl, rfl, rfl, rfl, fun h r stands others => ?_⟩
  · simp only [← isOnLine_iff]
    rfl
  · simp only [← isOnLine_iff]
    rfl
  · have at_ : s.leavesAt s.givenUp b.position = true := leaves.mpr ⟨b, m, out, by simp⟩
    have slot : s.leavesSlot s.givenUp b.slot = true := leaves.mpr ⟨b, m, out, by simp⟩
    have emptied := (pos b.position).trans (if_pos at_)
    exact ⟨congrArg Position.state emptied, congrArg Position.link emptied, freed b.slot slot⟩
  · have away : ¬s.leavesAt s.givenUp p = true := fun leaving => by
      obtain ⟨b, m, out, here⟩ := leaves.mp leaving
      exact others b m out (of_decide_eq_true here)
    exact (pos p).trans (if_neg away)
  · exact decide_eq_true_iff
  · have stays : s.leavesSlot s.givenUp h = false := by
      rw [← Bool.not_eq_true]
      intro leaving
      obtain ⟨b, m, -, here⟩ := leaves.mp leaving
      exact others b m (of_decide_eq_true here)
    obtain ⟨st, state, kept, moved⟩ := recs h r stands stays
    refine ⟨st, recOpt_iff.mpr state, fun rests => kept.resolve_right fun ⟨runs, _⟩ => rests runs, fun p runs occupied link => ?_⟩
    exact moved p runs ⟨occupied, link, stands⟩

end Sys2Proof.Machine
end

section
/-! SUPPORT. The retention image as written and as judged (R90, R172 to R176, 10.7). -/

namespace Sys2Proof.Machine
open Host

section
variable {s : State} {h : Handle} {p : PosIx} {r : Record}

/-! ### The write -/

theorem takenInTx_iff : s.takenInTx = true ↔ ∃ f, s.frameOut = some f ∧ f.kind = .taken := by
  unfold State.takenInTx
  cases s.frameOut <;> simp

theorem recIn_eq_any (st : RecState) : s.recIn h st = (s.rec? h).any fun r => r.state = st := by
  unfold State.recIn
  cases s.rec? h <;> rfl

theorem placedOn_eq : s.placedOn p = (s.pos p).link.filter fun h => (s.rec? h).any fun r => r.state = .placed := by
  unfold State.placedOn
  cases (s.pos p).link with
  | none => rfl
  | some h =>
    simp only [recIn_eq_any, Option.filter]

theorem savedArrivals_eq : s.savedArrivals = (s.livePositions.filterMap fun p =>
    (s.pos p).link.filter fun h => (s.rec? h).any fun r => r.state = .placed)
      ++ s.store.rushQueue ++ s.store.ordinaryQueue := by
  have same : s.placedOn = fun p => (s.pos p).link.filter fun h => (s.rec? h).any fun r => r.state = .placed :=
    funext fun p => placedOn_eq
  rw [State.savedArrivals, State.arrivalQueue, same, List.append_assoc]

theorem beginWrite_idle (off : s.mem.line ≠ .saving ∨ s.ret.writing = true ∨ ∃ f, s.frameOut = some f ∧ f.kind = .taken) :
    s.beginWrite = s := by
  apply if_neg
  simp only [Bool.and_eq_true, Bool.not_eq_true', decide_eq_true_eq, not_and, ← Bool.not_eq_true, takenInTx_iff]
  rintro ⟨saving, still⟩
  obtain away | writing | taken := off
  · exact absurd saving away
  · exact absurd writing still
  · exact not_not_intro taken

theorem beginWrite_runs (saving : s.mem.line = .saving) (still : s.ret.writing = false)
    (free : ¬∃ f, s.frameOut = some f ∧ f.kind = .taken) : s.beginWrite = { s with
      ret := { written := true, valid := false, writing := true, image := s.retentionImage } } := by
  apply if_pos
  rw [← takenInTx_iff] at free
  simp [saving, still, free]

theorem endWrite_idle (off : s.mem.line ≠ .saving ∨ s.ret.writing = false) : s.endWrite = s := by
  apply if_neg
  simp only [Bool.and_eq_true, decide_eq_true_eq]
  rintro ⟨saving, writing⟩
  obtain away | still := off
  · exact away saving
  · exact Bool.false_ne_true (still.symm.trans writing)

theorem endWrite_runs (saving : s.mem.line = .saving) (writing : s.ret.writing = true) : s.endWrite = { s with
    ret := { s.ret with valid := true, writing := false }
    mem := { s.mem with line := .dormant, upkeepNext := none }
    lbi := { s.lbi with tx := [], stall := none, inTx := match s.frameOut with
      | some f => .orphan f
      | none => .idle }
    store := { s.store with slots := s.store.slots.map fun x => { x with waits := [] } } } := by
  have runs : s.endWrite = ({ s with ret := { s.ret with valid := true, writing := false } } : State).clearTx.setLine .dormant :=
    if_pos (by simp [saving, writing])
  rw [runs, clearTx_eq]
  rfl

/-! ### A slot and a position as written -/

theorem savedRecord_inUse (here : s.rec? h = some r) : s.savedRecord h =
    some (if r.state = .outbound then { r with state := .uncertain, position := none } else r) := by
  rw [State.savedRecord, recOpt_iff.mp here]

theorem savedRecord_free (free : (s.slot h).state = .free) : s.savedRecord h = none := by
  rw [State.savedRecord, free]

theorem savedRecord_reserved (reserved : (s.slot h).state = .reserved) : s.savedRecord h =
    (s.bookings.find? fun b => decide (b.slot = h) && b.handedOver).bind Booking.savedRecord := by
  rw [State.savedRecord, reserved]

theorem savedPosition_booked (booked : (s.pos p).state = .booked) : s.savedPosition p =
    match (generalizing := false) s.bookings.find? fun b => decide (b.position = p) && b.handedOver with
    | some b => [2, byte b.slot.val]
    | none => [0, 255] := by
  simp only [State.savedPosition, booked, posStateCode] <;> rfl

theorem posIn_of_onPosition (on : s.onPosition p h r) (st : RecState) : s.posIn p st = decide (r.state = st) := by
  rw [State.posIn, working_eq_some.mpr on]

theorem savedPosition_occupied (on : s.onPosition p h r) : s.savedPosition p =
    if r.state = .outbound then [4, 255] else [3, byte h.val] := by
  obtain ⟨occupied, link, -⟩ := id on
  simp only [State.savedPosition, occupied, link, posIn_of_onPosition on, decide_eq_true_eq]
  rfl

theorem savedPosition_assigned (assigned : (s.pos p).state = .assigned) (link : (s.pos p).link = some h) :
    s.savedPosition p = [2, byte h.val] := by
  simp only [State.savedPosition, assigned, link]
  rfl

theorem handedOver_iff {b : Booking} : b.handedOver = true ↔ ∃ image, b.status = .closing image true := by
  unfold Booking.handedOver
  cases b.status <;> simp

theorem find_handed_none {f : Booking → Bool} (open_ : ∀ b ∈ s.bookings, f b = true → ∀ image, b.status ≠ .closing image true) :
    (s.bookings.find? fun b => f b && b.handedOver) = none := by
  simp only [List.find?_eq_none, Bool.and_eq_true, not_and, handedOver_iff]
  rintro b m here ⟨image, closing⟩
  exact open_ b m here image closing

theorem find_handed_some {f : Booking → Bool} {before after : List Booking} {b : Booking} {image : List Byte}
    (list : s.bookings = before ++ b :: after) (here : f b = true) (others : ∀ x ∈ before ++ after, f x = false)
    (closing : b.status = .closing image true) : (s.bookings.find? fun b => f b && b.handedOver) = some b := by
  rw [list, List.find?_eq_some_iff_append]
  refine ⟨by simp [here, handedOver_iff, closing], before, after, rfl, fun x m => ?_⟩
  simp [others x (List.mem_append_left after m)]

/-! ### The judgement and the restore -/

theorem imageByte_take (image : List Byte) (long : 9 ≤ image.length) (a b c : Byte) : image.take 3 = [a, b, c] ↔
    imageByte image 0 = a ∧ imageByte image 1 = b ∧ imageByte image 2 = c := by
  match image, long with
  | x :: y :: z :: rest, _ => simp [imageByte]

theorem long_of_checkOk {image : List Byte} (ok : retentionCheckOk image = true) : 9 ≤ image.length := by
  rw [retentionCheckOk, Bool.and_eq_true] at ok
  exact of_decide_eq_true ok.1

theorem judgeRetention_checked (written : s.ret.written = true) (valid : s.ret.valid = true)
    (ok : retentionCheckOk s.ret.image = true) : s.judgeRetention =
      if s.ret.image.take 3 = [byte s.conf.address.val, roleCode s.conf.role, byte s.conf.posCount]
      then .restored else .mismatch := by
  rw [State.judgeRetention]
  simp only [written, valid, ok, imageByte_take _ (long_of_checkOk ok)]
  split <;> simp_all
  grind

theorem judgeRetention_lost (written : s.ret.written = true)
    (bad : s.ret.valid = false ∨ retentionCheckOk s.ret.image = false) : s.judgeRetention = .lost := by
  rw [State.judgeRetention]
  obtain invalid | wrong := bad
  · simp [written, invalid]
  · simp [written, wrong]

theorem restore_worked (worked : r.state = .inbound ∨ r.state = .loaded ∨ r.state = .waiting ∨ r.state = .paused
    ∨ r.state = .ended) : r.restore =
      { r.deviate .powerInterrupt r.accumulated with heldFrom := some r.state, state := .held } := by
  unfold Record.restore
  obtain st | st | st | st | st := worked <;> simp only [st]

end

/-- Settles O26. -/
theorem retentionWrittenAndJudged : Obligations.RetentionWrittenAndJudged := by
  refine ⟨fun s => ⟨rfl, fun saving still free => ?_, fun saving writing => congrArg Outcome.next (endWrite_runs saving writing),
    fun off => congrArg Outcome.next (beginWrite_idle off), fun off => congrArg Outcome.next (endWrite_idle off)⟩,
    fun s => ⟨fun h r => savedRecord_inUse, fun h => savedRecord_free, fun p empty => ?_, fun p clearing => ?_,
      fun p h => savedPosition_assigned, fun p h r => savedPosition_occupied, fun p booked opens => ?_, fun h reserved opens => ?_,
      fun before after b image r list others closing reads => ⟨fun booked => ?_, fun reserved => ?_⟩⟩,
    fun s => ⟨fun blank => ?_, judgeRetention_lost, fun written valid ok => ⟨fun differs => ?_, fun same => ?_⟩,
      fun r => ⟨fun rests => ?_, fun kept => ?_, fun uncertain => ?_, fun worked => ⟨?_, ?_, fun room => ?_, fun full => ?_⟩⟩⟩⟩
  · refine congrArg Outcome.next ((beginWrite_runs saving still free).trans ?_)
    rw [State.retentionImage, State.retentionBody, savedArrivals_eq]
    rfl
  · simp only [State.savedPosition, empty]
    rfl
  · simp only [State.savedPosition, clearing]
    rfl
  · rw [savedPosition_booked booked, find_handed_none fun b m here => opens b m (of_decide_eq_true here)]
  · rw [savedRecord_reserved reserved, find_handed_none fun b m here => opens b m (of_decide_eq_true here)]
    rfl
  · rw [savedPosition_booked booked, find_handed_some list (decide_eq_true rfl) (fun x m => decide_eq_false (others x m).1) closing]
  · rw [savedRecord_reserved reserved, find_handed_some list (decide_eq_true rfl) (fun x m => decide_eq_false (others x m).2) closing]
    simp only [Option.bind_some, Booking.savedRecord, closing, reads, Option.map_some]
    rfl
  · simp [State.judgeRetention, blank]
  · rw [judgeRetention_checked written valid ok, if_neg differs]
  · rw [judgeRetention_checked written valid ok, if_pos same]
  · obtain st | st := rests <;> simp only [Record.restore, st]
  · obtain st | st := kept <;> simp only [Record.restore, st]
  · simp only [Record.restore, uncertain]
  · rw [restore_worked worked]
  · rw [restore_worked worked]
  · rw [restore_worked worked, Record.deviate, if_pos room]
  · rw [restore_worked worked, Record.deviate, if_neg (by omega)]

end Sys2Proof.Machine
end

section
/-! SUPPORT. The retention image read back, its records in their slots (R174, R175, 10.7). -/

namespace Sys2Proof.Machine
open Host

/-! ### The image as a write composes it (10.7) -/

/-- The records of the image, one after the other. -/
def recordBytes (l : List (Handle × Record)) : List Byte :=
  l.flatMap fun x => byte x.1.val :: byte (recordImage x.2).length :: recordImage x.2

/-- The stored positions, one after the other. -/
def positionBytes (ps : List (Byte × Byte)) : List Byte := ps.flatMap fun x => [x.1, x.2]

/-- The image before its check, by its fields. -/
def writtenBody (own : List Byte) (seq : BitVec 16) (ps : List (Byte × Byte)) (arrivals : List Handle)
    (l : List (Handle × Record)) : List Byte :=
  own ++ bytes16 seq ++ [byte l.length, byte arrivals.length] ++ positionBytes ps ++ arrivals.map (fun h => byte h.val)
    ++ recordBytes l

/-- The image with its check. -/
def writtenImage (own : List Byte) (seq : BitVec 16) (ps : List (Byte × Byte)) (arrivals : List Handle)
    (l : List (Handle × Record)) : List Byte :=
  writtenBody own seq ps arrivals l ++ bytes16 (crc16 (writtenBody own seq ps arrivals l))

section
variable {a r c : Byte} {seq : BitVec 16} {ps : List (Byte × Byte)} {arrivals : List Handle} {l : List (Handle × Record)}

theorem length_positionBytes (ps : List (Byte × Byte)) : (positionBytes ps).length = 2 * ps.length := by
  induction ps with
  | nil => rfl
  | cons x ps ih => simp [positionBytes] at ih ⊢; omega

theorem positionBytes_get {i : Nat} {st link : Byte} (here : ps[i]? = some (st, link)) (rest : List Byte) :
    (positionBytes ps ++ rest).getD (2 * i) 0 = st ∧ (positionBytes ps ++ rest).getD (2 * i + 1) 0 = link := by
  induction ps generalizing i with
  | nil => cases here
  | cons x ps ih =>
    cases i with
    | zero =>
      obtain rfl : x = (st, link) := Option.some.inj here
      exact ⟨rfl, rfl⟩
    | succ i => exact ih here

/-- What follows the seven fixed bytes of an image. -/
def imageRest (own : List Byte) (seq : BitVec 16) (ps : List (Byte × Byte)) (arrivals : List Handle)
    (l : List (Handle × Record)) : List Byte :=
  positionBytes ps ++ (arrivals.map (fun h => byte h.val)
    ++ (recordBytes l ++ bytes16 (crc16 (writtenBody own seq ps arrivals l))))

theorem writtenImage_eq : writtenImage [a, r, c] seq ps arrivals l =
    a :: r :: c :: seq.extractLsb' 8 8 :: seq.extractLsb' 0 8 :: byte l.length :: byte arrivals.length
      :: imageRest [a, r, c] seq ps arrivals l := by
  rw [writtenImage, imageRest]
  generalize crc16 _ = crc
  simp [writtenBody, bytes16]

theorem checkOk_writtenImage (own : List Byte) (fixed : own.length = 3) :
    retentionCheckOk (writtenImage own seq ps arrivals l) = true := by
  have length : (writtenImage own seq ps arrivals l).length = (writtenBody own seq ps arrivals l).length + 2 := by
    rw [writtenImage, List.length_append]
    rfl
  have long : 7 ≤ (writtenBody own seq ps arrivals l).length := by
    simp only [writtenBody, List.length_append, fixed, bytes16, List.length_cons, List.length_nil]
    omega
  rw [retentionCheckOk, length, Bool.and_eq_true, decide_eq_true_iff, decide_eq_true_iff, Nat.add_sub_cancel, writtenImage,
    List.take_left, List.drop_left]
  exact ⟨by omega, rfl⟩

theorem take_writtenImage : (writtenImage [a, r, c] seq ps arrivals l).take 3 = [a, r, c] := by
  rw [writtenImage_eq]
  rfl

theorem seq_writtenImage : word16 (imageByte (writtenImage [a, r, c] seq ps arrivals l) 3)
    (imageByte (writtenImage [a, r, c] seq ps arrivals l) 4) = seq := by
  rw [writtenImage_eq]
  exact word16_bytes16 seq

theorem recordCount_writtenImage (few : l.length ≤ 32) :
    (imageByte (writtenImage [a, r, c] seq ps arrivals l) 5).toNat = l.length := by
  rw [writtenImage_eq]
  exact Nat.mod_eq_of_lt (by omega)

theorem arrivalCount_writtenImage (few : arrivals.length ≤ 32) :
    (imageByte (writtenImage [a, r, c] seq ps arrivals l) 6).toNat = arrivals.length := by
  rw [writtenImage_eq]
  exact Nat.mod_eq_of_lt (by omega)

theorem storedPosition_writtenImage {p : PosIx} {st link : Byte} (here : ps[p.val]? = some (st, link)) :
    storedPosition (writtenImage [a, r, c] seq ps arrivals l) p = ((posStateOf st).getD .empty, finOf 32 link) := by
  obtain ⟨state, linked⟩ := positionBytes_get here (arrivals.map (fun h => byte h.val)
    ++ (recordBytes l ++ bytes16 (crc16 (writtenBody [a, r, c] seq ps arrivals l))))
  rw [storedPosition, writtenImage_eq, show 7 + 2 * p.val = 2 * p.val + 7 by omega,
    show 8 + 2 * p.val = 2 * p.val + 1 + 7 by omega]
  exact Prod.ext (congrArg (fun b => (posStateOf b).getD .empty) state) (congrArg (finOf 32) linked)

theorem filterMap_handles (hs : List Handle) : (hs.map fun h => byte h.val).filterMap (finOf 32) = hs := by
  induction hs with
  | nil => rfl
  | cons h hs ih => rw [List.map_cons, List.filterMap_cons, finOf_handle, ih]

theorem drop_writtenImage (n : Nat) : (writtenImage [a, r, c] seq ps arrivals l).drop (7 + n) =
    (imageRest [a, r, c] seq ps arrivals l).drop n := by
  rw [writtenImage_eq, Nat.add_comm]
  rfl

theorem storedArrivals_writtenImage {count : Nat} (all : ps.length = count) (few : arrivals.length ≤ 32) :
    storedArrivals (writtenImage [a, r, c] seq ps arrivals l) count = arrivals := by
  have skip : 2 * count = (positionBytes ps).length := by rw [length_positionBytes, all]
  rw [storedArrivals, drop_writtenImage, arrivalCount_writtenImage few, imageRest, skip, List.drop_left,
    List.take_left' (List.length_map ..), filterMap_handles]

theorem storedRecords_recordBytes (short : ∀ x ∈ l, (recordImage x.2).length < 256) (rest : List Byte) :
    storedRecords l.length (recordBytes l ++ rest) = l.map fun x => (byte x.1.val, recordImage x.2) := by
  induction l with
  | nil => rfl
  | cons x l ih =>
    have split : recordBytes (x :: l) ++ rest =
        byte x.1.val :: byte (recordImage x.2).length :: (recordImage x.2 ++ (recordBytes l ++ rest)) := by
      simp [recordBytes]
    have whole : (byte (recordImage x.2).length).toNat = (recordImage x.2).length :=
      Nat.mod_eq_of_lt (short x List.mem_cons_self)
    rw [split, List.length_cons, storedRecords, whole, List.take_left, List.drop_left,
      ih fun y m => short y (List.mem_cons_of_mem x m), List.map_cons]

theorem storedRecords_writtenImage {count : Nat} (all : ps.length = count) (few : l.length ≤ 32) (some_ : arrivals.length ≤ 32)
    (short : ∀ x ∈ l, (recordImage x.2).length < 256) :
    storedRecords (imageByte (writtenImage [a, r, c] seq ps arrivals l) 5).toNat
      ((writtenImage [a, r, c] seq ps arrivals l).drop
        (7 + 2 * count + (imageByte (writtenImage [a, r, c] seq ps arrivals l) 6).toNat))
      = l.map fun x => (byte x.1.val, recordImage x.2) := by
  have skip : 2 * count = (positionBytes ps).length := by rw [length_positionBytes, all]
  rw [recordCount_writtenImage few, arrivalCount_writtenImage some_, Nat.add_assoc, drop_writtenImage, imageRest, skip,
    ← List.drop_drop, List.drop_left, List.drop_left' (List.length_map ..)]
  exact storedRecords_recordBytes short _

theorem length_of_wellFormed {image : List Byte} (formed : imageWellFormed image = true) : image.length < 256 := by
  simp only [imageWellFormed, Bool.and_eq_true, decide_eq_true_eq] at formed
  obtain ⟨⟨⟨-, steps⟩, deviations⟩, length⟩ := formed
  rw [length, imageLength]
  split <;> omega

end

/-! ### The records in their slots (R175) -/

/-- The slots with the stored records restored in them. -/
def filledSlots (l : List (Handle × Record)) (slots : Vector Slot 32) : Vector Slot 32 :=
  l.foldl (fun slots x => slots.set x.1 { slots[x.1] with state := .inUse x.2.restore }) slots

/-- The records that the restore holds, with the values of their HELD events. -/
def heldByRestore (l : List (Handle × Record)) : List (Handle × Nat) :=
  l.filterMap fun x => if restoreHolds x.2.state then some (x.1, heldValue x.2 .powerInterrupt) else none

section
variable {s : State} {h : Handle} {r : Record} {run : RestoreRun} {l : List (Handle × Record)}

theorem add_free (formed : imageWellFormed (recordImage r) = true) (reads : decodeImage (recordImage r) = some r)
    (free : (run.state.slot h).state = .free) (away : run.state.resident r.tag = none) :
    run.add (byte h.val, recordImage r) = {
      state := run.state.setRec h r.restore
      held := if restoreHolds r.state then run.held ++ [(h, heldValue r .powerInterrupt)] else run.held
      count := run.count + 1 } := by
  simp [RestoreRun.add, finOf_handle, formed, reads, free, away]

theorem add_resident (formed : imageWellFormed (recordImage r) = true) (reads : decodeImage (recordImage r) = some r)
    (there : run.state.resident r.tag ≠ none) : run.add (byte h.val, recordImage r) = run := by
  simp [RestoreRun.add, finOf_handle, formed, reads, there]

theorem tag_restore : r.restore.tag = r.tag := by
  unfold Record.restore
  cases r.state <;> simp [deviate_eq]

theorem rush_restore : r.restore.rush = r.rush := by
  unfold Record.restore
  cases r.state <;> simp [deviate_eq]

theorem resident_setRec_ne {t : Tag} (away : s.resident t = none) (other : r.tag ≠ t) : (s.setRec h r).resident t = none := by
  rw [resident_eq_none] at away ⊢
  intro g x here
  rw [recOpt_setRec] at here
  split at here
  · obtain rfl := Option.some.inj here
    exact other
  · exact away g x here

theorem add_all (formed : ∀ x ∈ l, imageWellFormed (recordImage x.2) = true ∧ decodeImage (recordImage x.2) = some x.2)
    (slots : (l.map fun x => x.1).Nodup) (tags : (l.map fun x => x.2.tag).Nodup)
    (free : ∀ x ∈ l, (run.state.slot x.1).state = .free) (away : ∀ x ∈ l, run.state.resident x.2.tag = none) :
    (l.map fun x => (byte x.1.val, recordImage x.2)).foldl RestoreRun.add run = {
      state := { run.state with store := { run.state.store with slots := filledSlots l run.state.store.slots } }
      held := run.held ++ heldByRestore l
      count := run.count + l.length } := by
  induction l generalizing run with
  | nil => simp [filledSlots, heldByRestore]
  | cons x l ih =>
    obtain ⟨wf, reads⟩ := formed x List.mem_cons_self
    rw [List.map_cons, List.nodup_cons] at slots tags
    obtain ⟨alone, slots⟩ := slots
    obtain ⟨unique, tags⟩ := tags
    rw [List.map_cons, List.foldl_cons, add_free wf reads (free x List.mem_cons_self) (away x List.mem_cons_self),
      ih (fun y m => formed y (List.mem_cons_of_mem x m)) slots tags ?free ?away]
    case free =>
      intro y m
      have other : x.1 ≠ y.1 := fun same => alone (same ▸ List.mem_map_of_mem m)
      rw [slot_setRec, if_neg other]
      exact free y (List.mem_cons_of_mem x m)
    case away =>
      intro y m
      refine resident_setRec_ne (away y (List.mem_cons_of_mem x m)) fun same => unique ?_
      rw [tag_restore] at same
      exact same ▸ List.mem_map_of_mem m
    have gathered : (if restoreHolds x.2.state then run.held ++ [(x.1, heldValue x.2 .powerInterrupt)] else run.held)
        ++ heldByRestore l = run.held ++ heldByRestore (x :: l) := by
      simp only [heldByRestore, List.filterMap_cons]
      split <;> simp [*]
    rw [gathered, Nat.add_assoc, Nat.add_comm 1]
    rfl

theorem filledSlots_other (away : ∀ x ∈ l, x.1 ≠ h) (slots : Vector Slot 32) : (filledSlots l slots)[h] = slots[h] := by
  induction l generalizing slots with
  | nil => rfl
  | cons x l ih =>
    have other : x.1 ≠ h := away x List.mem_cons_self
    rw [filledSlots, List.foldl_cons, ← filledSlots, ih fun y m => away y (List.mem_cons_of_mem x m)]
    exact Vector.getElem_set_ne _ _ (fun same => other (Fin.ext same))

theorem filledSlots_state (distinct : (l.map fun x => x.1).Nodup) (m : (h, r) ∈ l) (slots : Vector Slot 32) :
    ((filledSlots l slots)[h]).state = .inUse r.restore := by
  induction l generalizing slots with
  | nil => cases m
  | cons x l ih =>
    rw [List.map_cons, List.nodup_cons] at distinct
    obtain ⟨alone, distinct⟩ := distinct
    rw [filledSlots, List.foldl_cons, ← filledSlots]
    obtain rfl | m := List.mem_cons.mp m
    · have away : ∀ y ∈ l, y.1 ≠ h := fun y my same => alone (List.mem_map.mpr ⟨y, my, same⟩)
      rw [filledSlots_other away]
      simp
    · exact ih distinct m _

end

end Sys2Proof.Machine
end

section
/-! SUPPORT. The positions, the links, the arrival queue and the events of a restore (R174 to R176). -/

namespace Sys2Proof.Machine
open Host

/-! ### Positions and links -/

/-- The stored link names a record restored with this position. -/
def linkNames (recs : Handle → Option Record) (p : PosIx) (link : Option Handle) : Bool :=
  link.any fun h => (recs h).any fun r => decide (r.position = some p)

/-- A position as restored (R175). -/
def restoredAt (recs : Handle → Option Record) (p : PosIx) (stored : PosState × Option Handle) (x : Position) : Position :=
  match stored.1 with
  | .empty | .booked => x
  | .clearing => { x with state := .clearing, link := none, stepEn := false }
  | .assigned => if linkNames recs p stored.2 then { x with state := .assigned, link := stored.2 } else x
  | .occupied => if linkNames recs p stored.2 then { x with state := .occupied, link := stored.2 }
    else { x with state := .clearing, link := none, stepEn := false }

/-- A record without the link that its position does not return (log 25). -/
def State.cleaned (s : State) (h : Handle) (r : Record) : Record :=
  { r with position := r.position.bind fun p => if (s.pos p).link = some h then some p else none }

section
variable {s : State} {h : Handle} {r : Record} {p : PosIx} {image : List Byte}

theorem restoredAt_assigned (recs : Handle → Option Record) (p : PosIx) (link : Option Handle) :
    restoredAt recs p (.assigned, link) =
      if linkNames recs p link then fun x => { x with state := .assigned, link := link } else fun x => x := by
  funext x
  simp only [restoredAt]
  split <;> rfl

theorem restoredAt_occupied (recs : Handle → Option Record) (p : PosIx) (link : Option Handle) :
    restoredAt recs p (.occupied, link) =
      if linkNames recs p link then fun x => { x with state := .occupied, link := link }
      else fun x => { x with state := .clearing, link := none, stepEn := false } := by
  funext x
  simp only [restoredAt]
  split <;> rfl

theorem updPos_same : (s.updPos p fun x => x) = s := by simp [State.updPos]

theorem restorePosition_eq : s.restorePosition image p = s.updPos p (restoredAt s.rec? p (storedPosition image p)) := by
  rw [State.restorePosition]
  dsimp only
  generalize storedPosition image p = stored
  obtain ⟨st, link⟩ := stored
  cases st with
  | empty => exact updPos_same.symm
  | booked => exact updPos_same.symm
  | clearing => rfl
  | assigned =>
    rw [restoredAt_assigned]
    cases link with
    | none => exact updPos_same.symm
    | some h =>
      by_cases named : linkNames s.rec? p (some h) = true
      · rw [if_pos named]
        exact if_pos named
      · rw [if_neg named, updPos_same]
        exact if_neg named
  | occupied =>
    rw [restoredAt_occupied]
    cases link with
    | none => rfl
    | some h =>
      by_cases named : linkNames s.rec? p (some h) = true
      · rw [if_pos named]
        exact if_pos named
      · rw [if_neg named]
        exact if_neg named

theorem restorePosition_all {l : List PosIx} (distinct : l.Nodup) (s : State) : ∃ seqr : Vector Position 8,
    l.foldl (State.restorePosition image) s = { s with seqr := seqr } ∧ ∀ p : PosIx, seqr[p] =
      if p ∈ l then restoredAt s.rec? p (storedPosition image p) (s.pos p) else s.pos p := by
  induction l generalizing s with
  | nil => exact ⟨s.seqr, rfl, fun _ => rfl⟩
  | cons q l ih =>
    rw [List.nodup_cons] at distinct
    obtain ⟨alone, distinct⟩ := distinct
    obtain ⟨seqr, reached, pos⟩ := ih distinct (s.restorePosition image q)
    have recs : (s.restorePosition image q).rec? = s.rec? := by rw [restorePosition_eq]; rfl
    refine ⟨seqr, ?_, fun p => ?_⟩
    · rw [List.foldl_cons, reached, restorePosition_eq]
      rfl
    · rw [pos, recs, restorePosition_eq, pos_updPos]
      by_cases here : q = p
      · subst here
        simp [alone]
      · simp [here, eq_comm (a := p)]

theorem cleanLink_eq : s.cleanLink h = s.updRec h (s.cleaned h) := by
  rw [State.cleanLink]
  congr 1
  funext r
  cases link : r.position with
  | none =>
    show r = s.cleaned h r
    rw [State.cleaned, link, Option.bind_none, ← link]
  | some p =>
    simp only [State.cleaned, link, Option.bind_some]
    split <;> simp [← link]

theorem state_updRec (g : Handle) (f : Record → Record) : ((s.updRec h f).slot g).state =
    if h = g then (s.slot g).state.mapRec f else (s.slot g).state := by
  rw [State.updRec, State.rec?]
  by_cases here : h = g
  · subst here
    rw [if_pos rfl]
    cases state : (s.slot h).state <;> simp [SlotState.mapRec, slot_setRec, state]
  · rw [if_neg here]
    cases (s.slot h).state <;> simp [slot_setRec, here]

theorem updRec_shape (f : Record → Record) : s.updRec h f =
    { s with store := { s.store with slots := (s.updRec h f).store.slots } } := by
  unfold State.updRec
  split <;> rfl

theorem cleanLink_all {l : List Handle} (distinct : l.Nodup) (s : State) : ∃ slots : Vector Slot 32,
    l.foldl State.cleanLink s = { s with store := { s.store with slots := slots } } ∧ ∀ h : Handle, slots[h].state =
      if h ∈ l then (s.slot h).state.mapRec (s.cleaned h) else (s.slot h).state := by
  induction l generalizing s with
  | nil => exact ⟨s.store.slots, rfl, fun _ => rfl⟩
  | cons g l ih =>
    rw [List.nodup_cons] at distinct
    obtain ⟨alone, distinct⟩ := distinct
    obtain ⟨slots, reached, states⟩ := ih distinct (s.cleanLink g)
    have same (h : Handle) : (s.cleanLink g).cleaned h = s.cleaned h := by
      funext r
      simp only [State.cleaned, cleanLink_eq, pos_updRec]
    refine ⟨slots, ?_, fun h => ?_⟩
    · rw [List.foldl_cons, reached, cleanLink_eq, updRec_shape]
    · rw [states, same, cleanLink_eq, state_updRec]
      by_cases here : g = h
      · subst here
        simp [alone]
      · simp [here, eq_comm (a := h)]

end

/-! ### The arrival queue -/

/-- Slot h holds a QUEUED record of the group. -/
def State.queues (s : State) (rush : Bool) (h : Handle) : Bool :=
  (s.rec? h).any fun r => decide (r.state = .queued) && decide (r.rush = rush)

section
variable {s : State} {h : Handle}

theorem restoreArrival_shape : s.restoreArrival h = { s with store := { s.store with
    rushQueue := (s.restoreArrival h).store.rushQueue, ordinaryQueue := (s.restoreArrival h).store.ordinaryQueue } } := by
  unfold State.restoreArrival
  split
  · split
    · unfold State.enqueue
      split <;> rfl
    · rfl
  · rfl

theorem restoreArrival_all_shape (l : List Handle) (s : State) : l.foldl State.restoreArrival s = { s with store := { s.store with
    rushQueue := (l.foldl State.restoreArrival s).store.rushQueue
    ordinaryQueue := (l.foldl State.restoreArrival s).store.ordinaryQueue } } := by
  induction l generalizing s with
  | nil => rfl
  | cons h l ih =>
    rw [List.foldl_cons, ih, restoreArrival_shape]

theorem restoreArrival_away (away : h ∉ s.arrivalQueue) : s.restoreArrival h = { s with store := { s.store with
    rushQueue := s.store.rushQueue ++ [h].filter (s.queues true)
    ordinaryQueue := s.store.ordinaryQueue ++ [h].filter (s.queues false) } } := by
  unfold State.restoreArrival
  cases here : s.rec? h with
  | none => simp [State.queues, here]
  | some r =>
    by_cases queued : r.state = .queued
    · cases rush : r.rush <;> simp [State.queues, State.enqueue, here, queued, away, rush]
    · simp [State.queues, here, queued]

theorem restoreArrival_new {l : List Handle} (distinct : l.Nodup) (away : ∀ h ∈ l, h ∉ s.arrivalQueue) :
    l.foldl State.restoreArrival s = { s with store := { s.store with
      rushQueue := s.store.rushQueue ++ l.filter (s.queues true)
      ordinaryQueue := s.store.ordinaryQueue ++ l.filter (s.queues false) } } := by
  induction l generalizing s with
  | nil => simp
  | cons h l ih =>
    rw [List.nodup_cons] at distinct
    obtain ⟨alone, distinct⟩ := distinct
    have step := restoreArrival_away (away h List.mem_cons_self)
    have queues (rush : Bool) : (s.restoreArrival h).queues rush = s.queues rush := by rw [step]; rfl
    rw [List.foldl_cons, ih distinct, queues, queues, step]
    · rw [List.append_assoc, List.append_assoc, ← List.filter_append, ← List.filter_append]
      rfl
    · intro g m there
      have other : g ≠ h := fun same => alone (same ▸ m)
      rw [step] at there
      have old := away g (List.mem_cons_of_mem h m)
      simp only [State.arrivalQueue, List.mem_append, not_or, List.mem_filter, List.mem_singleton, other, false_and, or_false]
        at there old
      exact there.elim old.1 old.2

theorem restoreArrival_settled {l : List Handle} (there : ∀ h ∈ l, s.recIn h .queued = true → h ∈ s.arrivalQueue) :
    l.foldl State.restoreArrival s = s := by
  induction l with
  | nil => rfl
  | cons h l ih =>
    have same : s.restoreArrival h = s := by
      have queue := there h List.mem_cons_self
      unfold State.restoreArrival
      unfold State.recIn at queue
      split
      · next r here =>
        rw [here] at queue
        exact if_neg fun ⟨queued, away⟩ => away (queue (decide_eq_true queued))
      · rfl
    rw [List.foldl_cons, same]
    exact ih fun g m => there g (List.mem_cons_of_mem h m)

end

/-! ### The events -/

section
variable {s : State}

theorem post_shape (e : Event) : s.post e = { s with port := (s.post e).port } := by
  unfold State.post
  split
  · rfl
  · rfl
  all_goals
    split <;> rfl

theorem postRestoreHeld_shape (x : Handle × Nat) : s.postRestoreHeld x = { s with port := (s.postRestoreHeld x).port } := by
  unfold State.postRestoreHeld
  split
  · exact post_shape _
  · rfl

theorem postRestoreHeld_all_shape (l : List (Handle × Nat)) (s : State) : l.foldl State.postRestoreHeld s =
    { s with port := (l.foldl State.postRestoreHeld s).port } := by
  induction l generalizing s with
  | nil => rfl
  | cons x l ih => rw [List.foldl_cons, ih, postRestoreHeld_shape]

theorem events_post_config (config : s.mem.line = .config) (room : s.port.events.length < 32) (e : Event) :
    (s.post e).port.events = s.port.events ++ [e] := by
  have open_ (line : LineState) (other : LineState.config ≠ line) : s.mem.line ≠ line := fun same => other (config.symm.trans same)
  rw [post_awake (open_ _ (by decide)) (open_ _ (by decide)), if_pos room]

/-- The HELD event of a record restored. -/
def State.heldEvent (s : State) (x : Handle × Nat) : Option Event :=
  (s.rec? x.1).map fun r => recordEvent .held r.position x.1 r.tag x.2

theorem events_postRestoreHeld {l : List (Handle × Nat)} (config : s.mem.line = .config)
    (room : s.port.events.length + l.length ≤ 32) : (l.foldl State.postRestoreHeld s).port.events =
      s.port.events ++ l.filterMap s.heldEvent := by
  induction l generalizing s with
  | nil => simp
  | cons x l ih =>
    rw [List.length_cons] at room
    have step : (s.postRestoreHeld x).port.events = s.port.events ++ (s.heldEvent x).toList := by
      unfold State.postRestoreHeld State.heldEvent
      cases s.rec? x.1 with
      | none => simp
      | some r => exact events_post_config config (by omega) _
    have one : (s.heldEvent x).toList.length ≤ 1 := by cases s.heldEvent x <;> simp
    have same : (s.postRestoreHeld x).heldEvent = s.heldEvent := by rw [postRestoreHeld_shape]; rfl
    have config' : (s.postRestoreHeld x).mem.line = .config := by rw [postRestoreHeld_shape]; exact config
    rw [List.foldl_cons, ih config' (by rw [step, List.length_append]; omega), step, same, List.filterMap_cons]
    cases s.heldEvent x <;> simp

end

end Sys2Proof.Machine
end

section
/-! SUPPORT. The restore as a whole, and the close with it (R168, R174 to R176). -/

namespace Sys2Proof.Machine
open Host

/-- The records restored in their slots. -/
def State.filled (s : State) (l : List (Handle × Record)) : State :=
  { s with store := { s.store with slots := filledSlots l s.store.slots } }

/-- The positions and the slots restored, the free list with them. -/
def State.refilled (s : State) (l : List (Handle × Record)) (seqr : Vector Position 8) (slots : Vector Slot 32) : State :=
  { s with
    seqr := seqr
    store := { s.store with slots := slots, freeList := handles.filter fun h => l.all fun x => x.1 ≠ h } }

/-- The arrival queue and the sequence counter restored as well. -/
def State.requeued (s : State) (arrivals : List Handle) (seq : BitVec 16) : State :=
  { s with store := { s.store with
      rushQueue := ((arrivals ++ handles).foldl State.restoreArrival s).store.rushQueue
      ordinaryQueue := ((arrivals ++ handles).foldl State.restoreArrival s).store.ordinaryQueue
      seqCounter := if seq = 0 then 1 else seq } }

/-- A store as reset leaves it, which a restore fills. -/
structure State.Blank (s : State) : Prop where
  free : ∀ h, (s.slot h).state = .free
  queue : s.arrivalQueue = []
  unlinked : ∀ p, s.pos p = { Position.blank with interlock := (s.pos p).interlock }

/-- What a retention image restored whole holds: records with slots and tags of their own, their images readable, and a
stored position for each configured one. -/
structure Restorable (s : State) (ps : List (Byte × Byte)) (arrivals : List Handle) (l : List (Handle × Record)) : Prop where
  positions : ps.length = s.conf.posCount
  arrivals : arrivals.length ≤ 32
  slots : (l.map fun x => x.1).Nodup
  tags : (l.map fun x => x.2.tag).Nodup
  images : ∀ x ∈ l, imageWellFormed (recordImage x.2) = true ∧ decodeImage (recordImage x.2) = some x.2

section
variable {s : State} {a r c : Byte} {seq : BitVec 16} {ps : List (Byte × Byte)} {arrivals : List Handle}
  {l : List (Handle × Record)} {seqr : Vector Position 8} {slots : Vector Slot 32}

theorem few_of_slots (distinct : (l.map fun x => x.1).Nodup) : l.length ≤ 32 := by
  have := distinct.length_le_card
  simpa using this

theorem filled_free (distinct : (l.map fun x => x.1).Nodup) (blank : s.Blank) (h : Handle) :
    ((filledSlots l s.store.slots)[h]).state = .free ↔ ∀ x ∈ l, x.1 ≠ h := by
  refine ⟨fun free x m same => ?_, fun away => ?_⟩
  · subst same
    rw [filledSlots_state distinct m] at free
    cases free
  · rw [filledSlots_other away]
    exact blank.free h

theorem restoreRecords_of {run : RestoreRun} {t u v : State}
    (entries : (storedRecords (imageByte s.ret.image 5).toNat
      (s.ret.image.drop (7 + 2 * s.conf.posCount + (imageByte s.ret.image 6).toNat))).foldl RestoreRun.add
        { state := s, held := [], count := 0 } = run)
    (placed : s.livePositions.foldl (State.restorePosition s.ret.image) run.state = t)
    (cleaned : handles.foldl State.cleanLink t = u) (listed : u.rebuildFreeList = v)
    (queue : storedArrivals s.ret.image u.conf.posCount = arrivals)
    (counter : word16 (imageByte s.ret.image 3) (imageByte s.ret.image 4) = seq) :
    s.restoreRecords = { run with state := v.requeued arrivals seq } := by
  have requeued : v.requeued arrivals seq =
      { (arrivals ++ handles).foldl State.restoreArrival v with
        store := { ((arrivals ++ handles).foldl State.restoreArrival v).store with seqCounter := if seq = 0 then 1 else seq } } := by
    rw [restoreArrival_all_shape]
    rfl
  rw [requeued]
  subst entries placed cleaned listed queue counter
  rfl

theorem restoreRecords_spec (blank : s.Blank) (whole : Restorable s ps arrivals l)
    (image : s.ret.image = writtenImage [a, r, c] seq ps arrivals l) : ∃ (seqr : Vector Position 8) (slots : Vector Slot 32),
    (∀ p : PosIx, seqr[p] = if p.val < s.conf.posCount then
      restoredAt (s.filled l).rec? p (storedPosition s.ret.image p) (s.pos p) else s.pos p)
    ∧ (∀ h : Handle, slots[h].state = ((filledSlots l s.store.slots)[h]).state.mapRec (({ s with seqr := seqr } : State).cleaned h))
    ∧ s.restoreRecords = { state := (s.refilled l seqr slots).requeued arrivals seq, held := heldByRestore l, count := l.length } := by
  have few := few_of_slots whole.slots
  have short : ∀ x ∈ l, (recordImage x.2).length < 256 := fun x m => length_of_wellFormed (whole.images x m).1
  have entries := storedRecords_writtenImage (a := a) (r := r) (c := c) (seq := seq) whole.positions few whole.arrivals short
  have away : ∀ x ∈ l, s.resident x.2.tag = none := fun x _ => resident_eq_none.mpr fun h r here => by
    rw [recOpt_iff, blank.free] at here
    cases here
  have added := add_all (run := { state := s, held := [], count := 0 }) whole.images whole.slots whole.tags
    (fun x _ => blank.free x.1) away
  obtain ⟨seqr, placed, pos⟩ := restorePosition_all (image := s.ret.image) (l := s.livePositions)
    (nodup_positions.filter _) (s.filled l)
  obtain ⟨slots, cleaned, states⟩ := cleanLink_all nodup_handles ({ s.filled l with seqr := seqr } : State)
  have state (h : Handle) : slots[h].state =
      ((filledSlots l s.store.slots)[h]).state.mapRec (({ s with seqr := seqr } : State).cleaned h) :=
    (states h).trans (if_pos (mem_handles h))
  have list : (handles.filter fun h => decide (slots[h].state = .free)) = handles.filter fun h => l.all fun x => x.1 ≠ h := by
    refine List.filter_congr fun h _ => ?_
    have same : slots[h].state = .free ↔ ((filledSlots l s.store.slots)[h]).state = .free := by
      rw [state]
      cases ((filledSlots l s.store.slots)[h]).state <;> simp [SlotState.mapRec]
    rw [Bool.eq_iff_iff, decide_eq_true_iff, same, filled_free whole.slots blank, List.all_eq_true]
    simp
  refine ⟨seqr, slots, fun p => (pos p).trans ?_, state, ?_⟩
  · have live : p ∈ s.livePositions ↔ p.val < s.conf.posCount := by simp [State.livePositions, mem_positions]
    rw [if_congr live rfl rfl]
    rfl
  · have rebuilt : ({ ({ s.filled l with seqr := seqr } : State) with
        store := { ({ s.filled l with seqr := seqr } : State).store with slots := slots } } : State).rebuildFreeList =
          s.refilled l seqr slots := by
      rw [State.rebuildFreeList, State.refilled, ← list]
      rfl
    refine restoreRecords_of (run := { state := s.filled l, held := heldByRestore l, count := l.length }) ?_ placed cleaned rebuilt ?_ ?_
    · rw [image, entries, added, List.nil_append, Nat.zero_add]
      rfl
    · rw [image]
      exact storedArrivals_writtenImage whole.positions whole.arrivals
    · rw [image]
      exact seq_writtenImage

end

end Sys2Proof.Machine
end

section
/-! SUPPORT. What a restore leaves: records, positions, queue and events (R175, R176). -/

namespace Sys2Proof.Machine
open Host

section
variable {s : State} {seq : BitVec 16} {ps : List (Byte × Byte)} {arrivals : List Handle} {h : Handle} {x : Record}
  {p : PosIx} {st link : Byte} {l : List (Handle × Record)} {seqr : Vector Position 8} {slots : Vector Slot 32}

/-! ### Records and positions -/

theorem recOpt_filled (distinct : (l.map fun x => x.1).Nodup) (m : (h, x) ∈ l) : (s.filled l).rec? h = some x.restore :=
  recOpt_iff.mpr (filledSlots_state distinct m s.store.slots)

theorem recOpt_filled_iff (distinct : (l.map fun x => x.1).Nodup) (blank : s.Blank) {y : Record} :
    (s.filled l).rec? h = some y ↔ ∃ x, (h, x) ∈ l ∧ y = x.restore := by
  refine ⟨fun here => ?_, fun ⟨x, m, same⟩ => same ▸ recOpt_filled distinct m⟩
  by_cases away : ∀ x ∈ l, x.1 ≠ h
  · have free := (filled_free distinct blank h).mpr away
    rw [recOpt_iff, show ((s.filled l).slot h).state = .free from free] at here
    cases here
  · push Not at away
    obtain ⟨⟨g, x⟩, m, rfl⟩ := away
    exact ⟨x, m, (Option.some.inj ((recOpt_filled distinct m).symm.trans here)).symm⟩

theorem linkNames_iff (distinct : (l.map fun x => x.1).Nodup) (blank : s.Blank) :
    linkNames (s.filled l).rec? p (finOf 32 link) = true ↔
      ∃ h x, (h, x) ∈ l ∧ link = byte h.val ∧ x.restore.position = some p := by
  simp only [linkNames, Option.any_eq_true, decide_eq_true_eq, recOpt_filled_iff distinct blank]
  constructor
  · rintro ⟨h, reads, y, ⟨x, m, rfl⟩, here⟩
    exact ⟨h, x, m, (byte_of_finOf reads).symm, here⟩
  · rintro ⟨h, x, m, rfl, here⟩
    exact ⟨h, finOf_handle h, x.restore, ⟨x, m, rfl⟩, here⟩

theorem posStateOf_assigned : (posStateOf st).getD .empty = .assigned ↔ st = 2 := by revert st; decide

theorem posStateOf_occupied : (posStateOf st).getD .empty = .occupied ↔ st = 3 := by revert st; decide

theorem restoredAt_link {recs : Handle → Option Record} {stored : PosState × Option Handle} {y : Position}
    (unlinked : y.link = none) : (restoredAt recs p stored y).link = some h ↔
      (stored.1 = .assigned ∨ stored.1 = .occupied) ∧ linkNames recs p stored.2 = true ∧ stored.2 = some h := by
  obtain ⟨st, link⟩ := stored
  unfold restoredAt
  cases st with
  | empty => simp [unlinked]
  | booked => simp [unlinked]
  | clearing => simp
  | assigned => dsimp only; split <;> simp [unlinked, *]
  | occupied => dsimp only; split <;> simp [*]

theorem byte_eq_iff : finOf 32 link = some h ↔ link = byte h.val :=
  ⟨fun reads => (byte_of_finOf reads).symm, fun same => same ▸ finOf_handle h⟩

/-- A restored position names the record where its stored bytes do (R175). -/
theorem link_restored (blank : s.Blank) (whole : Restorable s ps arrivals l) (m : (h, x) ∈ l)
    (here : x.restore.position = some p)
    (stored : ∀ st link, ps[p.val]? = some (st, link) →
      storedPosition s.ret.image p = ((posStateOf st).getD .empty, finOf 32 link))
    (pos : seqr[p] = if p.val < s.conf.posCount then
      restoredAt (s.filled l).rec? p (storedPosition s.ret.image p) (s.pos p) else s.pos p) :
    seqr[p].link = some h ↔ ps[p.val]? = some (2, byte h.val) ∨ ps[p.val]? = some (3, byte h.val) := by
  have unlinked : (s.pos p).link = none := by rw [blank.unlinked p]; rfl
  rw [pos]
  by_cases live : p.val < s.conf.posCount
  · obtain ⟨⟨st, link⟩, there⟩ : ∃ y, ps[p.val]? = some y := ⟨_, List.getElem?_eq_getElem (whole.positions ▸ live)⟩
    rw [if_pos live, restoredAt_link unlinked, stored st link there, there, linkNames_iff whole.slots blank,
      posStateOf_assigned, posStateOf_occupied, byte_eq_iff]
    simp only [Option.some.injEq, Prod.mk.injEq]
    constructor
    · rintro ⟨state, -, named⟩
      exact state.imp (fun st => ⟨st, named⟩) fun st => ⟨st, named⟩
    · rintro (⟨state, named⟩ | ⟨state, named⟩)
      · exact ⟨.inl state, ⟨h, x, m, named, here⟩, named⟩
      · exact ⟨.inr state, ⟨h, x, m, named, here⟩, named⟩
  · have beyond : ps[p.val]? = none := List.getElem?_eq_none (by rw [whole.positions]; omega)
    rw [if_neg live, unlinked, beyond]
    simp

/-- The record of slot h as the restore leaves it, by the stored positions. -/
def relinked (ps : List (Byte × Byte)) (h : Handle) (x : Record) : Record :=
  { x.restore with position := x.restore.position.bind fun p =>
      if ps[p.val]? = some (2, byte h.val) ∨ ps[p.val]? = some (3, byte h.val) then some p else none }

theorem cleaned_restored {t : State} (linked : ∀ p, x.restore.position = some p →
    ((t.pos p).link = some h ↔ ps[p.val]? = some (2, byte h.val) ∨ ps[p.val]? = some (3, byte h.val))) :
    t.cleaned h x.restore = relinked ps h x := by
  rw [State.cleaned, relinked]
  cases position : x.restore.position with
  | none => rfl
  | some p => simp only [Option.bind_some, linked p position]

/-! ### The last steps: the events, the low-water mark, the valid mark -/

theorem judgeSlots_shape (s : State) : s.judgeSlots = { s with
    store := { s.store with lowIndication := decide (s.freeCount ≤ 4) }, port := s.judgeSlots.port } := by
  by_cases same : s.freeCount ≤ 4 ↔ s.store.lowIndication = true
  · have mark : decide (s.freeCount ≤ 4) = s.store.lowIndication := by rw [Bool.eq_iff_iff, decide_eq_true_iff, same]
    rw [judgeSlots_same same, mark]
  · by_cases low : s.freeCount ≤ 4
    · have unmarked : s.store.lowIndication = false := by
        rw [← Bool.not_eq_true]
        exact fun marked => same ⟨fun _ => marked, fun _ => low⟩
      rw [judgeSlots_low low unmarked, post_shape, decide_eq_true low]
    · have marked : s.store.lowIndication = true := by
        by_contra unmarked
        exact same ⟨fun few => absurd few low, fun marked => absurd marked unmarked⟩
      rw [judgeSlots_ok (by omega) marked, post_shape, decide_eq_false low]

/-- A restore's last steps on the state it has filled. -/
def State.reported (s : State) (held : List (Handle × Nat)) (n : Nat) : State :=
  ((held.foldl State.postRestoreHeld s).judgeSlots.postRestored n).invalidate

theorem reported_shape (held : List (Handle × Nat)) (n : Nat) : s.reported held n = { s with
    store := { s.store with lowIndication := decide (s.freeCount ≤ 4) }
    port := (s.reported held n).port
    ret := { s.ret with valid := false } } := by
  unfold State.reported
  rw [State.postRestored, post_shape, judgeSlots_shape, postRestoreHeld_all_shape]
  rfl

theorem events_reported {held : List (Handle × Nat)} {n : Nat} (config : s.mem.line = .config) (quiet : s.port.events = [])
    (unmarked : s.store.lowIndication = false) (few : held.length ≤ 30) : (s.reported held n).port.events =
      held.filterMap s.heldEvent ++ (if s.freeCount ≤ 4 then [stationEvent .slotsLow s.freeCount] else [])
        ++ [stationEvent .restored n] := by
  have told := events_postRestoreHeld (s := s) (l := held) config (by rw [quiet]; simpa using by omega)
  rw [quiet, List.nil_append] at told
  have short : (held.filterMap s.heldEvent).length ≤ 30 := (List.length_filterMap_le _ _).trans few
  have shape := postRestoreHeld_all_shape held s
  show (((held.foldl State.postRestoreHeld s).judgeSlots).post (stationEvent .restored n)).port.events = _
  generalize held.foldl State.postRestoreHeld s = t at told shape ⊢
  have judged : t.judgeSlots.port.events =
      held.filterMap s.heldEvent ++ if s.freeCount ≤ 4 then [stationEvent .slotsLow s.freeCount] else [] := by
    have count : t.freeCount = s.freeCount := by rw [shape]; rfl
    have mark : t.store.lowIndication = false := by rw [shape]; exact unmarked
    have line : t.mem.line = .config := by rw [shape]; exact config
    split
    · next low =>
      rw [judgeSlots_low (count ▸ low) mark, count]
      have room : t.port.events.length < 32 := by rw [told]; omega
      have line' : ({ t with store := { t.store with lowIndication := true } } : State).mem.line = .config := line
      exact (events_post_config line' room _).trans (congrArg (· ++ _) told)
    · next enough =>
      rw [judgeSlots_same (by rw [count, mark]; simp [enough]), told, List.append_nil]
  have line : t.judgeSlots.mem.line = .config := by rw [judgeSlots_shape, shape]; exact config
  have room : t.judgeSlots.port.events.length < 32 := by
    rw [judged, List.length_append]
    split <;> simp only [List.length_cons, List.length_nil] <;> omega
  exact (events_post_config line room _).trans (congrArg (· ++ _) judged)

/-! ### The free slots after a restore -/

theorem length_unfilled (distinct : (l.map fun x => x.1).Nodup) :
    (handles.filter fun h => l.all fun x => x.1 ≠ h).length = 32 - l.length := by
  have inside : (handles.filter fun h => !(l.all fun x => x.1 ≠ h)).Perm (l.map fun x => x.1) := by
    refine (List.perm_ext_iff_of_nodup (nodup_handles.filter _) distinct).mpr fun h => ?_
    simp only [List.mem_filter, mem_handles, true_and, Bool.not_eq_true', List.all_eq_false, decide_eq_true_eq, not_not,
      List.mem_map]
  have all : handles.length = 32 := List.length_finRange
  have split := List.length_eq_length_filter_add (l := handles) fun h => l.all fun x => x.1 ≠ h
  rw [all, inside.length_eq, List.length_map] at split
  omega

end

end Sys2Proof.Machine
end

section
/-! SUPPORT. An accepted CONFIG_CLOSE by its retention image (R168, R174 to R176). -/

namespace Sys2Proof.Machine
open Host

section
variable {s : State} {seq : BitVec 16} {ps : List (Byte × Byte)} {arrivals : List Handle} {h : Handle} {x : Record}
  {p : PosIx} {st link : Byte} {l : List (Handle × Record)} {seqr : Vector Position 8} {slots : Vector Slot 32}

/-! ### The close by the judgement -/

theorem close_lost (judged : s.openPositions.judgeRetention = .lost) : s.close =
    ((State.post (stationEvent .restored 0) { s.openPositions with
      ret := { s.ret with valid := false }
      port := { s.openPositions.port with alarms := { s.openPositions.port.alarms with retentionLost := true } } }).placement.enterJoining
        .closed).ok 2 0 (byte 0) := by
  simp only [State.close, State.restore, judged]
  rfl

theorem close_mismatch (judged : s.openPositions.judgeRetention = .mismatch) : s.close =
    ((State.post (stationEvent .restored 0) { s.openPositions with
      ret := { s.ret with valid := false }
      port := { s.openPositions.port with alarms := { s.openPositions.port.alarms with retentionMismatch := true } } }).placement.enterJoining
        .closed).ok 3 0 (byte 0) := by
  simp only [State.close, State.restore, judged]
  rfl

theorem close_restored {w : State} {held : List (Handle × Nat)} {n : Nat} (judged : s.openPositions.judgeRetention = .restored)
    (records : s.openPositions.restoreRecords = { state := w, held := held, count := n }) :
    s.close = ((w.reported held n).placement.enterJoining .closed).ok 0 0 (byte n) := by
  simp only [State.close, State.restore, judged, records]
  rfl

theorem blank_openPositions (free : ∀ h, (s.slot h).state = .free) (queue : s.arrivalQueue = []) : s.openPositions.Blank := by
  refine ⟨free, queue, fun p => ?_⟩
  simp only [State.pos, State.openPositions, Fin.getElem_fin, Vector.getElem_ofFn]
  split <;> rfl

/-! ### The records and the arrival queue of the filled store -/

/-- The restored slots, each record linked as its stored position has it. -/
def SlotsRestored (l : List (Handle × Record)) (ps : List (Byte × Byte)) (slots : Vector Slot 32) : Prop :=
  (∀ h : Handle, (∀ x ∈ l, x.1 ≠ h) → slots[h].state = .free)
    ∧ ∀ (h : Handle) (x : Record), (h, x) ∈ l → slots[h].state = .inUse (relinked ps h x)

theorem slotsRestored_of_cleaned {t : State} (blank : s.Blank) (distinct : (l.map fun x => x.1).Nodup)
    (states : ∀ h : Handle, slots[h].state = ((filledSlots l s.store.slots)[h]).state.mapRec (t.cleaned h))
    (linked : ∀ (h : Handle) (x : Record) (p : PosIx), (h, x) ∈ l → x.restore.position = some p →
      ((t.pos p).link = some h ↔ ps[p.val]? = some (2, byte h.val) ∨ ps[p.val]? = some (3, byte h.val))) :
    SlotsRestored l ps slots := by
  refine ⟨fun h away => ?_, fun h x m => ?_⟩
  · rw [states, (filled_free distinct blank h).mpr away]
    rfl
  · rw [states, filledSlots_state distinct m, ← cleaned_restored fun p => linked h x p m]
    rfl

theorem recOpt_restored {t : State} (restored : SlotsRestored l ps t.store.slots) {y : Record} :
    t.rec? h = some y ↔ ∃ x, (h, x) ∈ l ∧ y = relinked ps h x := by
  obtain ⟨free, held⟩ := restored
  rw [recOpt_iff]
  refine ⟨fun here => ?_, fun ⟨x, m, same⟩ => same ▸ held h x m⟩
  by_cases away : ∀ x ∈ l, x.1 ≠ h
  · cases (free h away).symm.trans here
  · push Not at away
    obtain ⟨⟨g, x⟩, m, rfl⟩ := away
    exact ⟨x, m, (SlotState.inUse.inj ((held g x m).symm.trans here)).symm⟩

/-- Slot h is to hold a QUEUED record of the group. -/
def queuedIn (l : List (Handle × Record)) (rush : Bool) (h : Handle) : Bool :=
  l.any fun x => decide (x.1 = h) && decide (x.2.restore.state = .queued) && decide (x.2.rush = rush)

theorem queues_restored {t : State} (restored : SlotsRestored l ps t.store.slots) (rush : Bool) : t.queues rush = queuedIn l rush := by
  funext h
  rw [Bool.eq_iff_iff, State.queues, queuedIn, List.any_eq_true, Option.any_eq_true]
  simp only [Bool.and_eq_true, decide_eq_true_eq]
  constructor
  · rintro ⟨y, here, queued, group⟩
    obtain ⟨x, m, rfl⟩ := (recOpt_restored restored).mp here
    exact ⟨(h, x), m, ⟨rfl, queued⟩, rush_restore.symm.trans group⟩
  · rintro ⟨⟨g, x⟩, m, ⟨rfl, queued⟩, group⟩
    exact ⟨relinked ps g x, (recOpt_restored restored).mpr ⟨x, m, rfl⟩, queued, rush_restore.trans group⟩

theorem queue_restored {t : State} (restored : SlotsRestored l ps t.store.slots) (empty : t.arrivalQueue = [])
    (distinct : arrivals.Nodup) (listed : ∀ x ∈ l, x.2.restore.state = .queued → x.1 ∈ arrivals) :
    (t.requeued arrivals seq).store.rushQueue = arrivals.filter (queuedIn l true)
      ∧ (t.requeued arrivals seq).store.ordinaryQueue = arrivals.filter (queuedIn l false) := by
  obtain ⟨rush, ordinary⟩ := List.append_eq_nil_iff.mp empty
  have entered := restoreArrival_new (s := t) distinct fun h _ => by rw [empty]; exact List.not_mem_nil
  rw [rush, ordinary, List.nil_append, List.nil_append, queues_restored restored, queues_restored restored] at entered
  have settled : handles.foldl State.restoreArrival (arrivals.foldl State.restoreArrival t) = arrivals.foldl State.restoreArrival t := by
    refine restoreArrival_settled fun h _ queued => ?_
    have here : (arrivals.foldl State.restoreArrival t).rec? h = t.rec? h := by rw [entered]; rfl
    rw [recIn_eq_any, here, Option.any_eq_true] at queued
    obtain ⟨y, there, queued⟩ := queued
    obtain ⟨x, m, rfl⟩ := (recOpt_restored restored).mp there
    have queued : x.restore.state = .queued := of_decide_eq_true queued
    have waits : h ∈ arrivals := listed (h, x) m queued
    have among : queuedIn l x.rush h = true :=
      List.any_eq_true.mpr ⟨(h, x), m, by simp [queued]⟩
    rw [entered, State.arrivalQueue]
    cases group : x.rush <;> rw [group] at among <;> simp [waits, among]
  rw [State.requeued, List.foldl_append, settled, entered]
  exact ⟨rfl, rfl⟩

/-! ### The positions of the filled store -/

theorem restoredAt_still {recs : Handle → Option Record} {stored : PosState × Option Handle} {y : Position}
    (low : y.stepEn = false) : (restoredAt recs p stored y).claim = y.claim ∧ (restoredAt recs p stored y).stepEn = false := by
  obtain ⟨st, link⟩ := stored
  cases st with
  | empty => exact ⟨rfl, low⟩
  | booked => exact ⟨rfl, low⟩
  | clearing => exact ⟨rfl, rfl⟩
  | assigned =>
    rw [restoredAt_assigned]
    split <;> exact ⟨rfl, low⟩
  | occupied =>
    rw [restoredAt_occupied]
    split
    · exact ⟨rfl, low⟩
    · exact ⟨rfl, rfl⟩

/-- What the restore makes of a position, by its two stored bytes (R175). -/
theorem pos_restored (blank : s.Blank) (distinct : (l.map fun x => x.1).Nodup) (y : Position)
    (pos : y = restoredAt (s.filled l).rec? p ((posStateOf st).getD .empty, finOf 32 link) (s.pos p)) :
    y.claim = .none ∧ y.stepEn = false
      ∧ (st = 0 ∨ st = 1 → y.state = .empty ∧ y.link = none)
      ∧ (st = 4 → y.state = .clearing ∧ y.link = none)
      ∧ (∀ h r, (h, r) ∈ l → link = byte h.val → r.restore.position = some p →
        (st = 2 → y.state = .assigned ∧ y.link = some h) ∧ (st = 3 → y.state = .occupied ∧ y.link = some h))
      ∧ ((∀ h r, (h, r) ∈ l → link = byte h.val → r.restore.position ≠ some p) →
        (st = 2 → y.state = .empty ∧ y.link = none) ∧ (st = 3 → y.state = .clearing ∧ y.link = none)) := by
  rw [blank.unlinked p] at pos
  have named (h : Handle) (r : Record) (m : (h, r) ∈ l) (here : link = byte h.val) (there : r.restore.position = some p) :
      linkNames (s.filled l).rec? p (finOf 32 link) = true :=
    (linkNames_iff distinct blank).mpr ⟨h, r, m, here, there⟩
  have unnamed (away : ∀ h r, (h, r) ∈ l → link = byte h.val → r.restore.position ≠ some p) :
      ¬linkNames (s.filled l).rec? p (finOf 32 link) = true := fun names => by
    obtain ⟨h, r, m, here, there⟩ := (linkNames_iff distinct blank).mp names
    exact away h r m here there
  refine ⟨?_, ?_, ?_, ?_, fun h r m here there => ⟨?_, ?_⟩, fun away => ⟨?_, ?_⟩⟩
  · rw [pos]
    exact (restoredAt_still rfl).1
  · rw [pos]
    exact (restoredAt_still rfl).2
  · rintro (rfl | rfl) <;> rw [pos] <;> exact ⟨rfl, rfl⟩
  · rintro rfl
    rw [pos]
    exact ⟨rfl, rfl⟩
  · rintro rfl
    rw [pos, show (posStateOf 2).getD .empty = .assigned from rfl, restoredAt_assigned, if_pos (named h r m here there)]
    exact ⟨rfl, byte_eq_iff.mpr here⟩
  · rintro rfl
    rw [pos, show (posStateOf 3).getD .empty = .occupied from rfl, restoredAt_occupied, if_pos (named h r m here there)]
    exact ⟨rfl, byte_eq_iff.mpr here⟩
  · rintro rfl
    rw [pos, show (posStateOf 2).getD .empty = .assigned from rfl, restoredAt_assigned, if_neg (unnamed away)]
    exact ⟨rfl, rfl⟩
  · rintro rfl
    rw [pos, show (posStateOf 3).getD .empty = .occupied from rfl, restoredAt_occupied, if_neg (unnamed away)]
    exact ⟨rfl, rfl⟩

/-! ### The HELD events -/

theorem restoreHolds_iff (st : RecState) : restoreHolds st = true ↔
    st ∈ [RecState.inbound, .loaded, .waiting, .running, .paused, .ended] := by
  cases st <;> decide

theorem heldEvents_restored {t : State} (restored : SlotsRestored l ps t.store.slots) :
    (heldByRestore l).filterMap t.heldEvent = l.filterMap fun x =>
      if x.2.state ∈ [RecState.inbound, .loaded, .waiting, .running, .paused, .ended] then
        some (recordEvent .held ((t.rec? x.1).bind fun r => r.position) x.1 x.2.tag
          (7 + if x.2.deviations.length < 4 then 0 else 256))
      else none := by
  rw [heldByRestore, List.filterMap_filterMap]
  refine List.filterMap_congr fun ⟨h, x⟩ m => ?_
  have here : t.rec? h = some (relinked ps h x) := (recOpt_restored restored).mpr ⟨x, m, rfl⟩
  simp only [← restoreHolds_iff]
  by_cases holds : restoreHolds x.state = true
  · rw [if_pos holds, if_pos holds, Option.bind_some, State.heldEvent, here, Option.map_some, Option.bind_some,
      show (relinked ps h x).tag = x.tag from tag_restore]
    rfl
  · rw [if_neg holds, if_neg holds]
    rfl

end

/-- Settles O59. -/
theorem restoreAtClose : Obligations.RestoreAtClose := by
  refine ⟨fun s config power sound => ?_, fun run h r formed reads there => add_resident formed reads there⟩
  have closes : exec .configClose s = .next s.deliver.close :=
    (exec_configClose_config config).trans (congrArg Outcome.next (tryClose_accepted (s := s.deliver) power sound))
  refine ⟨fun fresh => ?_, fun written bad => ?_, fun written valid ok differs => ?_, ?_⟩
  · exact closes.trans (congrArg Outcome.next (close_nothing (s := s.deliver) fresh))
  · exact closes.trans (congrArg Outcome.next (close_lost (judgeRetention_lost (s := s.deliver.openPositions) written bad)))
  · refine closes.trans (congrArg Outcome.next (close_mismatch ?_))
    rw [judgeRetention_checked (s := s.deliver.openPositions) written valid ok]
    exact if_neg differs
  · intro seq ps arrivals l body written valid image free empty count few slots tags images
    have blank : s.deliver.openPositions.Blank := blank_openPositions free empty
    have whole : Restorable s.deliver.openPositions ps arrivals l := ⟨count, few, slots, tags, images⟩
    have image' : s.deliver.openPositions.ret.image =
        writtenImage [byte s.conf.address.val, roleCode s.conf.role, byte s.conf.items.positionCount] seq ps arrivals l := image
    have judged : s.deliver.openPositions.judgeRetention = .restored := by
      rw [judgeRetention_checked (s := s.deliver.openPositions) written valid (by rw [image']; exact checkOk_writtenImage _ rfl), image', take_writtenImage]
      exact if_pos rfl
    obtain ⟨seqr, held, pos, states, records⟩ := restoreRecords_spec blank whole image'
    have stored (p : PosIx) (st link : Byte) (here : ps[p.val]? = some (st, link)) :
        storedPosition s.deliver.openPositions.ret.image p = ((posStateOf st).getD .empty, finOf 32 link) := by
      rw [image']
      exact storedPosition_writtenImage here
    have restored : SlotsRestored l ps held := slotsRestored_of_cleaned blank slots states fun h x p m here =>
      link_restored blank whole m here (stored p) (pos p)
    obtain ⟨port, shape⟩ : ∃ port, ((s.deliver.openPositions.refilled l seqr held).requeued arrivals seq).reported (heldByRestore l)
        l.length = { (s.deliver.openPositions.refilled l seqr held).requeued arrivals seq with
          store := { ((s.deliver.openPositions.refilled l seqr held).requeued arrivals seq).store with
            lowIndication := decide (((s.deliver.openPositions.refilled l seqr held).requeued arrivals seq).freeCount ≤ 4) }
          port := port
          ret := { s.ret with valid := false } } := ⟨_, reported_shape ..⟩
    have closed := close_restored judged records
    rw [shape] at closed
    refine ⟨_, closes.trans (congrArg Outcome.next closed), rfl, rfl, rfl, rfl, rfl, restored.1, fun h r m => ?_,
      fun p st link here => ?_, fun distinct listed => ?_, fun quiet unmarked short => ?_⟩
    · exact (recOpt_restored (h := h) restored).mpr ⟨r, m, rfl⟩
    · have live : p.val < s.deliver.openPositions.conf.posCount := by
        rw [← whole.positions]
        exact (List.getElem?_eq_some_iff.mp here).1
      refine pos_restored blank slots _ ((pos p).trans ?_)
      rw [if_pos live, stored p st link here]
    · exact queue_restored (seq := seq) (t := s.deliver.openPositions.refilled l seqr held) restored empty distinct listed
    · have free' : ((s.deliver.openPositions.refilled l seqr held).requeued arrivals seq).freeCount = 32 - l.length :=
        length_unfilled slots
      have atMost : 32 - l.length ≤ 4 ↔ 28 ≤ l.length := by omega
      have fewHeld : (heldByRestore l).length ≤ 30 := (List.length_filterMap_le _ _).trans short
      have told := events_reported (s := (s.deliver.openPositions.refilled l seqr held).requeued arrivals seq) (n := l.length)
        config quiet unmarked fewHeld
      rw [shape, heldEvents_restored restored, free', if_congr atMost rfl rfl] at told
      refine ⟨?_, told⟩
      rw [show (decide (28 ≤ l.length)) = decide (32 - l.length ≤ 4) from decide_eq_decide.mpr atMost.symm, ← free']

end Sys2Proof.Machine
end

section
/-! SUPPORT. What placement leaves alone, and what the loss of the line discards (R23, R28, R110, R111, R160). -/

namespace Sys2Proof.Machine
open Host

/-! ### What placement leaves alone -/

/-- In t, records of s's arrival queue have been placed on EMPTY positions of s. -/
structure State.Places (s t : State) : Prop where
  queue : ∀ h ∈ t.arrivalQueue, h ∈ s.arrivalQueue
  slots : ∀ h, h ∉ s.arrivalQueue ∨ s.rec? h = none → t.slot h = s.slot h
  seqr : ∀ p, (s.pos p).state ≠ .empty → t.pos p = s.pos p
  claims : ∀ p, (t.pos p).claim = (s.pos p).claim
  waits : ∀ h, (t.slot h).waits = (s.slot h).waits
  events : s.port.events <+: t.port.events

section
variable {s t u : State} {h : Handle} {p : PosIx}

theorem State.Places.refl (s : State) : s.Places s :=
  ⟨fun _ m => m, fun _ _ => rfl, fun _ _ => rfl, fun _ => rfl, fun _ => rfl, List.prefix_rfl⟩

theorem recOpt_of_slot (same : t.slot h = s.slot h) : t.rec? h = s.rec? h := by simp only [State.rec?, same]

theorem State.Places.trans (first : s.Places t) (then_ : t.Places u) : s.Places u := by
  refine ⟨fun h m => first.queue h (then_.queue h m), fun h still => ?_, fun p busy => ?_,
    fun p => (then_.claims p).trans (first.claims p), fun h => (then_.waits h).trans (first.waits h),
    first.events.trans then_.events⟩
  · have kept := first.slots h still
    exact (then_.slots h (still.imp (fun away m => away (first.queue h m)) fun none => (recOpt_of_slot kept).trans none)).trans kept
  · have kept := first.seqr p busy
    exact (then_.seqr p (by rwa [kept])).trans kept

theorem events_post_prefix (e : Event) (s : State) : s.port.events <+: (s.post e).port.events := by
  unfold State.post
  split
  · exact List.prefix_rfl
  · exact List.prefix_rfl
  all_goals
    split
    · exact List.prefix_append _ _
    · exact List.prefix_rfl

theorem places_unqueue (h : Handle) (s : State) : s.Places (s.unqueue h) := by
  refine ⟨fun g m => ?_, fun _ _ => rfl, fun _ _ => rfl, fun _ => rfl, fun _ => rfl, List.prefix_rfl⟩
  rw [arrivalQueue_unqueue] at m
  exact (List.mem_filter.mp m).1

theorem places_placeOne (s : State) : s.Places s.placeOne := by
  by_cases settled : s.Settled
  · rw [placeOne_settled settled]
    exact .refl s
  simp only [State.Settled, not_or] at settled
  obtain ⟨p, lowest⟩ := Option.ne_none_iff_exists'.mp settled.1
  obtain ⟨h, rest, queue⟩ := List.exists_cons_of_ne_nil settled.2
  cases stands : s.rec? h with
  | none =>
    have dropped : s.placeOne = s.unqueue h := by simp only [State.placeOne, lowest, queue, stands]
    rw [dropped]
    exact places_unqueue h s
  | some r =>
    obtain ⟨-, empty, -⟩ := lowestEmpty_eq_some lowest
    refine ⟨fun g m => ?_, fun g still => ?_, fun q busy => ?_, fun q => ?_, fun g => ?_, ?_⟩
    · rw [arrivalQueue_placeOne lowest queue stands] at m
      exact (List.mem_filter.mp m).1
    · have other : h ≠ g := fun same => still.elim (fun away => away (by rw [queue, ← same]; exact List.mem_cons_self))
        fun none => by rw [← same, stands] at none; cases none
      have kept : ((s.unqueue h).setRec h { r with state := .placed, position := some p }).slot g = s.slot g := by
        rw [slot_setRec, if_neg other]
        rfl
      rw [placeOne_some lowest queue stands, State.slot, store_post]
      exact kept
    · have other : p ≠ q := fun same => busy (same ▸ empty)
      rw [pos_placeOne lowest queue stands, if_neg other]
    · rw [pos_placeOne lowest queue stands]
      split
      · next same => rw [← same]
      · rfl
    · rw [placeOne_some lowest queue stands, State.slot, store_post]
      exact waits_setRec ..
    · rw [placeOne_some lowest queue stands]
      refine List.IsPrefix.trans ?_ (events_post_prefix _ _)
      exact List.prefix_rfl

theorem places_iterate (n : Nat) (s : State) : s.Places (State.placeOne^[n] s) := by
  induction n generalizing s with
  | zero => exact .refl s
  | succ n ih => exact (places_placeOne s).trans (ih s.placeOne)

theorem places_placement (s : State) : s.Places s.placement := by
  rw [placement_eq_iterate]
  exact places_iterate 8 s

/-! ### The positions of OUTBOUND records (R28) -/

/-- The position's link names an OUTBOUND record. -/
def linksOutbound (recs : Handle → Option Record) (x : Position) : Bool :=
  x.link.any fun h => (recs h).any fun r => decide (r.state = .outbound)

/-- A position whose record is lost to the line (R28). -/
def Position.clearedOutbound (recs : Handle → Option Record) (x : Position) : Position :=
  if linksOutbound recs x then { x with state := .clearing, link := none, stepEn := false } else x

theorem clearOutbound_eq : s.clearOutbound p = s.updPos p (Position.clearedOutbound s.rec?) := by
  unfold State.clearOutbound
  cases link : (s.pos p).link with
  | none =>
    have same : (s.pos p).clearedOutbound s.rec? = s.pos p := by simp [Position.clearedOutbound, linksOutbound, link]
    dsimp only
    rw [State.updPos, show s.seqr[p] = s.pos p from rfl, same]
    simp [State.pos]
  | some h =>
    have names : linksOutbound s.rec? (s.pos p) = s.recIn h .outbound := by
      rw [linksOutbound, link, recIn_eq_any]
      rfl
    dsimp only
    rw [State.updPos, show s.seqr[p] = s.pos p from rfl, Position.clearedOutbound, names]
    split
    · rfl
    · simp [State.pos]

theorem clearOutbound_all {l : List PosIx} (distinct : l.Nodup) (s : State) : ∃ seqr : Vector Position 8,
    l.foldl State.clearOutbound s = { s with seqr := seqr } ∧ ∀ p : PosIx, seqr[p] =
      if p ∈ l then (s.pos p).clearedOutbound s.rec? else s.pos p := by
  induction l generalizing s with
  | nil => exact ⟨s.seqr, rfl, fun _ => rfl⟩
  | cons q l ih =>
    rw [List.nodup_cons] at distinct
    obtain ⟨alone, distinct⟩ := distinct
    obtain ⟨seqr, reached, pos⟩ := ih distinct (s.clearOutbound q)
    have recs : (s.clearOutbound q).rec? = s.rec? := by rw [clearOutbound_eq]; rfl
    refine ⟨seqr, ?_, fun p => ?_⟩
    · rw [List.foldl_cons, reached, clearOutbound_eq]
      rfl
    · rw [pos, recs, clearOutbound_eq, pos_updPos]
      by_cases here : q = p
      · subst here
        simp [alone]
      · simp [here, eq_comm (a := p)]

/-! ### List, table, claims and bookings discarded -/

/-- A position at the loss of the line, before its record is treated. -/
def State.clearedAt (s : State) (p : PosIx) : Position :=
  ({ s.pos p with claim := .none, withdrawing := false, remembered := false } : Position).clearedOutbound s.rec?

/-- The station off the line, its records not yet treated (R110, R111, R160). -/
def State.lineDropped (s : State) (l : LineState) : State :=
  ({ s.clearTx with mem := s.clearTx.mem.offLine l } : State).dropTable.dropClaims.loseHandoff

theorem lineDropped_spec (s : State) (l : LineState) : ∃ (seqr : Vector Position 8) (slots : Vector Slot 32),
    s.lineDropped l = { s with
        mem := s.mem.offLine l
        lbi := { s.lbi with
          tx := []
          inTx := match s.frameOut with
            | some f => .orphan f
            | none => .idle
          stall := none }
        bud := BudgetTable.empty
        seqr := seqr
        bookings := s.bookings.filter fun b => !s.givenUp b
        store := { s.store with slots := slots, freeList := (s.slotsLeft s.givenUp).reverse ++ s.store.freeList } }
      ∧ (∀ p : PosIx, seqr[p] = if s.leavesAt s.givenUp p then (s.clearedAt p).emptied else s.clearedAt p)
      ∧ (∀ h : Handle, slots[h].state =
        if s.leavesSlot s.givenUp h then .free else (s.slot h).state.mapRec Record.loseLine)
      ∧ ∀ h : Handle, slots[h].waits = [] := by
  have taken : ({ s.clearTx with mem := s.clearTx.mem.offLine l } : State).dropTable.dropClaims.takenOut = s.takenOut :=
    takenOut_of_frameOut (Eq.trans rfl (frameOut_clearTx (s := s)))
  generalize dropped : ({ s.clearTx with mem := s.clearTx.mem.offLine l } : State).dropTable.dropClaims = u at taken
  have recs : u.rec? = s.rec? := by
    rw [← dropped]
    exact funext fun h => recOpt_clearTx h
  have pos (p : PosIx) : u.pos p = { s.pos p with claim := .none, withdrawing := false, remembered := false } := by
    rw [← dropped, pos_dropClaims]
    rfl
  obtain ⟨cleared, reached, there⟩ := clearOutbound_all nodup_positions u
  have shape : s.lineDropped l = ({ u with
      seqr := cleared
      store := { u.store with slots := u.store.slots.map fun (x : Slot) => { x with state := x.state.mapRec Record.loseLine } } }
        : State).dropEntries s.givenUp := by
    have handoff : u.loseHandoff = ({ positions.foldl State.clearOutbound u with
        store := { (positions.foldl State.clearOutbound u).store with
          slots := (positions.foldl State.clearOutbound u).store.slots.map
            fun (x : Slot) => { x with state := x.state.mapRec Record.loseLine } } } : State).dropEntries
              fun b => !(positions.foldl State.clearOutbound u).takenOut b := rfl
    have same : ({ u with seqr := cleared } : State).takenOut = s.takenOut :=
      (takenOut_of_frameOut (s := u) rfl).trans taken
    rw [State.lineDropped, dropped, handoff, reached, same]
    rfl
  rw [shape]
  generalize whole : ({ u with
      seqr := cleared
      store := { u.store with slots := u.store.slots.map fun (x : Slot) => { x with state := x.state.mapRec Record.loseLine } } }
        : State) = v
  have lists : v.bookings = s.bookings := by rw [← whole, ← dropped]; rfl
  obtain ⟨seqr, slots, gone, pos', states', waits'⟩ := dropEntries_spec v s.givenUp
  refine ⟨seqr, slots, ?_, fun p => ?_, fun h => ?_, fun h => waits' h ?_⟩
  · rw [gone, slotsLeft_congr lists, lists, ← whole, ← dropped, clearTx_eq]
    rfl
  · have here : v.pos p = s.clearedAt p := by
      rw [State.clearedAt, ← recs, ← pos, ← whole]
      exact (there p).trans (if_pos (mem_positions p))
    rw [pos', leavesAt_congr lists, here]
  · have here : (v.slot h).state = (s.slot h).state.mapRec Record.loseLine := by
      rw [← whole, ← dropped]
      simp [State.slot, State.dropClaims, State.dropTable, State.clearTx]
    rw [states', leavesSlot_congr lists, here]
  · rw [← whole, ← dropped]
    simp [State.slot, State.dropClaims, State.dropTable, State.clearTx]

theorem loseLine_eq (l : LineState) :
    s.loseLine l = (positions.foldl State.lostPosition (s.lineDropped l)).judgeSlots.placement := rfl

end

end Sys2Proof.Machine
end

section
/-! SUPPORT. The records on the positions at the loss of the line, and the detach as a whole (R47, R110, R111). -/

namespace Sys2Proof.Machine
open Host

/-! ### One record at the loss of the line -/

/-- A record HELD for a deviation, with no booking. -/
def Record.heldBy (r : Record) (k : DevKind) (v : BitVec 24) : Record :=
  ({ r.deviate k v with heldFrom := some r.state, state := .held } : Record).unbooked

/-- A WAITING record back in LOADED. -/
def Record.resumed (r : Record) : Record := if r.state = .waiting then { r with state := .loaded } else r

/-- The deviation of a record on its position at the loss of the line (R47, R53, R111). -/
def Record.strandedKind (r : Record) : Option (DevKind × BitVec 24) :=
  match r.state with
  | .running | .paused => some (.lineLost, r.accumulated)
  | .waiting => r.resumed.gapExceeded.map fun g => (.gapExceeded, g)
  | .queued | .placed | .inbound | .loaded | .ended | .outbound | .uncertain | .finished | .held => none

/-- A record on its position after the loss of the line. -/
def Record.stranded (r : Record) : Record :=
  match r.strandedKind with
  | some (k, v) => r.resumed.heldBy k v
  | none => r.resumed

/-- The record stands on a position that the loss of the line changes. -/
def Record.works (r : Record) : Prop := r.state = .running ∨ r.state = .paused ∨ r.state = .waiting

section
variable {r : Record} {g : BitVec 24}

theorem stranded_ran (ran : r.state = .running ∨ r.state = .paused) : r.stranded = r.heldBy .lineLost r.accumulated := by
  obtain st | st := ran <;> simp [Record.stranded, Record.strandedKind, Record.resumed, st]

theorem resumed_waiting (waiting : r.state = .waiting) : r.resumed = { r with state := .loaded } := if_pos waiting

theorem stranded_waiting_in (waiting : r.state = .waiting) (inside : r.resumed.gapExceeded = none) : r.stranded = r.resumed := by
  simp [Record.stranded, Record.strandedKind, waiting, inside]

theorem stranded_waiting_out (waiting : r.state = .waiting) (beyond : r.resumed.gapExceeded = some g) :
    r.stranded = r.resumed.heldBy .gapExceeded g := by
  simp [Record.stranded, Record.strandedKind, waiting, beyond]

theorem strandedKind_idle (idle : ¬r.works) : r.strandedKind = none := by
  unfold Record.works at idle
  unfold Record.strandedKind
  cases st : r.state <;> simp_all

theorem stranded_idle (idle : ¬r.works) : r.stranded = r := by
  have away : r.state ≠ .waiting := fun st => idle (.inr (.inr st))
  rw [Record.stranded, strandedKind_idle idle, Record.resumed, if_neg away]

theorem resumed_eq (r : Record) : r.resumed = { r with state := if r.state = .waiting then .loaded else r.state } := by
  unfold Record.resumed
  split <;> rfl

theorem heldBy_eq (r : Record) (k : DevKind) (v : BitVec 24) : r.heldBy k v = { r with
    state := .held
    heldFrom := some r.state
    deviations := if r.deviations.length < 4 then r.deviations ++ [{ kind := k, stepIndex := r.current, value := v }]
      else r.deviations
    overflow := if r.deviations.length < 4 then r.overflow else true
    booking := .none
    exhausted := false
    answerTimer := none } := by
  rw [Record.heldBy, deviate_eq]
  rfl

/-- What the loss of the line changes of a record on its position. -/
theorem stranded_spec (r : Record) : ∃ st held ds over_ booking exhausted timer, r.stranded = { r with
    state := st, heldFrom := held, deviations := ds, overflow := over_, booking := booking, exhausted := exhausted
    answerTimer := timer } := by
  unfold Record.stranded
  cases r.strandedKind with
  | none => exact ⟨_, _, _, _, _, _, _, resumed_eq r⟩
  | some x =>
    dsimp only
    rw [heldBy_eq, resumed_eq]
    exact ⟨_, _, _, _, _, _, _, rfl⟩

theorem stranded_still (r : Record) : ¬r.stranded.works := by
  by_cases works : r.works
  · obtain st | st | st := works
    · rw [stranded_ran (.inl st)]
      exact nofun
    · rw [stranded_ran (.inr st)]
      exact nofun
    · cases gap : r.resumed.gapExceeded with
      | none =>
        rw [stranded_waiting_in st gap, resumed_waiting st]
        exact nofun
      | some g =>
        rw [stranded_waiting_out st gap]
        exact nofun
  · rwa [stranded_idle works]

theorem stranded_twice (r : Record) : r.stranded.stranded = r.stranded := stranded_idle (stranded_still r)

theorem booking_stranded (free : r.booking = .none) (still : r.exhausted = false ∧ r.answerTimer = none) :
    r.stranded.booking = .none ∧ r.stranded.exhausted = false ∧ r.stranded.answerTimer = none := by
  unfold Record.stranded
  cases r.strandedKind with
  | none =>
    dsimp only
    rw [resumed_eq]
    exact ⟨free, still⟩
  | some x => exact ⟨rfl, rfl, rfl⟩

end

/-! ### The treatment of one position -/

/-- Nothing is on the transmit list or waits for it, no claim and no booking stands. -/
structure State.Hushed (s : State) : Prop where
  tx : s.lbi.tx = []
  claims : ∀ p, (s.pos p).claim = .none
  waits : ∀ h, (s.slot h).waits = []
  records : ∀ h r, s.rec? h = some r → r.booking = .none

/-- An event posted where there is one. -/
def State.postOpt (e : Option Event) (s : State) : State :=
  match e with
  | some e => s.post e
  | none => s

/-- The HELD event of the record on position p at the loss of the line. -/
def State.strandedNews (s : State) (p : PosIx) : Option Event :=
  match s.working p with
  | some (h, r) => r.strandedKind.map fun x => recordEvent .held r.position h r.tag (heldValue r x.1)
  | none => none

/-- The slots with the record on position p treated. -/
def State.strandedSlots (s : State) (p : PosIx) : Vector Slot 32 :=
  match s.working p with
  | some (h, r) => s.store.slots.set h { s.slot h with state := .inUse r.stranded }
  | none => s.store.slots

section
variable {s : State} {h : Handle} {r : Record} {p : PosIx}

theorem withdrawBooks_hushed (tx : s.lbi.tx = []) (waits : (s.slot h).waits = []) : s.withdrawBooks h = s := by
  have free : s.txEntry (.slot h) = none := txEntry_none (txHas_false_iff.mpr (by simp [State.framesOf, tx]))
  rw [State.withdrawBooks, dropWaits_idle _ waits, dropWaits_idle _ waits, State.withdrawSlot, free]

theorem giveUpClaimOpt_hushed (claims : ∀ p, (s.pos p).claim = .none) (p : Option PosIx) : s.giveUpClaim? p = s := by
  cases p with
  | none => rfl
  | some p => simp only [State.giveUpClaim?, State.giveUpClaim, claims p]

theorem enterHeld_hushed (hushed : s.Hushed) (stands : s.rec? h = some r) (active : r.state ≠ .held) (queued : r.state ≠ .queued)
    (placed : r.state ≠ .placed) (k : DevKind) (v : BitVec 24) : s.enterHeld h k v false =
      State.post (recordEvent .held r.position h r.tag (heldValue r k)) ((s.setRec h (r.heldBy k v)).stopPosition? r.position) := by
  have here : s.heldHere h k v r =
      (s.setRec h { r.deviate k v with heldFrom := some r.state, state := .held }).stopPosition? r.position := by
    rw [State.heldHere, giveUpClaimOpt_hushed fun p => (congrArg Position.claim (pos_setRec ..)).trans (hushed.claims p)]
  have stands' := recOpt_heldHere (s := s) (h := h) (r := r) k v
  have free : (r.deviate k v).booking = .none := by
    rw [deviate_eq]
    exact hushed.records h r stands
  have ended : (s.heldHere h k v r).endBooking h = (s.setRec h (r.heldBy k v)).stopPosition? r.position := by
    have set : (s.heldHere h k v r).setRec h (r.heldBy k v) = (s.setRec h (r.heldBy k v)).stopPosition? r.position := by
      rw [here]
      cases r.position with
      | none => exact setRec_setRec ..
      | some p => exact congrArg (fun t => State.stopPosition? (some p) t) (setRec_setRec h _ (r.heldBy k v) s)
    have dropped : (s.heldHere h k v r).endBooking h = ((s.heldHere h k v r).setRec h (r.heldBy k v)).withdrawBooks h := by
      refine (endBooking_eq stands').trans ?_
      dsimp only
      rw [free]
      rfl
    rw [dropped, set, withdrawBooks_hushed]
    · rw [tx_stopPositionOpt]
      exact hushed.tx
    · rw [State.slot, show ((s.setRec h (r.heldBy k v)).stopPosition? r.position).store = (s.setRec h (r.heldBy k v)).store by
        cases r.position <;> rfl]
      exact (waits_setRec ..).trans (hushed.waits h)
  rw [enterHeld_eq k v false stands active, ended]
  simp only [Bool.false_or, placed, decide_false, Bool.false_eq_true, if_false, State.heldAway, queued]

theorem stopPositionOpt_shape (q : Option PosIx) (s : State) :
    s.stopPosition? q = { s with seqr := (s.stopPosition? q).seqr } := by
  cases q <;> rfl

theorem pos_stopPositionOpt_low (q : Option PosIx) (s : State) (p : PosIx) :
    ∃ b, (s.stopPosition? q).pos p = { s.pos p with stepEn := b } := by
  rw [pos_stopPositionOpt]
  split
  · exact ⟨_, rfl⟩
  · exact ⟨_, rfl⟩

theorem hushed_updPos (hushed : s.Hushed) (p : PosIx) (b : Bool) : (s.updPos p fun x => { x with stepEn := b }).Hushed := by
  refine ⟨hushed.tx, fun q => ?_, hushed.waits, hushed.records⟩
  rw [pos_updPos]
  split
  · next here => exact here ▸ hushed.claims p
  · exact hushed.claims q

theorem hushed_setRec (hushed : s.Hushed) (free : r.booking = .none) (h : Handle) : (s.setRec h r).Hushed := by
  refine ⟨hushed.tx, hushed.claims, fun g => (waits_setRec ..).trans (hushed.waits g), fun g x here => ?_⟩
  rw [recOpt_setRec] at here
  split at here
  · exact Option.some.inj here ▸ free
  · exact hushed.records g x here

theorem hold_hushed (hushed : s.Hushed) (stands : s.rec? h = some r) (active : r.state ≠ .held) (queued : r.state ≠ .queued)
    (placed : r.state ≠ .placed) (k : DevKind) (v : BitVec 24) : ∃ seqr : Vector Position 8,
      s.enterHeld h k v false = State.post (recordEvent .held r.position h r.tag (heldValue r k)) { s with
        seqr := seqr
        store := { s.store with slots := s.store.slots.set h { s.slot h with state := .inUse (r.heldBy k v) } } }
      ∧ ∀ q : PosIx, ∃ b, seqr[q] = { s.pos q with stepEn := b } := by
  rw [enterHeld_hushed hushed stands active queued placed, stopPositionOpt_shape]
  exact ⟨_, rfl, fun q => pos_stopPositionOpt_low r.position (s.setRec h (r.heldBy k v)) q⟩

theorem setSlot_same (stands : s.rec? h = some r) : s.store.slots.set h { s.slot h with state := .inUse r } = s.store.slots := by
  rw [← recOpt_iff.mp stands]
  exact Vector.set_getElem_self h.isLt

/-- The record on position p at the loss of the line: what it becomes, and the event it posts (R47, R111). -/
theorem lostPosition_spec (hushed : s.Hushed) (p : PosIx) : ∃ seqr : Vector Position 8,
    s.lostPosition p = State.postOpt (s.strandedNews p) { s with
      seqr := seqr, store := { s.store with slots := s.strandedSlots p } }
    ∧ ∀ q : PosIx, ∃ b, seqr[q] = { s.pos q with stepEn := b } := by
  cases there : s.working p with
  | none =>
    refine ⟨s.seqr, ?_, fun q => ⟨_, rfl⟩⟩
    simp only [State.lostPosition, State.strandedNews, State.strandedSlots, there]
    rfl
  | some x =>
    obtain ⟨h, r⟩ := x
    have stands : s.rec? h = some r := (working_eq_some.mp there).2.2
    have news : s.strandedNews p = r.strandedKind.map fun x => recordEvent .held r.position h r.tag (heldValue r x.1) := by
      simp only [State.strandedNews, there]
    have slots : s.strandedSlots p = s.store.slots.set h { s.slot h with state := .inUse r.stranded } := by
      simp only [State.strandedSlots, there]
    rw [news, slots]
    by_cases works : r.works
    · obtain ran | waiting : (r.state = .running ∨ r.state = .paused) ∨ r.state = .waiting := or_assoc.mpr works
      · have told : r.strandedKind = some (.lineLost, r.accumulated) := by
          obtain st | st := ran <;> simp [Record.strandedKind, st]
        have acts : s.lostPosition p = s.stepFault p h .lineLost r.accumulated := by
          obtain st | st := ran <;> simp only [State.lostPosition, there, st]
        have other (st : RecState) (away : st ≠ .running ∧ st ≠ .paused) : r.state ≠ st := fun same =>
          ran.elim (fun st' => away.1 (same.symm.trans st')) fun st' => away.2 (same.symm.trans st')
        obtain ⟨seqr, held, pos⟩ := hold_hushed (hushed_updPos hushed p false) stands (other _ (by decide)) (other _ (by decide))
          (other _ (by decide)) .lineLost r.accumulated
        refine ⟨seqr, ?_, fun q => ?_⟩
        · rw [acts, State.stepFault, held, told, stranded_ran ran]
          rfl
        · obtain ⟨b, low⟩ := pos q
          rw [low, pos_updPos]
          split
          · next here => exact ⟨b, here ▸ rfl⟩
          · exact ⟨b, rfl⟩
      · have free : r.resumed.booking = .none := by
          rw [resumed_waiting waiting]
          exact hushed.records h r stands
        have acts : s.lostPosition p = (s.setRec h r.resumed).checkGap h := by
          simp only [State.lostPosition, there, waiting]
          rw [enterChecked_eq stands, resumed_waiting waiting]
        have stands' : (s.setRec h r.resumed).rec? h = some r.resumed := recOpt_setRec_same ..
        have loaded : r.resumed.state = .loaded := by rw [resumed_waiting waiting]
        cases gap : r.resumed.gapExceeded with
        | none =>
          refine ⟨s.seqr, ?_, fun q => ⟨_, rfl⟩⟩
          rw [acts, checkGap_none stands' gap, stranded_waiting_in waiting gap]
          simp only [Record.strandedKind, waiting, gap]
          rfl
        | some g =>
          obtain ⟨seqr, held, pos⟩ := hold_hushed (hushed_setRec hushed free h) stands' (by rw [loaded]; decide)
            (by rw [loaded]; decide) (by rw [loaded]; decide) .gapExceeded g
          refine ⟨seqr, ?_, pos⟩
          rw [acts, checkGap_some stands' gap, held, stranded_waiting_out waiting gap]
          simp only [Record.strandedKind, waiting, gap, Option.map_some, State.postOpt]
          rw [resumed_waiting waiting]
          congr 1
          simp [State.setRec, State.setSlot, State.slot]
    · refine ⟨s.seqr, ?_, fun q => ⟨_, rfl⟩⟩
      rw [strandedKind_idle works, stranded_idle works, setSlot_same stands]
      unfold Record.works at works
      simp only [State.lostPosition, there]
      cases st : r.state <;> simp_all [State.postOpt]

end

end Sys2Proof.Machine
end

section
/-! SUPPORT. All positions at the loss of the line, and the events they post (R47, R111). -/

namespace Sys2Proof.Machine
open Host

section
variable {s t : State} {h : Handle} {r : Record} {p q : PosIx}

/-! ### Posts -/

theorem postOpt_shape (e : Option Event) (s : State) : s.postOpt e = { s with port := (s.postOpt e).port } := by
  cases e with
  | none => rfl
  | some e => exact post_shape e

theorem port_postOpt_congr (port : t.port = s.port) (line : t.mem.line = s.mem.line) (e : Option Event) :
    (t.postOpt e).port = (s.postOpt e).port := by
  cases e with
  | none => exact port
  | some e => exact port_post_congr port line e

theorem port_postOpt_awake (port : t.port = s.port) (awake : t.isActive = true) (awake' : s.isActive = true) (e : Option Event) :
    (t.postOpt e).port = (s.postOpt e).port := by
  have off (u : State) (active : u.isActive = true) : u.mem.line ≠ .saving ∧ u.mem.line ≠ .dormant :=
    ⟨fun line => by simp [State.isActive, line] at active, fun line => by simp [State.isActive, line] at active⟩
  cases e with
  | none => exact port
  | some e =>
    obtain ⟨saves, sleeps⟩ := off t awake
    obtain ⟨saves', sleeps'⟩ := off s awake'
    simp only [State.postOpt]
    rw [post_awake saves sleeps, post_awake saves' sleeps', port]
    split
    · rfl
    · simp only [State.alarm, port]

theorem mem_postOpt (e : Option Event) (s : State) : (s.postOpt e).mem = s.mem := by
  rw [postOpt_shape]

/-- The same events posted in two states that post give the same queue. -/
theorem port_posts {e : PosIx → Option Event} (l : List PosIx) (port : t.port = s.port) (awake : t.isActive = true)
    (awake' : s.isActive = true) : (l.foldl (fun u p => State.postOpt (e p) u) t).port =
      (l.foldl (fun u p => State.postOpt (e p) u) s).port := by
  induction l generalizing s t with
  | nil => exact port
  | cons p l ih =>
    refine ih (port_postOpt_awake port awake awake' (e p)) ?_ ?_
    · rwa [State.isActive, mem_postOpt]
    · rwa [State.isActive, mem_postOpt]

/-! ### The positions one after the other -/

/-- Slot h's plate stands on position p. -/
def State.stands (s : State) (h : Handle) (p : PosIx) : Bool := decide ((s.pos p).state = .occupied) && decide ((s.pos p).link = some h)

theorem stands_iff : s.stands h p = true ↔ (s.pos p).state = .occupied ∧ (s.pos p).link = some h := by
  simp [State.stands]

theorem state_strandedSlots (p : PosIx) (h : Handle) : ((s.strandedSlots p)[h]).state =
    (s.slot h).state.mapRec fun r => if s.stands h p then r.stranded else r := by
  have kept (away : ¬s.stands h p = true) :
      (s.slot h).state.mapRec (fun r => if s.stands h p then r.stranded else r) = (s.slot h).state := by
    cases (s.slot h).state <;> simp [SlotState.mapRec, away]
  unfold State.strandedSlots
  cases there : s.working p with
  | none =>
    cases state : (s.slot h).state with
    | inUse r =>
      have away : ¬s.stands h p = true := fun on => by
        rw [stands_iff] at on
        have := working_eq_some.mpr ⟨on.1, on.2, recOpt_iff.mpr state⟩
        rw [there] at this
        cases this
      rw [← state, kept away]
      rfl
    | reserved => exact state
    | free => exact state
  | some x =>
    obtain ⟨g, r⟩ := x
    obtain ⟨occupied, link, rec_⟩ := working_eq_some.mp there
    dsimp only
    by_cases here : g = h
    · subst here
      rw [recOpt_iff.mp rec_, SlotState.mapRec, if_pos (stands_iff.mpr ⟨occupied, link⟩)]
      simp
    · have away : ¬s.stands h p = true := fun on => here (Option.some.inj (link.symm.trans (stands_iff.mp on).2))
      rw [kept away, Fin.getElem_fin, Vector.getElem_set_ne _ _ fun same => here (Fin.ext same)]
      rfl

theorem waits_strandedSlots (p : PosIx) (h : Handle) : ((s.strandedSlots p)[h]).waits = (s.slot h).waits := by
  unfold State.strandedSlots
  split
  · next g r _ =>
    by_cases here : g = h
    · subst here; simp
    · rw [Fin.getElem_fin, Vector.getElem_set_ne _ _ fun same => here (Fin.ext same)]
      rfl
  · rfl

theorem booking_stranded_none (free : r.booking = .none) : r.stranded.booking = .none := by
  unfold Record.stranded
  cases r.strandedKind with
  | none =>
    dsimp only
    rw [resumed_eq]
    exact free
  | some x => rfl

/-- Every record that stands on a position names it. -/
def State.NamesPositions (s : State) : Prop := ∀ p h r, s.onPosition p h r → r.position = some p

/-- The state that position p's record leaves behind at the loss of the line. -/
structure State.Strands (s t : State) (on : Handle → Bool) : Prop where
  shape : t = { s with seqr := t.seqr, store := { s.store with slots := t.store.slots }, port := t.port }
  seqr : ∀ q, ∃ b, t.pos q = { s.pos q with stepEn := b }
  states : ∀ h, (t.slot h).state = (s.slot h).state.mapRec fun r => if on h then r.stranded else r
  waits : ∀ h, (t.slot h).waits = (s.slot h).waits

theorem strands_lostPosition (hushed : s.Hushed) (p : PosIx) : s.Strands (s.lostPosition p) fun h => s.stands h p := by
  obtain ⟨seqr, lost, pos⟩ := lostPosition_spec hushed p
  rw [lost, postOpt_shape]
  exact ⟨rfl, pos, state_strandedSlots p, waits_strandedSlots p⟩

theorem State.Strands.recOpt {on : Handle → Bool} (strands : s.Strands t on) (h : Handle) :
    t.rec? h = (s.rec? h).map fun r => if on h then r.stranded else r := by
  simp only [State.rec?, strands.states]
  cases (s.slot h).state <;> rfl

theorem State.Strands.stands {on : Handle → Bool} (strands : s.Strands t on) : t.stands = s.stands := by
  funext h p
  obtain ⟨b, low⟩ := strands.seqr p
  simp only [State.stands, low]

theorem State.Strands.hushed {on : Handle → Bool} (strands : s.Strands t on) (hushed : s.Hushed) : t.Hushed := by
  refine ⟨?_, fun p => ?_, fun h => (strands.waits h).trans (hushed.waits h), fun h r here => ?_⟩
  · rw [strands.shape]
    exact hushed.tx
  · obtain ⟨b, low⟩ := strands.seqr p
    rw [low]
    exact hushed.claims p
  · rw [strands.recOpt, Option.map_eq_some_iff] at here
    obtain ⟨x, there, rfl⟩ := here
    have free := hushed.records h x there
    split
    · exact booking_stranded_none free
    · exact free

theorem strands_all (l : List PosIx) (hushed : s.Hushed) : s.Strands (l.foldl State.lostPosition s) fun h => l.any (s.stands h) := by
  induction l generalizing s with
  | nil =>
    refine ⟨rfl, fun q => ⟨_, rfl⟩, fun h => ?_, fun h => rfl⟩
    show (s.slot h).state = _
    cases (s.slot h).state <;> rfl
  | cons p l ih =>
    have step := strands_lostPosition hushed p
    have rest := ih (step.hushed hushed)
    rw [List.foldl_cons]
    refine ⟨?_, fun q => ?_, fun h => ?_, fun h => (rest.waits h).trans (step.waits h)⟩
    · rw [rest.shape, step.shape]
    · obtain ⟨b, low⟩ := rest.seqr q
      obtain ⟨c, low'⟩ := step.seqr q
      exact ⟨b, by rw [low, low']⟩
    · rw [rest.states, step.states, step.stands, List.any_cons]
      cases (s.slot h).state with
      | inUse r =>
        simp only [SlotState.mapRec]
        cases s.stands h p <;> cases l.any (s.stands h) <;> simp [stranded_twice]
      | reserved => rfl
      | free => rfl

/-! ### The events -/

theorem position_stranded (r : Record) : r.stranded.position = r.position := by
  obtain ⟨st, held, ds, over_, booking, exhausted, timer, same⟩ := stranded_spec r
  rw [same]

theorem onPosition_iff : s.onPosition p h r ↔ s.stands h p = true ∧ s.rec? h = some r := by
  rw [stands_iff, and_assoc]
  rfl

theorem State.Strands.names {on : Handle → Bool} (strands : s.Strands t on) (named : s.NamesPositions) : t.NamesPositions := by
  intro p h r here
  rw [onPosition_iff, strands.stands, strands.recOpt, Option.map_eq_some_iff] at here
  obtain ⟨there, x, bears, rfl⟩ := here
  have names := named p h x (onPosition_iff.mpr ⟨there, bears⟩)
  split
  · rw [position_stranded, names]
  · exact names

/-- The news of a position is not touched by what happens on another. -/
theorem strandedNews_lostPosition (hushed : s.Hushed) (named : s.NamesPositions) (other : q ≠ p) :
    (s.lostPosition p).strandedNews q = s.strandedNews q := by
  have strands := strands_lostPosition hushed p
  have same : (s.lostPosition p).working q = s.working q := by
    refine Option.ext fun x => ?_
    obtain ⟨h, r⟩ := x
    rw [working_eq_some, working_eq_some, onPosition_iff, onPosition_iff, strands.stands]
    refine and_congr_right fun here => ?_
    rw [strands.recOpt, Option.map_eq_some_iff]
    have apart (x : Record) (bears : s.rec? h = some x) : s.stands h p = false := by
      rw [← Bool.not_eq_true]
      intro there
      have on := named p h x (onPosition_iff.mpr ⟨there, bears⟩)
      have on' := named q h x (onPosition_iff.mpr ⟨here, bears⟩)
      exact other (Option.some.inj (on'.symm.trans on))
    constructor
    · rintro ⟨x, bears, rfl⟩
      rw [bears, if_neg (by rw [apart x bears]; decide)]
    · intro bears
      exact ⟨r, bears, if_neg (by rw [apart r bears]; decide)⟩
  simp only [State.strandedNews, same]

theorem port_lostPositions {l : List PosIx} (distinct : l.Nodup) (hushed : s.Hushed) (named : s.NamesPositions)
    (port : s.port = t.port) (line : s.mem.line = t.mem.line) : (l.foldl State.lostPosition s).port =
      (l.foldl (fun u p => State.postOpt (s.strandedNews p) u) t).port := by
  induction l generalizing s t with
  | nil => exact port
  | cons p l ih =>
    rw [List.nodup_cons] at distinct
    obtain ⟨alone, distinct⟩ := distinct
    have strands := strands_lostPosition hushed p
    obtain ⟨seqr, lost, -⟩ := lostPosition_spec hushed p
    have posted : (s.lostPosition p).port = (t.postOpt (s.strandedNews p)).port := by
      rw [lost]
      refine port_postOpt_congr ?_ ?_ _
      · exact port
      · exact line
    have line' : (s.lostPosition p).mem.line = (t.postOpt (s.strandedNews p)).mem.line := by
      rw [mem_postOpt, mem_lostPosition, line]
    rw [List.foldl_cons, List.foldl_cons, ih distinct (strands.hushed hushed) (strands.names named) posted line']
    refine congrArg State.port (List.foldl_ext _ _ _ fun u q m => ?_)
    have other : q ≠ p := fun same => alone (same ▸ m)
    rw [strandedNews_lostPosition hushed named other]

end

end Sys2Proof.Machine
end

section
/-! SUPPORT. The detach as a whole (R28, R47, R110, R111, R134, R160). -/

namespace Sys2Proof.Machine
open Host

section
variable {s : State} {h : Handle} {r : Record} {p : PosIx} {l : LineState} {c : Cause}

/-! ### The station off the line, before its positions are treated -/

theorem hushed_lineDropped (s : State) (l : LineState) : (s.lineDropped l).Hushed := by
  obtain ⟨seqr, slots, dropped, pos, states, waits⟩ := lineDropped_spec s l
  rw [dropped]
  refine ⟨rfl, fun p => ?_, waits, fun h r here => ?_⟩
  · have free : (s.clearedAt p).claim = .none := by
      rw [State.clearedAt, Position.clearedOutbound]
      split <;> rfl
    refine (congrArg Position.claim (pos p)).trans ?_
    split
    · exact free
    · exact free
  · have state : slots[h].state = .inUse r := recOpt_iff.mp here
    rw [states] at state
    split at state
    · cases state
    · cases old : (s.slot h).state with
      | inUse x =>
        rw [old] at state
        obtain rfl := SlotState.inUse.inj state
        simp only [Record.loseLine]
        split <;> rfl
      | reserved => rw [old] at state; cases state
      | free => rw [old] at state; cases state

theorem recOpt_lineDropped (stays : s.leavesSlot s.givenUp h = false) (l : LineState) :
    (s.lineDropped l).rec? h = (s.rec? h).map Record.loseLine := by
  obtain ⟨seqr, slots, dropped, -, states, -⟩ := lineDropped_spec s l
  have state := states h
  rw [if_neg (by rw [stays]; decide)] at state
  rw [dropped]
  simp only [State.rec?, State.slot] at state ⊢
  rw [state]
  cases (s.store.slots[h]).state <;> rfl

theorem pos_lineDropped (l : LineState) (p : PosIx) : (s.lineDropped l).pos p =
    if s.leavesAt s.givenUp p then (s.clearedAt p).emptied else s.clearedAt p := by
  obtain ⟨seqr, slots, dropped, pos, -, -⟩ := lineDropped_spec s l
  rw [dropped]
  exact pos p

theorem state_lineDropped (l : LineState) (h : Handle) : ((s.lineDropped l).slot h).state =
    if s.leavesSlot s.givenUp h then .free else (s.slot h).state.mapRec Record.loseLine := by
  obtain ⟨seqr, slots, dropped, -, states, -⟩ := lineDropped_spec s l
  rw [dropped]
  exact states h

theorem leavesAt_false (away : ∀ b ∈ s.bookings, b.position ≠ p) (cond : Booking → Bool) : s.leavesAt cond p = false := by
  simp only [State.leavesAt, List.any_eq_false, Bool.and_eq_true, decide_eq_true_eq, not_and]
  exact fun b m _ => away b m

theorem leavesSlot_false (away : ∀ b ∈ s.bookings, b.slot ≠ h) (cond : Booking → Bool) : s.leavesSlot cond h = false := by
  simp only [State.leavesSlot, List.any_eq_false, Bool.and_eq_true, decide_eq_true_eq, not_and]
  exact fun b m _ => away b m

/-- A position without a reservation, and without an OUTBOUND record, keeps its state and its link (R111). -/
theorem clearedAt_kept (inside : ∀ h r, (s.pos p).link = some h → s.rec? h = some r → r.state ≠ .outbound) :
    (s.clearedAt p).state = (s.pos p).state ∧ (s.clearedAt p).link = (s.pos p).link := by
  have names : linksOutbound s.rec? ({ s.pos p with claim := .none, withdrawing := false, remembered := false } : Position) = false := by
    rw [← Bool.not_eq_true, linksOutbound, Option.any_eq_true]
    rintro ⟨h, link, out⟩
    rw [Option.any_eq_true] at out
    obtain ⟨r, here, outbound⟩ := out
    exact inside h r link here (of_decide_eq_true outbound)
  rw [State.clearedAt, Position.clearedOutbound, names]
  exact ⟨rfl, rfl⟩

theorem clearedAt_outbound (on : s.onPosition p h r) (outbound : r.state = .outbound) :
    (s.clearedAt p).state = .clearing ∧ (s.clearedAt p).link = none := by
  obtain ⟨-, link, here⟩ := on
  have names : linksOutbound s.rec? ({ s.pos p with claim := .none, withdrawing := false, remembered := false } : Position) = true := by
    rw [linksOutbound, link, Option.any_some, here, Option.any_some, decide_eq_true outbound]
  rw [State.clearedAt, Position.clearedOutbound, names]
  exact ⟨rfl, rfl⟩

theorem stands_lineDropped (on : s.onPosition p h r) (inside : r.state ≠ .outbound) (away : ∀ b ∈ s.bookings, b.position ≠ p) :
    (s.lineDropped l).stands h p = true := by
  obtain ⟨occupied, link, here⟩ := on
  have kept := clearedAt_kept (s := s) (p := p) fun g x link' here' => by
    obtain rfl := Option.some.inj (link.symm.trans link')
    obtain rfl := Option.some.inj (here.symm.trans here')
    exact inside
  rw [stands_iff, pos_lineDropped, if_neg (by rw [leavesAt_false away]; decide), kept.1, kept.2]
  exact ⟨occupied, link⟩

/-! ### The positions treated -/

/-- The station off the line with its records treated; the slots are not judged yet, and nothing is placed (R111). -/
def State.lineLost (s : State) (l : LineState) : State := positions.foldl State.lostPosition (s.lineDropped l)

theorem strands_lineLost (s : State) (l : LineState) :
    (s.lineDropped l).Strands (s.lineLost l) fun h => positions.any ((s.lineDropped l).stands h) :=
  strands_all positions (hushed_lineDropped s l)

theorem recOpt_lineLost (stands : s.rec? h = some r) (stays : s.leavesSlot s.givenUp h = false) :
    (s.lineLost l).rec? h = some (if positions.any ((s.lineDropped l).stands h) then r.loseLine.stranded else r.loseLine) := by
  rw [(strands_lineLost s l).recOpt, recOpt_lineDropped stays, stands]
  rfl

theorem State.Strands.rest {t : State} {on : Handle → Bool} (strands : s.Strands t on) : t.arrivalQueue = s.arrivalQueue
    ∧ t.lbi = s.lbi ∧ t.bud = s.bud ∧ t.bookings = s.bookings := by
  rw [strands.shape]
  exact ⟨rfl, rfl, rfl, rfl⟩

theorem rest_lineDropped (s : State) (l : LineState) : (s.lineDropped l).arrivalQueue = s.arrivalQueue
    ∧ (s.lineDropped l).lbi.tx = [] ∧ (s.lineDropped l).lbi.stall = none ∧ (s.lineDropped l).bud = BudgetTable.empty
    ∧ (s.lineDropped l).bookings = s.bookings.filter s.takenOut := by
  obtain ⟨seqr, slots, dropped, -⟩ := lineDropped_spec s l
  have keeps : (s.bookings.filter fun b => !s.givenUp b) = s.bookings.filter s.takenOut :=
    congrArg (fun cond => s.bookings.filter cond) (funext fun b => Bool.not_not _)
  rw [dropped]
  exact ⟨rfl, rfl, rfl, rfl, keeps⟩

theorem arrivalQueue_lineLost (s : State) (l : LineState) : (s.lineLost l).arrivalQueue = s.arrivalQueue :=
  (strands_lineLost s l).rest.1.trans (rest_lineDropped s l).1

theorem postLineState_detached {w : State} (line : w.mem.line = .detached) (c : Cause) :
    ({ w with mem := { w.mem with backoff := some 0 } } : State).postLineState c =
      State.post (stationEvent .lineState (3 * 256 + causeCode c)) { w with mem := { w.mem with backoff := some 0 } } := by
  refine postLineState_eq (l := .detached) ?_ c
  exact line

theorem detach_eq (online : s.isOnLine = true) : s.detach c = State.post (stationEvent .lineState (3 * 256 + causeCode c))
    { (s.lineLost .detached).judgeSlots.placement with
      mem := { (s.lineLost .detached).judgeSlots.placement.mem with backoff := some 0 } } := by
  have line : (s.loseLine .detached).mem.line = .detached := congrArg Membership.line (mem_loseLine .detached)
  rw [loseLine_eq, ← State.lineLost] at line
  rw [State.detach, if_pos online, loseLine_eq, ← State.lineLost]
  exact postLineState_detached line c

/-- A post and a change of the membership unit leave the other parts of the station. -/
theorem parts_posted (e : Event) (w : State) (m : Membership) : (State.post e { w with mem := m }).store = w.store
    ∧ (State.post e { w with mem := m }).seqr = w.seqr ∧ (State.post e { w with mem := m }).lbi = w.lbi
    ∧ (State.post e { w with mem := m }).bud = w.bud ∧ (State.post e { w with mem := m }).bookings = w.bookings := by
  rw [post_shape]
  exact ⟨rfl, rfl, rfl, rfl, rfl⟩

/-- What judging the slots and placing records leave of a state. -/
theorem placed_of_judged (u : State) : (∀ h, h ∉ u.arrivalQueue ∨ u.rec? h = none → (u.judgeSlots.placement.slot h) = u.slot h)
    ∧ (∀ p, (u.pos p).state ≠ .empty → u.judgeSlots.placement.pos p = u.pos p)
    ∧ (∀ p, (u.judgeSlots.placement.pos p).claim = (u.pos p).claim) := by
  have places := places_placement u.judgeSlots
  have shape := judgeSlots_shape u
  have slot (h : Handle) : u.judgeSlots.slot h = u.slot h := by rw [shape]; rfl
  have pos (p : PosIx) : u.judgeSlots.pos p = u.pos p := by rw [shape]; rfl
  have queue : u.judgeSlots.arrivalQueue = u.arrivalQueue := by rw [shape]; rfl
  refine ⟨fun h still => ?_, fun p busy => ?_, fun p => ?_⟩
  · rw [places.slots h (by rw [queue, recOpt_of_slot (slot h)]; exact still), slot]
  · rw [places.seqr p (by rwa [pos]), pos]
  · rw [places.claims, pos]

theorem slot_detach (online : s.isOnLine = true) (still : h ∉ s.arrivalQueue ∨ (s.lineLost .detached).rec? h = none) :
    (s.detach c).slot h = (s.lineLost .detached).slot h := by
  rw [detach_eq online, State.slot, (parts_posted ..).1]
  exact (placed_of_judged (s.lineLost .detached)).1 h (by rwa [arrivalQueue_lineLost])

theorem pos_detach (online : s.isOnLine = true) (busy : ((s.lineLost .detached).pos p).state ≠ .empty) :
    (s.detach c).pos p = (s.lineLost .detached).pos p := by
  rw [detach_eq online, State.pos, (parts_posted ..).2.1]
  exact (placed_of_judged (s.lineLost .detached)).2.1 p busy

theorem claim_detach (online : s.isOnLine = true) (p : PosIx) : ((s.detach c).pos p).claim = .none := by
  rw [detach_eq online, State.pos, (parts_posted ..).2.1]
  refine ((placed_of_judged (s.lineLost .detached)).2.2 p).trans ?_
  exact ((strands_lineLost s .detached).hushed (hushed_lineDropped s .detached)).claims p

theorem rest_judgeSlots (u : State) : u.judgeSlots.lbi = u.lbi ∧ u.judgeSlots.bud = u.bud ∧ u.judgeSlots.bookings = u.bookings := by
  rw [judgeSlots_shape]
  exact ⟨rfl, rfl, rfl⟩

/-- The rest of the station after a detach. -/
theorem parts_detach (online : s.isOnLine = true) : (s.detach c).lbi.tx = [] ∧ (s.detach c).lbi.stall = none
    ∧ (s.detach c).bud = BudgetTable.empty ∧ (s.detach c).bookings = s.bookings.filter s.takenOut := by
  obtain ⟨-, -, lbi, bud, bookings⟩ := parts_posted (stationEvent .lineState (3 * 256 + causeCode c))
    (s.lineLost .detached).judgeSlots.placement { (s.lineLost .detached).judgeSlots.placement.mem with backoff := some 0 }
  obtain ⟨lbi', bud', bookings'⟩ := rest_judgeSlots (s.lineLost .detached)
  obtain ⟨-, lbi'', bud'', bookings''⟩ := (strands_lineLost s .detached).rest
  obtain ⟨-, tx, stall, table, list⟩ := rest_lineDropped s .detached
  rw [detach_eq online, lbi, bud, bookings, lbi_placement, bud_placement, bookings_placement, lbi', bud', bookings', lbi'', bud'',
    bookings'']
  exact ⟨tx, stall, table, list⟩

/-! ### The records after a detach -/

theorem recOpt_detach (online : s.isOnLine = true) (stands : s.rec? h = some r) (away : ∀ b ∈ s.bookings, b.slot ≠ h)
    (unqueued : h ∉ s.arrivalQueue) : (s.detach c).rec? h =
      some (if positions.any ((s.lineDropped .detached).stands h) then r.loseLine.stranded else r.loseLine) := by
  rw [recOpt_of_slot (slot_detach online (.inl unqueued)), recOpt_lineLost stands (leavesSlot_false away _)]

theorem loseLine_inside (inside : r.state ≠ .outbound) : r.loseLine =
    { r with booking := .none, exhausted := false, answerTimer := none, handOffTimer := none, locateTimer := none, carry := none } :=
  if_neg inside

theorem loseLine_outbound (outbound : r.state = .outbound) : r.loseLine =
    { r with booking := .none, exhausted := false, answerTimer := none, handOffTimer := none, locateTimer := none, carry := none
             state := .uncertain, position := none, sentToward := none } :=
  if_pos outbound

/-- What a detach keeps of a record, and what it ends. -/
theorem loseLine_spec (r : Record) : ∃ st position sent, r.loseLine = { r with
    booking := .none, exhausted := false, answerTimer := none, handOffTimer := none, locateTimer := none, carry := none
    state := st, position := position, sentToward := sent } := by
  by_cases outbound : r.state = .outbound
  · exact ⟨_, _, _, loseLine_outbound outbound⟩
  · exact ⟨_, _, _, loseLine_inside outbound⟩

theorem detached_fields (r : Record) (on : Bool) : (if on then r.loseLine.stranded else r.loseLine).tag = r.tag
    ∧ (if on then r.loseLine.stranded else r.loseLine).steps = r.steps
    ∧ (if on then r.loseLine.stranded else r.loseLine).current = r.current
    ∧ (if on then r.loseLine.stranded else r.loseLine).accumulated = r.accumulated
    ∧ (if on then r.loseLine.stranded else r.loseLine).booking = .none
    ∧ (if on then r.loseLine.stranded else r.loseLine).answerTimer = none
    ∧ (if on then r.loseLine.stranded else r.loseLine).handOffTimer = none := by
  obtain ⟨st, position, sent, lost⟩ := loseLine_spec r
  cases on with
  | false =>
    rw [lost]
    exact ⟨rfl, rfl, rfl, rfl, rfl, rfl, rfl⟩
  | true =>
    obtain ⟨st, held, ds, over_, booking, exhausted, timer, stranded⟩ := stranded_spec r.loseLine
    have ended := booking_stranded (r := r.loseLine) (by rw [lost]) (by rw [lost]; exact ⟨rfl, rfl⟩)
    rw [if_pos rfl]
    refine ⟨?_, ?_, ?_, ?_, ended.1, ended.2.2, ?_⟩ <;> rw [stranded, lost]

theorem detached_idle (idle : ¬r.loseLine.works) (on : Bool) :
    (if on then r.loseLine.stranded else r.loseLine) = r.loseLine := by
  rw [stranded_idle idle, ite_self]

theorem works_loseLine (inside : r.state ≠ .outbound) : r.loseLine.works ↔ r.works := by
  rw [loseLine_inside inside]
  rfl

/-! ### The events of a detach -/

/-- Where records, slots and positions fit together, a booked entry leaves the plates and the records alone. -/
theorem Sound.unbooked (sound : Sound s) (on : s.onPosition p h r) :
    (∀ b ∈ s.bookings, b.position ≠ p) ∧ (∀ b ∈ s.bookings, b.slot ≠ h) ∧ r.position = some p := by
  obtain ⟨-, ⟨reserved, booked, -⟩, -, ⟨-, links, -⟩, -⟩ := sound
  obtain ⟨occupied, link, here⟩ := on
  refine ⟨fun b m same => ?_, fun b m same => ?_, ?_⟩
  · have := (booked p).mpr ⟨b, m, same⟩
    rw [occupied] at this
    cases this
  · have := (reserved h).mpr ⟨b, m, same⟩
    rw [recOpt_iff.mp here] at this
    cases this
  · obtain ⟨x, there, position⟩ := (links p h).mp link
    exact Option.some.inj (here.symm.trans there) ▸ position

theorem working_lineDropped (sound : Sound s) (on : s.onPosition p h r) (inside : r.state ≠ .outbound) (l : LineState) :
    (s.lineDropped l).working p = some (h, r.loseLine) := by
  obtain ⟨away, unreserved, -⟩ := sound.unbooked on
  have stands := stands_iff.mp (stands_lineDropped (l := l) on inside away)
  refine working_eq_some.mpr ⟨stands.1, stands.2, ?_⟩
  rw [recOpt_lineDropped (leavesSlot_false unreserved _), on.2.2]
  rfl

theorem onPosition_of_lineDropped {x : Record} (on : (s.lineDropped l).onPosition p h x) :
    ∃ r, s.onPosition p h r ∧ r.state ≠ .outbound ∧ x = r.loseLine := by
  obtain ⟨occupied, link, here⟩ := on
  have stays : s.leavesAt s.givenUp p = false := by
    rw [← Bool.not_eq_true]
    intro leaves
    rw [pos_lineDropped, if_pos leaves] at occupied
    cases occupied
  have keeps : s.leavesSlot s.givenUp h = false := by
    rw [← Bool.not_eq_true]
    intro leaves
    rw [recOpt_iff, state_lineDropped, if_pos leaves] at here
    cases here
  rw [recOpt_lineDropped keeps, Option.map_eq_some_iff] at here
  obtain ⟨r, bears, rfl⟩ := here
  rw [pos_lineDropped, if_neg (by rw [stays]; decide)] at occupied link
  have cleared : linksOutbound s.rec? ({ s.pos p with claim := .none, withdrawing := false, remembered := false } : Position) = false := by
    rw [← Bool.not_eq_true]
    intro names
    rw [State.clearedAt, Position.clearedOutbound, if_pos names] at occupied
    cases occupied
  rw [State.clearedAt, Position.clearedOutbound, cleared] at occupied link
  refine ⟨r, ⟨occupied, link, bears⟩, fun outbound => ?_, rfl⟩
  have names : linksOutbound s.rec? ({ s.pos p with claim := .none, withdrawing := false, remembered := false } : Position) = true := by
    have link' : (s.pos p).link = some h := link
    simp [linksOutbound, link', bears, outbound]
  exact Bool.false_ne_true (cleared.symm.trans names)

theorem names_lineDropped (sound : Sound s) (l : LineState) : (s.lineDropped l).NamesPositions := by
  intro p h x on
  obtain ⟨r, on', inside, rfl⟩ := onPosition_of_lineDropped on
  rw [loseLine_inside inside]
  exact (sound.unbooked on').2.2

end

end Sys2Proof.Machine
end

section
/-! SUPPORT. What a detach leaves of records, reservations and events (R28, R47, R53, R110, R111, R160). -/

namespace Sys2Proof.Machine
open Host

section
variable {s : State} {h : Handle} {r : Record} {p : PosIx} {c : Cause} {g : BitVec 24}

theorem any_stands (on : s.onPosition p h r) (inside : r.state ≠ .outbound) (away : ∀ b ∈ s.bookings, b.position ≠ p) :
    positions.any ((s.lineDropped .detached).stands h) = true :=
  List.any_eq_true.mpr ⟨p, mem_positions p, stands_lineDropped on inside away⟩

/-- What a detach makes of a record that no booking reserves a slot or a position of, and that is not queued. -/
def Record.detached (s : State) (h : Handle) (r : Record) : Record :=
  if positions.any ((s.lineDropped .detached).stands h) then r.loseLine.stranded else r.loseLine

theorem detached_on (on : s.onPosition p h r) (inside : r.state ≠ .outbound) (away : ∀ b ∈ s.bookings, b.position ≠ p) :
    r.detached s h = r.loseLine.stranded := if_pos (any_stands on inside away)

theorem detached_outbound (outbound : r.state = .outbound) : r.detached s h = r.loseLine := by
  refine detached_idle (fun works => ?_) _
  rw [loseLine_outbound outbound] at works
  obtain st | st | st := works <;> cases st

theorem detached_away (idle : ¬r.works) (inside : r.state ≠ .outbound) : r.detached s h = r.loseLine :=
  detached_idle (mt (works_loseLine inside).mp idle) _

/-- A record HELD at the loss of the line with the deviation given (R55, R58). -/
def HeldWith (r x : Record) (from_ : RecState) (k : DevKind) (v : BitVec 24) : Prop :=
  x.state = .held ∧ x.heldFrom = some from_ ∧ x.position = r.position
    ∧ (r.deviations.length < 4 → x.overflow = r.overflow
      ∧ x.deviations = r.deviations ++ [{ kind := k, stepIndex := r.current, value := v }])
    ∧ (4 ≤ r.deviations.length → x.overflow = true ∧ x.deviations = r.deviations)

theorem heldWith_heldBy (r : Record) (k : DevKind) (v : BitVec 24) : HeldWith r (r.heldBy k v) r.state k v := by
  rw [heldBy_eq]
  refine ⟨rfl, rfl, rfl, fun room => ⟨if_pos room, if_pos room⟩, fun full => ⟨if_neg (by omega), if_neg (by omega)⟩⟩

theorem detached_ran (on : s.onPosition p h r) (away : ∀ b ∈ s.bookings, b.position ≠ p)
    (ran : r.state = .running ∨ r.state = .paused) : HeldWith r (r.detached s h) r.state .lineLost r.accumulated := by
  have inside : r.state ≠ .outbound := fun st => by rw [st] at ran; exact ran.elim nofun nofun
  have lost := loseLine_inside inside
  rw [detached_on on inside away, stranded_ran (by rw [lost]; exact ran), lost]
  exact heldWith_heldBy { r with
    booking := .none, exhausted := false, answerTimer := none, handOffTimer := none, locateTimer := none, carry := none } _ _

theorem resumed_loseLine (waiting : r.state = .waiting) : r.loseLine.resumed = { r with
    state := .loaded, booking := .none, exhausted := false, answerTimer := none, handOffTimer := none, locateTimer := none
    carry := none } := by
  have lost := loseLine_inside (r := r) (by rw [waiting]; decide)
  rw [resumed_waiting (by rw [lost]; exact waiting), lost]

theorem waiting_loseLine (waiting : r.state = .waiting) : r.loseLine.state = .waiting := by
  rw [loseLine_inside (by rw [waiting]; decide)]
  exact waiting

theorem gap_resumed (waiting : r.state = .waiting) :
    r.loseLine.resumed.gapExceeded = ({ r with state := .loaded } : Record).gapExceeded := by
  rw [resumed_loseLine waiting]
  rfl

theorem detached_waiting_in (on : s.onPosition p h r) (away : ∀ b ∈ s.bookings, b.position ≠ p) (waiting : r.state = .waiting)
    (inside : ({ r with state := .loaded } : Record).gapExceeded = none) :
    (r.detached s h).state = .loaded ∧ (r.detached s h).deviations = r.deviations ∧ (r.detached s h).overflow = r.overflow := by
  rw [detached_on on (by rw [waiting]; decide) away,
    stranded_waiting_in (waiting_loseLine waiting) ((gap_resumed waiting).trans inside), resumed_loseLine waiting]
  exact ⟨rfl, rfl, rfl⟩

theorem detached_waiting_out (on : s.onPosition p h r) (away : ∀ b ∈ s.bookings, b.position ≠ p) (waiting : r.state = .waiting)
    (beyond : ({ r with state := .loaded } : Record).gapExceeded = some g) :
    HeldWith r (r.detached s h) .loaded .gapExceeded g := by
  rw [detached_on on (by rw [waiting]; decide) away,
    stranded_waiting_out (waiting_loseLine waiting) ((gap_resumed waiting).trans beyond), resumed_loseLine waiting]
  exact heldWith_heldBy { r with
    state := .loaded, booking := .none, exhausted := false, answerTimer := none, handOffTimer := none, locateTimer := none
    carry := none } _ _

/-! ### The events and the reservations -/

/-- The HELD event of the record on position p at a detach, with the deviation's code (R47, R53). -/
def State.detachNews (s : State) (p : PosIx) : Option Event :=
  match s.working p with
  | some (h, r) =>
    if r.state = .running ∨ r.state = .paused then
      some (recordEvent .held (some p) h r.tag (6 + if r.deviations.length < 4 then 0 else 256))
    else if r.state = .waiting ∧ ({ r with state := .loaded } : Record).gapExceeded ≠ none then
      some (recordEvent .held (some p) h r.tag (1 + if r.deviations.length < 4 then 0 else 256))
    else none
  | none => none

theorem strandedNews_lineDropped (sound : Sound s) (p : PosIx) : (s.lineDropped .detached).strandedNews p = s.detachNews p := by
  cases there : s.working p with
  | none =>
    have none_ : (s.lineDropped .detached).working p = none := by
      rw [Option.eq_none_iff_forall_ne_some]
      rintro ⟨h, x⟩ works
      obtain ⟨r, on, -⟩ := onPosition_of_lineDropped (working_eq_some.mp works)
      rw [working_eq_some.mpr on] at there
      cases there
    simp only [State.strandedNews, State.detachNews, there, none_]
  | some x =>
    obtain ⟨h, r⟩ := x
    have on := working_eq_some.mp there
    by_cases outbound : r.state = .outbound
    · have none_ : (s.lineDropped .detached).working p = none := by
        rw [Option.eq_none_iff_forall_ne_some]
        rintro ⟨g, x⟩ works
        obtain ⟨y, on', inside, -⟩ := onPosition_of_lineDropped (working_eq_some.mp works)
        obtain rfl : g = h := Option.some.inj (on'.2.1.symm.trans on.2.1)
        obtain rfl : y = r := Option.some.inj (on'.2.2.symm.trans on.2.2)
        exact inside outbound
      simp [State.strandedNews, State.detachNews, there, none_, outbound]
    · have position : r.position = some p := (sound.unbooked on).2.2
      have lost := loseLine_inside outbound
      have works := working_lineDropped sound on outbound .detached
      simp only [State.strandedNews, State.detachNews, there, works]
      by_cases ran : r.state = .running ∨ r.state = .paused
      · have told : r.loseLine.strandedKind = some (.lineLost, r.accumulated) := by
          rw [lost]
          obtain st | st := ran <;> simp [Record.strandedKind, st]
        rw [if_pos ran, told, Option.map_some, lost, position]
        rfl
      · rw [if_neg ran]
        by_cases waiting : r.state = .waiting
        · have told : r.loseLine.strandedKind = ({ r with state := .loaded } : Record).gapExceeded.map fun g => (.gapExceeded, g) := by
            rw [← gap_resumed waiting]
            simp only [Record.strandedKind, waiting_loseLine waiting]
          rw [told]
          cases gap : ({ r with state := .loaded } : Record).gapExceeded with
          | none => simp
          | some g =>
            rw [if_pos ⟨waiting, by simp⟩, lost, position]
            rfl
        · have idle : ¬r.works := fun works => works.elim (fun st => ran (.inl st)) fun works => works.elim (fun st => ran (.inr st)) waiting
          rw [if_neg fun both => waiting both.1, strandedKind_idle (mt (works_loseLine outbound).mp idle)]
          rfl

theorem port_lineLost (online : s.isOnLine = true) (sound : Sound s) :
    (s.lineLost .detached).port = (positions.foldl (fun u p => State.postOpt (s.detachNews p) u) s).port := by
  have news : (s.lineDropped .detached).strandedNews = s.detachNews := funext fun p => strandedNews_lineDropped sound p
  obtain ⟨seqr, slots, dropped, -⟩ := lineDropped_spec s .detached
  have port : (s.lineDropped .detached).port = s.port := by rw [dropped]
  have line : (s.lineDropped .detached).mem.line = .detached := by rw [dropped]; rfl
  rw [State.lineLost, port_lostPositions nodup_positions (hushed_lineDropped s .detached) (names_lineDropped sound .detached) rfl rfl, news]
  refine port_posts positions port ?_ ?_
  · simp [State.isActive, line]
  · obtain joining | joined := isOnLine_iff.mp online
    · simp [State.isActive, joining]
    · exact isActive_of_joined joined

theorem State.Strands.place {t : State} {on : Handle → Bool} (strands : s.Strands t on) (p : PosIx) :
    (t.pos p).state = (s.pos p).state ∧ (t.pos p).link = (s.pos p).link := by
  obtain ⟨b, low⟩ := strands.seqr p
  rw [low]
  exact ⟨rfl, rfl⟩

theorem state_lineLost (l : LineState) (p : PosIx) : ((s.lineLost l).pos p).state = ((s.lineDropped l).pos p).state
    ∧ ((s.lineLost l).pos p).link = ((s.lineDropped l).pos p).link :=
  (strands_lineLost s l).place p

theorem slot_lineLost (l : LineState) (unused : ∀ r, ((s.lineDropped l).slot h).state ≠ .inUse r) :
    ((s.lineLost l).slot h).state = ((s.lineDropped l).slot h).state := by
  rw [(strands_lineLost s l).states]
  cases state : ((s.lineDropped l).slot h).state with
  | inUse r => exact absurd state (unused r)
  | reserved => rfl
  | free => rfl

/-- An entry of the booking list that the loss of the line takes away. -/
theorem entry_gone {b : Booking} (m : b ∈ s.bookings) (out : s.takenOut b = false) : s.leavesAt s.givenUp b.position = true
    ∧ s.leavesSlot s.givenUp b.slot = true := by
  refine ⟨List.any_eq_true.mpr ⟨b, m, ?_⟩, List.any_eq_true.mpr ⟨b, m, ?_⟩⟩ <;> simp [State.givenUp, out]

/-- An entry that stays, in a list with one entry to a slot and to a position. -/
theorem entry_stays {b : Booking} (m : b ∈ s.bookings) (stays : s.takenOut b = true) (slots : (s.bookings.map fun b => b.slot).Nodup)
    (places : (s.bookings.map fun b => b.position).Nodup) : s.leavesAt s.givenUp b.position = false
      ∧ s.leavesSlot s.givenUp b.slot = false := by
  constructor
  · simp only [State.leavesAt, List.any_eq_false, Bool.and_eq_true, decide_eq_true_eq, not_and]
    intro x mx gone same
    rw [List.inj_on_of_nodup_map places mx m same, State.givenUp, stays] at gone
    cases gone
  · simp only [State.leavesSlot, List.any_eq_false, Bool.and_eq_true, decide_eq_true_eq, not_and]
    intro x mx gone same
    rw [List.inj_on_of_nodup_map slots mx m same, State.givenUp, stays] at gone
    cases gone

end

/-- Settles O36. -/
theorem detachLosesLine : Obligations.DetachLosesLine := by
  intro c s line t
  have online : s.isOnLine = true := isOnLine_iff.mpr line
  obtain ⟨tx, stall, bud, bookings⟩ := parts_detach (c := c) online
  have mem : t.mem = { s.mem.offLine .detached with backoff := some 0 } := mem_detach online
  refine ⟨by rw [mem]; rfl, by rw [mem], tx, stall, bud, claim_detach online, fun a => ?_, by rw [mem]; rfl, by rw [mem]; rfl,
    by rw [mem]; rfl, by rw [mem]; rfl, bookings, fun h r stands free unqueued => ?_, fun sound => ?_⟩
  · rw [State.peer, mem]
    simp [Membership.offLine, Membership.initial, Peer.blank]
  · have away : ∀ b ∈ s.bookings, b.slot ≠ h := fun b m => (free b m).1
    have clear (p : PosIx) (on : s.onPosition p h r) : ∀ b ∈ s.bookings, b.position ≠ p := fun b m same => (free b m).2 (same ▸ on)
    obtain ⟨tag, steps, current, accumulated, booking, answer, handOff⟩ :=
      detached_fields r (positions.any ((s.lineDropped .detached).stands h))
    refine ⟨r.detached s h, recOpt_detach online stands away unqueued, tag, steps, current, accumulated, booking, answer, handOff,
      fun outbound => ?_, fun p on outbound => ?_, fun p on ran => detached_ran on (clear p on) ran,
      fun p on waiting => ⟨detached_waiting_in on (clear p on) waiting, fun g beyond => ?_⟩, fun outbound running paused waiting => ?_⟩
    · rw [detached_outbound outbound, loseLine_outbound outbound]
      exact ⟨rfl, rfl, rfl⟩
    · obtain ⟨state, link⟩ := clearedAt_outbound on outbound
      obtain ⟨state', link'⟩ := state_lineLost (s := s) .detached p
      have stays : ¬s.leavesAt s.givenUp p = true := by rw [leavesAt_false (clear p on)]; decide
      rw [pos_lineDropped, if_neg stays] at state' link'
      have busy : ((s.lineLost .detached).pos p).state ≠ .empty := by rw [state', state]; decide
      rw [pos_detach online busy, state', link']
      exact ⟨state, link⟩
    · obtain ⟨held, from_, -, room, full⟩ := detached_waiting_out on (clear p on) waiting beyond
      exact ⟨held, from_, room, full⟩
    · have idle : ¬r.works := fun works => works.elim running fun works => works.elim paused waiting
      rw [detached_away idle outbound, loseLine_inside outbound]
  · intro told
    obtain ⟨-, ⟨reserved, booked, slots, places, -⟩, -, ⟨linked, -, -⟩, -⟩ := id sound
    have dropped (b : Booking) (m : b ∈ s.bookings) (out : s.takenOut b = false) :
        ((s.lineDropped .detached).slot b.slot).state = .free ∧ ((s.lineDropped .detached).pos b.position).state = .empty := by
      obtain ⟨place, slot⟩ := entry_gone m out
      rw [state_lineDropped, if_pos slot, pos_lineDropped, if_pos place]
      exact ⟨rfl, rfl⟩
    refine ⟨fun b m => ⟨fun out => ?_, fun stays => ?_⟩, s.lineLost .detached, detach_eq online, ?_, arrivalQueue_lineLost s _,
      fun b m out => (state_lineLost _ _).1.trans (dropped b m out).2, fun p unbooked inside => ?_⟩
    · have free : ((s.lineLost .detached).slot b.slot).state = .free := by
        rw [slot_lineLost _ fun r => by rw [(dropped b m out).1]; exact nofun]
        exact (dropped b m out).1
      rw [slot_detach online (.inr (by simp only [State.rec?, free]))]
      exact free
    · obtain ⟨place, slot⟩ := entry_stays m stays slots places
      have held : ((s.lineDropped .detached).slot b.slot).state = .reserved := by
        rw [state_lineDropped, if_neg (by rw [slot]; decide), (reserved b.slot).mpr ⟨b, m, rfl⟩]
        rfl
      have held' : ((s.lineLost .detached).slot b.slot).state = .reserved := by
        rw [slot_lineLost _ fun r => by rw [held]; exact nofun]
        exact held
      have at_ : (s.pos b.position).state = .booked := (booked b.position).mpr ⟨b, m, rfl⟩
      have kept := clearedAt_kept (s := s) (p := b.position) fun h r link _ => by
        have := (linked b.position).mp (by rw [link]; exact nofun)
        rw [at_] at this
        exact this.elim nofun nofun
      have stood : ((s.lineLost .detached).pos b.position).state = .booked := by
        rw [(state_lineLost _ _).1, pos_lineDropped, if_neg (by rw [place]; decide), kept.1, at_]
      rw [slot_detach online (.inr (by simp only [State.rec?, held'])), pos_detach online (by rw [stood]; decide)]
      exact ⟨held', stood⟩
    · have same : told = fun u p => State.postOpt (s.detachNews p) u := by
        funext u p
        simp only [told, State.detachNews]
        cases s.working p with
        | none => rfl
        | some x =>
          dsimp only
          split
          · rfl
          · split
            · rfl
            · rfl
      rw [same]
      exact port_lineLost online sound
    · have stays : ¬s.leavesAt s.givenUp p = true := by rw [leavesAt_false unbooked]; decide
      obtain ⟨state, link⟩ := state_lineLost (s := s) .detached p
      rw [state, link, pos_lineDropped, if_neg stays]
      exact clearedAt_kept inside

end Sys2Proof.Machine
end

section
/-! SUPPORT. What work on one record leaves alone: the other slots, the other origins, a TAKEN in transmission (R86, R88). -/

namespace Sys2Proof.Machine
open Host

/-- An origin that work on slot h's record may use: the slot's, or a position's. -/
def Origin.servesSlot (h : Handle) (o : Origin) : Prop := o = .slot h ∨ ∃ p, o = .position p

/-- In t, work has been done on the record of slot h in s. -/
structure State.WorksOn (h : Handle) (s t : State) : Prop where
  slots : ∀ g, g ≠ h → t.slot g = s.slot g
  inUse : s.rec? h ≠ none → t.rec? h ≠ none
  frames : ∀ o, ¬Origin.servesSlot h o → t.framesOf o = s.framesOf o
  inTx : t.lbi.inTx = s.lbi.inTx
  taken : ∀ f : Frame, f.kind = .taken → (t.frameOut = some f ↔ s.frameOut = some f)
  queues : t.store.rushQueue = s.store.rushQueue ∧ t.store.ordinaryQueue = s.store.ordinaryQueue
  events : s.port.events <+: t.port.events
  places : ∀ p, (t.pos p).state = (s.pos p).state ∧ (t.pos p).link = (s.pos p).link

section
variable {h : Handle} {s t u : State} {o : Origin} {p : PosIx} {r : Record} {k : FrameKind}

theorem State.WorksOn.refl (h : Handle) (s : State) : s.WorksOn h s :=
  ⟨fun _ _ => rfl, id, fun _ _ => rfl, rfl, fun _ _ => Iff.rfl, ⟨rfl, rfl⟩, List.prefix_rfl, fun _ => ⟨rfl, rfl⟩⟩

theorem State.WorksOn.trans (first : s.WorksOn h t) (then_ : t.WorksOn h u) : s.WorksOn h u where
  slots g other := (then_.slots g other).trans (first.slots g other)
  inUse stands := then_.inUse (first.inUse stands)
  frames o away := (then_.frames o away).trans (first.frames o away)
  inTx := then_.inTx.trans first.inTx
  taken f kind := (then_.taken f kind).trans (first.taken f kind)
  queues := ⟨then_.queues.1.trans first.queues.1, then_.queues.2.trans first.queues.2⟩
  events := first.events.trans then_.events
  places p := ⟨(then_.places p).1.trans (first.places p).1, (then_.places p).2.trans (first.places p).2⟩

theorem frameOut_eq (s : State) : s.frameOut = match s.lbi.inTx with
    | .listed o => (s.framesOf o).head?.map (·.frame)
    | .orphan f => some f
    | .idle => none := by
  rw [State.frameOut]
  split <;> simp only [txEntry_eq_head, *]

theorem frameOut_of_lbi (lbi : t.lbi = s.lbi) : t.frameOut = s.frameOut := by
  simp only [State.frameOut, State.txEntry, lbi]

/-- A change that leaves the transmit list alone. -/
theorem worksOn_of_lbi (slots : ∀ g, g ≠ h → t.slot g = s.slot g) (inUse : s.rec? h ≠ none → t.rec? h ≠ none)
    (lbi : t.lbi = s.lbi) (rush : t.store.rushQueue = s.store.rushQueue) (ordinary : t.store.ordinaryQueue = s.store.ordinaryQueue)
    (events : s.port.events <+: t.port.events)
    (places : ∀ p, (t.pos p).state = (s.pos p).state ∧ (t.pos p).link = (s.pos p).link) : s.WorksOn h t where
  slots := slots
  inUse := inUse
  frames o _ := framesOf_of_tx (by rw [lbi])
  inTx := by rw [lbi]
  taken f _ := by rw [frameOut_of_lbi lbi]
  queues := ⟨rush, ordinary⟩
  events := events
  places := places

/-- A change of the transmit list alone. -/
theorem worksOn_of_tx (store : t.store = s.store) (seqr : t.seqr = s.seqr) (port : t.port = s.port) (inTx : t.lbi.inTx = s.lbi.inTx)
    (frames : ∀ o, ¬Origin.servesSlot h o → t.framesOf o = s.framesOf o)
    (out : ∀ o, s.lbi.inTx = .listed o → ∀ f : Frame, f.kind = .taken →
      ((t.framesOf o).head?.map (·.frame) = some f ↔ (s.framesOf o).head?.map (·.frame) = some f)) : s.WorksOn h t where
  slots g _ := by simp only [State.slot, store]
  inUse := by simp only [State.rec?, State.slot, store]; exact id
  frames := frames
  inTx := inTx
  taken f kind := by
    rw [frameOut_eq, frameOut_eq, inTx]
    split
    · next o listed => exact out o listed f kind
    · exact Iff.rfl
    · exact Iff.rfl
  queues := by rw [store]; exact ⟨rfl, rfl⟩
  events := by rw [port]
  places p := by simp only [State.pos, seqr, and_self]

/-! ### The single changes -/

theorem worksOn_setRec (r : Record) (s : State) : s.WorksOn h (s.setRec h r) :=
  worksOn_of_lbi (fun g other => by rw [slot_setRec, if_neg other.symm]) (fun _ => by rw [recOpt_setRec_same]; exact nofun) rfl rfl rfl
    List.prefix_rfl fun p => ⟨rfl, rfl⟩

theorem worksOn_updRec (f : Record → Record) (s : State) : s.WorksOn h (s.updRec h f) := by
  unfold State.updRec
  split
  · exact worksOn_setRec _ s
  · exact .refl h s

theorem worksOn_setWaits (ws : List SlotWait) (s : State) : s.WorksOn h (s.setWaits h ws) :=
  worksOn_of_lbi (fun g other => by rw [State.setWaits, slot_setSlot, if_neg other.symm]) (by rw [recOpt_setWaits]; exact id) rfl rfl rfl
    List.prefix_rfl fun p => ⟨rfl, rfl⟩

theorem worksOn_post (e : Event) (s : State) : s.WorksOn h (s.post e) :=
  worksOn_of_lbi (fun g _ => by rw [post_shape]; rfl) (by rw [recOpt_post]; exact id) (by rw [post_shape]) (by rw [post_shape])
    (by rw [post_shape]) (events_post_prefix e s) fun p => by rw [pos_post]; exact ⟨rfl, rfl⟩

theorem worksOn_updPos {f : Position → Position} (state : (f (s.pos p)).state = (s.pos p).state)
    (link : (f (s.pos p)).link = (s.pos p).link) : s.WorksOn h (s.updPos p f) := by
  refine worksOn_of_lbi (fun g _ => rfl) (fun stands => stands) rfl rfl rfl List.prefix_rfl fun q => ?_
  rw [pos_updPos]
  split
  · next here => exact here ▸ ⟨state, link⟩
  · exact ⟨rfl, rfl⟩

theorem worksOn_queueFrame (serves : Origin.servesSlot h o) (f : Frame) (kind : f.kind ≠ .taken) (s : State) :
    s.WorksOn h (s.queueFrame o f) := by
  refine worksOn_of_tx (by simp) (by simp) (by simp) (by simp) (fun u away => ?_) fun u _ g taken => ?_
  · exact framesOf_queueFrame_ne f fun same => away (same ▸ serves)
  · rw [framesOf_queueFrame]
    split
    · next new =>
      obtain ⟨rfl, free⟩ := new
      rw [txHas_false_iff.mp free]
      refine ⟨fun sent => absurd ?_ kind, nofun⟩
      obtain rfl : f = g := Option.some.inj sent
      exact taken
    · exact Iff.rfl

theorem worksOn_withdrawTx (serves : Origin.servesSlot h o) (s : State) : s.WorksOn h (s.withdrawTx o) := by
  refine worksOn_of_tx (by simp) (by simp) (by simp) (by simp) (fun u away => ?_) fun u listed g _ => ?_
  · rw [framesOf_withdrawTx, if_neg fun same : o = u => away (same ▸ serves)]
  · rw [framesOf_withdrawTx]
    split
    · next same =>
      rw [if_pos (sending_iff.mpr (same ▸ listed)), List.head?_map, Option.map_map]
      rfl
    · exact Iff.rfl

theorem worksOn_removeTx (serves : Origin.servesSlot h o) (idle : ¬s.sending o = true) : s.WorksOn h (s.removeTx o) := by
  have same : s.withdrawTx o = s.removeTx o := if_neg idle
  exact same ▸ worksOn_withdrawTx serves s

/-! ### The frames of a slot's origin -/

theorem kind_wait (w : SlotWait) : w.kind ≠ .taken := by cases w <;> exact nofun

theorem worksOn_pumpSlot (s : State) : s.WorksOn h (s.pumpSlot h) := by
  rw [State.pumpSlot]
  split
  · exact .refl h s
  · obtain none | ⟨front, w, rest, f, split_, none, composed⟩ := waits_split s h (s.slot h).waits
    · rw [pumpWaits_none none]
      exact worksOn_setWaits [] s
    · rw [split_, pumpWaits_append none composed]
      exact (worksOn_setWaits rest s).trans (worksOn_queueFrame (.inl rfl) f (by rw [kind_composeWait composed]; exact kind_wait w) _)

theorem worksOn_sendSlot (w : SlotWait) (s : State) : s.WorksOn h (s.sendSlot h w) :=
  (worksOn_setWaits _ s).trans (worksOn_pumpSlot _)

theorem worksOn_dropWaits (w : SlotWait) (s : State) : s.WorksOn h (s.dropWaits h w) := worksOn_setWaits _ s

theorem worksOn_withdrawSlot (k : FrameKind) (s : State) : s.WorksOn h (s.withdrawSlot h k) := by
  unfold State.withdrawSlot
  split
  · split
    · exact (worksOn_withdrawTx (.inl rfl) s).trans (worksOn_pumpSlot _)
    · exact .refl h s
  · exact .refl h s

theorem worksOn_withdrawBooks (s : State) : s.WorksOn h (s.withdrawBooks h) :=
  ((worksOn_dropWaits .book s).trans (worksOn_dropWaits .renewal _)).trans (worksOn_withdrawSlot .book _)

/-! ### Claims -/

theorem worksOn_setClaim (p : PosIx) (c : ClaimState) (s : State) : s.WorksOn h (s.setClaim p c) := worksOn_updPos rfl rfl

theorem worksOn_setRemembered (p : PosIx) (b : Bool) (s : State) : s.WorksOn h (s.setRemembered p b) := worksOn_updPos rfl rfl

theorem worksOn_queueClaim (p : PosIx) (s : State) : s.WorksOn h (s.queueClaim p) :=
  (worksOn_queueFrame (.inr ⟨p, rfl⟩) (claimFrame p s.conf.items.draws[p]) (show FrameKind.claim ≠ .taken by decide) s).trans
    (worksOn_setClaim p _ _)

theorem worksOn_queueRelease (p : PosIx) (s : State) : s.WorksOn h (s.queueRelease p) :=
  (worksOn_queueFrame (.inr ⟨p, rfl⟩) (releaseFrame p) (show FrameKind.release ≠ .taken by decide) s).trans
    (worksOn_setClaim p _ _)

theorem worksOn_askClaim (p : PosIx) (s : State) : s.WorksOn h (s.askClaim p) := by
  unfold State.askClaim
  split
  · exact worksOn_queueClaim p s
  · split
    · exact worksOn_setRemembered p true s
    · exact .refl h s
  · exact worksOn_setRemembered p true s
  · exact .refl h s
  · exact .refl h s

theorem worksOn_giveUpClaim (p : PosIx) (s : State) : s.WorksOn h (s.giveUpClaim p) := by
  unfold State.giveUpClaim
  split
  · exact .refl h s
  · split
    · exact worksOn_setRemembered p false s
    · split
      · exact (worksOn_withdrawTx (.inr ⟨p, rfl⟩) s).trans (worksOn_updPos rfl rfl)
      · next idle => exact (worksOn_removeTx (.inr ⟨p, rfl⟩) idle).trans (worksOn_setClaim p .none _)
  · exact worksOn_queueRelease p s
  · exact worksOn_queueRelease p s
  · exact worksOn_setRemembered p false s

theorem worksOn_giveUpClaimOpt (p : Option PosIx) (s : State) : s.WorksOn h (s.giveUpClaim? p) := by
  cases p with
  | none => exact .refl h s
  | some p => exact worksOn_giveUpClaim p s

theorem worksOn_stopPositionOpt (p : Option PosIx) (s : State) : s.WorksOn h (s.stopPosition? p) := by
  cases p with
  | none => exact .refl h s
  | some p => exact worksOn_updPos (f := fun x => { x with stepEn := false }) rfl rfl

/-! ### Rounds and holds -/

theorem worksOn_roundFrom (k : Nat) (s : State) : s.WorksOn h (s.roundFrom h k) := by
  cases stands : s.rec? h with
  | none =>
    rw [State.roundFrom, stands]
    exact .refl h s
  | some r =>
    cases asks : s.candidateOf r k with
    | none =>
      rw [roundFrom_none stands asks]
      exact worksOn_setRec _ s
    | some x =>
      rw [roundFrom_some stands asks]
      exact (worksOn_setRec _ s).trans (worksOn_sendSlot .book _)

theorem worksOn_startRound (s : State) : s.WorksOn h (s.startRound h) := by
  cases stands : s.rec? h with
  | none =>
    rw [State.startRound, stands]
    exact .refl h s
  | some r =>
    rw [startRound_eq stands]
    split
    · exact worksOn_roundFrom 1 s
    · exact .refl h s

theorem worksOn_failCandidate (s : State) : s.WorksOn h (s.failCandidate h) := by
  unfold State.failCandidate
  split
  · exact .refl h s
  · split
    · exact (worksOn_dropWaits .book s).trans (worksOn_roundFrom _ _)
    · exact .refl h s
    · exact .refl h s

theorem worksOn_endBooking (s : State) : s.WorksOn h (s.endBooking h) := by
  cases stands : s.rec? h with
  | none =>
    rw [State.endBooking, stands]
    exact .refl h s
  | some r =>
    have ended := (worksOn_setRec r.unbooked s).trans (worksOn_withdrawBooks (h := h) _)
    rw [endBooking_eq stands]
    split
    · exact ended
    · exact ended
    · exact ended.trans (worksOn_sendSlot _ _)

theorem worksOn_enterHeld (kind : DevKind) (v : BitVec 24) (stands : s.rec? h = some r) (queued : r.state ≠ .queued)
    (placed : r.state ≠ .placed) : s.WorksOn h (s.enterHeld h kind v false) := by
  by_cases held : r.state = .held
  · have same : s.enterHeld h kind v false = s := by simp [State.enterHeld, stands, held]
    rw [same]
    exact .refl h s
  · rw [enterHeld_eq kind v false stands held]
    have here : s.WorksOn h (s.heldHere h kind v r) :=
      ((worksOn_setRec _ s).trans (worksOn_giveUpClaimOpt r.position _)).trans (worksOn_stopPositionOpt r.position _)
    simp only [Bool.false_or, placed, decide_false, Bool.false_eq_true, if_false, State.heldAway, queued]
    exact (here.trans (worksOn_endBooking _)).trans (worksOn_post _ _)

theorem worksOn_checkGap (s : State) : s.WorksOn h (s.checkGap h) := by
  cases stands : s.rec? h with
  | none =>
    rw [State.checkGap, stands]
    exact .refl h s
  | some r =>
    cases gap : r.gapExceeded with
    | none =>
      rw [checkGap_none stands gap]
      exact .refl h s
    | some g =>
      obtain ⟨e, m, -, -, governs⟩ := (gapExceeded_iff.mp gap).2.2.2
      have checked := (governs_iff.mp governs).1
      rw [checkGap_some stands gap]
      refine worksOn_enterHeld .gapExceeded g stands (fun st => ?_) fun st => ?_
      · rw [st] at checked; cases checked
      · rw [st] at checked; cases checked

theorem worksOn_enterChecked (st : RecState) (s : State) : s.WorksOn h (s.enterChecked h st) :=
  (worksOn_updRec _ s).trans (worksOn_checkGap _)

theorem worksOn_judgeReady (s : State) : s.WorksOn h (s.judgeReady h) := by
  unfold State.judgeReady
  split
  · exact .refl h s
  · split
    · split
      · exact (worksOn_setRec _ s).trans (worksOn_askClaim _ _)
      · exact .refl h s
    · exact .refl h s

theorem worksOn_enterLoaded (s : State) : s.WorksOn h (s.enterLoaded h) :=
  ((worksOn_enterChecked .loaded s).trans (worksOn_startRound _)).trans (worksOn_judgeReady _)

/-! ### Transfers and dropped bookings -/

theorem worksOn_startTransfer (s : State) : s.WorksOn h (s.startTransfer h) := by
  unfold State.startTransfer
  split
  · exact .refl h s
  · exact (worksOn_setRec _ s).trans (worksOn_sendSlot .part _)

theorem worksOn_stopTransfer (s : State) : s.WorksOn h (s.stopTransfer h) :=
  ((worksOn_dropWaits .part s).trans (worksOn_withdrawSlot .carry _)).trans (worksOn_updRec _ _)

theorem worksOn_enterEnded (s : State) : s.WorksOn h (s.enterEnded h) := by
  have checked := worksOn_enterChecked (h := h) .ended s
  unfold State.enterEnded
  dsimp only
  split
  · split
    · split
      · exact checked.trans (worksOn_startTransfer _)
      · exact checked.trans (worksOn_startRound _)
      · exact checked
    · exact checked
  · exact checked

theorem worksOn_dropBooking (s : State) : s.WorksOn h (s.dropBooking h) := by
  unfold State.dropBooking
  split
  · exact .refl h s
  · next r _ =>
    have dropped := worksOn_setRec (h := h) { r with booking := .none, exhausted := false } s
    dsimp only
    split
    · exact dropped
    · exact dropped
    · exact dropped.trans (worksOn_enterLoaded _)
    · exact (dropped.trans (worksOn_giveUpClaimOpt _ _)).trans (worksOn_enterLoaded _)
    · exact dropped.trans (worksOn_enterEnded _)
    · exact (dropped.trans (worksOn_stopTransfer _)).trans (worksOn_enterEnded _)
    all_goals exact .refl h s

theorem worksOn_departRecord (a : Addr) (s : State) : s.WorksOn h (s.departRecord a h) := by
  unfold State.departRecord
  split
  · exact .refl h s
  · split
    · split
      · exact worksOn_failCandidate s
      · exact .refl h s
    · split
      · exact worksOn_dropBooking s
      · exact .refl h s
    · exact .refl h s

end

end Sys2Proof.Machine
end

section
/-! SUPPORT. What becomes of a record whose candidate or booker is gone (R139 to R141, R149, R159). -/

namespace Sys2Proof.Machine
open Host

section
variable {h : Handle} {s t u left : State} {r x : Record} {k : Nat} {c : Addr}

/-! ### The BOOK of a round -/

theorem bookOut_iff : s.BookOut h c ↔
    (∃ e ∈ s.framesOf (.slot h), e.frame.kind = .book ∧ e.frame.dest = destOf c) ∨ SlotWait.book ∈ (s.slot h).waits := by
  simp only [State.BookOut, mem_framesOf, and_assoc]

theorem bookOut_pumpSlot (waits : SlotWait.book ∈ (s.slot h).waits)
    (composed : ∃ f, s.composeWait h .book = some f ∧ f.kind = .book ∧ f.dest = destOf c) : (s.pumpSlot h).BookOut h c := by
  obtain ⟨f, composed, kind, dest⟩ := composed
  rw [bookOut_iff]
  obtain ⟨-, same⟩ | ⟨free, -⟩ | ⟨front, w, rest, g, -, split_, none, composes, side⟩ := pumpSlot_cases h s
  · rw [same]
    exact .inr waits
  · obtain none | ⟨front, w, rest, g, split_, none, composes⟩ := waits_split s h (s.slot h).waits
    · rw [none _ waits] at composed
      cases composed
    · have pumped : s.pumpSlot h = (s.setWaits h rest).queueFrame (.slot h) g := by
        rw [State.pumpSlot, if_neg (by simp [free]), split_, pumpWaits_append none composes]
      have frames : (s.pumpSlot h).framesOf (.slot h) = [TxEntry.fresh (.slot h) g] := by
        rw [pumped, framesOf_queueFrame, if_pos ⟨rfl, by simpa using free⟩]
      rw [split_] at waits
      obtain early | here := List.mem_append.mp waits
      · rw [none _ early] at composed
        cases composed
      · obtain rfl | later := List.mem_cons.mp here
        · obtain rfl := Option.some.inj (composed.symm.trans composes)
          exact .inl ⟨_, by rw [frames]; exact List.mem_singleton_self _, kind, dest⟩
        · refine .inr ?_
          rw [pumped, slot_queueFrame, waits_setWaits]
          exact later
  · rw [split_] at waits
    obtain early | here := List.mem_append.mp waits
    · rw [none _ early] at composed
      cases composed
    · obtain rfl | later := List.mem_cons.mp here
      · obtain rfl := Option.some.inj (composed.symm.trans composes)
        refine .inl ⟨TxEntry.fresh (.slot h) f, ?_, kind, dest⟩
        rw [show (s.pumpSlot h).framesOf (.slot h) = [TxEntry.fresh (.slot h) f] from congrArg Prod.fst side]
        exact List.mem_singleton_self _
      · refine .inr ?_
        rw [show ((s.pumpSlot h).slot h).waits = rest from congrArg (·.2.2) side]
        exact later

/-- The BOOK of slot h stays out while other records are worked on. -/
theorem bookOut_congr (frames : t.framesOf (.slot h) = s.framesOf (.slot h)) (waits : (t.slot h).waits = (s.slot h).waits) :
    t.BookOut h c ↔ s.BookOut h c := by
  rw [bookOut_iff, bookOut_iff, frames, waits]

theorem bookOut_sendSlot {i : Nat} (stands : s.rec? h = some r) (asking : r.booking = .asking i c)
    {e : StepEntry} (next : r.next? = some e) : (s.sendSlot h .book).BookOut h c := by
  rw [State.sendSlot]
  refine bookOut_pumpSlot ?_ ?_
  · rw [waits_setWaits]
    exact List.mem_append_right _ (List.mem_singleton_self _)
  · rw [composeWait_setWaits]
    simp only [State.composeWait, stands, asking, next]
    exact ⟨_, rfl, rfl, rfl⟩

/-! ### A round that goes on (R140, R141) -/

/-- The two peer lists pass over the same stations. -/
def State.SamePeers (s t : State) : Prop := ∀ role k, t.candidateFrom role k = s.candidateFrom role k

theorem samePeers_of (conf : t.conf = s.conf) (peers : ∀ a role, (t.peer a).state = .joined ∧ (t.peer a).role = role ↔
    (s.peer a).state = .joined ∧ (s.peer a).role = role) : s.SamePeers t := by
  intro role k
  have route : t.route role = s.route role := by rw [State.route, State.route, conf]
  rw [State.candidateFrom, State.candidateFrom, route]
  refine congrArg (fun f => ((s.route role).zipIdx 1).findSome? f) (funext fun y => ?_)
  exact if_congr (and_congr_right fun _ => peers y.1 role) rfl rfl

theorem State.SamePeers.of_mem (peers : left.SamePeers s) (conf : t.conf = s.conf) (mem : t.mem = s.mem) : left.SamePeers t := by
  intro role k
  rw [← peers role k, State.candidateFrom, State.candidateFrom, State.route, State.route, conf, mem]

theorem reaches_roundFrom (peers : left.SamePeers s) (stands : s.rec? h = some r) (k : Nat) :
    left.RoundReaches (s.roundFrom h k) h r k := by
  intro e next
  have asks : s.candidateOf r k = left.candidateFrom (stepRole e.kind) k := by
    rw [← peers (stepRole e.kind) k]
    simp only [State.candidateOf, next]
  refine ⟨fun i c found => ?_, fun none => ?_⟩
  · rw [found] at asks
    rw [roundFrom_some stands asks]
    refine ⟨by rw [recOpt_sendSlot, recOpt_setRec_same]; rfl, ?_⟩
    exact bookOut_sendSlot (r := r.asks (some (i, c))) (i := i) (e := e) (recOpt_setRec_same _ _ _) rfl next
  · rw [none] at asks
    rw [roundFrom_none stands asks, recOpt_setRec_same]
    rfl

theorem reaches_failCandidate (peers : left.SamePeers s) (stands : s.rec? h = some r) (asking : r.booking = .asking k c) :
    left.RoundReaches (s.failCandidate h) h r (k + 1) := by
  rw [failCandidate_asking stands asking]
  refine reaches_roundFrom ?_ ?_ (k + 1)
  · exact fun role j => (peers role j).symm ▸ rfl
  · rw [State.dropWaits, recOpt_setWaits]
    exact stands

/-- The record is worked on no further, and its origin is left alone. -/
theorem reaches_of_kept (rec_ : t.rec? h = s.rec? h) (frames : t.framesOf (.slot h) = s.framesOf (.slot h))
    (waits : (t.slot h).waits = (s.slot h).waits) (reaches : left.RoundReaches s h r k) : left.RoundReaches t h r k := by
  intro e next
  obtain ⟨asks, ends⟩ := reaches e next
  rw [rec_]
  exact ⟨fun i c found => (asks i c found).imp_right (bookOut_congr frames waits).mpr, ends⟩

theorem asksAnew_of_kept (conf : left.conf = s.conf) (rec_ : t.rec? h = s.rec? h) (frames : t.framesOf (.slot h) = s.framesOf (.slot h))
    (waits : (t.slot h).waits = (s.slot h).waits) (asks : left.AsksAnew s h r) : left.AsksAnew t h r := by
  intro needs
  obtain ⟨inside, beyond⟩ := asks needs
  rw [rec_]
  exact ⟨fun gap => reaches_of_kept rec_ frames waits (inside gap), beyond⟩

/-! ### A booking dropped (R149) -/

theorem recOpt_hold {g : BitVec 24} (stands : s.rec? h = some r) (active : r.state ≠ .held) :
    ∃ x, (s.enterHeld h .gapExceeded g false).rec? h = some x ∧ x.state = .held ∧ x.heldFrom = some r.state ∧ x.booking = .none :=
  ⟨_, recOpt_enterHeld_same h .gapExceeded g false r s stands active, rfl, rfl, rfl⟩

/-- A booking and its marks play no part in what a record asks anew. -/
theorem asksAnew_unbooked (r : Record) (b : BookerState) (e : Bool) :
    left.AsksAnew t h { r with booking := b, exhausted := e } ↔ left.AsksAnew t h r := Iff.rfl

theorem asks_enterLoaded (conf : left.conf = s.conf) (joined : s.isJoined = true) (peers : left.SamePeers s)
    (stands : s.rec? h = some r) (free : r.booking = .none) : left.AsksAnew (s.enterLoaded h) h { r with state := .loaded } := by
  intro needs
  rw [conf] at needs
  refine ⟨fun inside => ?_, fun beyond => ?_⟩
  · have loaded := recOpt_setRec_same h { r with state := .loaded } s
    have peers' : left.SamePeers (s.setRec h { r with state := .loaded }) := peers
    have round : (s.setRec h { r with state := .loaded }).startRound h =
        (s.setRec h { r with state := .loaded }).roundFrom h 1 := by
      rw [startRound_eq loaded]
      exact if_pos ⟨joined, needs, free⟩
    have before := recOpt_roundFrom 1 loaded h
    rw [if_pos rfl] at before
    have unready : ((s.setRec h { r with state := .loaded }).roundFrom h 1).judgeReady h =
        (s.setRec h { r with state := .loaded }).roundFrom h 1 := by
      refine judgeReady_unready before fun ready => ?_
      obtain ⟨-, -, -, unneeded | held⟩ := ready_iff.mp ready
      · have must : ({ r with state := .loaded } : Record).needsBefore s.conf.role = true :=
          (needsBooking_iff.mp needs).elim (fun loaded => loaded.2.1) fun ended => nomatch ended.1
        rw [conf_roundFrom] at unneeded
        cases asks : (s.setRec h { r with state := .loaded }).candidateOf { r with state := .loaded } 1 <;>
          rw [asks] at unneeded <;> exact Bool.false_ne_true (unneeded.symm.trans must)
      · exact not_held_asks _ held
    rw [enterLoaded_inside stands inside, round, unready]
    exact reaches_roundFrom peers' loaded 1
  · obtain ⟨g, late⟩ := Option.ne_none_iff_exists'.mp beyond
    rw [enterLoaded_late stands late]
    exact recOpt_hold (recOpt_setRec_same _ _ _) nofun

theorem asks_enterEnded (conf : left.conf = s.conf) (joined : s.isJoined = true) (peers : left.SamePeers s)
    (stands : s.rec? h = some r) (free : r.booking = .none) : left.AsksAnew (s.enterEnded h) h { r with state := .ended } := by
  intro needs
  rw [conf] at needs
  refine ⟨fun inside => ?_, fun beyond => ?_⟩
  · have ended := recOpt_setRec_same h { r with state := .ended } s
    have peers' : left.SamePeers (s.setRec h { r with state := .ended }) := peers
    have round : (s.setRec h { r with state := .ended }).startRound h =
        (s.setRec h { r with state := .ended }).roundFrom h 1 := by
      rw [startRound_eq ended]
      exact if_pos ⟨joined, needs, free⟩
    rw [enterEnded_unbooked stands inside free, round]
    exact reaches_roundFrom peers' ended 1
  · obtain ⟨g, late⟩ := Option.ne_none_iff_exists'.mp beyond
    rw [enterEnded_late stands late]
    exact recOpt_hold (recOpt_setRec_same _ _ _) nofun

theorem asks_stopTransfer (conf : left.conf = s.conf) (joined : s.isJoined = true) (peers : left.SamePeers s)
    (stands : s.rec? h = some r) (free : r.booking = .none) : left.AsksAnew ((s.stopTransfer h).enterEnded h) h
      { r with state := .ended, carry := none, handOffTimer := none } := by
  have conf' : (s.stopTransfer h).conf = s.conf := conf_of_still (still_stopTransfer h s)
  have mem : (s.stopTransfer h).mem = s.mem := mem_stopTransfer h s
  have stopped : (s.stopTransfer h).rec? h = some { r with carry := none, handOffTimer := none } := by
    rw [recOpt_stopTransfer, if_pos rfl, stands]
    rfl
  have joined' : (s.stopTransfer h).isJoined = true := by
    rw [State.isJoined, mem]
    exact joined
  exact asks_enterEnded (conf.trans conf'.symm) joined' (peers.of_mem conf' mem) stopped free

theorem asks_giveUpClaim (conf : left.conf = s.conf) (joined : s.isJoined = true) (peers : left.SamePeers s)
    (stands : s.rec? h = some r) (free : r.booking = .none) (p : Option PosIx) :
    left.AsksAnew ((s.giveUpClaim? p).enterLoaded h) h { r with state := .loaded } := by
  have conf' : (s.giveUpClaim? p).conf = s.conf := conf_of_still (still_giveUpClaimOpt p s)
  have mem : (s.giveUpClaim? p).mem = s.mem := mem_giveUpClaimOpt p s
  have given : (s.giveUpClaim? p).rec? h = some r := (recOpt_giveUpClaimOpt p s h).trans stands
  have joined' : (s.giveUpClaim? p).isJoined = true := by
    rw [State.isJoined, mem]
    exact joined
  exact asks_enterLoaded (conf.trans conf'.symm) joined' (peers.of_mem conf' mem) given free

/-- What a dropped booking leaves of the record that held it (R149). -/
structure DropsTo (left t : State) (h : Handle) (r : Record) : Prop where
  working : r.state = .running ∨ r.state = .paused → t.rec? h = some { r with booking := .none, exhausted := false }
  waitsOn : r.state = .loaded ∨ r.state = .ended → left.AsksAnew t h r
  outbound : r.state = .outbound → left.AsksAnew t h { r with state := .ended, carry := none, handOffTimer := none }
  waiting : r.state = .waiting → left.AsksAnew t h { r with state := .loaded }

theorem drops_dropBooking (conf : left.conf = s.conf) (joined : s.isJoined = true) (peers : left.SamePeers s)
    (stands : s.rec? h = some r) : DropsTo left (s.dropBooking h) h r := by
  have dropped := recOpt_setRec_same h { r with booking := .none, exhausted := false } s
  refine ⟨fun works => ?_, fun waits => ?_, fun out => ?_, fun waits => ?_⟩
  · obtain st | st := works
    · rw [dropBooking_of stands st]
      exact dropped
    · rw [dropBooking_of stands st]
      exact dropped
  · obtain st | st := waits
    · rw [dropBooking_of stands st]
      have asks := asks_enterLoaded (left := left) (s := s.setRec h { r with booking := .none, exhausted := false }) conf joined peers
        dropped rfl
      have anew := (asksAnew_unbooked { r with state := .loaded } .none false).mp asks
      have same : { r with state := .loaded } = r := by rw [← st]
      rwa [same] at anew
    · rw [dropBooking_of stands st]
      have asks := asks_enterEnded (left := left) (s := s.setRec h { r with booking := .none, exhausted := false }) conf joined peers
        dropped rfl
      have anew := (asksAnew_unbooked { r with state := .ended } .none false).mp asks
      have same : { r with state := .ended } = r := by rw [← st]
      rwa [same] at anew
  · rw [dropBooking_of stands out]
    have asks := asks_stopTransfer (left := left) (s := s.setRec h { r with booking := .none, exhausted := false }) conf joined peers
      dropped rfl
    exact (asksAnew_unbooked { r with state := .ended, carry := none, handOffTimer := none } .none false).mp asks
  · rw [dropBooking_of stands waits]
    have asks := asks_giveUpClaim (left := left) (s := s.setRec h { r with booking := .none, exhausted := false }) conf joined peers
      dropped rfl r.position
    exact (asksAnew_unbooked { r with state := .loaded } .none false).mp asks

end

end Sys2Proof.Machine
end

section
/-! SUPPORT. The grants told, and the hand-off unit at a departure, by slot and by origin (R128, R149, R159). -/

namespace Sys2Proof.Machine
open Host

section
variable {h g : Handle} {s t u left : State} {r : Record} {a c : Addr} {p : PosIx} {k : Nat}

/-! ### The grants told (R128) -/

/-- In t, grants have been told in s: steps may have started. -/
structure State.Tells (s t : State) : Prop where
  lbi : t.lbi = s.lbi
  mem : t.mem = s.mem
  conf : t.conf = s.conf
  waits : ∀ h, (t.slot h).waits = (s.slot h).waits
  inUse : ∀ h, s.rec? h ≠ none → t.rec? h ≠ none
  unused : ∀ h, s.rec? h = none → t.slot h = s.slot h
  queues : t.store.rushQueue = s.store.rushQueue ∧ t.store.ordinaryQueue = s.store.ordinaryQueue
  events : s.port.events <+: t.port.events
  places : ∀ p, (t.pos p).state = (s.pos p).state ∧ (t.pos p).link = (s.pos p).link
  bookings : t.bookings = s.bookings

theorem State.Tells.refl (s : State) : s.Tells s :=
  ⟨rfl, rfl, rfl, fun _ => rfl, fun _ => id, fun _ _ => rfl, ⟨rfl, rfl⟩, List.prefix_rfl, fun _ => ⟨rfl, rfl⟩, rfl⟩

theorem State.Tells.trans (first : s.Tells t) (then_ : t.Tells u) : s.Tells u where
  lbi := then_.lbi.trans first.lbi
  mem := then_.mem.trans first.mem
  conf := then_.conf.trans first.conf
  waits h := (then_.waits h).trans (first.waits h)
  inUse h stands := then_.inUse h (first.inUse h stands)
  unused h none := by
    have kept := first.unused h none
    rw [then_.unused h ((recOpt_of_slot kept).trans none), kept]
  queues := ⟨then_.queues.1.trans first.queues.1, then_.queues.2.trans first.queues.2⟩
  events := first.events.trans then_.events
  places p := ⟨(then_.places p).1.trans (first.places p).1, (then_.places p).2.trans (first.places p).2⟩
  bookings := then_.bookings.trans first.bookings

theorem tells_startStep (p : PosIx) (h : Handle) (s : State) : s.Tells (s.startStep p h) := by
  cases stands : s.rec? h with
  | none =>
    rw [State.startStep, stands]
    exact .refl s
  | some r =>
    have started := startStep_eq (p := p) stands
    refine ⟨lbi_startStep p h s, mem_startStep p h s, conf_of_still (still_startStep p h s), fun g => ?_, fun g there => ?_,
      fun g none => ?_, ⟨rushQueue_startStep p h s, ordinaryQueue_startStep p h s⟩, ?_, fun q => ?_, bookings_startStep p h s⟩
    · rw [started, State.slot, store_post]
      exact waits_setRec ..
    · rw [started, recOpt_post, recOpt_setRec]
      split
      · exact nofun
      · exact there
    · have other : h ≠ g := fun same => by rw [← same, stands] at none; cases none
      rw [started, State.slot, store_post]
      exact (slot_setRec ..).trans (if_neg other)
    · rw [started]
      refine List.IsPrefix.trans ?_ (events_post_prefix _ _)
      exact List.prefix_rfl
    · rw [started, pos_post, pos_setRec, pos_updPos]
      split
      · next here => exact here ▸ ⟨rfl, rfl⟩
      · exact ⟨rfl, rfl⟩

theorem slot_startStep (other : h ≠ g) : (s.startStep p h).slot g = s.slot g := by
  cases stands : s.rec? h with
  | none => rw [State.startStep, stands]
  | some r =>
    rw [startStep_eq stands, State.slot, store_post]
    exact (slot_setRec ..).trans (if_neg other)

theorem tells_tellEntry (e : ClaimEntry) (s : State) : s.Tells (s.tellEntry e) := by
  unfold State.tellEntry
  split
  · have claimed : s.Tells (s.setClaim e.position .granted) := by
      refine ⟨rfl, rfl, rfl, fun _ => rfl, fun _ => id, fun _ _ => rfl, ⟨rfl, rfl⟩, List.prefix_rfl, fun q => ?_, rfl⟩
      rw [State.setClaim, pos_updPos]
      split
      · next here => exact here ▸ ⟨rfl, rfl⟩
      · exact ⟨rfl, rfl⟩
    refine claimed.trans ?_
    unfold State.tellGrant
    split
    · split
      · exact tells_startStep _ _ _
      · exact .refl _
    · exact .refl _
  · exact .refl s

/-- A grant leaves the record of a slot alone unless it is WAITING on the position granted. -/
theorem slot_tellEntry {e : ClaimEntry} (untold : ∀ r, s.rec? h = some r → r.state = .waiting →
    ¬(e.station = s.conf.address ∧ (s.pos e.position).link = some h)) : (s.tellEntry e).slot h = s.slot h := by
  unfold State.tellEntry
  split
  · next told =>
    unfold State.tellGrant
    split
    · next g x found =>
      split
      · next waits =>
        obtain ⟨-, link, stands⟩ := working_eq_some.mp found
        have link : (s.pos e.position).link = some g := by
          rw [State.setClaim, pos_updPos_same] at link
          exact link
        refine (slot_startStep fun same => ?_).trans rfl
        exact untold x (same ▸ stands) waits ⟨told.1, same ▸ link⟩
      · rfl
    · rfl
  · rfl

theorem tells_tellGrants (l : List ClaimEntry) (s : State) : s.Tells (s.tellGrants l) := by
  induction l generalizing s with
  | nil => exact .refl s
  | cons e l ih => exact (tells_tellEntry e s).trans (ih (s.tellEntry e))

theorem slot_tellGrants {l : List ClaimEntry} (untold : ∀ r, s.rec? h = some r → r.state = .waiting →
    ∀ e ∈ l, ¬(e.station = s.conf.address ∧ (s.pos e.position).link = some h)) : (s.tellGrants l).slot h = s.slot h := by
  induction l generalizing s with
  | nil => rfl
  | cons e l ih =>
    have step := tells_tellEntry e s
    have kept : (s.tellEntry e).slot h = s.slot h :=
      slot_tellEntry fun r stands waits => untold r stands waits e List.mem_cons_self
    refine (ih fun r stands waits x m => ?_).trans kept
    rw [recOpt_of_slot kept] at stands
    rw [step.conf, (step.places x.position).2]
    exact untold r stands waits x (List.mem_cons_of_mem e m)

/-- The entries that a scan grants stand GRANTED in the table after it. -/
theorem mem_scanFrom_granted {caps : Triple} {l : List ClaimEntry} {sums : BudgetIx → Nat} {blocked : BudgetIx → Bool}
    {e : ClaimEntry} (m : e ∈ (scanFrom caps sums blocked l).2) : e ∈ (scanFrom caps sums blocked l).1 ∧ e.status = .granted := by
  induction l generalizing sums blocked with
  | nil => cases m
  | cons x rest ih =>
    obtain ⟨-, scan⟩ | ⟨-, -, scan⟩ | ⟨-, -, scan⟩ := scanFrom_cons caps sums blocked x rest
    · rw [scan] at m ⊢
      exact (ih m).imp_left (List.mem_cons_of_mem _)
    · rw [scan] at m ⊢
      exact (ih m).imp_left (List.mem_cons_of_mem _)
    · rw [scan] at m ⊢
      obtain rfl | m := List.mem_cons.mp m
      · exact ⟨List.mem_cons_self, rfl⟩
      · exact (ih m).imp_left (List.mem_cons_of_mem _)

/-! ### The records one after the other -/

theorem departRecord_none (none : s.rec? h = none) : s.departRecord a h = s := by rw [State.departRecord, none]

/-- In t, the records of a list of slots have been worked on in s. -/
structure State.WorksAll (s t : State) : Prop where
  unused : ∀ h, s.rec? h = none → t.slot h = s.slot h
  inUse : ∀ h, s.rec? h ≠ none → t.rec? h ≠ none
  frames : ∀ o, (∀ g, o ≠ .slot g) → (∀ p, o ≠ .position p) → t.framesOf o = s.framesOf o
  inTx : t.lbi.inTx = s.lbi.inTx
  taken : ∀ f : Frame, f.kind = .taken → (t.frameOut = some f ↔ s.frameOut = some f)
  queues : t.store.rushQueue = s.store.rushQueue ∧ t.store.ordinaryQueue = s.store.ordinaryQueue
  events : s.port.events <+: t.port.events

theorem State.WorksOn.all (works : s.WorksOn h t) (idle : s.rec? h = none → t = s) : s.WorksAll t where
  unused g none := by
    by_cases same : g = h
    · rw [idle (same ▸ none)]
    · exact works.slots g same
  inUse g stands := by
    by_cases same : g = h
    · subst same
      exact works.inUse stands
    · rw [recOpt_of_slot (works.slots g same)]
      exact stands
  frames o slot position := works.frames o fun serves => serves.elim (slot h) fun ⟨p, same⟩ => position p same
  inTx := works.inTx
  taken := works.taken
  queues := works.queues
  events := works.events

theorem State.WorksAll.trans (first : s.WorksAll t) (then_ : t.WorksAll u) : s.WorksAll u where
  unused h none := by
    have kept := first.unused h none
    rw [then_.unused h ((recOpt_of_slot kept).trans none), kept]
  inUse h stands := then_.inUse h (first.inUse h stands)
  frames o slot position := (then_.frames o slot position).trans (first.frames o slot position)
  inTx := then_.inTx.trans first.inTx
  taken f kind := (then_.taken f kind).trans (first.taken f kind)
  queues := ⟨then_.queues.1.trans first.queues.1, then_.queues.2.trans first.queues.2⟩
  events := first.events.trans then_.events

theorem worksAll_departRecord (a : Addr) (h : Handle) (s : State) : s.WorksAll (s.departRecord a h) :=
  (worksOn_departRecord a s).all departRecord_none

theorem worksAll_departRecords (a : Addr) (l : List Handle) (s : State) : s.WorksAll (l.foldl (State.departRecord a) s) := by
  induction l generalizing s with
  | nil => exact ⟨fun _ _ => rfl, fun _ => id, fun _ _ _ => rfl, rfl, fun _ _ => Iff.rfl, ⟨rfl, rfl⟩, List.prefix_rfl⟩
  | cons h l ih => exact (worksAll_departRecord a h s).trans (ih (s.departRecord a h))

/-- The slots that are not worked on, with their frames. -/
theorem kept_departRecords {l : List Handle} (away : h ∉ l) (s : State) : (l.foldl (State.departRecord a) s).slot h = s.slot h
    ∧ (l.foldl (State.departRecord a) s).framesOf (.slot h) = s.framesOf (.slot h) := by
  induction l generalizing s with
  | nil => exact ⟨rfl, rfl⟩
  | cons g l ih =>
    rw [List.mem_cons, not_or] at away
    obtain ⟨other, away⟩ := away
    have works := worksOn_departRecord (h := g) a s
    obtain ⟨slot, frames⟩ := ih away (s.departRecord a g)
    refine ⟨slot.trans (works.slots h other), frames.trans (works.frames _ fun serves => ?_)⟩
    obtain same | ⟨p, same⟩ := serves
    · exact other (Origin.slot.inj same)
    · cases same

/-- The record of slot h after all of them: as worked on in a state that has it, its origin and the peer list as they were. -/
theorem departRecords_at (a : Addr) (h : Handle) (s : State) : ∃ v : State, v.slot h = s.slot h ∧ v.mem = s.mem ∧ v.conf = s.conf
    ∧ (handles.foldl (State.departRecord a) s).slot h = (v.departRecord a h).slot h
    ∧ (handles.foldl (State.departRecord a) s).framesOf (.slot h) = (v.departRecord a h).framesOf (.slot h) := by
  obtain ⟨front, back, split⟩ := List.append_of_mem (mem_handles h)
  have distinct := nodup_handles
  rw [split, List.nodup_append] at distinct
  obtain ⟨-, tail, apart⟩ := distinct
  have before : h ∉ front := fun m => apart h m h List.mem_cons_self rfl
  have after : h ∉ back := (List.nodup_cons.mp tail).1
  refine ⟨front.foldl (State.departRecord a) s, (kept_departRecords before s).1,
    mem_foldl _ (fun t h => mem_departRecord a t h) front s, ?_, ?_⟩
  · refine conf_of_still ?_
    exact still_foldl _ (fun t h => still_departRecord a t h) front s
  · rw [split, List.foldl_append, List.foldl_cons]
    exact kept_departRecords after _

end

end Sys2Proof.Machine
end

section
/-! SUPPORT. What a departure, or a JOIN, of another station leaves here (R101, R125, R149, R159). -/

namespace Sys2Proof.Machine
open Host

section
variable {h g : Handle} {s t u v left : State} {r : Record} {a c : Addr} {p : PosIx} {k : Nat} {cond : Booking → Bool}

/-! ### Slots and answers at a departure -/

theorem slot_freeSlots {l : List Handle} (away : h ∉ l) (s : State) :
    (l.foldl (fun (s : State) h => s.freeSlot h) s).slot h = s.slot h := by
  induction l generalizing s with
  | nil => rfl
  | cons g l ih =>
    rw [List.mem_cons, not_or] at away
    rw [List.foldl_cons, ih away.2, (freeSlot_spec g s).2.2.2.1 h away.1]

theorem slot_dropEntries (stays : s.leavesSlot cond h = false) : (s.dropEntries cond).slot h = s.slot h := by
  have away : h ∉ s.slotsLeft cond := fun m => Bool.false_ne_true (stays.symm.trans (mem_slotsLeft.mp m))
  rw [dropEntries_eq, slot_freeSlots away, vacate_all]
  rfl

/-- One answer withdrawn where it satisfies a condition (R88). -/
def State.withdrawAnswer (c : Frame → Bool) (s : State) (i : Fin 8) : State :=
  match s.txEntry (.answer i) with
  | some e => if c e.frame then s.withdrawTx (.answer i) else s
  | none => s

theorem withdrawAnswers_eq (c : Frame → Bool) (s : State) :
    s.withdrawAnswers c = (List.finRange 8).foldl (State.withdrawAnswer c) s := rfl

theorem framesOf_withdrawAnswer {c : Frame → Bool} {i : Fin 8} {o : Origin} (other : o ≠ .answer i) (s : State) :
    (s.withdrawAnswer c i).framesOf o = s.framesOf o := by
  unfold State.withdrawAnswer
  split
  · split
    · rw [framesOf_withdrawTx, if_neg other.symm]
    · rfl
  · rfl

theorem inTx_withdrawAnswer (c : Frame → Bool) (i : Fin 8) (s : State) : (s.withdrawAnswer c i).lbi.inTx = s.lbi.inTx := by
  unfold State.withdrawAnswer
  split
  · split
    · exact inTx_withdrawTx _ s
    · rfl
  · rfl

theorem framesOf_withdrawAnswers {c : Frame → Bool} {o : Origin} (other : ∀ i, o ≠ .answer i) (l : List (Fin 8)) (s : State) :
    (l.foldl (State.withdrawAnswer c) s).framesOf o = s.framesOf o := by
  induction l generalizing s with
  | nil => rfl
  | cons i l ih => rw [List.foldl_cons, ih, framesOf_withdrawAnswer (other i)]

/-- An answer that satisfies the condition is off the list, or in transmission with its withdrawal held. -/
theorem withdrawn_answer {c : Frame → Bool} {i : Fin 8} {e : TxEntry} (single : ∀ e ∈ s.framesOf (.answer i), s.txEntry (.answer i) = some e)
    (m : e ∈ (s.withdrawAnswer c i).framesOf (.answer i)) (here : c e.frame = true) :
    s.lbi.inTx = .listed (.answer i) ∧ e.held = .withdraw := by
  unfold State.withdrawAnswer at m
  cases entry : s.txEntry (.answer i) with
  | none =>
    simp only [entry] at m
    rw [txEntry_eq_head, List.head?_eq_none_iff] at entry
    rw [entry] at m
    cases m
  | some x =>
    simp only [entry] at m
    split at m
    · rw [framesOf_withdrawTx, if_pos rfl] at m
      split at m
      · next sending =>
        obtain ⟨y, -, rfl⟩ := List.mem_map.mp m
        exact ⟨sending_iff.mp sending, rfl⟩
      · cases m
    · next out =>
      obtain rfl := Option.some.inj (entry.symm.trans (single e m))
      exact absurd here out

theorem framesOf_withdrawAnswers_at {c : Frame → Bool} {i : Fin 8} {l : List (Fin 8)} (distinct : l.Nodup) (m : i ∈ l) (s : State) :
    ∃ v : State, v.framesOf (.answer i) = s.framesOf (.answer i) ∧ v.lbi.inTx = s.lbi.inTx
      ∧ (l.foldl (State.withdrawAnswer c) s).framesOf (.answer i) = (v.withdrawAnswer c i).framesOf (.answer i) := by
  induction l generalizing s with
  | nil => cases m
  | cons j l ih =>
    rw [List.nodup_cons] at distinct
    obtain ⟨alone, distinct⟩ := distinct
    by_cases here : i = j
    · subst here
      refine ⟨s, rfl, rfl, ?_⟩
      have rest (l : List (Fin 8)) (away : i ∉ l) (u : State) :
          (l.foldl (State.withdrawAnswer c) u).framesOf (.answer i) = u.framesOf (.answer i) := by
        induction l generalizing u with
        | nil => rfl
        | cons j l ih =>
          rw [List.mem_cons, not_or] at away
          rw [List.foldl_cons, ih away.2, framesOf_withdrawAnswer fun same => away.1 (Origin.answer.inj same)]
      exact rest l alone _
    · obtain ⟨v, frames, inTx, reached⟩ := ih distinct ((List.mem_cons.mp m).resolve_left here) (s.withdrawAnswer c j)
      refine ⟨v, frames.trans (framesOf_withdrawAnswer (fun same => here (Origin.answer.inj same)) s),
        inTx.trans (inTx_withdrawAnswer c j s), reached⟩

theorem withdrawn_answers {c : Frame → Bool} {i : Fin 8} {e : TxEntry} (single : ∀ e ∈ s.framesOf (.answer i), s.txEntry (.answer i) = some e)
    (m : e ∈ (s.withdrawAnswers c).framesOf (.answer i)) (here : c e.frame = true) :
    s.lbi.inTx = .listed (.answer i) ∧ e.held = .withdraw := by
  rw [withdrawAnswers_eq] at m
  obtain ⟨v, frames, inTx, reached⟩ := framesOf_withdrawAnswers_at (c := c) (List.nodup_finRange 8) (List.mem_finRange i) s
  rw [reached] at m
  rw [← inTx]
  refine withdrawn_answer (fun x n => ?_) m here
  rw [txEntry_eq_head, frames, ← txEntry_eq_head]
  exact single x (frames ▸ n)

/-! ### The arrival queue -/

theorem State.Tells.arrivalQueue (tells : s.Tells t) : t.arrivalQueue = s.arrivalQueue :=
  arrivalQueue_of_queues tells.queues.1 tells.queues.2

theorem State.WorksAll.arrivalQueue (works : s.WorksAll t) : t.arrivalQueue = s.arrivalQueue :=
  arrivalQueue_of_queues works.queues.1 works.queues.2

theorem arrivalQueue_bud (b : BudgetTable) (s : State) : ({ s with bud := b } : State).arrivalQueue = s.arrivalQueue := rfl

theorem arrivalQueue_dropEntries (s : State) : (s.dropEntries cond).arrivalQueue = s.arrivalQueue := by
  rw [dropEntries_shape]
  rfl

theorem inTx_dropEntries (s : State) : (s.dropEntries cond).lbi.inTx = s.lbi.inTx := by rw [dropEntries_shape]

theorem tx_dropEntries (s : State) : (s.dropEntries cond).lbi.tx = s.lbi.tx := by rw [dropEntries_shape]

/-! ### The state before the hand-off unit acts -/

/-- In v, only the transmit list, the peer list and the join queue of s have changed, no TAKEN in transmission among them. -/
structure State.Aside (s v : State) : Prop where
  states : ∀ h, (v.slot h).state = (s.slot h).state
  bookings : v.bookings = s.bookings
  queues : v.arrivalQueue = s.arrivalQueue
  links : ∀ p, (v.pos p).link = (s.pos p).link
  conf : v.conf = s.conf
  bud : v.bud = s.bud
  taken : ∀ f : Frame, f.kind = .taken → (v.frameOut = some f ↔ s.frameOut = some f)
  answers : ∀ i, (∀ e ∈ s.framesOf (.answer i), s.txEntry (.answer i) = some e) →
    ∀ e ∈ v.framesOf (.answer i), v.txEntry (.answer i) = some e

/-- State v comes from s by the peer list's and the transmit list's part of a departure of a, before the table's. -/
structure State.PeerLeft (s v : State) (a : Addr) : Prop extends s.Aside v where
  joined : v.isJoined = true
  peers : (s.updPeer a Peer.gone).SamePeers v

theorem takenOut_of_taken (taken : ∀ f : Frame, f.kind = .taken → (t.frameOut = some f ↔ s.frameOut = some f)) :
    t.takenOut = s.takenOut := by
  funext b
  have same : t.frameOut = some b.takenFrame ↔ s.frameOut = some b.takenFrame := taken b.takenFrame rfl
  rw [State.takenOut, State.takenOut, decide_eq_decide.mpr same]

/-- The table after the entries of a are gone and the scan has run (R125). -/
def goneTable (s : State) (a : Addr) : BudgetTable :=
  { capacities := s.bud.capacities, seqNo := s.bud.seqNo + 1
    entries := (grantScan s.bud.capacities (s.bud.entries.filter fun e => e.station ≠ a)).1 }

/-- The grants of that scan told at state v (R128). -/
def State.toldGone (v s : State) (a : Addr) : State :=
  State.tellGrants (grantScan s.bud.capacities (s.bud.entries.filter fun e => e.station ≠ a)).2 { v with bud := goneTable s a }

/-- The whole of a departure's work, from the grants on. -/
def State.workedOff (v s : State) (a : Addr) : State := ((v.toldGone s a).departHandoff a).judgeSlots.placement

theorem tells_toldGone (v s : State) (a : Addr) : ({ v with bud := goneTable s a } : State).Tells (v.toldGone s a) :=
  tells_tellGrants _ _

/-- The records worked on, before the entries go. -/
def State.recordsLeft (v s : State) (a : Addr) : State := handles.foldl (State.departRecord a) (v.toldGone s a)

theorem departHandoff_toldGone (v s : State) (a : Addr) : (v.toldGone s a).departHandoff a =
    ((v.recordsLeft s a).dropEntries fun b => decide (b.booker = a) && !(v.recordsLeft s a).takenOut b).withdrawAnswers
      fun f => decide (f.dest = destOf a) := rfl

theorem worksAll_recordsLeft (v s : State) (a : Addr) : (v.toldGone s a).WorksAll (v.recordsLeft s a) :=
  worksAll_departRecords a handles _

/-- The entries of the booking list that a departure of a takes away (R159). -/
def State.bookedAway (s : State) (a : Addr) (b : Booking) : Bool := decide (b.booker = a) && !s.takenOut b

section
variable (before : s.PeerLeft v a)
include before

theorem State.PeerLeft.takenOut_recordsLeft : (v.recordsLeft s a).takenOut = s.takenOut := by
  refine takenOut_of_taken fun f kind => ?_
  have told : (v.toldGone s a).frameOut = v.frameOut :=
    frameOut_of_lbi (t := v.toldGone s a) (s := v) (tells_toldGone v s a).lbi
  refine ((worksAll_recordsLeft v s a).taken f kind).trans ?_
  rw [told]
  exact before.taken f kind

theorem State.PeerLeft.bookings_recordsLeft : (v.recordsLeft s a).bookings = s.bookings := by
  have worked : (v.recordsLeft s a).bookings = (v.toldGone s a).bookings :=
    bookings_foldl _ (fun t h => bookings_departRecord a t h) handles _
  rw [worked, (tells_toldGone v s a).bookings]
  exact before.bookings

theorem State.PeerLeft.dropEntries_recordsLeft : (v.toldGone s a).departHandoff a =
    ((v.recordsLeft s a).dropEntries (s.bookedAway a)).withdrawAnswers fun f => decide (f.dest = destOf a) := by
  rw [departHandoff_toldGone, before.takenOut_recordsLeft]
  rfl

theorem State.PeerLeft.leavesSlot_recordsLeft (h : Handle) :
    (v.recordsLeft s a).leavesSlot (s.bookedAway a) h = s.leavesSlot (s.bookedAway a) h := by
  rw [leavesSlot_congr before.bookings_recordsLeft]

theorem State.PeerLeft.arrivalQueue_departHandoff : ((v.toldGone s a).departHandoff a).arrivalQueue = s.arrivalQueue := by
  have dropped : ((v.recordsLeft s a).dropEntries (s.bookedAway a)).arrivalQueue = (v.recordsLeft s a).arrivalQueue := arrivalQueue_dropEntries _
  have kept : (v.recordsLeft s a).arrivalQueue = v.arrivalQueue :=
    (worksAll_recordsLeft v s a).arrivalQueue.trans ((tells_toldGone v s a).arrivalQueue.trans (arrivalQueue_bud _ v))
  rw [before.dropEntries_recordsLeft, State.arrivalQueue, store_withdrawAnswers]
  exact dropped.trans (kept.trans before.queues)

theorem State.PeerLeft.slot_departHandoff (stays : s.leavesSlot (s.bookedAway a) h = false) :
    ((v.toldGone s a).departHandoff a).slot h = (v.recordsLeft s a).slot h := by
  rw [before.dropEntries_recordsLeft, State.slot, store_withdrawAnswers]
  exact slot_dropEntries ((before.leavesSlot_recordsLeft h).trans stays)

theorem State.PeerLeft.framesOf_workedOff {o : Origin} (other : ∀ i, o ≠ .answer i) :
    (v.workedOff s a).framesOf o = (v.recordsLeft s a).framesOf o := by
  have lbi : (v.workedOff s a).lbi = ((v.toldGone s a).departHandoff a).lbi := by
    rw [State.workedOff, lbi_placement, lbi_judgeSlots]
  rw [framesOf_of_tx (congrArg Lbi.tx lbi), before.dropEntries_recordsLeft, withdrawAnswers_eq, framesOf_withdrawAnswers other]
  exact framesOf_of_tx (tx_dropEntries _)

theorem State.PeerLeft.slot_workedOff (still : h ∉ s.arrivalQueue ∨ ((v.toldGone s a).departHandoff a).rec? h = none) :
    (v.workedOff s a).slot h = ((v.toldGone s a).departHandoff a).slot h :=
  (placed_of_judged _).1 h (by rwa [before.arrivalQueue_departHandoff])

end

end

end Sys2Proof.Machine
end

section
/-! SUPPORT. The records, the answers and the bookings after a departure's work: PeerDropped (R159). -/

namespace Sys2Proof.Machine
open Host

section
variable {h : Handle} {s t v : State} {r : Record} {a : Addr} {b : Booking}

/-! ### What a sound state says of a record -/

theorem Sound.unqueued (sound : Sound s) (stands : s.rec? h = some r) (other : r.state ≠ .queued) : h ∉ s.arrivalQueue := by
  obtain ⟨-, -, ⟨-, -, rush, ordinary⟩, -⟩ := sound
  intro m
  obtain m | m := List.mem_append.mp m
  · obtain ⟨x, here, queued, -⟩ := (rush h).mp m
    obtain rfl := Option.some.inj (stands.symm.trans here)
    exact other queued
  · obtain ⟨x, here, queued, -⟩ := (ordinary h).mp m
    obtain rfl := Option.some.inj (stands.symm.trans here)
    exact other queued

theorem Sound.unreserved (sound : Sound s) (stands : s.rec? h = some r) : ∀ b ∈ s.bookings, b.slot ≠ h := by
  obtain ⟨-, ⟨reserved, -⟩, -⟩ := sound
  intro b m same
  have state := (reserved h).mpr ⟨b, m, same⟩
  rw [recOpt_iff, state] at stands
  cases stands

theorem Sound.linked (sound : Sound s) (stands : s.rec? h = some r) {p : PosIx} (link : (s.pos p).link = some h) :
    r.position = some p := by
  obtain ⟨-, -, -, ⟨-, links, -⟩, -⟩ := sound
  obtain ⟨x, here, position⟩ := (links p h).mp link
  obtain rfl := Option.some.inj (stands.symm.trans here)
  exact position

/-! ### The records -/

section
variable (before : s.PeerLeft v a) (sound : Sound s)
include before

theorem State.PeerLeft.recOpt (h : Handle) : v.rec? h = s.rec? h := by simp only [State.rec?, before.states]

include sound

/-- No grant of the scan is for the record of slot h, where that is WAITING (R128). -/
def State.Untold (s : State) (a : Addr) (r : Record) : Prop := r.state = .waiting →
  ∀ e ∈ (grantScan s.bud.capacities (s.bud.entries.filter fun e => e.station ≠ a)).1,
    e.station = s.conf.address → r.position = some e.position → e.status = .waiting

theorem State.PeerLeft.slot_toldGone (stands : s.rec? h = some r) (untold : s.Untold a r) : (v.toldGone s a).slot h = v.slot h := by
  refine (slot_tellGrants fun x here waits e m told => ?_).trans rfl
  obtain ⟨mine, link⟩ := told
  obtain rfl := Option.some.inj ((stands.symm.trans (before.recOpt h).symm).trans here)
  obtain ⟨stays, granted⟩ := mem_scanFrom_granted m
  have position := sound.linked stands ((before.links e.position).symm.trans link)
  have waiting := untold waits e stays (mine.trans (congrArg Configuration.address before.conf)) position
  rw [granted] at waiting
  cases waiting

/-- The record of slot h in the end is worked on as R159 gives, in a state that has it. -/
theorem State.PeerLeft.record_workedOff (stands : s.rec? h = some r) (unqueued : r.state ≠ .queued) (untold : s.Untold a r) :
    ∃ w : State, w.rec? h = some r ∧ w.mem = v.mem ∧ w.conf = s.conf
      ∧ (v.workedOff s a).slot h = (w.departRecord a h).slot h
      ∧ (v.workedOff s a).framesOf (.slot h) = (w.departRecord a h).framesOf (.slot h) := by
  obtain ⟨w, slot, mem, conf, slot', frames'⟩ := departRecords_at a h (v.toldGone s a)
  have told := tells_toldGone v s a
  have here : w.rec? h = some r :=
    (recOpt_of_slot (slot.trans (before.slot_toldGone sound stands untold))).trans ((before.recOpt h).trans stands)
  have away : s.leavesSlot (s.bookedAway a) h = false := leavesSlot_false (sound.unreserved stands) _
  refine ⟨w, here, mem.trans told.mem, (conf.trans told.conf).trans before.conf, ?_, ?_⟩
  · exact (before.slot_workedOff (.inl (sound.unqueued stands unqueued))).trans ((before.slot_departHandoff away).trans slot')
  · exact (before.framesOf_workedOff fun _ same => by cases same).trans frames'

/-- The peer list as the records find it: a is gone from it. -/
theorem State.PeerLeft.workable {w : State} (mem : w.mem = v.mem) (conf : w.conf = s.conf) :
    (s.updPeer a Peer.gone).conf = w.conf ∧ w.isJoined = true ∧ (s.updPeer a Peer.gone).SamePeers w := by
  refine ⟨conf.symm, ?_, before.peers.of_mem (conf.trans before.conf.symm) mem⟩
  rw [State.isJoined, mem]
  exact before.joined

theorem State.PeerLeft.asking_workedOff {k : Nat} (stands : s.rec? h = some r) (asking : r.booking = .asking k a)
    (active : r.state = .loaded ∨ r.state = .ended) : (s.updPeer a Peer.gone).RoundReaches (v.workedOff s a) h r (k + 1) := by
  have unqueued : r.state ≠ .queued := by rintro st; rw [st] at active; simp at active
  have unwaiting : r.state ≠ .waiting := by rintro st; rw [st] at active; simp at active
  obtain ⟨w, here, mem, conf, slot, frames⟩ := before.record_workedOff sound stands unqueued fun st => absurd st unwaiting
  have works : w.departRecord a h = w.failCandidate h := by simp [State.departRecord, here, asking]
  rw [works] at slot frames
  exact reaches_of_kept (recOpt_of_slot slot) frames (congrArg Slot.waits slot)
    (reaches_failCandidate (before.workable sound mem conf).2.2 here asking)

theorem State.PeerLeft.held_workedOff {p : PosIx} (stands : s.rec? h = some r) (held : r.booking = .held a p)
    (unqueued : r.state ≠ .queued) (untold : s.Untold a r) : DropsTo (s.updPeer a Peer.gone) (v.workedOff s a) h r := by
  obtain ⟨w, here, mem, conf, slot, frames⟩ := before.record_workedOff sound stands unqueued untold
  obtain ⟨conf', joined, peers⟩ := before.workable sound mem conf
  have works : w.departRecord a h = w.dropBooking h := by simp [State.departRecord, here, held]
  rw [works] at slot frames
  have anew {x : Record} : (s.updPeer a Peer.gone).AsksAnew (w.dropBooking h) h x →
      (s.updPeer a Peer.gone).AsksAnew (v.workedOff s a) h x :=
    asksAnew_of_kept (conf'.trans (conf_of_still (still_dropBooking h w)).symm) (recOpt_of_slot slot) frames (congrArg Slot.waits slot)
  have drops := drops_dropBooking conf' joined peers here
  exact ⟨fun works => (recOpt_of_slot slot).trans (drops.working works), fun waits => anew (drops.waitsOn waits),
    fun out => anew (drops.outbound out), fun waits => anew (drops.waiting waits)⟩

theorem State.PeerLeft.kept_workedOff (stands : s.rec? h = some r) (unasking : ∀ k, r.booking ≠ .asking k a)
    (unheld : ∀ p, r.booking ≠ .held a p) (unqueued : r.state ≠ .queued) (unwaiting : r.state ≠ .waiting) :
    (v.workedOff s a).rec? h = some r := by
  obtain ⟨w, here, -, -, slot, -⟩ := before.record_workedOff sound stands unqueued fun st => absurd st unwaiting
  have works : w.departRecord a h = w := by
    simp only [State.departRecord, here]
    cases booking : r.booking with
    | none => rfl
    | asking k c => exact if_neg fun (same : c = a) => unasking k (same ▸ booking)
    | held c p => exact if_neg fun (same : c = a) => unheld p (same ▸ booking)
  rw [works] at slot
  exact (recOpt_of_slot slot).trans here

/-! ### The answers and the bookings -/

omit sound in
theorem State.PeerLeft.inTx_workedOff : (v.workedOff s a).lbi.inTx = (v.recordsLeft s a).lbi.inTx := by
  rw [State.workedOff, lbi_placement, lbi_judgeSlots, before.dropEntries_recordsLeft, inTx_withdrawAnswers]
  exact inTx_dropEntries _

omit sound in
theorem State.PeerLeft.answer_workedOff (single : ∀ e ∈ s.lbi.tx, s.txEntry e.origin = some e) {e : TxEntry} {i : Fin 8}
    (m : e ∈ (v.workedOff s a).framesOf (.answer i)) (dest : e.frame.dest = destOf a) :
    (v.workedOff s a).lbi.inTx = .listed (.answer i) ∧ e.held = .withdraw := by
  have told := tells_toldGone v s a
  have frames : ((v.recordsLeft s a).dropEntries (s.bookedAway a)).framesOf (.answer i) = v.framesOf (.answer i) :=
    (framesOf_of_tx (tx_dropEntries _)).trans (((worksAll_recordsLeft v s a).frames _ (fun _ same => by cases same)
      fun _ same => by cases same).trans (framesOf_of_tx (congrArg Lbi.tx told.lbi)))
  have lbi : (v.workedOff s a).lbi = ((v.toldGone s a).departHandoff a).lbi := by
    rw [State.workedOff, lbi_placement, lbi_judgeSlots]
  have inTx : ((v.recordsLeft s a).dropEntries (s.bookedAway a)).lbi.inTx = (v.recordsLeft s a).lbi.inTx := inTx_dropEntries _
  rw [framesOf_of_tx (congrArg Lbi.tx lbi), before.dropEntries_recordsLeft] at m
  rw [before.inTx_workedOff, ← inTx]
  refine withdrawn_answers (fun x n => ?_) m (decide_eq_true dest)
  rw [txEntry_eq_head, frames, ← txEntry_eq_head]
  refine before.answers i (fun y stands => ?_) x (frames ▸ n)
  obtain ⟨listed, origin⟩ := mem_framesOf.mp stands
  exact origin ▸ single y listed

theorem State.PeerLeft.freed_workedOff (m : b ∈ s.bookings) (booker : b.booker = a) (idle : s.takenOut b = false) :
    ((v.workedOff s a).slot b.slot).state = .free := by
  have leaves : (v.recordsLeft s a).leavesSlot (s.bookedAway a) b.slot = true := by
    rw [before.leavesSlot_recordsLeft, State.leavesSlot, List.any_eq_true]
    exact ⟨b, m, by simp [State.bookedAway, booker, idle]⟩
  have free : (((v.toldGone s a).departHandoff a).slot b.slot).state = .free := by
    rw [before.dropEntries_recordsLeft, State.slot, store_withdrawAnswers, ← State.slot, state_dropEntries, if_pos leaves]
  have unused : ((v.toldGone s a).departHandoff a).rec? b.slot = none := by rw [State.rec?, free]
  rw [before.slot_workedOff (.inr unused), free]

/-- What concerned a in s ends as R159 gives. -/
theorem State.PeerLeft.dropped : s.PeerDropped (v.workedOff s a) a := by
  refine ⟨fun h r stands => ⟨fun k asking active => before.asking_workedOff sound stands asking active, fun p held => ?_,
    fun unasking unheld unqueued unwaiting => before.kept_workedOff sound stands unasking unheld unqueued unwaiting⟩,
    fun single e m i origin dest => ?_, fun b m booker idle => before.freed_workedOff sound m booker idle⟩
  · have drops (unqueued : r.state ≠ .queued) (untold : s.Untold a r) := before.held_workedOff sound stands held unqueued untold
    refine ⟨fun works => ?_, fun waits => ?_, fun out => ?_, fun waits told => ?_⟩
    · exact (drops (by rintro st; simp [st] at works) (by rintro st; simp [st] at works)).working works
    · exact (drops (by rintro st; simp [st] at waits) (by rintro st; simp [st] at waits)).waitsOn waits
    · exact (drops (by simp [out]) (fun st => by simp [out] at st)).outbound out
    · exact (drops (by simp [waits]) (fun _ => told)).waiting waits
  · rw [origin]
    exact before.answer_workedOff single (mem_framesOf.mpr ⟨m, origin⟩) dest

end

/-- PeerDropped speaks of the slots, the transmit list and what is in transmission alone. -/
theorem peerDropped_congr {u : State} (slots : ∀ h, u.slot h = t.slot h)
    (frames : ∀ o, o ≠ .upkeep → u.framesOf o = t.framesOf o) (inTx : u.lbi.inTx = t.lbi.inTx) (dropped : s.PeerDropped t a) :
    s.PeerDropped u a := by
  obtain ⟨records, answers, freed⟩ := dropped
  have rec_ (h : Handle) : u.rec? h = t.rec? h := recOpt_of_slot (slots h)
  have slot (h : Handle) : u.framesOf (.slot h) = t.framesOf (.slot h) := frames _ fun same => by cases same
  have waits (h : Handle) : (u.slot h).waits = (t.slot h).waits := congrArg Slot.waits (slots h)
  have reaches {h : Handle} {x : Record} {k : Nat} : (s.updPeer a Peer.gone).RoundReaches t h x k →
      (s.updPeer a Peer.gone).RoundReaches u h x k := reaches_of_kept (rec_ h) (slot h) (waits h)
  have anew {h : Handle} {x : Record} : (s.updPeer a Peer.gone).AsksAnew t h x → (s.updPeer a Peer.gone).AsksAnew u h x := by
    intro asks needs
    obtain ⟨inside, beyond⟩ := asks needs
    rw [rec_]
    exact ⟨fun gap => reaches (inside gap), beyond⟩
  refine ⟨fun h r stands => ?_, fun single e m i origin dest => ?_, fun b m booker idle => ?_⟩
  · obtain ⟨asking, held, kept⟩ := records h r stands
    refine ⟨fun k booking active => reaches (asking k booking active), fun p booking => ?_, fun unasking unheld unqueued unwaiting =>
      (rec_ h).trans (kept unasking unheld unqueued unwaiting)⟩
    obtain ⟨works, waits, out, told⟩ := held p booking
    exact ⟨fun st => (rec_ h).trans (works st), fun st => anew (waits st), fun st => anew (out st),
      fun st untold => anew (told st untold)⟩
  · have m' : e ∈ t.framesOf (.answer i) := by
      rw [← frames (.answer i) fun same => by cases same]
      exact mem_framesOf.mpr ⟨m, origin⟩
    rw [inTx]
    exact answers single e (mem_framesOf.mp m').1 i origin dest
  · rw [slots]
    exact freed b m booker idle

end

end Sys2Proof.Machine
end

section
/-! SUPPORT. The table, the events and the upkeep origin after a departure's work (R99, R125, R159). -/

namespace Sys2Proof.Machine
open Host

section
variable {s v : State} {a : Addr} {b : Booking} {f : BufferedFrame}

/-! ### What the work leaves alone -/

theorem events_judgeSlots_prefix (s : State) : s.port.events <+: s.judgeSlots.port.events := by
  unfold State.judgeSlots
  dsimp only
  split
  · split
    · exact List.prefix_rfl
    · refine List.IsPrefix.trans ?_ (events_post_prefix _ _)
      exact List.prefix_rfl
  · split
    · refine List.IsPrefix.trans ?_ (events_post_prefix _ _)
      exact List.prefix_rfl
    · exact List.prefix_rfl

theorem port_dropEntries (cond : Booking → Bool) (s : State) : (s.dropEntries cond).port = s.port := by rw [dropEntries_shape]

theorem bookings_dropEntries (cond : Booking → Bool) (s : State) :
    (s.dropEntries cond).bookings = s.bookings.filter fun b => !cond b := by rw [dropEntries_shape]

theorem bud_workedOff (v s : State) (a : Addr) : (v.workedOff s a).bud = goneTable s a := by
  rw [State.workedOff, bud_placement, bud_judgeSlots, bud_departHandoff, State.toldGone, bud_tellGrants]

theorem mem_departHandoff (a : Addr) (s : State) : (s.departHandoff a).mem = s.mem := by
  unfold State.departHandoff
  dsimp only
  rw [mem_withdrawAnswers, mem_dropEntries]
  exact mem_foldl _ (fun t h => mem_departRecord a t h) handles s

theorem mem_workedOff (v s : State) (a : Addr) : (v.workedOff s a).mem = v.mem := by
  rw [State.workedOff, mem_placement, mem_judgeSlots, mem_departHandoff, (tells_toldGone v s a).mem]

theorem conf_workedOff (v s : State) (a : Addr) : (v.workedOff s a).conf = v.conf := by
  refine (conf_of_still ?_).trans (tells_toldGone v s a).conf
  rw [State.workedOff, still_placement, still_judgeSlots, still_departHandoff]

section
variable (before : s.PeerLeft v a)
include before

theorem State.PeerLeft.bookings_workedOff : (v.workedOff s a).bookings = s.bookings.filter fun b => !s.bookedAway a b := by
  rw [State.workedOff, bookings_placement, bookings_judgeSlots, before.dropEntries_recordsLeft, bookings_withdrawAnswers,
    bookings_dropEntries, before.bookings_recordsLeft]

theorem State.PeerLeft.mem_bookings_workedOff : b ∈ (v.workedOff s a).bookings ↔ b ∈ s.bookings ∧ (b.booker ≠ a ∨ s.takenOut b = true) := by
  rw [before.bookings_workedOff, List.mem_filter]
  simp only [State.bookedAway, Bool.not_and, Bool.not_not, Bool.or_eq_true, Bool.not_eq_true', decide_eq_false_iff_not, ne_eq]

theorem State.PeerLeft.events_workedOff : v.port.events <+: (v.workedOff s a).port.events := by
  have told : v.port.events <+: (v.toldGone s a).port.events := (tells_toldGone v s a).events
  have worked := (worksAll_recordsLeft v s a).events
  have handedOff : ((v.toldGone s a).departHandoff a).port = (v.recordsLeft s a).port := by
    rw [before.dropEntries_recordsLeft, port_withdrawAnswers, port_dropEntries]
  rw [← handedOff] at worked
  have judged := (worked.trans (events_judgeSlots_prefix _)).trans (places_placement _).events
  rw [State.workedOff]
  exact told.trans judged

theorem State.PeerLeft.inTx_kept : (v.workedOff s a).lbi.inTx = v.lbi.inTx := by
  rw [before.inTx_workedOff, (worksAll_recordsLeft v s a).inTx]
  exact congrArg Lbi.inTx (tells_toldGone v s a).lbi

theorem State.PeerLeft.upkeep_kept : (v.workedOff s a).framesOf .upkeep = v.framesOf .upkeep := by
  rw [before.framesOf_workedOff fun _ same => by cases same]
  refine ((worksAll_recordsLeft v s a).frames _ (fun _ same => by cases same) fun _ same => by cases same).trans ?_
  exact framesOf_of_tx (congrArg Lbi.tx (tells_toldGone v s a).lbi)

end

/-! ### The frame that brings it about (R125) -/

/-- A frame that says that a has gone, or joins anew. -/
def BufferedFrame.Goes (f : BufferedFrame) (a : Addr) : Prop :=
  (f.kind = .depart ∧ f.payload = [byte a.val]) ∨ (f.kind = .leave ∧ f.payload = [] ∧ f.sender = a)
    ∨ ∃ role, f.kind = .join ∧ f.payload = [roleCode role] ∧ f.sender = a

theorem applyFrame_goes (goes : f.Goes a) (t : BudgetTable) : applyFrame t f = applyGone { t with seqNo := t.seqNo + 1 } a := by
  obtain ⟨kind, payload⟩ | ⟨kind, payload, sender⟩ | ⟨role, kind, payload, sender⟩ := goes
  · simp only [applyFrame, kind, kindReplicated, if_true, payload, departPayload_byte]
  · simp only [applyFrame, kind, kindReplicated, if_true, payload, sender]
  · simp only [applyFrame, kind, kindReplicated, if_true, payload, sender, joinPayload_role, Option.isSome_some]

theorem BufferedFrame.Goes.plain (goes : f.Goes a) : f.kind ≠ .claim ∧ f.kind ≠ .release := by
  obtain ⟨kind, -⟩ | ⟨kind, -⟩ | ⟨role, kind, -⟩ := goes <;> rw [kind] <;> exact ⟨by decide, by decide⟩

theorem takeReplicated_goes (goes : f.Goes a) (bud : v.bud = s.bud) (own : Bool) : v.takeReplicated f own = v.toldGone s a := by
  obtain ⟨notClaim, notRelease⟩ := goes.plain
  simp only [State.takeReplicated, applyFrame_goes goes, bud, notClaim, notRelease, decide_false, Bool.and_false, Bool.false_eq_true,
    if_false]
  rfl

theorem dropPeerWork_goes (goes : f.Goes a) (bud : v.bud = s.bud) : v.dropPeerWork a f = v.workedOff s a := by
  rw [State.dropPeerWork, takeReplicated_goes goes bud]
  rfl

end

end Sys2Proof.Machine
end

section
/-! SUPPORT. What a departure does before the table's work: the peer list, the transmit list and the join queue (R98 to
R102). -/

namespace Sys2Proof.Machine
open Host

section
variable {s t u v : State} {a c x : Addr} {o : Origin} {own : OwnTx} {e : TxEntry} {f : Frame}

/-! ### Changes aside -/

theorem State.Aside.trans (first : s.Aside t) (then_ : t.Aside u) : s.Aside u where
  states h := (then_.states h).trans (first.states h)
  bookings := then_.bookings.trans first.bookings
  queues := then_.queues.trans first.queues
  links p := (then_.links p).trans (first.links p)
  conf := then_.conf.trans first.conf
  bud := then_.bud.trans first.bud
  taken f kind := (then_.taken f kind).trans (first.taken f kind)
  answers i single := then_.answers i (first.answers i single)

theorem slotState_states (s : State) (h : Handle) : (s.slot h).state = s.states[h] := by
  simp only [State.states, State.slot, Fin.getElem_fin, Vector.getElem_map]

/-- A change of the transmit list that leaves the answers as they are. -/
theorem aside_of (states : t.states = s.states) (seqr : t.seqr = s.seqr) (bookings : t.bookings = s.bookings)
    (rush : t.store.rushQueue = s.store.rushQueue) (ordinary : t.store.ordinaryQueue = s.store.ordinaryQueue)
    (conf : t.conf = s.conf) (bud : t.bud = s.bud) (answers : ∀ i, t.framesOf (.answer i) = s.framesOf (.answer i))
    (taken : ∀ f : Frame, f.kind = .taken → (t.frameOut = some f ↔ s.frameOut = some f)) : s.Aside t where
  states h := by rw [slotState_states, slotState_states, states]
  bookings := bookings
  queues := arrivalQueue_of_queues rush ordinary
  links p := by rw [State.pos, seqr, ← State.pos]
  conf := conf
  bud := bud
  taken := taken
  answers i single e m := by
    rw [answers] at m
    rw [txEntry_eq_head, answers, ← txEntry_eq_head]
    exact single e m

/-- A change of the rest of the station. -/
theorem aside_of_parts (store : t.store = s.store) (seqr : t.seqr = s.seqr) (bookings : t.bookings = s.bookings)
    (conf : t.conf = s.conf) (bud : t.bud = s.bud) (tx : t.lbi.tx = s.lbi.tx) (inTx : t.lbi.inTx = s.lbi.inTx) : s.Aside t := by
  refine aside_of ?_ seqr bookings (by rw [store]) (by rw [store]) conf bud (fun i => framesOf_of_tx tx) fun f _ => ?_
  · rw [State.states, State.states, store]
  · simp only [frameOut_eq, inTx, framesOf_of_tx tx]

theorem frameOut_withdrawTx (o : Origin) (s : State) : (s.withdrawTx o).frameOut = s.frameOut := by
  rw [frameOut_eq, frameOut_eq, inTx_withdrawTx]
  cases inTx : s.lbi.inTx with
  | idle => rfl
  | orphan f => rfl
  | listed u =>
    simp only [framesOf_withdrawTx]
    by_cases same : o = u
    · rw [if_pos same, if_pos (sending_iff.mpr (same ▸ inTx)), List.head?_map, Option.map_map]
      rfl
    · rw [if_neg same]

theorem aside_withdrawTx (other : ∀ i, o ≠ .answer i) (s : State) : s.Aside (s.withdrawTx o) := by
  refine aside_of ?_ (by simp) (by simp) (by simp) (by simp) (conf_of_still (still_withdrawTx o s)) (by simp) (fun i => ?_) fun f _ => ?_
  · rw [State.states, State.states, store_withdrawTx]
  · rw [framesOf_withdrawTx, if_neg (other i)]
  · rw [frameOut_withdrawTx]

theorem aside_updPeer (a : Addr) (g : Peer → Peer) (s : State) : s.Aside (s.updPeer a g) :=
  aside_of_parts rfl rfl rfl rfl rfl rfl rfl

theorem aside_setJoinQueue (l : List Joiner) (s : State) : s.Aside (s.setJoinQueue l) :=
  aside_of_parts rfl rfl rfl rfl rfl rfl rfl

theorem aside_post (n : Event) (s : State) : s.Aside (s.post n) :=
  aside_of_parts (store_post ..) (by simp) (by simp) (conf_of_still (still_post n s)) (by simp) (by simp) (by simp)

theorem aside_refl (s : State) : s.Aside s := aside_of_parts rfl rfl rfl rfl rfl rfl rfl

theorem aside_heard (a : Addr) (s : State) : s.Aside (s.heard a) := by
  have counted : s.Aside s.countClean := aside_of_parts rfl rfl rfl rfl rfl rfl rfl
  refine counted.trans ?_
  rw [State.heard, State.noteSender]
  split
  · exact (aside_updPeer _ _ _).trans (aside_withdrawTx (fun i same => by cases same) _)
  · exact aside_refl _

theorem aside_peerGone (a : Addr) (c : GoneCause) (s : State) : s.Aside (s.peerGone a c) := by
  unfold State.peerGone
  split
  · exact aside_refl s
  · exact (aside_updPeer _ _ _).trans (aside_post _ _)

theorem aside_stopServing (s : State) : s.Aside s.stopServing := by
  have unserved : s.Aside { s with mem := { s.mem with serving := none } } := aside_of_parts rfl rfl rfl rfl rfl rfl rfl
  refine unserved.trans ?_
  rw [State.stopServing, State.withdrawUpkeep]
  split
  · split
    · exact aside_withdrawTx (fun i same => by cases same) _
    · exact aside_refl _
  · exact aside_refl _

theorem aside_leaveQueue (a : Addr) (s : State) : s.Aside (s.leaveQueue a) := by
  refine State.Aside.trans ?_ (aside_setJoinQueue _ _)
  unfold State.stopServingOf
  split
  · split
    · exact aside_stopServing s
    · exact aside_refl s
  · exact aside_refl s

/-! ### The station's own frame -/

theorem framesOf_pumpOrigin_answer (o : Origin) (i : Fin 8) (s : State) : (s.pumpOrigin o).framesOf (.answer i) = s.framesOf (.answer i) := by
  cases o with
  | slot h => exact (worksOn_pumpSlot (h := h) s).frames _ fun serves => serves.elim nofun fun ⟨p, same⟩ => nomatch same
  | upkeep =>
    change (s.pumpUpkeep).framesOf _ = _
    unfold State.pumpUpkeep
    split
    · split
      · rfl
      · exact framesOf_queueFrame_ne _ nofun
    · rfl
  | position p => rfl
  | answer j => rfl
  | presence => rfl
  | departure b => rfl
  | capacity b => rfl

theorem inTx_finishOwn (own : OwnTx) (s : State) : (s.finishOwn own).lbi.inTx = if own = .foreign then s.lbi.inTx else .idle := by
  cases own with
  | foreign => rfl
  | orphan f => rfl
  | listed e =>
    rw [if_neg nofun, State.finishOwn, inTx_restartStall, inTx_pumpOrigin]
    cases e.held with
    | replace f => simp only [inTx_queueFrame]; rfl
    | withdraw => rfl
    | none => rfl

/-- The answers left when the station's own frame is off the list. -/
theorem answers_finishOwn (own : OwnTx) (s : State) {i : Fin 8} (single : ∀ e ∈ s.framesOf (.answer i), s.txEntry (.answer i) = some e) :
    ∀ e ∈ (s.finishOwn own).framesOf (.answer i), (s.finishOwn own).txEntry (.answer i) = some e := by
  cases own with
  | foreign => exact single
  | orphan f => exact single
  | listed e =>
    have removed : ∀ x ∈ ((s.removeTx e.origin).setInTx .idle).framesOf (.answer i),
        ((s.removeTx e.origin).setInTx .idle).txEntry (.answer i) = some x := by
      intro x m
      have frames : ((s.removeTx e.origin).setInTx .idle).framesOf (.answer i) = if e.origin = .answer i then [] else s.framesOf (.answer i) :=
        framesOf_removeTx
      rw [frames] at m
      rw [txEntry_eq_head, frames]
      split at m
      · cases m
      · next other =>
        rw [if_neg other, ← txEntry_eq_head]
        exact single x m
    have queued (u : State) (f : Frame) (alone : ∀ x ∈ u.framesOf (.answer i), u.txEntry (.answer i) = some x) :
        ∀ x ∈ (u.queueFrame e.origin f).framesOf (.answer i), (u.queueFrame e.origin f).txEntry (.answer i) = some x := by
      intro x m
      rw [framesOf_queueFrame] at m
      rw [txEntry_eq_head, framesOf_queueFrame]
      split at m
      · next new =>
        rw [if_pos new, List.mem_singleton.mp m]
        rfl
      · next old =>
        rw [if_neg old, ← txEntry_eq_head]
        exact alone x m
    have pumped (u : State) (alone : ∀ x ∈ u.framesOf (.answer i), u.txEntry (.answer i) = some x) :
        ∀ x ∈ (u.pumpOrigin e.origin).restartStall.framesOf (.answer i), (u.pumpOrigin e.origin).restartStall.txEntry (.answer i) = some x := by
      intro x m
      have frames : (u.pumpOrigin e.origin).restartStall.framesOf (.answer i) = u.framesOf (.answer i) :=
        framesOf_pumpOrigin_answer e.origin i u
      rw [txEntry_eq_head, frames, ← txEntry_eq_head]
      exact alone x (frames ▸ m)
    unfold State.finishOwn
    refine pumped _ ?_
    split
    · exact queued _ _ removed
    · exact removed
    · exact removed

/-- The frame in transmission is of the kind that has appeared, where it is this station's own. -/
theorem frameOut_ownTx (appeared : s.ownTx a f ≠ .foreign) : s.frameOut = none ∨ s.frameOut = some f := by
  unfold State.ownTx at appeared
  rw [State.frameOut]
  split at appeared
  · exact absurd rfl appeared
  · split at appeared
    · next g orphan =>
      rw [orphan]
      split at appeared
      · next same => exact .inr (congrArg some same)
      · exact absurd rfl appeared
    · next o listed =>
      rw [listed]
      split at appeared
      · next e entry =>
        split at appeared
        · next same => exact .inr (by simp [entry, same])
        · exact absurd rfl appeared
      · exact absurd rfl appeared
    · next idle =>
      rw [idle]
      exact .inl rfl

theorem aside_finishOwn (kind : f.kind ≠ .taken) (s : State) (a : Addr) : s.Aside (s.finishOwn (s.ownTx a f)) where
  states h := by rw [slotState_states, slotState_states, states_finishOwn]
  bookings := bookings_finishOwn _ _
  queues := arrivalQueue_of_queues (rushQueue_finishOwn _ _) (ordinaryQueue_finishOwn _ _)
  links p := by rw [State.pos, seqr_finishOwn, ← State.pos]
  conf := conf_of_still (still_finishOwn _ _)
  bud := bud_finishOwn _ _
  answers i single := answers_finishOwn _ s single
  taken g sent := by
    by_cases foreign : s.ownTx a f = .foreign
    · rw [foreign]
      exact Iff.rfl
    · have ended : (s.finishOwn (s.ownTx a f)).frameOut = none := by
        rw [frameOut_eq, inTx_finishOwn, if_neg foreign]
      rw [ended]
      refine ⟨nofun, fun out => ?_⟩
      obtain none | some_ := frameOut_ownTx foreign
      · rw [out] at none
        cases none
      · obtain rfl := Option.some.inj (out.symm.trans some_)
        exact absurd sent kind

end

end Sys2Proof.Machine
end

section
/-! SUPPORT. Another station gone from the line of a JOINED one (R99, R100, R102, R125, R159). -/

namespace Sys2Proof.Machine
open Host

section
variable {s t u v : State} {a c x : Addr} {cause : GoneCause} {f : BufferedFrame}

/-- The departure of a as the statement gives it: what t has kept of s, and what not. -/
def State.WithoutPeer (s t : State) (a : Addr) (cause : Nat) : Prop :=
  t.mem.line = .joined
  ∧ (t.peer a).state = .absent ∧ (t.peer a).epoch = (s.peer a).epoch
  ∧ ((s.peer a).state ≠ .absent →
    (t.peer a).timer = none ∧ (t.peer a).freePositions = 0 ∧ (t.peer a).freeSlots = 0
    ∧ (s.port.events = [] → t.port.events.head? = some (stationEvent .peerGone (a.val * 256 + cause))))
  ∧ t.bud = { capacities := s.bud.capacities, seqNo := s.bud.seqNo + 1,
              entries := (grantScan s.bud.capacities (s.bud.entries.filter fun e => e.station ≠ a)).1 }
  ∧ (∀ b, b ∈ t.bookings ↔ b ∈ s.bookings ∧ (b.booker ≠ a ∨ s.takenOut b = true))
  ∧ t.mem.joinQueue = s.mem.joinQueue.filter (fun j => j.address ≠ a)
  ∧ (∀ c, c ≠ a → (t.peer c).state = (s.peer c).state ∧ (t.peer c).epoch = (s.peer c).epoch)
  ∧ (Sound s → s.PeerDropped t a)

/-- State u comes from a JOINED s by what every appearance does to the transmit list and the timers (R83 to R88, R97). -/
structure State.Noted (s u : State) : Prop extends s.Aside u where
  line : u.mem.line = .joined
  peers : ∀ c, (u.peer c).state = (s.peer c).state ∧ (u.peer c).epoch = (s.peer c).epoch ∧ (u.peer c).role = (s.peer c).role
  queue : u.mem.joinQueue = s.mem.joinQueue
  events : u.port.events = s.port.events

/-! ### The peer list -/

theorem peer_post (e : Event) (s : State) (c : Addr) : (s.post e).peer c = s.peer c := by
  rw [State.peer, mem_post, ← State.peer]

theorem peer_workedOff (v s : State) (a c : Addr) : (v.workedOff s a).peer c = v.peer c := by
  rw [State.peer, mem_workedOff, ← State.peer]

theorem peer_tryServe (t : State) (c : Addr) : t.tryServe.peer c = t.peer c := by
  rw [State.peer, peers_tryServe, ← State.peer]

theorem joinQueue_tryServe (t : State) : t.tryServe.mem.joinQueue = t.mem.joinQueue := by
  obtain ⟨v, served⟩ := mem_tryServe t
  rw [served]

theorem line_workedOff (v s : State) (a : Addr) : (v.workedOff s a).mem.line = v.mem.line := by rw [mem_workedOff]

theorem joinQueue_workedOff (v s : State) (a : Addr) : (v.workedOff s a).mem.joinQueue = v.mem.joinQueue := by rw [mem_workedOff]

theorem peer_peerGone (c : Addr) : (u.peerGone a cause).peer c =
    if a = c ∧ (u.peer a).state ≠ .absent then (u.peer a).gone else u.peer c := by
  unfold State.peerGone
  split
  · next absent => rw [if_neg fun both => both.2 absent]
  · next stands =>
    rw [peer_post]
    by_cases same : a = c
    · subst same
      rw [if_pos ⟨rfl, stands⟩, peer_updPeer_same]
    · rw [if_neg fun both => same both.1, peer_updPeer, if_neg same]

theorem peer_leaveQueue (a c : Addr) (u : State) : (u.leaveQueue a).peer c = u.peer c := by
  rw [State.peer, peers_leaveQueue, ← State.peer]

theorem joinQueue_leaveQueue (a : Addr) (u : State) :
    (u.leaveQueue a).mem.joinQueue = u.mem.joinQueue.filter fun j => decide (j.address ≠ a) := rfl

theorem joinQueue_peerGone : (u.peerGone a cause).mem.joinQueue = u.mem.joinQueue := by
  unfold State.peerGone
  split
  · rfl
  · rw [mem_post]
    rfl

/-- The state before the table's work at a departure. -/
theorem State.Noted.left (noted : s.Noted u) (cause : GoneCause) : s.PeerLeft ((u.peerGone a cause).leaveQueue a) a where
  toAside := (noted.toAside.trans (aside_peerGone a cause u)).trans (aside_leaveQueue a _)
  joined := by
    rw [isJoined_iff, line_leaveQueue, line_peerGone]
    exact noted.line
  peers := by
    refine samePeers_of ?_ fun c role => ?_
    · exact ((noted.toAside.trans (aside_peerGone a cause u)).trans (aside_leaveQueue a _)).conf
    · obtain ⟨state, -, role'⟩ := noted.peers c
      rw [peer_leaveQueue, peer_peerGone]
      by_cases same : a = c
      · subst same
        rw [peer_updPeer_same]
        split
        · simp [Peer.gone]
        · next absent =>
          have none : (u.peer a).state = .absent := by tauto
          simp [Peer.gone, none]
      · rw [if_neg fun both => same both.1, peer_updPeer, if_neg same, state, role']

/-! ### The whole departure -/

theorem dropped_tryServe (dropped : s.PeerDropped t a) : s.PeerDropped t.tryServe a := by
  refine peerDropped_congr (fun h => ?_) (fun o other => ?_) ?_ dropped
  · rw [State.slot, store_tryServe, ← State.slot]
  · unfold State.tryServe
    split
    · split
      · exact framesOf_queueFrame_ne _ other.symm
      · rfl
    · rfl
  · exact inTx_tryServe t

theorem events_peerGone_head (active : u.isActive = true) (stands : (u.peer a).state ≠ .absent) (quiet : u.port.events = []) :
    (u.peerGone a cause).port.events = [stationEvent .peerGone (a.val * 256 + goneCode cause)] := by
  have posted : u.peerGone a cause = (u.updPeer a Peer.gone).post (stationEvent .peerGone (a.val * 256 + goneCode cause)) :=
    if_neg stands
  have quiet' : (u.updPeer a Peer.gone).port.events = [] := quiet
  have active' : (u.updPeer a Peer.gone).isActive = true := active
  rw [posted, events_post_active active' (by rw [quiet']; decide), quiet']
  rfl

theorem State.Noted.gone (noted : s.Noted u) (cause : GoneCause) :
    s.WithoutPeer ((((u.peerGone a cause).leaveQueue a).workedOff s a).tryServe) a (goneCode cause) := by
  have left := noted.left (a := a) cause
  have peer (c : Addr) : ((((u.peerGone a cause).leaveQueue a).workedOff s a).tryServe).peer c =
      if a = c ∧ (u.peer a).state ≠ .absent then (u.peer a).gone else u.peer c := by
    rw [peer_tryServe, peer_workedOff, peer_leaveQueue, peer_peerGone]
  obtain ⟨state, epoch, -⟩ := noted.peers a
  refine ⟨?_, ?_, ?_, fun stands => ?_, ?_, fun b => ?_, ?_, fun c other => ?_, fun sound => ?_⟩
  · rw [line_tryServe, line_workedOff, line_leaveQueue, line_peerGone]
    exact noted.line
  · rw [peer]
    split
    · rfl
    · tauto
  · rw [peer, ← epoch]
    split <;> rfl
  · have stands' : (u.peer a).state ≠ .absent := by rwa [state]
    rw [peer, if_pos ⟨rfl, stands'⟩]
    refine ⟨rfl, rfl, rfl, fun quiet => ?_⟩
    have first := events_peerGone_head (cause := cause) (isActive_of_joined noted.line) stands' (noted.events.trans quiet)
    have kept := left.events_workedOff
    rw [events_leaveQueue, first] at kept
    obtain ⟨rest, events⟩ := kept
    rw [events_tryServe, ← events]
    rfl
  · rw [bud_tryServe, bud_workedOff]
    rfl
  · rw [bookings_tryServe]
    exact left.mem_bookings_workedOff
  · rw [joinQueue_tryServe, joinQueue_workedOff, joinQueue_leaveQueue, joinQueue_peerGone, noted.queue]
  · rw [peer, if_neg fun both => other both.1.symm]
    exact ⟨(noted.peers c).1, (noted.peers c).2.1⟩
  · exact dropped_tryServe (left.dropped sound)

end

end Sys2Proof.Machine
end

section
/-! A DEPART or LEAVE that appears (R98 to R100, R110, R114). -/

namespace Sys2Proof.Machine
open Host

section
variable {s u : State} {a x : Addr} {dest : BitVec 5} {payload : List Byte} {kind : FrameKind}

/-! ### What every appearance does first -/

theorem noted_heard (joined : s.mem.line = .joined) (other : x ≠ s.conf.address) : s.Noted (s.heard x) where
  toAside := aside_heard x s
  line := line_heard.trans joined
  peers c := by
    rw [peer_heard joined other]
    split
    · next same => exact same ▸ ⟨rfl, rfl, rfl⟩
    · exact ⟨rfl, rfl, rfl⟩
  queue := joinQueue_heard
  events := events_heard

theorem State.Noted.withdrawTx {o : Origin} (noted : s.Noted u) (other : ∀ i, o ≠ .answer i) : s.Noted (u.withdrawTx o) where
  toAside := noted.toAside.trans (aside_withdrawTx other u)
  line := by rw [mem_withdrawTx]; exact noted.line
  peers c := by rw [State.peer, mem_withdrawTx, ← State.peer]; exact noted.peers c
  queue := by rw [mem_withdrawTx]; exact noted.queue
  events := by rw [port_withdrawTx]; exact noted.events

/-- A frame of the station's own, off its list where it was the one sent (R85, R88). -/
def State.ownSent (s : State) (f : Frame) : State := s.countClean.finishOwn (s.ownTx s.conf.address f)

theorem noted_ownSent {f : Frame} (joined : s.mem.line = .joined) (plain : f.kind ≠ .taken) : s.Noted (s.ownSent f) where
  toAside := (aside_of_parts rfl rfl rfl rfl rfl rfl rfl : s.Aside s.countClean).trans (aside_finishOwn plain s.countClean s.conf.address)
  line := by rw [State.ownSent, line_finishOwn]; exact joined
  peers c := by rw [State.peer, State.ownSent, peers_finishOwn]; exact ⟨rfl, rfl, rfl⟩
  queue := by rw [State.ownSent, joinQueue_finishOwn]; rfl
  events := by rw [State.ownSent, events_finishOwn]; rfl

/-- A replicated frame of this station's own at a JOINED one goes to the blocks once it is off the list. -/
theorem appear_own_any (joined : s.mem.line = .joined) (plain : kind ≠ .join) (replicated : kindReplicated kind = true)
    (blocks : OwnTx → State → State) : s.appear kind s.conf.address dest payload blocks =
      (blocks (s.ownTx s.conf.address { kind := kind, dest := dest, payload := payload })
        (s.ownSent { kind := kind, dest := dest, payload := payload })).tryServe := by
  have conf : (s.ownSent { kind := kind, dest := dest, payload := payload }).conf = s.conf :=
    conf_of_still ((still_finishOwn _ _).trans rfl)
  have line : (s.ownSent { kind := kind, dest := dest, payload := payload }).mem.line = .joined := by
    rw [State.ownSent, line_finishOwn]
    exact joined
  have noted : (s.ownSent { kind := kind, dest := dest, payload := payload }).noteSender s.conf.address =
      s.ownSent { kind := kind, dest := dest, payload := payload } := noteSender_still (.inr (by rw [conf]))
  rw [appear_active (isActive_of_joined joined), countAppeared_clean (.inl plain)]
  dsimp only
  rw [← State.ownSent, noted, noteBar_settled (by rw [line]; decide), if_pos (receives_of_replicated replicated _ _ _)]

/-- A replicated frame of another station at a JOINED one goes to the blocks once it is noted. -/
theorem appear_other_any (joined : s.mem.line = .joined) (other : x ≠ s.conf.address) (replicated : kindReplicated kind = true)
    (blocks : OwnTx → State → State) :
    s.appear kind x dest payload blocks = (blocks .foreign (s.heard x)).tryServe := by
  rw [appear_foreign (isActive_of_joined joined) other (by rw [joined]; decide), if_pos (receives_of_replicated replicated _ _ _)]

/-! ### The blocks at a DEPART or LEAVE -/

theorem onDepart_joined (line : u.mem.line = .joined) (other : a ≠ u.conf.address) : u.onDepart x [byte a.val] =
    (((if u.isOwn x then u else u.withdrawTx (.departure a)).peerGone a .depart).leaveQueue a).dropPeerWork a
      { kind := .depart, sender := x, payload := [byte a.val] } := by
  simp only [State.onDepart, line, State.departJoined, departPayload_byte]
  exact if_neg other

theorem onDepart_self (line : u.mem.line = .joined) :
    u.onDepart x [byte u.conf.address.val] = (u.peerGone u.conf.address .depart).detach .departed := by
  simp only [State.onDepart, line, State.departJoined, departPayload_byte, if_true]

theorem onLeave_joined (line : u.mem.line = .joined) (other : a ≠ u.conf.address) : u.onLeave a [] =
    ((u.peerGone a .leave).leaveQueue a).dropPeerWork a { kind := .leave, sender := a, payload := [] } := by
  simp only [State.onLeave, line, isOwn_foreign other, ne_eq, not_true_eq_false, if_false, Bool.false_eq_true]

theorem onLeave_self (line : u.mem.line = .joined) : u.onLeave u.conf.address [] = u.goOut := by
  simp only [State.onLeave, line, ne_eq, not_true_eq_false, if_false]
  exact if_pos (decide_eq_true rfl)

/-- The departure of a where its frame has been noted. -/
theorem State.Noted.departs {cause : GoneCause} {f : BufferedFrame} (noted : s.Noted u) (goes : f.Goes a) :
    s.WithoutPeer (((u.peerGone a cause).leaveQueue a).dropPeerWork a f).tryServe a (goneCode cause) := by
  have left := noted.left (a := a) cause
  rw [dropPeerWork_goes goes left.bud]
  exact noted.gone cause

theorem departs_depart (joined : s.mem.line = .joined) (other : a ≠ s.conf.address) :
    ∃ t : State, exec (.departAppears x dest [byte a.val]) s = .next t ∧ s.WithoutPeer t a 1 := by
  have goes : ({ kind := .depart, sender := x, payload := [byte a.val] } : BufferedFrame).Goes a := .inl ⟨rfl, rfl⟩
  by_cases own : x = s.conf.address
  · subst own
    have noted := noted_ownSent (f := { kind := .depart, dest := dest, payload := [byte a.val] }) joined nofun
    refine ⟨_, congrArg Outcome.next (appear_own_any joined (by decide) rfl _), ?_⟩
    have mine : (s.ownSent { kind := .depart, dest := dest, payload := [byte a.val] }).isOwn s.conf.address = true :=
      decide_eq_true (by rw [noted.conf])
    rw [onDepart_joined noted.line (by rw [noted.conf]; exact other), if_pos mine]
    exact noted.departs goes
  · have heard := noted_heard joined own
    refine ⟨_, congrArg Outcome.next (appear_other_any joined own rfl _), ?_⟩
    rw [onDepart_joined heard.line (by rw [heard.conf]; exact other), if_neg (by rw [isOwn_foreign (by rw [heard.conf]; exact own)]; decide)]
    exact (heard.withdrawTx fun i same => by cases same).departs goes

theorem departs_leave (joined : s.mem.line = .joined) (other : a ≠ s.conf.address) :
    ∃ t : State, exec (.leaveAppears a dest []) s = .next t ∧ s.WithoutPeer t a 2 := by
  have heard := noted_heard joined other
  refine ⟨_, congrArg Outcome.next (appear_other_any joined other rfl _), ?_⟩
  rw [onLeave_joined heard.line (by rw [heard.conf]; exact other)]
  exact heard.departs (.inr (.inl ⟨rfl, rfl, rfl⟩))

/-! ### A frame that takes this station itself off the line -/

theorem depart_joining (joining : s.mem.line = .joining) (other : x ≠ s.conf.address) :
    exec (.departAppears x dest [byte s.conf.address.val]) s = .next ((s.heard x).detach .departed) := by
  have active : s.isActive = true := by simp [State.isActive, joining]
  have bar : (s.heard x).noteBar .depart [byte s.conf.address.val] = s.heard x := by simp [State.noteBar, barsFirst]
  have line : (s.heard x).mem.line = .joining := line_heard.trans joining
  have detaches : (s.heard x).onDepart x [byte s.conf.address.val] = (s.heard x).detach .departed := by
    simp only [State.onDepart, line, departPayload_byte, conf_heard, if_true]
  refine congrArg Outcome.next ((appear_foreign_noted active other _).trans ?_)
  rw [bar, if_pos (receives_of_replicated rfl _ _ _)]
  rw [detaches, tryServe_detached (isOnLine_iff.mpr (.inl line))]

theorem depart_joined (joined : s.mem.line = .joined) (other : x ≠ s.conf.address)
    (stands : (s.peer s.conf.address).state = .joined) : exec (.departAppears x dest [byte s.conf.address.val]) s =
      .next (State.detach .departed (State.post (stationEvent .peerGone (s.conf.address.val * 256 + 1))
        ((s.heard x).updPeer s.conf.address Peer.gone))) := by
  have heard := noted_heard joined other
  have there : ((s.heard x).peer s.conf.address).state ≠ .absent := by
    rw [(heard.peers s.conf.address).1, stands]
    decide
  have self : (s.heard x).onDepart x [byte s.conf.address.val] = ((s.heard x).peerGone s.conf.address .depart).detach .departed := by
    have named := onDepart_self (x := x) heard.line
    rwa [heard.conf] at named
  refine congrArg Outcome.next ((appear_other_any joined other rfl _).trans ?_)
  rw [self, tryServe_detached]
  · rw [State.peerGone, if_neg there]
    rfl
  · rw [isOnLine_iff, line_peerGone]
    exact .inr heard.line

theorem depart_off (off : s.mem.line = .detached ∨ s.mem.line = .out ∨ s.mem.line = .mismatch) (other : x ≠ s.conf.address) :
    exec (.departAppears x dest payload) s = .next (s.heard x) := by
  have active : s.isActive = true := by obtain line | line | line := off <;> simp [State.isActive, line]
  have unjoining : s.mem.line ≠ .joining := by obtain line | line | line := off <;> simp [line]
  have unjoined : (s.heard x).mem.line ≠ .joined := by rw [line_heard]; obtain line | line | line := off <;> simp [line]
  have ignored : (s.heard x).onDepart x payload = s.heard x := by
    have heard : (s.heard x).mem.line = s.mem.line := line_heard
    obtain line | line | line := off <;> simp only [State.onDepart, heard, line]
  refine congrArg Outcome.next ((appear_foreign active other unjoining _).trans ?_)
  rw [ignored, ite_self, tryServe_unjoined unjoined]

/-! ### The station's own LEAVE (R114) -/

theorem goOut_eq (s : State) : s.goOut = ((s.lineLost .out).judgeSlots.placement).postLineState .left := by
  rw [State.goOut, loseLine_eq, ← State.lineLost]

theorem mem_goOut (s : State) : s.goOut.mem = s.mem.offLine .out := by rw [State.goOut, mem_postLineState, mem_loseLine]

theorem claim_goOut (s : State) (p : PosIx) : (s.goOut.pos p).claim = .none := by
  rw [goOut_eq, State.pos, seqr_postLineState, ← State.pos, (placed_of_judged (s.lineLost .out)).2.2 p]
  exact ((strands_lineLost s .out).hushed (hushed_lineDropped s .out)).claims p

theorem tx_goOut (s : State) : s.goOut.lbi.tx = [] := by
  rw [goOut_eq, lbi_postLineState, lbi_placement, (rest_judgeSlots _).1, (strands_lineLost s .out).rest.2.1]
  exact (rest_lineDropped s .out).2.1

theorem bud_goOut (s : State) : s.goOut.bud = BudgetTable.empty := by
  rw [goOut_eq, bud_postLineState, bud_placement, (rest_judgeSlots _).2.1, (strands_lineLost s .out).rest.2.2.1]
  exact (rest_lineDropped s .out).2.2.2.1

theorem mem_finishOwn (own : OwnTx) (s : State) : ∃ next, (s.finishOwn own).mem = { s.mem with upkeepNext := next } := by
  cases own with
  | foreign => exact ⟨_, rfl⟩
  | orphan f => exact ⟨_, rfl⟩
  | listed e =>
    have pumped (u : State) : ∃ next, (u.pumpOrigin e.origin).mem = { u.mem with upkeepNext := next } := by
      cases e.origin with
      | slot h => exact ⟨_, mem_pumpSlot h u⟩
      | upkeep =>
        change ∃ next, u.pumpUpkeep.mem = _
        unfold State.pumpUpkeep
        split
        · split
          · exact ⟨_, rfl⟩
          · exact ⟨_, mem_queueFrame _ _ _⟩
        · exact ⟨_, rfl⟩
      | position p => exact ⟨_, rfl⟩
      | answer i => exact ⟨_, rfl⟩
      | presence => exact ⟨_, rfl⟩
      | departure b => exact ⟨_, rfl⟩
      | capacity b => exact ⟨_, rfl⟩
    unfold State.finishOwn
    dsimp only
    split
    · next f _ =>
      obtain ⟨next, same⟩ := pumped (((s.removeTx e.origin).setInTx .idle).queueFrame e.origin f)
      refine ⟨next, (mem_restartStall _).trans (same.trans ?_)⟩
      rw [mem_queueFrame]
      rfl
    · exact pumped ((s.removeTx e.origin).setInTx .idle)
    · exact pumped ((s.removeTx e.origin).setInTx .idle)

theorem leave_own (joined : s.mem.line = .joined) : ∃ t : State, exec (.leaveAppears s.conf.address dest []) s = .next t
    ∧ t.mem = s.mem.offLine .out ∧ t.lbi.tx = [] ∧ t.bud = BudgetTable.empty ∧ ∀ p, (t.pos p).claim = .none := by
  have noted := noted_ownSent (f := { kind := .leave, dest := dest, payload := [] }) joined nofun
  obtain ⟨next, mem⟩ := mem_finishOwn (s.ownTx s.conf.address { kind := .leave, dest := dest, payload := [] }) s.countClean
  rw [← State.ownSent] at mem
  have out : (s.ownSent { kind := .leave, dest := dest, payload := [] }).onLeave s.conf.address [] =
      (s.ownSent { kind := .leave, dest := dest, payload := [] }).goOut := by
    have named := onLeave_self noted.line
    rwa [noted.conf] at named
  refine ⟨(s.ownSent { kind := .leave, dest := dest, payload := [] }).goOut,
    congrArg Outcome.next ((appear_own_any joined (by decide) rfl _).trans ?_), ?_, tx_goOut _, bud_goOut _, claim_goOut _⟩
  · rw [out, tryServe_unjoined]
    rw [mem_goOut]
    exact nofun
  · rw [mem_goOut, mem]
    rfl

end

/-- Settles O47. -/
theorem departuresAppear : Obligations.DeparturesAppear := by
  refine ⟨fun a x dest s joined other => ⟨departs_depart joined other, departs_leave joined other⟩,
    fun x dest s => ⟨depart_joining, depart_joined, depart_off, fun joined => ?_⟩⟩
  obtain ⟨t, runs, mem, tx, bud, claims⟩ := leave_own (dest := dest) joined
  refine ⟨t, runs, by rw [mem]; rfl, tx, bud, fun a => ?_, claims, by rw [mem]; rfl⟩
  rw [State.peer, mem]
  simp [Membership.offLine, Membership.initial, Peer.blank]

end Sys2Proof.Machine
end

section
/-! SUPPORT. The provider's join queue at a JOIN, and the serving of its front (R101 to R103). -/

namespace Sys2Proof.Machine
open Host

section
variable {s w : State} {a b : Addr} {o : Origin} {v : Serving} {j : Joiner}

/-- The entry of a joiner in the queue: the sequence number is the one at its JOIN (R102). -/
def State.newJoiner (w : State) (a : Addr) : Joiner := { address := a, sJoin := w.bud.seqNo }

theorem isServing_iff : w.isServing a = true ↔ ∃ v, w.mem.serving = some v ∧ v.joiner = a := by
  unfold State.isServing
  cases serves : w.mem.serving with
  | none => simp
  | some v => simp

theorem enterQueue_served (served : w.isServing a = true) : w.enterQueue a =
    w.stopServing.setJoinQueue ((w.mem.joinQueue.filter fun x => decide (x.address ≠ a)) ++ [w.newJoiner a]) := if_pos served

theorem enterQueue_waiting (unserved : w.isServing a = false) (waits : ∃ j ∈ w.mem.joinQueue, j.address = a) : w.enterQueue a =
    w.setJoinQueue (w.mem.joinQueue.map fun x => if x.address = a then w.newJoiner a else x) := by
  have there : (w.mem.joinQueue.any fun x => decide (x.address = a)) = true := by simpa using waits
  simp only [State.enterQueue, unserved, there, Bool.false_eq_true, if_false, if_true]
  rfl

theorem enterQueue_new (unserved : w.isServing a = false) (fresh : ∀ j ∈ w.mem.joinQueue, j.address ≠ a) : w.enterQueue a =
    w.setJoinQueue (w.mem.joinQueue ++ [w.newJoiner a]) := by
  have absent : (w.mem.joinQueue.any fun x => decide (x.address = a)) = false := by simpa using fresh
  simp only [State.enterQueue, unserved, absent, Bool.false_eq_true, if_false]
  rfl

theorem joinQueue_enterQueue_served (served : w.isServing a = true) : (w.enterQueue a).mem.joinQueue =
    (w.mem.joinQueue.filter fun x => decide (x.address ≠ a)) ++ [w.newJoiner a] := by rw [enterQueue_served served]; rfl

theorem joinQueue_enterQueue_new (fresh : ∀ j ∈ w.mem.joinQueue, j.address ≠ a) :
    (w.enterQueue a).mem.joinQueue = w.mem.joinQueue ++ [w.newJoiner a] := by
  cases served : w.isServing a with
  | false =>
    rw [enterQueue_new served fresh]
    rfl
  | true =>
    rw [joinQueue_enterQueue_served served, List.filter_eq_self.mpr fun j m => decide_eq_true (fresh j m)]

theorem joinQueue_enterQueue_waiting (unserved : w.isServing a = false) (waits : ∃ j ∈ w.mem.joinQueue, j.address = a) :
    (w.enterQueue a).mem.joinQueue = w.mem.joinQueue.map fun x => if x.address = a then w.newJoiner a else x := by
  rw [enterQueue_waiting unserved waits]
  rfl

theorem serving_enterQueue (unserved : w.isServing a = false) : (w.enterQueue a).mem.serving = w.mem.serving := by
  simp only [State.enterQueue, unserved, Bool.false_eq_true, if_false]
  split <;> rfl

/-! ### The serving that stops -/

theorem mem_stopServing (w : State) : w.stopServing.mem = { w.mem with serving := none } := by
  rw [State.stopServing, mem_withdrawUpkeep]

theorem framesOf_stopServing (other : o ≠ .upkeep) (w : State) : w.stopServing.framesOf o = w.framesOf o := by
  rw [State.stopServing, State.withdrawUpkeep]
  split
  · split
    · rw [framesOf_withdrawTx, if_neg other.symm]
      rfl
    · rfl
  · rfl

/-- The upkeep origin is free once the snapshot frame pending is withdrawn. -/
theorem free_stopServing (idle : w.lbi.inTx ≠ .listed .upkeep)
    (snap : ∀ e, w.txEntry .upkeep = some e → e.frame.kind = .snapHead ∨ e.frame.kind = .snapPart) :
    w.stopServing.txHas .upkeep = false := by
  cases entry : w.txEntry .upkeep with
  | none =>
    have entry' : ({ w with mem := { w.mem with serving := none } } : State).txEntry .upkeep = none := entry
    rw [State.stopServing, State.withdrawUpkeep, entry']
    rw [txEntry_eq_head, List.head?_eq_none_iff] at entry
    exact txHas_false_iff.mpr entry
  | some e =>
    have entry' : ({ w with mem := { w.mem with serving := none } } : State).txEntry .upkeep = some e := entry
    have kind : e.frame.kind ∈ [FrameKind.snapHead, .snapPart] := by simpa using snap e entry
    have idle' : ({ w with mem := { w.mem with serving := none } } : State).lbi.inTx ≠ .listed .upkeep := idle
    rw [State.stopServing, withdrawUpkeep_listed entry' kind, withdrawTx_idle idle']
    exact txHas_removeTx

theorem framesOf_enterQueue (other : o ≠ .upkeep) (a : Addr) (w : State) : (w.enterQueue a).framesOf o = w.framesOf o := by
  unfold State.enterQueue
  dsimp only
  split
  · exact framesOf_stopServing other w
  · split <;> rfl

theorem framesOf_judgeProvider (other : o ≠ .upkeep) (a : Addr) (w : State) : (w.judgeProvider a).framesOf o = w.framesOf o := by
  unfold State.judgeProvider
  split
  · exact framesOf_enterQueue other a w
  · rfl

theorem dropped_judgeProvider {t : State} (b : Addr) (dropped : s.PeerDropped t a) : s.PeerDropped (t.judgeProvider b) a := by
  refine peerDropped_congr (fun h => ?_) (fun o other => framesOf_judgeProvider other b t) (inTx_judgeProvider b t) dropped
  rw [State.slot, store_judgeProvider, ← State.slot]

/-! ### The front served -/

/-- The front of a queue is served where the upkeep origin is free. -/
theorem serves_front (joined : w.mem.line = .joined) (some_ : w.mem.joinQueue ≠ []) (idle : w.mem.serving = none)
    (free : w.txHas .upkeep = false) (next : w.mem.upkeepNext = none) :
    w.tryServe.mem.serving.map (·.joiner) = w.mem.joinQueue.head?.map (·.address)
      ∧ (w.tryServe.txEntry .upkeep).map (·.frame.kind) = some .snapHead := by
  obtain ⟨j, rest, queue⟩ := List.exists_cons_of_ne_nil some_
  rw [tryServe_front joined queue idle free next]
  refine ⟨by rw [mem_queueFrame, queue]; rfl, ?_⟩
  rw [txEntry_eq_head, framesOf_queueFrame, if_pos ⟨rfl, free⟩]
  rfl

/-- The joiner served joins again: its serving stops, and the front of the queue is served. -/
theorem serves_again (joined : w.mem.line = .joined) (served : w.isServing a = true) (idle : w.lbi.inTx ≠ .listed .upkeep)
    (next : w.mem.upkeepNext = none)
    (snap : ∀ e, w.txEntry .upkeep = some e → e.frame.kind = .snapHead ∨ e.frame.kind = .snapPart) :
    (w.enterQueue a).tryServe.mem.serving.map (·.joiner) = (w.enterQueue a).mem.joinQueue.head?.map (·.address)
      ∧ ((w.enterQueue a).tryServe.txEntry .upkeep).map (·.frame.kind) = some .snapHead := by
  rw [enterQueue_served served]
  refine serves_front ?_ ?_ ?_ (free_stopServing idle snap) ?_
  · rw [State.setJoinQueue, mem_stopServing]
    exact joined
  · exact List.append_ne_nil_of_right_ne_nil _ (List.cons_ne_nil _ _)
  · rw [State.setJoinQueue, mem_stopServing]
  · rw [State.setJoinQueue, mem_stopServing]
    exact next

/-- A serving of another joiner goes on. -/
theorem serving_judgeProvider (serves : w.mem.serving = some v) (other : v.joiner ≠ a) :
    (w.judgeProvider a).tryServe.mem.serving = some v := by
  have unserved : w.isServing a = false := by
    rw [← Bool.not_eq_true, isServing_iff]
    rintro ⟨x, serves', same⟩
    obtain rfl := Option.some.inj (serves.symm.trans serves')
    exact other same
  have kept : (w.judgeProvider a).mem.serving = some v := by
    unfold State.judgeProvider
    split
    · rw [serving_enterQueue unserved, serves]
    · exact serves
  rw [tryServe_serving (by rw [kept]; exact nofun), kept]

/-! ### The provider (R101) -/

theorem provider_lowest (own : (w.peer b).state = .joined) (lowest : ∀ c, c < b → (w.peer c).state ≠ .joined) :
    w.provider = some b :=
  find_of_least (List.pairwise_lt_finRange 16) (List.mem_finRange b) (decide_eq_true own) fun c less => decide_eq_false (lowest c less)

theorem provider_below {c : Addr} (lower : c < b) (joined : (w.peer c).state = .joined) : w.provider ≠ some b := by
  intro found
  obtain ⟨-, front, back, split, none⟩ := List.find?_eq_some_iff_append.mp found
  have sorted : addresses.Pairwise (· < ·) := List.pairwise_lt_finRange 16
  have m : c ∈ addresses := List.mem_finRange c
  rw [split] at sorted m
  obtain inFront | inBack := List.mem_append.mp m
  · have := none c inFront
    simp [joined] at this
  · obtain rfl | after := List.mem_cons.mp inBack
    · exact lt_irrefl _ lower
    · have later := (List.pairwise_cons.mp (List.pairwise_append.mp sorted).2.1).1 c after
      exact lt_asymm lower later

end

end Sys2Proof.Machine
end

section
/-! A JOIN that appears (R83, R101, R102, R104, R125, R159). -/

namespace Sys2Proof.Machine
open Host

section
variable {s u w : State} {a b c : Addr} {role : Role} {dest : BitVec 5} {v : Serving}

/-! ### Another station's JOIN at a JOINED station -/

/-- The state before the table's work at a JOIN. -/
theorem State.Noted.joins (noted : s.Noted u) (a : Addr) (role : Role) : s.PeerLeft (u.peerJoins a role) a where
  toAside := by
    rw [peerJoins_eq]
    exact (noted.toAside.trans (aside_updPeer a _ u)).trans (aside_post _ _)
  joined := by
    rw [isJoined_iff, line_peerJoins]
    exact noted.line
  peers := by
    refine samePeers_of ?_ fun c role' => ?_
    · exact (conf_of_still (still_peerJoins a role u)).trans noted.conf
    · obtain ⟨state, -, old⟩ := noted.peers c
      rw [peerJoins_eq, peer_post, peer_updPeer, peer_updPeer]
      by_cases same : a = c
      · rw [if_pos same, if_pos same]
        simp [Peer.joins, Peer.gone]
      · rw [if_neg same, if_neg same, state, old]

theorem peer_peerJoins (c : Addr) : (u.peerJoins a role).peer c = if a = c then (u.peer a).joins role else u.peer c := by
  rw [peerJoins_eq, peer_post, peer_updPeer]

theorem mem_peerJoins : (u.peerJoins a role).mem = { u.mem with peers := (u.peerJoins a role).mem.peers } := by
  rw [peerJoins_eq, mem_post]
  rfl

/-- The station once the frame, the peer list, the table and the hand-off unit have had the JOIN of a. -/
def State.joinWorked (s : State) (a : Addr) (role : Role) : State := ((s.heard a).peerJoins a role).workedOff s a

theorem onJoin_joined (line : u.mem.line = .joined) (other : a ≠ u.conf.address) : u.onJoin a [roleCode role] =
    ((u.peerJoins a role).dropPeerWork a { kind := .join, sender := a, payload := [roleCode role] }).judgeProvider a := by
  simp only [State.onJoin, line, State.joinJoined, joinPayload_role, isOwn_foreign other, Bool.false_eq_true, if_false]

theorem exec_join_joined (joined : s.mem.line = .joined) (other : a ≠ s.conf.address) :
    exec (.joinAppears a dest [roleCode role]) s = .next ((s.joinWorked a role).judgeProvider a).tryServe := by
  have heard := noted_heard joined other
  have goes : ({ kind := .join, sender := a, payload := [roleCode role] } : BufferedFrame).Goes a := .inr (.inr ⟨role, rfl, rfl, rfl⟩)
  refine congrArg Outcome.next ((appear_other_any joined other rfl _).trans ?_)
  rw [onJoin_joined heard.line (by rw [heard.conf]; exact other), dropPeerWork_goes goes (heard.joins a role).bud]
  rfl

theorem mem_joinWorked (s : State) (a : Addr) (role : Role) :
    (s.joinWorked a role).mem = { (s.heard a).mem with peers := ((s.heard a).peerJoins a role).mem.peers } := by
  rw [State.joinWorked, mem_workedOff, mem_peerJoins]

section
variable (joined : s.mem.line = .joined) (other : a ≠ s.conf.address)
include joined other

theorem mem_heard_joined : (s.heard a).mem = { s.mem with peers := (s.heard a).mem.peers } := by
  rw [State.heard, noteSender_joined (s := s.countClean) joined other, mem_withdrawTx]
  rfl

/-- The rest of the membership unit after the JOIN's work. -/
theorem rest_joinWorked (role : Role) : (s.joinWorked a role).mem.line = .joined
    ∧ (s.joinWorked a role).mem.joinQueue = s.mem.joinQueue ∧ (s.joinWorked a role).mem.serving = s.mem.serving
    ∧ (s.joinWorked a role).mem.upkeepNext = s.mem.upkeepNext := by
  rw [mem_joinWorked, mem_heard_joined joined other]
  exact ⟨joined, rfl, rfl, rfl⟩

theorem peer_joinWorked (c : Addr) : (s.joinWorked a role).peer c = if a = c then ((s.heard a).peer a).joins role else (s.heard a).peer c := by
  rw [State.joinWorked, peer_workedOff, peer_peerJoins]

theorem upkeep_joinWorked : (s.joinWorked a role).framesOf .upkeep = s.framesOf .upkeep ∧ (s.joinWorked a role).lbi.inTx = s.lbi.inTx := by
  have left := (noted_heard joined other).joins a role
  have frames : ((s.heard a).peerJoins a role).framesOf .upkeep = (s.heard a).framesOf .upkeep := framesOf_of_tx (tx_peerJoins _ _ _)
  have noted : (s.heard a).framesOf .upkeep = s.framesOf .upkeep := framesOf_heard fun b same => by cases same
  rw [State.joinWorked, left.upkeep_kept, left.inTx_kept, frames, noted, inTx_peerJoins]
  exact ⟨rfl, by simp [State.heard]⟩

theorem conf_joinWorked : (s.joinWorked a role).conf = s.conf :=
  (conf_workedOff _ s a).trans ((noted_heard joined other).joins a role).conf

theorem events_joinWorked (room : s.port.events.length < 32) : s.port.events ++ [stationEvent .peerJoined
    (a.val * 65536 + (nextEpoch (s.peer a).epoch).toNat)] <+: (s.joinWorked a role).port.events := by
  have heard := noted_heard joined other
  have left := heard.joins a role
  have active : ((s.heard a).updPeer a (Peer.joins role)).isActive = true := isActive_of_joined heard.line
  have events : ((s.heard a).updPeer a (Peer.joins role)).port.events = s.port.events := heard.events
  have posted : ((s.heard a).peerJoins a role).port.events = s.port.events ++ [stationEvent .peerJoined
      (a.val * 65536 + (nextEpoch (s.peer a).epoch).toNat)] := by
    rw [peerJoins_eq, events_post_active active (by rw [events]; exact room), events, (heard.peers a).2.1]
  rw [← posted, State.joinWorked]
  exact left.events_workedOff

/-! ### The peer and the queue after it -/

omit joined other in
theorem peer_judged (c : Addr) :
    (((s.joinWorked a role).judgeProvider a).tryServe).peer c = (s.joinWorked a role).peer c := by
  rw [peer_tryServe, State.peer, peers_judgeProvider, ← State.peer]

end

/-- The provider judges by the peers that stay (R101). -/
theorem provider_joinWorked (joined : s.mem.line = .joined) (other : a ≠ s.conf.address) (c : Addr) (stays : a ≠ c) :
    ((s.joinWorked a role).peer c).state = (s.peer c).state := by
  rw [peer_joinWorked joined other, if_neg stays, ((noted_heard joined other).peers c).1]

end

end Sys2Proof.Machine
end

section
/-! A JOIN that appears, at a JOINED and at a JOINING station (R83, R101, R102, R104). -/

namespace Sys2Proof.Machine
open Host

section
variable {s u w : State} {a b c : Addr} {role : Role} {dest : BitVec 5} {v : Serving}

/-! ### The queue at a JOINED station -/

section
variable (joined : s.mem.line = .joined) (other : a ≠ s.conf.address)
include joined other

theorem newJoiner_joinWorked : (s.joinWorked a role).newJoiner a = { address := a, sJoin := s.bud.seqNo + 1 } := by
  rw [State.newJoiner, State.joinWorked, bud_workedOff]
  rfl

theorem isServing_joinWorked : (s.joinWorked a role).isServing a = true ↔ ∃ v, s.mem.serving = some v ∧ v.joiner = a := by
  rw [isServing_iff, (rest_joinWorked joined other role).2.2.1]

theorem judges_joinWorked (own : (s.peer s.conf.address).state = .joined)
    (lowest : ∀ b, b < s.conf.address → b ≠ a → (s.peer b).state ≠ .joined) :
    (s.joinWorked a role).judgeProvider a = (s.joinWorked a role).enterQueue a := by
  refine if_pos ?_
  rw [conf_joinWorked joined other]
  refine provider_lowest ?_ fun c less => ?_
  · rw [provider_joinWorked joined other _ other, own]
  · by_cases same : a = c
    · rw [peer_joinWorked joined other, if_pos same]
      exact nofun
    · rw [provider_joinWorked joined other _ same]
      exact lowest c less (Ne.symm same)

/-- The queue of the provider after the JOIN of a (R102). -/
theorem queue_joins (own : (s.peer s.conf.address).state = .joined)
    (lowest : ∀ b, b < s.conf.address → b ≠ a → (s.peer b).state ≠ .joined) :
    let t := ((s.joinWorked a role).judgeProvider a).tryServe
    let joiner : Joiner := { address := a, sJoin := s.bud.seqNo + 1 }
    let served : Prop := ∃ v, s.mem.serving = some v ∧ v.joiner = a
    ((∀ j ∈ s.mem.joinQueue, j.address ≠ a) → t.mem.joinQueue = s.mem.joinQueue ++ [joiner])
    ∧ (served → t.mem.joinQueue = s.mem.joinQueue.filter (fun j => j.address ≠ a) ++ [joiner])
    ∧ (¬served → (∃ j ∈ s.mem.joinQueue, j.address = a) →
      t.mem.joinQueue = s.mem.joinQueue.map fun j => if j.address = a then joiner else j)
    ∧ (served → s.lbi.inTx ≠ .listed .upkeep → s.mem.upkeepNext = none →
      (∀ e, s.txEntry .upkeep = some e → e.frame.kind = .snapHead ∨ e.frame.kind = .snapPart) →
      t.mem.serving.map (·.joiner) = t.mem.joinQueue.head?.map (·.address)
        ∧ (t.txEntry .upkeep).map (·.frame.kind) = some .snapHead) := by
  obtain ⟨line, queue, -, next⟩ := rest_joinWorked joined other role
  obtain ⟨frames, inTx⟩ := upkeep_joinWorked (role := role) joined other
  have joiner := newJoiner_joinWorked (role := role) joined other
  have serves := isServing_joinWorked (role := role) joined other
  have enters := judges_joinWorked (role := role) joined other own lowest
  generalize s.joinWorked a role = w at *
  intro t joiner_ served
  have after : t.mem.joinQueue = (w.enterQueue a).mem.joinQueue := by
    rw [← enters]
    exact joinQueue_tryServe _
  refine ⟨fun fresh => ?_, fun is => ?_, fun isnt waits => ?_, fun is idle free snap => ?_⟩
  · rw [after, joinQueue_enterQueue_new (by rwa [queue]), queue, joiner]
  · rw [after, joinQueue_enterQueue_served (serves.mpr is), queue, joiner]
  · rw [after, joinQueue_enterQueue_waiting (Bool.not_eq_true _ ▸ mt serves.mp isnt) (by rwa [queue]), queue, joiner]
  · have entry : w.txEntry .upkeep = s.txEntry .upkeep := by rw [txEntry_eq_head, frames, ← txEntry_eq_head]
    have front := serves_again line (serves.mpr is) (by rwa [inTx]) (next.trans free) (by rwa [entry])
    rw [after]
    rw [← enters] at front ⊢
    exact front

theorem joinQueue_joins_other (lower : ∃ b, b < s.conf.address ∧ b ≠ a ∧ (s.peer b).state = .joined) :
    (((s.joinWorked a role).judgeProvider a).tryServe).mem.joinQueue = s.mem.joinQueue := by
  obtain ⟨b, less, away, standing⟩ := lower
  have same : (s.joinWorked a role).judgeProvider a = s.joinWorked a role := by
    refine if_neg ?_
    rw [conf_joinWorked joined other]
    refine provider_below less ?_
    rw [provider_joinWorked joined other _ (Ne.symm away), standing]
  rw [joinQueue_tryServe, same, (rest_joinWorked joined other role).2.1]

theorem dropped_joins (sound : Sound s) : s.PeerDropped (((s.joinWorked a role).judgeProvider a).tryServe) a := by
  have left := (noted_heard joined other).joins a role
  have dropped := left.dropped sound
  rw [← State.joinWorked] at dropped
  exact dropped_tryServe (dropped_judgeProvider a dropped)

end

/-! ### A JOINING station (R104, R107) -/

theorem onJoin_joining (joining : u.mem.line = .joining) (other : a ≠ u.conf.address) : u.onJoin a [roleCode role] =
    u.bufferFrame { kind := .join, sender := a, payload := [roleCode role] } := by
  simp only [State.onJoin, joining, isOwn_foreign other, Bool.false_eq_true, if_false]

theorem collecting_iff (joining : s.mem.line = .joining) :
    s.collecting = true ↔ s.mem.phase = .waiting ∨ ∃ n, s.mem.phase = .receiving n := by
  unfold State.collecting
  rw [joining]
  cases s.mem.phase <;> simp

/-- A JOIN is buffered, whatever part of the snapshot is to come. -/
theorem bufferFrame_join (collects : u.collecting = true) (room : u.mem.buffer.length < 32) (payload : List Byte) :
    u.bufferFrame { kind := .join, sender := a, payload := payload } =
      { u with mem := { u.mem with buffer := u.mem.buffer ++ [{ kind := .join, sender := a, payload := payload }] } } := by
  rw [State.bufferFrame, if_pos collects, if_neg (Nat.not_le.mpr room)]
  dsimp only
  split <;> rfl

theorem bufferFrame_full {f : BufferedFrame} (collects : u.collecting = true) (full : 32 ≤ u.mem.buffer.length) :
    u.bufferFrame f = u.rejoin .rejoinOverflow := by rw [State.bufferFrame, if_pos collects, if_pos full]

theorem bufferFrame_idle {f : BufferedFrame} (idle : ¬u.collecting = true) : u.bufferFrame f = u := if_neg idle

/-- Another station's JOIN at a JOINING one is judged by the pending buffer. -/
theorem exec_join_joining {o : State} (joining : s.mem.line = .joining) (other : a ≠ s.conf.address)
    (judged : (s.heard a).bufferFrame { kind := .join, sender := a, payload := [roleCode role] } = o) (still : o.mem.line ≠ .joined) :
    exec (.joinAppears a dest [roleCode role]) s = .next o := by
  have active : s.isActive = true := by simp [State.isActive, joining]
  have bar : (s.heard a).noteBar .join [roleCode role] = s.heard a := by simp [State.noteBar, barsFirst]
  refine congrArg Outcome.next ((appear_foreign_noted active other _).trans ?_)
  rw [bar, if_pos (receives_of_replicated rfl _ _ _), onJoin_joining (line_heard.trans joining) (by rw [conf_heard]; exact other), judged]
  exact tryServe_unjoined still

theorem collecting_heard (joining : s.mem.line = .joining) : (s.heard a).collecting = s.collecting := by
  rw [State.collecting, State.collecting, mem_heard_joining joining]

theorem join_buffered (joining : s.mem.line = .joining) (other : a ≠ s.conf.address) (collects : s.collecting = true)
    (room : s.mem.buffer.length < 32) : exec (.joinAppears a dest [roleCode role]) s = .next { s.heard a with
      mem := { (s.heard a).mem with
        buffer := s.mem.buffer ++ [{ kind := .join, sender := a, payload := [roleCode role] }] } } := by
  have mem := mem_heard_joining (a := a) joining
  refine exec_join_joining joining other ?_ ?_
  · rw [bufferFrame_join ((collecting_heard joining).trans collects) (by rw [mem]; exact room), mem]
  · show (s.heard a).mem.line ≠ .joined
    rw [mem, joining]
    decide

theorem join_overflows (joining : s.mem.line = .joining) (other : a ≠ s.conf.address) (collects : s.collecting = true)
    (full : 32 ≤ s.mem.buffer.length) (free : s.txHas .upkeep = false) :
    exec (.joinAppears a dest [roleCode role]) s = .next (State.post (stationEvent .lineState (1 * 256 + 11))
      ({ s.heard a with mem := { s.mem with phase := .queued, buffer := [], barred := false, joinWait := none,
                                            partGap := none } }.queueFrame .upkeep
        { kind := .join, dest := 31, payload := [roleCode s.conf.role] })) := by
  have mem := mem_heard_joining (a := a) joining
  have role_ : (s.heard a).conf.role = s.conf.role := congrArg Configuration.role conf_heard
  have again := rejoin_free (c := .rejoinOverflow) ((collecting_heard (a := a) joining).trans collects) (line_heard.trans joining)
    ((txHas_heard fun b same => by cases same).trans free)
  rw [State.joinsAgain, role_, mem] at again
  refine exec_join_joining joining other ((bufferFrame_full ((collecting_heard joining).trans collects) (by rw [mem]; exact full)).trans
    again) ?_
  rw [mem_post, mem_queueFrame]
  exact fun line => by rw [joining] at line; cases line

theorem join_ignored (joining : s.mem.line = .joining) (other : a ≠ s.conf.address) (idle : ¬s.collecting = true) :
    exec (.joinAppears a dest [roleCode role]) s = .next (s.heard a) := by
  refine exec_join_joining joining other (bufferFrame_idle ?_) ?_
  · rwa [collecting_heard joining]
  · rw [line_heard, joining]
    decide

/-- The own JOIN starts the join (R104), and the receive error count is 0 (R83). -/
theorem join_own (joining : s.mem.line = .joining) : ∃ t : State, exec (.joinAppears s.conf.address dest [roleCode role]) s = .next t
    ∧ t.mem.line = .joining ∧ t.mem.phase = .waiting ∧ t.mem.buffer = [] ∧ t.mem.joinWait = some 0
    ∧ t.mem.barred = false ∧ t.lbi.rxErrors = 0 := by
  have active : s.isActive = true := by simp [State.isActive, joining]
  let f : Frame := { kind := .join, dest := dest, payload := [roleCode role] }
  let u : State := ({ s with lbi := { s.lbi with rxErrors := 0 } } : State).finishOwn (s.ownTx s.conf.address f)
  have line : u.mem.line = .joining := (line_finishOwn _ _).trans joining
  have conf : u.conf = s.conf := conf_of_still ((still_finishOwn _ _).trans rfl)
  have errors : u.lbi.rxErrors = 0 := rxErrors_finishOwn _ _
  have noted : u.noteSender s.conf.address = u := noteSender_still (.inl (by rw [line]; decide))
  have bar : u.noteBar .join [roleCode role] = u := by simp [State.noteBar, barsFirst]
  have starts : u.onJoin s.conf.address [roleCode role] = u.startJoin := by
    have mine : u.isOwn s.conf.address = true := decide_eq_true (by rw [conf])
    simp only [State.onJoin, line, mine, joinPayload_role, Option.isSome_some, if_true]
  refine ⟨u.startJoin, congrArg Outcome.next ((appear_active active _).trans ?_), line, rfl, rfl, rfl, rfl, errors⟩
  rw [countAppeared_ownJoin]
  show (if ((u.noteSender s.conf.address).noteBar .join [roleCode role]).receives .join s.conf.address dest
    then ((u.noteSender s.conf.address).noteBar .join [roleCode role]).onJoin s.conf.address [roleCode role]
    else (u.noteSender s.conf.address).noteBar .join [roleCode role]).tryServe = u.startJoin
  rw [noted, bar, if_pos (receives_of_replicated rfl _ _ _), starts]
  exact tryServe_unjoined fun joined => by cases line.symm.trans joined

end

/-- Settles O48. -/
theorem joinsAppear : Obligations.JoinsAppear := by
  intro a role dest s
  refine ⟨fun joined other => ?_, fun joining other => ?_, join_own⟩
  · have peer := peer_judged (s := s) (a := a) (role := role) a
    rw [peer_joinWorked joined other, if_pos rfl] at peer
    have epoch := ((noted_heard joined other).peers a).2.1
    refine ⟨_, exec_join_joined joined other, by rw [peer]; rfl, by rw [peer]; rfl, by rw [peer]; rfl, by rw [peer]; rfl,
      by rw [peer]; rfl, ⟨?_, fun room => ?_⟩, ?_, queue_joins joined other, fun v serves away => ?_, joinQueue_joins_other joined other,
      dropped_joins joined other⟩
    · rw [peer, ← epoch]
      rfl
    · rw [events_tryServe, events_judgeProvider]
      exact events_joinWorked joined other room
    · rw [bud_tryServe, bud_judgeProvider, State.joinWorked, bud_workedOff]
      rfl
    · exact serving_judgeProvider ((rest_joinWorked joined other role).2.2.1.trans serves) away
  · have collects := collecting_iff joining
    exact ⟨fun collecting => join_buffered joining other (collects.mpr collecting),
      fun collecting => join_overflows joining other (collects.mpr collecting), fun idle => join_ignored joining other (mt collects.mp idle)⟩

end Sys2Proof.Machine
end

section
/-! SUPPORT. Sound taken apart: the frame of the station, and what is said of each slot and its position (R9 to R11, R22,
R33). -/

namespace Sys2Proof.Machine
open Host

/-- What Sound says of the station as a whole: the free list, the booking list, and the positions that no record names. -/
structure State.Framed (s : State) : Prop where
  free : s.FreeListKept
  booked : s.BookingsKept
  rushOnce : s.store.rushQueue.Nodup
  ordinaryOnce : s.store.ordinaryQueue.Nodup
  links : ∀ p, (s.pos p).link ≠ none ↔ (s.pos p).state = .assigned ∨ (s.pos p).state = .occupied
  dark : ∀ p, (s.pos p).link = none → (s.pos p).stepEn = false

/-- The arrival queue and the positions of s suit record r in slot h. -/
structure State.Holds (s : State) (h : Handle) (r : Record) : Prop where
  rush : h ∈ s.store.rushQueue ↔ r.state = .queued ∧ r.rush = true
  ordinary : h ∈ s.store.ordinaryQueue ↔ r.state = .queued ∧ r.rush = false
  named : ∀ p, (s.pos p).link = some h ↔ r.position = some p
  loose : r.state = .queued ∨ r.state = .uncertain → r.position = none
  lit : ∀ p, (s.pos p).link = some h → ((s.pos p).stepEn = true ↔ (s.pos p).state = .occupied ∧ r.state = .running)
  stands : r.state = .running → ∃ p, (s.pos p).link = some h ∧ (s.pos p).state = .occupied
  few : r.deviations.length ≤ 4

/-- The arrival queue and the positions of s suit a slot h without a record. -/
structure State.Vacant (s : State) (h : Handle) : Prop where
  rush : h ∉ s.store.rushQueue
  ordinary : h ∉ s.store.ordinaryQueue
  unnamed : ∀ p, (s.pos p).link ≠ some h

/-- The arrival queue and the positions of s suit what is in slot h. -/
def State.Seated (s : State) (h : Handle) : Prop :=
  (∀ r, s.rec? h = some r → s.Holds h r) ∧ (s.rec? h = none → s.Vacant h)

/-- All whole but what concerns slot h. -/
def State.Apart (s : State) (h : Handle) : Prop := s.Framed ∧ ∀ g, g ≠ h → s.Seated g

/-- The records, slots and positions fit together. -/
def State.Whole (s : State) : Prop := s.Framed ∧ ∀ h, s.Seated h

section
variable {s t u : State} {h g : Handle} {r x : Record} {p q : PosIx}

/-! ### Sound is the frame and each slot -/

theorem State.Seated.holds (seated : s.Seated h) (stands : s.rec? h = some r) : s.Holds h r := seated.1 r stands

theorem State.Seated.vacant (seated : s.Seated h) (none : s.rec? h = none) : s.Vacant h := seated.2 none

theorem State.Holds.seated (holds : s.Holds h r) (stands : s.rec? h = some r) : s.Seated h :=
  ⟨fun x here => Option.some.inj (stands.symm.trans here) ▸ holds, fun none => by rw [stands] at none; cases none⟩

theorem State.Vacant.seated (vacant : s.Vacant h) (none : s.rec? h = none) : s.Seated h :=
  ⟨fun x here => (by rw [none] at here; cases here), fun _ => vacant⟩

theorem State.Whole.apart (whole : s.Whole) (h : Handle) : s.Apart h := ⟨whole.1, fun g _ => whole.2 g⟩

theorem State.Apart.whole (apart : s.Apart h) (seated : s.Seated h) : s.Whole := by
  refine ⟨apart.1, fun g => ?_⟩
  by_cases same : g = h
  · exact same ▸ seated
  · exact apart.2 g same

theorem State.Whole.holds (whole : s.Whole) (stands : s.rec? h = some r) : s.Holds h r := (whole.2 h).holds stands

theorem State.Whole.stands (whole : s.Whole) (link : (s.pos p).link = some h) : ∃ r, s.rec? h = some r ∧ r.position = some p := by
  cases here : s.rec? h with
  | none => exact absurd link (((whole.2 h).vacant here).unnamed p)
  | some r => exact ⟨r, rfl, ((whole.holds here).named p).mp link⟩

theorem framed_of_sound (sound : Sound s) : s.Framed := by
  obtain ⟨free, booked, ⟨rushOnce, ordinaryOnce, -, -⟩, ⟨links, -, -⟩, ⟨lit, -⟩, -, -⟩ := sound
  refine ⟨free, booked, rushOnce, ordinaryOnce, links, fun p none => Bool.eq_false_iff.mpr fun on => ?_⟩
  obtain ⟨h, r, ⟨-, link, -⟩, -⟩ := (lit p).mp on
  rw [none] at link
  cases link

theorem exists_rec {cond : Record → Prop} (stands : s.rec? h = some r) : (∃ x, s.rec? h = some x ∧ cond x) ↔ cond r := by
  refine ⟨fun ⟨x, here, on⟩ => ?_, fun on => ⟨r, stands, on⟩⟩
  obtain rfl := Option.some.inj (stands.symm.trans here)
  exact on

theorem not_exists_rec {cond : Record → Prop} (none : s.rec? h = none) : ¬∃ x, s.rec? h = some x ∧ cond x := by
  rintro ⟨x, here, -⟩
  rw [none] at here
  cases here

theorem seated_of_sound (sound : Sound s) (h : Handle) : s.Seated h := by
  obtain ⟨-, -, ⟨-, -, rush, ordinary⟩, ⟨-, named, loose⟩, ⟨lit, runs⟩, few, -⟩ := sound
  refine ⟨fun r stands => ?_, fun none => ?_⟩
  · refine ⟨(rush h).trans (exists_rec stands), (ordinary h).trans (exists_rec stands), fun p => (named p h).trans (exists_rec stands),
      loose h r stands, fun p link => ⟨fun on => ?_, fun on => (lit p).mpr ⟨h, r, ⟨on.1, link, stands⟩, on.2⟩⟩, fun running => ?_,
      few h r stands⟩
    · obtain ⟨g, x, ⟨occupied, link', here⟩, running⟩ := (lit p).mp on
      obtain rfl := Option.some.inj (link.symm.trans link')
      obtain rfl := Option.some.inj (stands.symm.trans here)
      exact ⟨occupied, running⟩
    · obtain ⟨p, occupied, link, -⟩ := runs h r stands running
      exact ⟨p, link, occupied⟩
  · exact ⟨fun m => not_exists_rec none ((rush h).mp m), fun m => not_exists_rec none ((ordinary h).mp m),
      fun p link => not_exists_rec none ((named p h).mp link)⟩

theorem arrivalsKept_of_whole (whole : s.Whole) : s.ArrivalsKept := by
  refine ⟨whole.1.rushOnce, whole.1.ordinaryOnce, fun h => ?_, fun h => ?_⟩
  · cases here : s.rec? h with
    | none =>
      have away := ((whole.2 h).vacant here).rush
      simp [away]
    | some r =>
      rw [(whole.holds here).rush]
      simp
  · cases here : s.rec? h with
    | none =>
      have away := ((whole.2 h).vacant here).ordinary
      simp [away]
    | some r =>
      rw [(whole.holds here).ordinary]
      simp

theorem linksKept_of_whole (whole : s.Whole) : s.LinksKept :=
  ⟨whole.1.links, fun p h => ⟨whole.stands, fun ⟨_, here, position⟩ => ((whole.holds here).named p).mpr position⟩,
    fun _ _ here => (whole.holds here).loose⟩

theorem enablesKept_of_whole (whole : s.Whole) : s.EnablesKept := by
  refine ⟨fun p => ⟨fun on => ?_, fun ⟨h, r, ⟨occupied, link, here⟩, running⟩ => ?_⟩, fun h r here running => ?_⟩
  · cases link : (s.pos p).link with
    | none =>
      rw [whole.1.dark p link] at on
      cases on
    | some h =>
      obtain ⟨r, here, -⟩ := whole.stands link
      obtain ⟨occupied, running⟩ := ((whole.holds here).lit p link).mp on
      exact ⟨h, r, ⟨occupied, link, here⟩, running⟩
  · exact ((whole.holds here).lit p link).mpr ⟨occupied, running⟩
  · obtain ⟨p, link, occupied⟩ := (whole.holds here).stands running
    exact ⟨p, occupied, link, here⟩

theorem sound_iff : Sound s ↔ s.Whole ∧ (s.mem.line = .config → s.bookings = [] ∧ ∀ h, s.rec? h = none) := by
  refine ⟨fun sound => ⟨⟨framed_of_sound sound, seated_of_sound sound⟩, ?_⟩, fun ⟨whole, config⟩ => ?_⟩
  · obtain ⟨-, -, -, -, -, -, config⟩ := sound
    exact config
  · exact ⟨whole.1.free, whole.1.booked, arrivalsKept_of_whole whole, linksKept_of_whole whole, enablesKept_of_whole whole,
      fun h r here => (whole.holds here).few, config⟩

/-! ### Changes that leave all of this alone -/

/-- Record x differs from r in nothing that the queue, a position or the free list depends on. -/
structure Record.Alike (r x : Record) : Prop where
  position : x.position = r.position
  queued : x.state = .queued ↔ r.state = .queued
  rush : r.state = .queued → x.rush = r.rush
  running : x.state = .running ↔ r.state = .running
  uncertain : x.state = .uncertain → r.state = .uncertain ∨ r.position = none
  few : r.deviations.length ≤ 4 → x.deviations.length ≤ 4

theorem Record.Alike.refl (r : Record) : r.Alike r := ⟨rfl, Iff.rfl, fun _ => rfl, Iff.rfl, .inl, id⟩

theorem Record.Alike.trans {y : Record} (first : r.Alike x) (then_ : x.Alike y) : r.Alike y where
  position := then_.position.trans first.position
  queued := then_.queued.trans first.queued
  rush queued := (then_.rush (first.queued.mpr queued)).trans (first.rush queued)
  running := then_.running.trans first.running
  uncertain st := (then_.uncertain st).elim first.uncertain fun none => .inr (first.position ▸ none)
  few := then_.few ∘ first.few

/-- A record whose state stays, with the other fields that count. -/
theorem alike_of_state (state : x.state = r.state) (position : x.position = r.position) (rush : x.rush = r.rush)
    (deviations : x.deviations = r.deviations) : r.Alike x :=
  ⟨position, by rw [state], fun _ => rush, by rw [state], fun st => .inl (state ▸ st), by rw [deviations]; exact id⟩

/-- A record that moves between states that neither the queue nor STEP_EN depends on. -/
theorem alike_of_move (from_ : r.state ≠ .queued ∧ r.state ≠ .running)
    (into : x.state ≠ .queued ∧ x.state ≠ .running ∧ x.state ≠ .uncertain)
    (position : x.position = r.position) (deviations : x.deviations = r.deviations) : r.Alike x :=
  ⟨position, ⟨fun st => absurd st into.1, fun st => absurd st from_.1⟩, fun st => absurd st from_.1,
    ⟨fun st => absurd st into.2.1, fun st => absurd st from_.2⟩, fun st => absurd st into.2.2, by rw [deviations]; exact id⟩

theorem State.Holds.alike (holds : s.Holds h r) (alike : r.Alike x) : s.Holds h x where
  rush := holds.rush.trans ⟨fun ⟨queued, mark⟩ => ⟨alike.queued.mpr queued, (alike.rush queued).trans mark⟩,
    fun ⟨queued, mark⟩ => ⟨alike.queued.mp queued, (alike.rush (alike.queued.mp queued)).symm.trans mark⟩⟩
  ordinary := holds.ordinary.trans ⟨fun ⟨queued, mark⟩ => ⟨alike.queued.mpr queued, (alike.rush queued).trans mark⟩,
    fun ⟨queued, mark⟩ => ⟨alike.queued.mp queued, (alike.rush (alike.queued.mp queued)).symm.trans mark⟩⟩
  named p := by rw [alike.position]; exact holds.named p
  loose st := by
    rw [alike.position]
    obtain queued | uncertain := st
    · exact holds.loose (.inl (alike.queued.mp queued))
    · exact (alike.uncertain uncertain).elim (fun st => holds.loose (.inr st)) id
  lit p link := by rw [holds.lit p link, alike.running]
  stands running := holds.stands (alike.running.mp running)
  few := alike.few holds.few

/-- The parts of a booking entry that a slot and a position depend on. -/
def Booking.key (b : Booking) : Tag × Addr × PosIx × Handle := (b.tag, b.booker, b.position, b.slot)

/-- In t, nothing that Sound reads of s has changed, but for records in place of records alike. -/
structure State.Calm (s t : State) : Prop where
  slots : ∀ h, (t.slot h).state = (s.slot h).state ∨ ∃ r x, s.rec? h = some r ∧ t.rec? h = some x ∧ r.Alike x
  freeList : t.store.freeList = s.store.freeList
  rush : t.store.rushQueue = s.store.rushQueue
  ordinary : t.store.ordinaryQueue = s.store.ordinaryQueue
  places : ∀ p, (t.pos p).state = (s.pos p).state ∧ (t.pos p).link = (s.pos p).link ∧ (t.pos p).stepEn = (s.pos p).stepEn
  entries : t.bookings.map Booking.key = s.bookings.map Booking.key

theorem rec_of_state (state : (t.slot h).state = (s.slot h).state) : t.rec? h = s.rec? h := by simp only [State.rec?, state]

theorem State.Calm.refl (s : State) : s.Calm s :=
  ⟨fun _ => .inl rfl, rfl, rfl, rfl, fun _ => ⟨rfl, rfl, rfl⟩, rfl⟩

theorem State.Calm.recOpt (calm : s.Calm t) (stands : s.rec? h = some r) : ∃ x, t.rec? h = some x ∧ r.Alike x := by
  obtain state | ⟨y, x, here, there, alike⟩ := calm.slots h
  · exact ⟨r, (rec_of_state state).trans stands, .refl r⟩
  · obtain rfl := Option.some.inj (stands.symm.trans here)
    exact ⟨x, there, alike⟩

theorem State.Calm.trans (first : s.Calm t) (then_ : t.Calm u) : s.Calm u where
  slots h := by
    obtain state | ⟨r, x, here, there, alike⟩ := first.slots h
    · obtain state' | ⟨r, x, here, there, alike⟩ := then_.slots h
      · exact .inl (state'.trans state)
      · exact .inr ⟨r, x, (rec_of_state state).symm.trans here, there, alike⟩
    · obtain ⟨y, there', alike'⟩ := then_.recOpt there
      exact .inr ⟨r, y, here, there', alike.trans alike'⟩
  freeList := then_.freeList.trans first.freeList
  rush := then_.rush.trans first.rush
  ordinary := then_.ordinary.trans first.ordinary
  places p := ⟨(then_.places p).1.trans (first.places p).1, (then_.places p).2.1.trans (first.places p).2.1,
    (then_.places p).2.2.trans (first.places p).2.2⟩
  entries := then_.entries.trans first.entries

theorem State.Calm.free_iff (calm : s.Calm t) (h : Handle) : (t.slot h).state = .free ↔ (s.slot h).state = .free := by
  obtain state | ⟨r, x, here, there, -⟩ := calm.slots h
  · rw [state]
  · rw [recOpt_iff.mp here, recOpt_iff.mp there]
    exact ⟨nofun, nofun⟩

theorem State.Calm.reserved_iff (calm : s.Calm t) (h : Handle) : (t.slot h).state = .reserved ↔ (s.slot h).state = .reserved := by
  obtain state | ⟨r, x, here, there, -⟩ := calm.slots h
  · rw [state]
  · rw [recOpt_iff.mp here, recOpt_iff.mp there]
    exact ⟨nofun, nofun⟩

theorem State.Calm.recOpt_none (calm : s.Calm t) : t.rec? h = none ↔ s.rec? h = none := by
  obtain state | ⟨r, x, here, there, -⟩ := calm.slots h
  · rw [rec_of_state state]
  · rw [here, there]
    exact ⟨nofun, nofun⟩

/-- The booking list's part of Sound, by the keys. -/
theorem bookingsKept_of_keys (entries : t.bookings.map Booking.key = s.bookings.map Booking.key)
    (reserved : ∀ h, (t.slot h).state = .reserved ↔ (s.slot h).state = .reserved)
    (booked : ∀ p, (t.pos p).state = .booked ↔ (s.pos p).state = .booked) (kept : s.BookingsKept) : t.BookingsKept := by
  obtain ⟨slots, positions, slotOnce, positionOnce, tagOnce⟩ := kept
  have keys {α : Type} (f : Tag × Addr × PosIx × Handle → α) :
      t.bookings.map (fun b => f b.key) = s.bookings.map fun b => f b.key := by
    simpa only [List.map_map, Function.comp_def] using congrArg (List.map f) entries
  have some_ {α : Type} (f : Tag × Addr × PosIx × Handle → α) (y : α) :
      (∃ b ∈ t.bookings, f b.key = y) ↔ ∃ b ∈ s.bookings, f b.key = y := by
    rw [← List.mem_map (f := fun b : Booking => f b.key), ← List.mem_map (f := fun b : Booking => f b.key), keys f]
  refine ⟨fun h => ?_, fun p => ?_, ?_, ?_, ?_⟩
  · exact (reserved h).trans ((slots h).trans (some_ (·.2.2.2) h).symm)
  · exact (booked p).trans ((positions p).trans (some_ (·.2.2.1) p).symm)
  · exact (keys (·.2.2.2)) ▸ slotOnce
  · exact (keys (·.2.2.1)) ▸ positionOnce
  · exact (keys fun k => (k.1, k.2.1)) ▸ tagOnce

theorem State.Calm.framed (calm : s.Calm t) (framed : s.Framed) : t.Framed where
  free := by
    obtain ⟨once, listed⟩ := framed.free
    exact ⟨calm.freeList ▸ once, fun h => by rw [calm.freeList, calm.free_iff]; exact listed h⟩
  booked := bookingsKept_of_keys calm.entries calm.reserved_iff (fun p => by rw [(calm.places p).1]) framed.booked
  rushOnce := calm.rush ▸ framed.rushOnce
  ordinaryOnce := calm.ordinary ▸ framed.ordinaryOnce
  links p := by rw [(calm.places p).1, (calm.places p).2.1]; exact framed.links p
  dark p none := by
    rw [(calm.places p).2.1] at none
    rw [(calm.places p).2.2]
    exact framed.dark p none

theorem State.Calm.holds (calm : s.Calm t) (holds : s.Holds h r) : t.Holds h r where
  rush := by rw [calm.rush]; exact holds.rush
  ordinary := by rw [calm.ordinary]; exact holds.ordinary
  named p := by rw [(calm.places p).2.1]; exact holds.named p
  loose := holds.loose
  lit p link := by
    obtain ⟨state, same, en⟩ := calm.places p
    rw [state, en]
    exact holds.lit p (same ▸ link)
  stands running := by
    obtain ⟨p, link, occupied⟩ := holds.stands running
    obtain ⟨state, same, -⟩ := calm.places p
    exact ⟨p, same.trans link, state.trans occupied⟩
  few := holds.few

theorem State.Calm.seated (calm : s.Calm t) (seated : s.Seated h) : t.Seated h := by
  cases here : s.rec? h with
  | none =>
    obtain ⟨rush, ordinary, unnamed⟩ := seated.vacant here
    refine State.Vacant.seated ⟨?_, ?_, fun p => ?_⟩ (calm.recOpt_none.mpr here)
    · rwa [calm.rush]
    · rwa [calm.ordinary]
    · rw [(calm.places p).2.1]
      exact unnamed p
  | some r =>
    obtain ⟨x, there, alike⟩ := calm.recOpt here
    exact (calm.holds ((seated.holds here).alike alike)).seated there

theorem State.Calm.apart (calm : s.Calm t) (apart : s.Apart h) : t.Apart h :=
  ⟨calm.framed apart.1, fun g other => calm.seated (apart.2 g other)⟩

theorem State.Calm.whole (calm : s.Calm t) (whole : s.Whole) : t.Whole :=
  ⟨calm.framed whole.1, fun h => calm.seated (whole.2 h)⟩

end

end Sys2Proof.Machine
end

section
/-! SUPPORT. The single changes of records, slots and positions, and what they leave of the rest. -/

namespace Sys2Proof.Machine
open Host

section
variable {s t u : State} {h g : Handle} {r x : Record} {p q : PosIx} {f : Position → Position}

/-! ### Changes that Sound does not see -/

theorem calm_of_states (states : t.states = s.states) (freeList : t.store.freeList = s.store.freeList)
    (rush : t.store.rushQueue = s.store.rushQueue) (ordinary : t.store.ordinaryQueue = s.store.ordinaryQueue)
    (seqr : t.seqr = s.seqr) (bookings : t.bookings = s.bookings) : s.Calm t where
  slots h := .inl (by rw [slotState_states, slotState_states, states])
  freeList := freeList
  rush := rush
  ordinary := ordinary
  places p := by simp only [State.pos, seqr, and_self]
  entries := by rw [bookings]

theorem calm_of_store (store : t.store = s.store) (seqr : t.seqr = s.seqr) (bookings : t.bookings = s.bookings) : s.Calm t :=
  calm_of_states (by rw [State.states, State.states, store]) (by rw [store]) (by rw [store]) (by rw [store]) seqr bookings

theorem calm_setRec (stands : s.rec? h = some r) (alike : r.Alike x) : s.Calm (s.setRec h x) where
  slots g := by
    by_cases same : h = g
    · subst same
      exact .inr ⟨r, x, stands, recOpt_setRec_same _ _ _, alike⟩
    · refine .inl ?_
      rw [slot_setRec, if_neg same]
  freeList := rfl
  rush := rfl
  ordinary := rfl
  places _ := ⟨rfl, rfl, rfl⟩
  entries := rfl

theorem calm_updRec {f : Record → Record} (alike : ∀ r, s.rec? h = some r → r.Alike (f r)) : s.Calm (s.updRec h f) := by
  unfold State.updRec
  split
  · next r stands => exact calm_setRec stands (alike r stands)
  · exact .refl s

theorem calm_updPos (state : (f (s.pos p)).state = (s.pos p).state) (link : (f (s.pos p)).link = (s.pos p).link)
    (stepEn : (f (s.pos p)).stepEn = (s.pos p).stepEn) : s.Calm (s.updPos p f) where
  slots _ := .inl rfl
  freeList := rfl
  rush := rfl
  ordinary := rfl
  places q := by
    rw [pos_updPos]
    split
    · next same => exact same ▸ ⟨state, link, stepEn⟩
    · exact ⟨rfl, rfl, rfl⟩
  entries := rfl

theorem calm_ite {c : Prop} [Decidable c] (yes : c → s.Calm t) (no : ¬c → s.Calm u) : s.Calm (if c then t else u) := by
  split
  · next on => exact yes on
  · next off => exact no off

theorem calm_foldl {α : Type} (f : State → α → State) (step : ∀ (s : State) a, s.Calm (f s a)) (l : List α) (s : State) :
    s.Calm (l.foldl f s) := by
  induction l generalizing s with
  | nil => exact .refl s
  | cons a l ih => exact (step s a).trans (ih (f s a))

/-! ### What the queue and the positions say of a slot -/

theorem State.Holds.congr (holds : s.Holds h r) (rush : t.store.rushQueue = s.store.rushQueue)
    (ordinary : t.store.ordinaryQueue = s.store.ordinaryQueue) (seqr : t.seqr = s.seqr) : t.Holds h r where
  rush := by rw [rush]; exact holds.rush
  ordinary := by rw [ordinary]; exact holds.ordinary
  named p := by simp only [State.pos, seqr]; exact holds.named p
  loose := holds.loose
  lit p link := by
    simp only [State.pos, seqr] at link ⊢
    exact holds.lit p link
  stands := by simp only [State.pos, seqr]; exact holds.stands
  few := holds.few

theorem State.Vacant.congr (vacant : s.Vacant h) (rush : t.store.rushQueue = s.store.rushQueue)
    (ordinary : t.store.ordinaryQueue = s.store.ordinaryQueue) (seqr : t.seqr = s.seqr) : t.Vacant h where
  rush := by rw [rush]; exact vacant.rush
  ordinary := by rw [ordinary]; exact vacant.ordinary
  unnamed p := by simp only [State.pos, seqr]; exact vacant.unnamed p

theorem State.Seated.congr (seated : s.Seated h) (state : (t.slot h).state = (s.slot h).state)
    (rush : t.store.rushQueue = s.store.rushQueue)
    (ordinary : t.store.ordinaryQueue = s.store.ordinaryQueue) (seqr : t.seqr = s.seqr) : t.Seated h := by
  rw [State.Seated, rec_of_state state]
  exact ⟨fun r here => (seated.holds here).congr rush ordinary seqr, fun none => (seated.vacant none).congr rush ordinary seqr⟩

theorem Holds.unqueued (holds : s.Holds h r) (other : r.state ≠ .queued) : h ∉ s.store.rushQueue ∧ h ∉ s.store.ordinaryQueue :=
  ⟨fun m => other (holds.rush.mp m).1, fun m => other (holds.ordinary.mp m).1⟩

/-! ### The record of a slot replaced -/

theorem not_free_of_rec (stands : s.rec? h = some r) : (s.slot h).state ≠ .free ∧ (s.slot h).state ≠ .reserved := by
  rw [recOpt_iff.mp stands]
  exact ⟨nofun, nofun⟩

theorem framed_setRec (framed : s.Framed) (stands : s.rec? h = some r) : (s.setRec h x).Framed := by
  obtain ⟨notFree, notReserved⟩ := not_free_of_rec stands
  have state {st : SlotState} (other : SlotState.inUse x ≠ st) (mine : (s.slot h).state ≠ st) (g : Handle) :
      ((s.setRec h x).slot g).state = st ↔ (s.slot g).state = st := by
    rw [slot_setRec]
    by_cases same : h = g
    · subst same
      rw [if_pos rfl]
      exact ⟨fun here => absurd here other, fun here => absurd here mine⟩
    · rw [if_neg same]
  have free := state (st := .free) nofun notFree
  have reserved := state (st := .reserved) nofun notReserved
  obtain ⟨⟨once, listed⟩, booked, rushOnce, ordinaryOnce, links, dark⟩ := framed
  refine ⟨⟨once, fun g => ?_⟩, ?_, rushOnce, ordinaryOnce, links, dark⟩
  · rw [free]
    exact listed g
  · exact bookingsKept_of_keys (s := s) rfl reserved (fun _ => Iff.rfl) booked

theorem State.Apart.setRec (apart : s.Apart h) (stands : s.rec? h = some r) (x : Record) : (s.setRec h x).Apart h := by
  refine ⟨framed_setRec apart.1 stands, fun g other => (apart.2 g other).congr ?_ rfl rfl rfl⟩
  rw [slot_setRec, if_neg other.symm]

/-- A record that suits the queue and the positions goes into its slot. -/
theorem State.Apart.whole_setRec (apart : s.Apart h) (stands : s.rec? h = some r) (holds : s.Holds h x) : (s.setRec h x).Whole :=
  (apart.setRec stands x).whole (State.Holds.seated (holds.congr (t := s.setRec h x) rfl rfl rfl) (recOpt_setRec_same _ _ _))

/-! ### A position that no other slot has to do with -/

theorem framed_updPos (framed : s.Framed)
    (links : (f (s.pos p)).link ≠ none ↔ (f (s.pos p)).state = .assigned ∨ (f (s.pos p)).state = .occupied)
    (dark : (f (s.pos p)).link = none → (f (s.pos p)).stepEn = false)
    (booked : (f (s.pos p)).state = .booked ↔ (s.pos p).state = .booked) : (s.updPos p f).Framed := by
  obtain ⟨free, kept, rushOnce, ordinaryOnce, links', dark'⟩ := framed
  refine ⟨free, bookingsKept_of_keys (s := s) rfl (fun _ => Iff.rfl) (fun q => ?_) kept, rushOnce, ordinaryOnce, fun q => ?_, fun q => ?_⟩
  · rw [pos_updPos]
    split
    · next same => exact same ▸ booked
    · exact Iff.rfl
  · rw [pos_updPos]
    split
    · exact links
    · exact links' q
  · rw [pos_updPos]
    split
    · exact dark
    · exact dark' q

theorem seated_updPos_other (seated : s.Seated g) (before : (s.pos p).link ≠ some g) (after : (f (s.pos p)).link ≠ some g) :
    (s.updPos p f).Seated g := by
  have away (q : PosIx) (link : (s.pos q).link = some g) : p ≠ q := fun same => before (same ▸ link)
  have link_ (q : PosIx) : ((s.updPos p f).pos q).link = some g ↔ (s.pos q).link = some g := by
    rw [pos_updPos]
    split
    · next same => exact ⟨fun link => absurd link after, fun link => absurd (same ▸ link) before⟩
    · exact Iff.rfl
  refine ⟨fun r here => ?_, fun none => ?_⟩
  · have holds := seated.holds (r := r) here
    refine ⟨holds.rush, holds.ordinary, fun q => (link_ q).trans (holds.named q), holds.loose, fun q link => ?_, fun running => ?_,
        holds.few⟩
    · have here := (link_ q).mp link
      rw [pos_updPos_ne _ _ _ _ (away q here)]
      exact holds.lit q here
    · obtain ⟨q, link, occupied⟩ := holds.stands running
      refine ⟨q, (link_ q).mpr link, ?_⟩
      rw [pos_updPos_ne _ _ _ _ (away q link)]
      exact occupied
  · obtain ⟨rush, ordinary, unnamed⟩ := seated.vacant none
    exact ⟨rush, ordinary, fun q link => unnamed q ((link_ q).mp link)⟩

theorem State.Apart.updPos (apart : s.Apart h) (before : ∀ g, (s.pos p).link = some g → g = h)
    (after : ∀ g, (f (s.pos p)).link = some g → g = h)
    (links : (f (s.pos p)).link ≠ none ↔ (f (s.pos p)).state = .assigned ∨ (f (s.pos p)).state = .occupied)
    (dark : (f (s.pos p)).link = none → (f (s.pos p)).stepEn = false)
    (booked : (f (s.pos p)).state = .booked ↔ (s.pos p).state = .booked) : (s.updPos p f).Apart h :=
  ⟨framed_updPos apart.1 links dark booked, fun g other => seated_updPos_other (apart.2 g other) (fun link => other (before g link))
    fun link => other (after g link)⟩

/-- A position of the slot's record changes neither its state nor its link. -/
theorem State.Apart.relight (apart : s.Apart h) (link : (s.pos p).link = some h) (state : (f (s.pos p)).state = (s.pos p).state)
    (same : (f (s.pos p)).link = (s.pos p).link) : (s.updPos p f).Apart h := by
  have mine : ∀ g, (s.pos p).link = some g → g = h := fun g here => Option.some.inj (here.symm.trans link)
  refine apart.updPos mine (same ▸ mine) ?_ (fun none => ?_) (by rw [state])
  · rw [state, same]
    exact apart.1.links p
  · rw [same, link] at none
    cases none

/-- The slot's record loses its position. -/
theorem State.Apart.vacate (apart : s.Apart h) (link : (s.pos p).link = some h) {st : PosState} (empty : st = .empty ∨ st = .clearing) :
    (s.vacate p st).Apart h := by
  have busy := (apart.1.links p).mp (by rw [link]; exact nofun)
  refine apart.updPos (fun g here => Option.some.inj (here.symm.trans link)) nofun ?_ (fun _ => rfl) ?_
  · obtain rfl | rfl := empty <;> simp
  · obtain rfl | rfl := empty <;> obtain st | st := busy <;> simp [st]

/-! ### The arrival queue -/

theorem State.Apart.unqueue (apart : s.Apart h) : (s.unqueue h).Apart h := by
  obtain ⟨⟨free, kept, rushOnce, ordinaryOnce, links, dark⟩, others⟩ := apart
  refine ⟨⟨free, kept, rushOnce.filter _, ordinaryOnce.filter _, links, dark⟩, fun g other => ?_⟩
  have rush : g ∈ (s.unqueue h).store.rushQueue ↔ g ∈ s.store.rushQueue := by simp [other]
  have ordinary : g ∈ (s.unqueue h).store.ordinaryQueue ↔ g ∈ s.store.ordinaryQueue := by simp [other]
  refine ⟨fun r here => ?_, fun none => ?_⟩
  · have holds := (others g other).holds (r := r) here
    exact ⟨rush.trans holds.rush, ordinary.trans holds.ordinary, holds.named, holds.loose, holds.lit, holds.stands, holds.few⟩
  · obtain ⟨notRush, notOrdinary, unnamed⟩ := (others g other).vacant none
    exact ⟨mt rush.mp notRush, mt ordinary.mp notOrdinary, unnamed⟩

theorem mem_rushQueue_enqueue (b : Bool) : g ∈ (s.enqueue h b).store.rushQueue ↔ g ∈ s.store.rushQueue ∨ b = true ∧ g = h := by
  cases b <;> simp [State.enqueue]

theorem mem_ordinaryQueue_enqueue (b : Bool) :
    g ∈ (s.enqueue h b).store.ordinaryQueue ↔ g ∈ s.store.ordinaryQueue ∨ b = false ∧ g = h := by
  cases b <;> simp [State.enqueue]

theorem framed_enqueue (framed : s.Framed) (notRush : h ∉ s.store.rushQueue) (notOrdinary : h ∉ s.store.ordinaryQueue) (b : Bool) :
    (s.enqueue h b).Framed := by
  obtain ⟨free, kept, rushOnce, ordinaryOnce, links, dark⟩ := framed
  have nodup {l : List Handle} (once : l.Nodup) (away : h ∉ l) : (l ++ [h]).Nodup :=
    List.nodup_append.mpr ⟨once, List.nodup_singleton h, fun g m _ n same => away (List.mem_singleton.mp n ▸ same ▸ m)⟩
  cases b with
  | true => exact ⟨free, kept, nodup rushOnce notRush, ordinaryOnce, links, dark⟩
  | false => exact ⟨free, kept, rushOnce, nodup ordinaryOnce notOrdinary, links, dark⟩

theorem seated_enqueue_other (seated : s.Seated g) (other : g ≠ h) (b : Bool) : (s.enqueue h b).Seated g := by
  have rush : g ∈ (s.enqueue h b).store.rushQueue ↔ g ∈ s.store.rushQueue := by simp [mem_rushQueue_enqueue, other]
  have ordinary : g ∈ (s.enqueue h b).store.ordinaryQueue ↔ g ∈ s.store.ordinaryQueue := by simp [mem_ordinaryQueue_enqueue, other]
  have rec_ : (s.enqueue h b).rec? g = s.rec? g := by cases b <;> rfl
  have pos (q : PosIx) : (s.enqueue h b).pos q = s.pos q := pos_enqueue ..
  refine ⟨fun r here => ?_, fun none => ?_⟩
  · have holds := seated.holds (rec_ ▸ here)
    exact ⟨rush.trans holds.rush, ordinary.trans holds.ordinary, fun q => by rw [pos]; exact holds.named q, holds.loose,
      fun q => by rw [pos]; exact holds.lit q, by simpa only [pos] using holds.stands, holds.few⟩
  · obtain ⟨notRush, notOrdinary, unnamed⟩ := seated.vacant (rec_ ▸ none)
    exact ⟨mt rush.mp notRush, mt ordinary.mp notOrdinary, fun q => by rw [pos]; exact unnamed q⟩

theorem State.Apart.enqueue (apart : s.Apart h) (notRush : h ∉ s.store.rushQueue) (notOrdinary : h ∉ s.store.ordinaryQueue) (b : Bool) :
    (s.enqueue h b).Apart h :=
  ⟨framed_enqueue apart.1 notRush notOrdinary b, fun g other => seated_enqueue_other (apart.2 g other) other b⟩

/-! ### A slot freed (R11) -/

theorem State.Apart.freeSlot (apart : s.Apart h) (stands : s.rec? h = some r) : (s.freeSlot h).Apart h := by
  obtain ⟨notFree, notReserved⟩ := not_free_of_rec stands
  have state (g : Handle) : ((s.freeSlot h).slot g).state = if h = g then .free else (s.slot g).state := by
    split
    · next same =>
      subst same
      simp [State.freeSlot, State.slot]
    · next other => rw [(freeSlot_spec h s).2.2.2.1 g fun same => other same.symm]
  obtain ⟨⟨⟨once, listed⟩, kept, rushOnce, ordinaryOnce, links, dark⟩, others⟩ := apart
  refine ⟨⟨⟨List.nodup_cons.mpr ⟨fun m => notFree ((listed h).mp m), once⟩, fun g => ?_⟩, ?_, rushOnce, ordinaryOnce, links, dark⟩,
    fun g other => (others g other).congr ?_ rfl rfl rfl⟩
  · rw [state]
    show g ∈ h :: s.store.freeList ↔ _
    rw [List.mem_cons, listed]
    by_cases same : h = g
    · simp [same]
    · simp [same, Ne.symm same]
  · refine bookingsKept_of_keys (s := s) rfl (fun g => ?_) (fun _ => Iff.rfl) kept
    rw [state]
    split
    · next same => exact ⟨nofun, fun here => absurd (same ▸ here) notReserved⟩
    · exact Iff.rfl
  · rw [state, if_neg other.symm]

end

end Sys2Proof.Machine
end

section
/-! SUPPORT. The operations that neither the queue, nor a position, nor the free list depends on. -/

namespace Sys2Proof.Machine
open Host

section
variable {s t u : State} {h g : Handle} {r x : Record} {p q : PosIx}

/-! ### Events, frames and responses -/

theorem calm_post (e : Event) (s : State) : s.Calm (s.post e) := calm_of_store (store_post ..) (seqr_post ..) (bookings_post ..)

theorem calm_queueFrame (o : Origin) (f : Frame) (s : State) : s.Calm (s.queueFrame o f) :=
  calm_of_store (store_queueFrame ..) (seqr_queueFrame ..) (bookings_queueFrame ..)

theorem calm_withdrawTx (o : Origin) (s : State) : s.Calm (s.withdrawTx o) :=
  calm_of_store (store_withdrawTx ..) (seqr_withdrawTx ..) (bookings_withdrawTx ..)

theorem calm_removeTx (o : Origin) (s : State) : s.Calm (s.removeTx o) := calm_of_store rfl rfl rfl

theorem calm_respond (st : Status) (data : BitVec 24) (s : State) : s.Calm (s.respond st data) := calm_of_store rfl rfl rfl

theorem calm_ok (d2 d1 d0 : Byte) (s : State) : s.Calm (s.ok d2 d1 d0) := calm_of_store rfl rfl rfl

theorem calm_refuse (c : Reason) (d0 : Byte) (s : State) : s.Calm (s.refuse c d0) := calm_of_store rfl rfl rfl

theorem calm_deliver (s : State) : s.Calm s.deliver := calm_of_store rfl rfl rfl

theorem calm_judgeSlots (s : State) : s.Calm s.judgeSlots :=
  calm_of_states (states_judgeSlots s) (freeList_judgeSlots s) (rushQueue_judgeSlots s) (ordinaryQueue_judgeSlots s) (seqr_judgeSlots s)
    (bookings_judgeSlots s)

theorem calm_clearTx (s : State) : s.Calm s.clearTx where
  slots h := .inl (by
    rw [clearTx_eq]
    simp only [State.slot, Fin.getElem_fin, Vector.getElem_map])
  freeList := rfl
  rush := rfl
  ordinary := rfl
  places _ := ⟨rfl, rfl, rfl⟩
  entries := rfl

/-! ### Claims -/

theorem calm_setClaim (p : PosIx) (c : ClaimState) (s : State) : s.Calm (s.setClaim p c) := calm_updPos rfl rfl rfl

theorem calm_setRemembered (p : PosIx) (b : Bool) (s : State) : s.Calm (s.setRemembered p b) := calm_updPos rfl rfl rfl

theorem calm_queueClaim (p : PosIx) (s : State) : s.Calm (s.queueClaim p) := (calm_queueFrame _ _ s).trans (calm_setClaim _ _ _)

theorem calm_queueRelease (p : PosIx) (s : State) : s.Calm (s.queueRelease p) := (calm_queueFrame _ _ s).trans (calm_setClaim _ _ _)

theorem calm_askClaim (p : PosIx) (s : State) : s.Calm (s.askClaim p) := by
  unfold State.askClaim
  split
  · exact calm_queueClaim p s
  · exact calm_ite (fun _ => calm_setRemembered p true s) fun _ => .refl s
  · exact calm_setRemembered p true s
  · exact .refl s
  · exact .refl s

theorem calm_giveUpClaim (p : PosIx) (s : State) : s.Calm (s.giveUpClaim p) := by
  unfold State.giveUpClaim
  split
  · exact .refl s
  · refine calm_ite (fun _ => calm_setRemembered p false s) fun _ => calm_ite (fun _ => ?_) fun _ => ?_
    · exact (calm_withdrawTx _ s).trans (calm_updPos rfl rfl rfl)
    · exact (calm_removeTx _ s).trans (calm_setClaim p .none _)
  · exact calm_queueRelease p s
  · exact calm_queueRelease p s
  · exact calm_setRemembered p false s

theorem calm_giveUpClaimOpt (p : Option PosIx) (s : State) : s.Calm (s.giveUpClaim? p) := by
  cases p with
  | none => exact .refl s
  | some p => exact calm_giveUpClaim p s

theorem calm_claimWithdrawn (p : PosIx) (s : State) : s.Calm (s.claimWithdrawn p) := by
  have freed : s.Calm (s.updPos p fun x => { x with claim := .none, withdrawing := false, remembered := false }) :=
    calm_updPos rfl rfl rfl
  exact calm_ite (fun _ => freed.trans (calm_queueClaim p _)) fun _ => freed

theorem calm_dropClaims (s : State) : s.Calm s.dropClaims where
  slots _ := .inl rfl
  freeList := rfl
  rush := rfl
  ordinary := rfl
  places p := by
    rw [State.pos, State.dropClaims, Fin.getElem_fin, Vector.getElem_map]
    exact ⟨rfl, rfl, rfl⟩
  entries := rfl

theorem calm_claimStands (p : PosIx) (st : ClaimState) (s : State) : s.Calm (s.claimStands p st) := by
  unfold State.claimStands
  exact calm_ite (fun _ => (calm_updPos (f := fun x => { x with withdrawing := false }) rfl rfl rfl).trans (calm_queueRelease p _))
    fun _ => calm_updPos rfl rfl rfl

theorem calm_ownRelease (payload : List Byte) (s : State) : s.Calm (s.ownRelease payload) := by
  unfold State.ownRelease
  split
  · exact .refl s
  · next p _ =>
    have freed : s.Calm (s.updPos p fun x => { x with claim := .none, remembered := false }) := calm_updPos rfl rfl rfl
    exact calm_ite (fun _ => calm_ite (fun _ => freed.trans (calm_queueClaim p _)) fun _ => freed) fun _ => .refl s

/-! ### The frames of a slot's origin -/

theorem calm_sendSlot (h : Handle) (w : SlotWait) (s : State) : s.Calm (s.sendSlot h w) :=
  calm_of_states (states_sendSlot ..) (freeList_sendSlot ..) (rushQueue_sendSlot ..) (ordinaryQueue_sendSlot ..) (seqr_sendSlot ..)
    (bookings_sendSlot ..)

theorem calm_dropWaits (h : Handle) (w : SlotWait) (s : State) : s.Calm (s.dropWaits h w) :=
  calm_of_states (states_dropWaits ..) (freeList_dropWaits ..) (rushQueue_dropWaits ..) (ordinaryQueue_dropWaits ..) (seqr_dropWaits ..)
    (bookings_dropWaits ..)

theorem calm_withdrawSlot (h : Handle) (k : FrameKind) (s : State) : s.Calm (s.withdrawSlot h k) :=
  calm_of_states (states_withdrawSlot ..) (freeList_withdrawSlot ..) (rushQueue_withdrawSlot ..) (ordinaryQueue_withdrawSlot ..)
    (seqr_withdrawSlot ..) (bookings_withdrawSlot ..)

theorem calm_sendRenewal (h : Handle) (s : State) : s.Calm (s.sendRenewal h) :=
  calm_of_states (states_sendRenewal ..) (freeList_sendRenewal ..) (rushQueue_sendRenewal ..) (ordinaryQueue_sendRenewal ..)
    (seqr_sendRenewal ..) (bookings_sendRenewal ..)

theorem calm_withdrawBooks (h : Handle) (s : State) : s.Calm (s.withdrawBooks h) :=
  ((calm_dropWaits h .book s).trans (calm_dropWaits h .renewal _)).trans (calm_withdrawSlot h .book _)

/-! ### Rounds, bookings and transfers -/

/-- The record's slot is worked on with its state kept. -/
theorem calm_setRec_same (stands : s.rec? h = some r) (state : x.state = r.state) (position : x.position = r.position)
    (rush : x.rush = r.rush) (deviations : x.deviations = r.deviations) : s.Calm (s.setRec h x) :=
  calm_setRec stands (alike_of_state state position rush deviations)

theorem calm_roundFrom (h : Handle) (k : Nat) (s : State) : s.Calm (s.roundFrom h k) := by
  cases stands : s.rec? h with
  | none =>
    rw [State.roundFrom, stands]
    exact .refl s
  | some r =>
    cases asks : s.candidateOf r k with
    | none =>
      rw [roundFrom_none stands asks]
      exact calm_setRec_same stands rfl rfl rfl rfl
    | some c =>
      rw [roundFrom_some stands asks]
      refine State.Calm.trans ?_ (calm_sendSlot h .book _)
      exact calm_setRec_same stands rfl rfl rfl rfl

theorem calm_startRound (h : Handle) (s : State) : s.Calm (s.startRound h) := by
  unfold State.startRound
  split
  · exact .refl s
  · exact calm_ite (fun _ => calm_roundFrom h 1 s) fun _ => .refl s

theorem calm_failCandidate (h : Handle) (s : State) : s.Calm (s.failCandidate h) := by
  unfold State.failCandidate
  split
  · exact .refl s
  · split
    · exact (calm_dropWaits h .book s).trans (calm_roundFrom h _ _)
    · exact .refl s
    · exact .refl s

theorem calm_endBooking (h : Handle) (s : State) : s.Calm (s.endBooking h) := by
  cases stands : s.rec? h with
  | none =>
    rw [State.endBooking, stands]
    exact .refl s
  | some r =>
    have unbooked : s.Calm (s.setRec h r.unbooked) := calm_setRec_same stands rfl rfl rfl rfl
    have ended := unbooked.trans (calm_withdrawBooks h _)
    rw [endBooking_eq stands]
    split
    · exact ended
    · exact ended
    · exact ended.trans (calm_sendSlot h _ _)

theorem calm_startTransfer (stands : s.rec? h = some r) (ended : r.state = .ended) : s.Calm (s.startTransfer h) := by
  simp only [State.startTransfer, stands]
  refine (calm_setRec stands ?_).trans (calm_sendSlot h .part _)
  exact alike_of_move (by simp [ended]) ⟨nofun, nofun, nofun⟩ rfl rfl

theorem calm_stopTransfer (h : Handle) (s : State) : s.Calm (s.stopTransfer h) :=
  ((calm_dropWaits h .part s).trans (calm_withdrawSlot h .carry _)).trans
    (calm_updRec fun _ _ => alike_of_state rfl rfl rfl rfl)

theorem calm_judgeReady (h : Handle) (s : State) : s.Calm (s.judgeReady h) := by
  unfold State.judgeReady
  split
  · exact .refl s
  · next r stands =>
    split
    · refine calm_ite (fun ready => ?_) fun _ => .refl s
      have loaded := (ready_iff.mp ready).1
      refine State.Calm.trans ?_ (calm_askClaim _ _)
      exact calm_setRec stands (alike_of_move (by simp [loaded]) ⟨nofun, nofun, nofun⟩ rfl rfl)
    · exact .refl s

end

end Sys2Proof.Machine
end

section
/-! SUPPORT. A record held, and the checked states entered, keep the records, slots and positions together (R53, R55, R58). -/

namespace Sys2Proof.Machine
open Host

/-- The arrival queue and the positions' links suit record r in slot h; the levels of STEP_EN may not. -/
structure State.Houses (s : State) (h : Handle) (r : Record) : Prop where
  rush : h ∈ s.store.rushQueue ↔ r.state = .queued ∧ r.rush = true
  ordinary : h ∈ s.store.ordinaryQueue ↔ r.state = .queued ∧ r.rush = false
  named : ∀ p, (s.pos p).link = some h ↔ r.position = some p
  loose : r.state = .queued ∨ r.state = .uncertain → r.position = none
  few : r.deviations.length ≤ 4

/-- The positions' links suit a record that is neither queued nor running, whose position is pos. -/
structure State.Idles (s : State) (h : Handle) (pos : Option PosIx) : Prop where
  rush : h ∉ s.store.rushQueue
  ordinary : h ∉ s.store.ordinaryQueue
  named : ∀ p, (s.pos p).link = some h ↔ pos = some p
  dark : ∀ p, (s.pos p).link = some h → (s.pos p).stepEn = false

section
variable {s t u : State} {h g : Handle} {r x : Record} {p q : PosIx} {k : DevKind} {v : BitVec 24} {leaves : Bool}

theorem State.Holds.houses (holds : s.Holds h r) : s.Houses h r := ⟨holds.rush, holds.ordinary, holds.named, holds.loose, holds.few⟩

theorem State.Houses.unqueued (houses : s.Houses h r) (other : r.state ≠ .queued) :
    h ∉ s.store.rushQueue ∧ h ∉ s.store.ordinaryQueue :=
  ⟨fun m => other (houses.rush.mp m).1, fun m => other (houses.ordinary.mp m).1⟩

theorem State.Holds.idles (holds : s.Holds h r) (unqueued : r.state ≠ .queued) (stopped : r.state ≠ .running) : s.Idles h r.position :=
  ⟨(holds.houses.unqueued unqueued).1, (holds.houses.unqueued unqueued).2, holds.named,
    fun p link => Bool.eq_false_iff.mpr fun on => stopped ((holds.lit p link).mp on).2⟩

theorem State.Idles.holds (idles : s.Idles h x.position) (unqueued : x.state ≠ .queued) (stopped : x.state ≠ .running)
    (loose : x.state = .uncertain → x.position = none) (few : x.deviations.length ≤ 4) : s.Holds h x where
  rush := ⟨fun m => absurd m idles.rush, fun on => absurd on.1 unqueued⟩
  ordinary := ⟨fun m => absurd m idles.ordinary, fun on => absurd on.1 unqueued⟩
  named := idles.named
  loose st := st.elim (fun st => absurd st unqueued) loose
  lit p link := by rw [idles.dark p link]; exact ⟨nofun, fun on => absurd on.2 stopped⟩
  stands running := absurd running stopped
  few := few

theorem State.Calm.idles (calm : s.Calm t) {pos : Option PosIx} (idles : s.Idles h pos) : t.Idles h pos where
  rush := by rw [calm.rush]; exact idles.rush
  ordinary := by rw [calm.ordinary]; exact idles.ordinary
  named p := by rw [(calm.places p).2.1]; exact idles.named p
  dark p link := by
    rw [(calm.places p).2.1] at link
    rw [(calm.places p).2.2]
    exact idles.dark p link

theorem State.Idles.congr {pos : Option PosIx} (idles : s.Idles h pos) (rush : t.store.rushQueue = s.store.rushQueue)
    (ordinary : t.store.ordinaryQueue = s.store.ordinaryQueue) (seqr : t.seqr = s.seqr) : t.Idles h pos where
  rush := by rw [rush]; exact idles.rush
  ordinary := by rw [ordinary]; exact idles.ordinary
  named p := by simp only [State.pos, seqr]; exact idles.named p
  dark p := by simp only [State.pos, seqr]; exact idles.dark p

/-- The station once record x of slot h stands idle. -/
theorem State.Apart.whole_idle (apart : s.Apart h) (stands : s.rec? h = some x) (idles : s.Idles h x.position)
    (unqueued : x.state ≠ .queued) (stopped : x.state ≠ .running) (loose : x.state = .uncertain → x.position = none)
    (few : x.deviations.length ≤ 4) : s.Whole :=
  apart.whole ((idles.holds unqueued stopped loose few).seated stands)

/-- The slot's record, idle, goes off its position. -/
theorem idles_vacateOpt {pos : Option PosIx} {st : PosState} (idles : s.Idles h pos) : (s.vacate? pos st).Idles h none where
  rush := by simpa using idles.rush
  ordinary := by simpa using idles.ordinary
  named p := by
    rw [pos_vacateOpt]
    split
    · exact ⟨nofun, nofun⟩
    · next other => exact ⟨fun link => absurd ((idles.named p).mp link) other, nofun⟩
  dark p := by
    rw [pos_vacateOpt]
    split
    · exact fun _ => rfl
    · exact idles.dark p

theorem State.Apart.vacateOpt {st : PosState} (apart : s.Apart h) (named : ∀ p, (s.pos p).link = some h ↔ r.position = some p)
    (empty : st = .empty ∨ st = .clearing) : (s.vacate? r.position st).Apart h := by
  cases position : r.position with
  | none => exact apart
  | some p => exact apart.vacate ((named p).mpr position) empty

theorem State.Apart.stopPositionOpt (apart : s.Apart h) (named : ∀ p, (s.pos p).link = some h ↔ r.position = some p) :
    (s.stopPosition? r.position).Apart h := by
  cases position : r.position with
  | none => exact apart
  | some p => exact apart.relight (f := fun x => { x with stepEn := false }) ((named p).mpr position) rfl rfl

/-! ### Entry into HELD -/

theorem length_deviate (r : Record) (k : DevKind) (v : BitVec 24)
    (few : r.deviations.length ≤ 4) : (r.deviate k v).deviations.length ≤ 4 := by
  unfold Record.deviate
  split
  · simp only [List.length_append, List.length_singleton]
    omega
  · exact few

theorem position_deviate (r : Record) (k : DevKind) (v : BitVec 24) : (r.deviate k v).position = r.position := by
  unfold Record.deviate
  split <;> rfl

/-- The queue taken care of, the record HELD on its position. -/
theorem idles_unqueue (apart : u.Apart h) (named : ∀ p, (u.pos p).link = some h ↔ r.position = some p)
    (dark : ∀ p, (u.pos p).link = some h → (u.pos p).stepEn = false)
    (unqueued : r.state ≠ .queued → h ∉ u.store.rushQueue ∧ h ∉ u.store.ordinaryQueue) :
    (if r.state = .queued then u.unqueue h else u).Apart h ∧ (if r.state = .queued then u.unqueue h else u).Idles h r.position := by
  split
  · exact ⟨apart.unqueue, by simp, by simp, named, dark⟩
  · next other => exact ⟨apart, (unqueued other).1, (unqueued other).2, named, dark⟩

theorem State.Apart.whole_enterHeld (apart : s.Apart h) (stands : s.rec? h = some r) (houses : s.Houses h r) (active : r.state ≠ .held) :
    (s.enterHeld h k v leaves).Whole := by
  rw [enterHeld_eq k v leaves stands active]
  refine (calm_post _ _).whole ?_
  generalize (leaves || decide (r.state = .placed)) = gone
  have recorded := apart.setRec stands { r.deviate k v with heldFrom := some r.state, state := .held }
  have claim := calm_giveUpClaimOpt r.position (s.setRec h { r.deviate k v with heldFrom := some r.state, state := .held })
  have named1 (p : PosIx) : (((s.setRec h { r.deviate k v with heldFrom := some r.state, state := .held }).giveUpClaim? r.position).pos p).link
      = some h ↔ r.position = some p := by rw [(claim.places p).2.1]; exact houses.named p
  have here : (s.heldHere h k v r).Apart h := (claim.apart recorded).stopPositionOpt named1
  have hpos (q : PosIx) := pos_heldHere (s := s) (h := h) (r := r) k v q
  have named2 (p : PosIx) : ((s.heldHere h k v r).pos p).link = some h ↔ r.position = some p := by
    rw [hpos]
    split
    · rw [(stoppedAt_spec p s).2.1]
      exact houses.named p
    · exact houses.named p
  have dark2 (p : PosIx) (link : ((s.heldHere h k v r).pos p).link = some h) : ((s.heldHere h k v r).pos p).stepEn = false := by
    rw [hpos, if_pos ((named2 p).mp link)]
    rfl
  have ended := calm_endBooking h (s.heldHere h k v r)
  obtain ⟨x, there, alike⟩ := ended.recOpt (recOpt_heldHere k v)
  have position : x.position = r.position := alike.position.trans (position_deviate r k v)
  have unqueuedX : x.state ≠ .queued := fun st => nomatch alike.queued.mp st
  have stopped : x.state ≠ .running := fun st => nomatch alike.running.mp st
  have few : x.deviations.length ≤ 4 := alike.few (length_deviate r k v houses.few)
  have loose : x.state = .uncertain → x.position = none := fun st =>
    (alike.uncertain st).elim nofun fun none => alike.position.trans none
  obtain ⟨apart3, idles3⟩ := idles_unqueue (r := r) (ended.apart here) (fun p => by rw [(ended.places p).2.1]; exact named2 p)
    (fun p => by rw [(ended.places p).2.1, (ended.places p).2.2]; exact dark2 p) fun other => by
      have queues := houses.unqueued other
      rw [ended.rush, ended.ordinary]
      simpa [State.heldHere] using queues
  have there3 : (if r.state = .queued then ((s.heldHere h k v r).endBooking h).unqueue h else (s.heldHere h k v r).endBooking h).rec? h = some x := by
    split
    · exact there
    · exact there
  rw [State.heldAway]
  cases gone with
  | false => exact apart3.whole_idle there3 (position ▸ idles3) unqueuedX stopped loose few
  | true =>
    rw [if_pos rfl]
    generalize (if r.state = .queued then ((s.heldHere h k v r).endBooking h).unqueue h else (s.heldHere h k v r).endBooking h) = w
      at apart3 idles3 there3
    have apart4 := apart3.vacateOpt (st := .empty) idles3.named (.inl rfl)
    have there4 : (w.vacate? r.position .empty).rec? h = some x := by
      cases r.position <;> exact there3
    rw [updRec_some _ _ _ _ there4]
    refine apart4.whole_setRec there4 ?_
    exact State.Idles.holds (idles_vacateOpt idles3) unqueuedX stopped (fun _ => rfl) few

theorem State.Whole.enterHeld (whole : s.Whole) : (s.enterHeld h k v leaves).Whole := by
  cases stands : s.rec? h with
  | none =>
    rw [State.enterHeld, stands]
    exact whole
  | some r =>
    by_cases held : r.state = .held
    · have same : s.enterHeld h k v leaves = s := by simp [State.enterHeld, stands, held]
      rw [same]
      exact whole
    · exact (whole.apart h).whole_enterHeld stands (whole.holds stands).houses held

theorem State.Whole.checkGap (whole : s.Whole) : (s.checkGap h).Whole := by
  unfold State.checkGap
  split
  · exact whole
  · split
    · exact whole.enterHeld
    · exact whole

/-! ### The checked states -/

theorem State.Whole.enterChecked {st : RecState} (whole : s.Whole)
    (from_ : ∀ r, s.rec? h = some r → r.state ≠ .queued ∧ r.state ≠ .running)
    (into : st ≠ .queued ∧ st ≠ .running ∧ st ≠ .uncertain) : (s.enterChecked h st).Whole := by
  have moved : s.Calm (s.updRec h fun r => { r with state := st }) :=
    calm_updRec fun r stands => alike_of_move (from_ r stands) into rfl rfl
  exact (moved.whole whole).checkGap

theorem State.Whole.enterLoaded (whole : s.Whole) (from_ : ∀ r, s.rec? h = some r → r.state ≠ .queued ∧ r.state ≠ .running) :
    (s.enterLoaded h).Whole := by
  have checked := whole.enterChecked (st := .loaded) from_ ⟨by decide, by decide, by decide⟩
  exact (calm_judgeReady h _).whole ((calm_startRound h _).whole checked)

theorem State.Whole.enterEnded (whole : s.Whole) (from_ : ∀ r, s.rec? h = some r → r.state ≠ .queued ∧ r.state ≠ .running) :
    (s.enterEnded h).Whole := by
  have checked := whole.enterChecked (st := .ended) from_ ⟨by decide, by decide, by decide⟩
  unfold State.enterEnded
  dsimp only
  split
  · next r stands =>
    split
    · next ended =>
      split
      · exact (calm_startTransfer stands ended).whole checked
      · exact (calm_startRound h _).whole checked
      · exact checked
    · exact checked
  · exact checked

theorem State.Whole.dropBooking (whole : s.Whole) : (s.dropBooking h).Whole := by
  cases stands : s.rec? h with
  | none =>
    rw [State.dropBooking, stands]
    exact whole
  | some r =>
    have calm : s.Calm (s.setRec h { r with booking := .none, exhausted := false }) := calm_setRec_same stands rfl rfl rfl rfl
    have dropped := calm.whole whole
    have there := recOpt_setRec_same h { r with booking := .none, exhausted := false } s
    have only {w : State} {y : Record} (here : w.rec? h = some y) (active : y.state ≠ .queued ∧ y.state ≠ .running) :
        ∀ x, w.rec? h = some x → x.state ≠ .queued ∧ x.state ≠ .running :=
      fun x other => Option.some.inj (here.symm.trans other) ▸ active
    have moved {w : State} (works : (s.setRec h { r with booking := .none, exhausted := false }).Calm w)
        (active : r.state ≠ .queued ∧ r.state ≠ .running) : ∀ x, w.rec? h = some x → x.state ≠ .queued ∧ x.state ≠ .running := by
      obtain ⟨y, here, alike⟩ := works.recOpt there
      exact only here ⟨fun st => active.1 (alike.queued.mp st), fun st => active.2 (alike.running.mp st)⟩
    unfold State.dropBooking
    rw [stands]
    dsimp only
    split
    · exact dropped
    · exact dropped
    · next st => exact dropped.enterLoaded (moved (.refl _) (by simp [st]))
    · next st =>
      have given := calm_giveUpClaimOpt r.position (s.setRec h { r with booking := .none, exhausted := false })
      exact (given.whole dropped).enterLoaded (moved given (by simp [st]))
    · next st => exact dropped.enterEnded (moved (.refl _) (by simp [st]))
    · next st =>
      have stopped := calm_stopTransfer h (s.setRec h { r with booking := .none, exhausted := false })
      exact (stopped.whole dropped).enterEnded (moved stopped (by simp [st]))
    all_goals exact whole

theorem State.Whole.departRecord (a : Addr) (whole : s.Whole) : (s.departRecord a h).Whole := by
  unfold State.departRecord
  split
  · exact whole
  · split
    · split
      · exact (calm_failCandidate h s).whole whole
      · exact whole
    · split
      · exact whole.dropBooking
      · exact whole
    · exact whole

end

end Sys2Proof.Machine
end

section
/-! SUPPORT. Steps, their clocks and faults, and the claims' grants keep the records, slots and positions together (R32 to R44,
R128, R129). -/

namespace Sys2Proof.Machine
open Host

section
variable {s t u : State} {h g : Handle} {r x : Record} {p q : PosIx} {e : StepEntry} {k : DevKind} {v : BitVec 24}

/-! ### What a position's accessors give -/

theorem runningStep_elim (step : s.runningStep p = some (h, r, e)) : s.onPosition p h r ∧ r.state = .running := by
  rw [State.runningStep] at step
  split at step
  · next works =>
    split at step
    · next on =>
      obtain ⟨-, running⟩ := Bool.and_eq_true_iff.mp on
      cases entry : Record.step? _ with
      | none =>
        rw [entry] at step
        cases step
      | some e =>
        rw [entry] at step
        cases step
        exact ⟨working_eq_some.mp works, of_decide_eq_true running⟩
    · cases step
  · cases step

theorem pausedStep_elim (step : s.pausedStep p = some (h, r)) : s.onPosition p h r ∧ r.state = .paused := by
  rw [State.pausedStep] at step
  split at step
  · next works =>
    split at step
    · next on =>
      obtain ⟨-, paused⟩ := Bool.and_eq_true_iff.mp on
      cases step
      exact ⟨working_eq_some.mp works, of_decide_eq_true paused⟩
    · cases step
  · cases step

/-- A record that stands on a position is neither queued nor uncertain. -/
theorem State.Holds.unqueued_of_onPosition (holds : s.Holds h r) (on : s.onPosition p h r) : r.state ≠ .queued ∧ r.state ≠ .uncertain := by
  have position := (holds.named p).mp on.2.1
  refine ⟨fun st => ?_, fun st => ?_⟩
  · rw [holds.loose (.inl st)] at position
    cases position
  · rw [holds.loose (.inr st)] at position
    cases position

theorem State.Houses.unqueued_of_link (houses : s.Houses h r) (link : (s.pos p).link = some h) : r.state ≠ .queued := fun st => by
  have position := (houses.named p).mp link
  rw [houses.loose (.inl st)] at position
  cases position

/-! ### STEP_EN of the record's position, with its record -/

/-- A record and the level of STEP_EN at its position change together. -/
theorem State.Apart.whole_relit (apart : s.Apart h) (stands : s.rec? h = some r) (houses : s.Houses h r) (link : (s.pos p).link = some h)
    {f : Position → Position} (state : (f (s.pos p)).state = (s.pos p).state) (same : (f (s.pos p)).link = (s.pos p).link)
    (position : x.position = r.position) (few : x.deviations.length ≤ 4) (into : x.state ≠ .queued ∧ x.state ≠ .uncertain)
    (lit : (f (s.pos p)).stepEn = true ↔ (s.pos p).state = .occupied ∧ x.state = .running)
    (occupied : x.state = .running → (s.pos p).state = .occupied) : ((s.updPos p f).setRec h x).Whole := by
  refine (apart.relight link state same).whole_setRec stands ?_
  obtain ⟨notRush, notOrdinary⟩ := houses.unqueued (houses.unqueued_of_link link)
  have there := (houses.named p).mp link
  have link_ (q : PosIx) : ((s.updPos p f).pos q).link = (s.pos q).link := by
    rw [pos_updPos]
    split
    · next at_ => exact at_ ▸ same
    · rfl
  refine ⟨⟨fun m => absurd m notRush, fun on => absurd on.1 into.1⟩, ⟨fun m => absurd m notOrdinary, fun on => absurd on.1 into.1⟩,
    fun q => by rw [link_, position]; exact houses.named q, fun st => st.elim (fun st => absurd st into.1) fun st => absurd st into.2,
    fun q linked => ?_, fun running => ⟨p, (link_ p).trans link, ?_⟩, few⟩
  · rw [link_] at linked
    obtain rfl := Option.some.inj (there.symm.trans ((houses.named q).mp linked))
    rw [pos_updPos_same, state]
    exact lit
  · rw [pos_updPos_same, state]
    exact occupied running

theorem State.Apart.whole_startStep (apart : s.Apart h) (stands : s.rec? h = some r) (houses : s.Houses h r)
    (link : (s.pos p).link = some h) (occupied : (s.pos p).state = .occupied) : (s.startStep p h).Whole := by
  rw [startStep_eq stands]
  refine (calm_post _ _).whole (apart.whole_relit (f := fun x => { x with runClock := 0, pauseClock := 0, silenceClock := 0, stepEn := x.interlock })
    stands houses link rfl rfl rfl houses.few ?_ ?_ fun _ => occupied)
  · dsimp only
    split <;> exact ⟨nofun, nofun⟩
  · dsimp only
    split
    · next closed => exact ⟨fun _ => ⟨occupied, rfl⟩, fun _ => closed⟩
    · next opened => exact ⟨fun on => absurd on opened, fun on => nomatch on.2⟩

theorem State.Whole.startStep (whole : s.Whole) (on : s.onPosition p h r) : (s.startStep p h).Whole :=
  (whole.apart h).whole_startStep on.2.2 (whole.holds on.2.2).houses on.2.1 on.1

theorem State.Whole.tellGrant (whole : s.Whole) : (s.tellGrant p).Whole := by
  unfold State.tellGrant
  split
  · next works =>
    split
    · exact whole.startStep (working_eq_some.mp works)
    · exact whole
  · exact whole

/-! ### The step's end -/

/-- STEP_EN goes low under a record on its position. -/
theorem State.Whole.stepEnded (whole : s.Whole) (on : s.onPosition p h r) :
    (s.stepEnded p h r).Apart h ∧ (s.stepEnded p h r).Idles h (some p) := by
  have holds := whole.holds on.2.2
  have position := (holds.named p).mp on.2.1
  have link_ (q : PosIx) : ((s.updPos p fun x => { x with stepEn := false }).pos q).link = (s.pos q).link := by
    rw [pos_updPos]
    split
    · next at_ => exact at_ ▸ rfl
    · rfl
  have queues := holds.houses.unqueued (holds.unqueued_of_onPosition on).1
  have idles : (s.updPos p fun x => { x with stepEn := false }).Idles h (some p) := by
    refine ⟨queues.1, queues.2, fun q => by rw [link_, ← position]; exact holds.named q, fun q link => ?_⟩
    rw [link_] at link
    obtain rfl := Option.some.inj (position.symm.trans ((holds.named q).mp link))
    rw [pos_updPos_same]
  exact ⟨(calm_post _ _).apart ((whole.apart h).relight on.2.1 rfl rfl), (calm_post _ _).idles idles⟩

theorem only_rec {cond : Record → Prop} (stands : s.rec? h = some x) (on : cond x) : ∀ y, s.rec? h = some y → cond y :=
  fun _ here => Option.some.inj (stands.symm.trans here) ▸ on

/-- A record that is neither queued nor running stays so under what Sound does not see. -/
theorem State.Calm.idle_rec (calm : s.Calm t) (stands : s.rec? h = some x) (idle : x.state ≠ .queued ∧ x.state ≠ .running) :
    ∀ y, t.rec? h = some y → y.state ≠ .queued ∧ y.state ≠ .running := by
  obtain ⟨y, here, alike⟩ := calm.recOpt stands
  exact only_rec here ⟨fun st => idle.1 (alike.queued.mp st), fun st => idle.2 (alike.running.mp st)⟩

theorem State.Whole.endStep (whole : s.Whole) (on : s.onPosition p h r) : (s.endStep p h).Whole := by
  have holds := whole.holds on.2.2
  have position := (holds.named p).mp on.2.1
  cases step : r.steps[r.current]? with
  | none =>
    rw [State.endStep, on.2.2]
    simpa only [Record.step?, step] using whole
  | some e =>
    obtain ⟨apart, idles⟩ := whole.stepEnded on
    have stands : (s.stepEnded p h r).rec? h = some r := by simpa [State.stepEnded] using on.2.2
    have put (x : Record) (at_ : x.position = r.position) (few : x.deviations = r.deviations) (unqueued : x.state ≠ .queued)
        (stopped : x.state ≠ .running) (known : x.state ≠ .uncertain) : ((s.stepEnded p h r).setRec h x).Whole :=
      apart.whole_setRec stands (State.Idles.holds (at_ ▸ position ▸ idles) unqueued stopped (fun st => absurd st known) (few ▸ holds.few))
    have given (w : State) : w.Calm (w.giveUpClaim p) := calm_giveUpClaim p w
    rw [endStep_eq on.2.2 step]
    split
    · exact (given _).whole (put { r.gapStarts with state := .finished, gapOpen := false } rfl rfl nofun nofun nofun)
    · split
      · split
        · refine (apart.setRec stands _).whole_startStep (recOpt_setRec_same _ _ _) ?_ ?_ ?_
          · have at_ := holds.unqueued_of_onPosition on
            refine ⟨⟨fun m => absurd m idles.rush, fun st => absurd st.1 at_.1⟩, ⟨fun m => absurd m idles.ordinary,
                fun st => absurd st.1 at_.1⟩,
              fun q => ?_, fun st => st.elim (fun st => absurd st at_.1) fun st => absurd st at_.2, holds.few⟩
            refine (idles.named q).trans ?_
            rw [← position]
            rfl
          · exact (idles.named p).mpr rfl
          · simpa [State.stepEnded] using on.1
        · exact ((given _).whole (put { r.nextStep with state := .loaded, gapOpen := true } rfl rfl nofun nofun nofun)).enterLoaded
            ((given _).idle_rec (recOpt_setRec_same _ _ _) ⟨nofun, nofun⟩)
      · exact ((given _).whole (put { r.gapStarts with state := .ended, gapOpen := true } rfl rfl nofun nofun nofun)).enterEnded
          ((given _).idle_rec (recOpt_setRec_same _ _ _) ⟨nofun, nofun⟩)

theorem State.Whole.stepFault (whole : s.Whole) (on : s.onPosition p h r) : (s.stepFault p h k v).Whole := by
  have holds := whole.holds on.2.2
  by_cases held : r.state = .held
  · have dark : (s.pos p).stepEn = false := Bool.eq_false_iff.mpr fun lit => by
      have running := ((holds.lit p on.2.1).mp lit).2
      rw [held] at running
      cases running
    exact ((calm_updPos rfl rfl dark.symm).whole whole).enterHeld
  · refine ((whole.apart h).relight on.2.1 rfl rfl).whole_enterHeld (r := r) on.2.2 ?_ held
    refine ⟨holds.rush, holds.ordinary, fun q => ?_, holds.loose, holds.few⟩
    rw [pos_updPos]
    split
    · next at_ => exact at_ ▸ holds.named p
    · exact holds.named q

/-! ### Clocks and edges -/

theorem State.Whole.countOne (whole : s.Whole) (on : s.onPosition p h r) : (s.countOne p h r e).Whole := by
  have counted : s.Calm (s.setRec h { r with accumulated := r.accumulated + 1 }) := calm_setRec_same on.2.2 rfl rfl rfl rfl
  by_cases ends : e.target.toNat ≤ (r.accumulated + 1).toNat
  · rw [countOne_ends ends]
    exact (counted.whole whole).endStep ⟨on.1, on.2.1, recOpt_setRec_same _ _ _⟩
  · rw [countOne_on ends]
    exact counted.whole whole

theorem State.Whole.runSecond (whole : s.Whole) : (s.runSecond p).Whole := by
  unfold State.runSecond
  split
  · next step =>
    split
    · exact whole
    · exact whole.countOne (runningStep_elim step).1
  · exact whole

theorem State.Whole.pauseSecond (whole : s.Whole) : (s.pauseSecond p).Whole := by
  unfold State.pauseSecond
  split
  · next h r step =>
    have on := (pausedStep_elim step).1
    have counted : s.Calm (s.setRec h { r with pauseTotal := r.pauseTotal + 1 }) := calm_setRec_same on.2.2 rfl rfl rfl rfl
    dsimp only
    split
    · exact (counted.whole whole).stepFault ⟨on.1, on.2.1, recOpt_setRec_same _ _ _⟩
    · exact counted.whole whole
  · exact whole

theorem State.Whole.lampSilent (whole : s.Whole) : (s.lampSilent p).Whole := by
  unfold State.lampSilent
  split
  · next step =>
    split
    · exact whole.stepFault (runningStep_elim step).1
    · exact whole
  · exact whole

theorem State.Whole.doseShort (whole : s.Whole) : (s.doseShort p).Whole := by
  unfold State.doseShort
  split
  · next step =>
    split
    · exact whole.stepFault (runningStep_elim step).1
    · exact whole
  · exact whole

theorem State.Whole.dosePulse (whole : s.Whole) : (s.dosePulse p).Whole := by
  unfold State.dosePulse
  split
  · next step =>
    split
    · have quiet : s.Calm (s.updPos p fun x => { x with silenceClock := 0 }) := calm_updPos rfl rfl rfl
      exact (quiet.whole whole).countOne ((onPosition_updPos rfl rfl).mpr (runningStep_elim step).1)
    · exact whole
  · exact whole

theorem State.Whole.pauseStep (whole : s.Whole) : (s.pauseStep p).Whole := by
  unfold State.pauseStep
  split
  · next h r _ step =>
    have on := (runningStep_elim step).1
    exact (whole.apart h).whole_relit (f := fun x => { x with stepEn := false }) (x := { r with state := .paused }) on.2.2
      (whole.holds on.2.2).houses on.2.1 rfl rfl rfl (whole.holds on.2.2).few ⟨nofun, nofun⟩ ⟨nofun, fun lit => nomatch lit.2⟩ nofun
  · exact whole

theorem State.Whole.resumeStep (whole : s.Whole) : (s.resumeStep p).Whole := by
  unfold State.resumeStep
  split
  · next h r step =>
    have on := (pausedStep_elim step).1
    refine (calm_sendRenewal h _).whole ?_
    exact (whole.apart h).whole_relit (f := fun x => { x with stepEn := true, silenceClock := 0 })
        (x := { r with state := .running }) on.2.2
      (whole.holds on.2.2).houses on.2.1 rfl rfl rfl (whole.holds on.2.2).few ⟨nofun, nofun⟩ ⟨fun _ => ⟨on.1, rfl⟩, fun _ => rfl⟩
      fun _ => on.1
  · exact whole

theorem State.Whole.gapSecond (whole : s.Whole) : (s.gapSecond h).Whole := by
  unfold State.gapSecond
  split
  · exact whole
  · next r stands =>
    split
    · have counted : s.Calm (s.setRec h r.gapSecond) := calm_setRec_same stands rfl rfl rfl rfl
      have checked := (counted.whole whole).checkGap (h := h)
      dsimp only
      split
      · exact (calm_judgeReady h _).whole ((calm_startRound h _).whole checked)
      · exact checked
    · exact whole

theorem State.Whole.lostPosition (whole : s.Whole) : (s.lostPosition p).Whole := by
  unfold State.lostPosition
  split
  · next h r works =>
    have on := working_eq_some.mp works
    split
    · exact whole.stepFault on
    · exact whole.stepFault on
    · next st => exact whole.enterChecked (only_rec on.2.2 (by simp [st])) ⟨by decide, by decide, by decide⟩
    all_goals exact whole
  · exact whole

theorem State.Whole.pauseForPower (whole : s.Whole) : (s.pauseForPower p).Whole := by
  unfold State.pauseForPower
  dsimp only
  split
  · next h r works =>
    have on : s.onPosition p h r := (onPosition_updPos rfl rfl).mp (working_eq_some.mp works)
    split
    · exact (whole.apart h).whole_relit (f := fun x => { x with stepEn := false }) (x := { r with state := .paused }) on.2.2
        (whole.holds on.2.2).houses on.2.1 rfl rfl rfl (whole.holds on.2.2).few ⟨nofun, nofun⟩ ⟨nofun, fun lit => nomatch lit.2⟩ nofun
    · next other =>
      have dark : (s.pos p).stepEn = false := Bool.eq_false_iff.mpr fun lit => other (((whole.holds on.2.2).lit p on.2.1).mp lit).2
      exact (calm_updPos rfl rfl dark.symm).whole whole
  · next works =>
    have dark : (s.pos p).stepEn = false := Bool.eq_false_iff.mpr fun lit => by
      obtain ⟨h, r, on, -⟩ := ((enablesKept_of_whole whole).1 p).mp lit
      rw [working_eq_some.mpr ((onPosition_updPos rfl rfl).mpr on)] at works
      cases works
    exact (calm_updPos rfl rfl dark.symm).whole whole

/-! ### The budget table's outcomes at the positions -/

theorem State.Whole.foldl {α : Type} (f : State → α → State) (keeps : ∀ (s : State) a, s.Whole → (f s a).Whole) (l : List α)
    (whole : s.Whole) : (l.foldl f s).Whole := by
  induction l generalizing s with
  | nil => exact whole
  | cons a l ih => exact ih (keeps s a whole)

theorem State.Whole.tellEntry (whole : s.Whole) (e : ClaimEntry) : (s.tellEntry e).Whole := by
  unfold State.tellEntry
  split
  · exact ((calm_setClaim _ _ s).whole whole).tellGrant
  · exact whole

theorem State.Whole.tellGrants (whole : s.Whole) (l : List ClaimEntry) : (s.tellGrants l).Whole :=
  whole.foldl _ (fun _ e w => w.tellEntry e) l

theorem State.Whole.reportOversize (whole : s.Whole) (b : BudgetIx) : (s.reportOversize p b).Whole := by
  unfold State.reportOversize
  split
  · split
    · exact whole.enterHeld
    · exact whole
  · exact whole

theorem State.Whole.ownClaim (whole : s.Whole) (payload : List Byte) (c : ClaimOutcome) : (s.ownClaim payload c).Whole := by
  unfold State.ownClaim
  split
  · exact whole
  · split
    · split
      · exact (calm_claimStands _ _ _).whole whole
      · exact (calm_claimStands _ _ _).whole whole
      · exact ((calm_updPos rfl rfl rfl).whole whole).reportOversize _
      · exact whole
    · exact whole

theorem State.Whole.ownRemoved (whole : s.Whole) (caps : Triple) (e : ClaimEntry) : (s.ownRemoved caps e).Whole := by
  unfold State.ownRemoved
  split
  · have set : (if (s.pos e.position).claim = .waiting then s.setClaim e.position .none else s).Whole := by
      split
      · exact (calm_setClaim _ _ s).whole whole
      · exact whole
    dsimp only
    split
    · exact set.reportOversize _
    · exact set
  · exact whole

theorem State.Whole.takeReplicated (whole : s.Whole) (f : BufferedFrame) (own : Bool) : (s.takeReplicated f own).Whole := by
  unfold State.takeReplicated
  generalize applyFrame s.bud f = out
  have tabled : ({ s with bud := out.table } : State).Whole := (calm_of_store (s := s)
      (t := { s with bud := out.table }) rfl rfl rfl).whole whole
  have claimed : (if (own && decide (f.kind = .claim)) = true then ({ s with bud := out.table } : State).ownClaim f.payload out.claim
      else { s with bud := out.table }).Whole := by
    split
    · exact tabled.ownClaim _ _
    · exact tabled
  have told := (claimed.foldl _ (fun _ e w => w.ownRemoved out.table.capacities e) out.removed).tellGrants out.granted
  dsimp only
  split
  · exact (calm_ownRelease _ _).whole told
  · exact told

end

end Sys2Proof.Machine
end

section
/-! SUPPORT. Placement, arrival, removal and the record commands keep the records, slots and positions together (R14 to R17,
R23 to R28, R62 to R70). -/

namespace Sys2Proof.Machine
open Host

section
variable {s t u : State} {h g : Handle} {r x : Record} {p q : PosIx} {f : Position → Position} {rest : List Handle}

/-! ### What the queue and the links say of a record -/

theorem State.Whole.recOpt_of_queued (whole : s.Whole) (queued : h ∈ s.arrivalQueue) : ∃ r, s.rec? h = some r ∧ r.state = .queued := by
  obtain rush | ordinary := List.mem_append.mp queued
  · obtain ⟨r, stands, queued, -⟩ := ((arrivalsKept_of_whole whole).2.2.1 h).mp rush
    exact ⟨r, stands, queued⟩
  · obtain ⟨r, stands, queued, -⟩ := ((arrivalsKept_of_whole whole).2.2.2 h).mp ordinary
    exact ⟨r, stands, queued⟩

theorem State.Framed.link_none (framed : s.Framed) (free : (s.pos p).state ≠ .assigned ∧ (s.pos p).state ≠ .occupied) :
    (s.pos p).link = none := by
  by_contra some_
  exact ((framed.links p).mp some_).elim free.1 free.2

theorem State.Idles.vacant (idles : s.Idles h none) : s.Vacant h :=
  ⟨idles.rush, idles.ordinary, fun p link => nomatch (idles.named p).mp link⟩

/-- A record at rest is idle where it stands. -/
theorem State.Whole.idles (whole : s.Whole) (stands : s.rec? h = some r) (unqueued : r.state ≠ .queued) (stopped : r.state ≠ .running) :
    s.Idles h r.position := (whole.holds stands).idles unqueued stopped

/-! ### A record that comes onto a position -/

/-- The slot's record, idle, is linked to a position without a record. -/
theorem State.Apart.link (apart : s.Apart h) (idles : s.Idles h none) (empty : (s.pos p).link = none)
    (state : (f (s.pos p)).state = .assigned) (link : (f (s.pos p)).link = some h) (stepEn : (f (s.pos p)).stepEn = (s.pos p).stepEn)
    (unbooked : (s.pos p).state ≠ .booked) : (s.updPos p f).Apart h ∧ (s.updPos p f).Idles h (some p) := by
  have low : (f (s.pos p)).stepEn = false := stepEn.trans (apart.1.dark p empty)
  refine ⟨apart.updPos (fun g here => ?_) (fun g here => ?_) ⟨fun _ => .inl state, fun _ => (by rw [link]; exact nofun)⟩ (fun _ => low)
    ⟨fun st => ?_, fun st => absurd st unbooked⟩, idles.rush, idles.ordinary, fun q => ?_, fun q here => ?_⟩
  · rw [empty] at here
    cases here
  · exact Option.some.inj (here.symm.trans link)
  · rw [state] at st
    cases st
  · rw [pos_updPos]
    split
    · next at_ => exact ⟨fun _ => congrArg some at_, fun _ => link⟩
    · next other => exact ⟨fun here => (nomatch (idles.named q).mp here), fun at_ => absurd (Option.some.inj at_) other⟩
  · rw [pos_updPos] at here ⊢
    split
    · exact low
    · next other =>
      rw [if_neg other] at here
      exact idles.dark q here

/-! ### Placement (R23) -/

theorem State.Whole.placeOne (whole : s.Whole) : s.placeOne.Whole := by
  by_cases settled : s.Settled
  · rw [placeOne_settled settled]
    exact whole
  · rw [State.Settled, not_or] at settled
    obtain ⟨p, lowest⟩ := Option.ne_none_iff_exists'.mp settled.1
    obtain ⟨h, rest, queue⟩ := List.exists_cons_of_ne_nil settled.2
    obtain ⟨r, stands, queued⟩ := whole.recOpt_of_queued (h := h) (by rw [queue]; exact List.mem_cons_self)
    have holds := whole.holds stands
    have position := holds.loose (.inl queued)
    have empty := (lowestEmpty_eq_some lowest).2.1
    rw [placeOne_some lowest queue stands]
    refine (calm_post _ _).whole ?_
    have apart := ((whole.apart h).unqueue).setRec (r := r) stands { r with state := .placed, position := some p }
    have idles : ((s.unqueue h).setRec h { r with state := .placed, position := some p }).Idles h none := by
      refine ⟨by simp, by simp, fun q => position ▸ holds.named q, fun q link => ?_⟩
      have here := (holds.named q).mp link
      rw [position] at here
      cases here
    obtain ⟨apart', idles'⟩ := apart.link (p := p) (f := fun x => { x with state := .assigned, link := some h }) idles
      (whole.1.link_none ⟨by simp [empty], by simp [empty]⟩) rfl rfl rfl (by simp [empty])
    exact apart'.whole_idle (recOpt_setRec_same _ _ _) idles' nofun nofun nofun holds.few

theorem State.Whole.placement (whole : s.Whole) : s.placement.Whole := whole.foldl _ (fun _ _ w => w.placeOne) _

/-! ### A record deleted -/

theorem State.Apart.whole_gone (apart : s.Apart h) (gone : s.rec? h = none) (idles : s.Idles h none) : s.Whole :=
  apart.whole (idles.vacant.seated gone)

theorem State.Apart.whole_freeSlot (apart : s.Apart h) (stands : s.rec? h = some r) (idles : s.Idles h none) : (s.freeSlot h).Whole :=
  (apart.freeSlot stands).whole_gone (freeSlot_spec h s).2.2.1 (idles.congr rfl rfl rfl)

/-! ### Arrival (R26) -/

/-- A record at rest keeps to its position when the plate arrives there. -/
theorem State.Whole.occupy (whole : s.Whole) (stands : s.rec? h = some r) (link : (s.pos p).link = some h)
    (assigned : (s.pos p).state = .assigned) : (s.updPos p fun x => { x with state := .occupied }).Whole := by
  have holds := whole.holds stands
  have unqueued := holds.houses.unqueued_of_link link
  have stopped : r.state ≠ .running := fun running => by
    obtain ⟨q, link', occupied⟩ := holds.stands running
    obtain rfl := Option.some.inj (((holds.named p).mp link).symm.trans ((holds.named q).mp link'))
    rw [assigned] at occupied
    cases occupied
  have idles := holds.idles unqueued stopped
  have apart : (s.updPos p fun x => { x with state := .occupied }).Apart h := by
    refine (whole.apart h).updPos (fun g here => Option.some.inj (here.symm.trans link))
        (fun g here => Option.some.inj (here.symm.trans link))
      ⟨fun _ => .inr rfl, fun _ => by rw [link]; exact nofun⟩ (fun none => ?_) (by simp [assigned])
    exact whole.1.dark p none
  have pos_ (q : PosIx) : ((s.updPos p fun x => { x with state := .occupied }).pos q).link = (s.pos q).link
      ∧ ((s.updPos p fun x => { x with state := .occupied }).pos q).stepEn = (s.pos q).stepEn := by
    rw [pos_updPos]
    split
    · next at_ => exact at_ ▸ ⟨rfl, rfl⟩
    · exact ⟨rfl, rfl⟩
  refine apart.whole_idle (x := r) stands ⟨idles.rush, idles.ordinary, fun q => ?_, fun q link => ?_⟩ unqueued stopped
    (fun st => holds.loose (.inr st)) holds.few
  · rw [(pos_ q).1]
    exact idles.named q
  · rw [(pos_ q).1] at link
    rw [(pos_ q).2]
    exact idles.dark q link

theorem State.Whole.plateArrives (whole : s.Whole) (stands : s.rec? h = some r) (link : (s.pos p).link = some h)
    (assigned : (s.pos p).state = .assigned) : (s.plateArrives p h r).Whole := by
  have occupied := whole.occupy stands link assigned
  unfold State.plateArrives
  dsimp only
  split
  · next st => exact occupied.enterLoaded (only_rec (x := r) stands (by simp [st]))
  · next st => exact occupied.enterLoaded (only_rec (x := r) stands (by simp [st]))
  all_goals exact occupied

theorem State.Whole.arrived (whole : s.Whole) (seq : BitVec 16) : (s.arrived p seq).Whole := by
  have refused (c : Reason) : (s.refuse c 0).Whole := (calm_refuse c 0 s).whole whole
  unfold State.arrived
  split
  · exact refused _
  · exact refused _
  · exact refused _
  · exact refused _
  · next assigned =>
    split
    · next link =>
      split
      · next stands =>
        split
        · exact (calm_ok 0 0 0 _).whole (whole.plateArrives stands link assigned)
        · exact refused _
      · exact refused _
    · exact refused _

/-! ### Removal (R17, R27) -/

/-- A position without a record is emptied. -/
theorem State.Whole.vacate (whole : s.Whole) (loose : (s.pos p).link = none) (unbooked : (s.pos p).state ≠ .booked) :
    (s.vacate p .empty).Whole := by
  refine ⟨framed_updPos whole.1 (by simp) (fun _ => rfl) (by simp [unbooked]), fun g => ?_⟩
  exact seated_updPos_other (whole.2 g) (by simp [loose]) nofun

/-- The record at rest leaves its position. -/
theorem State.Whole.leaves (whole : s.Whole) (stands : s.rec? h = some r) (link : (s.pos p).link = some h) (unqueued : r.state ≠ .queued)
    (stopped : r.state ≠ .running) {st : PosState} (empty : st = .empty ∨ st = .clearing) : (s.vacate p st).Apart h ∧ (s.vacate p st).Idles h none := by
  have idles := whole.idles stands unqueued stopped
  have position : r.position = some p := (idles.named p).mp link
  have gone := idles_vacateOpt (st := st) idles
  rw [position] at gone
  exact ⟨(whole.apart h).vacate link empty, gone⟩

theorem State.Whole.retire (whole : s.Whole) (on : s.onPosition p h r) (finished : r.state = .finished) : (s.retire p h r).Whole := by
  unfold State.retire
  dsimp only
  generalize Event.mk .plateDone (some p) (some h) (some r.tag) r.jobRef (byte r.deviations.length) = e
  have posted := calm_post e s
  obtain ⟨x, there, alike⟩ := posted.recOpt on.2.2
  have idles := posted.idles (whole.idles on.2.2 (by simp [finished]) (by simp [finished]))
  have judged := calm_judgeSlots ((s.post e).deleteRecord h)
  have apart : ((s.post e).deleteRecord h).judgeSlots.Apart h := judged.apart ((posted.apart (whole.apart h)).freeSlot there)
  have idles' : ((s.post e).deleteRecord h).judgeSlots.Idles h r.position :=
    judged.idles (idles.congr (t := (s.post e).deleteRecord h) rfl rfl rfl)
  have position : r.position = some p := ((whole.holds on.2.2).named p).mp on.2.1
  have gone : ((s.post e).deleteRecord h).judgeSlots.rec? h = none := judged.recOpt_none.mpr (freeSlot_spec h _).2.2.1
  have away := idles_vacateOpt (st := .empty) idles'
  rw [position] at away
  exact (apart.vacate ((idles'.named p).mpr position) (.inl rfl)).whole_gone gone away

theorem State.Whole.plateTaken (whole : s.Whole) (on : s.onPosition p h r) : (s.plateTaken p h r).Whole := by
  unfold State.plateTaken
  split
  · next finished => exact whole.retire on finished
  · exact whole.enterHeld
  · exact whole.enterHeld
  · exact whole.enterHeld
  · exact whole.enterHeld
  all_goals
    next st =>
      have unqueued := ((whole.holds on.2.2).unqueued_of_onPosition on).1
      obtain ⟨apart, idles⟩ := whole.leaves on.2.2 on.2.1 unqueued (by simp [st]) (.inl rfl)
      exact apart.whole_setRec (r := r) on.2.2 (State.Idles.holds (x := { r with position := none }) idles unqueued (by simp [st])
          (fun _ => rfl)
        (whole.holds on.2.2).few)

theorem State.Whole.removed (whole : s.Whole) : (s.removed p).Whole := by
  have refused (c : Reason) : (s.refuse c 0).Whole := (calm_refuse c 0 s).whole whole
  unfold State.removed
  split
  · exact refused _
  · exact refused _
  · exact refused _
  · next st =>
    have loose := whole.1.link_none (p := p) ⟨by simp [st], by simp [st]⟩
    exact (calm_ok 0 0 0 _).whole (whole.vacate loose (by simp [st])).placement
  · next st =>
    split
    · next works => exact (calm_ok 0 0 0 _).whole (whole.plateTaken (working_eq_some.mp works)).placement
    · next idle =>
      obtain ⟨h, link⟩ := Option.ne_none_iff_exists'.mp ((whole.1.links p).mpr (.inr st))
      obtain ⟨r, stands, -⟩ := whole.stands link
      rw [working_eq_some.mpr ⟨st, link, stands⟩] at idle
      cases idle

/-! ### HOLD and RUSH (R16, R62) -/

theorem State.Whole.holdRecord (whole : s.Whole) : (s.holdRecord h r).Whole := by
  have refused (c : Reason) : (s.refuse c 0).Whole := (calm_refuse c 0 s).whole whole
  unfold State.holdRecord
  split
  · exact refused _
  · exact refused _
  · exact refused _
  · exact refused _
  all_goals exact (calm_ok 0 0 0 _).whole whole.enterHeld.placement

/-- A queued record on no position suits the queue that it enters. -/
theorem seated_enqueue (stands : s.rec? h = some r) (idles : s.Idles h none) (queued : r.state = .queued)
    (position : r.position = none) (few : r.deviations.length ≤ 4) : (s.enqueue h r.rush).Seated h := by
  have stands' : (s.enqueue h r.rush).rec? h = some r := by cases r.rush <;> exact stands
  have pos_ (q : PosIx) : (s.enqueue h r.rush).pos q = s.pos q := pos_enqueue ..
  have away (q : PosIx) : (s.pos q).link ≠ some h := idles.vacant.unnamed q
  refine State.Holds.seated ⟨?_, ?_, fun q => ?_, fun _ => position, fun q link => ?_, fun running => ?_, few⟩ stands'
  · simp [mem_rushQueue_enqueue, queued, idles.rush]
  · simp [mem_ordinaryQueue_enqueue, queued, idles.ordinary]
  · rw [pos_, position]
    exact ⟨fun link => absurd link (away q), nofun⟩
  · rw [pos_] at link
    exact absurd link (away q)
  · rw [queued] at running
    cases running

/-- A record enters the queue at the back of its group. -/
theorem State.Apart.whole_enqueue (apart : s.Apart h) (stands : s.rec? h = some r) (idles : s.Idles h none) (queued : r.state = .queued)
    (position : r.position = none) (few : r.deviations.length ≤ 4) : (s.enqueue h r.rush).Whole :=
  (apart.enqueue idles.rush idles.ordinary r.rush).whole (seated_enqueue stands idles queued position few)

theorem State.Whole.rushRecord (whole : s.Whole) (stands : s.rec? h = some r) : (s.rushRecord h r).Whole := by
  have refused (c : Reason) : (s.refuse c 0).Whole := (calm_refuse c 0 s).whole whole
  have holds := whole.holds stands
  unfold State.rushRecord
  split
  · next queued =>
    have position := holds.loose (.inl queued)
    have apart := ((whole.apart h).setRec stands { r with rush := true }).unqueue
    have idles : ((s.setRec h { r with rush := true }).unqueue h).Idles h none := by
      have away (q : PosIx) : (s.pos q).link ≠ some h := fun link => by
        rw [(holds.named q).mp link] at position
        cases position
      exact ⟨by simp, by simp, fun q => ⟨fun link => absurd link (away q), nofun⟩, fun q link => absurd link (away q)⟩
    exact (calm_ok 0 0 0 _).whole
      (apart.whole_enqueue (r := { r with rush := true }) (recOpt_setRec_same _ _ _) idles queued position holds.few)
  · next placed =>
    have alike : r.Alike { r with rush := true } :=
      ⟨rfl, Iff.rfl, fun st => (by rw [placed] at st; cases st), Iff.rfl, .inl, id⟩
    exact (calm_ok 0 0 0 _).whole ((calm_setRec stands alike).whole whole)
  all_goals exact refused _

/-! ### CONCESSION (R64 to R66) -/

theorem calm_failAttempt (s : State) : s.Calm s.failAttempt := by
  unfold State.failAttempt
  dsimp only
  split
  · exact calm_of_states (s := s) rfl rfl rfl rfl rfl rfl
  · exact calm_of_states (s := s) rfl rfl rfl rfl rfl rfl

theorem calm_wrongCode (s : State) : s.Calm s.wrongCode := (calm_failAttempt s).trans (calm_refuse _ _ _)

/-- A record that is to return to QUEUED has no position. -/
theorem position_of_returnState (whole : s.Whole) (stands : s.rec? h = some r) (back : s.returnState r = .queued) : r.position = none := by
  unfold State.returnState at back
  split at back
  · cases back
  · cases back
  · cases back
  · split at back
    · next p position =>
      have linked : (s.pos p).link = some h := ((whole.holds stands).named p).mpr position
      have busy := (whole.1.links p).mp (by rw [linked]; exact nofun)
      split at back <;> simp_all
    · next none => exact none

/-- A concession returns a record to no state that has a plate in work or on its way. -/
theorem returnState_resting (s : State) (r : Record) : s.returnState r = .ended ∨ s.returnState r = .loaded
    ∨ s.returnState r = .inbound ∨ s.returnState r = .queued := by
  unfold State.returnState
  split
  · exact .inl rfl
  · exact .inl rfl
  · exact .inl rfl
  · split
    · split
      · exact .inr (.inl rfl)
      · exact .inr (.inr (.inl rfl))
      all_goals exact .inr (.inr (.inr rfl))
    · exact .inr (.inr (.inr rfl))

theorem State.Whole.returnRecord (whole : s.Whole) (stands : s.rec? h = some r) (held : r.state = .held) {st : RecState}
    (back : st = s.returnState r) : (s.returnRecord h r st).Whole := by
  have holds := whole.holds stands
  have idle : r.state ≠ .queued ∧ r.state ≠ .running := by simp [held]
  have moved (st : RecState) (into : st ≠ .queued ∧ st ≠ .running ∧ st ≠ .uncertain) : (s.setRec h { r.conceded with state := st }).Whole :=
    (calm_setRec stands (alike_of_move (x := { r.conceded with state := st }) idle into rfl rfl)).whole whole
  have there (st : RecState) (into : st ≠ .queued ∧ st ≠ .running) :=
    only_rec (cond := fun x => x.state ≠ .queued ∧ x.state ≠ .running) (recOpt_setRec_same h { r.conceded with state := st } s) into
  subst back
  obtain back | back | back | back := returnState_resting s r
  · rw [back]
    exact (moved .ended (by decide)).enterEnded (there .ended (by decide))
  · rw [back]
    exact (moved .loaded (by decide)).enterLoaded (there .loaded (by decide))
  · rw [back]
    exact (moved .inbound (by decide)).enterChecked (there .inbound (by decide)) (by decide)
  · have position := position_of_returnState whole stands back
    have idles : s.Idles h none := position ▸ holds.idles idle.1 idle.2
    rw [back]
    exact (((whole.apart h).setRec stands { r.conceded with state := .queued }).whole_enqueue (recOpt_setRec_same _ _ _)
      (idles.congr rfl rfl rfl) rfl position holds.few).placement

theorem State.Whole.concede (whole : s.Whole) (stands : s.rec? h = some r) : (s.concede h r).Whole := by
  have refused (c : Reason) (d : Byte) : (s.refuse c d).Whole := (calm_refuse c d s).whole whole
  unfold State.concede
  split
  · exact refused _ _
  · next held =>
    split
    · exact refused _ _
    · split
      · exact refused _ _
      · split
        · exact (calm_wrongCode s).whole whole
        · exact (calm_ok _ _ _ _).whole (whole.returnRecord stands (not_not.mp held) rfl)

end

end Sys2Proof.Machine
end

section
/-! SUPPORT. Scrap, adoption, registration and the booker's side of a hand-off keep the records, slots and positions together
(R15, R67, R70, R141, R149, R154 to R158). -/

namespace Sys2Proof.Machine
open Host

section
variable {s t u : State} {h g : Handle} {r x : Record} {p q : PosIx} {f : Position → Position} {rest : List Handle} {a : Addr} {tag : Tag}

/-! ### SCRAP (R67) -/

theorem calm_stopLocate (h : Handle) (s : State) : s.Calm (s.stopLocate h) :=
  ((calm_dropWaits h .locate s).trans (calm_withdrawSlot h .locate _)).trans (calm_updRec fun _ _ => alike_of_state rfl rfl rfl rfl)

/-- A position that the slot's idle record is linked to is vacated as R67 says. -/
theorem State.Apart.scrapPosition {pos : Option PosIx} (apart : s.Apart h) (idles : s.Idles h pos) :
    (s.scrapPosition pos).Apart h ∧ (s.scrapPosition pos).Idles h none := by
  cases pos with
  | none => exact ⟨apart, idles⟩
  | some p =>
    have link := (idles.named p).mpr rfl
    have gone {st : PosState} : (s.vacate p st).Idles h none := idles_vacateOpt (st := st) idles
    unfold State.scrapPosition
    dsimp only
    obtain st | st := (apart.1.links p).mp (by rw [link]; exact nofun)
    · rw [st]
      exact ⟨apart.vacate link (.inl rfl), gone⟩
    · rw [st]
      exact ⟨apart.vacate link (.inr rfl), gone⟩

theorem calm_keeps_rec (calm : s.Calm t) (stands : ∃ x, s.rec? h = some x) : ∃ x, t.rec? h = some x := by
  obtain ⟨x, here⟩ := stands
  obtain ⟨y, there, -⟩ := calm.recOpt here
  exact ⟨y, there⟩

theorem State.Whole.scrapRecord (whole : s.Whole) (stands : s.rec? h = some r) : (s.scrapRecord h r).Whole := by
  unfold State.scrapRecord
  split
  · exact (calm_refuse _ _ s).whole whole
  · have holds := whole.holds stands
    have claim := calm_giveUpClaimOpt r.position s
    have named (w : State) (calm : s.Calm w) (q : PosIx) : (w.pos q).link = some h ↔ r.position = some q := by
      rw [(calm.places q).2.1]
      exact holds.named q
    dsimp only
    have stopped : ((s.giveUpClaim? r.position).stopPosition? r.position).Apart h :=
      (claim.apart (whole.apart h)).stopPositionOpt (named _ claim)
    have here : ∃ x, ((s.giveUpClaim? r.position).stopPosition? r.position).rec? h = some x := by
      obtain ⟨x, there, -⟩ := claim.recOpt stands
      exact ⟨x, (recOpt_stopPositionOpt ..).trans there⟩
    have links (q : PosIx) : (((s.giveUpClaim? r.position).stopPosition? r.position).pos q).link = some h ↔ r.position = some q := by
      refine Iff.trans ?_ (named _ claim q)
      rw [pos_stopPositionOpt]
      split <;> exact Iff.rfl
    have dark (q : PosIx) (link : (((s.giveUpClaim? r.position).stopPosition? r.position).pos q).link = some h) :
        (((s.giveUpClaim? r.position).stopPosition? r.position).pos q).stepEn = false := by
      rw [pos_stopPositionOpt, if_pos ((links q).mp link)]
    have queues (other : r.state ≠ .queued) : h ∉ ((s.giveUpClaim? r.position).stopPosition? r.position).store.rushQueue
        ∧ h ∉ ((s.giveUpClaim? r.position).stopPosition? r.position).store.ordinaryQueue := by
      have out := holds.houses.unqueued other
      simpa using out
    generalize (s.giveUpClaim? r.position).stopPosition? r.position = w at stopped here links dark queues ⊢
    have ended := calm_endBooking h w
    have located : w.Calm (if r.state = .uncertain then (w.endBooking h).stopLocate h else w.endBooking h) :=
      ended.trans (calm_ite (fun _ => calm_stopLocate h _) fun _ => .refl _)
    generalize (if r.state = .uncertain then (w.endBooking h).stopLocate h else w.endBooking h) = v at located ⊢
    obtain ⟨apart, idles⟩ := idles_unqueue (r := r) (located.apart stopped) (fun q => by rw [(located.places q).2.1]; exact links q)
      (fun q => by rw [(located.places q).2.1, (located.places q).2.2]; exact dark q)
      (fun other => by rw [located.rush, located.ordinary]; exact queues other)
    have there : ∃ x, (if r.state = .queued then v.unqueue h else v).rec? h = some x := by
      obtain ⟨x, there⟩ := calm_keeps_rec located here
      refine ⟨x, ?_⟩
      split
      · exact there
      · exact there
    generalize (if r.state = .queued then v.unqueue h else v) = z at apart idles there ⊢
    obtain ⟨apart, idles⟩ := apart.scrapPosition idles
    obtain ⟨x, there⟩ := there
    have there : (z.scrapPosition r.position).rec? h = some x := by rw [recOpt_scrapPosition]; exact there
    exact (calm_ok 0 0 0 _).whole (((calm_judgeSlots _).whole (apart.whole_freeSlot there idles)).placement)

/-! ### ADOPT (R70) -/

theorem calm_useSeq (n : BitVec 16) (s : State) : s.Calm (s.useSeq n) := calm_of_states rfl rfl rfl rfl rfl rfl

theorem State.Whole.adoptRecord (whole : s.Whole) (stands : s.rec? h = some r) : (s.adoptRecord h r).Whole := by
  unfold State.adoptRecord
  dsimp only
  have used := calm_useSeq s.newSeq s
  have renamed : (s.useSeq s.newSeq).Calm ((s.useSeq s.newSeq).setRec h
      { r with adoptedFrom := some r.tag, tag := s.ownTag s.newSeq, sentToward := none }) :=
    calm_setRec_same (r := r) stands rfl rfl rfl rfl
  exact (calm_respond _ _ _).whole ((((used.trans renamed).trans (calm_stopLocate h _)).whole whole).enterHeld)

theorem State.Whole.adopt (whole : s.Whole) (stands : s.rec? h = some r) : (s.adopt h r).Whole := by
  have refused (c : Reason) (d : Byte) : (s.refuse c d).Whole := (calm_refuse c d s).whole whole
  unfold State.adopt
  split
  · exact refused _ _
  · split
    · exact refused _ _
    · split
      · exact refused _ _
      · split
        · exact (calm_wrongCode s).whole whole
        · exact whole.adoptRecord stands

/-! ### REGISTER (R15) -/

/-- The slot at the head of the free list takes a record that is on no position. -/
theorem State.Whole.takes (whole : s.Whole) (free : s.store.freeList = h :: rest) (x : Record) :
    (({ s with store := { s.store with freeList := rest } } : State).setRec h x).Apart h
      ∧ (({ s with store := { s.store with freeList := rest } } : State).setRec h x).Idles h none := by
  obtain ⟨⟨⟨once, listed⟩, kept, rushOnce, ordinaryOnce, links, dark⟩, others⟩ := whole
  rw [free] at once listed
  obtain ⟨away, onceRest⟩ := List.nodup_cons.mp once
  have mine : (s.slot h).state = .free := (listed h).mp List.mem_cons_self
  have state (g : Handle) : ((({ s with store := { s.store with freeList := rest } } : State).setRec h x).slot g).state =
      if h = g then .inUse x else (s.slot g).state := by
    rw [slot_setRec]
    split <;> rfl
  have vacant : s.Vacant h := (others h).vacant (by rw [State.rec?, mine])
  refine ⟨⟨⟨⟨onceRest, fun g => ?_⟩, ?_, rushOnce, ordinaryOnce, links, dark⟩, fun g other => (others g).congr ?_ rfl rfl rfl⟩,
    vacant.rush, vacant.ordinary, fun q => ⟨fun link => absurd link (vacant.unnamed q), nofun⟩,
        fun q link => absurd link (vacant.unnamed q)⟩
  · rw [state]
    have outside := listed g
    rw [List.mem_cons] at outside
    split
    · next same => exact ⟨fun m => absurd (same ▸ m) away, nofun⟩
    · next other => exact ⟨fun m => outside.mp (.inr m), fun st => (outside.mpr st).resolve_left fun same => other same.symm⟩
  · refine bookingsKept_of_keys (s := s) rfl (fun g => ?_) (fun _ => Iff.rfl) kept
    rw [state]
    split
    · next same =>
      subst same
      exact ⟨nofun, fun st => by rw [mine] at st; cases st⟩
    · exact Iff.rfl
  · rw [state, if_neg other.symm]

theorem State.Whole.createRecord (whole : s.Whole) (steps : List StepEntry) : (s.createRecord steps).Whole := by
  unfold State.createRecord
  split
  · exact whole
  · next h t takes =>
    obtain ⟨rest, free, rfl⟩ := takeSlot_eq_some.mp takes
    dsimp only
    generalize ({ s with store := { s.store with freeList := rest } } : State).newSeq = q
    generalize made : Record.ofFields _ _ _ steps .queued = r
    have queued : r.state = .queued ∧ r.position = none ∧ r.deviations = [] := by
      rw [← made]
      exact ⟨rfl, rfl, rfl⟩
    have marked : decide (Memory.read s.staging 4 ≠ 0) = r.rush := by
      rw [← made]
      rfl
    obtain ⟨apart, idles⟩ := whole.takes free r
    have used := calm_useSeq q (({ s with store := { s.store with freeList := rest } } : State).setRec h r)
    have entered := (used.apart apart).whole_enqueue (r := r) (recOpt_setRec_same _ _ _) (used.idles idles) queued.1 queued.2.1
      (by rw [queued.2.2]; decide)
    rw [← marked] at entered
    exact (calm_respond _ _ _).whole ((calm_judgeSlots _).whole entered).placement

theorem State.Whole.register (whole : s.Whole) : s.register.Whole := by
  have refused (c : Reason) : (s.refuse c 0).Whole := (calm_refuse c 0 s).whole whole
  unfold State.register
  split
  · exact refused _
  · split
    · exact refused _
    · split
      · exact refused _
      · split
        · exact refused _
        · exact whole.createRecord _

/-! ### The booker's side of a hand-off -/

theorem recIn_elim {st : RecState} (on : s.recIn h st = true) : ∃ r, s.rec? h = some r ∧ r.state = st := by
  cases stands : s.rec? h with
  | none => simp [State.recIn, stands] at on
  | some r => exact ⟨r, rfl, (recIn_iff stands).mp on⟩

theorem states_of_takenBy (taken : r.takenBy a = true) : r.state = .outbound ∨ r.state = .uncertain := by
  obtain ⟨-, outbound, -⟩ | uncertain := takenBy_iff.mp taken
  · exact .inl outbound
  · exact .inr uncertain

theorem rec_of_matched (matched : s.matched a tag = some (h, r)) : s.rec? h = some r := by
  unfold State.matched at matched
  split at matched
  · next here =>
    split at matched
    · next stands =>
      split at matched
      · split at matched
        · cases matched
          exact stands
        · cases matched
      · cases matched
      · cases matched
    · cases matched
  · cases matched

theorem State.Whole.handOver (whole : s.Whole) (a : Addr) (tag : Tag) : (s.handOver a tag).Whole := by
  unfold State.handOver
  split
  · exact whole
  · split
    · exact whole
    · next h _ =>
      split
      · exact whole
      · next r stands =>
        split
        · next taken =>
          have away := states_of_takenBy taken
          dsimp only
          have posted := calm_post (recordEvent .handoffDone r.position h r.tag a.val) s
          obtain ⟨x, there, -⟩ := posted.recOpt stands
          have idles := posted.idles (whole.idles stands (by obtain st | st := away <;> simp [st])
              (by obtain st | st := away <;> simp [st]))
          have apart := (posted.apart (whole.apart h)).vacateOpt (r := r) (st := .clearing) idles.named (.inr rfl)
          have gone := idles_vacateOpt (st := .clearing) idles
          have there : ((s.post (recordEvent .handoffDone r.position h r.tag a.val)).vacate? r.position .clearing).rec? h = some x := by
            exact (recOpt_vacateOpt ..).trans there
          generalize (s.post (recordEvent .handoffDone r.position h r.tag a.val)).vacate? r.position .clearing = w at apart gone there ⊢
          have dropped := (calm_dropWaits h .locate w).trans (calm_withdrawSlot h .locate _)
          obtain ⟨y, there, -⟩ := dropped.recOpt there
          exact (calm_judgeSlots _).whole ((dropped.apart apart).whole_freeSlot there (dropped.idles gone))
        · exact whole

theorem State.Whole.found (whole : s.Whole) (a : Addr) (tag : Tag) : (s.found a tag).Whole := by
  unfold State.found
  split
  · exact whole
  · next h _ =>
    split
    · next uncertain =>
      obtain ⟨r, stands, st⟩ := recIn_elim uncertain
      have posted := calm_post (recordEvent .locateResult none h tag (256 + a.val)) s
      obtain ⟨x, there, -⟩ := posted.recOpt stands
      have idles := whole.idles stands (by simp [st]) (by simp [st])
      rw [(whole.holds stands).loose (.inr st)] at idles
      exact (calm_judgeSlots _).whole ((posted.apart (whole.apart h)).whole_freeSlot there (posted.idles idles))
    · exact whole

theorem State.Whole.rejected (whole : s.Whole) (a : Addr) (tag : Tag) (b : Byte) : (s.rejected a tag b).Whole := by
  unfold State.rejected
  split
  · exact whole
  · split
    · refine ((State.Calm.trans (calm_stopTransfer _ s) (calm_updRec fun _ _ => ?_)).whole whole).enterHeld
      exact alike_of_state rfl rfl rfl rfl
    · exact whole

theorem State.Whole.cancelBooking (whole : s.Whole) (a : Addr) (tag : Tag) : (s.cancelBooking a tag).Whole := by
  unfold State.cancelBooking
  split
  · exact whole.dropBooking
  · split
    · exact whole
    · next h _ =>
      split
      · exact whole
      · next r stands =>
        split
        · next on =>
          dsimp only
          have dropped := (calm_dropWaits h .locate s).trans (calm_withdrawSlot h .locate _)
          have cut : s.Calm (((s.dropWaits h .locate).withdrawSlot h .locate).updRec h fun r =>
              { r with locateTimer := none, sentToward := none, booking := .none }) :=
            dropped.trans (calm_updRec fun _ _ => alike_of_state rfl rfl rfl rfl)
          exact (cut.whole whole).enterEnded (cut.idle_rec stands (by simp [on.1]))
        · exact whole

theorem State.Whole.takeBooked (whole : s.Whole) (a : Addr) (tag : Tag) (p : PosIx) : (s.takeBooked a tag p).Whole := by
  unfold State.takeBooked
  split
  · next h r matched =>
    have stands := rec_of_matched matched
    have booked : s.Calm (s.setRec h { r with booking := .held a p, answerTimer := none, exhausted := false }) :=
      calm_setRec_same stands rfl rfl rfl rfl
    dsimp only
    split
    · exact (booked.trans (calm_judgeReady h _)).whole whole
    · next ended => exact (booked.trans (calm_startTransfer (recOpt_setRec_same _ _ _) ended)).whole whole
    all_goals exact booked.whole whole
  · split
    · exact whole
    · split
      · exact whole
      · exact (calm_of_store (s := s) (store_queueAnswer ..) (seqr_queueAnswer ..) (bookings_queueAnswer ..)).whole whole

theorem State.Whole.takeRefused (whole : s.Whole) (a : Addr) (tag : Tag) : (s.takeRefused a tag).Whole := by
  unfold State.takeRefused
  split
  · exact (calm_failCandidate _ s).whole whole
  · split
    · exact whole.dropBooking
    · exact whole

/-! ### The booker's timers -/

theorem State.Whole.answerExpired (whole : s.Whole) : (s.answerExpired h).Whole := by
  unfold State.answerExpired
  split
  · split
    · exact (calm_failCandidate h s).whole whole
    · exact whole
  · exact whole

theorem State.Whole.handOffExpired (whole : s.Whole) : (s.handOffExpired h).Whole := by
  unfold State.handOffExpired
  split
  · exact whole
  · next r stands =>
    split
    · exact whole
    · next d _ =>
      split
      · next on =>
        have outbound : r.state = .outbound := by simp at on; exact on.1.2
        have idles := whole.idles stands (by simp [outbound]) (by simp [outbound])
        have apart := (whole.apart h).vacateOpt (r := r) (st := .clearing) idles.named (.inr rfl)
        have gone := idles_vacateOpt (st := .clearing) idles
        have there : (s.vacate? r.position .clearing).rec? h = some r := by cases r.position <;> exact stands
        dsimp only
        have order (x : Record) : (s.setRec h x).vacate? r.position .clearing = (s.vacate? r.position .clearing).setRec h x := by
          cases r.position <;> rfl
        rw [order]
        refine (State.Calm.trans (calm_post _ _) (calm_sendSlot _ _ _)).whole (apart.whole_setRec there ?_)
        exact State.Idles.holds gone nofun nofun (fun _ => rfl) (whole.holds stands).few
      · exact whole

theorem State.Whole.locateExpired (whole : s.Whole) : (s.locateExpired h).Whole := by
  unfold State.locateExpired
  split
  · exact whole
  · next r stands =>
    split
    · have stopped : s.Calm (s.setRec h { r with locateTimer := none }) := calm_setRec_same stands rfl rfl rfl rfl
      exact (stopped.trans (calm_post _ _)).whole whole
    · exact whole

end

end Sys2Proof.Machine
end

section
/-! SUPPORT. The booking list's changes keep the records, slots and positions together (R10, R11, R145 to R153). -/

namespace Sys2Proof.Machine
open Host

section
variable {s t u : State} {h g : Handle} {r x : Record} {p q : PosIx} {f : Position → Position} {rest : List Handle} {a : Addr}
variable {b : Booking} {cond : Booking → Bool}

/-! ### What the booking list does not change of a slot -/

theorem State.Seated.agree (seated : s.Seated h) (same : t.rec? h = s.rec? h) (rush : t.store.rushQueue = s.store.rushQueue)
    (ordinary : t.store.ordinaryQueue = s.store.ordinaryQueue)
    (places : ∀ p, (t.pos p).link = (s.pos p).link ∧ (t.pos p).stepEn = (s.pos p).stepEn
      ∧ ((t.pos p).state = .occupied ↔ (s.pos p).state = .occupied)) : t.Seated h := by
  have link_ (p : PosIx) := (places p).1
  rw [State.Seated, same]
  refine ⟨fun r here => ?_, fun none => ?_⟩
  · have holds := seated.holds here
    refine ⟨rush ▸ holds.rush, ordinary ▸ holds.ordinary, fun p => by rw [link_]; exact holds.named p, holds.loose, fun p link => ?_,
      fun running => ?_, holds.few⟩
    · rw [link_] at link
      rw [(places p).2.1, (places p).2.2]
      exact holds.lit p link
    · obtain ⟨p, link, occupied⟩ := holds.stands running
      exact ⟨p, (link_ p).trans link, (places p).2.2.mpr occupied⟩
  · have vacant := seated.vacant none
    exact ⟨rush ▸ vacant.rush, ordinary ▸ vacant.ordinary, fun p => by rw [link_]; exact vacant.unnamed p⟩

theorem State.Framed.booked_link (framed : s.Framed) (booked : (s.pos p).state = .booked) : (s.pos p).link = none :=
  framed.link_none ⟨by simp [booked], by simp [booked]⟩

/-! ### Entries that leave (R146) -/

/-- What the entries that stay name is what all name, but for what those that leave name. -/
theorem exists_left {α : Type} {f : Booking → α} {l : List Booking} (once : (l.map f).Nodup) {y : α} :
    (∃ b ∈ l.filter fun b => !cond b, f b = y) ↔ (∃ b ∈ l, f b = y) ∧ ¬∃ b ∈ l, cond b = true ∧ f b = y := by
  refine ⟨fun ⟨b, m, same⟩ => ?_, fun ⟨⟨b, m, same⟩, stays⟩ => ?_⟩
  · obtain ⟨m, stays⟩ := List.mem_filter.mp m
    refine ⟨⟨b, m, same⟩, fun ⟨x, n, leaves, also⟩ => ?_⟩
    obtain rfl := List.inj_on_of_nodup_map once m n (same.trans also.symm)
    simp [leaves] at stays
  · exact ⟨b, List.mem_filter.mpr ⟨m, by simpa using fun leaves => stays ⟨b, m, leaves, same⟩⟩, same⟩

theorem nodup_left {α : Type} {f : Booking → α} {l : List Booking} (once : (l.map f).Nodup) : ((l.filter cond).map f).Nodup :=
  once.sublist (List.filter_sublist.map f)

theorem leavesSlot_iff : s.leavesSlot cond h = true ↔ ∃ b ∈ s.bookings, cond b = true ∧ b.slot = h := by
  simp [State.leavesSlot]

theorem leavesAt_iff : s.leavesAt cond p = true ↔ ∃ b ∈ s.bookings, cond b = true ∧ b.position = p := by
  simp [State.leavesAt]

theorem reserved_of_leavesSlot (framed : s.Framed) (leaves : s.leavesSlot cond h = true) : (s.slot h).state = .reserved := by
  obtain ⟨b, m, -, slot⟩ := leavesSlot_iff.mp leaves
  exact (framed.booked.1 h).mpr ⟨b, m, slot⟩

theorem booked_of_leavesAt (framed : s.Framed) (leaves : s.leavesAt cond p = true) : (s.pos p).state = .booked := by
  obtain ⟨b, m, -, position⟩ := leavesAt_iff.mp leaves
  exact (framed.booked.2.1 p).mpr ⟨b, m, position⟩

theorem pos_left (framed : s.Framed) (p : PosIx) : ((s.dropEntries cond).pos p).link = (s.pos p).link
    ∧ ((s.dropEntries cond).pos p).stepEn = (s.pos p).stepEn
    ∧ ((s.dropEntries cond).pos p).state = if s.leavesAt cond p then .empty else (s.pos p).state := by
  rw [pos_dropEntries]
  split
  · next leaves =>
    have none := framed.booked_link (booked_of_leavesAt framed leaves)
    exact ⟨none.symm, (framed.dark p none).symm, rfl⟩
  · exact ⟨rfl, rfl, rfl⟩

theorem framed_dropEntries (framed : s.Framed) : (s.dropEntries cond).Framed := by
  obtain ⟨once, listed⟩ := framed.free
  obtain ⟨slots, positions_, slotOnce, positionOnce, tagOnce⟩ := framed.booked
  have shape := dropEntries_shape (s := s) (cond := cond)
  have list : (s.dropEntries cond).store.freeList = (s.slotsLeft cond).reverse ++ s.store.freeList := by rw [shape]
  have books : (s.dropEntries cond).bookings = s.bookings.filter fun b => !cond b := by rw [shape]
  refine ⟨⟨?_, fun h => ?_⟩, ⟨fun h => ?_, fun p => ?_, ?_, ?_, ?_⟩, ?_, ?_, fun p => ?_, fun p none => ?_⟩
  · rw [list]
    refine List.nodup_append.mpr ⟨List.nodup_reverse.mpr (nodup_handles.filter _), once, fun g m h n same => ?_⟩
    have reserved := reserved_of_leavesSlot framed (mem_slotsLeft.mp (List.mem_reverse.mp m))
    rw [same, (listed h).mp n] at reserved
    cases reserved
  · rw [list, List.mem_append, List.mem_reverse, mem_slotsLeft, listed, state_dropEntries]
    by_cases leaves : s.leavesSlot cond h = true <;> simp [leaves]
  · rw [books, exists_left slotOnce, ← slots, ← leavesSlot_iff, state_dropEntries]
    by_cases leaves : s.leavesSlot cond h = true <;> simp [leaves]
  · rw [books, exists_left positionOnce, ← positions_, ← leavesAt_iff, (pos_left framed p).2.2]
    by_cases leaves : s.leavesAt cond p = true <;> simp [leaves]
  · exact books ▸ nodup_left slotOnce
  · exact books ▸ nodup_left positionOnce
  · exact books ▸ nodup_left tagOnce
  · rw [shape]
    exact framed.rushOnce
  · rw [shape]
    exact framed.ordinaryOnce
  · obtain ⟨link, -, state⟩ := pos_left (cond := cond) framed p
    rw [link, state, framed.links]
    split
    · next leaves => simp [booked_of_leavesAt framed leaves]
    · exact Iff.rfl
  · obtain ⟨link, stepEn, -⟩ := pos_left (cond := cond) framed p
    rw [stepEn]
    exact framed.dark p (link ▸ none)

theorem State.Whole.dropEntries (whole : s.Whole) : (s.dropEntries cond).Whole := by
  refine ⟨framed_dropEntries whole.1, fun h => (whole.2 h).agree ?_ ?_ ?_ fun p => ?_⟩
  · rw [recOpt_dropEntries]
    split
    · next leaves => rw [State.rec?, reserved_of_leavesSlot whole.1 leaves]
    · rfl
  · rw [dropEntries_shape]
  · rw [dropEntries_shape]
  · obtain ⟨link, stepEn, state⟩ := pos_left (cond := cond) whole.1 p
    refine ⟨link, stepEn, ?_⟩
    rw [state]
    split
    · next leaves => simp [booked_of_leavesAt whole.1 leaves]
    · exact Iff.rfl

/-! ### Entries changed in place -/

theorem calm_entries {f : Booking → Booking} (keys : ∀ b, (f b).key = b.key) : s.Calm { s with bookings := s.bookings.map f } where
  slots _ := .inl rfl
  freeList := rfl
  rush := rfl
  ordinary := rfl
  places _ := ⟨rfl, rfl, rfl⟩
  entries := by
    show (s.bookings.map f).map Booking.key = _
    rw [List.map_map]
    exact List.map_congr_left fun b _ => keys b

theorem calm_setStatus (cond : Booking → Bool) (st : BookingStatus) (s : State) : s.Calm (s.setStatus cond st) :=
  calm_entries fun b => by
    split
    · rfl
    · rfl

theorem calm_queueAnswer (o : Frame) (s : State) : s.Calm (s.queueAnswer o) :=
  calm_of_store (store_queueAnswer ..) (seqr_queueAnswer ..) (bookings_queueAnswer ..)

theorem calm_withdrawAnswers (cond : Frame → Bool) (s : State) : s.Calm (s.withdrawAnswers cond) :=
  calm_of_store (store_withdrawAnswers ..) (seqr_withdrawAnswers ..) (bookings_withdrawAnswers ..)

theorem calm_renewEntry (a : Addr) (n : BookRequest) (b : Booking) (s : State) : s.Calm (s.renewEntry a n b) := by
  unfold State.renewEntry
  refine State.Calm.trans (calm_entries fun b => ?_) (calm_queueAnswer _ _)
  split
  · rfl
  · rfl

theorem calm_completeImage (b : Booking) (im : List Byte) (s : State) : s.Calm (s.completeImage b im) := by
  unfold State.completeImage
  exact calm_ite (fun _ => calm_setStatus _ _ s) fun _ => (calm_setStatus _ _ s).trans (calm_queueAnswer _ _)

theorem calm_takePart (b : Booking) (x : Assembly) (s : State) : s.Calm (s.takePart b x) :=
  calm_ite (fun _ => calm_completeImage _ _ s) fun _ => calm_setStatus _ _ s

theorem calm_rejectOpen (b : Booking) (s : State) : s.Calm (s.rejectOpen b) := by
  unfold State.rejectOpen
  exact calm_ite (fun _ => calm_setStatus _ _ s) fun _ => (calm_setStatus _ _ s).trans (calm_queueAnswer _ _)

theorem calm_takeFirstPart (a : Addr) (c : CarryPart) (s : State) : s.Calm (s.takeFirstPart a c) := by
  unfold State.takeFirstPart
  refine calm_ite (fun _ => .refl s) fun _ => ?_
  split
  · refine calm_ite (fun _ => calm_takePart _ _ s) fun _ => calm_ite (fun _ => .refl s) fun _ => ?_
    exact (calm_setStatus _ _ s).trans (calm_queueAnswer _ _)
  · exact calm_queueAnswer _ s

theorem calm_takeLaterPart (a : Addr) (c : CarryPart) (s : State) : s.Calm (s.takeLaterPart a c) := by
  unfold State.takeLaterPart
  split
  · split
    · exact calm_ite (fun _ => calm_takePart _ _ s) fun _ => calm_rejectOpen _ s
    all_goals exact .refl s
  · exact .refl s

theorem calm_takeCarry (a : Addr) (c : CarryPart) (s : State) : s.Calm (s.takeCarry a c) :=
  calm_ite (fun _ => calm_takeFirstPart a c s) fun _ => calm_takeLaterPart a c s

/-! ### An entry that enters (R145, line 10) -/

/-- Slot h, position p and entry b reserved together. -/
theorem State.Whole.books (whole : s.Whole) (free : s.store.freeList = h :: rest) (empty : (s.pos p).state = .empty)
    (anew : ∀ x ∈ s.bookings, (x.tag, x.booker) ≠ (b.tag, b.booker)) (slot : b.slot = h) (position : b.position = p)
    (old : t.store.rushQueue = s.store.rushQueue ∧ t.store.ordinaryQueue = s.store.ordinaryQueue)
    (list : t.store.freeList = rest) (books : t.bookings = s.bookings ++ [b])
    (state : ∀ g, (t.slot g).state = if h = g then .reserved else (s.slot g).state)
    (pos : ∀ q, t.pos q = if p = q then { s.pos p with state := .booked, link := none } else s.pos q) : t.Whole := by
  subst slot
  subst position
  obtain ⟨⟨⟨once, listed⟩, ⟨slots, positions_, slotOnce, positionOnce, tagOnce⟩, rushOnce, ordinaryOnce, links, dark⟩, others⟩ := whole
  rw [free] at once listed
  obtain ⟨away, onceRest⟩ := List.nodup_cons.mp once
  have mine : (s.slot b.slot).state = .free := (listed _).mp List.mem_cons_self
  have loose : (s.pos b.position).link = none := by
    by_contra some_
    obtain st | st := (links b.position).mp some_ <;> rw [st] at empty <;> cases empty
  have appended {α : Type} (f : Booking → α) (y : α) : (∃ x ∈ t.bookings, f x = y) ↔ (∃ x ∈ s.bookings, f x = y) ∨ f b = y := by
    rw [books]
    simp [or_and_right, exists_or]
  have nodup {α : Type} (f : Booking → α) (once : (s.bookings.map f).Nodup) (new : ∀ x ∈ s.bookings, f x ≠ f b) :
      (t.bookings.map f).Nodup := by
    rw [books, List.map_append]
    refine List.nodup_append.mpr ⟨once, List.nodup_singleton _, fun y m z n same => ?_⟩
    obtain ⟨x, here, rfl⟩ := List.mem_map.mp m
    exact new x here (same.trans (List.mem_singleton.mp n))
  refine ⟨⟨⟨list ▸ onceRest, fun g => ?_⟩, ⟨fun g => ?_, fun q => ?_, ?_, ?_, ?_⟩, old.1 ▸ rushOnce, old.2 ▸ ordinaryOnce, fun q => ?_,
    fun q => ?_⟩, fun g => (others g).agree ?_ old.1 old.2 fun q => ?_⟩
  · rw [state, list]
    have outside := listed g
    rw [List.mem_cons] at outside
    split
    · next same => exact ⟨fun m => absurd (same ▸ m) away, nofun⟩
    · next other => exact ⟨fun m => outside.mp (.inr m), fun st => (outside.mpr st).resolve_left fun same => other same.symm⟩
  · rw [state, appended fun x => x.slot, ← slots]
    by_cases same : b.slot = g <;> simp [same]
  · rw [pos, appended fun x => x.position, ← positions_]
    by_cases same : b.position = q <;> simp [same]
  · refine nodup _ slotOnce fun x m same => ?_
    have reserved := (slots b.slot).mpr ⟨x, m, same⟩
    rw [mine] at reserved
    cases reserved
  · refine nodup _ positionOnce fun x m same => ?_
    have booked := (positions_ b.position).mpr ⟨x, m, same⟩
    rw [empty] at booked
    cases booked
  · exact nodup _ tagOnce anew
  · rw [pos]
    split
    · exact ⟨fun link => absurd rfl link, fun st => by simp at st⟩
    · exact links q
  · rw [pos]
    split
    · exact fun _ => dark _ loose
    · exact dark q
  · by_cases same : b.slot = g
    · subst same
      simp [State.rec?, state, mine]
    · simp [State.rec?, state, same]
  · rw [pos]
    split
    · next same =>
      subst same
      exact ⟨loose.symm, rfl, by simp [empty]⟩
    · exact ⟨rfl, rfl, Iff.rfl⟩

theorem State.Whole.reserve (whole : s.Whole) (n : BookRequest) (empty : (s.pos p).state = .empty)
    (anew : ∀ x ∈ s.bookings, (x.tag, x.booker) ≠ (n.tag, a)) : (s.reserve a n p).Whole := by
  unfold State.reserve
  split
  · exact whole
  · next h v takes =>
    obtain ⟨rest, free, rfl⟩ := takeSlot_eq_some.mp takes
    dsimp only
    refine (State.Calm.trans (calm_queueAnswer _ _) (calm_judgeSlots _)).whole
      (whole.books (b := { tag := n.tag, booker := a, position := p, slot := h, kind := n.kind, hold := n.hold, timer := 0, status := .offered })
        free empty anew rfl rfl ⟨rfl, rfl⟩ rfl rfl (fun g => ?_) fun q => ?_)
    · refine (congrArg Slot.state (slot_setSlot g h _ ({ s with store := { s.store with freeList := rest } } : State))).trans ?_
      split <;> rfl
    · exact pos_updPos p q (fun x => { x with state := .booked, link := none }) s

theorem State.Whole.takeBook (whole : s.Whole) (a : Addr) (n : BookRequest) : (s.takeBook a n).Whole := by
  have answered (c : Reason) : (s.answerRefused a n.tag c).Whole := (calm_queueAnswer _ s).whole whole
  unfold State.takeBook
  split
  case h_7 => exact answered _
  case h_8 =>
    split
    · exact answered _
    · split
      · exact answered _
      · split
        · exact (calm_renewEntry _ _ _ s).whole whole
        · next absent =>
          split
          · exact answered _
          · split
            · exact answered _
            · next lowest =>
              split
              · exact answered _
              · split
                · exact whole
                · refine whole.reserve n (lowestEmpty_eq_some lowest).2.1 fun x m same => ?_
                  have other := List.find?_eq_none.mp absent x m
                  obtain ⟨tag, booker⟩ := Prod.mk.inj same
                  simp [tag, booker] at other
  all_goals exact whole

end

end Sys2Proof.Machine
end

section
/-! SUPPORT. Entries that become records, and the hand-off unit at departures, at the loss of the line and at the power-fail
warning (R146 to R161). -/

namespace Sys2Proof.Machine
open Host

section
variable {s t u : State} {h g : Handle} {r x : Record} {p q : PosIx} {f : Position → Position} {rest : List Handle} {a : Addr}
variable {b : Booking} {cond : Booking → Bool} {tag : Tag}

/-! ### An entry that becomes a record (R153) -/

theorem few_of_decodeImage {im : List Byte} (reads : decodeImage im = some r) : r.deviations.length ≤ 4 := by
  have image := decodeImage_iff.mp reads
  rw [(flatMap_of_deviationsOf image.deviations).1]
  exact image.few

/-- Of the entries, b alone is the same as b. -/
theorem same_unique (once : (s.bookings.map fun b => (b.tag, b.booker)).Nodup) (m : b ∈ s.bookings) {x : Booking} (n : x ∈ s.bookings)
    (same : b.same x = true) : x = b := by
  obtain ⟨tag, booker⟩ := same_iff.mp same
  exact List.inj_on_of_nodup_map once n m (by rw [tag, booker])

/-- Position y linked to slot h. -/
def Position.assigned (h : Handle) (y : Position) : Position := { y with state := .assigned, link := some h }

/-- Entry b gives its slot and its position to record x (R153). -/
def State.received (s : State) (b : Booking) (x : Record) : State :=
  { (s.setRec b.slot x).updPos b.position (Position.assigned b.slot) with bookings := s.bookings.filter fun y => !b.same y }

theorem state_received (g : Handle) : ((s.received b x).slot g).state = if b.slot = g then .inUse x else (s.slot g).state := by
  refine (congrArg Slot.state (slot_setRec g b.slot x s)).trans ?_
  split <;> rfl

theorem pos_received (q : PosIx) : (s.received b x).pos q = if b.position = q then (s.pos b.position).assigned b.slot else s.pos q :=
  pos_updPos b.position q (Position.assigned b.slot) s

/-- Entry b's position has no record yet. -/
theorem State.Framed.loose_entry (framed : s.Framed) (m : b ∈ s.bookings) : (s.pos b.position).link = none :=
  framed.booked_link ((framed.booked.2.1 _).mpr ⟨b, m, rfl⟩)

theorem framed_received (framed : s.Framed) (m : b ∈ s.bookings) : (s.received b x).Framed := by
  obtain ⟨⟨once, listed⟩, ⟨slots, positions_, slotOnce, positionOnce, tagOnce⟩, rushOnce, ordinaryOnce, links, dark⟩ := framed
  have reserved : (s.slot b.slot).state = .reserved := (slots _).mpr ⟨b, m, rfl⟩
  have books : (s.received b x).bookings = s.bookings.filter fun y => !b.same y := rfl
  have mine {α : Type} (f : Booking → α) (y : α) : (∃ x ∈ s.bookings, b.same x = true ∧ f x = y) ↔ f b = y :=
    ⟨fun ⟨x, n, same, here⟩ => same_unique tagOnce m n same ▸ here, fun here => ⟨b, m, same_iff.mpr ⟨rfl, rfl⟩, here⟩⟩
  refine ⟨⟨once, fun g => ?_⟩, ⟨fun g => ?_, fun q => ?_, ?_, ?_, ?_⟩, rushOnce, ordinaryOnce, fun q => ?_, fun q => ?_⟩
  · rw [state_received]
    refine (listed g).trans ?_
    split
    · next same => simp [← same, reserved]
    · exact Iff.rfl
  · rw [books, exists_left slotOnce, ← slots, mine, state_received]
    by_cases same : b.slot = g <;> simp [same]
  · rw [books, exists_left positionOnce, ← positions_, mine, pos_received]
    by_cases same : b.position = q <;> simp [same, Position.assigned]
  · exact books ▸ nodup_left slotOnce
  · exact books ▸ nodup_left positionOnce
  · exact books ▸ nodup_left tagOnce
  · rw [pos_received]
    split
    · simp [Position.assigned]
    · exact links q
  · rw [pos_received]
    split
    · exact nofun
    · exact dark q

theorem idles_received (framed : s.Framed) (m : b ∈ s.bookings) (vacant : s.Vacant b.slot) :
    (s.received b x).Idles b.slot (some b.position) := by
  refine ⟨vacant.rush, vacant.ordinary, fun q => ?_, fun q link => ?_⟩
  · rw [pos_received]
    split
    · next same => exact ⟨fun _ => congrArg some same, fun _ => rfl⟩
    · next other => exact ⟨fun link => absurd link (vacant.unnamed q), fun same => absurd (Option.some.inj same) other⟩
  · rw [pos_received] at link ⊢
    split
    · exact framed.dark _ (framed.loose_entry m)
    · next other =>
      rw [if_neg other] at link
      exact absurd link (vacant.unnamed q)

theorem State.Whole.received (whole : s.Whole) (m : b ∈ s.bookings) (inbound : x.state = .inbound)
    (position : x.position = some b.position) (few : x.deviations.length ≤ 4) : (s.received b x).Whole := by
  have reserved : (s.slot b.slot).state = .reserved := (whole.1.booked.1 _).mpr ⟨b, m, rfl⟩
  have vacant := (whole.2 b.slot).vacant (by rw [State.rec?, reserved])
  have apart : (s.received b x).Apart b.slot := by
    refine ⟨framed_received whole.1 m, fun g other => ?_⟩
    have here := seated_updPos_other (p := b.position) (f := Position.assigned b.slot) (whole.2 g)
      (by simp [whole.1.loose_entry m]) (fun link => other (Option.some.inj link).symm)
    refine here.congr ?_ rfl rfl rfl
    rw [state_received, if_neg other.symm]
    rfl
  have stands : (s.received b x).rec? b.slot = some x := by rw [State.rec?, state_received, if_pos rfl]
  refine apart.whole_idle stands (position ▸ idles_received whole.1 m vacant) ?_ ?_ ?_ few <;> simp [inbound]

theorem State.Whole.receiveRecord (whole : s.Whole) (o : Frame) : (s.receiveRecord o).Whole := by
  unfold State.receiveRecord
  split
  · exact whole
  · next b found =>
    split
    · split
      · next r reads =>
        have few := few_of_decodeImage reads
        have received := whole.received (x := receivedRecord b r) (List.mem_of_find?_eq_some found) rfl rfl few
        exact ((calm_post _ _).whole received).checkGap
      · exact whole
    all_goals exact whole

/-! ### Entries removed at an appearance or a timer -/

theorem State.Whole.settle (whole : s.Whole) : s.judgeSlots.placement.Whole := ((calm_judgeSlots s).whole whole).placement

theorem State.Whole.closeRejected (whole : s.Whole) (o : Frame) : (s.closeRejected o).Whole := by
  unfold State.closeRejected
  split
  · exact whole
  · exact whole.dropEntries.settle

theorem State.Whole.takenFailed (whole : s.Whole) (o : Frame) : (s.takenFailed o).Whole := by
  unfold State.takenFailed
  have judged : ((s.dropEntries fun b => b.isClosing && decide (b.takenFrame = o)).judgeSlots).Whole :=
    (calm_judgeSlots _).whole whole.dropEntries
  dsimp only
  split
  · exact judged.placement
  · exact judged

theorem State.Whole.cancelEntry (whole : s.Whole) (a : Addr) (tag : Tag) : (s.cancelEntry a tag).Whole := by
  unfold State.cancelEntry
  split
  · exact whole
  · split
    · exact whole
    · dsimp only
      split
      · exact ((calm_withdrawAnswers _ s).whole whole).dropEntries.settle
      · exact whole.dropEntries.settle

theorem State.Whole.bookingLapse (whole : s.Whole) : (s.bookingLapse p).Whole := by
  unfold State.bookingLapse
  split
  · next b _ =>
    split
    · have dropped : ((s.dropEntries b.same).sendSlot b.slot (.cancel b.tag b.booker)).Whole :=
        (calm_sendSlot _ _ _).whole whole.dropEntries
      exact ((calm_post _ _).whole ((calm_judgeSlots _).whole dropped)).placement
    · exact whole
  · exact whole

theorem State.Whole.partGapExpired (whole : s.Whole) : (s.partGapExpired p).Whole := by
  unfold State.partGapExpired
  split
  · exact (calm_setStatus _ _ s).whole whole
  · exact whole

theorem State.Whole.departHandoff (whole : s.Whole) (a : Addr) : (s.departHandoff a).Whole := by
  unfold State.departHandoff
  dsimp only
  exact (calm_withdrawAnswers _ _).whole (State.Whole.dropEntries (whole.foldl _ (fun _ _ w => w.departRecord a) _))

/-! ### The records at the loss of the line (R160) -/

theorem slot_map (f : Record → Record) (s : State) (h : Handle) :
    ((({ s with store := { s.store with slots := s.store.slots.map fun (x : Slot) => { x with state := x.state.mapRec f } } } : State)).slot
      h).state = (s.slot h).state.mapRec f := by
  simp [State.slot]

theorem mapRec_iff {st : SlotState} {f : Record →
    Record} : (st.mapRec f = .free ↔ st = .free) ∧ (st.mapRec f = .reserved ↔ st = .reserved) := by
  cases st <;> simp [SlotState.mapRec]

theorem recOpt_map (f : Record → Record) (state : (t.slot h).state = (s.slot h).state.mapRec f) : t.rec? h = (s.rec? h).map f := by
  simp only [State.rec?, state]
  cases (s.slot h).state <;> rfl

/-- A position as R28 leaves it: a position of an OUTBOUND record CLEARING. -/
theorem clearedOutbound_cases (recs : Handle → Option Record) (y : Position) :
    linksOutbound recs y = false ∧ y.clearedOutbound recs = y
      ∨ linksOutbound recs y = true ∧ y.clearedOutbound recs = { y with state := .clearing, link := none, stepEn := false } := by
  unfold Position.clearedOutbound
  split
  · next on => exact .inr ⟨on, rfl⟩
  · next off => exact .inl ⟨by simpa using off, rfl⟩

theorem linksOutbound_iff {recs : Handle → Option Record} {y : Position} : linksOutbound recs y = true ↔
    ∃ h r, y.link = some h ∧ recs h = some r ∧ r.state = .outbound := by
  unfold linksOutbound
  cases link : y.link with
  | none => simp
  | some h => cases stands : recs h <;> simp [stands]

/-- The station with its OUTBOUND records off their positions and every record off the line. -/
theorem State.Whole.offLine (whole : s.Whole) (pos : ∀ p, t.pos p = (s.pos p).clearedOutbound s.rec?)
    (state : ∀ h, (t.slot h).state = (s.slot h).state.mapRec Record.loseLine) (list : t.store.freeList = s.store.freeList)
    (rush : t.store.rushQueue = s.store.rushQueue) (ordinary : t.store.ordinaryQueue = s.store.ordinaryQueue)
    (books : t.bookings = s.bookings) : t.Whole := by
  have framed := whole.1
  have linked (p : PosIx) (on : linksOutbound s.rec? (s.pos p) = true) : (s.pos p).state = .assigned ∨ (s.pos p).state = .occupied := by
    obtain ⟨h, -, link, -⟩ := linksOutbound_iff.mp on
    exact (framed.links p).mp (by rw [link]; exact nofun)
  refine ⟨⟨⟨list ▸ framed.free.1, fun h => by rw [list, state, mapRec_iff.1]; exact framed.free.2 h⟩, ?_, rush ▸ framed.rushOnce,
    ordinary ▸ framed.ordinaryOnce, fun p => ?_, fun p => ?_⟩, fun h => ?_⟩
  · refine bookingsKept_of_keys (s := s) (by rw [books]) (fun h => by rw [state, mapRec_iff.2]) (fun p => ?_) framed.booked
    rw [pos]
    obtain ⟨-, same⟩ | ⟨on, cleared⟩ := clearedOutbound_cases s.rec? (s.pos p)
    · rw [same]
    · rw [cleared]
      obtain st | st := linked p on <;> simp [st]
  · rw [pos]
    obtain ⟨-, same⟩ | ⟨-, cleared⟩ := clearedOutbound_cases s.rec? (s.pos p)
    · rw [same]
      exact framed.links p
    · rw [cleared]
      simp
  · rw [pos]
    obtain ⟨-, same⟩ | ⟨-, cleared⟩ := clearedOutbound_cases s.rec? (s.pos p)
    · rw [same]
      exact framed.dark p
    · rw [cleared]
      exact fun _ => rfl
  · have recs := recOpt_map Record.loseLine (state h)
    have link (p : PosIx) : (t.pos p).link = some h ↔ (s.pos p).link = some h ∧ ∀ r, s.rec? h = some r → r.state ≠ .outbound := by
      rw [pos]
      obtain ⟨off, same⟩ | ⟨on, cleared⟩ := clearedOutbound_cases s.rec? (s.pos p)
      · rw [same]
        refine ⟨fun link => ⟨link, fun r stands outbound => ?_⟩, And.left⟩
        rw [linksOutbound_iff.mpr ⟨h, r, link, stands, outbound⟩] at off
        cases off
      · rw [cleared]
        refine ⟨nofun, fun ⟨link, other⟩ => ?_⟩
        obtain ⟨g, r, link', stands, outbound⟩ := linksOutbound_iff.mp on
        obtain rfl := Option.some.inj (link.symm.trans link')
        exact absurd outbound (other r stands)
    have kept (p : PosIx) (linked : (t.pos p).link = some h) : t.pos p = s.pos p := by
      rw [pos] at linked ⊢
      obtain ⟨-, same⟩ | ⟨-, cleared⟩ := clearedOutbound_cases s.rec? (s.pos p)
      · exact same
      · rw [cleared] at linked
        cases linked
    cases here : s.rec? h with
    | none =>
      have vacant := (whole.2 h).vacant here
      rw [here] at recs
      exact State.Vacant.seated ⟨rush ▸ vacant.rush, ordinary ▸ vacant.ordinary, fun p on => vacant.unnamed p ((link p).mp on).1⟩ recs
    | some r =>
      have holds := whole.holds here
      rw [here] at recs
      refine State.Holds.seated (r := r.loseLine) ?_ recs
      by_cases outbound : r.state = .outbound
      · have lost : r.loseLine.state = .uncertain ∧ r.loseLine.position = none ∧ r.loseLine.deviations = r.deviations := by
          simp [Record.loseLine, outbound]
        have away := holds.houses.unqueued (by simp [outbound])
        have cut (p : PosIx) : (t.pos p).link ≠ some h := fun on => ((link p).mp on).2 r here outbound
        have idles : t.Idles h none :=
          ⟨rush ▸ away.1, ordinary ▸ away.2, fun p => ⟨fun on => absurd on (cut p), nofun⟩, fun p on => absurd on (cut p)⟩
        exact (lost.2.1 ▸ idles).holds (by simp [lost.1]) (by simp [lost.1]) (fun _ => lost.2.1) (lost.2.2 ▸ holds.few)
      · have alike : r.Alike r.loseLine := by
          refine alike_of_state ?_ ?_ ?_ ?_ <;> simp [Record.loseLine, outbound]
        refine State.Holds.alike ?_ alike
        have link_ (p : PosIx) : (t.pos p).link = some h ↔ (s.pos p).link = some h :=
          (link p).trans ⟨And.left, fun on => ⟨on, fun x stands => Option.some.inj (here.symm.trans stands) ▸ outbound⟩⟩
        refine ⟨rush ▸ holds.rush, ordinary ▸ holds.ordinary, fun p => (link_ p).trans (holds.named p), holds.loose, fun p on => ?_,
          fun running => ?_, holds.few⟩
        · rw [kept p on]
          exact holds.lit p ((link_ p).mp on)
        · obtain ⟨p, on, occupied⟩ := holds.stands running
          exact ⟨p, (link_ p).mpr on, by rw [kept p ((link_ p).mpr on)]; exact occupied⟩

theorem State.Whole.loseHandoff (whole : s.Whole) : s.loseHandoff.Whole := by
  obtain ⟨seqr, cleared, pos⟩ := clearOutbound_all nodup_positions s
  unfold State.loseHandoff
  rw [cleared]
  dsimp only
  refine State.Whole.dropEntries (whole.offLine (fun p => ?_) (fun h => slot_map _ { s with seqr := seqr } h) rfl rfl rfl rfl)
  exact (pos p).trans (if_pos (mem_positions p))

/-! ### The records at the power-fail warning (R161) -/

/-- Every record replaced by one alike. -/
theorem calm_map {f : Record → Record} (alike : ∀ r : Record, r.Alike (f r)) (s : State) :
    s.Calm { s with store := { s.store with slots := s.store.slots.map fun (x : Slot) => { x with state := x.state.mapRec f } } } where
  slots h := by
    have state := slot_map f s h
    cases here : s.rec? h with
    | none =>
      left
      rw [state]
      cases st : (s.slot h).state with
      | inUse r =>
        rw [State.rec?, st] at here
        cases here
      | reserved => rfl
      | free => rfl
    | some r => exact .inr ⟨r, f r, rfl, (recOpt_map f state).trans (by rw [here]; rfl), alike r⟩
  freeList := rfl
  rush := rfl
  ordinary := rfl
  places _ := ⟨rfl, rfl, rfl⟩
  entries := rfl

theorem calm_handoffStopped (s : State) : s.Calm s.handoffStopped :=
  calm_map (f := Record.powerFail) (fun _ => alike_of_state rfl rfl rfl rfl) s

theorem State.Whole.powerFailHandoff (whole : s.Whole) : s.powerFailHandoff.Whole := by
  rw [powerFailHandoff_eq]
  exact ((calm_handoffStopped s).whole whole).dropEntries

end

end Sys2Proof.Machine
end

section
/-! SUPPORT. The line: joins, the loss of the line, voids and stalls keep the records, slots and positions together (R76 to R90,
R104 to R114). -/

namespace Sys2Proof.Machine
open Host

theorem whole_ite {c : Prop} [Decidable c] {s t : State} (yes : c → s.Whole) (no : ¬c → t.Whole) : (if c then s else t).Whole := by
  split
  · next on => exact yes on
  · next off => exact no off

section
variable {s t u : State} {h g : Handle} {r x : Record} {p q : PosIx} {a : Addr} {o : Origin} {e : TxEntry} {c : Cause}

/-! ### Membership -/

theorem calm_postLineState (c : Cause) (s : State) : s.Calm (s.postLineState c) :=
  calm_of_store (store_postLineState ..) (seqr_postLineState ..) (bookings_postLineState ..)

theorem calm_rejoin (c : Cause) (s : State) : s.Calm (s.rejoin c) :=
  calm_of_store (store_rejoin ..) (seqr_rejoin ..) (bookings_rejoin ..)

theorem calm_tryServe (s : State) : s.Calm s.tryServe := calm_of_store (store_tryServe ..) (seqr_tryServe ..) (bookings_tryServe ..)

theorem calm_joinedRecord (s : State) (h : Handle) : s.Calm (s.joinedRecord h) :=
  calm_ite (fun _ => calm_sendSlot h .locate s) fun _ => calm_startRound h s

theorem calm_joinedPosition (s : State) (p : PosIx) : s.Calm (s.joinedPosition p) := by
  unfold State.joinedPosition
  split
  · exact calm_ite (fun _ => calm_judgeReady _ s) fun _ => .refl s
  · exact .refl s

theorem calm_completeJoin (c : Cause) (s : State) : s.Calm (s.completeJoin c) := by
  rw [State.completeJoin]
  generalize joined : ({ s with mem := _, lbi := _ } : State) = t
  have entered : s.Calm t := by
    rw [← joined]
    exact calm_of_store (s := s) rfl rfl rfl
  exact ((entered.trans (calm_postLineState c t)).trans (calm_foldl _ calm_joinedRecord handles _)).trans
    (calm_foldl _ calm_joinedPosition positions _)

theorem calm_replayFrame (s : State) (f : BufferedFrame) : s.Calm (s.replayFrame f) :=
  calm_of_store (store_replayFrame ..) (seqr_replayFrame ..) (bookings_replayFrame ..)

theorem calm_finishSnapshot (n : SnapIn) (s : State) : s.Calm (s.finishSnapshot n) := by
  have loaded : s.Calm (s.loadSnapshot n) := calm_of_store (store_loadSnapshot ..) (seqr_loadSnapshot ..) (bookings_loadSnapshot ..)
  exact (loaded.trans (calm_foldl _ calm_replayFrame _ _)).trans (calm_completeJoin .snapshot _)

theorem calm_firstStation (s : State) : s.Calm s.firstStation := by
  rw [State.firstStation]
  generalize first : ({ s with bud := _, mem := _ } : State) = t
  have entered : s.Calm t := by
    rw [← first]
    exact calm_of_store (s := s) rfl rfl rfl
  exact entered.trans (calm_completeJoin .first t)

theorem calm_joinWaitExpired (s : State) : s.Calm s.joinWaitExpired := by
  unfold State.joinWaitExpired
  exact calm_ite (fun _ => calm_ite (fun _ => calm_rejoin _ s) fun _ => calm_firstStation s) fun _ => .refl s

theorem calm_offLine (l : LineState) (s : State) : s.Calm { s with mem := s.mem.offLine l } := calm_of_store (s := s) rfl rfl rfl

theorem calm_enterMismatch (s : State) : s.Calm s.enterMismatch := by
  rw [State.enterMismatch]
  have cleared := (calm_clearTx s).trans (calm_offLine .mismatch s.clearTx)
  generalize ({ s.clearTx with mem := s.clearTx.mem.offLine .mismatch } : State) = t at cleared
  have left : t.Calm (t.sendUpkeep leaveFrame) := calm_of_store (store_sendUpkeep ..) (seqr_sendUpkeep ..) (bookings_sendUpkeep ..)
  have alarmed (w : State) : w.Calm (w.alarm fun a => { a with configMismatch := true }) := calm_of_store rfl rfl rfl
  exact ((cleared.trans left).trans (alarmed _)).trans (calm_postLineState _ _)

theorem calm_takeHead (a : Addr) (n : SnapHead) (s : State) : s.Calm (s.takeHead a n) := by
  unfold State.takeHead
  split
  · refine calm_ite (fun _ => calm_enterMismatch s) fun _ => calm_ite (fun _ => calm_rejoin _ s) fun _ => ?_
    exact calm_of_store (s := s) rfl rfl rfl
  · exact calm_rejoin _ s
  · exact .refl s

theorem calm_takeSnapPart (i : Nat) (content : List Byte) (s : State) : s.Calm (s.takeSnapPart i content) := by
  unfold State.takeSnapPart
  split
  · split
    · refine calm_ite (fun _ => calm_rejoin _ s) fun _ => ?_
      dsimp only
      refine calm_ite (fun _ => calm_finishSnapshot _ s) fun _ => ?_
      exact calm_of_store (s := s) rfl rfl rfl
    · exact .refl s
  · exact .refl s

/-! ### The loss of the line (R110 to R114) -/

theorem State.Whole.lineDropped (whole : s.Whole) (l : LineState) : (s.lineDropped l).Whole := by
  have cleared := (calm_clearTx s).trans (calm_offLine l s.clearTx)
  rw [State.lineDropped]
  generalize ({ s.clearTx with mem := s.clearTx.mem.offLine l } : State) = t at cleared
  have dropped : t.Calm t.dropTable := calm_of_store rfl rfl rfl
  exact ((((cleared.trans dropped).trans (calm_dropClaims _)).whole whole).loseHandoff)

theorem State.Whole.loseLine (whole : s.Whole) (l : LineState) : (s.loseLine l).Whole := by
  have lost : s.loseLine l = (positions.foldl State.lostPosition (s.lineDropped l)).judgeSlots.placement := rfl
  rw [lost]
  exact ((whole.lineDropped l).foldl _ (fun _ _ w => w.lostPosition) positions).settle

theorem State.Whole.detach (whole : s.Whole) (c : Cause) : (s.detach c).Whole := by
  have lost := whole.loseLine .detached
  unfold State.detach
  generalize s.loseLine .detached = t at lost ⊢
  have waits : t.Calm { t with mem := { t.mem with backoff := some 0 } } := calm_of_store rfl rfl rfl
  exact whole_ite (fun _ => (calm_postLineState c _).whole (waits.whole lost)) fun _ => whole

theorem State.Whole.goOut (whole : s.Whole) : s.goOut.Whole := (calm_postLineState _ _).whole (whole.loseLine .out)

/-! ### Transmissions and their ends -/

theorem calm_setInTx (x : InTx) (s : State) : s.Calm (s.setInTx x) := calm_of_store rfl rfl rfl

theorem calm_updTx (o : Origin) (f : TxEntry → TxEntry) (s : State) : s.Calm (s.updTx o f) := calm_of_store rfl rfl rfl

theorem calm_alarm (f : Alarms → Alarms) (s : State) : s.Calm (s.alarm f) := calm_of_store rfl rfl rfl

theorem calm_beginTx (s : State) : s.Calm s.beginTx := calm_of_store (store_beginTx ..) (seqr_beginTx ..) (bookings_beginTx ..)

theorem calm_pumpSlot (h : Handle) (s : State) : s.Calm (s.pumpSlot h) :=
  calm_of_states (states_pumpSlot ..) (freeList_pumpSlot ..) (rushQueue_pumpSlot ..) (ordinaryQueue_pumpSlot ..) (seqr_pumpSlot ..)
    (bookings_pumpSlot ..)

theorem calm_pumpUpkeep (s : State) : s.Calm s.pumpUpkeep :=
  calm_of_store (store_pumpUpkeep ..) (seqr_pumpUpkeep ..) (bookings_pumpUpkeep ..)

theorem calm_dropFrame (o : Origin) (s : State) : s.Calm (s.dropFrame o) :=
  calm_of_states (states_dropFrame ..) (freeList_dropFrame ..) (rushQueue_dropFrame ..) (ordinaryQueue_dropFrame ..) (seqr_dropFrame ..)
    (bookings_dropFrame ..)

theorem calm_dropHead (s : State) : s.Calm s.dropHead :=
  calm_of_states (states_dropHead ..) (freeList_dropHead ..) (rushQueue_dropHead ..) (ordinaryQueue_dropHead ..) (seqr_dropHead ..)
    (bookings_dropHead ..)

theorem calm_finishOwn (own : OwnTx) (s : State) : s.Calm (s.finishOwn own) :=
  calm_of_states (states_finishOwn ..) (freeList_finishOwn ..) (rushQueue_finishOwn ..) (ordinaryQueue_finishOwn ..) (seqr_finishOwn ..)
    (bookings_finishOwn ..)

theorem State.Whole.toldWithdrawn (whole : s.Whole) (e : TxEntry) : (s.toldWithdrawn e).Whole := by
  unfold State.toldWithdrawn
  split
  · exact (calm_claimWithdrawn _ s).whole whole
  · exact whole_ite (fun _ => whole.takenFailed _) fun _ => whole
  · exact (calm_pumpSlot _ s).whole whole
  · exact (calm_pumpUpkeep s).whole whole
  all_goals exact whole

theorem State.Whole.orphanFailed (whole : s.Whole) (f : Frame) : (s.orphanFailed f).Whole := by
  have ended := (calm_setInTx .idle s).whole whole
  exact whole_ite (fun _ => ended.takenFailed f) fun _ => ended

theorem State.Whole.applyHeld (whole : s.Whole) (e : TxEntry) : (s.applyHeld e).Whole := by
  unfold State.applyHeld
  split
  · exact whole
  · exact ((calm_removeTx _ s).whole whole).toldWithdrawn e
  · exact (calm_updTx _ _ s).whole whole

theorem State.Whole.loseArbitration (whole : s.Whole) : s.loseArbitration.Whole := by
  have ended := (calm_setInTx .idle s).whole whole
  unfold State.loseArbitration
  split
  · exact whole
  · exact whole.orphanFailed _
  · dsimp only
    split
    · exact ended.applyHeld _
    · exact ended

theorem State.Whole.voidOwn (whole : s.Whole) : s.voidOwn.Whole := by
  have ended := (calm_setInTx .idle s).whole whole
  unfold State.voidOwn
  split
  · exact whole
  · exact whole.orphanFailed _
  · dsimp only
    split
    · exact ended
    · refine whole_ite (fun _ => ?_) fun _ => ended.applyHeld _
      exact whole_ite (fun _ => (calm_dropFrame _ _).whole ended) fun _ => (calm_updTx _ _ _).whole ended

theorem State.Whole.takeVoid (whole : s.Whole) (a : Addr) (found : Bool) : (s.takeVoid a found).Whole := by
  unfold State.takeVoid
  dsimp only
  have begun : (if decide (a = s.conf.address) = true then s.beginTx else s).Whole :=
    whole_ite (fun _ => (calm_beginTx s).whole whole) fun _ => whole
  generalize (if decide (a = s.conf.address) = true then s.beginTx else s) = t at begun ⊢
  generalize (found && t.voiding) = counted
  generalize (decide (a = s.conf.address) && t.eighthVoid) = tx
  generalize (counted && decide (15 ≤ t.lbi.rxErrors)) = rx
  have ended : (if decide (a = s.conf.address) = true then (if (rx && !tx && t.isOnLine) = true then t.setInTx .idle else t.voidOwn)
      else t).Whole :=
    whole_ite (fun _ => whole_ite (fun _ => (calm_setInTx .idle t).whole begun) fun _ => begun.voidOwn) fun _ => begun
  generalize (if decide (a = s.conf.address) = true then (if (rx && !tx && t.isOnLine) = true then t.setInTx .idle else t.voidOwn)
      else t) = u at ended ⊢
  have voided : (if counted = true then u.countVoid else u).Whole :=
    whole_ite (fun _ => (calm_of_store (store_countVoid u) (seqr_countVoid u) (bookings_countVoid u)).whole ended) fun _ => ended
  refine (calm_tryServe _).whole ?_
  split
  · exact voided.detach _
  · exact voided

theorem State.Whole.takeListenOnlyError (whole : s.Whole) (a : Addr) : (s.takeListenOnlyError a).Whole := by
  unfold State.takeListenOnlyError
  exact whole_ite (fun _ => whole) fun _ => (calm_rejoin _ _).whole (whole_ite (fun _ => whole.loseArbitration) fun _ => whole)

theorem State.Whole.takeStall (whole : s.Whole) : s.takeStall.Whole := by
  unfold State.takeStall
  refine whole_ite (fun _ => whole_ite (fun _ => (calm_tryServe _).whole ?_) fun _ => (calm_dropHead s).whole whole) fun _ => whole
  exact ((calm_alarm _ s).whole whole).detach _

theorem calm_departureExpired (s : State) (a : Addr) : s.Calm (s.departureExpired a) :=
  calm_of_store (store_departureExpired ..) (seqr_departureExpired ..) (bookings_departureExpired ..)

theorem calm_presenceExpired (s : State) : s.Calm s.presenceExpired :=
  calm_of_store (store_presenceExpired ..) (seqr_presenceExpired ..) (bookings_presenceExpired ..)

theorem calm_snapGapExpired (s : State) : s.Calm s.snapGapExpired :=
  calm_of_store (store_snapGapExpired ..) (seqr_snapGapExpired ..) (bookings_snapGapExpired ..)

theorem calm_backoffExpired (s : State) : s.Calm s.backoffExpired :=
  calm_of_store (store_backoffExpired ..) (seqr_backoffExpired ..) (bookings_backoffExpired ..)

end

end Sys2Proof.Machine
end

section
/-! SUPPORT. A frame that appears keeps the records, slots and positions together (R80, R81, R99 to R106, R140 to R159). -/

namespace Sys2Proof.Machine
open Host

section
variable {s t u : State} {h g : Handle} {r x : Record} {p q : PosIx} {a : Addr} {k : FrameKind} {f : BufferedFrame}
variable {dest : BitVec 5} {payload : List Byte} {own : OwnTx}

/-! ### The blocks' single changes -/

theorem calm_peerGone (a : Addr) (c : GoneCause) (s : State) : s.Calm (s.peerGone a c) :=
  calm_of_store (store_peerGone ..) (seqr_peerGone ..) (bookings_peerGone ..)

theorem calm_leaveQueue (a : Addr) (s : State) : s.Calm (s.leaveQueue a) :=
  calm_of_store (store_leaveQueue ..) (seqr_leaveQueue ..) (bookings_leaveQueue ..)

theorem calm_peerJoins (a : Addr) (role : Role) (s : State) : s.Calm (s.peerJoins a role) :=
  calm_of_store (store_peerJoins ..) (seqr_peerJoins ..) (bookings_peerJoins ..)

theorem calm_judgeProvider (a : Addr) (s : State) : s.Calm (s.judgeProvider a) :=
  calm_of_store (store_judgeProvider ..) (seqr_judgeProvider ..) (bookings_judgeProvider ..)

theorem calm_bufferFrame (f : BufferedFrame) (s : State) : s.Calm (s.bufferFrame f) :=
  calm_of_store (store_bufferFrame ..) (seqr_bufferFrame ..) (bookings_bufferFrame ..)

theorem calm_startJoin (s : State) : s.Calm s.startJoin := calm_of_store (store_startJoin ..) (seqr_startJoin ..) (bookings_startJoin ..)

theorem calm_snapAppeared (s : State) : s.Calm s.snapAppeared :=
  calm_of_store (store_snapAppeared ..) (seqr_snapAppeared ..) (bookings_snapAppeared ..)

theorem calm_applyPresence (a : Addr) (n : PresenceReport) (s : State) : s.Calm (s.applyPresence a n) :=
  calm_of_store (store_applyPresence ..) (seqr_applyPresence ..) (bookings_applyPresence ..)

theorem calm_restartRound (a : Addr) (s : State) (h : Handle) : s.Calm (s.restartRound a h) := by
  unfold State.restartRound
  split
  · exact .refl s
  · exact calm_ite (fun _ => calm_roundFrom h 1 s) fun _ => .refl s

theorem calm_restartRounds (a : Addr) (n : PresenceReport) (s : State) : s.Calm (s.restartRounds a n) :=
  calm_ite (fun _ => calm_foldl _ (calm_restartRound a) handles s) fun _ => .refl s

theorem calm_bookAppeared (own : OwnTx) (dest : BitVec 5) (n : BookRequest) (s : State) : s.Calm (s.bookAppeared own dest n) := by
  unfold State.bookAppeared
  split
  · exact .refl s
  · split
    · exact .refl s
    · next stands =>
      split
      · exact calm_ite (fun _ => calm_setRec_same stands rfl rfl rfl rfl) fun _ => .refl s
      · exact .refl s
      · exact .refl s

theorem calm_bookedAppeared (dest : BitVec 5) (tag : Tag) (s : State) : s.Calm (s.bookedAppeared dest tag) :=
  calm_entries fun b => by
    split
    · rfl
    · rfl

theorem calm_locateAppeared (tag : Tag) (s : State) : s.Calm (s.locateAppeared tag) := by
  unfold State.locateAppeared
  split
  · exact calm_ite (fun _ => calm_updRec fun _ _ => alike_of_state rfl rfl rfl rfl) fun _ => .refl s
  · exact .refl s

theorem calm_carryAppeared (own : OwnTx) (i : Nat) (s : State) : s.Calm (s.carryAppeared own i) := by
  unfold State.carryAppeared
  split
  · exact .refl s
  · next h _ =>
    split
    · exact .refl s
    · next r stands =>
      split
      · exact .refl s
      · next c _ =>
        have carried : s.Calm (s.setRec h { r with
            carry := some { c with next := i + 1 }, handOffTimer := if i + 1 = c.count then some 0 else r.handOffTimer }) :=
          calm_setRec_same stands rfl rfl rfl rfl
        refine calm_ite (fun _ => ?_) fun _ => .refl s
        dsimp only
        exact calm_ite (fun _ => carried) fun _ => carried.trans (calm_sendSlot h .part _)

/-! ### The replicated kinds -/

theorem State.Whole.onReplicated (whole : s.Whole) : (s.onReplicated k a payload).Whole := by
  unfold State.onReplicated
  dsimp only
  split
  · exact whole.takeReplicated _ _
  · exact (calm_bufferFrame _ s).whole whole
  all_goals exact whole

theorem State.Whole.dropPeerWork (whole : s.Whole) (a : Addr) (f : BufferedFrame) : (s.dropPeerWork a f).Whole :=
  ((whole.takeReplicated f _).departHandoff a).settle

theorem State.Whole.departJoined (whole : s.Whole) (f : BufferedFrame) : (s.departJoined f).Whole := by
  unfold State.departJoined
  split
  · exact whole.takeReplicated _ _
  · next a _ =>
    refine whole_ite (fun _ => ((calm_peerGone _ _ s).whole whole).detach _) fun _ => ?_
    dsimp only
    refine State.Whole.dropPeerWork (((calm_peerGone _ _ _).trans (calm_leaveQueue _ _)).whole ?_) a f
    exact whole_ite (fun _ => whole) fun _ => (calm_withdrawTx _ s).whole whole

theorem State.Whole.onDepart (whole : s.Whole) : (s.onDepart a payload).Whole := by
  unfold State.onDepart
  dsimp only
  split
  · exact whole.departJoined _
  · exact whole_ite (fun _ => whole.detach _) fun _ => (calm_bufferFrame _ s).whole whole
  all_goals exact whole

theorem State.Whole.onLeave (whole : s.Whole) : (s.onLeave a payload).Whole := by
  unfold State.onLeave
  dsimp only
  split
  · refine whole_ite (fun _ => whole.takeReplicated _ _) fun _ => whole_ite (fun _ => whole.goOut) fun _ => ?_
    exact State.Whole.dropPeerWork (((calm_peerGone _ _ s).trans (calm_leaveQueue _ _)).whole whole) a _
  · exact (calm_bufferFrame _ s).whole whole
  all_goals exact whole

theorem State.Whole.joinJoined (whole : s.Whole) (f : BufferedFrame) : (s.joinJoined f).Whole := by
  unfold State.joinJoined
  split
  · exact whole.takeReplicated _ _
  · refine whole_ite (fun _ => whole.takeReplicated _ _) fun _ => ?_
    exact (calm_judgeProvider _ _).whole (((calm_peerJoins _ _ s).whole whole).dropPeerWork _ _)

theorem State.Whole.onJoin (whole : s.Whole) : (s.onJoin a payload).Whole := by
  unfold State.onJoin
  dsimp only
  split
  · exact whole.joinJoined _
  · refine whole_ite (fun _ => whole_ite (fun _ => ?_) fun _ => whole) fun _ => ?_
    · exact (calm_startJoin s).whole whole
    · exact (calm_bufferFrame _ s).whole whole
  all_goals exact whole

/-! ### The membership unit's other kinds -/

theorem State.Whole.onSnapHead (whole : s.Whole) : (s.onSnapHead own a payload).Whole := by
  unfold State.onSnapHead
  dsimp only
  have next_ : (if (own.isUpkeep && s.isJoined) = true then s.snapAppeared else s).Whole :=
    whole_ite (fun _ => (calm_snapAppeared s).whole whole) fun _ => whole
  split
  · exact whole_ite (fun _ => (calm_takeHead _ _ _).whole next_) fun _ => next_
  · exact next_

theorem State.Whole.onSnapPart (whole : s.Whole) : (s.onSnapPart own payload).Whole := by
  unfold State.onSnapPart
  dsimp only
  have next_ : (if (own.isUpkeep && s.isJoined) = true then s.snapAppeared else s).Whole :=
    whole_ite (fun _ => (calm_snapAppeared s).whole whole) fun _ => whole
  split
  · exact whole_ite (fun _ => (calm_takeSnapPart _ _ _).whole next_) fun _ => next_
  · exact next_

theorem State.Whole.onPresence (whole : s.Whole) : (s.onPresence a payload).Whole := by
  unfold State.onPresence
  refine whole_ite (fun _ => ?_) fun _ => whole
  split
  · exact whole_ite (fun _ => whole) fun _ => ((calm_applyPresence _ _ s).trans (calm_restartRounds _ _ _)).whole whole
  · exact whole

/-! ### The hand-off unit's kinds -/

theorem State.Whole.onBook (whole : s.Whole) : (s.onBook own a dest payload).Whole := by
  unfold State.onBook
  split
  · exact whole
  · next n _ =>
    have noted := (calm_bookAppeared own dest n s).whole whole
    exact whole_ite (fun _ => noted.takeBook _ _) fun _ => noted

theorem State.Whole.onBooked (whole : s.Whole) : (s.onBooked own a dest payload).Whole := by
  unfold State.onBooked
  split
  · exact whole
  · next tag p _ =>
    have noted : (if own.wanted = true then s.bookedAppeared dest tag else s).Whole :=
      whole_ite (fun _ => (calm_bookedAppeared dest tag s).whole whole) fun _ => whole
    exact whole_ite (fun _ => noted.takeBooked _ _ _) fun _ => noted

theorem State.Whole.onRefused (whole : s.Whole) : (s.onRefused a dest payload).Whole := by
  unfold State.onRefused
  split
  · exact whole_ite (fun _ => whole.takeRefused _ _) fun _ => whole
  · exact whole

theorem State.Whole.onFound (whole : s.Whole) : (s.onFound a dest payload).Whole := by
  unfold State.onFound
  split
  · exact whole_ite (fun _ => whole.found _ _) fun _ => whole
  · exact whole

theorem State.Whole.onCancel (whole : s.Whole) : (s.onCancel a dest payload).Whole := by
  unfold State.onCancel
  split
  · exact whole_ite (fun _ => (whole.cancelEntry _ _).cancelBooking _ _) fun _ => whole
  · exact whole

theorem State.Whole.onLocate (whole : s.Whole) : (s.onLocate own a payload).Whole := by
  unfold State.onLocate
  split
  · refine whole_ite (fun _ => whole_ite (fun _ => (calm_locateAppeared _ s).whole whole) fun _ => whole) fun _ => ?_
    exact (calm_of_store (store_answerLocate ..) (seqr_answerLocate ..) (bookings_answerLocate ..)).whole whole
  · exact whole

theorem State.Whole.onCarry (whole : s.Whole) : (s.onCarry own a dest payload).Whole := by
  unfold State.onCarry
  split
  · exact whole
  · next c _ =>
    have noted := (calm_carryAppeared own c.index s).whole whole
    exact whole_ite (fun _ => (calm_takeCarry _ _ _).whole noted) fun _ => noted

theorem State.Whole.onTaken (whole : s.Whole) : (s.onTaken a dest payload).Whole := by
  unfold State.onTaken
  split
  · exact whole
  · have received : (if s.isOwn a = true then s.receiveRecord { kind := .taken, dest := dest, payload := payload } else s).Whole :=
      whole_ite (fun _ => whole.receiveRecord _) fun _ => whole
    exact whole_ite (fun _ => received.handOver _ _) fun _ => received

theorem State.Whole.onReject (whole : s.Whole) : (s.onReject a dest payload).Whole := by
  unfold State.onReject
  split
  · exact whole
  · have closed : (if s.isOwn a = true then s.closeRejected { kind := .reject, dest := dest, payload := payload } else s).Whole :=
      whole_ite (fun _ => whole.closeRejected _) fun _ => whole
    exact whole_ite (fun _ => closed.rejected _ _ _) fun _ => closed

/-! ### The appearance -/

theorem calm_countAppeared (k : FrameKind) (a : Addr) (s : State) : s.Calm (s.countAppeared k a) :=
  calm_of_store (store_countAppeared ..) (seqr_countAppeared ..) (bookings_countAppeared ..)

theorem calm_takenSaved (own : OwnTx) (s : State) : s.Calm (s.takenSaved own) := by
  unfold State.takenSaved
  split
  · refine calm_entries fun b => ?_
    split
    · rfl
    · rfl
  · exact .refl s
  · exact .refl s

theorem State.Whole.appear (whole : s.Whole) {blocks : OwnTx → State → State}
    (keeps : ∀ (own : OwnTx) (s : State), s.Whole → (blocks own s).Whole) : (s.appear k a dest payload blocks).Whole := by
  unfold State.appear
  dsimp only
  generalize s.ownTx a _ = own
  have counted := (calm_countAppeared k a s).trans (calm_finishOwn own _)
  have noted (w : State) : w.Calm ((w.noteSender a).noteBar k payload) :=
    State.Calm.trans (calm_of_store (store_noteSender ..) (seqr_noteSender ..) (bookings_noteSender ..))
      (calm_of_store (store_noteBar ..) (seqr_noteBar ..) (bookings_noteBar ..))
  have heard := (counted.trans (noted _)).whole whole
  have told := (calm_tryServe _).whole (whole_ite (c := ((((s.countAppeared k a).finishOwn own).noteSender a).noteBar k payload).receives
    k a dest = true) (fun _ => keeps own _ heard) fun _ => heard)
  split
  · exact whole
  · exact (calm_finishOwn own s).whole whole
  · exact (counted.trans (calm_takenSaved own _)).whole whole
  all_goals exact told

theorem State.Whole.appearUndefined (whole : s.Whole) : (s.appearUndefined a).Whole :=
  (calm_of_store (store_appearUndefined ..) (seqr_appearUndefined ..) (bookings_appearUndefined ..)).whole whole

end

end Sys2Proof.Machine
end

section
/-! SUPPORT. A millisecond, and a power interruption, keep the records, slots and positions together (R34, R48, R161, R171 to
R173). -/

namespace Sys2Proof.Machine
open Host

section
variable {s t u : State} {h g : Handle} {r x : Record} {p q : PosIx} {a : Addr}

/-! ### Clocks that advance -/

theorem calm_advancePos (s : State) (p : PosIx) : s.Calm (s.advancePos p) := by
  unfold State.advancePos
  split
  · next r _ => cases state : r.state <;> exact calm_updPos rfl rfl rfl
  · exact .refl s

theorem key_advance (b : Booking) : b.advance.key = b.key := by
  unfold Booking.advance
  split <;> rfl

theorem calm_advance (s : State) : s.Calm s.advance := by
  have clocks := calm_foldl _ calm_advancePos positions s
  unfold State.advance
  generalize positions.foldl State.advancePos s = t at clocks ⊢
  have records := calm_map (f := Record.advance) (fun _ => alike_of_state rfl rfl rfl rfl) t
  have entries := calm_entries (s := { t with
    store := { t.store with slots := t.store.slots.map fun (x : Slot) => { x with state := x.state.mapRec Record.advance } } }) key_advance
  exact ((clocks.trans records).trans entries).trans (calm_of_store rfl rfl rfl)

/-! ### Expiries that fall due -/

/-- A timer that acts where it is due. -/
theorem State.Whole.due (whole : s.Whole) {c : Prop} [Decidable c] (fires : s.Whole → t.Whole) : (if c then t else s).Whole :=
  whole_ite (fun _ => fires whole) fun _ => whole

/-- The time limit of a dose step that falls due (R40). -/
def State.doseDue (s : State) (p : PosIx) : State :=
  match s.runningStep p with
  | some (_, _, e) =>
    match e.timeLimit with
    | some l => if l.toNat * 1000 ≤ (s.pos p).runClock then s.doseShort p else s
    | none => s
  | none => s

theorem firePos_eq (s : State) (p : PosIx) : s.firePos p =
    let t := State.doseDue
      (if 0 < (s.pos p).runClock ∧ (s.pos p).runClock % 1000 = 0 ∧ s.posIn p .running then s.runSecond p else s) p
    let w := if t.conf.items.lampSilence * 1000 ≤ (t.pos p).silenceClock then t.lampSilent p else t
    if 0 < (w.pos p).pauseClock ∧ (w.pos p).pauseClock % 1000 = 0 ∧ w.posIn p .paused then w.pauseSecond p else w := by
  rw [State.firePos]
  generalize (if 0 < (s.pos p).runClock ∧ (s.pos p).runClock % 1000 = 0 ∧ s.posIn p .running then s.runSecond p else s) = t
  have short : (match (match t.runningStep p with | some (_, _, e) => e.timeLimit | none => none) with
      | some l => if l.toNat * 1000 ≤ (t.pos p).runClock then t.doseShort p else t
      | none => t) = t.doseDue p := by
    unfold State.doseDue
    cases t.runningStep p with
    | none => rfl
    | some y => rfl
  rw [← short] <;> rfl

theorem State.Whole.doseDue (whole : s.Whole) (p : PosIx) : (s.doseDue p).Whole := by
  unfold State.doseDue
  split
  · split
    · exact whole.due State.Whole.doseShort
    · exact whole
  · exact whole

theorem State.Whole.firePos (whole : s.Whole) (p : PosIx) : (s.firePos p).Whole := by
  rw [firePos_eq]
  extract_lets t w
  have ran : t.Whole := State.Whole.doseDue (whole.due State.Whole.runSecond) p
  have silent : w.Whole := ran.due State.Whole.lampSilent
  exact silent.due State.Whole.pauseSecond

theorem State.Whole.fireRec (whole : s.Whole) (h : Handle) : (s.fireRec h).Whole := by
  unfold State.fireRec
  extract_lets due v w z
  have counted : v.Whole := whole.due State.Whole.gapSecond
  have answered : w.Whole := counted.due State.Whole.answerExpired
  have handed : z.Whole := answered.due State.Whole.handOffExpired
  exact handed.due State.Whole.locateExpired

theorem State.Whole.fireBooking (whole : s.Whole) (p : PosIx) : (s.fireBooking p).Whole := by
  unfold State.fireBooking
  extract_lets v
  have returned : v.Whole := whole.due State.Whole.partGapExpired
  exact returned.due State.Whole.bookingLapse

theorem State.Whole.fireDeparture (whole : s.Whole) (a : Addr) : (s.fireDeparture a).Whole :=
  whole.due (calm_departureExpired s a).whole

theorem State.Whole.fireLine (whole : s.Whole) : s.fireLine.Whole := by
  unfold State.fireLine
  extract_lets v w x y
  have waited : v.Whole := whole.due (calm_joinWaitExpired s).whole
  have gapped : w.Whole := waited.due (calm_snapGapExpired v).whole
  have backed : x.Whole := gapped.due (calm_backoffExpired w).whole
  have present : y.Whole := backed.due (calm_presenceExpired x).whole
  exact present.due State.Whole.takeStall

theorem State.Whole.tick (whole : s.Whole) : s.tick.Whole := by
  have active : ((addresses.foldl State.fireDeparture (positions.foldl State.fireBooking (handles.foldl State.fireRec
      (positions.foldl State.firePos s.advance)))).fireLine).Whole := by
    have moved := (calm_advance s).whole whole
    have positions_ := moved.foldl _ (fun _ p w => w.firePos p) positions
    have records := positions_.foldl _ (fun _ h w => w.fireRec h) handles
    have entries := records.foldl _ (fun _ p w => w.fireBooking p) positions
    exact (entries.foldl _ (fun _ a w => w.fireDeparture a) addresses).fireLine
  unfold State.tick
  split
  · exact whole
  · exact whole
  · have counted : ({ s with lbi := s.lbi.advance } : State).Whole :=
      (calm_of_store (s := s) (t := { s with lbi := s.lbi.advance }) rfl rfl rfl).whole whole
    exact counted.due State.Whole.takeStall
  all_goals exact active

/-! ### The power-fail warning and the retention write (R171, R172) -/

theorem calm_sendUpkeep (f : Frame) (s : State) : s.Calm (s.sendUpkeep f) :=
  calm_of_store (store_sendUpkeep ..) (seqr_sendUpkeep ..) (bookings_sendUpkeep ..)

theorem State.Whole.enterSaving (whole : s.Whole) : s.enterSaving.Whole := by
  have paused := whole.foldl State.pauseForPower (fun _ _ w => w.pauseForPower) positions
  have stopped := (((calm_clearTx _).trans (calm_dropClaims _)).whole paused).powerFailHandoff
  unfold State.enterSaving
  extract_lets v w
  have saved : w.Whole := ((calm_offLine .saving v).trans (calm_judgeSlots _)).whole stopped
  exact whole_ite (fun _ => (calm_sendUpkeep _ w).whole saved) fun _ => saved

theorem State.Whole.powerFail (whole : s.Whole) : s.powerFail.Whole := by
  have warned : s.Calm { s with pins := { s.pins with pfw := true } } := calm_of_store rfl rfl rfl
  exact (warned.whole whole).due State.Whole.enterSaving

theorem State.Whole.beginWrite (whole : s.Whole) : s.beginWrite.Whole := by
  have written : s.Calm { s with ret := { written := true, valid := false, writing := true, image := s.retentionImage } } :=
    calm_of_store rfl rfl rfl
  exact whole.due written.whole

theorem State.Whole.endWrite (whole : s.Whole) : s.endWrite.Whole := by
  unfold State.endWrite
  have marked : s.Calm { s with ret := { s.ret with valid := true, writing := false } } := calm_of_store rfl rfl rfl
  have silent (w : State) : w.Calm (w.setLine .dormant) := calm_of_store rfl rfl rfl
  exact whole.due ((marked.trans (calm_clearTx _)).trans (silent _)).whole

end

end Sys2Proof.Machine
end

section
/-! SUPPORT. A close restores records, slots and positions that fit together (R168, R175). -/

namespace Sys2Proof.Machine
open Host

/-- A record that a restore may leave in its slot (R175). -/
structure Record.Rests (r : Record) : Prop where
  stopped : r.state ≠ .running
  loose : r.state = .queued ∨ r.state = .uncertain → r.position = none
  few : r.deviations.length ≤ 4

/-- A station whose slots a restore fills: nothing is booked and nothing is in the arrival queue yet. -/
structure State.Refills (s : State) : Prop where
  slots : ∀ h, (s.slot h).state = .free ∨ ∃ r, (s.slot h).state = .inUse r ∧ r.Rests
  books : s.bookings = []
  rush : s.store.rushQueue = []
  ordinary : s.store.ordinaryQueue = []

/-- Position p of s is not booked, is linked exactly while it has a record, and its STEP_EN is low. -/
structure State.Reopened (s : State) (p : PosIx) : Prop where
  links : (s.pos p).link ≠ none ↔ (s.pos p).state = .assigned ∨ (s.pos p).state = .occupied
  unbooked : (s.pos p).state ≠ .booked
  low : (s.pos p).stepEn = false

/-- Slot h has a queued record that is not in the arrival queue yet. -/
def State.Awaits (s : State) (h : Handle) : Prop :=
  ∃ r, s.rec? h = some r ∧ s.Idles h none ∧ r.state = .queued ∧ r.position = none ∧ r.deviations.length ≤ 4

section
variable {s t u : State} {h g : Handle} {r x : Record} {p q : PosIx} {image : List Byte}

/-! ### The records (R175) -/

theorem rests_restore (few : r.deviations.length ≤ 4) : r.restore.Rests := by
  have more := length_deviate r .powerInterrupt r.accumulated few
  unfold Record.restore
  split
  · next queued => exact ⟨by simp [queued], fun _ => rfl, few⟩
  · exact ⟨nofun, fun _ => rfl, few⟩
  · next uncertain => exact ⟨by simp [uncertain], fun _ => rfl, few⟩
  · exact ⟨nofun, fun _ => rfl, few⟩
  · next finished => exact ⟨by simp [finished], by simp [finished], few⟩
  · next held => exact ⟨by simp [held], by simp [held], few⟩
  all_goals exact ⟨nofun, by simp, more⟩

theorem State.Refills.add {run : RestoreRun} (refills : run.state.Refills) (entry : Byte × List Byte) : (run.add entry).state.Refills := by
  unfold RestoreRun.add
  split
  · next h r _ reads =>
    split
    · have decodes : decodeImage entry.2 = some r := by
        split at reads
        · exact reads
        · cases reads
      refine ⟨fun g => ?_, refills.books, refills.rush, refills.ordinary⟩
      dsimp only
      rw [slot_setRec]
      split
      · exact .inr ⟨_, rfl, rests_restore (few_of_decodeImage decodes)⟩
      · exact refills.slots g
    · exact refills
  · exact refills

theorem refills_foldl {run : RestoreRun} (refills : run.state.Refills) (l : List (Byte × List Byte)) :
    (l.foldl RestoreRun.add run).state.Refills ∧ (l.foldl RestoreRun.add run).state.seqr = run.state.seqr := by
  induction l generalizing run with
  | nil => exact ⟨refills, rfl⟩
  | cons entry l ih =>
    obtain ⟨filled, seqr⟩ := ih (refills.add entry)
    refine ⟨filled, seqr.trans ?_⟩
    unfold RestoreRun.add
    split
    · split <;> rfl
    · rfl

/-! ### The positions -/

/-- A position restored is linked to a record that names it, or to none. -/
theorem restoredAt_blank (recs : Handle → Option Record) (p : PosIx) (stored : PosState × Option Handle) {y : Position}
    (empty : y.state = .empty) (loose : y.link = none) (low : y.stepEn = false) :
    ((restoredAt recs p stored y).link ≠ none ↔ (restoredAt recs p stored y).state = .assigned ∨ (restoredAt recs p stored y).state = .occupied)
      ∧ (restoredAt recs p stored y).state ≠ .booked ∧ (restoredAt recs p stored y).stepEn = false
      ∧ ∀ h, (restoredAt recs p stored y).link = some h → ∃ r, recs h = some r ∧ r.position = some p := by
  obtain ⟨st, link⟩ := stored
  have named (h : Handle) (names : linkNames recs p link = true) (same : link = some h) : ∃ r, recs h = some r ∧ r.position = some p := by
    subst same
    cases stands : recs h with
    | none => simp [linkNames, stands] at names
    | some r => exact ⟨r, rfl, by simpa [linkNames, stands] using names⟩
  have linked (names : linkNames recs p link = true) : link ≠ none := fun none => by simp [linkNames, none] at names
  cases st with
  | empty => simp [restoredAt, empty, loose, low]
  | booked => simp [restoredAt, empty, loose, low]
  | clearing => simp [restoredAt]
  | assigned =>
    rw [restoredAt_assigned]
    split
    · next names => exact ⟨⟨fun _ => .inl rfl, fun _ => linked names⟩, nofun, low, fun h => named h names⟩
    · simp [empty, loose, low]
  | occupied =>
    rw [restoredAt_occupied]
    split
    · next names => exact ⟨⟨fun _ => .inr rfl, fun _ => linked names⟩, nofun, low, fun h => named h names⟩
    · simp

/-! ### The links -/

theorem rests_cleaned (rests : r.Rests) : (s.cleaned h r).Rests :=
  ⟨rests.stopped, fun st => by rw [State.cleaned, rests.loose st]; rfl, rests.few⟩

theorem position_cleaned : (s.cleaned h r).position = some p ↔ r.position = some p ∧ (s.pos p).link = some h := by
  rw [State.cleaned]
  cases position : r.position with
  | none => simp
  | some q =>
    by_cases link : (s.pos q).link = some h
    · simp only [Option.bind_some, if_pos link]
      exact ⟨fun same => ⟨same, Option.some.inj same ▸ link⟩, And.left⟩
    · simp only [Option.bind_some, if_neg link]
      exact ⟨nofun, fun ⟨same, here⟩ => absurd (Option.some.inj same ▸ here) link⟩

/-- Slots filled and positions linked, before the arrival queue. -/
structure State.Refilled (s : State) : Prop where
  refills : s.Refills
  reopened : ∀ p, s.Reopened p
  named : ∀ p h, (s.pos p).link = some h ↔ ∃ r, s.rec? h = some r ∧ r.position = some p

theorem refilled_clean (refills : s.Refills) (reopened : ∀ p, s.Reopened p)
    (names : ∀ p h, (s.pos p).link = some h → ∃ r,
        s.rec? h = some r ∧ r.position = some p) : (handles.foldl State.cleanLink s).Refilled := by
  obtain ⟨slots, cleaned, states⟩ := cleanLink_all nodup_handles s
  rw [cleaned]
  have state (h : Handle) : slots[h].state = (s.slot h).state.mapRec (s.cleaned h) := (states h).trans (if_pos (mem_handles h))
  refine ⟨⟨fun h => ?_, refills.books, refills.rush, refills.ordinary⟩, fun p => ⟨(reopened p).links, (reopened p).unbooked,
      (reopened p).low⟩,
    fun p h => ?_⟩
  · refine (refills.slots h).imp (fun free => ?_) fun ⟨r, here, rests⟩ => ⟨s.cleaned h r, ?_, rests_cleaned rests⟩
    · exact (state h).trans (by rw [free]; rfl)
    · exact (state h).trans (by rw [here]; rfl)
  · have recs : ({ s with store := { s.store with slots := slots } } : State).rec? h = (s.rec? h).map (s.cleaned h) :=
      recOpt_map (t := { s with store := { s.store with slots := slots } }) (s.cleaned h) (state h)
    rw [recs]
    constructor
    · intro link
      obtain ⟨r, stands, position⟩ := names p h link
      exact ⟨s.cleaned h r, by rw [stands]; rfl, position_cleaned.mpr ⟨position, link⟩⟩
    · rintro ⟨y, here, position⟩
      obtain ⟨r, -, rfl⟩ := Option.map_eq_some_iff.mp here
      exact (position_cleaned.mp position).2

/-! ### The arrival queue -/

theorem framed_rebuild (filled : s.Refilled) : s.rebuildFreeList.Framed := by
  have list (h : Handle) : h ∈ s.rebuildFreeList.store.freeList ↔ (s.slot h).state = .free := by
    simp [State.rebuildFreeList, mem_handles]
  have unreserved (h : Handle) : (s.slot h).state ≠ .reserved := by
    obtain free | ⟨r, here, -⟩ := filled.refills.slots h
    · simp [free]
    · simp [here]
  have books : s.rebuildFreeList.bookings = [] := filled.refills.books
  refine ⟨⟨List.Nodup.filter (fun h => decide ((s.slot h).state = .free)) nodup_handles, list⟩, ⟨fun h => ?_, fun p => ?_, ?_, ?_,
      ?_⟩, ?_, ?_, fun p => (filled.reopened p).links,
    fun p _ => (filled.reopened p).low⟩
  · rw [books]
    exact ⟨fun st => absurd st (unreserved h), fun ⟨b, m, _⟩ => absurd m List.not_mem_nil⟩
  · rw [books]
    exact ⟨fun st => absurd st (filled.reopened p).unbooked, fun ⟨b, m, _⟩ => absurd m List.not_mem_nil⟩
  · rw [books]
    exact List.nodup_nil
  · rw [books]
    exact List.nodup_nil
  · rw [books]
    exact List.nodup_nil
  · exact filled.refills.rush ▸ List.nodup_nil
  · exact filled.refills.ordinary ▸ List.nodup_nil

theorem awaits_rebuild (filled : s.Refilled) (h : Handle) : s.rebuildFreeList.Seated h ∨ s.rebuildFreeList.Awaits h := by
  have rush : h ∉ s.rebuildFreeList.store.rushQueue := filled.refills.rush ▸ List.not_mem_nil
  have ordinary : h ∉ s.rebuildFreeList.store.ordinaryQueue := filled.refills.ordinary ▸ List.not_mem_nil
  cases here : s.rec? h with
  | none =>
    refine .inl (State.Vacant.seated ⟨rush, ordinary, fun p link => ?_⟩ here)
    obtain ⟨r, stands, -⟩ := (filled.named p h).mp link
    rw [here] at stands
    cases stands
  | some r =>
    have rests : r.Rests := by
      obtain free | ⟨x, there, rests⟩ := filled.refills.slots h
      · rw [State.rec?, free] at here
        cases here
      · rw [State.rec?, there] at here
        exact Option.some.inj here ▸ rests
    have idles : s.rebuildFreeList.Idles h r.position :=
      ⟨rush, ordinary, fun p => (filled.named p h).trans (exists_rec here), fun p _ => (filled.reopened p).low⟩
    by_cases queued : r.state = .queued
    · have position := rests.loose (.inl queued)
      exact .inr ⟨r, here, position ▸ idles, queued, position, rests.few⟩
    · exact .inl ((idles.holds queued rests.stopped (fun st => rests.loose (.inr st)) rests.few).seated here)

theorem State.Awaits.enqueue_other (awaits : s.Awaits g) (other : g ≠ h) (b : Bool) : (s.enqueue h b).Awaits g := by
  obtain ⟨r, stands, idles, queued⟩ := awaits
  have pos (q : PosIx) : (s.enqueue h b).pos q = s.pos q := pos_enqueue ..
  refine ⟨r, by cases b <;> exact stands, ⟨?_, ?_, fun q => by rw [pos]; exact idles.named q,
      fun q => by rw [pos]; exact idles.dark q⟩, queued⟩
  · simp [mem_rushQueue_enqueue, idles.rush, other]
  · simp [mem_ordinaryQueue_enqueue, idles.ordinary, other]

/-- One arrival restored: its slot is seated then, and what was stays so. -/
theorem restoreArrival_seats (framed : s.Framed) (all : ∀ g, s.Seated g ∨ s.Awaits g) (h : Handle) : (s.restoreArrival h).Framed
    ∧ (∀ g, (s.restoreArrival h).Seated g ∨ (s.restoreArrival h).Awaits g) ∧ (s.restoreArrival h).Seated h
    ∧ ∀ g, s.Seated g → (s.restoreArrival h).Seated g := by
  obtain seated | ⟨r, stands, idles, queued, position, few⟩ := all h
  · have same : s.restoreArrival h = s := restoreArrival_settled (l := [h]) fun g m queued => by
      obtain rfl := List.mem_singleton.mp m
      obtain ⟨r, stands, queued⟩ := recIn_elim queued
      have holds := seated.holds stands
      rw [State.arrivalQueue, List.mem_append, holds.rush, holds.ordinary]
      cases r.rush <;> simp [queued]
    rw [same]
    exact ⟨framed, all, seated, fun _ => id⟩
  · have away : h ∉ s.arrivalQueue := fun m => (List.mem_append.mp m).elim idles.rush idles.ordinary
    have enters : s.restoreArrival h = s.enqueue h r.rush := by
      rw [State.restoreArrival, stands]
      exact if_pos ⟨queued, away⟩
    have mine := seated_enqueue stands idles queued position few
    rw [enters]
    refine ⟨framed_enqueue framed idles.rush idles.ordinary _, fun g => ?_, mine, fun g seated => ?_⟩
    · by_cases same : g = h
      · exact .inl (same ▸ mine)
      · exact (all g).imp (fun seated => seated_enqueue_other seated same _) fun awaits => awaits.enqueue_other same _
    · by_cases same : g = h
      · exact same ▸ mine
      · exact seated_enqueue_other seated same _

theorem restoreArrival_all_seats {l : List Handle} (framed : s.Framed) (all : ∀ g, s.Seated g ∨ s.Awaits g) :
    (l.foldl State.restoreArrival s).Framed ∧ ∀ g, s.Seated g ∨ g ∈ l → (l.foldl State.restoreArrival s).Seated g := by
  induction l generalizing s with
  | nil => exact ⟨framed, fun g there => there.resolve_right List.not_mem_nil⟩
  | cons h l ih =>
    obtain ⟨framed', all', mine, keeps⟩ := restoreArrival_seats framed all h
    obtain ⟨framed'', seats⟩ := ih framed' all'
    refine ⟨framed'', fun g there => seats g ?_⟩
    obtain seated | m := there
    · exact .inl (keeps g seated)
    · obtain rfl | m := List.mem_cons.mp m
      · exact .inl mine
      · exact .inr m

theorem State.Refilled.requeued (filled : s.Refilled) (arrivals : List Handle) (seq : BitVec 16) :
    (s.rebuildFreeList.requeued arrivals seq).Whole := by
  obtain ⟨framed, seats⟩ := restoreArrival_all_seats (l := arrivals ++ handles) (framed_rebuild filled) (awaits_rebuild filled)
  have whole : ((arrivals ++ handles).foldl State.restoreArrival s.rebuildFreeList).Whole :=
    ⟨framed, fun h => seats h (.inr (List.mem_append_right _ (mem_handles h)))⟩
  refine State.Calm.whole ?_ whole
  rw [restoreArrival_all_shape]
  exact calm_of_states rfl rfl rfl rfl rfl rfl

/-! ### The close (R168) -/

/-- In CONFIG every slot is free and the queue empty. -/
theorem refills_of_config (whole : s.Whole) (books : s.bookings = []) (none : ∀ h, s.rec? h = none) : s.openPositions.Refills := by
  have away (h : Handle) : h ∉ s.arrivalQueue := fun m => by
    obtain ⟨r, stands, -⟩ := whole.recOpt_of_queued m
    rw [none h] at stands
    cases stands
  have queue := List.append_eq_nil_iff.mp (List.eq_nil_iff_forall_not_mem.mpr away)
  refine ⟨fun h => .inl ?_, books, queue.1, queue.2⟩
  show (s.slot h).state = .free
  cases state : (s.slot h).state with
  | free => rfl
  | inUse r =>
    have here := none h
    rw [State.rec?, state] at here
    cases here
  | reserved =>
    obtain ⟨b, m, -⟩ := (whole.1.booked.1 h).mp state
    rw [books] at m
    cases m

theorem pos_opened (s : State) (p : PosIx) : (s.openPositions.pos p).state = .empty ∧ (s.openPositions.pos p).link = none
    ∧ (s.openPositions.pos p).stepEn = false := by
  simp only [State.pos, State.openPositions, Fin.getElem_fin, Vector.getElem_ofFn]
  split
  · exact ⟨rfl, rfl, rfl⟩
  · exact ⟨rfl, rfl, rfl⟩

theorem whole_restoreRecords (refills : s.Refills)
    (blank : ∀ p, (s.pos p).state = .empty ∧ (s.pos p).link = none ∧ (s.pos p).stepEn = false) : s.restoreRecords.state.Whole := by
  have shape := restoreRecords_of (s := s) rfl rfl rfl rfl rfl rfl
  rw [shape]
  refine State.Refilled.requeued ?_ _ _
  obtain ⟨filled, seqr⟩ := refills_foldl (run := { state := s, held := [], count := 0 }) refills
    (storedRecords (imageByte s.ret.image 5).toNat (s.ret.image.drop (7 + 2 * s.conf.posCount + (imageByte s.ret.image 6).toNat)))
  generalize (storedRecords (imageByte s.ret.image 5).toNat (s.ret.image.drop (7 + 2 * s.conf.posCount
    + (imageByte s.ret.image 6).toNat))).foldl RestoreRun.add { state := s, held := [], count := 0 } = run at filled seqr ⊢
  have same (p : PosIx) : run.state.pos p = s.pos p := by rw [State.pos, State.pos, seqr]
  obtain ⟨places, reached, pos⟩ := restorePosition_all (image := s.ret.image) (l := s.livePositions)
    (nodup_positions.filter fun p : PosIx => decide (p.val < s.conf.posCount)) run.state
  rw [reached]
  have at_ (p : PosIx) := restoredAt_blank run.state.rec? p (storedPosition s.ret.image p) (y := run.state.pos p)
    (by rw [same]; exact (blank p).1) (by rw [same]; exact (blank p).2.1) (by rw [same]; exact (blank p).2.2)
  have open_ (p : PosIx) : ((places[p]).link ≠ none ↔ (places[p]).state = .assigned ∨ (places[p]).state = .occupied)
      ∧ (places[p]).state ≠ .booked ∧ (places[p]).stepEn = false
      ∧ ∀ h, (places[p]).link = some h → ∃ r, run.state.rec? h = some r ∧ r.position = some p := by
    rw [pos]
    split
    · exact at_ p
    · rw [same]
      obtain ⟨empty, loose, low⟩ := blank p
      simp [empty, loose, low]
  refine refilled_clean ⟨filled.slots, filled.books, filled.rush, filled.ordinary⟩ (fun p => ?_) fun p h => (open_ p).2.2.2 h
  exact ⟨(open_ p).1, (open_ p).2.1, (open_ p).2.2.1⟩

theorem calm_postRestoreHeld (s : State) (x : Handle × Nat) : s.Calm (s.postRestoreHeld x) := by
  unfold State.postRestoreHeld
  split
  · exact calm_post _ s
  · exact .refl s

theorem calm_postRestored (n : Nat) (s : State) : s.Calm (s.postRestored n) := calm_post _ s

theorem calm_invalidate (s : State) : s.Calm s.invalidate := calm_of_store rfl rfl rfl

/-- A station with no record is whole. -/
theorem whole_blank (whole : s.Whole) (books : s.bookings = []) (free : ∀ h, s.rec? h = none) : s.openPositions.Whole := by
  have refills := refills_of_config whole books free
  have away (p : PosIx) : (s.openPositions.pos p).link = none := (pos_opened s p).2.1
  refine ⟨⟨whole.1.free, ⟨fun h => ?_, fun p => ?_, ?_, ?_, ?_⟩, whole.1.rushOnce, whole.1.ordinaryOnce, fun p => ?_,
      fun p _ => ?_⟩, fun h =>
    State.Vacant.seated ⟨?_, ?_, fun p => ?_⟩ (show s.openPositions.rec? h = none from free h)⟩
  · exact whole.1.booked.1 h
  · rw [(pos_opened s p).1, refills.books]
    simp
  · exact whole.1.booked.2.2.1
  · exact whole.1.booked.2.2.2.1
  · exact whole.1.booked.2.2.2.2
  · rw [away, (pos_opened s p).1]
    simp
  · exact (pos_opened s p).2.2
  · exact ((whole.2 h).vacant (free h)).rush
  · exact ((whole.2 h).vacant (free h)).ordinary
  · rw [away]
    exact nofun

theorem State.Whole.restore (refills : s.Refills) (whole : s.Whole)
    (blank : ∀ p, (s.pos p).state = .empty ∧ (s.pos p).link = none ∧ (s.pos p).stepEn = false) : s.restore.2.2.Whole := by
  unfold State.restore
  split
  · exact (calm_postRestored 0 s).whole whole
  · exact (((calm_alarm _ s).trans (calm_invalidate _)).trans (calm_postRestored 0 _)).whole whole
  · exact (((calm_alarm _ s).trans (calm_invalidate _)).trans (calm_postRestored 0 _)).whole whole
  · have restored := whole_restoreRecords refills blank
    generalize s.restoreRecords = run at restored ⊢
    have told := calm_foldl _ calm_postRestoreHeld run.held run.state
    exact (((told.trans (calm_judgeSlots _)).trans (calm_postRestored run.count _)).trans (calm_invalidate _)).whole restored

theorem State.Whole.close (whole : s.Whole) (books : s.bookings = []) (free : ∀ h, s.rec? h = none) : s.close.Whole := by
  have restored := State.Whole.restore (refills_of_config whole books free) (whole_blank whole books free) (pos_opened s)
  rw [State.close]
  generalize s.openPositions.restore = out at restored ⊢
  obtain ⟨outcome, count, t⟩ := out
  have joining (w : State) : w.Calm (w.enterJoining .closed) :=
    calm_of_store (store_enterJoining ..) (seqr_enterJoining ..) (bookings_enterJoining ..)
  exact ((joining _).trans (calm_ok _ _ _ _)).whole restored.placement

theorem State.Whole.tryClose (whole : s.Whole) (books : s.bookings = []) (free : ∀ h, s.rec? h = none) : s.tryClose.Whole := by
  unfold State.tryClose
  refine whole_ite (fun _ => (calm_respond _ _ s).whole whole) fun _ => ?_
  split
  · exact (calm_respond _ _ s).whole whole
  · exact whole.close books free

end

end Sys2Proof.Machine
end

section
/-! SUPPORT. No command but a reset leads into CONFIG (R163, R168). -/

namespace Sys2Proof.Machine
open Host

/-- If t is in CONFIG, s is. -/
def State.Leads (s t : State) : Prop := t.mem.line = .config → s.mem.line = .config

section
variable {s t u : State} {h : Handle} {p : PosIx} {a : Addr} {k : FrameKind} {c : Cause} {f : BufferedFrame}
variable {dest : BitVec 5} {payload : List Byte} {own : OwnTx}

theorem State.Leads.refl (s : State) : s.Leads s := id

theorem State.Leads.trans (first : s.Leads t) (then_ : t.Leads u) : s.Leads u := first ∘ then_

theorem leads_of_line (line : t.mem.line = s.mem.line) : s.Leads t := fun config => line ▸ config

theorem leads_of_mem (mem : t.mem = s.mem) : s.Leads t := leads_of_line (by rw [mem])

theorem leads_of_other (other : t.mem.line ≠ .config) : s.Leads t := fun config => absurd config other

theorem leads_ite {c : Prop} [Decidable c] (yes : c → s.Leads t) (no : ¬c → s.Leads u) : s.Leads (if c then t else u) := by
  split
  · next on => exact yes on
  · next off => exact no off

theorem leads_foldl {α : Type} (f : State → α → State) (step : ∀ (s : State) y, s.Leads (f s y)) (l : List α) (s : State) :
    s.Leads (l.foldl f s) := by
  induction l generalizing s with
  | nil => exact .refl s
  | cons y l ih => exact (step s y).trans (ih (f s y))

/-! ### Joins (R104 to R109) -/

theorem line_rejoin (c : Cause) (s : State) : (s.rejoin c).mem.line = s.mem.line := by
  unfold State.rejoin
  split
  · simp [Membership.restartJoin]
  · rfl

theorem leads_rejoin (c : Cause) (s : State) : s.Leads (s.rejoin c) := leads_of_line (line_rejoin c s)

theorem leads_enterJoining (c : Cause) (s : State) : s.Leads (s.enterJoining c) :=
  leads_of_other (by simp [State.enterJoining])

theorem leads_bufferFrame (f : BufferedFrame) (s : State) : s.Leads (s.bufferFrame f) := by
  unfold State.bufferFrame
  refine leads_ite (fun _ => leads_ite (fun _ => leads_rejoin _ s) fun _ => ?_) fun _ => .refl s
  have buffered : s.Leads { s with mem := { s.mem with buffer := s.mem.buffer ++ [f] } } := leads_of_line rfl
  dsimp only
  split
  · exact leads_ite (fun _ => buffered.trans (leads_rejoin _ _)) fun _ => buffered
  all_goals exact buffered

theorem leads_completeJoin (c : Cause) (s : State) : t.Leads (s.completeJoin c) :=
  leads_of_other (by rw [mem_completeJoin, Membership.joinDone]; exact nofun)

theorem leads_finishSnapshot (n : SnapIn) (s : State) : s.Leads (s.finishSnapshot n) := leads_completeJoin _ _

theorem leads_firstStation (s : State) : s.Leads s.firstStation :=
  leads_completeJoin (t := s) .first s.firstStanding

theorem leads_enterMismatch (s : State) : s.Leads s.enterMismatch :=
  leads_of_other (by rw [mem_enterMismatch]; simp [Membership.offLine])

theorem leads_takeHead (a : Addr) (n : SnapHead) (s : State) : s.Leads (s.takeHead a n) := by
  unfold State.takeHead
  split
  · exact leads_ite (fun _ => leads_enterMismatch s) fun _ => leads_ite (fun _ => leads_rejoin _ s) fun _ => leads_of_line rfl
  · exact leads_rejoin _ s
  · exact .refl s

theorem leads_takeSnapPart (i : Nat) (content : List Byte) (s : State) : s.Leads (s.takeSnapPart i content) := by
  unfold State.takeSnapPart
  split
  · split
    · exact leads_ite (fun _ => leads_rejoin _ s) fun _ => leads_ite (fun _ => leads_finishSnapshot _ s) fun _ => leads_of_line rfl
    · exact .refl s
  · exact .refl s

/-! ### The loss of the line (R110 to R114) -/

theorem leads_detach (c : Cause) (s : State) : s.Leads (s.detach c) := by
  by_cases onLine : s.isOnLine = true
  · exact leads_of_other (by rw [mem_detach onLine]; simp [Membership.offLine])
  · rw [State.detach, if_neg onLine]
    exact .refl s

theorem leads_goOut (s : State) : s.Leads s.goOut := leads_of_other (by rw [mem_goOut]; simp [Membership.offLine])

/-! ### Transmissions and their ends -/

theorem leads_voidOwn (s : State) : s.Leads s.voidOwn := by
  unfold State.voidOwn
  have ended : s.Leads (s.setInTx .idle) := leads_of_line rfl
  split
  · exact .refl s
  · exact leads_of_line (by rw [State.orphanFailed]; split <;> simp [mem_takenFailed])
  · dsimp only
    split
    · exact ended
    · refine leads_ite (fun _ => leads_ite (fun _ => ?_) fun _ => ?_) fun _ => ?_
      · exact ended.trans (leads_of_line (line_dropFrame ..))
      · exact ended.trans (leads_of_line (line_updTx ..))
      · exact ended.trans (leads_of_line line_applyHeld)

theorem leads_takeVoid (a : Addr) (found : Bool) (s : State) : s.Leads (s.takeVoid a found) := by
  unfold State.takeVoid
  extract_lets mine t counted tx rx v w z
  have begun : s.Leads t := leads_ite (fun _ => leads_of_line (line_beginTx s)) fun _ => .refl s
  have ended : t.Leads v := leads_ite (fun _ => leads_ite (fun _ => leads_of_line rfl) fun _ => leads_voidOwn t) fun _ => .refl t
  have voided : v.Leads w := leads_ite (fun _ => leads_of_line (line_countVoid v)) fun _ => .refl v
  have detached : w.Leads z := by
    unfold z
    split
    · exact leads_detach _ w
    · exact .refl w
  exact ((begun.trans ended).trans (voided.trans detached)).trans (leads_of_line (line_tryServe z))

theorem leads_takeListenOnlyError (a : Addr) (s : State) : s.Leads (s.takeListenOnlyError a) := by
  unfold State.takeListenOnlyError
  refine leads_ite (fun _ => .refl s) fun _ => State.Leads.trans ?_ (leads_rejoin _ _)
  exact leads_ite (fun _ => leads_of_line line_loseArbitration) fun _ => .refl s

theorem leads_takeStall (s : State) : s.Leads s.takeStall := by
  unfold State.takeStall
  refine leads_ite (fun _ => leads_ite (fun _ => ?_) fun _ => leads_of_line (line_dropHead s)) fun _ => .refl s
  exact ((leads_of_line (line_alarm ..)).trans (leads_detach _ _)).trans (leads_of_line (line_tryServe _))

/-! ### Appearances -/

theorem leads_onReplicated (s : State) : s.Leads (s.onReplicated k a payload) := by
  unfold State.onReplicated
  dsimp only
  split
  · exact leads_of_line (line_takeReplicated ..)
  · exact leads_bufferFrame _ s
  all_goals exact .refl s

theorem line_dropPeerWork (a : Addr) (f : BufferedFrame) (s : State) : (s.dropPeerWork a f).mem.line = s.mem.line := by
  rw [State.dropPeerWork, mem_placement, line_judgeSlots, mem_departHandoff, line_takeReplicated]

theorem leads_departJoined (f : BufferedFrame) (s : State) : s.Leads (s.departJoined f) := by
  unfold State.departJoined
  split
  · exact leads_of_line (line_takeReplicated ..)
  · refine leads_ite (fun _ => ?_) fun _ => leads_of_line ?_
    · exact (leads_of_line (line_peerGone ..)).trans (leads_detach _ _)
    · dsimp only
      rw [line_dropPeerWork, line_leaveQueue, line_peerGone]
      split
      · rfl
      · exact line_withdrawTx ..

theorem leads_onDepart (s : State) : s.Leads (s.onDepart a payload) := by
  unfold State.onDepart
  dsimp only
  split
  · exact leads_departJoined _ s
  · exact leads_ite (fun _ => leads_detach _ s) fun _ => leads_bufferFrame _ s
  all_goals exact .refl s

theorem leads_onLeave (s : State) : s.Leads (s.onLeave a payload) := by
  unfold State.onLeave
  dsimp only
  split
  · refine leads_ite (fun _ => leads_of_line (line_takeReplicated ..)) fun _ => leads_ite (fun _ => leads_goOut s) fun _ => ?_
    exact leads_of_line (by rw [line_dropPeerWork, line_leaveQueue, line_peerGone])
  · exact leads_bufferFrame _ s
  all_goals exact .refl s

theorem leads_joinJoined (f : BufferedFrame) (s : State) : s.Leads (s.joinJoined f) := by
  unfold State.joinJoined
  split
  · exact leads_of_line (line_takeReplicated ..)
  · refine leads_ite (fun _ => leads_of_line (line_takeReplicated ..)) fun _ => ?_
    exact leads_of_line (by rw [line_judgeProvider, line_dropPeerWork, line_peerJoins])

theorem leads_onJoin (s : State) : s.Leads (s.onJoin a payload) := by
  unfold State.onJoin
  dsimp only
  split
  · exact leads_joinJoined _ s
  · refine leads_ite (fun _ => leads_ite (fun _ => ?_) fun _ => .refl s) fun _ => leads_bufferFrame _ s
    exact leads_of_line rfl
  all_goals exact .refl s

theorem leads_snapAppeared {b : Bool} (s : State) : s.Leads (if b then s.snapAppeared else s) :=
  leads_ite (fun _ => leads_of_line (line_snapAppeared s)) fun _ => .refl s

theorem leads_onSnapHead (s : State) : s.Leads (s.onSnapHead own a payload) := by
  unfold State.onSnapHead
  dsimp only
  have next_ := leads_snapAppeared (b := own.isUpkeep && s.isJoined) s
  split
  · exact leads_ite (fun _ => next_.trans (leads_takeHead _ _ _)) fun _ => next_
  · exact next_

theorem leads_onSnapPart (s : State) : s.Leads (s.onSnapPart own payload) := by
  unfold State.onSnapPart
  dsimp only
  have next_ := leads_snapAppeared (b := own.isUpkeep && s.isJoined) s
  split
  · exact leads_ite (fun _ => next_.trans (leads_takeSnapPart _ _ _)) fun _ => next_
  · exact next_

theorem leads_onCancel (s : State) : s.Leads (s.onCancel a dest payload) := by
  unfold State.onCancel
  split
  · refine leads_ite (fun _ => leads_of_line ?_) fun _ => .refl s
    rw [line_cancelBooking, mem_cancelEntry]
  · exact .refl s

theorem line_closeRejected (o : Frame) (s : State) : (s.closeRejected o).mem.line = s.mem.line := by
  unfold State.closeRejected
  split
  · rfl
  · rw [mem_placement, line_judgeSlots, mem_dropEntries]

theorem leads_onReject (s : State) : s.Leads (s.onReject a dest payload) := by
  unfold State.onReject
  split
  · exact .refl s
  · have closed : s.Leads (if s.isOwn a = true then s.closeRejected { kind := .reject, dest := dest, payload := payload } else s) :=
      leads_ite (fun _ => leads_of_line (line_closeRejected ..)) fun _ => .refl s
    exact leads_ite (fun _ => closed.trans (leads_of_line (line_rejected ..))) fun _ => closed

theorem leads_appear {blocks : OwnTx → State → State} (leads : ∀ (own : OwnTx) (s : State), s.Leads (blocks own s)) (s : State) :
    s.Leads (s.appear k a dest payload blocks) := by
  unfold State.appear
  dsimp only
  generalize s.ownTx a _ = own
  split
  · exact .refl s
  · exact leads_of_line (line_finishOwn ..)
  · next saving => exact leads_of_other (by rw [line_takenSaved, line_finishOwn, mem_countAppeared]; simp [saving])
  all_goals
    next line =>
    intro config
    rw [line_tryServe] at config
    have heard : s.Leads ((((s.countAppeared k a).finishOwn own).noteSender a).noteBar k payload) :=
      leads_of_line (by rw [line_noteBar, line_noteSender, line_finishOwn, mem_countAppeared])
    exact (heard.trans (leads_ite (fun _ => leads own _) fun _ => .refl _)) config

/-! ### Timers -/

theorem leads_bookingLapse (s : State) : s.Leads (s.bookingLapse p) := by
  unfold State.bookingLapse
  split
  · refine leads_ite (fun _ => leads_of_line ?_) fun _ => .refl s
    rw [mem_placement, line_post, line_judgeSlots, line_sendSlot, mem_dropEntries]
  · exact .refl s

theorem leads_joinWaitExpired (s : State) : s.Leads s.joinWaitExpired :=
  leads_ite (fun _ => leads_ite (fun _ => leads_rejoin _ s) fun _ => leads_firstStation s) fun _ => .refl s

theorem leads_snapGapExpired (s : State) : s.Leads s.snapGapExpired := by
  unfold State.snapGapExpired
  split
  · exact leads_rejoin _ s
  all_goals exact .refl s

theorem leads_backoffExpired (s : State) : s.Leads s.backoffExpired :=
  leads_ite (fun _ => leads_enterJoining _ s) fun _ => .refl s

theorem leads_fireBooking (s : State) (p : PosIx) : s.Leads (s.fireBooking p) := by
  unfold State.fireBooking
  extract_lets v
  have returned : s.Leads v := leads_ite (fun _ => leads_of_line (line_partGapExpired ..)) fun _ => .refl s
  exact leads_ite (fun _ => returned.trans (leads_bookingLapse v)) fun _ => returned

theorem leads_fireLine (s : State) : s.Leads s.fireLine := by
  unfold State.fireLine
  extract_lets v w x y
  have waited : s.Leads v := leads_ite (fun _ => leads_joinWaitExpired s) fun _ => .refl s
  have gapped : v.Leads w := leads_ite (fun _ => leads_snapGapExpired v) fun _ => .refl v
  have backed : w.Leads x := leads_ite (fun _ => leads_backoffExpired w) fun _ => .refl w
  have present : x.Leads y := leads_ite (fun _ => leads_of_line (line_presenceExpired x)) fun _ => .refl x
  have all := (waited.trans gapped).trans (backed.trans present)
  exact leads_ite (fun _ => all.trans (leads_takeStall y)) fun _ => all

/-- An idle millisecond does not lead into CONFIG. -/
theorem leads_tick (s : State) : s.Leads s.tick := by
  have active : s.Leads ((addresses.foldl State.fireDeparture (positions.foldl State.fireBooking (handles.foldl State.fireRec
      (positions.foldl State.firePos s.advance)))).fireLine) := by
    have moved : s.Leads s.advance := leads_of_line (by rw [mem_advance]; rfl)
    have positions_ := moved.trans (leads_foldl _ (fun s p => leads_of_line (line_firePos s p)) positions _)
    have records := positions_.trans (leads_foldl _ (fun s h => leads_of_line (line_fireRec s h)) handles _)
    have entries := records.trans (leads_foldl _ leads_fireBooking positions _)
    exact (entries.trans (leads_foldl _ (fun s a => leads_of_line (line_fireDeparture s a)) addresses _)).trans (leads_fireLine _)
  unfold State.tick
  split
  · exact .refl s
  · exact .refl s
  · have counted : s.Leads { s with lbi := s.lbi.advance } := leads_of_line rfl
    exact leads_ite (fun _ => counted.trans (leads_takeStall _)) fun _ => counted
  all_goals exact active

/-! ### Power -/

theorem line_enterSaving (s : State) : s.enterSaving.mem.line = .saving := by
  obtain ⟨seqr, slots, shape, -⟩ := enterSaving_spec s
  rw [shape]
  rfl

theorem leads_powerFail (s : State) : s.Leads s.powerFail := by
  have warned : s.Leads { s with pins := { s.pins with pfw := true } } := leads_of_line rfl
  exact leads_ite (fun _ => leads_of_other (by rw [line_enterSaving]; exact nofun)) fun _ => warned

theorem leads_endWrite (s : State) : s.Leads s.endWrite :=
  leads_ite (fun _ => leads_of_other (by simp)) fun _ => .refl s

end

end Sys2Proof.Machine
end

section
/-! SUPPORT. In CONFIG the edges, the timers and the line leave the station without records and bookings, and every command keeps
Sound (R73, R90, R163, R169). -/

namespace Sys2Proof.Machine
open Host

section
variable {s t u : State} {h : Handle} {p : PosIx} {a : Addr} {k : FrameKind} {c : Cause} {f : Frame} {e : TxEntry}
variable {dest : BitVec 5} {payload : List Byte}

/-! ### The end of a transmission in CONFIG -/

theorem isActive_config (config : s.mem.line = .config) : s.isActive = false := by simp [State.isActive, config]

theorem dropEntries_none (none : s.bookings = []) (cond : Booking → Bool) : s.dropEntries cond = s := by
  have slots : s.slotsLeft cond = [] := by simp [State.slotsLeft, State.leavesSlot, none]
  rw [dropEntries_eq, slots, none]
  cases s
  cases none
  rfl

theorem calm_takenFailed (config : s.mem.line = .config) (none : s.bookings = []) (f : Frame) : s.Calm (s.takenFailed f) := by
  unfold State.takenFailed
  rw [dropEntries_none none]
  dsimp only
  rw [if_neg (by rw [isActive_config ((line_judgeSlots s).trans config)]; decide)]
  exact calm_judgeSlots s

theorem calm_orphanFailed (config : s.mem.line = .config) (none : s.bookings = []) (f : Frame) : s.Calm (s.orphanFailed f) :=
  calm_ite (fun _ => (calm_setInTx .idle s).trans (calm_takenFailed (s := s.setInTx .idle) config none f)) fun _ => calm_setInTx .idle s

theorem calm_toldWithdrawn (config : s.mem.line = .config) (none : s.bookings = []) (e : TxEntry) : s.Calm (s.toldWithdrawn e) := by
  unfold State.toldWithdrawn
  split
  · exact calm_claimWithdrawn _ s
  · exact calm_ite (fun _ => calm_takenFailed config none _) fun _ => .refl s
  · exact calm_pumpSlot _ s
  · exact calm_pumpUpkeep s
  all_goals exact .refl s

theorem calm_applyHeld (config : s.mem.line = .config) (none : s.bookings = []) (e : TxEntry) : s.Calm (s.applyHeld e) := by
  unfold State.applyHeld
  split
  · exact .refl s
  · exact (calm_removeTx _ s).trans (calm_toldWithdrawn (s := s.removeTx e.origin) config none e)
  · exact calm_updTx _ _ s

theorem calm_loseArbitration (config : s.mem.line = .config) (none : s.bookings = []) : s.Calm s.loseArbitration := by
  unfold State.loseArbitration
  split
  · exact .refl s
  · exact calm_orphanFailed config none _
  · dsimp only
    split
    · exact (calm_setInTx .idle s).trans (calm_applyHeld (s := s.setInTx .idle) config none _)
    · exact calm_setInTx .idle s

theorem calm_voidOwn (config : s.mem.line = .config) (none : s.bookings = []) : s.Calm s.voidOwn := by
  have ended := calm_setInTx .idle s
  unfold State.voidOwn
  split
  · exact .refl s
  · exact calm_orphanFailed config none _
  · dsimp only
    split
    · exact ended
    · refine calm_ite (fun _ => calm_ite (fun _ => ?_) fun _ => ?_) fun _ => ?_
      · exact ended.trans (calm_dropFrame _ _)
      · exact ended.trans (calm_updTx _ _ _)
      · exact ended.trans (calm_applyHeld (s := s.setInTx .idle) config none _)

theorem line_voidOwn (s : State) : s.voidOwn.mem.line = s.mem.line := by
  unfold State.voidOwn
  split
  · rfl
  · rw [State.orphanFailed]
    split <;> simp [mem_takenFailed]
  · dsimp only
    split
    · rfl
    · split
      · split
        · exact line_dropFrame ..
        · exact line_updTx ..
      · exact line_applyHeld

theorem calm_takeVoid (config : s.mem.line = .config) (none : s.bookings = []) (a : Addr) (found : Bool) : s.Calm (s.takeVoid a found) := by
  unfold State.takeVoid
  extract_lets mine t counted tx rx v w z
  have begun : t = s := by
    have away : s.beginTx = s := by
      rw [State.beginTx, if_neg (by simp [State.drives, isActive_config config, config])]
    unfold t
    rw [away, ite_self]
  have lineV : v.mem.line = .config := by
    unfold v
    rw [begun]
    split
    · split
      · exact config
      · exact (line_voidOwn s).trans config
    · exact config
  have ended : s.Calm v := by
    unfold v
    rw [begun]
    exact calm_ite (fun _ => calm_ite (fun _ => calm_setInTx .idle s) fun _ => calm_voidOwn config none) fun _ => .refl s
  have voided : v.Calm w :=
    calm_ite (fun _ => calm_of_store (store_countVoid v) (seqr_countVoid v) (bookings_countVoid v)) fun _ => .refl v
  have lineW : w.mem.line = .config := by
    unfold w
    split
    · exact (line_countVoid v).trans lineV
    · exact lineV
  have detached : z = w := by
    have away (c : Cause) : w.detach c = w := by rw [State.detach, if_neg (by simp [State.isOnLine, lineW])]
    unfold z
    split
    · exact away _
    · rfl
  exact (ended.trans voided).trans (detached ▸ calm_tryServe z)

/-! ### Sound kept -/

/-- What keeps Sound: the station stays whole, comes into CONFIG from CONFIG alone, and stays as it is there. -/
theorem sound_quiet (sound : Sound s) (whole : s.Whole → t.Whole) (leads : s.Leads t)
    (quiet : s.mem.line = .config → s.bookings = [] → s.Calm t) : Sound t := by
  obtain ⟨was, config⟩ := sound_iff.mp sound
  refine sound_iff.mpr ⟨whole was, fun line => ?_⟩
  obtain ⟨books, free⟩ := config (leads line)
  have calm := quiet (leads line) books
  refine ⟨?_, fun h => calm.recOpt_none.mpr (free h)⟩
  have entries := calm.entries
  rw [books] at entries
  exact List.map_eq_nil_iff.mp entries

theorem sound_calm (sound : Sound s) (calm : s.Calm t) (leads : s.Leads t) : Sound t := sound_quiet sound calm.whole leads fun _ _ => calm

theorem sound_still (sound : Sound s) (whole : s.Whole → t.Whole) (leads : s.Leads t) (still : s.mem.line = .config → t = s) : Sound t :=
  sound_quiet sound whole leads fun config _ => still config ▸ .refl s

theorem sound_open (sound : Sound s) (whole : s.Whole → t.Whole) (leads : s.Leads t) (open_ : s.mem.line ≠ .config) : Sound t :=
  sound_quiet sound whole leads fun config => absurd config open_

theorem sound_respond (sound : Sound s) (st : Status) (data : BitVec 24) : Sound (s.respond st data) :=
  sound_calm sound (calm_respond st data s) (leads_of_line rfl)

theorem sound_deliver (sound : Sound s) : Sound s.deliver := sound_calm sound (calm_deliver s) (leads_of_line rfl)

/-- The judgement of a command keeps Sound where the command's own rule does (R182). -/
theorem sound_judge {inConfig : Bool} {low : Byte} {own : State → State} (sound : Sound s)
    (keeps : ∀ u : State, Sound u → (inConfig = false → u.mem.line ≠ .config) → Sound (own u)) : Sound (s.judge inConfig low own) := by
  have delivered := sound_deliver sound
  have answered (st : Status) (data : BitVec 24) : Sound (s.deliver.respond st data) := sound_respond delivered st data
  have line : s.deliver.mem.line = s.mem.line := rfl
  unfold State.judge
  dsimp only
  split
  · exact answered _ _
  · exact answered _ _
  · next config =>
    split
    · next taken => exact keeps _ delivered fun refused => absurd (taken.symm.trans refused) Bool.noConfusion
    · exact answered _ _
  all_goals
    next other =>
    exact keeps _ delivered fun _ => by
      rw [other]
      exact nofun

/-- A command outside CONFIG keeps Sound where it keeps the records, slots and positions together. -/
theorem sound_command {low : Byte} {own : State → State} (sound : Sound s) (whole : ∀ u : State, u.Whole → (own u).Whole)
    (leads : ∀ u : State, u.Leads (own u)) : Sound (s.judge false low own) :=
  sound_judge sound fun u was open_ => sound_open was (whole u) (leads u) (open_ rfl)

/-- A command whose own rule changes nothing that Sound reads. -/
theorem sound_reads {inConfig : Bool} {low : Byte} {own : State → State} (sound : Sound s) (calm : ∀ u : State, u.Calm (own u))
    (leads : ∀ u : State, u.Leads (own u)) : Sound (s.judge inConfig low own) :=
  sound_judge sound fun u was _ => sound_calm was (calm u) (leads u)

end

end Sys2Proof.Machine
end

section
/-! SUPPORT. Every command keeps Sound, and what Sound counts (R9 to R11, R22, R33, R146). -/

namespace Sys2Proof.Machine
open Host

section
variable {s t u : State} {h : Handle} {p : PosIx} {a : Addr} {k : FrameKind} {low : Byte} {dest : BitVec 5} {payload : List Byte}

/-! ### Commands on a record (R16, R62 to R70) -/

theorem sound_withRecord {code d0 : Byte} {own : Handle → Record → State → State} (sound : Sound s) (handle : Byte)
    (whole : ∀ (u : State) h r, u.Whole → u.rec? h = some r → (own h r u).Whole) (leads : ∀ (u : State) h r, u.Leads (own h r u)) :
    Sound (s.judge false low (State.withRecord code handle d0 own)) := by
  refine sound_command sound (fun u was => ?_) fun u => ?_
  · exact withRecord_cases State.Whole code handle d0 own u ((calm_respond _ _ u).whole was) ((calm_refuse _ _ u).whole was)
      fun h r stands => whole u h r was stands
  · exact withRecord_cases u.Leads code handle d0 own u (leads_of_line rfl) (leads_of_line rfl) fun h r _ => leads u h r

/-! ### Positions -/

theorem reads_config (config : s.mem.line = .config) (p : PosIx) : s.reads p = false := by
  simp [State.reads, isActive_config config]

theorem runningStep_config (config : s.mem.line = .config) (p : PosIx) : s.runningStep p = none :=
  runningStep_none (.inl (isActive_config config))

theorem pausedStep_config (config : s.mem.line = .config) (p : PosIx) : s.pausedStep p = none :=
  pausedStep_none (.inl (isActive_config config))

/-- An edge of an interlock input: its level, and what the position makes of it. -/
theorem sound_edge {edge : State → State} (sound : Sound s) (p : PosIx) (level : Bool) (whole : ∀ u : State, u.Whole → (edge u).Whole)
    (line : ∀ u : State, (edge u).mem.line = u.mem.line) :
    Sound (if (s.setIlk p level).reads p then edge ((s.setIlk p level).updPos p fun x => { x with interlock := level })
      else s.setIlk p level) := by
  have set : Sound (s.setIlk p level) := sound_calm sound (calm_of_store rfl rfl rfl) (leads_of_line rfl)
  generalize s.setIlk p level = u at set ⊢
  have edged : u.Calm (u.updPos p fun x => { x with interlock := level }) := calm_updPos rfl rfl rfl
  refine sound_still set (fun was => whole_ite (fun _ => whole _ (edged.whole was)) fun _ => was)
    (leads_ite (fun _ => leads_of_line (line _)) fun _ => .refl u) fun config => ?_
  rw [if_neg (by rw [reads_config config]; decide)]

/-- A second of a position's clock. -/
theorem sound_second {f : Position → Position} {second : State → State} {runs : Bool} (sound : Sound s) (p : PosIx)
    (clock : s.Calm (s.updPos p f)) (whole : ∀ u : State, u.Whole → (second u).Whole)
    (line : ∀ u : State, (second u).mem.line = u.mem.line) (idle : s.mem.line = .config → runs = false) :
    Sound (if runs then second (s.updPos p f) else s) :=
  sound_still sound (fun was => whole_ite (fun _ => whole _ (clock.whole was)) fun _ => was)
    (leads_ite (fun _ => leads_of_line (line _)) fun _ => .refl s) fun config => by rw [idle config]; rfl

/-! ### Appearances -/

theorem sound_appear {blocks : OwnTx → State → State} (sound : Sound s) (whole : ∀ (own : OwnTx) (u : State), u.Whole →
    (blocks own u).Whole)
    (leads : ∀ (own : OwnTx) (u : State), u.Leads (blocks own u)) : Sound (s.appear k a dest payload blocks) :=
  sound_still sound (fun was => was.appear whole) (leads_appear leads s) fun config => by
    unfold State.appear
    rw [config]

/-! ### The port's commands -/

theorem calm_stage (bs : List Byte) (s : State) : s.Calm (s.stage bs) := calm_of_store rfl rfl rfl

/-- CONFIG_CLOSE where the station is not in CONFIG, or in it (R167, R168). -/
theorem sound_configClose (sound : Sound s) : Sound (if s.mem.line = .config then s.tryClose else s.respond .closed 0) := by
  split
  · next config =>
    obtain ⟨whole, none⟩ := sound_iff.mp sound
    obtain ⟨books, free⟩ := none config
    have answered (st : Status) (data : BitVec 24) : Sound (s.respond st data) := sound_respond sound st data
    have closed : Sound s.close := by
      refine sound_iff.mpr ⟨whole.close books free, fun line => ?_⟩
      rw [State.close] at line
      exact absurd line (by simp [State.enterJoining])
    unfold State.tryClose
    split
    · exact answered _ _
    · split
      · exact answered _ _
      · exact closed
  · exact sound_respond sound _ _

theorem sound_exec_port {c : Instr} (port : c.isPort = true) (sound : Sound s) : ∃ t, exec c s = .next t ∧ Sound t := by
  cases c <;> first | exact absurd port Bool.false_ne_true | refine ⟨_, rfl, ?_⟩
  case portFrameShort => exact sound_calm sound (calm_of_store (s := s) rfl rfl rfl) (leads_of_line rfl)
  case portCrcError =>
    refine sound_calm sound (((calm_deliver s).trans ?_).trans (calm_respond _ _ _)) (leads_of_line ?_)
    · exact calm_of_store (store_countCrcError ..) (seqr_countCrcError ..) (bookings_countCrcError ..)
    · exact line_countCrcError s.deliver
  case unknownCommand => exact sound_reads sound (fun u => calm_respond _ _ u) fun u => leads_of_line rfl
  case nop => exact sound_reads sound .refl .refl
  case stageWrite index first second =>
    refine sound_reads sound (fun u => calm_ite (fun _ => ?_) fun _ => calm_respond _ _ u) fun u =>
      leads_ite (fun _ => leads_of_line rfl) fun _ => leads_of_line rfl
    exact calm_of_store (s := u) rfl rfl rfl
  case stageRead index =>
    exact sound_reads sound (fun u => calm_ite (fun _ => calm_ok _ _ _ u) fun _ => calm_respond _ _ u) fun u =>
      leads_ite (fun _ => leads_of_line rfl) fun _ => leads_of_line rfl
  case configWrite item value =>
    refine sound_reads sound (fun u => calm_ite (fun _ => ?_) fun _ => calm_respond _ _ u) fun u =>
      leads_ite (fun _ => leads_of_line (line_configWrite item value u)) fun _ => leads_of_line rfl
    exact calm_of_store (store_configWrite ..) (seqr_configWrite ..) (bookings_configWrite ..)
  case configClose => exact sound_judge sound fun u was _ => sound_configClose was
  case register => exact sound_command sound (fun _ => State.Whole.register) fun u => leads_of_mem (congrArg Prod.fst (lineSide_register u))
  case arrived position seq =>
    refine sound_command sound (fun u was => ?_) fun u => ?_
    · split
      · exact was.arrived seq
      · exact (calm_respond _ _ u).whole was
    · split
      · exact leads_of_line (line_arrived ..)
      · exact leads_of_line rfl
  case removed position =>
    refine sound_command sound (fun u was => ?_) fun u => ?_
    · split
      · exact was.removed
      · exact (calm_respond _ _ u).whole was
    · split
      · exact leads_of_mem (mem_removed ..)
      · exact leads_of_line rfl
  case hold handle =>
    exact sound_withRecord sound handle (fun _ _ _ was _ => was.holdRecord) fun u h r => leads_of_mem (mem_holdRecord h r u)
  case concession handle =>
    exact sound_withRecord sound handle (fun _ _ _ was stands => was.concede stands) fun u h r => leads_of_mem (mem_concede h r u)
  case scrap handle =>
    exact sound_withRecord sound handle (fun _ _ _ was stands => was.scrapRecord stands) fun u h r => leads_of_mem (mem_scrapRecord h r u)
  case adopt handle =>
    exact sound_withRecord sound handle (fun _ _ _ was stands => was.adopt stands) fun u h r => leads_of_line (line_adopt h r u)
  case rush handle =>
    exact sound_withRecord sound handle (fun _ _ _ was stands => was.rushRecord stands) fun u h r => leads_of_line (line_rushRecord h r u)
  case readRecord handle =>
    refine sound_withRecord sound handle (fun u h r was _ => ?_) fun u h r => leads_of_line rfl
    exact ((calm_stage _ u).trans (calm_ok _ _ _ _)).whole was
  case readPosition position =>
    refine sound_reads sound (fun u => ?_) fun u => ?_
    · split
      · exact (calm_stage _ u).trans (calm_ok _ _ _ _)
      · exact calm_respond _ _ u
    · split
      · exact leads_of_line rfl
      · exact leads_of_line rfl
  case readBudget budget =>
    refine sound_reads sound (fun u => ?_) fun u => ?_
    · split
      · exact calm_ite (fun _ => (calm_stage _ u).trans (calm_respond _ _ _)) fun _ => calm_refuse _ _ u
      · exact calm_respond _ _ u
    · split
      · exact leads_ite (fun _ => leads_of_line rfl) fun _ => leads_of_line rfl
      · exact leads_of_line rfl
  case readPeer address =>
    refine sound_reads sound (fun u => ?_) fun u => ?_
    · split
      · exact (calm_stage _ u).trans (calm_respond _ _ _)
      · exact calm_respond _ _ u
    · split
      · exact leads_of_line rfl
      · exact leads_of_line rfl
  case readStation part =>
    refine sound_reads sound (fun u => ?_) fun u => ?_
    · split
      · exact (calm_stage _ u).trans (calm_ok _ _ _ _)
      · exact calm_respond _ _ u
    · split
      · exact leads_of_line rfl
      · exact leads_of_line rfl
  case readEvent =>
    refine sound_reads sound (fun u => ?_) fun u => ?_
    · split
      · exact calm_of_store (s := u) rfl rfl rfl
      · exact calm_ok _ _ _ u
    · split
      · exact leads_of_line rfl
      · exact leads_of_line rfl
  case readAlarms => exact sound_reads sound (fun u => calm_of_store (s := u) rfl rfl rfl) fun u => leads_of_line rfl
  case capacity budget units =>
    refine sound_reads sound (fun u => ?_) fun u => ?_
    · split
      · refine calm_ite (fun _ => calm_respond _ _ u) fun _ => calm_ite (fun _ => ?_) fun _ => calm_refuse _ _ u
        exact State.Calm.trans (calm_of_store (store_queueOrReplace ..) (seqr_queueOrReplace ..) (bookings_queueOrReplace ..))
            (calm_ok _ _ _ _)
      · exact calm_respond _ _ u
    · split
      · exact leads_ite (fun _ => leads_of_line rfl) fun _ => leads_ite (fun _ => leads_of_line (line_queueOrReplace ..)) fun _ =>
          leads_of_line rfl
      · exact leads_of_line rfl
  case leave =>
    refine sound_reads sound (fun u => calm_ite (fun _ => calm_refuse _ _ u) fun _ => calm_ite (fun _ => calm_refuse _ _ u) fun _ =>
      calm_ite (fun _ => calm_refuse _ _ u) fun _ => ?_) fun u => leads_ite (fun _ => leads_of_line rfl) fun _ =>
        leads_ite (fun _ => leads_of_line rfl) fun _ => leads_ite (fun _ => leads_of_line rfl) fun _ => leads_of_line (line_sendLeave u)
    exact State.Calm.trans (calm_of_store (store_sendLeave u) (seqr_sendLeave u) (bookings_sendLeave u)) (calm_ok _ _ _ _)
  case join =>
    refine sound_reads sound (fun u => calm_ite (fun _ => ?_) fun _ => calm_refuse _ _ u) fun u =>
      leads_ite (fun _ => leads_enterJoining _ u) fun _ => leads_of_line rfl
    exact State.Calm.trans (calm_of_store (store_enterJoining ..) (seqr_enterJoining ..) (bookings_enterJoining ..)) (calm_ok _ _ _ _)

/-! ### The commands that are not the port's -/

theorem sound_exec_block {c : Instr} (block : c.isPort = false) (sound : Sound s) : ∃ t, exec c s = .next t ∧ Sound t := by
  cases c <;> first | exact absurd block.symm Bool.false_ne_true | refine ⟨_, rfl, ?_⟩
  case reset address role rate => exact (sound_congr (s := State.reset) rfl rfl rfl rfl).mpr boundedAtReset.2
  case powerFailWarning =>
    refine sound_quiet sound State.Whole.powerFail (leads_powerFail s) fun config _ => ?_
    have warned : s.Calm { s with pins := { s.pins with pfw := true } } := calm_of_store rfl rfl rfl
    refine calm_ite (fun active => ?_) fun _ => warned
    exact absurd ((isActive_config (s := { s with pins := { s.pins with pfw := true } }) config).symm.trans active) Bool.false_ne_true
  case pfwDeasserted => exact sound_calm sound (calm_of_store (s := s) rfl rfl rfl) (leads_of_line rfl)
  case retentionWrite =>
    refine sound_calm sound ?_ ?_
    · unfold State.beginWrite
      exact calm_ite (fun _ => calm_of_store (s := s) rfl rfl rfl) fun _ => .refl s
    · unfold State.beginWrite
      exact leads_ite (fun _ => leads_of_line rfl) fun _ => .refl s
  case retentionWriteEnd =>
    refine sound_still sound State.Whole.endWrite (leads_endWrite s) fun config => ?_
    rw [State.endWrite, if_neg (by simp [config])]
  case dosePulse p =>
    refine sound_still sound State.Whole.dosePulse (leads_of_line (line_dosePulse p s)) fun config => ?_
    simp only [State.dosePulse, runningStep_config config]
  case ilkOpen p => exact sound_edge sound p false (fun _ => State.Whole.pauseStep) fun u => line_pauseStep p u
  case ilkClose p => exact sound_edge sound p true (fun _ => State.Whole.resumeStep) fun u => line_resumeStep p u
  case runClockSecond p =>
    exact sound_second sound p (calm_updPos rfl rfl rfl) (fun _ => State.Whole.runSecond) (fun u => line_runSecond p u) fun config => by
      rw [runningStep_config config]
      rfl
  case pauseClockSecond p =>
    exact sound_second sound p (calm_updPos rfl rfl rfl) (fun _ => State.Whole.pauseSecond) (fun u => line_pauseSecond p u) fun config => by
      rw [pausedStep_config config]
      rfl
  case lampSilent p =>
    refine sound_still sound State.Whole.lampSilent (leads_of_line (line_lampSilent p s)) fun config => ?_
    simp only [State.lampSilent, runningStep_config config]
  case doseShort p =>
    refine sound_still sound State.Whole.doseShort (leads_of_line (line_doseShort p s)) fun config => ?_
    simp only [State.doseShort, runningStep_config config]
  case gapTimer h =>
    refine sound_still sound State.Whole.gapSecond (leads_of_line (line_gapSecond h s)) fun config => ?_
    simp only [State.gapSecond, isActive_config config]
    cases s.rec? h <;> rfl
  case stallTimer =>
    refine sound_still sound State.Whole.takeStall (leads_takeStall s) fun config => ?_
    rw [State.takeStall, if_neg (by simp [State.drives, isActive_config config, config])]
  case departureTimer a =>
    refine sound_calm sound (State.Calm.trans (calm_of_store (store_departureDue a s) (seqr_departureDue a s) (bookings_departureDue a s))
      (calm_departureExpired _ a)) (leads_of_line ?_)
    rw [line_departureExpired, line_departureDue]
  case presenceTimer => exact sound_calm sound (calm_presenceExpired s) (leads_of_line (line_presenceExpired s))
  case joinWait => exact sound_calm sound (calm_joinWaitExpired s) (leads_joinWaitExpired s)
  case snapshotPartGap => exact sound_calm sound (calm_snapGapExpired s) (leads_snapGapExpired s)
  case backingOff => exact sound_calm sound (calm_backoffExpired s) (leads_backoffExpired s)
  case answerTimer h =>
    refine sound_still sound State.Whole.answerExpired (leads_of_line (line_answerExpired h s)) fun config => ?_
    simp only [State.answerExpired, isActive_config config]
    cases s.rec? h <;> rfl
  case bookingLapse p =>
    refine sound_still sound State.Whole.bookingLapse (leads_bookingLapse s) fun config => ?_
    simp only [State.bookingLapse, isActive_config config]
    cases s.bookings.find? fun b => decide (b.position = p) && b.counting <;> rfl
  case partGap p =>
    refine sound_still sound State.Whole.partGapExpired (leads_of_line (line_partGapExpired p s)) fun config => ?_
    simp [State.partGapExpired, isActive_config config]
  case handOffTimer h =>
    refine sound_still sound State.Whole.handOffExpired (leads_of_line (line_handOffExpired h s)) fun config => ?_
    unfold State.handOffExpired
    split
    · rfl
    · split
      · rfl
      · exact if_neg (by simp [isActive_config config])
  case locateTimer h =>
    refine sound_still sound State.Whole.locateExpired (leads_of_line (line_locateExpired h s)) fun config => ?_
    simp only [State.locateExpired, isActive_config config]
    cases s.rec? h <;> rfl
  case transmissionStart => exact sound_calm sound (calm_beginTx s) (leads_of_line (line_beginTx s))
  case arbitrationLost =>
    refine sound_quiet sound (fun was => (calm_tryServe _).whole ((calm_beginTx s).whole was).loseArbitration)
      (leads_of_line (by rw [line_tryServe, line_loseArbitration, line_beginTx])) fun config none => ?_
    exact ((calm_beginTx s).trans (calm_loseArbitration ((line_beginTx s).trans config) ((bookings_beginTx s).trans none))).trans
      (calm_tryServe _)
  case frameVoid sender found =>
    exact sound_quiet sound (fun was => was.takeVoid sender found) (leads_takeVoid sender found s) fun config none =>
      calm_takeVoid config none sender found
  case frameErrorListenOnly sender =>
    refine sound_still sound (fun was => was.takeListenOnlyError sender) (leads_takeListenOnlyError sender s) fun config => ?_
    rw [State.takeListenOnlyError, if_pos (by simp [config])]
  case departAppears => exact sound_appear sound (fun _ _ => State.Whole.onDepart) fun _ => leads_onDepart
  case leaveAppears => exact sound_appear sound (fun _ _ => State.Whole.onLeave) fun _ => leads_onLeave
  case releaseAppears => exact sound_appear sound (fun _ _ => State.Whole.onReplicated) fun _ => leads_onReplicated
  case capacityAppears => exact sound_appear sound (fun _ _ => State.Whole.onReplicated) fun _ => leads_onReplicated
  case claimAppears => exact sound_appear sound (fun _ _ => State.Whole.onReplicated) fun _ => leads_onReplicated
  case takenAppears => exact sound_appear sound (fun _ _ => State.Whole.onTaken) fun _ _ => leads_of_line (line_onTaken ..)
  case rejectAppears => exact sound_appear sound (fun _ _ => State.Whole.onReject) fun _ => leads_onReject
  case bookedAppears => exact sound_appear sound (fun _ _ => State.Whole.onBooked) fun _ _ => leads_of_line (line_onBooked ..)
  case refusedAppears => exact sound_appear sound (fun _ _ => State.Whole.onRefused) fun _ _ => leads_of_line (line_onRefused ..)
  case foundAppears => exact sound_appear sound (fun _ _ => State.Whole.onFound) fun _ _ => leads_of_line (line_onFound ..)
  case bookAppears => exact sound_appear sound (fun _ _ => State.Whole.onBook) fun _ _ => leads_of_line (line_onBook ..)
  case cancelAppears => exact sound_appear sound (fun _ _ => State.Whole.onCancel) fun _ => leads_onCancel
  case locateAppears => exact sound_appear sound (fun _ _ => State.Whole.onLocate) fun _ _ => leads_of_line (line_onLocate ..)
  case carryAppears => exact sound_appear sound (fun _ _ => State.Whole.onCarry) fun _ _ => leads_of_line (line_onCarry ..)
  case joinAppears => exact sound_appear sound (fun _ _ => State.Whole.onJoin) fun _ => leads_onJoin
  case snapHeadAppears => exact sound_appear sound (fun _ _ => State.Whole.onSnapHead) fun _ => leads_onSnapHead
  case snapPartAppears => exact sound_appear sound (fun _ _ => State.Whole.onSnapPart) fun _ => leads_onSnapPart
  case presenceAppears => exact sound_appear sound (fun _ _ => State.Whole.onPresence) fun _ _ => leads_of_line (line_onPresence ..)
  case undefinedFrameAppears sender _ _ _ =>
    exact sound_calm sound (calm_of_store (store_appearUndefined ..) (seqr_appearUndefined ..) (bookings_appearUndefined ..))
      (leads_of_line (line_appearUndefined ..))

theorem sound_exec (c : Instr) (sound : Sound s) : ∃ t, exec c s = .next t ∧ Sound t := by
  cases port : c.isPort with
  | true => exact sound_exec_port port sound
  | false => exact sound_exec_block port sound

/-- A step, of a command or of an idle millisecond, keeps Sound. -/
theorem sound_step (sound : Sound s) (steps : step s = .next t) : Sound t := by
  rw [step] at steps
  split at steps
  · next c rest _ =>
    have queued : Sound { s with pending := rest } := (sound_congr (s := s) rfl rfl rfl rfl).mpr sound
    obtain ⟨u, runs, after⟩ := sound_exec c queued
    cases runs.symm.trans steps
    exact after
  · cases steps
    refine sound_still sound State.Whole.tick (leads_tick s) fun config => ?_
    rw [State.tick, config]

/-! ### What Sound counts -/

theorem length_of_once {l m : List Handle} (once : l.Nodup) (also : m.Nodup) (same : ∀ h, h ∈ l ↔ h ∈ m) : l.length = m.length :=
  ((List.perm_ext_iff_of_nodup once also).mpr same).length_eq

theorem length_freeList (framed : s.Framed) : s.store.freeList.length = (handles.filter fun h => (s.slot h).state = .free).length :=
  length_of_once framed.free.1 (nodup_handles.filter _) fun h => by simp [framed.free.2 h, mem_handles]

theorem length_bookings (framed : s.Framed) : s.bookings.length = (handles.filter fun h => (s.slot h).state = .reserved).length := by
  obtain ⟨slots, -, once, -⟩ := framed.booked
  rw [← List.length_map (fun b : Booking => b.slot)]
  exact length_of_once once (nodup_handles.filter _) fun h => by simp [slots h, mem_handles]

/-- Each slot is FREE, RESERVED or IN_USE. -/
theorem length_states (s : State) (l : List Handle) : (l.filter fun h => (s.slot h).state = .free).length
    + (l.filter fun h => (s.slot h).state = .reserved).length + (l.filter fun h => (s.rec? h).isSome).length = l.length := by
  induction l with
  | nil => rfl
  | cons h l ih =>
    simp only [List.filter_cons, List.length_cons, State.rec?] at ih ⊢
    cases (s.slot h).state <;> simp at ih ⊢ <;> omega

theorem nodup_arrivalQueue (whole : s.Whole) : s.arrivalQueue.Nodup := by
  refine List.nodup_append.mpr ⟨whole.1.rushOnce, whole.1.ordinaryOnce, fun g m h n same => ?_⟩
  subst same
  obtain ⟨r, stands, -⟩ := whole.recOpt_of_queued (List.mem_append_left _ m)
  have rush := ((whole.holds stands).rush.mp m).2
  rw [((whole.holds stands).ordinary.mp n).2] at rush
  cases rush

end

/-- Settles O5. -/
theorem soundKept : Obligations.SoundKept := by
  refine ⟨fun s t sound steps => sound_step sound steps, fun s sound => ?_⟩
  have whole := (sound_iff.mp sound).1
  refine ⟨?_, length_bookings whole.1, nodup_arrivalQueue whole⟩
  rw [length_freeList whole.1, length_states s handles]
  rfl

end Sys2Proof.Machine
end
